-- ==== Sys2Proof/Word.lean ====
section
/-!
DEFINITION. Sys2Proof/Word.lean: the word types and their plainest arithmetic (R19: registers are 32 bits wide).
-/
namespace Sys2Proof

/-- A register or one word of a block access (R19). -/
abbrev Word := BitVec 32

/-- A byte of memory, of an image or of a record. -/
abbrev Byte := BitVec 8

/-- A 40-bit half of a Hewer accumulator (R263). -/
abbrev Acc40 := BitVec 40

end Sys2Proof
end

