-- ==== Sys2Proof/Syntax.lean ====
section
/-!
DEFINITION. Sys2Proof/Syntax.lean: the commands that the part takes, one constructor for each row of
spec/opcode_table.json. A command carries what comes from outside with it: the element it concerns, the value written,
and what was measured or received. What the part holds itself is in the state.
-/
namespace Sys2Proof

/-- What causes a warm reset (R436): a write of RST_CTRL with its value, an H17 trap, a failed restore (R339). -/
inductive WarmCause where
  | rstCtrl (value : Word)
  | h17Trap
  | restore
  deriving DecidableEq, Repr

/-- The authentication tag of a request (R297): its 16 bytes, the first most significant; or, for a tag whose bytes are not given, whether it
verifies. -/
inductive ReqTag where
  | bytes (t : BitVec 128)
  | verdict (ok : Bool)
  deriving DecidableEq, Repr

/-- What every ZCP request carries in its header and around it (R296-R299): the port it arrives on, its SESSION and
SEQUENCE, its version, its tag (R297), and the SEQUENCEs of its session's requests that still execute when it arrives (R298, R299). -/
structure Req where
  port : Fin 2
  session : BitVec 64
  seq : BitVec 64
  major : BitVec 8
  minor : BitVec 8
  tag : ReqTag
  executing : List (BitVec 64)
  deriving DecidableEq, Repr


/-- SIG of AUTH (R302): its 96 bytes, r then s; or, for a signature whose bytes are not given, whether it verifies. -/
inductive ClientSig where
  | bytes (b : List (BitVec 8))
  | verdict (ok : Bool)
  deriving DecidableEq, Repr

/-- Outcome of one tone of a SEARCH dwell (R92): mode bit as in MODE_EN (0 L400, 1 L400P, 2 L200, 3 L200P), measured rate
against nominal in 1/64 ppm, height above the noise floor of its band in 1/16 dB, magnitude. -/
structure Tone where
  mode : Fin 4
  rate : Int
  above : Int
  mag : Nat
  deriving DecidableEq, Repr

/-- What a VERIFY window finds (R93, R143) in what no INNER_CODEWORD command of the window carried: the hard decisions of its
search, as periods of 128 level indices from a clock boundary on; in L200 and L200P the boundary from the markers (R150); inner
codewords decoded after the alignment, and of them the failed ones. -/
structure Verify where
  hard : List (List (Fin 4))
  bound : Option (BitVec 7 × Bool)
  words : Nat
  fails : Nat
  /-- in pattern mode (R208): bits and errors while SYNC held through the last 500 us; none when it did not hold -/
  pat : Option (Nat × Nat)
  deriving DecidableEq, Repr

/-- Sums over the symbols decided as one level (R131): how many, the sum of their samples, the sum of the squares. -/
structure LevelSum where
  n : Nat := 0
  sum : Int := 0
  sq : Nat := 0
  deriving DecidableEq, Repr

/-- Sums of a quality window (R131), in output units: squares of the expected values, squares of the errors, and those by level. -/
structure QualSum where
  t2 : Nat := 0
  e2 : Nat := 0
  levels : List LevelSum := []
  deriving DecidableEq, Repr

/-- An inner codeword as it reaches the decoder. `codes`: the ADC codes of the lane that arrived since the datapath's last command;
they pass the five stages of R105, and the oldest whole codeword is decoded. `soft`: the soft values of a codeword in bit order, as the
de-interleaver delivers them: 256 in L400 and L400P, 128 in L200 and L200P. -/
inductive InnerWord where
  | codes (c : List (BitVec 8))
  | soft (v : List (BitVec 6))
  deriving DecidableEq, Repr

/-- A marker of the carried PHY as a lane receives it (R151, R203): its phase and spacing in symbols, and its bits. -/
structure Marker where
  phase : Nat
  spacing : Nat
  bits : List Bool
  deriving DecidableEq, Repr

/-- What reaches a spectral tap (R235, R242): samples of its source up to the last one of a block, how far that block's stamp lies
behind device time, and the 2^-16 ns of its stamp. -/
structure TapIn where
  age : BitVec 64
  frac : BitVec 16
  input : List (BitVec 16)
  deriving DecidableEq, Repr

/-- What a block of a record carries beside the record's samples and settings (R241, R242): how far its stamp lies behind device time,
the 2^-16 ns of its stamp, the steering datapath's frequency at its sample 0, a change of datapath within it, saturated samples. -/
structure ObsIn where
  age : BitVec 64
  frac : BitVec 16
  freqOff : BitVec 16
  path : Bool
  sat : Bool
  deriving DecidableEq, Repr


/-- Where a pattern generator or checker sits (R206): a host lane, or the datapath of a line lane. -/
inductive PatAt where
  | host (h : Fin 256)
  | line (f : Fin 16) (d : Fin 9)
  deriving DecidableEq, Repr

/-- Where a host lane loses (R196): signal, CDR lock or marker lock. -/
inductive HostLoss where
  | signal
  | cdr
  | marker
  deriving DecidableEq, Repr

/-- A seam frame as it arrives (R212-R226): its 64 bits with frame bit 0 the most significant, the fail flag of R147, the candidate
phase; what this end sent since the last command beside what commands brought: seam frames on the lane, pairs of the port, and of these the
ones with which its backlog fell; and the frames that are lost if this frame ends an episode with UNAVAIL. -/
structure SeamIn where
  bits : BitVec 64
  flagged : Bool
  phase : Fin 64
  sent : Nat
  pairs : Nat
  drained : Nat
  lost : Nat
  deriving DecidableEq, Repr

/-- Where an outer codeword is checked (R153, R154, R205): a line lane's datapath, or a port's host side. -/
inductive OuterAt where
  | line (f : Fin 16) (d : Fin 9)
  | host (n : Fin 128)
  deriving DecidableEq, Repr

/-- An RS(544,514) codeword (R153, R213, R224), or from the host 5,440 bits of an unpaired G0 port's PMA lane (R200): its 544 symbols as
received, with 0 for one that is not given; the line lane of the
port whose share of the stream it is (host side); its pair (line side); the second of the pair; carried in a replay; the pair in which
the frame in progress at the pair's first bit began, when there is one; an Ethernet frame starts in the pair. -/
structure OuterIn where
  syms : List (BitVec 10)
  share : Fin 8
  pair : BitVec 12
  second : Bool
  replay : Bool
  frame : Option (BitVec 12)
  starts : Bool
  deriving DecidableEq, Repr

/-- The commands of the part: one constructor for each row of opcode_table.json, in the table's order. -/
inductive Instr where
  /-- POWER_ON (R436). VDD_AON rises through 0.3 V and PGOOD_IN then goes high with RESET_N high, which resets everything, the always-on domain included. -/
  | powerOn
  /-- RESET_N_LOW (R437). RESET_N falls; the device sends urgent frames, releases every ELS_REQ_N and holds its logic in reset, and a low time of at least 10 µs is a cold reset. -/
  | resetNLow
  /-- PGOOD_IN_LOW (R456). PGOOD_IN falls, which acts as RESET_N low; the cold reset follows when it rises again. -/
  | pgoodInLow
  /-- START_UP (R444). After power-on or cold reset, the device samples the straps, reads OTP, locks its PLLs, clears SRAM and starts the vault, the monitor ADC, DDR4 training and port A. -/
  | startUp (strap : BitVec 8) (vaultOk : Bool)
  /-- DDR_TRAINING_DONE (R410). DDR4 channel training ends within 40 ms; if any fitted channel fails, the device runs as though no channel were fitted. -/
  | ddrTrainingDone (pass : BitVec 4)
  /-- BOOT_LOAD (R66). The loader tries the valid flash slots in counter order, or as the BOOT strap selects, and falls back to the other slot or to the bare state. -/
  | bootLoad
  /-- PLAN_APPLY (R70). The loader applies a checked image's records in fixed order, writes REG_INIT and starts each present face toward OPT_CTRL.TARGET. -/
  | planApply
  /-- WARM_RESET (R439). RST_CTRL.WARM with the right KEY, an H17 trap or a failed restore resets the core and edge dies, keeps DDR4, Tally and always-on, and re-applies the plan. -/
  | warmReset (why : WarmCause)
  /-- FACE_RESET (R441). FACE_RST.FACE runs steps 3 to 7 of FACE_REPLAN on the running plan for one face, without checking an image. -/
  | faceReset (f : Fin 16)
  /-- DATAPATH_RESET (R442). FACE_RST.RX_DP or TX_DP returns the named datapaths to their reset values and clears their arrays and counters, with the effect on traffic that their role gives. -/
  | datapathReset (f : Fin 16) (rx : BitVec 9) (tx : BitVec 9)
  /-- CANARY_TRIP (R360). The junction passes 125 °C; THERMTRIP_N falls, light goes out, OTP and flash writes stop, the vault clears and every domain but always-on turns off. -/
  | canaryTrip
  /-- REFCLK_LOSS (R458). A reference clock goes out of limits or is absent for 10 µs; REFCLK_A loss walks faces to STANDBY and host lanes to stage 1, and REFCLK_B loss moves the chip PLLs to the crystal. -/
  | refclkLoss (b : Bool)
  /-- REFCLK_RESTORED (R458). A lost reference clock stays within limits for 1 ms; faces walk back toward their targets. -/
  | refclkRestored (b : Bool)
  /-- DIE_TO_DIE_FAULT (R33). A die-to-die link fault raises an event and brings down every face and host group on that edge die. -/
  | dieToDieFault (e : Fin 4)
  /-- VPP_OTP_APPLIED (R359). VPP_OK rises, and every pending volatile retirement is burned into a new sealing place. -/
  | vppOtpApplied
  /-- VPP_OTP_REMOVED (R456). VPP_OTP is removed; a burning record is left uncommitted and any OTP_BURN ends FAILED with DOMAIN_OFF. -/
  | vppOtpRemoved
  /-- OTP_RECORD_BURNED (R466). One OTP record or fuse finishes burning and verifying within 1 ms, and its commit word is burned. -/
  | otpRecordBurned
  /-- PLAN_LOAD (R69). OP_START PLAN_LOAD reads a slot or staging, checks the image, and applies it as the running plan. -/
  | planLoad (r : Req) (source : BitVec 8)
  /-- FACE_REPLAN (R73). OP_START FACE_REPLAN checks a complete image that differs only in one face's records, takes that face down, applies its records and restarts it. -/
  | faceReplan (r : Req) (face : BitVec 8) (source : BitVec 8)
  /-- FLASH_WRITE (R65). OP_START FLASH_WRITE erases, programs, verifies and commits one flash slot from the staging area. -/
  | flashWrite (r : Req) (slot : BitVec 8) (force : Bool)
  /-- PLAN_FLOOR_BURN (R53). OTP_BURN with target PLAN_FLOOR burns floor increment records up to the value requested. -/
  | planFloorBurn (r : Req) (value : BitVec 8)
  /-- LIMITS_BURN (R181). OTP_BURN with target LIMITS burns each present face's limit set as one record and then the LIMITS_LOCK fuse. -/
  | limitsBurn (r : Req)
  /-- KEY_WRITE (R51). OTP_BURN KEY_WRITE burns a key digest into the first unburned place of an owner key slot. -/
  | keyWrite (r : Req) (slot : BitVec 8) (digest : BitVec 384)
  /-- KEY_REVOKE (R51). OTP_BURN KEY_REVOKE burns the revoke fuse of an owner key slot. -/
  | keyRevoke (r : Req) (slot : BitVec 8)
  /-- CALIBRATE (R370). OP_START CALIBRATE queues one calibration item of the given KIND for each lane named. -/
  | calibrate (r : Req) (face : BitVec 8) (lanes : BitVec 16) (kind : BitVec 8)
  /-- ASSAY_RUN (R395). OP_START ASSAY_RUN queues rotation and BIST items for the named datapaths ahead of scheduled work. -/
  | assayRun (r : Req) (face : BitVec 8) (datapaths : BitVec 16)
  /-- SCRUB_FULL (R405). OP_START SCRUB_FULL queues one complete scrub pass over SRAM, DDR4 or both. -/
  | scrubFull (r : Req) (target : BitVec 8)
  /-- CAPTURE_DRAIN (R251). OP_START CAPTURE_DRAIN copies a FULL channel's record into the DDR4 capture archive as one entry. -/
  | captureDrain (r : Req) (channel : BitVec 8)
  /-- DDR_TEST (R414). OP_START DDR_TEST writes and checks every line of the named channels with the selected pattern. -/
  | ddrTest (r : Req) (channels : BitVec 8) (pattern : BitVec 8)
  /-- OPERATION_DEQUEUED (R313). A queued long operation's turn comes and it enters RUNNING, taking the staging claim where it needs one. -/
  | operationDequeued (h : BitVec 16)
  /-- OPERATION_SUSPENDED (R311). A SUSPENDING operation reaches its next safe suspend point and becomes SUSPENDED. -/
  | operationSuspended (h : BitVec 16) (progress : BitVec 16)
  /-- OPERATION_END (R311). A long operation's work completes, fails or is cancelled; it enters its terminal state and a NOTICE goes to the starting session. -/
  | operationEnd (h : BitVec 16) (same : Bool) (errs : List (Fin 4 × BitVec 32 × Fin 3 × BitVec 8))
  /-- HANDLE_EXPIRY (R313). A terminal handle that OP_STATUS has not read is freed 600 s after it ended. -/
  | handleExpiry (h : BitVec 16)
  /-- PLAN_STAGE_DATA (R68). A write to PLAN_STAGE_DATA claims the staging area if it is unclaimed, stores four image bytes at PTR and adds 4 to PTR. -/
  | planStageData (value : Word)
  /-- PLAN_STAGE_PTR (R68). A write to PLAN_STAGE_PTR.PTR claims the staging area if it is unclaimed and sets the staging offset. -/
  | planStagePtr (ptr : BitVec 24)
  /-- PLAN_STAGE_RELEASE (R68). A write of PLAN_STAGE_PTR.RELEASE ends a claim held by register writes. -/
  | planStageRelease
  /-- SIGNAL_DETECT (R91). Signal is present continuously for 10 µs in DETECT, and the lane enters SETTLE. -/
  | signalDetect (f : Fin 16) (p : Fin 9)
  /-- SETTLE_DONE (R91). The ADC power stays within ±0.5 dB of target for 500 ns, and the lane enters SEARCH. -/
  | settleDone (f : Fin 16) (p : Fin 9) (gain : BitVec 7)
  /-- SETTLE_LIMIT (R91). SETTLE reaches its 2 µs limit, and the lane enters SEARCH with AT_LIMIT showing the cause. -/
  | settleLimit (f : Fin 16) (p : Fin 9) (gain : BitVec 7)
  /-- SEARCH_DWELL (R92). A 20 µs SEARCH dwell ends; tones become ranked candidates, and after four empty dwells the lane returns to DETECT. -/
  | searchDwell (f : Fin 16) (p : Fin 9) (tones : List Tone)
  /-- RETUNE_DONE (R91). The lane PLL settles on the candidate's measured rate, and the lane enters CONVERGE. -/
  | retuneDone (f : Fin 16) (p : Fin 9)
  /-- RETUNE_LIMIT (R91). RETUNE passes its 100 µs limit, and the next candidate is tried. -/
  | retuneLimit (f : Fin 16) (p : Fin 9)
  /-- EQ_CONV_DONE (R118). A write of EQ_CONV.DONE in CONVERGE ends convergence and enters VERIFY. -/
  | eqConvDone (f : Fin 16) (d : Fin 9)
  /-- EQ_CONV_FAIL (R118). A write of EQ_CONV.FAIL in CONVERGE drops the candidate. -/
  | eqConvFail (f : Fin 16) (d : Fin 9)
  /-- CONVERGE_LIMIT (R91). CONVERGE passes its 4 ms limit, and the next candidate is tried. -/
  | convergeLimit (f : Fin 16) (p : Fin 9)
  /-- VERIFY_WINDOW (R93). A 1 ms VERIFY window ends; the lock test passes into LOCKED or counts a false lock and moves to the next candidate. -/
  | verifyWindow (f : Fin 16) (p : Fin 9) (v : Verify)
  /-- ACQ_TIMEOUT (R95). The lane has not locked 50 ms after entering DETECT; LANE_EVENTS.ACQ_TIMEOUT is set and the search goes on. -/
  | acqTimeout (f : Fin 16) (p : Fin 9)
  /-- RELOCK_RESTART_END (R91). In RELOCK, timing recovery holds neither loop limit, and the single 1 ms VERIFY window starts. -/
  | relockRestartEnd (f : Fin 16) (p : Fin 9)
  /-- RELOCK_LIMIT (R91). RELOCK's restart does not end within 200 µs, or its window fails, and the lane enters SETTLE. -/
  | relockLimit (f : Fin 16) (p : Fin 9)
  /-- POWER_BLOCK (R87). A 1 µs power-detector block ends; P_NOW updates and, in LOCKED, the power-step comparison runs. -/
  | powerBlock (f : Fin 16) (p : Fin 9) (sumSq : Nat) (n : Nat) (gain : BitVec 7)
  /-- LOS (R99). P_IN stays below −37.0 dB for 2 µs, and a LOCKED lane loses lock into DETECT. -/
  | los (f : Fin 16) (p : Fin 9)
  /-- CLIP_WINDOW (R101). A 100 µs clip window ends; a clipped fraction above 1/8192 is a loss with cause CLIP. -/
  | clipWindow (f : Fin 16) (p : Fin 9) (clipped : Nat) (samples : Nat)
  /-- DEC_FAIL (R99). More than 5 in 100 of 4,096 consecutive inner codewords fail, and the lane loses lock into RELOCK or SETTLE. -/
  | decFail (f : Fin 16) (p : Fin 9)
  /-- AM_LOSS (R152). Three consecutive alignment markers miss their predicted positions; AM_LOCK falls and the lane loses lock. -/
  | amLoss (f : Fin 16) (p : Fin 9)
  /-- TIMING_LOSS (R121). The integrator stays at ±400 ppm for 10 µs or the interpolator at ±0.5 UI for 1 µs, and the lane loses lock with cause TIMING. -/
  | timingLoss (f : Fin 16) (p : Fin 9) (interp : Bool) (freq : BitVec 16) (phase : BitVec 8)
  /-- RESTART (R99). A write of LANE_ACQ_CTRL.RESTART is a loss with cause RESTART, and the lane enters DETECT. -/
  | restart (f : Fin 16) (p : Fin 9)
  /-- MODE_EN (R98). A write of LANE_ACQ_CTRL.MODE_EN changes the searched modes; removing a locked mode is a loss with cause MODE_CHANGE. -/
  | modeEn (f : Fin 16) (p : Fin 9) (value : Word)
  /-- HANDOVER_COMPARE_DONE (R83). The 2^16-sample comparison of a relief-slice handover ends; selection switches on a pass, or the handover ends on a failure. -/
  | handoverCompareDone (f : Fin 16) (p : Fin 9) (mean : Int) (rms : Int)
  /-- COEFFICIENT_BANK_WRITE (R111). A write to a coefficient bank or detector table lands in the shadow, or is discarded with BUSY when the target is active or a swap is pending. -/
  | coefficientBankWrite (f : Fin 16) (d : Fin 9) (table : Bool) (b : Fin 2) (k : Fin 258) (value : Word)
  /-- SWAP_EQ (R113). A write of EQ_BANK_CTRL.SWAP_EQ requests a coefficient-bank swap, or sets SWAP_OVERRUN when one is pending. -/
  | swapEq (f : Fin 16) (d : Fin 9)
  /-- SWAP_MLSE (R113). A write of EQ_BANK_CTRL.SWAP_MLSE requests a detector-table swap, or sets SWAP_OVERRUN when one is pending. -/
  | swapMlse (f : Fin 16) (d : Fin 9)
  /-- SWAP_APPLY (R113). A requested swap takes effect at the next block boundary; the ACTIVE bit toggles and SWAP_COUNT increments. -/
  | swapApply (f : Fin 16) (d : Fin 9)
  /-- BANK_UE (R115). An uncorrectable word in the active bank zeros that bin until the next swap, sets UE and notifies the face Hewer. -/
  | bankUe (f : Fin 16) (d : Fin 9) (bin : Fin 258)
  /-- GRADIENT_LATCH (R117). An accumulation of 2^LOG2_BLOCKS blocks ends, and the gradient is latched with READY set, or discarded with OVERRUN. -/
  | gradientLatch (f : Fin 16) (d : Fin 9)
  /-- GRADIENT_RELEASE (R117). A write of 1 to GRAD_CTRL.READY releases the gradient buffer. -/
  | gradientRelease (f : Fin 16) (d : Fin 9)
  /-- EQ_EXP_RANGE_RESTART (R110). A write of EQ_EXP_RANGE.RESTART resets the exponent extremes and starts a new range. -/
  | eqExpRangeRestart (f : Fin 16) (d : Fin 9)
  /-- LANE_EFFORT_CAP (R129). A write of LANE_EFFORT.CAP bounds Foreman's choice, and requests a change when CAP lies below the current level. -/
  | laneEffortCap (f : Fin 16) (p : Fin 9) (cap : Fin 4)
  /-- EFFORT_SWITCH (R129). A pending effort change switches the detector, Chase setting and frozen bins at the next block boundary. -/
  | effortSwitch (f : Fin 16) (p : Fin 9)
  /-- QUALITY_WINDOW (R131). A 2^20-symbol window ends, and SNR_DET, the margins and the level statistics update. -/
  | qualityWindow (f : Fin 16) (d : Fin 9) (q : QualSum)
  /-- INNER_CODEWORD (R146). An inner codeword is Chase-decoded, or fails, and the coding counters count it. -/
  | innerCodeword (f : Fin 16) (d : Fin 9) (word : InnerWord)
  /-- OUTER_CODEWORD (R153). The outer stage monitors or corrects one RS(544,514) codeword and counts it in the outer histogram. -/
  | outerCodeword (at_ : OuterAt) (w : OuterIn)
  /-- ALIGNMENT_MARKER (R152). An alignment marker is found or missed at its position, which builds or holds AM lock. -/
  | alignmentMarker (f : Fin 16) (p : Fin 9) (errors : Nat) (inverted : Bool) (m : Marker)
  /-- CNT_CTRL_CLEAR (R157). A write of CNT_CTRL.CLEAR clears every coding counter of the datapath. -/
  | cntCtrlClear (f : Fin 16) (d : Fin 9)
  /-- COUNTER_WRAP (R157). A 48-bit coding counter wraps modulo 2^48 and sets CODE_STATUS.WRAPPED. -/
  | counterWrap (f : Fin 16) (d : Fin 9) (c : Fin 29)
  /-- TXD_APPLY (R165). A write of TXD_CTRL.APPLY requests that the pending shaping set go into use. -/
  | txdApply (f : Fin 16) (d : Fin 9)
  /-- SHAPING_SET_APPLIED (R165). The pending set goes into use at the first symbol of the next inner codeword period, and APPLY_COUNT increments. -/
  | shapingSetApplied (f : Fin 16) (d : Fin 9) (syms : List (Fin 4))
  /-- OPT_TARGET (R171). A write of OPT_CTRL.TARGET sets the face's target state; a downward target takes effect at once. -/
  | optTarget (f : Fin 16) (target : Fin 8)
  /-- SLEEP_TO_STANDBY (R170). The face powers its lane analog and datapath domains, starts its reference clock and reaches STANDBY after 2.0 ms. -/
  | sleepToStandby (f : Fin 16)
  /-- STANDBY_TO_SYNTH (R170). The face PLLs lock, PLL_LOCK rises and the face enters SYNTH. -/
  | standbyToSynth (f : Fin 16)
  /-- SYNTH_TO_RECEIVE (R170). 20 µs after confirmed lock, the device writes TIA_GAIN and POWER_STATE = 2, starts the ADCs and enters RECEIVE. -/
  | synthToReceive (f : Fin 16)
  /-- RAMP_STEP (R184). A 250 µs ramp step ends with every emitting lane checked, and laser bias moves to the next eighth, reaching DUPLEX after step 8. -/
  | rampStep (f : Fin 16) (lane : Option (Fin 9))
  /-- TARGET_LOCK_TIMEOUT (R172). Face PLL lock is not confirmed within 1.2 ms of a pending target; RESULT reads TIMEOUT and TARGET becomes SYNTH. -/
  | targetLockTimeout (f : Fin 16)
  /-- EYE_SAFETY_CHECK (R182). A lane's monitor photodiode is selected, settled and converted as an urgent request, and the reading is stored as MPD_PWR. -/
  | eyeSafetyCheck (f : Fin 16) (p : Fin 9) (raw : BitVec 12)
  /-- EYE_CHECK_STALE (R183). An emitting lane's last check becomes older than 3 ms, which is an eye trip with cause 3. -/
  | eyeCheckStale (f : Fin 16) (p : Fin 9)
  /-- SIDEBAND_EXCHANGE (R173). A command frame is sent and its reply received; a failed exchange is resent, and a fourth failure in a row sets FSB_FAULT and takes the face to SLEEP. -/
  | sidebandExchange (f : Fin 16) (reply : Option (BitVec 33))
  /-- ENGINE_STATUS_POLL (R176). At least every 50 µs above SLEEP, the device reads ENGINE_STATUS and acts on its fault and watchdog bits. -/
  | engineStatusPoll (f : Fin 16) (reply : Option (BitVec 33))
  /-- OPT_LANE_A_WRITE (R468). A write to OPT_LANE_A is checked against the limits in force and sent to the engine at the next point that sends that register. -/
  | optLaneAWrite (f : Fin 16) (p : Fin 9) (value : Word)
  /-- OPT_LIM_WRITE (R179). A write to OPT_LIM_A or OPT_LIM_B sets limits before LIMITS_LOCK and completes with LIMIT after it. -/
  | optLimWrite (f : Fin 16) (b : Bool) (value : Word)
  /-- ELS_GRANT (R185). ELS_GNT_N[b] stays low for 10 µs; the grant is confirmed and waiting faces of the bank start their ramps. -/
  | elsGrant (b : Fin 4)
  /-- ELS_GRANT_TIMEOUT (R186). No grant is confirmed within GRANT_TIMEOUT; waiting faces take TIMEOUT and target RECEIVE, and the request is released. -/
  | elsGrantTimeout (b : Fin 4)
  /-- ELS_GRANT_LOST (R186). The grant goes high while a bank face is in DUPLEX or ramping; that face moves to RECEIVE and ELS_LOST is set. -/
  | elsGrantLost (b : Fin 4)
  /-- ELS_RELEASE (R185). 20 µs after the last face of the bank leaves DUPLEX with no DUPLEX target left, ELS_REQ_N[b] is released. -/
  | elsRelease (b : Fin 4)
  /-- HOST_SIGNAL_DETECT (R191). A host lane's amplitude stays above 60 mVppd for 10 µs, and the lane moves to CDR lock. -/
  | hostSignalDetect (h : Fin 256)
  /-- CDR_LOCK (R191). The host lane's CDR locks, and polarity detection starts. -/
  | cdrLock (h : Fin 256)
  /-- POLARITY (R192). The host lane finds its polarity from the training marker or the alignment markers and corrects it. -/
  | polarity (h : Fin 256) (inverted : Bool)
  /-- LINK_TRAINING_DONE (R193). C2C link training completes in both directions, and the lane moves to marker lock. -/
  | linkTrainingDone (h : Fin 256) (taps : Int × Int × Int)
  /-- HOST_MARKER_LOCK (R194). Two consecutive markers are found on every PCS lane that the host lane carries. -/
  | hostMarkerLock (h : Fin 256) (pcs : List (BitVec 8)) (m : Marker)
  /-- DESKEW (R195). At a marker group, skew is measured and the port's lanes are aligned, or stages 6 and 7 repeat when skew exceeds 180 ns. -/
  | deskew (n : Fin 128) (skews : List (BitVec 16))
  /-- HOST_STAGE_TIMEOUT (R191). A host bring-up stage passes its limit; the HL_EVENTS bit is set and the lane returns to stage 1. -/
  | hostStageTimeout (h : Fin 256)
  /-- HOST_LANE_LOSS (R196). A ready host lane loses signal, CDR lock or marker lock; the port's host side goes down and fill goes toward the line. -/
  | hostLaneLoss (h : Fin 256) (why : HostLoss)
  /-- HL_RESTART (R191). A write of HL_CTRL.RESTART returns the host lane to stage 1. -/
  | hlRestart (h : Fin 256)
  /-- ADMIN_UP (R202). A write of PORT_CTRL.ADMIN_UP takes the port up or forces fill in both directions. -/
  | adminUp (n : Fin 128) (up : Bool)
  /-- PORT_RESTART (R191). A write of PORT_CTRL.RESTART returns every host lane of the port to stage 1. -/
  | portRestart (n : Fin 128)
  /-- PORT_COUNTER_CLEAR (R205). A write of PORT_CTRL.CLEAR clears HOST_CW, HOST_UE and HOST_SYM. -/
  | portCounterClear (n : Fin 128)
  /-- GEN_EN (R209). Enabling a pattern generator or checker on a lane takes the port down with FAIL = PRBS, and disabling the last one brings the port back through bring-up. -/
  | genEn (at_ : PatAt) (chk : Bool) (en : Bool)
  /-- INJECT (R207). A write of PRBS_CTRL.INJECT inverts the more significant bit of one generated symbol. -/
  | inject (at_ : PatAt)
  /-- PRBS_CLEAR (R207). A write of PRBS_CTRL.CLEAR clears BITS and ERRS. -/
  | prbsClear (at_ : PatAt)
  /-- PRBS_SYNC (R207). The checker matches 256 consecutive bits and reads SYNC = 1. -/
  | prbsSync (at_ : PatAt) (syms : List (Fin 4))
  /-- PRBS_SYNC_LOSS (R207). More than 64 bits in 1,024 are in error; the checker reloads and RESYNCS increments. -/
  | prbsSyncLoss (at_ : PatAt) (syms : List (Fin 4))
  /-- SEAM_FRAME (R214). A seam frame is received whole and acted on by TYPE (DATA, TRAIN or SEAL), or discarded and counted in FRAME_ERRS. -/
  | seamFrame (f : Fin 16) (p : Fin 9) (i : SeamIn)
  /-- SEAM_TRAIN_TIMEOUT (R218). A seam training step exceeds its limit; STATE reads FAILED and TRAIN_FAIL is set. -/
  | seamTrainTimeout (f : Fin 16) (p : Fin 9)
  /-- SEAM_RETRAIN_TIMER (R218). 100 ms after a training failure, the lane retrains from step 1. -/
  | seamRetrainTimer (f : Fin 16) (p : Fin 9)
  /-- RETRAIN (R218). A write of SEAM_CTRL.RETRAIN restarts seam training at once. -/
  | retrain (f : Fin 16) (k : Fin 8)
  /-- SEAM_COUNTER_CLEAR (R224). A write of SEAM_CTRL.CLEAR clears the position's five seam counters. -/
  | seamCounterClear (f : Fin 16) (k : Fin 8)
  /-- REPLAY_RETRY (R225). The replayed pair has not arrived good within 2 × RTT_PAIRS + 16 pair times; the request is repeated, or the episode is exhausted. -/
  | replayRetry (n : Fin 128)
  /-- PERMANENT_FAULT (R227). A paired lane meets a permanence condition; it starts the sealing handshake, or takes its port's SEAL_POLICY. -/
  | permanentFault (f : Fin 16) (p : Fin 9) (cond : Fin 5)
  /-- LANE_PERMANENT_FAULT (R232). A lane in L400 or L200 meets a permanence condition and takes its port's SEAL_POLICY at once. -/
  | lanePermanentFault (f : Fin 16) (p : Fin 9) (cond : Fin 4)
  /-- P8_READY (R228). p8 is lit, LOCKED and trained with the right partner token and position; skew is measured and READY is sent. -/
  | p8Ready (f : Fin 16) (skew : Int)
  /-- SEAL_SWITCH (R229). At SWITCH_SEQ, the receiver takes the position's pairs from p8, aligning for skew. -/
  | sealSwitch (f : Fin 16)
  /-- SEAL_COMMIT (R228). 2 × RTT_PAIRS pairs past its SWITCH_SEQ, an end stops pk, changes the lane map and burns the sealing. -/
  | sealCommit (f : Fin 16)
  /-- SEAL_HANDSHAKE_TIMEOUT (R230). A sealing handshake passes its 60 ms limit and is abandoned. -/
  | sealHandshakeTimeout (f : Fin 16)
  /-- SEAL_REPROPOSE (R230). 1 s after an abandonment, the initiator proposes again. -/
  | sealRepropose (f : Fin 16)
  /-- RUN (R235). A write of TAP_CTRL.RUN starts or stops the spectral tap. -/
  | run (f : Fin 16) (run : Bool)
  /-- TAP_SWAP (R240). A write of TAP_CTRL.SWAP requests a swap of the tap's FIR bank. -/
  | tapSwap (f : Fin 16)
  /-- TAP_SWAP_APPLY (R240). The tap bank swap takes effect at an output-sample boundary and the block carries SWAP. -/
  | tapSwapApply (f : Fin 16)
  /-- TAP_RESTART (R239). TAP_CTRL.RESTART, or a write to TAP_CFG or TAP_NCO, restarts the tap chain at the next output-block boundary. -/
  | tapRestart (f : Fin 16)
  /-- TAP_COEF (R240). A write to TAP_COEF lands in the inactive bank, or is discarded with BUSY. -/
  | tapCoef (f : Fin 16) (b : Fin 2) (i : Fin 64) (value : BitVec 16)
  /-- TAP_BLOCK (R241). A tap output block completes with its header and is sent on its live streams, or dropped without credit. -/
  | tapBlock (f : Fin 16) (b : TapIn)
  /-- CAPTURE_ARM (R246). ZCP CAPTURE_ARM arms the channels in its mask at one capture clock edge. -/
  | captureArm (r : Req) (mask : BitVec 8)
  /-- ARM (R246). A write of CAP_CTRL.ARM arms one capture channel after the arming checks. -/
  | arm (c : Fin 4)
  /-- FORCE (R247). A write of CAP_CTRL.FORCE fires an armed channel's trigger. -/
  | force (c : Fin 4)
  /-- STOP (R250). A write of CAP_CTRL.STOP ends a channel's record early with TRUNC. -/
  | stop (c : Fin 4)
  /-- DISCARD (R250). A write of CAP_CTRL.DISCARD returns a FULL channel to IDLE. -/
  | discard (c : Fin 4)
  /-- CAPTURE_CONFIG_WRITE (R248). A write to CAP_CFG, CAP_REGION or CAP_TRIG with an undefined value is discarded with RANGE. -/
  | captureConfigWrite (c : Fin 4) (which : Fin 5) (value : Word)
  /-- CAPTURE_TRIGGER (R247). A channel's trigger source fires; the trigger sample is marked and grouped channels fire together. -/
  | captureTrigger (c : Fin 4) (time : BitVec 64) (pos : BitVec 26) (shortPre : Bool)
  /-- CAPTURE_FULL (R249). The channel has written its post-trigger share of the region and stops in FULL. -/
  | captureFull (c : Fin 4) (wrapped : Bool) (end_ : BitVec 20) (data : List (BitVec 64))
  /-- STREAM_OPEN (R252). ZCP STREAM_OPEN opens a stream from a tap, a FULL channel or an archive entry, subject to bandwidth limits. -/
  | streamOpen (r : Req) (src : BitVec 8) (index : BitVec 8) (consume : Bool) (credit : BitVec 16)
  /-- STREAM_CLOSE (R252). ZCP STREAM_CLOSE closes one stream. -/
  | streamClose (r : Req) (stream : BitVec 8)
  /-- STREAM_CREDIT (R253). A write of STREAM_CREDIT.ADD adds credit to an open stream, saturating. -/
  | streamCredit (i : Fin 32) (add : BitVec 16)
  /-- STREAM_BLOCK_SEND (R253). A stored stream with credit and transmit room sends its next observation block. -/
  | streamBlockSend (i : Fin 32) (b : ObsIn)
  /-- STREAM_TIMEOUT (R253). A stored stream stays without credit for 10 s and closes with TIMEOUT. -/
  | streamTimeout (i : Fin 32)
  /-- DROP_OLDEST (R251). A write of ARCH_CTRL.DROP_OLDEST frees the oldest capture archive entry. -/
  | dropOldest
  /-- ADD (R281). Hewer ALU3 ADD adds two registers, wrapping silently. -/
  | add (n : Fin 18) (d : Fin 64) (u : Fin 64) (v : Fin 64)
  /-- SUB (R281). Hewer ALU3 SUB subtracts two registers, wrapping silently. -/
  | sub (n : Fin 18) (d : Fin 64) (u : Fin 64) (v : Fin 64)
  /-- AND (R281). Hewer ALU3 AND is the bitwise AND of two registers. -/
  | and (n : Fin 18) (d : Fin 64) (u : Fin 64) (v : Fin 64)
  /-- OR (R281). Hewer ALU3 OR is the bitwise OR of two registers. -/
  | or (n : Fin 18) (d : Fin 64) (u : Fin 64) (v : Fin 64)
  /-- XOR (R281). Hewer ALU3 XOR is the bitwise exclusive OR of two registers. -/
  | xor (n : Fin 18) (d : Fin 64) (u : Fin 64) (v : Fin 64)
  /-- SHL (R281). Hewer ALU3 SHL shifts left by t[4:0]. -/
  | shl (n : Fin 18) (d : Fin 64) (u : Fin 64) (v : Fin 64)
  /-- SHR (R281). Hewer ALU3 SHR shifts right logically by t[4:0]. -/
  | shr (n : Fin 18) (d : Fin 64) (u : Fin 64) (v : Fin 64)
  /-- SRA (R281). Hewer ALU3 SRA shifts right arithmetically by t[4:0]. -/
  | sra (n : Fin 18) (d : Fin 64) (u : Fin 64) (v : Fin 64)
  /-- MIN (R281). Hewer ALU3 MIN takes the smaller of two registers. -/
  | min (n : Fin 18) (d : Fin 64) (u : Fin 64) (v : Fin 64)
  /-- MAX (R281). Hewer ALU3 MAX takes the larger of two registers. -/
  | max (n : Fin 18) (d : Fin 64) (u : Fin 64) (v : Fin 64)
  /-- ADD16X2 (R267). Hewer ADD16x2 adds two pairs of 16-bit halves, optionally halving, saturating or wrapping with SOV. -/
  | add16x2 (n : Fin 18) (half : Bool) (sat : Bool) (d : Fin 64) (u : Fin 64) (v : Fin 64)
  /-- SUB16X2 (R267). Hewer SUB16x2 subtracts two pairs of 16-bit halves, optionally halving, saturating or wrapping with SOV. -/
  | sub16x2 (n : Fin 18) (half : Bool) (sat : Bool) (d : Fin 64) (u : Fin 64) (v : Fin 64)
  /-- CONJ (R281). Hewer ALU3 CONJ conjugates a complex word. -/
  | conj (n : Fin 18) (d : Fin 64) (u : Fin 64)
  /-- SWAPH (R281). Hewer ALU3 SWAPH swaps the two 16-bit halves of a word. -/
  | swaph (n : Fin 18) (d : Fin 64) (u : Fin 64)
  /-- ADDI (R281). Hewer ADDI adds a signed 12-bit immediate to a register. -/
  | addi (n : Fin 18) (d : Fin 64) (u : Fin 64) (imm : BitVec 12)
  /-- MOVI (R281). Hewer MOVI loads a sign-extended 18-bit immediate. -/
  | movi (n : Fin 18) (d : Fin 64) (imm : BitVec 18)
  /-- MOVHI (R281). Hewer MOVHI sets a register's upper 16 bits and keeps its lower 16. -/
  | movhi (n : Fin 18) (d : Fin 64) (imm : BitVec 18)
  /-- CMP (R281). Hewer CMP sets Z, LT and LTU from two registers. -/
  | cmp (n : Fin 18) (u : Fin 64) (v : Fin 64)
  /-- EXP (R268). Hewer EXP returns the smaller redundant-sign-bit count of a register's two 16-bit halves. -/
  | exp (n : Fin 18) (d : Fin 64) (u : Fin 64)
  /-- EXPM (R268). Hewer EXPM returns the minimum of a running value and the EXP of a register. -/
  | expm (n : Fin 18) (d : Fin 64) (u : Fin 64) (v : Fin 64)
  /-- HIST (R269). Hewer HIST counts four 8-bit samples into four level bins against three thresholds. -/
  | hist (n : Fin 18) (sat : Bool) (d : Fin 64) (u : Fin 64) (v : Fin 64)
  /-- MFS (R262). Hewer MFS reads a special register by index, trapping ILLEGAL on an unknown index. -/
  | mfs (n : Fin 18) (d : Fin 64) (idx : BitVec 12)
  /-- MTS (R262). Hewer MTS writes a special register by index, trapping ILLEGAL on an unknown index. -/
  | mts (n : Fin 18) (u : Fin 64) (idx : BitVec 12)
  /-- MAC2 (R281). Hewer MAC2 accumulates the products of the real halves and of the imaginary halves separately. -/
  | mac2 (n : Fin 18) (sat : Bool) (a : Fin 4) (u : Fin 64) (v : Fin 64) (neg : Bool)
  /-- CMAC (R264). Hewer CMAC adds or subtracts a complex product into an accumulator. -/
  | cmac (n : Fin 18) (sat : Bool) (a : Fin 4) (u : Fin 64) (v : Fin 64) (neg : Bool)
  /-- CMACJ (R264). Hewer CMACJ adds or subtracts a conjugate complex product into an accumulator. -/
  | cmacj (n : Fin 18) (sat : Bool) (a : Fin 4) (u : Fin 64) (v : Fin 64) (neg : Bool)
  /-- CMADD (R264). Hewer CMADD sets an accumulator to u·2^15 plus or minus a complex product. -/
  | cmadd (n : Fin 18) (sat : Bool) (a : Fin 4) (u : Fin 64) (v : Fin 64) (w : Fin 64) (neg : Bool)
  /-- CMADDJ (R264). Hewer CMADDJ sets an accumulator to u·2^15 plus or minus a conjugate complex product. -/
  | cmaddj (n : Fin 18) (sat : Bool) (a : Fin 4) (u : Fin 64) (v : Fin 64) (w : Fin 64) (neg : Bool)
  /-- ASET (R281). Hewer ASET sets each accumulator half to s·2^15. -/
  | aset (n : Fin 18) (a : Fin 4) (u : Fin 64)
  /-- ACLR (R281). Hewer ACLR clears an accumulator. -/
  | aclr (n : Fin 18) (a : Fin 4)
  /-- ASHR (R281). Hewer ASHR shifts an accumulator, with the rounding of R266 and the overflow rule of R265. -/
  | ashr (n : Fin 18) (sat : Bool) (a : Fin 4) (sh : BitVec 6)
  /-- EXTR (R266). Hewer EXTR extracts both accumulator halves into one complex word with convergent rounding and saturation or wrap. -/
  | extr (n : Fin 18) (sat : Bool) (d : Fin 64) (a : Fin 4) (sh : BitVec 6)
  /-- NORM (R268). Hewer NORM returns the normalisation shift of an accumulator. -/
  | norm (n : Fin 18) (d : Fin 64) (a : Fin 4)
  /-- LDW (R270). Hewer LDW loads 32 bits through a pointer, with circular folding and pointer update. -/
  | ldw (n : Fin 18) (d : Fin 64) (p : Fin 8) (upd : Fin 4) (off : BitVec 13)
  /-- LDD (R270). Hewer LDD loads 64 bits into an even register pair. -/
  | ldd (n : Fin 18) (d : Fin 64) (p : Fin 8) (upd : Fin 4) (off : BitVec 13)
  /-- LDH (R270). Hewer LDH loads 16 bits, sign-extended. -/
  | ldh (n : Fin 18) (d : Fin 64) (p : Fin 8) (upd : Fin 4) (off : BitVec 13)
  /-- LDB (R270). Hewer LDB loads 8 bits, sign-extended. -/
  | ldb (n : Fin 18) (d : Fin 64) (p : Fin 8) (upd : Fin 4) (off : BitVec 13)
  /-- STW (R270). Hewer STW stores 32 bits through a pointer. -/
  | stw (n : Fin 18) (d : Fin 64) (p : Fin 8) (upd : Fin 4) (off : BitVec 13)
  /-- STD (R270). Hewer STD stores 64 bits from a register pair. -/
  | std (n : Fin 18) (d : Fin 64) (p : Fin 8) (upd : Fin 4) (off : BitVec 13)
  /-- STH (R270). Hewer STH stores 16 bits; to a device register it completes with RANGE and sets BERR. -/
  | sth (n : Fin 18) (d : Fin 64) (p : Fin 8) (upd : Fin 4) (off : BitVec 13)
  /-- STB (R270). Hewer STB stores 8 bits; to a device register it completes with RANGE and sets BERR. -/
  | stb (n : Fin 18) (d : Fin 64) (p : Fin 8) (upd : Fin 4) (off : BitVec 13)
  /-- SETP (R271). Hewer SETP sets a pointer, modulo length or base register. -/
  | setp (n : Fin 18) (sel : Fin 64) (u : Fin 64)
  /-- GETP (R281). Hewer GETP reads a pointer, modulo length or base register. -/
  | getp (n : Fin 18) (d : Fin 64) (sel : Fin 64)
  /-- PADDI (R281). Hewer PADDI adds an immediate to a pointer, with folding. -/
  | paddi (n : Fin 18) (p : Fin 8) (imm : BitVec 12)
  /-- BR (R281). Hewer BR branches unconditionally. -/
  | br (n : Fin 18) (off : BitVec 24)
  /-- BCC (R281). Hewer BCC branches when its condition holds on the compare flags. -/
  | bcc (n : Fin 18) (c : Fin 16) (off : BitVec 20)
  /-- CALL (R281). Hewer CALL saves the return address in X31 and branches. -/
  | call (n : Fin 18) (off : BitVec 24)
  /-- JR (R281). Hewer JR jumps to the address in a register. -/
  | jr (n : Fin 18) (u : Fin 64)
  /-- LOOP (R272). Hewer LOOP starts a hardware loop, or traps with cause LOOP. -/
  | loop (n : Fin 18) (l : Fin 2) (u : Fin 64) (off : BitVec 16)
  /-- LOOPR (R273). Hewer LOOPR starts a hardware loop that rotates RRB at the end of each iteration. -/
  | loopr (n : Fin 18) (l : Fin 2) (u : Fin 64) (off : BitVec 16)
  /-- RETI (R277). Hewer RETI restores PC and HSR from IPC and IHSR, keeping the sticky bits. -/
  | reti (n : Fin 18)
  /-- NOP (R281). Hewer NOP does nothing. -/
  | nop (n : Fin 18)
  /-- WAIT (R281). Hewer WAIT sleeps until an unmasked interrupt is pending. -/
  | wait (n : Fin 18)
  /-- EI (R281). Hewer EI sets HSR.IE. -/
  | ei (n : Fin 18)
  /-- DI (R281). Hewer DI clears HSR.IE. -/
  | di (n : Fin 18)
  /-- SYNC (R281). Hewer SYNC stalls until every posted write has completed. -/
  | sync (n : Fin 18)
  /-- TRAP (R278). Hewer TRAP stops the Hewer with cause TRAP. -/
  | trap (n : Fin 18)
  /-- BKPT (R278). Hewer BKPT stops the Hewer with cause BKPT. -/
  | bkpt (n : Fin 18)
  /-- POSTED_WRITE_STATUS (R260). The status of a posted near-window write returns, and a nonzero status sets BERR. -/
  | postedWriteStatus (n : Fin 18)
  /-- INTERRUPT_ENTRY (R277). An unmasked pending source is taken at an instruction boundary; IPC and IHSR are saved and PC takes the vector. -/
  | interruptEntry (n : Fin 18)
  /-- HW_TIMER (R276). The Hewer timer period expires and raises source 1. -/
  | hwTimer (n : Fin 18)
  /-- WATCHDOG_WARNING (R284). Half the watchdog period passes without a kick and raises source 0. -/
  | watchdogWarning (n : Fin 18)
  /-- WATCHDOG (R284). The full watchdog period passes without a kick and traps the Hewer with cause WATCHDOG. -/
  | watchdog (n : Fin 18)
  /-- KICK (R284). A write of HW_WDOG.KICK restarts the watchdog period. -/
  | kick (n : Fin 18)
  /-- HEWER_RUN (R286). A write of HW_CTRL.RUN starts the Hewer, or halts it at the next boundary. -/
  | hewerRun (n : Fin 18) (run : Bool)
  /-- HEWER_RESET (R286). A write of HW_CTRL.RESET clears the Hewer's registers and pending interrupts and leaves its memories unchanged. -/
  | hewerReset (n : Fin 18)
  /-- HEWER_STEP (R286). A write of HW_CTRL.STEP executes one instruction or pair while the Hewer is halted. -/
  | hewerStep (n : Fin 18)
  /-- HW_MBOX_IN (R276). A ZCP write of HW_MBOX_IN raises source 2. -/
  | hwMboxIn (n : Fin 18) (value : Word)
  /-- PROGRAM_MEMORY_WRITE (R258). A ZCP write to a Hewer's program memory is accepted only while the Hewer is HALTED or TRAPPED. -/
  | programMemoryWrite (n : Fin 18) (w : Fin 16384) (value : Word)
  /-- OVERLAY_START (R285). A write of HW_OVL_CTRL.START starts a copy between DDR4 and the Hewer's memory. -/
  | overlayStart (n : Fin 18) (out : Bool) (len : BitVec 17)
  /-- OVERLAY_DONE (R285). The overlay copy completes or fails, and source 7 is raised. -/
  | overlayDone (n : Fin 18)
  /-- ACK (R283). Firmware writes HW_ADAPT.ACK to confirm the adaptation hold. -/
  | ack (f : Fin 16)
  /-- ADAPT_ACK_TIMEOUT (R283). No ACK arrives within 100 µs of HOLD; Foreman logs an event and counts that adaptation power as not shed. -/
  | adaptAckTimeout (f : Fin 16)
  /-- H16_RESTART (R284). 10 ms after an H16 trap, Foreman resets and restarts H16. -/
  | h16Restart
  /-- CONTROL_PORT_RATE_TRY (R288). A control port's 500 ms try at one rate ends without link, and it tries the next lower rate, or RATE_CAP again. -/
  | controlPortRateTry (n : Fin 2)
  /-- CP_RESTART (R288). A write of CP_CTRL.RESTART takes the link down and restarts bring-up at RATE_CAP. -/
  | cpRestart (n : Fin 2)
  /-- CP_ERRS_CLEAR (R290). A write of CP_CTRL.CLEAR clears CP_ERRS. -/
  | cpErrsClear (n : Fin 2)
  /-- PAUSE (R291). A received PAUSE frame holds the port's transmit for its duration. -/
  | pause (n : Fin 2) (quanta : BitVec 16)
  /-- ARP (R290). An ARP request for the port's address is answered to its source. -/
  | arp (n : Fin 2) (addr : BitVec 32)
  /-- NEIGHBOUR_SOLICITATION (R290). An IPv6 neighbour solicitation for the port's address is answered. -/
  | neighbourSolicitation (n : Fin 2) (addr : BitVec 128)
  /-- ICMP_ECHO (R290). An ICMP or ICMPv6 echo request is answered. -/
  | icmpEcho (n : Fin 2) (v6 : Bool) (addr : BitVec 128) (data : List Word)
  /-- MALFORMED (R290). A frame that the device does not answer is dropped and counted in CP_ERRS.MALFORMED. -/
  | malformed (n : Fin 2)
  /-- PTP_SYNC (R293). A PTP Sync from the chosen master updates the offset, stepping device time on the first Sync or after three offsets above 1 µs, and otherwise slewing. -/
  | ptpSync (n : Fin 2) (domain : BitVec 8) (id : BitVec 80) (twoStep : Bool) (origin : BitVec 64)
  /-- PTP_FOLLOW_UP (R292). A Follow_Up from a two-step master supplies the Sync timestamp. -/
  | ptpFollowUp (n : Fin 2) (domain : BitVec 8) (id : BitVec 80) (origin : BitVec 64)
  /-- PTP_DELAY_RESP (R292). A Delay_Resp completes an end-to-end delay measurement. -/
  | ptpDelayResp (n : Fin 2) (domain : BitVec 8) (id : BitVec 80) (sent : BitVec 64) (received : BitVec 64)
  /-- PTP_ANNOUNCE (R292). An Announce feeds the best master clock algorithm across both ports. -/
  | ptpAnnounce (n : Fin 2) (domain : BitVec 8) (id : BitVec 80) (rank : BitVec 176)
  /-- PTP_ANNOUNCE_TIMEOUT (R293). No Announce arrives within announceReceiptTimeout, and device time enters HOLDOVER. -/
  | ptpAnnounceTimeout
  /-- TIME_LOCKED (R293). The offset stays within ±100 ns for 10 s, and the discipline enters LOCKED. -/
  | timeLocked
  /-- HELLO (R300). ZCP HELLO chooses a version, creates a session and returns the signed ephemeral key exchange. -/
  | hello (n : Fin 2) (id : BitVec 64) (minMajor : BitVec 8) (minMinor : BitVec 8) (maxMajor : BitVec 8) (maxMinor : BitVec 8) (nonce : List (BitVec 8)) (eph : List (BitVec 8))
  /-- AUTH (R302). ZCP AUTH verifies the client's key and signature and grants the session its privilege, or ends it. -/
  | auth (r : Req) (pub : List (BitVec 8)) (sig : ClientSig)
  /-- READ (R308). ZCP READ reads one register word after the access checks. -/
  | read (r : Req) (addr : BitVec 32)
  /-- WRITE (R326). ZCP WRITE writes one register word and replies after the word has landed. -/
  | write (r : Req) (addr : BitVec 32) (value : Word)
  /-- READ_BLOCK (R309). ZCP READ_BLOCK reads up to 256 words in order and stops at the first nonzero status. -/
  | readBlock (r : Req) (addr : BitVec 32) (count : BitVec 16)
  /-- WRITE_BLOCK (R309). ZCP WRITE_BLOCK writes up to 256 words in order and stops at the first nonzero status. -/
  | writeBlock (r : Req) (addr : BitVec 32) (values : List Word)
  /-- OP_SUSPEND (R311). ZCP OP_SUSPEND suspends a queued or running operation at a safe point, or answers NOT_SUSPENDABLE. -/
  | opSuspend (r : Req) (h : BitVec 16)
  /-- OP_RESUME (R311). ZCP OP_RESUME returns a suspended operation to RUNNING, or to the head of its queue. -/
  | opResume (r : Req) (h : BitVec 16)
  /-- OP_CANCEL (R311). ZCP OP_CANCEL cancels an operation at its next cancel point, or answers BUSY when it refuses cancel. -/
  | opCancel (r : Req) (h : BitVec 16)
  /-- OP_STATUS (R314). ZCP OP_STATUS returns the 24-byte state of a handle and frees a terminal one. -/
  | opStatus (r : Req) (h : BitVec 16)
  /-- SNAP (R431). ZCP SNAP marks device time and has every clock domain copy its counters to shadows. -/
  | snap (r : Req)
  /-- SNAP_DONE (R431). The SNAP mark has reached every domain within 1 µs, and SNAP_STATUS.BUSY falls. -/
  | snapDone
  /-- TALLY_FREEZE (R427). ZCP TALLY_FREEZE stores event 0x0740 and stops recording. -/
  | tallyFreeze (r : Req)
  /-- TALLY_THAW (R427). ZCP TALLY_THAW resumes recording with event 0x0741 counting the events lost. -/
  | tallyThaw (r : Req)
  /-- FREEZE_TIMEOUT (R427). FREEZE_MAX seconds pass while frozen, and the freeze ends as a thaw does. -/
  | freezeTimeout
  /-- SESSION_TIMEOUT (R305). A session receives no valid message for 60 s and ends, closing its streams. -/
  | sessionTimeout (session : BitVec 64)
  /-- ACCESS_TIMEOUT (R323). An access is unanswered 2 µs after reaching chip control and completes with TIMEOUT. -/
  | accessTimeout (r : Req) (addr : BitVec 32) (value : Option Word) (landed : Bool)
  /-- COUNTER_LO_READ (R328). A read of a LO word copies its HI word into a latch of the reading session. -/
  | counterLoRead (session : BitVec 64) (addr : BitVec 32)
  /-- REGISTER_WRITE (R325). A write to a register with no row of its own is handled field by field, discarded whole with RANGE when any RW field rejects its value. -/
  | registerWrite (addr : BitVec 32) (value : Word)
  /-- WAKE_FRAME (R316). In DEEP, a UDP datagram with a matching SERIAL and WAKE_CODE fires the wake-frame source. -/
  | wakeFrame (payload : List (BitVec 8)) (flips : List (Fin 64 × BitVec 24 × BitVec 8))
  /-- WAKE_N (R340). WAKE_N stays low for 1 µs and fires the WAKE_N wake source. -/
  | wakeN (flips : List (Fin 64 × BitVec 24 × BitVec 8))
  /-- AON_TIMER (R340). WAKE_TIMER milliseconds pass after entry to DEEP and fire the AON-timer wake source. -/
  | aonTimer (flips : List (Fin 64 × BitVec 24 × BitVec 8))
  /-- THERMAL_ALERT (R340). In DEEP, TS32 reads at or above WAKE_TEMP and fires the thermal wake source. -/
  | thermalAlert (value : Int) (flips : List (Fin 64 × BitVec 24 × BitVec 8))
  /-- ELS_GRANT_CHANGE (R340). An ELS_GNT_N pin changes and holds for 10 µs in DEEP, which fires the ELS wake source. -/
  | elsGrantChange (b : Fin 4) (low : Bool) (flips : List (Fin 64 × BitVec 24 × BitVec 8))
  /-- CHIP_RUN (R333). FM_CHIP_CTRL.TARGET = 0 powers the datapaths, lane analog and host groups and returns the chip from STANDBY to RUN. -/
  | chipRun
  /-- CHIP_STANDBY (R333). FM_CHIP_CTRL.TARGET = 1 walks faces down to SYNTH and turns off the datapaths, lane analog and host groups. -/
  | chipStandby
  /-- CHIP_DEEP (R335). FM_CHIP_CTRL.TARGET = 2, if accepted, walks faces to SLEEP, ends sessions, saves the retention state and enters DEEP. -/
  | chipDeep
  /-- SCHEDULER_TICK (R349). Every 100 µs Foreman recomputes EST, releases queued items, sheds or restores work and sets effort levels. -/
  | schedulerTick
  /-- INTEGRITY_WAIT (R349). An Integrity item waits longer than 60 s and logs one event. -/
  | integrityWait (f : Fin 16) (tx : Bool) (d : Fin 9)
  /-- SENSOR_CONVERSION (R353). A thermal sensor converts every 1 ms, driving throttling, ALERT_N and face temperature. -/
  | sensorConversion (n : Fin 34) (value : Int)
  /-- THROTTLE_ACTION (R355). While throttling, Foreman takes one shedding action every 10 ms. -/
  | throttleAction (scope : Fin 17)
  /-- THROTTLE_RELEASE (R355). While every sensor reads below THROTTLE − HYST, Foreman reverses one action every 100 ms. -/
  | throttleRelease (scope : Fin 17)
  /-- SENSOR_FAILURE (R357). A sensor meets a failure condition, is declared failed and is given a substitute value. -/
  | sensorFailure (n : Fin 34) (cause : Fin 3)
  /-- RAIL_CONFIRM (R455). 1 ms after a VOUT_COMMAND, Foreman checks the rail reading and sets RAIL_ERR when the rail fails to confirm. -/
  | railConfirm (c : Fin 8) (nak : Bool) (ulinear : Bool) (raw : BitVec 12)
  /-- RAIL_RETRY (R455). Every 100 ms, Foreman retries a rail that failed to confirm. -/
  | railRetry (c : Fin 8)
  /-- AGEING_MEASUREMENT (R380). Every 10 s Survey counts each ageing monitor, normalises the count and sets BELOW when it is under guard. -/
  | ageingMeasurement (n : Fin 48) (freq : BitVec 20) (below : Bool)
  /-- MADC_CONVERSION (R363). A monitor-ADC conversion completes with its corrected code. -/
  | madcConversion (raw : BitVec 12)
  /-- MADC_DIRECT (R366). A write of MADC_CHSEL.START requests a direct conversion of CH. -/
  | madcDirect (ch : BitVec 7)
  /-- SELFCAL (R365). A write of MADC_CTRL.SELFCAL starts self-calibration, unless a face is in DUPLEX or ramping. -/
  | selfcal
  /-- SELFCAL_DONE (R365). Self-calibration ends after 12 ms; MADC_GAIN and MADC_OFFSET are set and CAL_DONE rises. -/
  | selfcalDone (gain : BitVec 16) (offset : BitVec 16)
  /-- MADC_SEQUENCE_PASS (R368). A sequence pass starts at most once per PERIOD and converts its entries in order. -/
  | madcSequencePass
  /-- SLICE_MEASUREMENT (R372). A 2^20-sample measurement of one slice ends and is compared for agreement. -/
  | sliceMeasurement (f : Fin 16) (p : Fin 9) (off : Int) (gain : Int) (skew : Int) (bw : Int)
  /-- CAL_REQUEUE (R373). 10 min after a failed stand-in handover, the lane is queued again. -/
  | calRequeue (f : Fin 16) (p : Fin 9)
  /-- FACE_PLL (R378). A FACE_PLL run on a face in SYNTH drops PLL_LOCK and recalibrates the face PLLs. -/
  | facePll (f : Fin 16)
  /-- FACE_PLL_TIMEOUT (R378). A FACE_PLL run exceeds 1.0 ms and ends with RESULT 6. -/
  | facePllTimeout (f : Fin 16)
  /-- SURVEY_SET_WRITE (R379). A write to a temperature set's slice words or header, which is refused with BUSY while the set is valid or a run is on the lane. -/
  | surveySetWrite (q : Fin 144) (i : Fin 5) (w : Fin 131) (value : Word)
  /-- ASSAY_QUEUE (R382). Every BIST_CYCLE ÷ 18, Assay queues an item for the datapath with the largest AGE, alternating direction. -/
  | assayQueue (f : Fin 16)
  /-- ROTATION_SHADOW_END (R384). SHADOW_TIME passes, and the match phase starts. -/
  | rotationShadowEnd (f : Fin 16)
  /-- ROTATION_MATCH (R385). 2^20 consecutive symbols, or DAC codes, match, and the switch is scheduled. -/
  | rotationMatch (f : Fin 16)
  /-- ROTATION_SWITCH (R386). At the outer-codeword boundary, the lane's output moves to the relief and the old datapath becomes the relief. -/
  | rotationSwitch (f : Fin 16)
  /-- MATCH_TIMEOUT (R384). MATCH_LIMIT passes without a match, and the rotation is abandoned with cause MATCH. -/
  | matchTimeout (f : Fin 16)
  /-- ASSAY_RETRY (R389). RETRY_S after an abandonment, the item becomes releasable again. -/
  | assayRetry (f : Fin 16)
  /-- BIST_SLICE_DONE (R392). A slice's MISR is compared with its signature, the datapath is re-initialised, and a second failure seals the datapath. -/
  | bistSliceDone (f : Fin 16) (misr : BitVec 64)
  /-- MEM_FLIP (R403). A write of MEM_FLIP_CTRL.ARM arms a one-shot corruption of the next matching write. -/
  | memFlip (value : Word)
  /-- REGION_CLEAR (R413). A write of MEM_REGION_n.CLEAR resets COUNT and re-arms the threshold event. -/
  | regionClear (n : Fin 256)
  /-- TALLY_ARCHIVE_COPY (R425). A completed block of 256 records is copied to the DDR4 archive. -/
  | tallyArchiveCopy
  /-- TALLY_CLEAR (R424). A write of TALLY_CTRL.CLEAR empties the store and sets BASE_SEQ to HEAD_SEQ. -/
  | tallyClear
  /-- TALLY_ARCH_SEL (R425). A write of TALLY_ARCH_SEL shows one archive block in the window, or is discarded with RANGE. -/
  | tallyArchSel (value : Word)
  /-- SNAP_HI_READ (R432). A read of SNAP_HI returns the selected shadow's high word and advances SNAP_SEL by 8. -/
  | snapHiRead (session : BitVec 64)
  /-- PC_OVF (R430). A performance counter wraps modulo 2^48, sets PC_OVF and, with OVF_INT, logs event 0x0744. -/
  | pcOvf (b : Fin 73) (i : Fin 8)
  /-- BW_WINDOW (R433). A bandwidth window ends; BW_H2L and BW_L2H take the byte counts and BW_SEQ increments. -/
  | bwWindow (n : Fin 128) (h2l : Word) (l2h : Word)
  /-- HS_RESTART (R434). A write of HS_CTRL.RESTART empties the Hewer's sample buffer. -/
  | hsRestart (n : Fin 18)
  /-- CONTROL_PORT_LINK_UP (R288). A control port's link comes up at the rate being tried, CP_STATUS.LINK rises, and on a fallback to a lower rate live streams are closed newest first until the rest fit. -/
  | controlPortLinkUp (n : Fin 2)
  /-- CONTROL_PORT_LINK_LOSS (R317). A control port's link is lost, CP_STATUS.LINK falls and bring-up restarts, while sessions bound to the port persist until idle for 60 s. -/
  | controlPortLinkLoss (n : Fin 2)
  /-- POWER_LOSS (R360). VDD_AON falls below 0.3 V, which clears the Canary latch and loses every volatile state, leaving any flash slot being written invalid. -/
  | powerLoss
  /-- FACE_PLL_DONE (R378). A FACE_PLL run ends after about 300 µs, or the face PLLs that kept retrying finally lock, and PLL_LOCK rises on a face already in SYNTH, releasing any held target. -/
  | facePllDone (f : Fin 16)
  /-- PAUSE_END (R291). The pause time of a received PAUSE frame runs out, CP_STATUS.PAUSED falls and held replies and stream blocks are sent again. -/
  | pauseEnd (n : Fin 2)
  /-- ELS_GRANT_WITHDRAWN (R185). The controller raises ELS_GNT_N[b] while no face of the bank is in DUPLEX or ramping and the chip is not in DEEP, and ELS_BANK_b.GNT falls to 0. -/
  | elsGrantWithdrawn (b : Fin 4)
  deriving DecidableEq, Repr

end Sys2Proof
end

