-- ==== Sys2Proof/Decode.lean ====
section
/-!
DEFINITION. Sys2Proof/Decode.lean: commands read from words. No row of the command table has bits: the part's commands are accesses
and events, not words. (The Hewer's instruction words are decoded in Sys2Proof/Machine/HewerCode.lean.)
-/
namespace Sys2Proof

/-- The command that a word spells by the bits that the command table gives its row: none has bits. -/
def decodeTableWord (_nbits _w : Nat) : Option Instr := none

end Sys2Proof
end

