-- ==== Sys2Proof/Config.lean ====
section
/-!
DEFINITION. Sys2Proof/Config.lean: what the spec leaves open (free values, with no body) and what it fixes for the part.
-/
namespace Sys2Proof

/-- Free values: the n-th value that the part takes where the spec states none (notes/assumptions/4.md). -/
opaque Config.free : Nat → BitVec 64

/-- The syndrome that an error pattern gives, from the parity-check columns that the spec does not list (R398): arguments are
whether the word is a (72,64) word, the flipped data bits and the flipped check bits (notes/assumptions/7.md). -/
opaque Config.eccSyndrome : Bool → Nat → Nat → BitVec 8

/-- What an odd error pattern of three or more bits decodes to: the data bit it is miscorrected at, or none when it is
detected (R398; notes/assumptions/7.md). -/
opaque Config.eccMiscorrect : Bool → Nat → Nat → Option Nat

/-- What DDR4 holds at a system byte address before it is written (R399: undefined), by how often its contents have become undefined
since the model began (R414, R447) and address. -/
opaque Config.ddrByte : Nat → Nat → Byte

/-- Power of an armed or triggered capture channel, nW (R348: it counts in FLOOR, and no figure is stated). -/
opaque Config.capturePower : BitVec 32

/-- Fraction bits of the twiddle factors of the 512-point transform (R107, R109: no width is stated; notes/assumptions/68.md). -/
opaque Config.twiddleBits : Nat

/-- Twiddle factor k of 512: the mantissas of exp(−2πi·k ÷ 512) in units of 2^−twiddleBits (notes/assumptions/68.md). -/
opaque Config.twiddle : Nat → Int × Int

/-- Fractional-delay interpolation of a slice (R79: no kernel is stated): a skew other than 0, the sample, the slice's samples before it
(notes/assumptions/68.md). -/
opaque Config.fracDelay : Int → Int → List Int → Int

/-- The timing interpolator at a phase other than 0 (R119: no kernel is stated): phase, the sample, the samples before it
(notes/assumptions/68.md). -/
opaque Config.interpolate : Int → Int → List Int → Int

/-- The proportional path's step for a KP and a clock's timing error, 1/256 UI (R119: the error's scale is not stated;
notes/assumptions/68.md). -/
opaque Config.phaseStep : Nat → Int → Int

/-- The integral path's step for a KI and a clock's timing error, 1/64 ppm (R119; notes/assumptions/68.md). -/
opaque Config.freqStep : Nat → Int → Int

/-- Fraction bits of the tap's oscillator (R236: no width is stated; notes/assumptions/68.md). -/
opaque Config.ncoBits : Nat

/-- The tap's oscillator at a phase of 2^32: exp(−2πi·phase ÷ 2^32) in units of 2^−ncoBits (R236; notes/assumptions/68.md). -/
opaque Config.ncoWave : Nat → Int × Int

/-- Fraction bits of the halfband coefficients (R237: none are stated; notes/assumptions/68.md). -/
opaque Config.halfbandBits : Nat

/-- Coefficient i (0-11) of the 23-tap halfband filter, in units of 2^−halfbandBits (R237; notes/assumptions/68.md). -/
opaque Config.halfband : Nat → Int

/-- Check bits that message bit i of the (128,120) code of IEEE 802.3dj adds (R149; notes/assumptions/69.md). -/
opaque Config.hammingRow : Nat → BitVec 8

/-- Depth less one, in codewords, of the convolutional interleaver of L200 (R149; notes/assumptions/69.md). -/
opaque Config.l200Depth : Nat

/-- Periods by which the interleaver of L200 delays slot s (R149; notes/assumptions/69.md). -/
opaque Config.l200Delay : Nat → Nat

/-- Where a pattern generator's register starts, newest bit first (R206; notes/assumptions/71.md). -/
opaque Config.prbsSeed : List Bool

/-- Message symbols of a codeword that could not be corrected, with the sync headers of its 256b/257b blocks marked as IEEE 802.3 marks
them (R201; notes/assumptions/72.md). -/
opaque Config.markedMessage : List Nat → List Nat

/-- The 1,028 message symbols of a pair with which host-bound output resumes: the blocks before its first start block give way to idle
blocks (R224; notes/assumptions/72.md). -/
opaque Config.resumedMessage : List Nat → List Nat

/-- Bits of the alignment-marker group of a port type's PHY with its padding, as 802.3 defines them (R202; notes/assumptions/72.md). -/
opaque Config.markerGroup : Nat → List Bool

/-- The device's identity key (R300, R315). -/
opaque Config.identKey : Nat

/-- The n-th ephemeral private key that the device draws (R300, R301). -/
opaque Config.ephemeralKey : Nat → Nat

/-- The secret of the n-th signature that the device makes (R300). -/
opaque Config.signSecret : Nat → Nat

/-- MFG_SIG as the device holds it: 96 bytes (R300). -/
opaque Config.mfgSig : Nat → BitVec 8

/-- CHIP_ID of silicon revision A1 (R2). -/
def Config.chipId : Nat := 0x5A545128

/-- REV_ID of silicon revision A1 (R2). -/
def Config.revId : Nat := 0x00000A01

end Sys2Proof
end

