-- ==== Sys2Proof/Machine/Bits.lean ====
section
/-!
DEFINITION. Sys2Proof/Machine/Bits.lean: bit fields, byte order, signs and saturation, as the chapters use them.
-/
namespace Sys2Proof.Machine
open Sys2Proof

/-- Bits [lo+w-1:lo] of a word, as a number (R19). -/
def fieldGet (w : Word) (lo n : Nat) : Nat := w.toNat / 2 ^ lo % 2 ^ n

/-- The word with bits [lo+n-1:lo] replaced by `v` modulo 2^n (R19). -/
def fieldSet (w : Word) (lo n v : Nat) : Word :=
  let x := w.toNat
  BitVec.ofNat 32 (x / 2 ^ (lo + n) * 2 ^ (lo + n) + v % 2 ^ n * 2 ^ lo + x % 2 ^ lo)

/-- A Boolean as a one-bit field value. -/
def bit (b : Bool) : Nat := if b then 1 else 0

/-- Bit `i` of a number. -/
def nbit (x i : Nat) : Bool := x / 2 ^ i % 2 == 1

/-- The number with bit `i` set to `b`. -/
def nbitSet (x i : Nat) (b : Bool) : Nat := x / 2 ^ (i + 1) * 2 ^ (i + 1) + bit b * 2 ^ i + x % 2 ^ i

/-- How many of the low `n` bits are set. -/
def popcount : Nat → Nat → Nat
  | 0, _ => 0
  | n + 1, x => x % 2 + popcount n (x / 2)

/-- The low `n` bits of `a` AND `b`. -/
def nand2 (a b : Nat) : Nat := Nat.land a b

/-- A `w`-bit two's-complement field as an integer. -/
def sext (w x : Nat) : Int :=
  let y := x % 2 ^ w
  if y < 2 ^ (w - 1) then (y : Int) else (y : Int) - (2 ^ w : Nat)

/-- An integer as a `w`-bit two's-complement field. -/
def twos (w : Nat) (x : Int) : Nat := (x % ((2 ^ w : Nat) : Int)).toNat

/-- Clamps an integer between two bounds. -/
def clampI (lo hi x : Int) : Int := if x < lo then lo else if hi < x then hi else x

/-- Convergent rounding (to nearest, ties to even) of `n / d` for `d > 0`. -/
def roundDiv (n : Int) (d : Nat) : Int :=
  let q := n / (d : Int)
  let r := n % (d : Int)
  if 2 * r < (d : Int) then q
  else if (d : Int) < 2 * r then q + 1
  else if q % 2 = 0 then q else q + 1

/-- `n / d` rounded up. -/
def ceilDiv (n d : Nat) : Nat := (n + d - 1) / d

/-- A little-endian number from bytes (R44, R416). -/
def leNat : List Nat → Nat
  | [] => 0
  | b :: bs => b % 256 + 256 * leNat bs

/-- The low `n` bytes of a number, little-endian. -/
def leBytes : Nat → Nat → List Nat
  | 0, _ => []
  | n + 1, x => x % 256 :: leBytes n (x / 256)

/-- Increment that saturates at the top of a `w`-bit field. -/
def satInc (w x : Nat) : Nat := if x + 1 < 2 ^ w then x + 1 else 2 ^ w - 1

/-- Adds, saturating at the top of a `w`-bit field. -/
def satAdd (w x y : Nat) : Nat := if x + y < 2 ^ w then x + y else 2 ^ w - 1

/-- The first index below `n` at which `p` holds. -/
def findIdx? (p : Nat → Bool) : Nat → Option Nat
  | 0 => none
  | n + 1 => match findIdx? p n with
    | some i => some i
    | none => if p n then some n else none

/-- Does `p` hold at every index below `n`? -/
def allBelow (n : Nat) (p : Nat → Bool) : Bool := (List.range n).all p

/-- Does `p` hold at some index below `n`? -/
def anyBelow (n : Nat) (p : Nat → Bool) : Bool := (List.range n).any p

end Sys2Proof.Machine
end

