-- ==== Sys2Proof/Machine/RegMap.lean ====
section
/-!
DEFINITION. Sys2Proof/Machine/RegMap.lean: the device's register map (R318, R320 and the field tables of every chapter).
`NAME args` is a register's device address, `NAME_FIELD args` one of its fields. The addresses and fields are those of
the tables headed by each register in the chapters of spec/.
-/
namespace Sys2Proof.Machine
open Sys2Proof

/-- One field of a register: its device address, its lowest bit and its width (R19). -/
structure Fld where
  addr : Nat
  lo : Nat
  width : Nat
  deriving DecidableEq, Repr

/-- The access codes of R20. -/
inductive Acc where
  | ro | rw | wo | w1c | rws | rwl
  deriving DecidableEq, Repr

/-- Address of offset `off` in face `f` (R320). -/
abbrev faceAt (f off : Nat) : Nat := 0x01000000 + f * 0x100000 + off
/-- Receive datapath `d` of face `f` (R320). -/
abbrev rxdAt (f d : Nat) : Nat := faceAt f (d * 0x8000)
/-- Transmit datapath `d` of face `f` (R320). -/
abbrev txdAt (f d : Nat) : Nat := faceAt f (0x50000 + d * 0x4000)
/-- Lane block of physical lane `p` of face `f` (R320). -/
abbrev laneAt (f p : Nat) : Nat := faceAt f (0xF1000 + p * 0x100)
/-- Position block `k` of face `f` (08, registers). -/
abbrev posAt (f k : Nat) : Nat := faceAt f (0xF2000 + k * 0x80)
/-- Host lane `h` (R318). -/
abbrev hostAt (h : Nat) : Nat := 0x02000000 + h / 8 * 0x10000 + h % 8 * 0x100
/-- Port table entry `n` (R318). -/
abbrev portAt (n : Nat) : Nat := 0x03000000 + n * 0x40
/-- Control block of Hewer `n`: the face Hewers at +0xC_0000, H16 in Survey, H17 in Foreman (R318, R320). -/
abbrev hwAt (n : Nat) : Nat :=
  if n < 16 then faceAt n 0xC0000 else if n = 16 then 0x002C0000 else 0x001C0000
/-- Temperature set `i` of physical lane `q` (R379). -/
abbrev setAt (q i : Nat) : Nat := 0x00201000 + q * 0x1400 + i * 0x400

abbrev RELIEF_STATE (f : Nat) : Nat := faceAt f (0xF0000 + 0x40)
abbrev RELIEF_STATE_RELIEF_OK (f : Nat) : Fld := ⟨RELIEF_STATE f, 31, 1⟩
abbrev RELIEF_STATE_RELIEF_DP (f : Nat) : Fld := ⟨RELIEF_STATE f, 27, 4⟩
abbrev RELIEF_STATE_DP_SEALED (f : Nat) : Fld := ⟨RELIEF_STATE f, 18, 9⟩
abbrev RELIEF_STATE_LANE_SEALED (f : Nat) : Fld := ⟨RELIEF_STATE f, 9, 9⟩
abbrev RELIEF_STATE_SLICE_RELIEF_USED (f : Nat) : Fld := ⟨RELIEF_STATE f, 0, 9⟩
abbrev PLAN_STATUS : Nat := 0x200
abbrev PLAN_STATUS_SOURCE : Fld := ⟨PLAN_STATUS, 28, 4⟩
abbrev PLAN_STATUS_STATE : Fld := ⟨PLAN_STATUS, 24, 4⟩
abbrev PLAN_STATUS_LAST_ERROR : Fld := ⟨PLAN_STATUS, 16, 8⟩
abbrev PLAN_STATUS_SLOT_A_VALID : Fld := ⟨PLAN_STATUS, 15, 1⟩
abbrev PLAN_STATUS_SLOT_B_VALID : Fld := ⟨PLAN_STATUS, 14, 1⟩
abbrev PLAN_STATUS_FALLBACK : Fld := ⟨PLAN_STATUS, 13, 1⟩
abbrev PLAN_STATUS_REPLAN_FACE : Fld := ⟨PLAN_STATUS, 8, 5⟩
abbrev PLAN_COUNTER : Nat := 0x204
abbrev PLAN_COUNTER_RUNNING : Fld := ⟨PLAN_COUNTER, 24, 8⟩
abbrev PLAN_COUNTER_FLOOR : Fld := ⟨PLAN_COUNTER, 16, 8⟩
abbrev PLAN_COUNTER_SPENT : Fld := ⟨PLAN_COUNTER, 8, 8⟩
abbrev PLAN_ID_LO : Nat := 0x208
abbrev PLAN_ID_LO_ID : Fld := ⟨PLAN_ID_LO, 0, 32⟩
abbrev PLAN_ID_HI : Nat := 0x20c
abbrev PLAN_ID_HI_ID : Fld := ⟨PLAN_ID_HI, 0, 32⟩
abbrev PLAN_STAGE_PTR : Nat := 0x210
abbrev PLAN_STAGE_PTR_RELEASE : Fld := ⟨PLAN_STAGE_PTR, 31, 1⟩
abbrev PLAN_STAGE_PTR_CLAIMED : Fld := ⟨PLAN_STAGE_PTR, 30, 1⟩
abbrev PLAN_STAGE_PTR_PTR : Fld := ⟨PLAN_STAGE_PTR, 0, 24⟩
abbrev PLAN_STAGE_DATA : Nat := 0x214
abbrev PLAN_STAGE_DATA_DATA : Fld := ⟨PLAN_STAGE_DATA, 0, 32⟩
abbrev LANE_MAP_RX (f : Nat) : Nat := faceAt f (0xF0000 + 0x0)
abbrev LANE_MAP_RX_P7_DP (f : Nat) : Fld := ⟨LANE_MAP_RX f, 28, 4⟩
abbrev LANE_MAP_RX_P6_DP (f : Nat) : Fld := ⟨LANE_MAP_RX f, 24, 4⟩
abbrev LANE_MAP_RX_P5_DP (f : Nat) : Fld := ⟨LANE_MAP_RX f, 20, 4⟩
abbrev LANE_MAP_RX_P4_DP (f : Nat) : Fld := ⟨LANE_MAP_RX f, 16, 4⟩
abbrev LANE_MAP_RX_P3_DP (f : Nat) : Fld := ⟨LANE_MAP_RX f, 12, 4⟩
abbrev LANE_MAP_RX_P2_DP (f : Nat) : Fld := ⟨LANE_MAP_RX f, 8, 4⟩
abbrev LANE_MAP_RX_P1_DP (f : Nat) : Fld := ⟨LANE_MAP_RX f, 4, 4⟩
abbrev LANE_MAP_RX_P0_DP (f : Nat) : Fld := ⟨LANE_MAP_RX f, 0, 4⟩
abbrev LANE_MAP_AUX (f : Nat) : Nat := faceAt f (0xF0000 + 0x4)
abbrev LANE_MAP_AUX_GEN (f : Nat) : Fld := ⟨LANE_MAP_AUX f, 24, 8⟩
abbrev LANE_MAP_AUX_SHADOW_LANE (f : Nat) : Fld := ⟨LANE_MAP_AUX f, 12, 4⟩
abbrev LANE_MAP_AUX_P8_DP (f : Nat) : Fld := ⟨LANE_MAP_AUX f, 0, 4⟩
abbrev POS_MAP (f : Nat) : Nat := faceAt f (0xF0000 + 0x8)
abbrev POS_MAP_K7_LANE (f : Nat) : Fld := ⟨POS_MAP f, 28, 4⟩
abbrev POS_MAP_K6_LANE (f : Nat) : Fld := ⟨POS_MAP f, 24, 4⟩
abbrev POS_MAP_K5_LANE (f : Nat) : Fld := ⟨POS_MAP f, 20, 4⟩
abbrev POS_MAP_K4_LANE (f : Nat) : Fld := ⟨POS_MAP f, 16, 4⟩
abbrev POS_MAP_K3_LANE (f : Nat) : Fld := ⟨POS_MAP f, 12, 4⟩
abbrev POS_MAP_K2_LANE (f : Nat) : Fld := ⟨POS_MAP f, 8, 4⟩
abbrev POS_MAP_K1_LANE (f : Nat) : Fld := ⟨POS_MAP f, 4, 4⟩
abbrev POS_MAP_K0_LANE (f : Nat) : Fld := ⟨POS_MAP f, 0, 4⟩
abbrev LANE_ACQ_CTRL (f p : Nat) : Nat := laneAt f p + 0x0
abbrev LANE_ACQ_CTRL_RESTART (f p : Nat) : Fld := ⟨LANE_ACQ_CTRL f p, 31, 1⟩
abbrev LANE_ACQ_CTRL_CLIP_EN (f p : Nat) : Fld := ⟨LANE_ACQ_CTRL f p, 11, 1⟩
abbrev LANE_ACQ_CTRL_STEP_EN (f p : Nat) : Fld := ⟨LANE_ACQ_CTRL f p, 10, 1⟩
abbrev LANE_ACQ_CTRL_RELOCK_EN (f p : Nat) : Fld := ⟨LANE_ACQ_CTRL f p, 9, 1⟩
abbrev LANE_ACQ_CTRL_MODE_EN (f p : Nat) : Fld := ⟨LANE_ACQ_CTRL f p, 0, 4⟩
abbrev LANE_ACQ_STATUS (f p : Nat) : Nat := laneAt f p + 0x4
abbrev LANE_ACQ_STATUS_STATE (f p : Nat) : Fld := ⟨LANE_ACQ_STATUS f p, 28, 4⟩
abbrev LANE_ACQ_STATUS_MODE (f p : Nat) : Fld := ⟨LANE_ACQ_STATUS f p, 25, 3⟩
abbrev LANE_ACQ_STATUS_LOCKED (f p : Nat) : Fld := ⟨LANE_ACQ_STATUS f p, 24, 1⟩
abbrev LANE_ACQ_STATUS_MODE_MISMATCH (f p : Nat) : Fld := ⟨LANE_ACQ_STATUS f p, 23, 1⟩
abbrev LANE_ACQ_STATUS_LAST_LOSS (f p : Nat) : Fld := ⟨LANE_ACQ_STATUS f p, 19, 4⟩
abbrev LANE_ACQ_STATUS_ATTEMPTS (f p : Nat) : Fld := ⟨LANE_ACQ_STATUS f p, 8, 8⟩
abbrev LANE_ACQ_STATUS_FALSE_LOCKS (f p : Nat) : Fld := ⟨LANE_ACQ_STATUS f p, 0, 8⟩
abbrev LANE_AGC (f p : Nat) : Nat := laneAt f p + 0x8
abbrev LANE_AGC_TARGET (f p : Nat) : Fld := ⟨LANE_AGC f p, 16, 8⟩
abbrev LANE_AGC_AT_LIMIT (f p : Nat) : Fld := ⟨LANE_AGC f p, 8, 1⟩
abbrev LANE_AGC_FROZEN (f p : Nat) : Fld := ⟨LANE_AGC f p, 7, 1⟩
abbrev LANE_AGC_GAIN (f p : Nat) : Fld := ⟨LANE_AGC f p, 0, 7⟩
abbrev LANE_POWER (f p : Nat) : Nat := laneAt f p + 0xc
abbrev LANE_POWER_P_LOCK (f p : Nat) : Fld := ⟨LANE_POWER f p, 16, 16⟩
abbrev LANE_POWER_P_NOW (f p : Nat) : Fld := ⟨LANE_POWER f p, 0, 16⟩
abbrev LANE_EVENTS (f p : Nat) : Nat := laneAt f p + 0x10
abbrev LANE_EVENTS_MODE_CHANGE (f p : Nat) : Fld := ⟨LANE_EVENTS f p, 10, 1⟩
abbrev LANE_EVENTS_RESTART (f p : Nat) : Fld := ⟨LANE_EVENTS f p, 9, 1⟩
abbrev LANE_EVENTS_ACQ_TIMEOUT (f p : Nat) : Fld := ⟨LANE_EVENTS f p, 8, 1⟩
abbrev LANE_EVENTS_FALSE_LOCK (f p : Nat) : Fld := ⟨LANE_EVENTS f p, 7, 1⟩
abbrev LANE_EVENTS_TIMING (f p : Nat) : Fld := ⟨LANE_EVENTS f p, 6, 1⟩
abbrev LANE_EVENTS_CLIP (f p : Nat) : Fld := ⟨LANE_EVENTS f p, 5, 1⟩
abbrev LANE_EVENTS_STEP (f p : Nat) : Fld := ⟨LANE_EVENTS f p, 4, 1⟩
abbrev LANE_EVENTS_DEC_FAIL (f p : Nat) : Fld := ⟨LANE_EVENTS f p, 3, 1⟩
abbrev LANE_EVENTS_AM_LOSS (f p : Nat) : Fld := ⟨LANE_EVENTS f p, 2, 1⟩
abbrev LANE_EVENTS_LOS (f p : Nat) : Fld := ⟨LANE_EVENTS f p, 1, 1⟩
abbrev LANE_EVENTS_LOCK (f p : Nat) : Fld := ⟨LANE_EVENTS f p, 0, 1⟩
abbrev LANE_ACQ_TIME (f p : Nat) : Nat := laneAt f p + 0x14
abbrev LANE_ACQ_TIME_LOCK_TIME (f p : Nat) : Fld := ⟨LANE_ACQ_TIME f p, 0, 32⟩
abbrev LANE_SLICE (f p : Nat) : Nat := laneAt f p + 0x18
abbrev LANE_SLICE_STAND_IN (f p : Nat) : Fld := ⟨LANE_SLICE f p, 31, 1⟩
abbrev LANE_SLICE_REPLACED (f p : Nat) : Fld := ⟨LANE_SLICE f p, 30, 1⟩
abbrev LANE_SLICE_RELIEF_FOR (f p : Nat) : Fld := ⟨LANE_SLICE f p, 24, 6⟩
abbrev LANE_SLICE_FAILING (f p : Nat) : Fld := ⟨LANE_SLICE f p, 16, 1⟩
abbrev LANE_SLICE_FAIL_SLICE (f p : Nat) : Fld := ⟨LANE_SLICE f p, 10, 6⟩
abbrev LANE_CLIP_COUNT (f p : Nat) : Nat := laneAt f p + 0x1c
abbrev LANE_CLIP_COUNT_CLIPS (f p : Nat) : Fld := ⟨LANE_CLIP_COUNT f p, 0, 32⟩
abbrev RXD_STATUS (f d : Nat) : Nat := rxdAt f d + 0x0
abbrev RXD_STATUS_LANE (f d : Nat) : Fld := ⟨RXD_STATUS f d, 28, 4⟩
abbrev RXD_STATUS_ROLE (f d : Nat) : Fld := ⟨RXD_STATUS f d, 25, 3⟩
abbrev RXD_STATUS_OUT_VALID (f d : Nat) : Fld := ⟨RXD_STATUS f d, 24, 1⟩
abbrev RXD_STATUS_MODE (f d : Nat) : Fld := ⟨RXD_STATUS f d, 21, 3⟩
abbrev RXD_STATUS_CORR_LOADED (f d : Nat) : Fld := ⟨RXD_STATUS f d, 20, 1⟩
abbrev RXD_STATUS_CORR_TEMP (f d : Nat) : Fld := ⟨RXD_STATUS f d, 8, 12⟩
abbrev RXD_STATUS_SET_LO (f d : Nat) : Fld := ⟨RXD_STATUS f d, 5, 3⟩
abbrev RXD_STATUS_SET_HI (f d : Nat) : Fld := ⟨RXD_STATUS f d, 2, 3⟩
abbrev SLICE_CORR_A (f d s : Nat) : Nat := rxdAt f d + 0x100 + s * 0x10
abbrev SLICE_CORR_A_GAIN (f d s : Nat) : Fld := ⟨SLICE_CORR_A f d s, 16, 16⟩
abbrev SLICE_CORR_A_OFFSET (f d s : Nat) : Fld := ⟨SLICE_CORR_A f d s, 0, 16⟩
abbrev SLICE_CORR_B (f d s : Nat) : Nat := rxdAt f d + 0x104 + s * 0x10
abbrev SLICE_CORR_B_BW (f d s : Nat) : Fld := ⟨SLICE_CORR_B f d s, 16, 16⟩
abbrev SLICE_CORR_B_SKEW (f d s : Nat) : Fld := ⟨SLICE_CORR_B f d s, 0, 16⟩
abbrev EQ_BANK_HDR (f d b : Nat) : Nat := rxdAt f d + 0x1000 + b * 0x800
abbrev EQ_BANK_HDR_TAG (f d b : Nat) : Fld := ⟨EQ_BANK_HDR f d b, 24, 8⟩
abbrev EQ_BANK_HDR_E_C (f d b : Nat) : Fld := ⟨EQ_BANK_HDR f d b, 0, 4⟩
abbrev EQ_COEF (f d b k : Nat) : Nat := rxdAt f d + 0x1004 + b * 0x800 + k * 0x4
abbrev EQ_COEF_IMAG (f d b k : Nat) : Fld := ⟨EQ_COEF f d b k, 16, 16⟩
abbrev EQ_COEF_REAL (f d b k : Nat) : Fld := ⟨EQ_COEF f d b k, 0, 16⟩
abbrev EQ_BANK_CTRL (f d : Nat) : Nat := rxdAt f d + 0x10
abbrev EQ_BANK_CTRL_SWAP_EQ (f d : Nat) : Fld := ⟨EQ_BANK_CTRL f d, 31, 1⟩
abbrev EQ_BANK_CTRL_SWAP_MLSE (f d : Nat) : Fld := ⟨EQ_BANK_CTRL f d, 30, 1⟩
abbrev EQ_BANK_CTRL_ACTIVE_EQ (f d : Nat) : Fld := ⟨EQ_BANK_CTRL f d, 25, 1⟩
abbrev EQ_BANK_CTRL_ACTIVE_MLSE (f d : Nat) : Fld := ⟨EQ_BANK_CTRL f d, 24, 1⟩
abbrev EQ_BANK_CTRL_SWAP_COUNT (f d : Nat) : Fld := ⟨EQ_BANK_CTRL f d, 16, 8⟩
abbrev EQ_BANK_CTRL_ACTIVE_TAG (f d : Nat) : Fld := ⟨EQ_BANK_CTRL f d, 8, 8⟩
abbrev EQ_BANK_CTRL_UE (f d : Nat) : Fld := ⟨EQ_BANK_CTRL f d, 3, 1⟩
abbrev EQ_BANK_CTRL_ACTIVE_WR (f d : Nat) : Fld := ⟨EQ_BANK_CTRL f d, 2, 1⟩
abbrev EQ_BANK_CTRL_SWAP_OVERRUN (f d : Nat) : Fld := ⟨EQ_BANK_CTRL f d, 1, 1⟩
abbrev EQ_EXP (f d : Nat) : Nat := rxdAt f d + 0x14
abbrev EQ_EXP_E_F (f d : Nat) : Fld := ⟨EQ_EXP f d, 25, 5⟩
abbrev EQ_EXP_E_I (f d : Nat) : Fld := ⟨EQ_EXP f d, 20, 5⟩
abbrev EQ_EXP_E_C (f d : Nat) : Fld := ⟨EQ_EXP f d, 16, 4⟩
abbrev EQ_EXP_SHIFT (f d : Nat) : Fld := ⟨EQ_EXP f d, 8, 8⟩
abbrev EQ_EXP_RANGE (f d : Nat) : Nat := rxdAt f d + 0x18
abbrev EQ_EXP_RANGE_EF_MIN (f d : Nat) : Fld := ⟨EQ_EXP_RANGE f d, 27, 5⟩
abbrev EQ_EXP_RANGE_EF_MAX (f d : Nat) : Fld := ⟨EQ_EXP_RANGE f d, 22, 5⟩
abbrev EQ_EXP_RANGE_EI_MIN (f d : Nat) : Fld := ⟨EQ_EXP_RANGE f d, 17, 5⟩
abbrev EQ_EXP_RANGE_EI_MAX (f d : Nat) : Fld := ⟨EQ_EXP_RANGE f d, 12, 5⟩
abbrev EQ_EXP_RANGE_SAT_COUNT (f d : Nat) : Fld := ⟨EQ_EXP_RANGE f d, 4, 8⟩
abbrev EQ_EXP_RANGE_RESTART (f d : Nat) : Fld := ⟨EQ_EXP_RANGE f d, 0, 1⟩
abbrev GRAD_CTRL (f d : Nat) : Nat := rxdAt f d + 0x1c
abbrev GRAD_CTRL_READY (f d : Nat) : Fld := ⟨GRAD_CTRL f d, 31, 1⟩
abbrev GRAD_CTRL_OVERRUN (f d : Nat) : Fld := ⟨GRAD_CTRL f d, 30, 1⟩
abbrev GRAD_CTRL_ENABLE (f d : Nat) : Fld := ⟨GRAD_CTRL f d, 29, 1⟩
abbrev GRAD_CTRL_ERR_SRC (f d : Nat) : Fld := ⟨GRAD_CTRL f d, 28, 1⟩
abbrev GRAD_CTRL_LOG2_BLOCKS (f d : Nat) : Fld := ⟨GRAD_CTRL f d, 24, 4⟩
abbrev GRAD_CTRL_LEVEL (f d : Nat) : Fld := ⟨GRAD_CTRL f d, 0, 12⟩
abbrev TR_CTRL (f d : Nat) : Nat := rxdAt f d + 0x20
abbrev TR_CTRL_KI (f d : Nat) : Fld := ⟨TR_CTRL f d, 8, 5⟩
abbrev TR_CTRL_KP (f d : Nat) : Fld := ⟨TR_CTRL f d, 0, 4⟩
abbrev TR_STATUS (f d : Nat) : Nat := rxdAt f d + 0x24
abbrev TR_STATUS_FREQ (f d : Nat) : Fld := ⟨TR_STATUS f d, 16, 16⟩
abbrev TR_STATUS_PHASE (f d : Nat) : Fld := ⟨TR_STATUS f d, 8, 8⟩
abbrev TR_STATUS_F_LIMIT (f d : Nat) : Fld := ⟨TR_STATUS f d, 7, 1⟩
abbrev TR_STATUS_P_LIMIT (f d : Nat) : Fld := ⟨TR_STATUS f d, 6, 1⟩
abbrev TR_STATUS_STEER (f d : Nat) : Fld := ⟨TR_STATUS f d, 5, 1⟩
abbrev DET_CTRL (f d : Nat) : Nat := rxdAt f d + 0x28
abbrev DET_CTRL_MLSE_ON (f d : Nat) : Fld := ⟨DET_CTRL f d, 31, 1⟩
abbrev DET_CTRL_NOISE_VAR (f d : Nat) : Fld := ⟨DET_CTRL f d, 0, 16⟩
abbrev EQ_CONV (f d : Nat) : Nat := rxdAt f d + 0x2c
abbrev EQ_CONV_DONE (f d : Nat) : Fld := ⟨EQ_CONV f d, 31, 1⟩
abbrev EQ_CONV_FAIL (f d : Nat) : Fld := ⟨EQ_CONV f d, 30, 1⟩
abbrev EQ_CONV_PHASE (f d : Nat) : Fld := ⟨EQ_CONV f d, 24, 4⟩
abbrev QUAL_SNR (f d : Nat) : Nat := rxdAt f d + 0x40
abbrev QUAL_SNR_SNR_DET (f d : Nat) : Fld := ⟨QUAL_SNR f d, 16, 16⟩
abbrev QUAL_SNR_WINDOWS (f d : Nat) : Fld := ⟨QUAL_SNR f d, 0, 16⟩
abbrev QUAL_MARGIN (f d : Nat) : Nat := rxdAt f d + 0x44
abbrev QUAL_MARGIN_MARGIN_NOW (f d : Nat) : Fld := ⟨QUAL_MARGIN f d, 16, 16⟩
abbrev QUAL_MARGIN_MARGIN_NEXT (f d : Nat) : Fld := ⟨QUAL_MARGIN f d, 0, 16⟩
abbrev QUAL_LEVEL (f d i : Nat) : Nat := rxdAt f d + 0x48 + i * 0x4
abbrev QUAL_LEVEL_MEAN (f d i : Nat) : Fld := ⟨QUAL_LEVEL f d i, 16, 16⟩
abbrev QUAL_LEVEL_SIGMA (f d i : Nat) : Fld := ⟨QUAL_LEVEL f d i, 0, 16⟩
abbrev LANE_EFFORT (f p : Nat) : Nat := laneAt f p + 0x20
abbrev LANE_EFFORT_CURRENT (f p : Nat) : Fld := ⟨LANE_EFFORT f p, 26, 2⟩
abbrev LANE_EFFORT_PENDING (f p : Nat) : Fld := ⟨LANE_EFFORT f p, 24, 2⟩
abbrev LANE_EFFORT_PEND (f p : Nat) : Fld := ⟨LANE_EFFORT f p, 23, 1⟩
abbrev LANE_EFFORT_CAP (f p : Nat) : Fld := ⟨LANE_EFFORT f p, 18, 2⟩
abbrev LANE_EFFORT_CHANGES (f p : Nat) : Fld := ⟨LANE_EFFORT f p, 0, 8⟩
abbrev CODE_STATUS (f d : Nat) : Nat := rxdAt f d + 0x4000
abbrev CODE_STATUS_SYNC (f d : Nat) : Fld := ⟨CODE_STATUS f d, 31, 1⟩
abbrev CODE_STATUS_INVERTED (f d : Nat) : Fld := ⟨CODE_STATUS f d, 30, 1⟩
abbrev CODE_STATUS_AM_LOCK (f d : Nat) : Fld := ⟨CODE_STATUS f d, 29, 1⟩
abbrev CODE_STATUS_OUTER_UE (f d : Nat) : Fld := ⟨CODE_STATUS f d, 28, 1⟩
abbrev CODE_STATUS_WRAPPED (f d : Nat) : Fld := ⟨CODE_STATUS f d, 27, 1⟩
abbrev CODE_STATUS_RESYNCS (f d : Nat) : Fld := ⟨CODE_STATUS f d, 16, 8⟩
abbrev CODE_STATUS_OFFSET (f d : Nat) : Fld := ⟨CODE_STATUS f d, 0, 7⟩
abbrev CNT_CTRL (f d : Nat) : Nat := rxdAt f d + 0x4004
abbrev CNT_CTRL_CLEAR (f d : Nat) : Fld := ⟨CNT_CTRL f d, 31, 1⟩
abbrev TXD_STATUS (f d : Nat) : Nat := txdAt f d + 0x0
abbrev TXD_STATUS_LANE (f d : Nat) : Fld := ⟨TXD_STATUS f d, 28, 4⟩
abbrev TXD_STATUS_ROLE (f d : Nat) : Fld := ⟨TXD_STATUS f d, 25, 3⟩
abbrev TXD_STATUS_EMIT (f d : Nat) : Fld := ⟨TXD_STATUS f d, 24, 1⟩
abbrev TXD_STATUS_MODE (f d : Nat) : Fld := ⟨TXD_STATUS f d, 21, 3⟩
abbrev TXD_STATUS_APPLY_COUNT (f d : Nat) : Fld := ⟨TXD_STATUS f d, 8, 8⟩
abbrev TXD_STATUS_SAT_COUNT (f d : Nat) : Fld := ⟨TXD_STATUS f d, 0, 8⟩
abbrev TXD_CTRL (f d : Nat) : Nat := txdAt f d + 0x4
abbrev TXD_CTRL_APPLY (f d : Nat) : Fld := ⟨TXD_CTRL f d, 31, 1⟩
abbrev TXD_CTRL_INVERT (f d : Nat) : Fld := ⟨TXD_CTRL f d, 30, 1⟩
abbrev TXD_CTRL_SCALE (f d : Nat) : Fld := ⟨TXD_CTRL f d, 0, 8⟩
abbrev TXD_FIR (f d j : Nat) : Nat := txdAt f d + 0x10 + j * 0x4
abbrev TXD_FIR_TAP (f d j : Nat) : Fld := ⟨TXD_FIR f d j, 0, 10⟩
abbrev TXD_PD (f d x : Nat) : Nat := txdAt f d + 0x100 + x * 0x4
abbrev TXD_PD_CORR (f d x : Nat) : Fld := ⟨TXD_PD f d x, 0, 8⟩
abbrev LANE_MAP_TX (f : Nat) : Nat := faceAt f (0xF0000 + 0xc)
abbrev LANE_MAP_TX_P7_DP (f : Nat) : Fld := ⟨LANE_MAP_TX f, 28, 4⟩
abbrev LANE_MAP_TX_P6_DP (f : Nat) : Fld := ⟨LANE_MAP_TX f, 24, 4⟩
abbrev LANE_MAP_TX_P5_DP (f : Nat) : Fld := ⟨LANE_MAP_TX f, 20, 4⟩
abbrev LANE_MAP_TX_P4_DP (f : Nat) : Fld := ⟨LANE_MAP_TX f, 16, 4⟩
abbrev LANE_MAP_TX_P3_DP (f : Nat) : Fld := ⟨LANE_MAP_TX f, 12, 4⟩
abbrev LANE_MAP_TX_P2_DP (f : Nat) : Fld := ⟨LANE_MAP_TX f, 8, 4⟩
abbrev LANE_MAP_TX_P1_DP (f : Nat) : Fld := ⟨LANE_MAP_TX f, 4, 4⟩
abbrev LANE_MAP_TX_P0_DP (f : Nat) : Fld := ⟨LANE_MAP_TX f, 0, 4⟩
abbrev LANE_MAP_TX_AUX (f : Nat) : Nat := faceAt f (0xF0000 + 0x10)
abbrev LANE_MAP_TX_AUX_TX_RELIEF (f : Nat) : Fld := ⟨LANE_MAP_TX_AUX f, 28, 4⟩
abbrev LANE_MAP_TX_AUX_TX_SEALED (f : Nat) : Fld := ⟨LANE_MAP_TX_AUX f, 19, 9⟩
abbrev LANE_MAP_TX_AUX_PARALLEL_LANE (f : Nat) : Fld := ⟨LANE_MAP_TX_AUX f, 12, 4⟩
abbrev LANE_MAP_TX_AUX_P8_DP (f : Nat) : Fld := ⟨LANE_MAP_TX_AUX f, 0, 4⟩
abbrev OPT_CTRL (f : Nat) : Nat := faceAt f (0xA0000 + 0x0)
abbrev OPT_CTRL_TARGET (f : Nat) : Fld := ⟨OPT_CTRL f, 29, 3⟩
abbrev OPT_CTRL_TX_LANE_EN (f : Nat) : Fld := ⟨OPT_CTRL f, 0, 9⟩
abbrev OPT_STATUS (f : Nat) : Nat := faceAt f (0xA0000 + 0x4)
abbrev OPT_STATUS_STATE (f : Nat) : Fld := ⟨OPT_STATUS f, 29, 3⟩
abbrev OPT_STATUS_TRANSIT (f : Nat) : Fld := ⟨OPT_STATUS f, 28, 1⟩
abbrev OPT_STATUS_PLL_LOCK (f : Nat) : Fld := ⟨OPT_STATUS f, 24, 1⟩
abbrev OPT_STATUS_PENDING (f : Nat) : Fld := ⟨OPT_STATUS f, 23, 1⟩
abbrev OPT_STATUS_RESULT (f : Nat) : Fld := ⟨OPT_STATUS f, 8, 8⟩
abbrev OPT_STATUS_EYE_TRIP (f : Nat) : Fld := ⟨OPT_STATUS f, 7, 1⟩
abbrev OPT_STATUS_FSB_FAULT (f : Nat) : Fld := ⟨OPT_STATUS f, 6, 1⟩
abbrev OPT_STATUS_ELS_WAIT (f : Nat) : Fld := ⟨OPT_STATUS f, 5, 1⟩
abbrev OPT_STATUS_ELS_LOST (f : Nat) : Fld := ⟨OPT_STATUS f, 4, 1⟩
abbrev OPT_STATUS_RAMP_STEP (f : Nat) : Fld := ⟨OPT_STATUS f, 0, 4⟩
abbrev FSB_STATS (f : Nat) : Nat := faceAt f (0xA0000 + 0x8)
abbrev FSB_STATS_EXCHANGES (f : Nat) : Fld := ⟨FSB_STATS f, 16, 16⟩
abbrev FSB_STATS_CRC_ERRS (f : Nat) : Fld := ⟨FSB_STATS f, 8, 8⟩
abbrev FSB_STATS_NAKS (f : Nat) : Fld := ⟨FSB_STATS f, 0, 8⟩
abbrev OPT_LIM_A (f : Nat) : Nat := faceAt f (0xA0000 + 0x40)
abbrev OPT_LIM_A_MAX_LASER_I (f : Nat) : Fld := ⟨OPT_LIM_A f, 24, 8⟩
abbrev OPT_LIM_A_MAX_LAUNCH (f : Nat) : Fld := ⟨OPT_LIM_A f, 16, 8⟩
abbrev OPT_LIM_A_EYE_TRIP (f : Nat) : Fld := ⟨OPT_LIM_A f, 8, 8⟩
abbrev OPT_LIM_A_MAX_DRV_SWING (f : Nat) : Fld := ⟨OPT_LIM_A f, 0, 8⟩
abbrev OPT_LIM_B (f : Nat) : Nat := faceAt f (0xA0000 + 0x44)
abbrev OPT_LIM_B_CLASS (f : Nat) : Fld := ⟨OPT_LIM_B f, 28, 4⟩
abbrev OPT_LIM_B_LASER_SOURCE (f : Nat) : Fld := ⟨OPT_LIM_B f, 27, 1⟩
abbrev OPT_LIM_B_LANES_PERMITTED (f : Nat) : Fld := ⟨OPT_LIM_B f, 18, 9⟩
abbrev OPT_LIM_B_MPD_RESP (f : Nat) : Fld := ⟨OPT_LIM_B f, 0, 16⟩
abbrev OPT_LANE_A (f p : Nat) : Nat := faceAt f (0xA0000 + 0x100) + p * 0x10
abbrev OPT_LANE_A_LASER_BIAS (f p : Nat) : Fld := ⟨OPT_LANE_A f p, 24, 8⟩
abbrev OPT_LANE_A_DRV_SWING (f p : Nat) : Fld := ⟨OPT_LANE_A f p, 16, 8⟩
abbrev OPT_LANE_A_DRV_BIAS (f p : Nat) : Fld := ⟨OPT_LANE_A f p, 8, 8⟩
abbrev OPT_LANE_A_TIA_GAIN (f p : Nat) : Fld := ⟨OPT_LANE_A f p, 0, 8⟩
abbrev OPT_LANE_B (f p : Nat) : Nat := faceAt f (0xA0000 + 0x104) + p * 0x10
abbrev OPT_LANE_B_MPD_PWR (f p : Nat) : Fld := ⟨OPT_LANE_B f p, 16, 16⟩
abbrev OPT_LANE_B_AGE (f p : Nat) : Fld := ⟨OPT_LANE_B f p, 8, 8⟩
abbrev ELS_BANK (b : Nat) : Nat := 0x300 + b * 0x4
abbrev ELS_BANK_REQ (b : Nat) : Fld := ⟨ELS_BANK b, 31, 1⟩
abbrev ELS_BANK_GNT (b : Nat) : Fld := ⟨ELS_BANK b, 30, 1⟩
abbrev ELS_BANK_LOST (b : Nat) : Fld := ⟨ELS_BANK b, 29, 1⟩
abbrev ELS_BANK_TIMEOUT (b : Nat) : Fld := ⟨ELS_BANK b, 28, 1⟩
abbrev ELS_BANK_GRANT_TIMEOUT (b : Nat) : Fld := ⟨ELS_BANK b, 0, 16⟩
abbrev HL_CTRL (h : Nat) : Nat := hostAt h + 0x0
abbrev HL_CTRL_RESTART (h : Nat) : Fld := ⟨HL_CTRL h, 31, 1⟩
abbrev HL_CTRL_POL_MODE (h : Nat) : Fld := ⟨HL_CTRL h, 29, 2⟩
abbrev HL_CTRL_TX_INVERT (h : Nat) : Fld := ⟨HL_CTRL h, 28, 1⟩
abbrev HL_CTRL_TRAIN_TIMEOUT (h : Nat) : Fld := ⟨HL_CTRL h, 16, 8⟩
abbrev HL_CTRL_TX_PRESET (h : Nat) : Fld := ⟨HL_CTRL h, 0, 3⟩
abbrev HL_STATUS (h : Nat) : Nat := hostAt h + 0x4
abbrev HL_STATUS_STAGE (h : Nat) : Fld := ⟨HL_STATUS h, 28, 4⟩
abbrev HL_STATUS_SIG_DET (h : Nat) : Fld := ⟨HL_STATUS h, 27, 1⟩
abbrev HL_STATUS_CDR_LOCK (h : Nat) : Fld := ⟨HL_STATUS h, 26, 1⟩
abbrev HL_STATUS_RX_INVERTED (h : Nat) : Fld := ⟨HL_STATUS h, 25, 1⟩
abbrev HL_STATUS_AM_LOCK (h : Nat) : Fld := ⟨HL_STATUS h, 24, 1⟩
abbrev HL_STATUS_FIRST_PCS (h : Nat) : Fld := ⟨HL_STATUS h, 16, 8⟩
abbrev HL_STATUS_POSITION (h : Nat) : Fld := ⟨HL_STATUS h, 8, 8⟩
abbrev HL_STATUS_TRAIN (h : Nat) : Fld := ⟨HL_STATUS h, 6, 2⟩
abbrev HL_EVENTS (h : Nat) : Nat := hostAt h + 0x8
abbrev HL_EVENTS_TRAIN_FAIL (h : Nat) : Fld := ⟨HL_EVENTS h, 6, 1⟩
abbrev HL_EVENTS_POL_FAIL (h : Nat) : Fld := ⟨HL_EVENTS h, 5, 1⟩
abbrev HL_EVENTS_AM_LOSS (h : Nat) : Fld := ⟨HL_EVENTS h, 4, 1⟩
abbrev HL_EVENTS_CDR_LOSS (h : Nat) : Fld := ⟨HL_EVENTS h, 3, 1⟩
abbrev HL_EVENTS_LOS (h : Nat) : Fld := ⟨HL_EVENTS h, 2, 1⟩
abbrev HL_EVENTS_AM_FAIL (h : Nat) : Fld := ⟨HL_EVENTS h, 1, 1⟩
abbrev HL_EVENTS_READY (h : Nat) : Fld := ⟨HL_EVENTS h, 0, 1⟩
abbrev HL_SKEW (h : Nat) : Nat := hostAt h + 0xc
abbrev HL_SKEW_SKEW_UI (h : Nat) : Fld := ⟨HL_SKEW h, 0, 16⟩
abbrev HL_PRBS_CTRL (h : Nat) : Nat := hostAt h + 0x20
abbrev HL_PRBS_CTRL_GEN_EN (h : Nat) : Fld := ⟨HL_PRBS_CTRL h, 31, 1⟩
abbrev HL_PRBS_CTRL_GEN_PAT (h : Nat) : Fld := ⟨HL_PRBS_CTRL h, 30, 1⟩
abbrev HL_PRBS_CTRL_INJECT (h : Nat) : Fld := ⟨HL_PRBS_CTRL h, 29, 1⟩
abbrev HL_PRBS_CTRL_CHK_EN (h : Nat) : Fld := ⟨HL_PRBS_CTRL h, 23, 1⟩
abbrev HL_PRBS_CTRL_CHK_PAT (h : Nat) : Fld := ⟨HL_PRBS_CTRL h, 22, 1⟩
abbrev HL_PRBS_CTRL_CLEAR (h : Nat) : Fld := ⟨HL_PRBS_CTRL h, 21, 1⟩
abbrev RXD_PRBS_CTRL (f d : Nat) : Nat := rxdAt f d + 0x4200
abbrev RXD_PRBS_CTRL_CHK_EN (f d : Nat) : Fld := ⟨RXD_PRBS_CTRL f d, 23, 1⟩
abbrev RXD_PRBS_CTRL_CHK_PAT (f d : Nat) : Fld := ⟨RXD_PRBS_CTRL f d, 22, 1⟩
abbrev RXD_PRBS_CTRL_CLEAR (f d : Nat) : Fld := ⟨RXD_PRBS_CTRL f d, 21, 1⟩
abbrev TXD_PRBS_CTRL (f d : Nat) : Nat := txdAt f d + 0x200
abbrev TXD_PRBS_CTRL_GEN_EN (f d : Nat) : Fld := ⟨TXD_PRBS_CTRL f d, 31, 1⟩
abbrev TXD_PRBS_CTRL_GEN_PAT (f d : Nat) : Fld := ⟨TXD_PRBS_CTRL f d, 30, 1⟩
abbrev TXD_PRBS_CTRL_INJECT (f d : Nat) : Fld := ⟨TXD_PRBS_CTRL f d, 29, 1⟩
abbrev HL_PRBS_STATUS (h : Nat) : Nat := hostAt h + 0x24
abbrev HL_PRBS_STATUS_SYNC (h : Nat) : Fld := ⟨HL_PRBS_STATUS h, 31, 1⟩
abbrev HL_PRBS_STATUS_INVERTED (h : Nat) : Fld := ⟨HL_PRBS_STATUS h, 30, 1⟩
abbrev HL_PRBS_STATUS_RESYNCS (h : Nat) : Fld := ⟨HL_PRBS_STATUS h, 0, 16⟩
abbrev RXD_PRBS_STATUS (f d : Nat) : Nat := rxdAt f d + 0x4204
abbrev RXD_PRBS_STATUS_SYNC (f d : Nat) : Fld := ⟨RXD_PRBS_STATUS f d, 31, 1⟩
abbrev RXD_PRBS_STATUS_INVERTED (f d : Nat) : Fld := ⟨RXD_PRBS_STATUS f d, 30, 1⟩
abbrev RXD_PRBS_STATUS_RESYNCS (f d : Nat) : Fld := ⟨RXD_PRBS_STATUS f d, 0, 16⟩
abbrev PORT_CFG (n : Nat) : Nat := portAt n + 0x0
abbrev PORT_CFG_VALID (n : Nat) : Fld := ⟨PORT_CFG n, 31, 1⟩
abbrev PORT_CFG_FACE (n : Nat) : Fld := ⟨PORT_CFG n, 27, 4⟩
abbrev PORT_CFG_TYPE (n : Nat) : Fld := ⟨PORT_CFG n, 24, 3⟩
abbrev PORT_CFG_FIRST_K (n : Nat) : Fld := ⟨PORT_CFG n, 21, 3⟩
abbrev PORT_CFG_HOST_IF (n : Nat) : Fld := ⟨PORT_CFG n, 20, 1⟩
abbrev PORT_CFG_SEAL_POLICY (n : Nat) : Fld := ⟨PORT_CFG n, 19, 1⟩
abbrev PORT_CFG_FIRST_H (n : Nat) : Fld := ⟨PORT_CFG n, 0, 8⟩
abbrev PORT_CTRL (n : Nat) : Nat := portAt n + 0x4
abbrev PORT_CTRL_ADMIN_UP (n : Nat) : Fld := ⟨PORT_CTRL n, 31, 1⟩
abbrev PORT_CTRL_RESTART (n : Nat) : Fld := ⟨PORT_CTRL n, 30, 1⟩
abbrev PORT_CTRL_CLEAR (n : Nat) : Fld := ⟨PORT_CTRL n, 29, 1⟩
abbrev PORT_STATUS (n : Nat) : Nat := portAt n + 0x8
abbrev PORT_STATUS_UP (n : Nat) : Fld := ⟨PORT_STATUS n, 31, 1⟩
abbrev PORT_STATUS_HOST_READY (n : Nat) : Fld := ⟨PORT_STATUS n, 30, 1⟩
abbrev PORT_STATUS_LINE_READY (n : Nat) : Fld := ⟨PORT_STATUS n, 29, 1⟩
abbrev PORT_STATUS_HOST_FILL (n : Nat) : Fld := ⟨PORT_STATUS n, 28, 1⟩
abbrev PORT_STATUS_LINE_FILL (n : Nat) : Fld := ⟨PORT_STATUS n, 27, 1⟩
abbrev PORT_STATUS_MAX_SKEW (n : Nat) : Fld := ⟨PORT_STATUS n, 16, 8⟩
abbrev PORT_STATUS_FAIL (n : Nat) : Fld := ⟨PORT_STATUS n, 8, 8⟩
abbrev PORT_EVENTS (n : Nat) : Nat := portAt n + 0xc
abbrev PORT_EVENTS_DOWN (n : Nat) : Fld := ⟨PORT_EVENTS n, 3, 1⟩
abbrev PORT_EVENTS_UP (n : Nat) : Fld := ⟨PORT_EVENTS n, 2, 1⟩
abbrev PORT_EVENTS_DESKEW_FAIL (n : Nat) : Fld := ⟨PORT_EVENTS n, 1, 1⟩
abbrev PORT_EVENTS_ORDER_FAIL (n : Nat) : Fld := ⟨PORT_EVENTS n, 0, 1⟩
abbrev SEAM_CTRL (f k : Nat) : Nat := posAt f k + 0x0
abbrev SEAM_CTRL_RETRAIN (f k : Nat) : Fld := ⟨SEAM_CTRL f k, 31, 1⟩
abbrev SEAM_CTRL_RETRY_EN (f k : Nat) : Fld := ⟨SEAM_CTRL f k, 30, 1⟩
abbrev SEAM_CTRL_SF_LIMIT (f k : Nat) : Fld := ⟨SEAM_CTRL f k, 29, 1⟩
abbrev SEAM_CTRL_CLEAR (f k : Nat) : Fld := ⟨SEAM_CTRL f k, 28, 1⟩
abbrev SEAM_CTRL_RETRY_MAX (f k : Nat) : Fld := ⟨SEAM_CTRL f k, 24, 3⟩
abbrev SEAM_STATUS (f k : Nat) : Nat := posAt f k + 0x4
abbrev SEAM_STATUS_STATE (f k : Nat) : Fld := ⟨SEAM_STATUS f k, 29, 3⟩
abbrev SEAM_STATUS_SF (f k : Nat) : Fld := ⟨SEAM_STATUS f k, 27, 2⟩
abbrev SEAM_STATUS_RETRY_ON (f k : Nat) : Fld := ⟨SEAM_STATUS f k, 26, 1⟩
abbrev SEAM_STATUS_RETRY_CAP (f k : Nat) : Fld := ⟨SEAM_STATUS f k, 25, 1⟩
abbrev SEAM_STATUS_LEADER (f k : Nat) : Fld := ⟨SEAM_STATUS f k, 24, 1⟩
abbrev SEAM_STATUS_DEGRADED (f k : Nat) : Fld := ⟨SEAM_STATUS f k, 23, 1⟩
abbrev SEAM_STATUS_FAIL_REASON (f k : Nat) : Fld := ⟨SEAM_STATUS f k, 20, 3⟩
abbrev SEAM_STATUS_RTT_PAIRS (f k : Nat) : Fld := ⟨SEAM_STATUS f k, 12, 8⟩
abbrev SEAM_STATUS_TX_SEQ (f k : Nat) : Fld := ⟨SEAM_STATUS f k, 0, 12⟩
abbrev SEAM_PARTNER (f k : Nat) : Nat := posAt f k + 0x8
abbrev SEAM_PARTNER_FACE_TOKEN (f k : Nat) : Fld := ⟨SEAM_PARTNER f k, 16, 16⟩
abbrev SEAM_PARTNER_POS (f k : Nat) : Fld := ⟨SEAM_PARTNER f k, 13, 3⟩
abbrev SEAM_PARTNER_SF_MAX (f k : Nat) : Fld := ⟨SEAM_PARTNER f k, 9, 4⟩
abbrev SEAM_PARTNER_RETRY_CAP (f k : Nat) : Fld := ⟨SEAM_PARTNER f k, 8, 1⟩
abbrev SEAM_PARTNER_RELIEF_CAP (f k : Nat) : Fld := ⟨SEAM_PARTNER f k, 7, 1⟩
abbrev REPLAY_STATUS (f k : Nat) : Nat := posAt f k + 0xc
abbrev REPLAY_STATUS_RQ_OUT (f k : Nat) : Fld := ⟨REPLAY_STATUS f k, 31, 1⟩
abbrev REPLAY_STATUS_REPLAYING (f k : Nat) : Fld := ⟨REPLAY_STATUS f k, 30, 1⟩
abbrev REPLAY_STATUS_ATTEMPT (f k : Nat) : Fld := ⟨REPLAY_STATUS f k, 27, 3⟩
abbrev REPLAY_STATUS_RQ_SEQ (f k : Nat) : Fld := ⟨REPLAY_STATUS f k, 12, 12⟩
abbrev REPLAY_STATUS_BACKLOG (f k : Nat) : Fld := ⟨REPLAY_STATUS f k, 0, 8⟩
abbrev SEAM_EVENTS (f k : Nat) : Nat := posAt f k + 0x38
abbrev SEAM_EVENTS_DEGRADED (f k : Nat) : Fld := ⟨SEAM_EVENTS f k, 6, 1⟩
abbrev SEAM_EVENTS_UNAVAIL (f k : Nat) : Fld := ⟨SEAM_EVENTS f k, 5, 1⟩
abbrev SEAM_EVENTS_EXHAUSTED (f k : Nat) : Fld := ⟨SEAM_EVENTS f k, 4, 1⟩
abbrev SEAM_EVENTS_RETRY_REFUSED (f k : Nat) : Fld := ⟨SEAM_EVENTS f k, 3, 1⟩
abbrev SEAM_EVENTS_TRAIN_FAIL (f k : Nat) : Fld := ⟨SEAM_EVENTS f k, 2, 1⟩
abbrev SEAM_EVENTS_PERMANENT (f k : Nat) : Fld := ⟨SEAM_EVENTS f k, 1, 1⟩
abbrev SEAM_EVENTS_READY (f k : Nat) : Fld := ⟨SEAM_EVENTS f k, 0, 1⟩
abbrev SEAL_CTRL (f : Nat) : Nat := faceAt f (0xF0000 + 0x2400)
abbrev SEAL_CTRL_EPISODES (f : Nat) : Fld := ⟨SEAL_CTRL f, 16, 16⟩
abbrev SEAL_CTRL_MARGIN_RULE (f : Nat) : Fld := ⟨SEAL_CTRL f, 15, 1⟩
abbrev SEAL_STATUS (f : Nat) : Nat := faceAt f (0xF0000 + 0x2404)
abbrev SEAL_STATUS_HS_STATE (f : Nat) : Fld := ⟨SEAL_STATUS f, 29, 3⟩
abbrev SEAL_STATUS_INITIATOR (f : Nat) : Fld := ⟨SEAL_STATUS f, 28, 1⟩
abbrev SEAL_STATUS_RELIEF_READY (f : Nat) : Fld := ⟨SEAL_STATUS f, 27, 1⟩
abbrev SEAL_STATUS_HS_POS (f : Nat) : Fld := ⟨SEAL_STATUS f, 24, 3⟩
abbrev SEAL_STATUS_RESULT (f : Nat) : Fld := ⟨SEAL_STATUS f, 20, 4⟩
abbrev SEAL_STATUS_SKEW (f : Nat) : Fld := ⟨SEAL_STATUS f, 12, 8⟩
abbrev SEAL_STATUS_SWITCH_SEQ (f : Nat) : Fld := ⟨SEAL_STATUS f, 0, 12⟩
abbrev TAP_CTRL (f : Nat) : Nat := 0x00700000 + f * 0x1000 + 0x0
abbrev TAP_CTRL_RUN (f : Nat) : Fld := ⟨TAP_CTRL f, 31, 1⟩
abbrev TAP_CTRL_SWAP (f : Nat) : Fld := ⟨TAP_CTRL f, 30, 1⟩
abbrev TAP_CTRL_ACTIVE (f : Nat) : Fld := ⟨TAP_CTRL f, 29, 1⟩
abbrev TAP_CTRL_RESTART (f : Nat) : Fld := ⟨TAP_CTRL f, 28, 1⟩
abbrev TAP_CFG (f : Nat) : Nat := 0x00700000 + f * 0x1000 + 0x4
abbrev TAP_CFG_SRC (f : Nat) : Fld := ⟨TAP_CFG f, 28, 4⟩
abbrev TAP_CFG_LANE (f : Nat) : Fld := ⟨TAP_CFG f, 24, 4⟩
abbrev TAP_CFG_K (f : Nat) : Fld := ⟨TAP_CFG f, 19, 5⟩
abbrev TAP_CFG_WIDTH (f : Nat) : Fld := ⟨TAP_CFG f, 18, 1⟩
abbrev TAP_CFG_SHIFT (f : Nat) : Fld := ⟨TAP_CFG f, 15, 3⟩
abbrev TAP_NCO (f : Nat) : Nat := 0x00700000 + f * 0x1000 + 0x8
abbrev TAP_NCO_FREQ (f : Nat) : Fld := ⟨TAP_NCO f, 0, 32⟩
abbrev TAP_STATUS (f : Nat) : Nat := 0x00700000 + f * 0x1000 + 0xc
abbrev TAP_STATUS_STATE (f : Nat) : Fld := ⟨TAP_STATUS f, 29, 3⟩
abbrev TAP_STATUS_SWAP_PEND (f : Nat) : Fld := ⟨TAP_STATUS f, 28, 1⟩
abbrev TAP_STATUS_GEN (f : Nat) : Fld := ⟨TAP_STATUS f, 8, 8⟩
abbrev TAP_STATUS_SAT_COUNT (f : Nat) : Fld := ⟨TAP_STATUS f, 0, 8⟩
abbrev TAP_GDELAY (f : Nat) : Nat := 0x00700000 + f * 0x1000 + 0x10
abbrev TAP_GDELAY_GDELAY (f : Nat) : Fld := ⟨TAP_GDELAY f, 0, 32⟩
abbrev TAP_COEF (f b i : Nat) : Nat := 0x00700000 + f * 0x1000 + 0x400 + b * 0x100 + i * 0x4
abbrev TAP_COEF_H (f b i : Nat) : Fld := ⟨TAP_COEF f b i, 0, 16⟩
abbrev CAP_CTRL (c : Nat) : Nat := 0x00710000 + c * 0x100 + 0x0
abbrev CAP_CTRL_ARM (c : Nat) : Fld := ⟨CAP_CTRL c, 31, 1⟩
abbrev CAP_CTRL_FORCE (c : Nat) : Fld := ⟨CAP_CTRL c, 30, 1⟩
abbrev CAP_CTRL_STOP (c : Nat) : Fld := ⟨CAP_CTRL c, 29, 1⟩
abbrev CAP_CTRL_DISCARD (c : Nat) : Fld := ⟨CAP_CTRL c, 28, 1⟩
abbrev CAP_CFG (c : Nat) : Nat := 0x00710000 + c * 0x100 + 0x4
abbrev CAP_CFG_SRC (c : Nat) : Fld := ⟨CAP_CFG c, 29, 3⟩
abbrev CAP_CFG_FACE (c : Nat) : Fld := ⟨CAP_CFG c, 25, 4⟩
abbrev CAP_CFG_LANE (c : Nat) : Fld := ⟨CAP_CFG c, 21, 4⟩
abbrev CAP_CFG_PRE (c : Nat) : Fld := ⟨CAP_CFG c, 17, 4⟩
abbrev CAP_CFG_GROUP (c : Nat) : Fld := ⟨CAP_CFG c, 16, 1⟩
abbrev CAP_REGION (c : Nat) : Nat := 0x00710000 + c * 0x100 + 0x8
abbrev CAP_REGION_BASE (c : Nat) : Fld := ⟨CAP_REGION c, 8, 6⟩
abbrev CAP_REGION_SIZE (c : Nat) : Fld := ⟨CAP_REGION c, 0, 7⟩
abbrev CAP_TRIG (c : Nat) : Nat := 0x00710000 + c * 0x100 + 0xc
abbrev CAP_TRIG_TRIG_SRC (c : Nat) : Fld := ⟨CAP_TRIG c, 28, 4⟩
abbrev CAP_TRIG_ARG (c : Nat) : Nat := 0x00710000 + c * 0x100 + 0x10
abbrev CAP_TRIG_ARG_ARG (c : Nat) : Fld := ⟨CAP_TRIG_ARG c, 0, 32⟩
abbrev CAP_TRIG_TIME_HI (c : Nat) : Nat := 0x00710000 + c * 0x100 + 0x14
abbrev CAP_TRIG_TIME_HI_TIME_HI (c : Nat) : Fld := ⟨CAP_TRIG_TIME_HI c, 0, 32⟩
abbrev CAP_STATUS (c : Nat) : Nat := 0x00710000 + c * 0x100 + 0x18
abbrev CAP_STATUS_STATE (c : Nat) : Fld := ⟨CAP_STATUS c, 29, 3⟩
abbrev CAP_STATUS_TRUNC (c : Nat) : Fld := ⟨CAP_STATUS c, 28, 1⟩
abbrev CAP_STATUS_SHORT_PRE (c : Nat) : Fld := ⟨CAP_STATUS c, 27, 1⟩
abbrev CAP_STATUS_WRAPPED (c : Nat) : Fld := ⟨CAP_STATUS c, 26, 1⟩
abbrev CAP_STATUS_END (c : Nat) : Fld := ⟨CAP_STATUS c, 0, 20⟩
abbrev CAP_TRIG_STAMP_LO (c : Nat) : Nat := 0x00710000 + c * 0x100 + 0x1c
abbrev CAP_TRIG_STAMP_LO_STAMP_LO (c : Nat) : Fld := ⟨CAP_TRIG_STAMP_LO c, 0, 32⟩
abbrev CAP_TRIG_STAMP_HI (c : Nat) : Nat := 0x00710000 + c * 0x100 + 0x20
abbrev CAP_TRIG_STAMP_HI_STAMP_HI (c : Nat) : Fld := ⟨CAP_TRIG_STAMP_HI c, 0, 32⟩
abbrev CAP_TRIG_POS (c : Nat) : Nat := 0x00710000 + c * 0x100 + 0x24
abbrev CAP_TRIG_POS_POS (c : Nat) : Fld := ⟨CAP_TRIG_POS c, 0, 26⟩
abbrev STREAM_STATUS (s : Nat) : Nat := 0x00720000 + s * 0x40 + 0x0
abbrev STREAM_STATUS_OPEN (s : Nat) : Fld := ⟨STREAM_STATUS s, 31, 1⟩
abbrev STREAM_STATUS_SRC (s : Nat) : Fld := ⟨STREAM_STATUS s, 28, 3⟩
abbrev STREAM_STATUS_INDEX (s : Nat) : Fld := ⟨STREAM_STATUS s, 24, 4⟩
abbrev STREAM_STATUS_LIVE (s : Nat) : Fld := ⟨STREAM_STATUS s, 23, 1⟩
abbrev STREAM_STATUS_PORT (s : Nat) : Fld := ⟨STREAM_STATUS s, 22, 1⟩
abbrev STREAM_STATUS_CREDIT (s : Nat) : Fld := ⟨STREAM_STATUS s, 0, 16⟩
abbrev STREAM_CREDIT (s : Nat) : Nat := 0x00720000 + s * 0x40 + 0x4
abbrev STREAM_CREDIT_ADD (s : Nat) : Fld := ⟨STREAM_CREDIT s, 0, 16⟩
abbrev STREAM_DROPS (s : Nat) : Nat := 0x00720000 + s * 0x40 + 0x8
abbrev STREAM_DROPS_DROPS (s : Nat) : Fld := ⟨STREAM_DROPS s, 0, 32⟩
abbrev ARCH_STATUS : Nat := 0x730000
abbrev ARCH_STATUS_ENTRIES : Fld := ⟨ARCH_STATUS, 24, 8⟩
abbrev ARCH_STATUS_FREE : Fld := ⟨ARCH_STATUS, 0, 24⟩
abbrev ARCH_CTRL : Nat := 0x730004
abbrev ARCH_CTRL_DROP_OLDEST : Fld := ⟨ARCH_CTRL, 31, 1⟩
abbrev HW_CTRL (n : Nat) : Nat := hwAt n + 0x0
abbrev HW_CTRL_RUN (n : Nat) : Fld := ⟨HW_CTRL n, 31, 1⟩
abbrev HW_CTRL_RESET (n : Nat) : Fld := ⟨HW_CTRL n, 30, 1⟩
abbrev HW_CTRL_STEP (n : Nat) : Fld := ⟨HW_CTRL n, 29, 1⟩
abbrev HW_STATUS (n : Nat) : Nat := hwAt n + 0x4
abbrev HW_STATUS_STATE (n : Nat) : Fld := ⟨HW_STATUS n, 29, 3⟩
abbrev HW_STATUS_CAUSE (n : Nat) : Fld := ⟨HW_STATUS n, 24, 5⟩
abbrev HW_STATUS_PC (n : Nat) : Fld := ⟨HW_STATUS n, 0, 16⟩
abbrev HW_WDOG (n : Nat) : Nat := hwAt n + 0x8
abbrev HW_WDOG_PERIOD (n : Nat) : Fld := ⟨HW_WDOG n, 16, 16⟩
abbrev HW_WDOG_KICK (n : Nat) : Fld := ⟨HW_WDOG n, 15, 1⟩
abbrev HW_MBOX_IN (n : Nat) : Nat := hwAt n + 0x10
abbrev HW_MBOX_IN_LANE (n : Nat) : Fld := ⟨HW_MBOX_IN n, 28, 4⟩
abbrev HW_MBOX_IN_DATA (n : Nat) : Fld := ⟨HW_MBOX_IN n, 0, 28⟩
abbrev HW_MBOX_OUT (n : Nat) : Nat := hwAt n + 0x14
abbrev HW_MBOX_OUT_DATA (n : Nat) : Fld := ⟨HW_MBOX_OUT n, 0, 32⟩
abbrev HW_IRQ (n : Nat) : Nat := hwAt n + 0x18
abbrev HW_IRQ_PEND (n : Nat) : Fld := ⟨HW_IRQ n, 16, 8⟩
abbrev HW_IRQ_MASK (n : Nat) : Fld := ⟨HW_IRQ n, 0, 8⟩
abbrev HW_TIMER (n : Nat) : Nat := hwAt n + 0x1c
abbrev HW_TIMER_PERIOD (n : Nat) : Fld := ⟨HW_TIMER n, 0, 32⟩
abbrev HW_ADAPT (n : Nat) : Nat := hwAt n + 0x20
abbrev HW_ADAPT_HOLD (n : Nat) : Fld := ⟨HW_ADAPT n, 31, 1⟩
abbrev HW_ADAPT_ACK (n : Nat) : Fld := ⟨HW_ADAPT n, 30, 1⟩
abbrev HW_BUS_STATUS (n : Nat) : Nat := hwAt n + 0x24
abbrev HW_BUS_STATUS_CODE (n : Nat) : Fld := ⟨HW_BUS_STATUS n, 24, 8⟩
abbrev HW_BUS_ADDR (n : Nat) : Nat := hwAt n + 0x28
abbrev HW_BUS_ADDR_ADDR (n : Nat) : Fld := ⟨HW_BUS_ADDR n, 0, 32⟩
abbrev HW_OVL_SRC_LO (n : Nat) : Nat := hwAt n + 0x30
abbrev HW_OVL_SRC_LO_SRC (n : Nat) : Fld := ⟨HW_OVL_SRC_LO n, 0, 32⟩
abbrev HW_OVL_SRC_HI (n : Nat) : Nat := hwAt n + 0x34
abbrev HW_OVL_SRC_HI_SRC (n : Nat) : Fld := ⟨HW_OVL_SRC_HI n, 0, 4⟩
abbrev HW_OVL_DST (n : Nat) : Nat := hwAt n + 0x38
abbrev HW_OVL_DST_MEM (n : Nat) : Fld := ⟨HW_OVL_DST n, 31, 1⟩
abbrev HW_OVL_DST_OFFSET (n : Nat) : Fld := ⟨HW_OVL_DST n, 0, 17⟩
abbrev HW_OVL_CTRL (n : Nat) : Nat := hwAt n + 0x3c
abbrev HW_OVL_CTRL_START (n : Nat) : Fld := ⟨HW_OVL_CTRL n, 31, 1⟩
abbrev HW_OVL_CTRL_DIR (n : Nat) : Fld := ⟨HW_OVL_CTRL n, 30, 1⟩
abbrev HW_OVL_CTRL_STATUS (n : Nat) : Fld := ⟨HW_OVL_CTRL n, 28, 2⟩
abbrev HW_OVL_CTRL_LEN (n : Nat) : Fld := ⟨HW_OVL_CTRL n, 0, 17⟩
abbrev HW_FW_ID (n : Nat) : Nat := hwAt n + 0x40
abbrev HW_FW_ID_ID (n : Nat) : Fld := ⟨HW_FW_ID n, 0, 32⟩
abbrev CP_CTRL (n : Nat) : Nat := 0x00600000 + n * 0x100 + 0x0
abbrev CP_CTRL_RESTART (n : Nat) : Fld := ⟨CP_CTRL n, 31, 1⟩
abbrev CP_CTRL_CLEAR (n : Nat) : Fld := ⟨CP_CTRL n, 30, 1⟩
abbrev CP_CTRL_RATE_CAP (n : Nat) : Fld := ⟨CP_CTRL n, 0, 2⟩
abbrev CP_STATUS (n : Nat) : Nat := 0x00600000 + n * 0x100 + 0x4
abbrev CP_STATUS_LINK (n : Nat) : Fld := ⟨CP_STATUS n, 31, 1⟩
abbrev CP_STATUS_RATE (n : Nat) : Fld := ⟨CP_STATUS n, 28, 3⟩
abbrev CP_STATUS_PAUSED (n : Nat) : Fld := ⟨CP_STATUS n, 27, 1⟩
abbrev CP_STATUS_JUMBO (n : Nat) : Fld := ⟨CP_STATUS n, 26, 1⟩
abbrev CP_STATUS_SESSIONS (n : Nat) : Fld := ⟨CP_STATUS n, 8, 8⟩
abbrev CP_STATUS_BUF_FILL (n : Nat) : Fld := ⟨CP_STATUS n, 0, 8⟩
abbrev CP_ERRS (n : Nat) : Nat := 0x00600000 + n * 0x100 + 0x8
abbrev CP_ERRS_BAD_TAG (n : Nat) : Fld := ⟨CP_ERRS n, 24, 8⟩
abbrev CP_ERRS_STALE (n : Nat) : Fld := ⟨CP_ERRS n, 16, 8⟩
abbrev CP_ERRS_MALFORMED (n : Nat) : Fld := ⟨CP_ERRS n, 8, 8⟩
abbrev CP_ERRS_OVERFLOW (n : Nat) : Fld := ⟨CP_ERRS n, 0, 8⟩
abbrev TIME_NOW_LO : Nat := 0x600400
abbrev TIME_NOW_LO_TIME : Fld := ⟨TIME_NOW_LO, 0, 32⟩
abbrev TIME_NOW_HI : Nat := 0x600404
abbrev TIME_NOW_HI_TIME : Fld := ⟨TIME_NOW_HI, 0, 32⟩
abbrev TIME_STATUS : Nat := 0x600408
abbrev TIME_STATUS_STATE : Fld := ⟨TIME_STATUS, 29, 3⟩
abbrev TIME_STATUS_PORT : Fld := ⟨TIME_STATUS, 28, 1⟩
abbrev TIME_STATUS_STEPS : Fld := ⟨TIME_STATUS, 16, 8⟩
abbrev TIME_STATUS_OFFSET : Fld := ⟨TIME_STATUS, 0, 16⟩
abbrev VAULT_STATUS : Nat := 0x600500
abbrev VAULT_STATUS_IDENT_OK : Fld := ⟨VAULT_STATUS, 31, 1⟩
abbrev VAULT_STATUS_CLEARS : Fld := ⟨VAULT_STATUS, 16, 8⟩
abbrev VAULT_STATUS_SESSIONS : Fld := ⟨VAULT_STATUS, 0, 6⟩
abbrev WAKE_CODE_LO : Nat := 0x600504
abbrev WAKE_CODE_LO_CODE : Fld := ⟨WAKE_CODE_LO, 0, 32⟩
abbrev WAKE_CODE_HI : Nat := 0x600508
abbrev WAKE_CODE_HI_CODE : Fld := ⟨WAKE_CODE_HI, 0, 32⟩
abbrev CHIP_ID : Nat := 0x0
abbrev CHIP_ID_ID : Fld := ⟨CHIP_ID, 0, 32⟩
abbrev REV_ID : Nat := 0x4
abbrev REV_ID_BASE : Fld := ⟨REV_ID, 8, 8⟩
abbrev REV_ID_METAL : Fld := ⟨REV_ID, 0, 8⟩
abbrev SERIAL_LO : Nat := 0x8
abbrev SERIAL_LO_SERIAL : Fld := ⟨SERIAL_LO, 0, 32⟩
abbrev SERIAL_HI : Nat := 0xc
abbrev SERIAL_HI_SERIAL : Fld := ⟨SERIAL_HI, 0, 32⟩
abbrev MAC_BASE_LO : Nat := 0x10
abbrev MAC_BASE_LO_MAC_LO : Fld := ⟨MAC_BASE_LO, 0, 32⟩
abbrev MAC_BASE_HI : Nat := 0x14
abbrev MAC_BASE_HI_MAC_HI : Fld := ⟨MAC_BASE_HI, 0, 16⟩
abbrev FUSE_STATUS : Nat := 0x18
abbrev FUSE_STATUS_LIMITS_LOCK : Fld := ⟨FUSE_STATUS, 31, 1⟩
abbrev FUSE_STATUS_VPP_OK : Fld := ⟨FUSE_STATUS, 30, 1⟩
abbrev FUSE_STATUS_MFG_MODE : Fld := ⟨FUSE_STATUS, 29, 1⟩
abbrev FUSE_STATUS_STRAP : Fld := ⟨FUSE_STATUS, 8, 8⟩
abbrev FUSE_STATUS_SLOT_REVOKED : Fld := ⟨FUSE_STATUS, 4, 4⟩
abbrev FUSE_STATUS_SLOT_FILLED : Fld := ⟨FUSE_STATUS, 0, 4⟩
abbrev PRESENCE : Nat := 0x1c
abbrev PRESENCE_DDR : Fld := ⟨PRESENCE, 18, 4⟩
abbrev PRESENCE_PORT_B : Fld := ⟨PRESENCE, 17, 1⟩
abbrev PRESENCE_PLAN : Fld := ⟨PRESENCE, 16, 1⟩
abbrev PRESENCE_FACES : Fld := ⟨PRESENCE, 0, 16⟩
abbrev GROUPS : Nat := 0x20
abbrev GROUPS_PRESENT : Fld := ⟨GROUPS, 0, 32⟩
abbrev ACC_STATUS : Nat := 0x100
abbrev ACC_STATUS_LAST_CODE : Fld := ⟨ACC_STATUS, 24, 8⟩
abbrev ACC_STATUS_LATCHES : Fld := ⟨ACC_STATUS, 16, 5⟩
abbrev ACC_STATUS_FAILS : Fld := ⟨ACC_STATUS, 0, 16⟩
abbrev ACC_ADDR : Nat := 0x104
abbrev ACC_ADDR_ADDR : Fld := ⟨ACC_ADDR, 0, 32⟩
abbrev FM_CHIP_CTRL : Nat := 0x100000
abbrev FM_CHIP_CTRL_TARGET : Fld := ⟨FM_CHIP_CTRL, 30, 2⟩
abbrev FM_CHIP_STATUS : Nat := 0x100004
abbrev FM_CHIP_STATUS_STATE : Fld := ⟨FM_CHIP_STATUS, 30, 2⟩
abbrev FM_CHIP_STATUS_TRANSIT : Fld := ⟨FM_CHIP_STATUS, 29, 1⟩
abbrev FM_CHIP_STATUS_RESULT : Fld := ⟨FM_CHIP_STATUS, 16, 8⟩
abbrev WAKE_SRC : Nat := 0x100010
abbrev WAKE_SRC_LAST : Fld := ⟨WAKE_SRC, 29, 3⟩
abbrev WAKE_SRC_PEND : Fld := ⟨WAKE_SRC, 16, 5⟩
abbrev WAKE_SRC_WAKES : Fld := ⟨WAKE_SRC, 0, 16⟩
abbrev WAKE_EN : Nat := 0x100014
abbrev WAKE_EN_WAKE_TEMP : Fld := ⟨WAKE_EN, 16, 16⟩
abbrev WAKE_EN_EN : Fld := ⟨WAKE_EN, 0, 5⟩
abbrev WAKE_TIMER : Nat := 0x100018
abbrev WAKE_TIMER_MS : Fld := ⟨WAKE_TIMER, 0, 32⟩
abbrev WAKE_RETAIN_FAIL_LO : Nat := 0x100020
abbrev WAKE_RETAIN_FAIL_LO_FAIL : Fld := ⟨WAKE_RETAIN_FAIL_LO, 0, 32⟩
abbrev WAKE_RETAIN_FAIL_HI : Nat := 0x100024
abbrev WAKE_RETAIN_FAIL_HI_FAIL : Fld := ⟨WAKE_RETAIN_FAIL_HI, 0, 32⟩
abbrev FM_RAIL (c : Nat) : Nat := 0x100040 + c * 0x4
abbrev FM_RAIL_PLEVEL (c : Nat) : Fld := ⟨FM_RAIL c, 30, 2⟩
abbrev FM_RAIL_PCAP (c : Nat) : Fld := ⟨FM_RAIL c, 28, 2⟩
abbrev FM_RAIL_VOLT (c : Nat) : Fld := ⟨FM_RAIL c, 16, 10⟩
abbrev FM_RAIL_AGE_MARGIN (c : Nat) : Fld := ⟨FM_RAIL c, 8, 8⟩
abbrev FM_RAIL_AGE_LIMIT (c : Nat) : Fld := ⟨FM_RAIL c, 7, 1⟩
abbrev FM_FACE_RAIL (e : Nat) : Nat := 0x100050 + e * 0x4
abbrev FM_FACE_RAIL_VOLT (e : Nat) : Fld := ⟨FM_FACE_RAIL e, 16, 10⟩
abbrev FM_FACE_RAIL_AGE_MARGIN (e : Nat) : Fld := ⟨FM_FACE_RAIL e, 8, 8⟩
abbrev FM_FACE_RAIL_AGE_LIMIT (e : Nat) : Fld := ⟨FM_FACE_RAIL e, 7, 1⟩
abbrev FM_BUDGET : Nat := 0x100080
abbrev FM_BUDGET_CHIP_BUDGET : Fld := ⟨FM_BUDGET, 0, 16⟩
abbrev FM_BUDGET_STATUS : Nat := 0x100084
abbrev FM_BUDGET_STATUS_BUDGET_UNMET : Fld := ⟨FM_BUDGET_STATUS, 31, 1⟩
abbrev FM_BUDGET_STATUS_SHED : Fld := ⟨FM_BUDGET_STATUS, 28, 3⟩
abbrev FM_BUDGET_STATUS_THROTTLE : Fld := ⟨FM_BUDGET_STATUS, 27, 1⟩
abbrev FM_CHIP_PWR : Nat := 0x100088
abbrev FM_CHIP_PWR_FLOOR : Fld := ⟨FM_CHIP_PWR, 16, 16⟩
abbrev FM_CHIP_PWR_EST : Fld := ⟨FM_CHIP_PWR, 0, 16⟩
abbrev FM_EFFORT : Nat := 0x10008c
abbrev FM_EFFORT_GUARD : Fld := ⟨FM_EFFORT, 16, 8⟩
abbrev FM_EFFORT_RAISE : Fld := ⟨FM_EFFORT, 8, 8⟩
abbrev FM_SCHED : Nat := 0x1000c0
abbrev FM_SCHED_INTEG_SHED : Fld := ⟨FM_SCHED, 31, 1⟩
abbrev FM_SCHED_CAL_SHED : Fld := ⟨FM_SCHED, 30, 1⟩
abbrev FM_SCHED_ADAPT_HELD : Fld := ⟨FM_SCHED, 29, 1⟩
abbrev FM_SCHED_OBS_SHED : Fld := ⟨FM_SCHED, 28, 1⟩
abbrev FM_SCHED_INTEG_Q : Fld := ⟨FM_SCHED, 16, 8⟩
abbrev FM_SCHED_CAL_Q : Fld := ⟨FM_SCHED, 8, 8⟩
abbrev FM_SCHED_OBS_Q : Fld := ⟨FM_SCHED, 0, 8⟩
abbrev FM_FACE_BUDGET (f : Nat) : Nat := 0x100100 + f * 0x8
abbrev FM_FACE_BUDGET_BUDGET (f : Nat) : Fld := ⟨FM_FACE_BUDGET f, 0, 16⟩
abbrev FM_FACE_PWR (f : Nat) : Nat := 0x100104 + f * 0x8
abbrev FM_FACE_PWR_BUDGET_UNMET (f : Nat) : Fld := ⟨FM_FACE_PWR f, 31, 1⟩
abbrev FM_FACE_PWR_SHED (f : Nat) : Fld := ⟨FM_FACE_PWR f, 28, 3⟩
abbrev FM_FACE_PWR_THROTTLE (f : Nat) : Fld := ⟨FM_FACE_PWR f, 27, 1⟩
abbrev FM_FACE_PWR_FLOOR (f : Nat) : Fld := ⟨FM_FACE_PWR f, 12, 12⟩
abbrev FM_FACE_PWR_EST (f : Nat) : Fld := ⟨FM_FACE_PWR f, 0, 12⟩
abbrev TS (n : Nat) : Nat := 0x100200 + n * 0x4
abbrev TS_FAILED (n : Nat) : Fld := ⟨TS n, 31, 1⟩
abbrev TS_FAIL_CAUSE (n : Nat) : Fld := ⟨TS n, 28, 3⟩
abbrev TS_VALUE (n : Nat) : Fld := ⟨TS n, 0, 16⟩
abbrev TS_THROTTLE : Nat := 0x100300
abbrev TS_THROTTLE_THROTTLE : Fld := ⟨TS_THROTTLE, 16, 16⟩
abbrev TS_THROTTLE_ALERT : Fld := ⟨TS_THROTTLE, 0, 16⟩
abbrev TS_HYST : Nat := 0x100304
abbrev TS_HYST_HYST : Fld := ⟨TS_HYST, 0, 8⟩
abbrev TS_STATUS : Nat := 0x100308
abbrev TS_STATUS_THROTTLING : Fld := ⟨TS_STATUS, 31, 1⟩
abbrev TS_STATUS_ALERT : Fld := ⟨TS_STATUS, 30, 1⟩
abbrev TS_STATUS_HOTTEST : Fld := ⟨TS_STATUS, 24, 6⟩
abbrev TS_STATUS_FAILED : Fld := ⟨TS_STATUS, 16, 8⟩
abbrev TS_STATUS_HOT_VALUE : Fld := ⟨TS_STATUS, 0, 16⟩
abbrev FM_SEAL : Nat := 0x100400
abbrev FM_SEAL_USED : Fld := ⟨FM_SEAL, 24, 8⟩
abbrev FM_SEAL_SPENT : Fld := ⟨FM_SEAL, 16, 8⟩
abbrev FM_SEAL_PENDING : Fld := ⟨FM_SEAL, 8, 8⟩
abbrev MADC_CTRL : Nat := 0x200000
abbrev MADC_CTRL_SELFCAL : Fld := ⟨MADC_CTRL, 31, 1⟩
abbrev MADC_CTRL_SEQ_RUN : Fld := ⟨MADC_CTRL, 30, 1⟩
abbrev MADC_CHSEL : Nat := 0x200004
abbrev MADC_CHSEL_START : Fld := ⟨MADC_CHSEL, 31, 1⟩
abbrev MADC_CHSEL_CH : Fld := ⟨MADC_CHSEL, 0, 7⟩
abbrev MADC_DATA : Nat := 0x200008
abbrev MADC_DATA_VALID : Fld := ⟨MADC_DATA, 31, 1⟩
abbrev MADC_DATA_CH : Fld := ⟨MADC_DATA, 12, 7⟩
abbrev MADC_DATA_CODE : Fld := ⟨MADC_DATA, 0, 12⟩
abbrev MADC_GAIN : Nat := 0x20000c
abbrev MADC_GAIN_GAIN : Fld := ⟨MADC_GAIN, 0, 16⟩
abbrev MADC_OFFSET : Nat := 0x200010
abbrev MADC_OFFSET_OFFSET : Fld := ⟨MADC_OFFSET, 0, 16⟩
abbrev MADC_STATUS : Nat := 0x200014
abbrev MADC_STATUS_CAL_DONE : Fld := ⟨MADC_STATUS, 31, 1⟩
abbrev MADC_STATUS_SEQ_ACTIVE : Fld := ⟨MADC_STATUS, 30, 1⟩
abbrev MADC_STATUS_URGENT_Q : Fld := ⟨MADC_STATUS, 25, 5⟩
abbrev MADC_STATUS_ENTRY : Fld := ⟨MADC_STATUS, 8, 8⟩
abbrev MADC_STATUS_PASSES : Fld := ⟨MADC_STATUS, 0, 8⟩
abbrev MADC_ALARM (i : Nat) : Nat := 0x200020 + i * 0x4
abbrev MADC_ALARM_ALARM (i : Nat) : Fld := ⟨MADC_ALARM i, 0, 32⟩
abbrev SURVEY_CTRL : Nat := 0x200040
abbrev SURVEY_CTRL_AUTO : Fld := ⟨SURVEY_CTRL, 31, 1⟩
abbrev SURVEY_CTRL_MAX_LANES : Fld := ⟨SURVEY_CTRL, 16, 3⟩
abbrev SURVEY_CTRL_REFRESH : Fld := ⟨SURVEY_CTRL, 0, 16⟩
abbrev SURVEY_STATUS : Nat := 0x200044
abbrev SURVEY_STATUS_ACTIVE : Fld := ⟨SURVEY_STATUS, 24, 8⟩
abbrev SURVEY_STATUS_THIRD_RUNS : Fld := ⟨SURVEY_STATUS, 16, 8⟩
abbrev SURVEY_STATUS_REJECTS : Fld := ⟨SURVEY_STATUS, 8, 8⟩
abbrev SURVEY_STATUS_COMMITS : Fld := ⟨SURVEY_STATUS, 0, 8⟩
abbrev AGE_MON (n : Nat) : Nat := 0x200100 + n * 0x4
abbrev AGE_MON_BELOW (n : Nat) : Fld := ⟨AGE_MON n, 31, 1⟩
abbrev AGE_MON_FAILED (n : Nat) : Fld := ⟨AGE_MON n, 30, 1⟩
abbrev AGE_MON_FREQ (n : Nat) : Fld := ⟨AGE_MON n, 0, 20⟩
abbrev MADC_SEQ_ENTRY0 (n : Nat) : Nat := 0x200400 + n * 0x8
abbrev MADC_SEQ_ENTRY0_CH (n : Nat) : Fld := ⟨MADC_SEQ_ENTRY0 n, 8, 7⟩
abbrev MADC_SEQ_ENTRY0_AVG (n : Nat) : Fld := ⟨MADC_SEQ_ENTRY0 n, 0, 3⟩
abbrev MADC_SEQ_ENTRY1 (n : Nat) : Nat := 0x200404 + n * 0x8
abbrev MADC_SEQ_ENTRY1_HI (n : Nat) : Fld := ⟨MADC_SEQ_ENTRY1 n, 16, 16⟩
abbrev MADC_SEQ_ENTRY1_LO (n : Nat) : Fld := ⟨MADC_SEQ_ENTRY1 n, 0, 16⟩
abbrev MADC_RESULT (n : Nat) : Nat := 0x200c00 + n * 0x4
abbrev MADC_RESULT_PASS (n : Nat) : Fld := ⟨MADC_RESULT n, 24, 8⟩
abbrev MADC_RESULT_CODE (n : Nat) : Fld := ⟨MADC_RESULT n, 0, 12⟩
abbrev SET_HDR (q i : Nat) : Nat := setAt q i + 0x300
abbrev SET_HDR_VALID (q i : Nat) : Fld := ⟨SET_HDR q i, 31, 1⟩
abbrev SET_HDR_RATE_CLASS (q i : Nat) : Fld := ⟨SET_HDR q i, 30, 1⟩
abbrev SET_HDR_TEMP (q i : Nat) : Fld := ⟨SET_HDR q i, 16, 12⟩
abbrev SET_HDR_AGE (q i : Nat) : Fld := ⟨SET_HDR q i, 8, 8⟩
abbrev SET_HDR_GEN (q i : Nat) : Fld := ⟨SET_HDR q i, 0, 8⟩
abbrev CAL_STATUS (f p : Nat) : Nat := laneAt f p + 0x30
abbrev CAL_STATUS_STATE (f p : Nat) : Fld := ⟨CAL_STATUS f p, 29, 3⟩
abbrev CAL_STATUS_SLICE (f p : Nat) : Fld := ⟨CAL_STATUS f p, 22, 7⟩
abbrev CAL_STATUS_SET (f p : Nat) : Fld := ⟨CAL_STATUS f p, 19, 3⟩
abbrev CAL_STATUS_KIND (f p : Nat) : Fld := ⟨CAL_STATUS f p, 16, 3⟩
abbrev CAL_STATUS_RESULT (f p : Nat) : Fld := ⟨CAL_STATUS f p, 12, 4⟩
abbrev CAL_STATUS_RUNS (f p : Nat) : Fld := ⟨CAL_STATUS f p, 0, 8⟩
abbrev ASSAY_CTRL : Nat := 0x300000
abbrev ASSAY_CTRL_EN : Fld := ⟨ASSAY_CTRL, 31, 1⟩
abbrev ASSAY_CTRL_SIGS_OK : Fld := ⟨ASSAY_CTRL, 29, 1⟩
abbrev ASSAY_CTRL_RETRY_S : Fld := ⟨ASSAY_CTRL, 16, 8⟩
abbrev ASSAY_CTRL_MATCH_LIMIT : Fld := ⟨ASSAY_CTRL, 0, 16⟩
abbrev AS_FACE_STATUS (f : Nat) : Nat := 0x00301000 + f * 0x100 + 0x0
abbrev AS_FACE_STATUS_PHASE (f : Nat) : Fld := ⟨AS_FACE_STATUS f, 29, 3⟩
abbrev AS_FACE_STATUS_DIR (f : Nat) : Fld := ⟨AS_FACE_STATUS f, 28, 1⟩
abbrev AS_FACE_STATUS_DP (f : Nat) : Fld := ⟨AS_FACE_STATUS f, 24, 4⟩
abbrev AS_FACE_STATUS_LANE (f : Nat) : Fld := ⟨AS_FACE_STATUS f, 20, 4⟩
abbrev AS_FACE_STATUS_SLICE (f : Nat) : Fld := ⟨AS_FACE_STATUS f, 17, 3⟩
abbrev AS_FACE_STATUS_RETEST (f : Nat) : Fld := ⟨AS_FACE_STATUS f, 16, 1⟩
abbrev AS_FACE_STATUS_MATCHED (f : Nat) : Fld := ⟨AS_FACE_STATUS f, 0, 16⟩
abbrev AS_FACE_COUNTS (f : Nat) : Nat := 0x00301000 + f * 0x100 + 0x4
abbrev AS_FACE_COUNTS_ROTATIONS (f : Nat) : Fld := ⟨AS_FACE_COUNTS f, 24, 8⟩
abbrev AS_FACE_COUNTS_ABANDONS (f : Nat) : Fld := ⟨AS_FACE_COUNTS f, 16, 8⟩
abbrev AS_FACE_COUNTS_MATCH_FAILS (f : Nat) : Fld := ⟨AS_FACE_COUNTS f, 8, 8⟩
abbrev AS_FACE_COUNTS_BIST_PASSES (f : Nat) : Fld := ⟨AS_FACE_COUNTS f, 0, 8⟩
abbrev AS_FACE_LAST (f : Nat) : Nat := 0x00301000 + f * 0x100 + 0x8
abbrev AS_FACE_LAST_CAUSE (f : Nat) : Fld := ⟨AS_FACE_LAST f, 28, 4⟩
abbrev AS_FACE_LAST_CLASS (f : Nat) : Fld := ⟨AS_FACE_LAST f, 24, 4⟩
abbrev AS_RX_DP (f d : Nat) : Nat := 0x00301000 + f * 0x100 + 0x20 + d * 0x4
abbrev AS_RX_DP_RESULT (f d : Nat) : Fld := ⟨AS_RX_DP f d, 30, 2⟩
abbrev AS_RX_DP_FAIL_SLICE (f d : Nat) : Fld := ⟨AS_RX_DP f d, 27, 3⟩
abbrev AS_RX_DP_AGE (f d : Nat) : Fld := ⟨AS_RX_DP f d, 0, 24⟩
abbrev AS_TX_DP (f d : Nat) : Nat := 0x00301000 + f * 0x100 + 0x60 + d * 0x4
abbrev AS_TX_DP_RESULT (f d : Nat) : Fld := ⟨AS_TX_DP f d, 30, 2⟩
abbrev AS_TX_DP_FAIL_SLICE (f d : Nat) : Fld := ⟨AS_TX_DP f d, 27, 3⟩
abbrev AS_TX_DP_AGE (f d : Nat) : Fld := ⟨AS_TX_DP f d, 0, 24⟩
abbrev MEM_SCRUB_CTRL : Nat := 0x500000
abbrev MEM_SCRUB_CTRL_EN : Fld := ⟨MEM_SCRUB_CTRL, 31, 1⟩
abbrev MEM_SCRUB_CTRL_SRAM_RATE : Fld := ⟨MEM_SCRUB_CTRL, 0, 24⟩
abbrev MEM_SCRUB_DDR : Nat := 0x500004
abbrev MEM_SCRUB_DDR_DDR_RATE : Fld := ⟨MEM_SCRUB_DDR, 0, 16⟩
abbrev MEM_SCRUB_STATUS : Nat := 0x500008
abbrev MEM_SCRUB_STATUS_ARRAY : Fld := ⟨MEM_SCRUB_STATUS, 24, 8⟩
abbrev MEM_SCRUB_STATUS_SRAM_PASSES : Fld := ⟨MEM_SCRUB_STATUS, 16, 8⟩
abbrev MEM_SCRUB_STATUS_DDR_PASSES : Fld := ⟨MEM_SCRUB_STATUS, 8, 8⟩
abbrev MEM_FLIP_CTRL : Nat := 0x500010
abbrev MEM_FLIP_CTRL_ARM : Fld := ⟨MEM_FLIP_CTRL, 31, 1⟩
abbrev MEM_FLIP_CTRL_MODE : Fld := ⟨MEM_FLIP_CTRL, 30, 1⟩
abbrev MEM_FLIP_CTRL_ARRAY : Fld := ⟨MEM_FLIP_CTRL, 16, 8⟩
abbrev MEM_FLIP_CTRL_INDEX : Fld := ⟨MEM_FLIP_CTRL, 8, 8⟩
abbrev MEM_FLIP_CTRL_CHECK : Fld := ⟨MEM_FLIP_CTRL, 0, 8⟩
abbrev MEM_FLIP_DATA_LO : Nat := 0x500014
abbrev MEM_FLIP_DATA_LO_MASK_LO : Fld := ⟨MEM_FLIP_DATA_LO, 0, 32⟩
abbrev MEM_FLIP_DATA_HI : Nat := 0x500018
abbrev MEM_FLIP_DATA_HI_MASK_HI : Fld := ⟨MEM_FLIP_DATA_HI, 0, 32⟩
abbrev MEM_FLIP_ADDR : Nat := 0x50001c
abbrev MEM_FLIP_ADDR_WORD : Fld := ⟨MEM_FLIP_ADDR, 0, 32⟩
abbrev MEM_ERR_INFO : Nat := 0x500020
abbrev MEM_ERR_INFO_KIND : Fld := ⟨MEM_ERR_INFO, 30, 2⟩
abbrev MEM_ERR_INFO_SOURCE : Fld := ⟨MEM_ERR_INFO, 27, 3⟩
abbrev MEM_ERR_INFO_ARRAY : Fld := ⟨MEM_ERR_INFO, 16, 8⟩
abbrev MEM_ERR_INFO_INDEX : Fld := ⟨MEM_ERR_INFO, 8, 8⟩
abbrev MEM_ERR_INFO_SYNDROME : Fld := ⟨MEM_ERR_INFO, 0, 8⟩
abbrev MEM_ERR_ADDR : Nat := 0x500024
abbrev MEM_ERR_ADDR_WORD : Fld := ⟨MEM_ERR_ADDR, 0, 32⟩
abbrev MEM_ARRAY0 (a : Nat) : Nat := 0x500100 + a * 0x8
abbrev MEM_ARRAY0_CE (a : Nat) : Fld := ⟨MEM_ARRAY0 a, 16, 16⟩
abbrev MEM_ARRAY0_UE (a : Nat) : Fld := ⟨MEM_ARRAY0 a, 0, 16⟩
abbrev MEM_ARRAY1 (a : Nat) : Nat := 0x500104 + a * 0x8
abbrev MEM_ARRAY1_SPARES (a : Nat) : Fld := ⟨MEM_ARRAY1 a, 24, 8⟩
abbrev MEM_ARRAY1_SEALED (a : Nat) : Fld := ⟨MEM_ARRAY1 a, 16, 8⟩
abbrev MEM_ARRAY1_HARD (a : Nat) : Fld := ⟨MEM_ARRAY1 a, 0, 16⟩
abbrev MEM_REGION0 (n : Nat) : Nat := 0x501000 + n * 0x8
abbrev MEM_REGION0_ARRAY (n : Nat) : Fld := ⟨MEM_REGION0 n, 24, 8⟩
abbrev MEM_REGION0_INDEX (n : Nat) : Fld := ⟨MEM_REGION0 n, 16, 8⟩
abbrev MEM_REGION0_OWNER_KIND (n : Nat) : Fld := ⟨MEM_REGION0 n, 12, 4⟩
abbrev MEM_REGION0_CLEAR (n : Nat) : Fld := ⟨MEM_REGION0 n, 11, 1⟩
abbrev MEM_REGION0_OWNER_INDEX (n : Nat) : Fld := ⟨MEM_REGION0 n, 0, 8⟩
abbrev MEM_REGION1 (n : Nat) : Nat := 0x501004 + n * 0x8
abbrev MEM_REGION1_COUNT (n : Nat) : Fld := ⟨MEM_REGION1 n, 16, 16⟩
abbrev MEM_REGION1_THRESHOLD (n : Nat) : Fld := ⟨MEM_REGION1 n, 0, 16⟩
abbrev DDR_STATUS (c : Nat) : Nat := 0x00580000 + c * 0x10000 + 0x0
abbrev DDR_STATUS_TRAINED (c : Nat) : Fld := ⟨DDR_STATUS c, 31, 1⟩
abbrev DDR_STATUS_SELF_REFRESH (c : Nat) : Fld := ⟨DDR_STATUS c, 30, 1⟩
abbrev DDR_STATUS_FAIL (c : Nat) : Fld := ⟨DDR_STATUS c, 29, 1⟩
abbrev DDR_STATUS_CAPACITY (c : Nat) : Fld := ⟨DDR_STATUS c, 16, 8⟩
abbrev DDR_TEST_ERRS (c : Nat) : Nat := 0x00580000 + c * 0x10000 + 0x8
abbrev DDR_TEST_ERRS_ERRS (c : Nat) : Fld := ⟨DDR_TEST_ERRS c, 0, 32⟩
abbrev TALLY_CTRL : Nat := 0x400000
abbrev TALLY_CTRL_CLEAR : Fld := ⟨TALLY_CTRL, 31, 1⟩
abbrev TALLY_CTRL_POLICY : Fld := ⟨TALLY_CTRL, 30, 1⟩
abbrev TALLY_CTRL_FREEZE_MAX : Fld := ⟨TALLY_CTRL, 0, 16⟩
abbrev TALLY_STATUS : Nat := 0x400004
abbrev TALLY_STATUS_FULL : Fld := ⟨TALLY_STATUS, 31, 1⟩
abbrev TALLY_STATUS_FROZEN : Fld := ⟨TALLY_STATUS, 30, 1⟩
abbrev HEAD_SEQ : Nat := 0x400008
abbrev HEAD_SEQ_SEQ : Fld := ⟨HEAD_SEQ, 0, 32⟩
abbrev BASE_SEQ : Nat := 0x40000c
abbrev BASE_SEQ_SEQ : Fld := ⟨BASE_SEQ, 0, 32⟩
abbrev TALLY_LOST_A : Nat := 0x400010
abbrev TALLY_LOST_A_FULL : Fld := ⟨TALLY_LOST_A, 16, 16⟩
abbrev TALLY_LOST_A_QUEUE : Fld := ⟨TALLY_LOST_A, 0, 16⟩
abbrev TALLY_LOST_B : Nat := 0x400014
abbrev TALLY_LOST_B_FROZEN : Fld := ⟨TALLY_LOST_B, 16, 16⟩
abbrev TALLY_LOST_B_ARCH : Fld := ⟨TALLY_LOST_B, 0, 16⟩
abbrev ARCH_OLDEST : Nat := 0x400018
abbrev ARCH_OLDEST_BLOCK : Fld := ⟨ARCH_OLDEST, 0, 24⟩
abbrev ARCH_NEWEST : Nat := 0x40001c
abbrev ARCH_NEWEST_BLOCK : Fld := ⟨ARCH_NEWEST, 0, 24⟩
abbrev TALLY_ARCH_SEL : Nat := 0x400020
abbrev TALLY_ARCH_SEL_BLOCK : Fld := ⟨TALLY_ARCH_SEL, 0, 24⟩
abbrev TALLY_SUB : Nat := 0x400024
abbrev TALLY_SUB_EN : Fld := ⟨TALLY_SUB, 31, 1⟩
abbrev TALLY_SUB_DROPPED : Fld := ⟨TALLY_SUB, 0, 16⟩
abbrev TALLY_CLASS_ACT_LO : Nat := 0x400080
abbrev TALLY_CLASS_ACT_LO_ACT_0 : Fld := ⟨TALLY_CLASS_ACT_LO, 0, 2⟩
abbrev TALLY_CLASS_ACT_LO_ACT_1 : Fld := ⟨TALLY_CLASS_ACT_LO, 2, 2⟩
abbrev TALLY_CLASS_ACT_LO_ACT_2 : Fld := ⟨TALLY_CLASS_ACT_LO, 4, 2⟩
abbrev TALLY_CLASS_ACT_LO_ACT_3 : Fld := ⟨TALLY_CLASS_ACT_LO, 6, 2⟩
abbrev TALLY_CLASS_ACT_LO_ACT_4 : Fld := ⟨TALLY_CLASS_ACT_LO, 8, 2⟩
abbrev TALLY_CLASS_ACT_LO_ACT_5 : Fld := ⟨TALLY_CLASS_ACT_LO, 10, 2⟩
abbrev TALLY_CLASS_ACT_LO_ACT_6 : Fld := ⟨TALLY_CLASS_ACT_LO, 12, 2⟩
abbrev TALLY_CLASS_ACT_LO_ACT_7 : Fld := ⟨TALLY_CLASS_ACT_LO, 14, 2⟩
abbrev TALLY_CLASS_ACT_LO_ACT_8 : Fld := ⟨TALLY_CLASS_ACT_LO, 16, 2⟩
abbrev TALLY_CLASS_ACT_LO_ACT_9 : Fld := ⟨TALLY_CLASS_ACT_LO, 18, 2⟩
abbrev TALLY_CLASS_ACT_LO_ACT_A : Fld := ⟨TALLY_CLASS_ACT_LO, 20, 2⟩
abbrev TALLY_CLASS_ACT_LO_ACT_B : Fld := ⟨TALLY_CLASS_ACT_LO, 22, 2⟩
abbrev TALLY_CLASS_ACT_LO_ACT_C : Fld := ⟨TALLY_CLASS_ACT_LO, 24, 2⟩
abbrev TALLY_CLASS_ACT_LO_ACT_D : Fld := ⟨TALLY_CLASS_ACT_LO, 26, 2⟩
abbrev TALLY_CLASS_ACT_LO_ACT_E : Fld := ⟨TALLY_CLASS_ACT_LO, 28, 2⟩
abbrev TALLY_CLASS_ACT_LO_ACT_F : Fld := ⟨TALLY_CLASS_ACT_LO, 30, 2⟩
abbrev TALLY_CLASS_ACT_HI : Nat := 0x400084
abbrev TALLY_CLASS_ACT_HI_ACT_10 : Fld := ⟨TALLY_CLASS_ACT_HI, 0, 2⟩
abbrev TALLY_CLASS_ACT_HI_ACT_11 : Fld := ⟨TALLY_CLASS_ACT_HI, 2, 2⟩
abbrev TALLY_CLASS_ACT_HI_ACT_12 : Fld := ⟨TALLY_CLASS_ACT_HI, 4, 2⟩
abbrev TALLY_CLASS_ACT_HI_ACT_13 : Fld := ⟨TALLY_CLASS_ACT_HI, 6, 2⟩
abbrev TALLY_CLASS_ACT_HI_ACT_14 : Fld := ⟨TALLY_CLASS_ACT_HI, 8, 2⟩
abbrev TALLY_CLASS_ACT_HI_ACT_15 : Fld := ⟨TALLY_CLASS_ACT_HI, 10, 2⟩
abbrev TALLY_CLASS_ACT_HI_ACT_16 : Fld := ⟨TALLY_CLASS_ACT_HI, 12, 2⟩
abbrev TALLY_CLASS_ACT_HI_ACT_17 : Fld := ⟨TALLY_CLASS_ACT_HI, 14, 2⟩
abbrev TALLY_CLASS_ACT_HI_ACT_18 : Fld := ⟨TALLY_CLASS_ACT_HI, 16, 2⟩
abbrev TALLY_CLASS_ACT_HI_ACT_19 : Fld := ⟨TALLY_CLASS_ACT_HI, 18, 2⟩
abbrev TALLY_CLASS_ACT_HI_ACT_1A : Fld := ⟨TALLY_CLASS_ACT_HI, 20, 2⟩
abbrev TALLY_CLASS_ACT_HI_ACT_1B : Fld := ⟨TALLY_CLASS_ACT_HI, 22, 2⟩
abbrev TALLY_CLASS_ACT_HI_ACT_1C : Fld := ⟨TALLY_CLASS_ACT_HI, 24, 2⟩
abbrev TALLY_CLASS_ACT_HI_ACT_1D : Fld := ⟨TALLY_CLASS_ACT_HI, 26, 2⟩
abbrev TALLY_CLASS_ACT_HI_ACT_1E : Fld := ⟨TALLY_CLASS_ACT_HI, 28, 2⟩
abbrev TALLY_CLASS_ACT_HI_ACT_1F : Fld := ⟨TALLY_CLASS_ACT_HI, 30, 2⟩
abbrev TALLY_FILTER0 (n : Nat) : Nat := 0x400100 + n * 0x8
abbrev TALLY_FILTER0_VALID (n : Nat) : Fld := ⟨TALLY_FILTER0 n, 31, 1⟩
abbrev TALLY_FILTER0_ACTION (n : Nat) : Fld := ⟨TALLY_FILTER0 n, 29, 2⟩
abbrev TALLY_FILTER0_CLASS (n : Nat) : Fld := ⟨TALLY_FILTER0 n, 16, 8⟩
abbrev TALLY_FILTER0_CLASS_MASK (n : Nat) : Fld := ⟨TALLY_FILTER0 n, 8, 8⟩
abbrev TALLY_FILTER0_PRIV_MASK (n : Nat) : Fld := ⟨TALLY_FILTER0 n, 0, 8⟩
abbrev TALLY_FILTER1 (n : Nat) : Nat := 0x400104 + n * 0x8
abbrev TALLY_FILTER1_SRC_KIND (n : Nat) : Fld := ⟨TALLY_FILTER1 n, 28, 4⟩
abbrev TALLY_FILTER1_SRC_INDEX (n : Nat) : Fld := ⟨TALLY_FILTER1 n, 0, 12⟩
abbrev SNAP_STATUS : Nat := 0x400200
abbrev SNAP_STATUS_BUSY : Fld := ⟨SNAP_STATUS, 31, 1⟩
abbrev SNAP_STATUS_GEN : Fld := ⟨SNAP_STATUS, 16, 8⟩
abbrev SNAP_SEL : Nat := 0x400204
abbrev SNAP_SEL_ADDR : Fld := ⟨SNAP_SEL, 0, 32⟩
abbrev SNAP_LO : Nat := 0x400208
abbrev SNAP_LO_SHADOW_LO : Fld := ⟨SNAP_LO, 0, 32⟩
abbrev SNAP_HI : Nat := 0x40020c
abbrev SNAP_HI_GEN : Fld := ⟨SNAP_HI, 24, 8⟩
abbrev SNAP_HI_SHADOW_HI : Fld := ⟨SNAP_HI, 0, 16⟩
abbrev MARK_TIME_LO : Nat := 0x400210
abbrev MARK_TIME_LO_TIME : Fld := ⟨MARK_TIME_LO, 0, 32⟩
abbrev MARK_TIME_HI : Nat := 0x400214
abbrev MARK_TIME_HI_TIME : Fld := ⟨MARK_TIME_HI, 0, 32⟩
abbrev HS_CTRL (n : Nat) : Nat := 0x400400 + n * 0x10
abbrev HS_CTRL_EN (n : Nat) : Fld := ⟨HS_CTRL n, 31, 1⟩
abbrev HS_CTRL_RESTART (n : Nat) : Fld := ⟨HS_CTRL n, 30, 1⟩
abbrev HS_CTRL_PERIOD (n : Nat) : Fld := ⟨HS_CTRL n, 0, 16⟩
abbrev HS_STATUS (n : Nat) : Nat := 0x400404 + n * 0x10
abbrev HS_STATUS_FULL (n : Nat) : Fld := ⟨HS_STATUS n, 31, 1⟩
abbrev HS_STATUS_COUNT (n : Nat) : Fld := ⟨HS_STATUS n, 0, 7⟩
abbrev BW_CTRL (n : Nat) : Nat := 0x401000 + n * 0x10
abbrev BW_CTRL_EN (n : Nat) : Fld := ⟨BW_CTRL n, 31, 1⟩
abbrev BW_CTRL_WINDOW (n : Nat) : Fld := ⟨BW_CTRL n, 0, 24⟩
abbrev BW_H2L (n : Nat) : Nat := 0x401004 + n * 0x10
abbrev BW_H2L_BYTES (n : Nat) : Fld := ⟨BW_H2L n, 0, 32⟩
abbrev BW_L2H (n : Nat) : Nat := 0x401008 + n * 0x10
abbrev BW_L2H_BYTES (n : Nat) : Fld := ⟨BW_L2H n, 0, 32⟩
abbrev BW_SEQ (n : Nat) : Nat := 0x40100c + n * 0x10
abbrev BW_SEQ_WINDOWS (n : Nat) : Fld := ⟨BW_SEQ n, 0, 8⟩
abbrev PC_CFG (b i : Nat) : Nat := 0x00410000 + b * 0x100 + 0x40 + i * 0x4
abbrev PC_CFG_EN (b i : Nat) : Fld := ⟨PC_CFG b i, 31, 1⟩
abbrev PC_CFG_OVF_INT (b i : Nat) : Fld := ⟨PC_CFG b i, 30, 1⟩
abbrev PC_CFG_EVENT (b i : Nat) : Fld := ⟨PC_CFG b i, 16, 8⟩
abbrev PC_CFG_LANE (b i : Nat) : Fld := ⟨PC_CFG b i, 12, 4⟩
abbrev PC_CFG_THRESH (b i : Nat) : Fld := ⟨PC_CFG b i, 0, 12⟩
abbrev PC_OVF (b : Nat) : Nat := 0x00410000 + b * 0x100 + 0x60
abbrev PC_OVF_OVF (b : Nat) : Fld := ⟨PC_OVF b, 0, 8⟩
abbrev RST_CTRL : Nat := 0x400
abbrev RST_CTRL_WARM : Fld := ⟨RST_CTRL, 31, 1⟩
abbrev RST_CTRL_KEY : Fld := ⟨RST_CTRL, 0, 16⟩
abbrev RST_STATUS : Nat := 0x404
abbrev RST_STATUS_LAST : Fld := ⟨RST_STATUS, 28, 4⟩
abbrev RST_STATUS_H17_CAUSE : Fld := ⟨RST_STATUS, 24, 4⟩
abbrev RST_STATUS_WARMS : Fld := ⟨RST_STATUS, 16, 8⟩
abbrev RST_STATUS_STAGE : Fld := ⟨RST_STATUS, 8, 8⟩
abbrev FACE_RST (f : Nat) : Nat := faceAt f (0xF0000 + 0x20)
abbrev FACE_RST_FACE (f : Nat) : Fld := ⟨FACE_RST f, 31, 1⟩
abbrev FACE_RST_RX_DP (f : Nat) : Fld := ⟨FACE_RST f, 18, 9⟩
abbrev FACE_RST_TX_DP (f : Nat) : Fld := ⟨FACE_RST f, 9, 9⟩
abbrev BOARD_STATUS : Nat := 0x500
abbrev BOARD_STATUS_REFCLK_A_OK : Fld := ⟨BOARD_STATUS, 31, 1⟩
abbrev BOARD_STATUS_REFCLK_B_OK : Fld := ⟨BOARD_STATUS, 30, 1⟩
abbrev BOARD_STATUS_CHIP_ON_XTAL : Fld := ⟨BOARD_STATUS, 29, 1⟩
abbrev BOARD_STATUS_RAIL_ERR : Fld := ⟨BOARD_STATUS, 0, 8⟩

/-! The 48-bit counters of R156, R205, R207, R224 and R428: the address of the LO word names the counter (R328). -/
abbrev INNER_CW (f d : Nat) : Nat := rxdAt f d + 0x4010
abbrev INNER_BITS_CORR (f d : Nat) : Nat := rxdAt f d + 0x4018
abbrev INNER_HARD_NZ (f d : Nat) : Nat := rxdAt f d + 0x4020
abbrev INNER_HIST (f d i : Nat) : Nat := rxdAt f d + 0x4040 + i * 0x8
abbrev OUTER_HIST (f d i : Nat) : Nat := rxdAt f d + 0x4080 + i * 0x8
abbrev OUTER_SYM (f d : Nat) : Nat := rxdAt f d + 0x4108
abbrev RXD_PRBS_BITS (f d : Nat) : Nat := rxdAt f d + 0x4208
abbrev RXD_PRBS_ERRS (f d : Nat) : Nat := rxdAt f d + 0x4210
abbrev HL_PRBS_BITS (h : Nat) : Nat := hostAt h + 0x28
abbrev HL_PRBS_ERRS (h : Nat) : Nat := hostAt h + 0x30
abbrev HOST_CW (n : Nat) : Nat := portAt n + 0x10
abbrev HOST_UE (n : Nat) : Nat := portAt n + 0x18
abbrev HOST_SYM (n : Nat) : Nat := portAt n + 0x20
abbrev REPLAYS (f k : Nat) : Nat := posAt f k + 0x10
abbrev SERVED (f k : Nat) : Nat := posAt f k + 0x18
abbrev LOST_FRAMES (f k : Nat) : Nat := posAt f k + 0x20
abbrev EXHAUSTED (f k : Nat) : Nat := posAt f k + 0x28
abbrev FRAME_ERRS (f k : Nat) : Nat := posAt f k + 0x30
abbrev PC_COUNT (b i : Nat) : Nat := 0x00410000 + b * 0x100 + 0x0 + i * 0x8

/-- The names of the registers. -/
inductive RegId where
  | RELIEF_STATE | PLAN_STATUS | PLAN_COUNTER | PLAN_ID_LO | PLAN_ID_HI | PLAN_STAGE_PTR | PLAN_STAGE_DATA | LANE_MAP_RX 
  | LANE_MAP_AUX | POS_MAP | LANE_ACQ_CTRL | LANE_ACQ_STATUS | LANE_AGC | LANE_POWER | LANE_EVENTS | LANE_ACQ_TIME 
  | LANE_SLICE | LANE_CLIP_COUNT | RXD_STATUS | SLICE_CORR_A | SLICE_CORR_B | EQ_BANK_HDR | EQ_COEF | EQ_BANK_CTRL 
  | EQ_EXP | EQ_EXP_RANGE | GRAD_CTRL | TR_CTRL | TR_STATUS | DET_CTRL | EQ_CONV | QUAL_SNR | QUAL_MARGIN | QUAL_LEVEL 
  | LANE_EFFORT | CODE_STATUS | CNT_CTRL | TXD_STATUS | TXD_CTRL | TXD_FIR | TXD_PD | LANE_MAP_TX | LANE_MAP_TX_AUX 
  | OPT_CTRL | OPT_STATUS | FSB_STATS | OPT_LIM_A | OPT_LIM_B | OPT_LANE_A | OPT_LANE_B | ELS_BANK | HL_CTRL | HL_STATUS 
  | HL_EVENTS | HL_SKEW | HL_PRBS_CTRL | RXD_PRBS_CTRL | TXD_PRBS_CTRL | HL_PRBS_STATUS | RXD_PRBS_STATUS | PORT_CFG 
  | PORT_CTRL | PORT_STATUS | PORT_EVENTS | SEAM_CTRL | SEAM_STATUS | SEAM_PARTNER | REPLAY_STATUS | SEAM_EVENTS 
  | SEAL_CTRL | SEAL_STATUS | TAP_CTRL | TAP_CFG | TAP_NCO | TAP_STATUS | TAP_GDELAY | TAP_COEF | CAP_CTRL | CAP_CFG 
  | CAP_REGION | CAP_TRIG | CAP_TRIG_ARG | CAP_TRIG_TIME_HI | CAP_STATUS | CAP_TRIG_STAMP_LO | CAP_TRIG_STAMP_HI 
  | CAP_TRIG_POS | STREAM_STATUS | STREAM_CREDIT | STREAM_DROPS | ARCH_STATUS | ARCH_CTRL | HW_CTRL | HW_STATUS 
  | HW_WDOG | HW_MBOX_IN | HW_MBOX_OUT | HW_IRQ | HW_TIMER | HW_ADAPT | HW_BUS_STATUS | HW_BUS_ADDR | HW_OVL_SRC_LO 
  | HW_OVL_SRC_HI | HW_OVL_DST | HW_OVL_CTRL | HW_FW_ID | CP_CTRL | CP_STATUS | CP_ERRS | TIME_NOW_LO | TIME_NOW_HI 
  | TIME_STATUS | VAULT_STATUS | WAKE_CODE_LO | WAKE_CODE_HI | CHIP_ID | REV_ID | SERIAL_LO | SERIAL_HI | MAC_BASE_LO 
  | MAC_BASE_HI | FUSE_STATUS | PRESENCE | GROUPS | ACC_STATUS | ACC_ADDR | FM_CHIP_CTRL | FM_CHIP_STATUS | WAKE_SRC 
  | WAKE_EN | WAKE_TIMER | WAKE_RETAIN_FAIL_LO | WAKE_RETAIN_FAIL_HI | FM_RAIL | FM_FACE_RAIL | FM_BUDGET | FM_BUDGET_STATUS 
  | FM_CHIP_PWR | FM_EFFORT | FM_SCHED | FM_FACE_BUDGET | FM_FACE_PWR | TS | TS_THROTTLE | TS_HYST | TS_STATUS 
  | FM_SEAL | MADC_CTRL | MADC_CHSEL | MADC_DATA | MADC_GAIN | MADC_OFFSET | MADC_STATUS | MADC_ALARM | SURVEY_CTRL 
  | SURVEY_STATUS | AGE_MON | MADC_SEQ_ENTRY0 | MADC_SEQ_ENTRY1 | MADC_RESULT | SET_HDR | CAL_STATUS | ASSAY_CTRL 
  | AS_FACE_STATUS | AS_FACE_COUNTS | AS_FACE_LAST | AS_RX_DP | AS_TX_DP | MEM_SCRUB_CTRL | MEM_SCRUB_DDR | MEM_SCRUB_STATUS 
  | MEM_FLIP_CTRL | MEM_FLIP_DATA_LO | MEM_FLIP_DATA_HI | MEM_FLIP_ADDR | MEM_ERR_INFO | MEM_ERR_ADDR | MEM_ARRAY0 
  | MEM_ARRAY1 | MEM_REGION0 | MEM_REGION1 | DDR_STATUS | DDR_TEST_ERRS | TALLY_CTRL | TALLY_STATUS | HEAD_SEQ 
  | BASE_SEQ | TALLY_LOST_A | TALLY_LOST_B | ARCH_OLDEST | ARCH_NEWEST | TALLY_ARCH_SEL | TALLY_SUB | TALLY_CLASS_ACT_LO 
  | TALLY_CLASS_ACT_HI | TALLY_FILTER0 | TALLY_FILTER1 | SNAP_STATUS | SNAP_SEL | SNAP_LO | SNAP_HI | MARK_TIME_LO 
  | MARK_TIME_HI | HS_CTRL | HS_STATUS | BW_CTRL | BW_H2L | BW_L2H | BW_SEQ | PC_CFG | PC_OVF | RST_CTRL | RST_STATUS 
  | FACE_RST | BOARD_STATUS 
  deriving DecidableEq, Repr

/-- One field as the register's table gives it: lowest bit, width, access code, Reset column (0 where that column names a
plan record, OTP or a pin: notes/assumptions/2.md). -/
structure FldDesc where
  lo : Nat
  width : Nat
  acc : Acc
  reset : Nat
  deriving DecidableEq, Repr

/-- One register, or one array of them: where it starts, its indices fixed by the entry, its (count, stride) dimensions in
falling order of stride, and its fields. -/
structure RegDesc where
  name : RegId
  base : Nat
  pre : List Nat
  dims : List (Nat × Nat)
  flds : List FldDesc
  deriving DecidableEq, Repr

def regDescs0 : List RegDesc := [
  ⟨.RELIEF_STATE, 0x10f0040, [], [(16, 0x100000)], [⟨31, 1, .ro, 0x0⟩, ⟨27, 4, .ro, 0x8⟩, ⟨18, 9, .ro, 0x0⟩, ⟨9, 9, .ro, 0x0⟩, ⟨0, 9, .ro, 0x0⟩]⟩,
  ⟨.PLAN_STATUS, 0x200, [], [], [⟨28, 4, .ro, 0x0⟩, ⟨24, 4, .ro, 0x1⟩, ⟨16, 8, .ro, 0x0⟩, ⟨15, 1, .ro, 0x0⟩, ⟨14, 1, .ro, 0x0⟩, ⟨13, 1, .ro, 0x0⟩, ⟨8, 5, .ro, 0x1f⟩]⟩,
  ⟨.PLAN_COUNTER, 0x204, [], [], [⟨24, 8, .ro, 0xff⟩, ⟨16, 8, .ro, 0x0⟩, ⟨8, 8, .ro, 0x0⟩]⟩,
  ⟨.PLAN_ID_LO, 0x208, [], [], [⟨0, 32, .ro, 0x0⟩]⟩,
  ⟨.PLAN_ID_HI, 0x20c, [], [], [⟨0, 32, .ro, 0x0⟩]⟩,
  ⟨.PLAN_STAGE_PTR, 0x210, [], [], [⟨31, 1, .wo, 0x0⟩, ⟨30, 1, .ro, 0x0⟩, ⟨0, 24, .rw, 0x0⟩]⟩,
  ⟨.PLAN_STAGE_DATA, 0x214, [], [], [⟨0, 32, .wo, 0x0⟩]⟩,
  ⟨.LANE_MAP_RX, 0x10f0000, [], [(16, 0x100000)], [⟨28, 4, .ro, 0x7⟩, ⟨24, 4, .ro, 0x6⟩, ⟨20, 4, .ro, 0x5⟩, ⟨16, 4, .ro, 0x4⟩, ⟨12, 4, .ro, 0x3⟩, ⟨8, 4, .ro, 0x2⟩, ⟨4, 4, .ro, 0x1⟩, ⟨0, 4, .ro, 0x0⟩]⟩,
  ⟨.LANE_MAP_AUX, 0x10f0004, [], [(16, 0x100000)], [⟨24, 8, .ro, 0x0⟩, ⟨12, 4, .ro, 0xf⟩, ⟨0, 4, .ro, 0xf⟩]⟩,
  ⟨.POS_MAP, 0x10f0008, [], [(16, 0x100000)], [⟨28, 4, .ro, 0x7⟩, ⟨24, 4, .ro, 0x6⟩, ⟨20, 4, .ro, 0x5⟩, ⟨16, 4, .ro, 0x4⟩, ⟨12, 4, .ro, 0x3⟩, ⟨8, 4, .ro, 0x2⟩, ⟨4, 4, .ro, 0x1⟩, ⟨0, 4, .ro, 0x0⟩]⟩,
  ⟨.LANE_ACQ_CTRL, 0x10f1000, [], [(16, 0x100000), (9, 0x100)], [⟨31, 1, .rws, 0x0⟩, ⟨11, 1, .rw, 0x1⟩, ⟨10, 1, .rw, 0x1⟩, ⟨9, 1, .rw, 0x1⟩, ⟨0, 4, .rw, 0x0⟩]⟩,
  ⟨.LANE_ACQ_STATUS, 0x10f1004, [], [(16, 0x100000), (9, 0x100)], [⟨28, 4, .ro, 0x0⟩, ⟨25, 3, .ro, 0x0⟩, ⟨24, 1, .ro, 0x0⟩, ⟨23, 1, .ro, 0x0⟩, ⟨19, 4, .ro, 0x0⟩, ⟨8, 8, .ro, 0x0⟩, ⟨0, 8, .ro, 0x0⟩]⟩,
  ⟨.LANE_AGC, 0x10f1008, [], [(16, 0x100000), (9, 0x100)], [⟨16, 8, .rw, 0x26⟩, ⟨8, 1, .ro, 0x0⟩, ⟨7, 1, .ro, 0x0⟩, ⟨0, 7, .ro, 0x18⟩]⟩,
  ⟨.LANE_POWER, 0x10f100c, [], [(16, 0x100000), (9, 0x100)], [⟨16, 16, .ro, 0x8000⟩, ⟨0, 16, .ro, 0x8000⟩]⟩,
  ⟨.LANE_EVENTS, 0x10f1010, [], [(16, 0x100000), (9, 0x100)], [⟨10, 1, .w1c, 0x0⟩, ⟨9, 1, .w1c, 0x0⟩, ⟨8, 1, .w1c, 0x0⟩, ⟨7, 1, .w1c, 0x0⟩, ⟨6, 1, .w1c, 0x0⟩, ⟨5, 1, .w1c, 0x0⟩, ⟨4, 1, .w1c, 0x0⟩, ⟨3, 1, .w1c, 0x0⟩, ⟨2, 1, .w1c, 0x0⟩, ⟨1, 1, .w1c, 0x0⟩, ⟨0, 1, .w1c, 0x0⟩]⟩,
  ⟨.LANE_ACQ_TIME, 0x10f1014, [], [(16, 0x100000), (9, 0x100)], [⟨0, 32, .ro, 0x0⟩]⟩,
  ⟨.LANE_SLICE, 0x10f1018, [], [(16, 0x100000), (9, 0x100)], [⟨31, 1, .ro, 0x0⟩, ⟨30, 1, .ro, 0x0⟩, ⟨24, 6, .ro, 0x0⟩, ⟨16, 1, .ro, 0x0⟩, ⟨10, 6, .ro, 0x0⟩]⟩,
  ⟨.LANE_CLIP_COUNT, 0x10f101c, [], [(16, 0x100000), (9, 0x100)], [⟨0, 32, .ro, 0x0⟩]⟩,
  ⟨.RXD_STATUS, 0x1000000, [], [(16, 0x100000), (9, 0x8000)], [⟨28, 4, .ro, 0x0⟩, ⟨25, 3, .ro, 0x0⟩, ⟨24, 1, .ro, 0x0⟩, ⟨21, 3, .ro, 0x0⟩, ⟨20, 1, .ro, 0x0⟩, ⟨8, 12, .ro, 0x0⟩, ⟨5, 3, .ro, 0x7⟩, ⟨2, 3, .ro, 0x7⟩]⟩,
  ⟨.SLICE_CORR_A, 0x1000100, [], [(16, 0x100000), (9, 0x8000), (65, 0x10)], [⟨16, 16, .ro, 0x0⟩, ⟨0, 16, .ro, 0x0⟩]⟩,
  ⟨.SLICE_CORR_B, 0x1000104, [], [(16, 0x100000), (9, 0x8000), (65, 0x10)], [⟨16, 16, .ro, 0x0⟩, ⟨0, 16, .ro, 0x0⟩]⟩,
  ⟨.EQ_BANK_HDR, 0x1001000, [], [(16, 0x100000), (9, 0x8000), (2, 0x800)], [⟨24, 8, .rw, 0x0⟩, ⟨0, 4, .rw, 0x0⟩]⟩,
  ⟨.EQ_COEF, 0x1001004, [], [(16, 0x100000), (9, 0x8000), (2, 0x800), (257, 0x4)], [⟨16, 16, .rw, 0x0⟩, ⟨0, 16, .rw, 0x0⟩]⟩,
  ⟨.EQ_BANK_CTRL, 0x1000010, [], [(16, 0x100000), (9, 0x8000)], [⟨31, 1, .rws, 0x0⟩, ⟨30, 1, .rws, 0x0⟩, ⟨25, 1, .ro, 0x0⟩, ⟨24, 1, .ro, 0x0⟩, ⟨16, 8, .ro, 0x0⟩, ⟨8, 8, .ro, 0x0⟩, ⟨3, 1, .w1c, 0x0⟩, ⟨2, 1, .w1c, 0x0⟩, ⟨1, 1, .w1c, 0x0⟩]⟩,
  ⟨.EQ_EXP, 0x1000014, [], [(16, 0x100000), (9, 0x8000)], [⟨25, 5, .ro, 0x0⟩, ⟨20, 5, .ro, 0x0⟩, ⟨16, 4, .ro, 0x0⟩, ⟨8, 8, .ro, 0x0⟩]⟩,
  ⟨.EQ_EXP_RANGE, 0x1000018, [], [(16, 0x100000), (9, 0x8000)], [⟨27, 5, .ro, 0x1f⟩, ⟨22, 5, .ro, 0x0⟩, ⟨17, 5, .ro, 0x1f⟩, ⟨12, 5, .ro, 0x0⟩, ⟨4, 8, .ro, 0x0⟩, ⟨0, 1, .rws, 0x0⟩]⟩,
  ⟨.GRAD_CTRL, 0x100001c, [], [(16, 0x100000), (9, 0x8000)], [⟨31, 1, .w1c, 0x0⟩, ⟨30, 1, .w1c, 0x0⟩, ⟨29, 1, .rw, 0x0⟩, ⟨28, 1, .rw, 0x0⟩, ⟨24, 4, .rw, 0xc⟩, ⟨0, 12, .rw, 0x80⟩]⟩,
  ⟨.TR_CTRL, 0x1000020, [], [(16, 0x100000), (9, 0x8000)], [⟨8, 5, .rw, 0xe⟩, ⟨0, 4, .rw, 0x4⟩]⟩,
  ⟨.TR_STATUS, 0x1000024, [], [(16, 0x100000), (9, 0x8000)], [⟨16, 16, .ro, 0x0⟩, ⟨8, 8, .ro, 0x0⟩, ⟨7, 1, .ro, 0x0⟩, ⟨6, 1, .ro, 0x0⟩, ⟨5, 1, .ro, 0x0⟩]⟩,
  ⟨.DET_CTRL, 0x1000028, [], [(16, 0x100000), (9, 0x8000)], [⟨31, 1, .ro, 0x0⟩, ⟨0, 16, .rw, 0x100⟩]⟩,
  ⟨.EQ_CONV, 0x100002c, [], [(16, 0x100000), (9, 0x8000)], [⟨31, 1, .wo, 0x0⟩, ⟨30, 1, .wo, 0x0⟩, ⟨24, 4, .rw, 0x0⟩]⟩,
  ⟨.QUAL_SNR, 0x1000040, [], [(16, 0x100000), (9, 0x8000)], [⟨16, 16, .ro, 0x8000⟩, ⟨0, 16, .ro, 0x0⟩]⟩,
  ⟨.QUAL_MARGIN, 0x1000044, [], [(16, 0x100000), (9, 0x8000)], [⟨16, 16, .ro, 0x8000⟩, ⟨0, 16, .ro, 0x8000⟩]⟩,
  ⟨.QUAL_LEVEL, 0x1000048, [], [(16, 0x100000), (9, 0x8000), (4, 0x4)], [⟨16, 16, .ro, 0x8000⟩, ⟨0, 16, .ro, 0x0⟩]⟩,
  ⟨.LANE_EFFORT, 0x10f1020, [], [(16, 0x100000), (9, 0x100)], [⟨26, 2, .ro, 0x0⟩, ⟨24, 2, .ro, 0x0⟩, ⟨23, 1, .ro, 0x0⟩, ⟨18, 2, .rw, 0x0⟩, ⟨0, 8, .ro, 0x0⟩]⟩,
  ⟨.CODE_STATUS, 0x1004000, [], [(16, 0x100000), (9, 0x8000)], [⟨31, 1, .ro, 0x0⟩, ⟨30, 1, .ro, 0x0⟩, ⟨29, 1, .ro, 0x0⟩, ⟨28, 1, .w1c, 0x0⟩, ⟨27, 1, .w1c, 0x0⟩, ⟨16, 8, .ro, 0x0⟩, ⟨0, 7, .ro, 0x0⟩]⟩,
  ⟨.CNT_CTRL, 0x1004004, [], [(16, 0x100000), (9, 0x8000)], [⟨31, 1, .rws, 0x0⟩]⟩,
  ⟨.TXD_STATUS, 0x1050000, [], [(16, 0x100000), (9, 0x4000)], [⟨28, 4, .ro, 0x0⟩, ⟨25, 3, .ro, 0x0⟩, ⟨24, 1, .ro, 0x0⟩, ⟨21, 3, .ro, 0x0⟩, ⟨8, 8, .ro, 0x0⟩, ⟨0, 8, .ro, 0x0⟩]⟩,
  ⟨.TXD_CTRL, 0x1050004, [], [(16, 0x100000), (9, 0x4000)], [⟨31, 1, .rws, 0x0⟩, ⟨30, 1, .rw, 0x0⟩, ⟨0, 8, .rw, 0x28⟩]⟩,
  ⟨.TXD_FIR, 0x1050010, [], [(16, 0x100000), (9, 0x4000), (7, 0x4)], [⟨0, 10, .rw, 0x100⟩]⟩]
def regDescs1 : List RegDesc := [
  ⟨.TXD_PD, 0x1050100, [], [(16, 0x100000), (9, 0x4000), (64, 0x4)], [⟨0, 8, .rw, 0x0⟩]⟩,
  ⟨.LANE_MAP_TX, 0x10f000c, [], [(16, 0x100000)], [⟨28, 4, .ro, 0x7⟩, ⟨24, 4, .ro, 0x6⟩, ⟨20, 4, .ro, 0x5⟩, ⟨16, 4, .ro, 0x4⟩, ⟨12, 4, .ro, 0x3⟩, ⟨8, 4, .ro, 0x2⟩, ⟨4, 4, .ro, 0x1⟩, ⟨0, 4, .ro, 0x0⟩]⟩,
  ⟨.LANE_MAP_TX_AUX, 0x10f0010, [], [(16, 0x100000)], [⟨28, 4, .ro, 0x8⟩, ⟨19, 9, .ro, 0x0⟩, ⟨12, 4, .ro, 0xf⟩, ⟨0, 4, .ro, 0xf⟩]⟩,
  ⟨.OPT_CTRL, 0x10a0000, [], [(16, 0x100000)], [⟨29, 3, .rw, 0x0⟩, ⟨0, 9, .rw, 0x1ff⟩]⟩,
  ⟨.OPT_STATUS, 0x10a0004, [], [(16, 0x100000)], [⟨29, 3, .ro, 0x1⟩, ⟨28, 1, .ro, 0x0⟩, ⟨24, 1, .ro, 0x0⟩, ⟨23, 1, .ro, 0x0⟩, ⟨8, 8, .ro, 0x0⟩, ⟨7, 1, .w1c, 0x0⟩, ⟨6, 1, .w1c, 0x0⟩, ⟨5, 1, .ro, 0x0⟩, ⟨4, 1, .w1c, 0x0⟩, ⟨0, 4, .ro, 0x0⟩]⟩,
  ⟨.FSB_STATS, 0x10a0008, [], [(16, 0x100000)], [⟨16, 16, .ro, 0x0⟩, ⟨8, 8, .ro, 0x0⟩, ⟨0, 8, .ro, 0x0⟩]⟩,
  ⟨.OPT_LIM_A, 0x10a0040, [], [(16, 0x100000)], [⟨24, 8, .rwl, 0x0⟩, ⟨16, 8, .rwl, 0x0⟩, ⟨8, 8, .rwl, 0x0⟩, ⟨0, 8, .rwl, 0x0⟩]⟩,
  ⟨.OPT_LIM_B, 0x10a0044, [], [(16, 0x100000)], [⟨28, 4, .rwl, 0x0⟩, ⟨27, 1, .rwl, 0x0⟩, ⟨18, 9, .rwl, 0x0⟩, ⟨0, 16, .rwl, 0x0⟩]⟩,
  ⟨.OPT_LANE_A, 0x10a0100, [], [(16, 0x100000), (9, 0x10)], [⟨24, 8, .rw, 0x0⟩, ⟨16, 8, .rw, 0x0⟩, ⟨8, 8, .rw, 0x0⟩, ⟨0, 8, .rw, 0x0⟩]⟩,
  ⟨.OPT_LANE_B, 0x10a0104, [], [(16, 0x100000), (9, 0x10)], [⟨16, 16, .ro, 0x8000⟩, ⟨8, 8, .ro, 0xff⟩]⟩,
  ⟨.ELS_BANK, 0x300, [], [(4, 0x4)], [⟨31, 1, .ro, 0x0⟩, ⟨30, 1, .ro, 0x0⟩, ⟨29, 1, .w1c, 0x0⟩, ⟨28, 1, .w1c, 0x0⟩, ⟨0, 16, .rw, 0x64⟩]⟩,
  ⟨.HL_CTRL, 0x2000000, [], [(32, 0x10000), (8, 0x100)], [⟨31, 1, .rws, 0x0⟩, ⟨29, 2, .rw, 0x0⟩, ⟨28, 1, .rw, 0x0⟩, ⟨16, 8, .rw, 0x32⟩, ⟨0, 3, .rw, 0x0⟩]⟩,
  ⟨.HL_STATUS, 0x2000004, [], [(32, 0x10000), (8, 0x100)], [⟨28, 4, .ro, 0x0⟩, ⟨27, 1, .ro, 0x0⟩, ⟨26, 1, .ro, 0x0⟩, ⟨25, 1, .ro, 0x0⟩, ⟨24, 1, .ro, 0x0⟩, ⟨16, 8, .ro, 0xff⟩, ⟨8, 8, .ro, 0xff⟩, ⟨6, 2, .ro, 0x0⟩]⟩,
  ⟨.HL_EVENTS, 0x2000008, [], [(32, 0x10000), (8, 0x100)], [⟨6, 1, .w1c, 0x0⟩, ⟨5, 1, .w1c, 0x0⟩, ⟨4, 1, .w1c, 0x0⟩, ⟨3, 1, .w1c, 0x0⟩, ⟨2, 1, .w1c, 0x0⟩, ⟨1, 1, .w1c, 0x0⟩, ⟨0, 1, .w1c, 0x0⟩]⟩,
  ⟨.HL_SKEW, 0x200000c, [], [(32, 0x10000), (8, 0x100)], [⟨0, 16, .ro, 0x0⟩]⟩,
  ⟨.HL_PRBS_CTRL, 0x2000020, [], [(32, 0x10000), (8, 0x100)], [⟨31, 1, .rw, 0x0⟩, ⟨30, 1, .rw, 0x0⟩, ⟨29, 1, .rws, 0x0⟩, ⟨23, 1, .rw, 0x0⟩, ⟨22, 1, .rw, 0x0⟩, ⟨21, 1, .rws, 0x0⟩]⟩,
  ⟨.RXD_PRBS_CTRL, 0x1004200, [], [(16, 0x100000), (9, 0x8000)], [⟨23, 1, .rw, 0x0⟩, ⟨22, 1, .rw, 0x0⟩, ⟨21, 1, .rws, 0x0⟩]⟩,
  ⟨.TXD_PRBS_CTRL, 0x1050200, [], [(16, 0x100000), (9, 0x4000)], [⟨31, 1, .rw, 0x0⟩, ⟨30, 1, .rw, 0x0⟩, ⟨29, 1, .rws, 0x0⟩]⟩,
  ⟨.HL_PRBS_STATUS, 0x2000024, [], [(32, 0x10000), (8, 0x100)], [⟨31, 1, .ro, 0x0⟩, ⟨30, 1, .ro, 0x0⟩, ⟨0, 16, .ro, 0x0⟩]⟩,
  ⟨.RXD_PRBS_STATUS, 0x1004204, [], [(16, 0x100000), (9, 0x8000)], [⟨31, 1, .ro, 0x0⟩, ⟨30, 1, .ro, 0x0⟩, ⟨0, 16, .ro, 0x0⟩]⟩,
  ⟨.PORT_CFG, 0x3000000, [], [(128, 0x40)], [⟨31, 1, .ro, 0x0⟩, ⟨27, 4, .ro, 0x0⟩, ⟨24, 3, .ro, 0x0⟩, ⟨21, 3, .ro, 0x0⟩, ⟨20, 1, .ro, 0x0⟩, ⟨19, 1, .ro, 0x0⟩, ⟨0, 8, .ro, 0x0⟩]⟩,
  ⟨.PORT_CTRL, 0x3000004, [], [(128, 0x40)], [⟨31, 1, .rw, 0x1⟩, ⟨30, 1, .rws, 0x0⟩, ⟨29, 1, .rws, 0x0⟩]⟩,
  ⟨.PORT_STATUS, 0x3000008, [], [(128, 0x40)], [⟨31, 1, .ro, 0x0⟩, ⟨30, 1, .ro, 0x0⟩, ⟨29, 1, .ro, 0x0⟩, ⟨28, 1, .ro, 0x1⟩, ⟨27, 1, .ro, 0x1⟩, ⟨16, 8, .ro, 0x0⟩, ⟨8, 8, .ro, 0x0⟩]⟩,
  ⟨.PORT_EVENTS, 0x300000c, [], [(128, 0x40)], [⟨3, 1, .w1c, 0x0⟩, ⟨2, 1, .w1c, 0x0⟩, ⟨1, 1, .w1c, 0x0⟩, ⟨0, 1, .w1c, 0x0⟩]⟩,
  ⟨.SEAM_CTRL, 0x10f2000, [], [(16, 0x100000), (8, 0x80)], [⟨31, 1, .rws, 0x0⟩, ⟨30, 1, .rw, 0x1⟩, ⟨29, 1, .rw, 0x0⟩, ⟨28, 1, .rws, 0x0⟩, ⟨24, 3, .rw, 0x3⟩]⟩,
  ⟨.SEAM_STATUS, 0x10f2004, [], [(16, 0x100000), (8, 0x80)], [⟨29, 3, .ro, 0x0⟩, ⟨27, 2, .ro, 0x0⟩, ⟨26, 1, .ro, 0x0⟩, ⟨25, 1, .ro, 0x0⟩, ⟨24, 1, .ro, 0x0⟩, ⟨23, 1, .ro, 0x0⟩, ⟨20, 3, .ro, 0x0⟩, ⟨12, 8, .ro, 0xff⟩, ⟨0, 12, .ro, 0x0⟩]⟩,
  ⟨.SEAM_PARTNER, 0x10f2008, [], [(16, 0x100000), (8, 0x80)], [⟨16, 16, .ro, 0x0⟩, ⟨13, 3, .ro, 0x0⟩, ⟨9, 4, .ro, 0x0⟩, ⟨8, 1, .ro, 0x0⟩, ⟨7, 1, .ro, 0x0⟩]⟩,
  ⟨.REPLAY_STATUS, 0x10f200c, [], [(16, 0x100000), (8, 0x80)], [⟨31, 1, .ro, 0x0⟩, ⟨30, 1, .ro, 0x0⟩, ⟨27, 3, .ro, 0x0⟩, ⟨12, 12, .ro, 0x0⟩, ⟨0, 8, .ro, 0x0⟩]⟩,
  ⟨.SEAM_EVENTS, 0x10f2038, [], [(16, 0x100000), (8, 0x80)], [⟨6, 1, .w1c, 0x0⟩, ⟨5, 1, .w1c, 0x0⟩, ⟨4, 1, .w1c, 0x0⟩, ⟨3, 1, .w1c, 0x0⟩, ⟨2, 1, .w1c, 0x0⟩, ⟨1, 1, .w1c, 0x0⟩, ⟨0, 1, .w1c, 0x0⟩]⟩,
  ⟨.SEAL_CTRL, 0x10f2400, [], [(16, 0x100000)], [⟨16, 16, .rw, 0x100⟩, ⟨15, 1, .rw, 0x1⟩]⟩,
  ⟨.SEAL_STATUS, 0x10f2404, [], [(16, 0x100000)], [⟨29, 3, .ro, 0x0⟩, ⟨28, 1, .ro, 0x0⟩, ⟨27, 1, .ro, 0x0⟩, ⟨24, 3, .ro, 0x0⟩, ⟨20, 4, .ro, 0x0⟩, ⟨12, 8, .ro, 0x0⟩, ⟨0, 12, .ro, 0x0⟩]⟩,
  ⟨.TAP_CTRL, 0x700000, [], [(16, 0x1000)], [⟨31, 1, .rw, 0x0⟩, ⟨30, 1, .rws, 0x0⟩, ⟨29, 1, .ro, 0x0⟩, ⟨28, 1, .rws, 0x0⟩]⟩,
  ⟨.TAP_CFG, 0x700004, [], [(16, 0x1000)], [⟨28, 4, .rw, 0x0⟩, ⟨24, 4, .rw, 0x0⟩, ⟨19, 5, .rw, 0x0⟩, ⟨18, 1, .rw, 0x0⟩, ⟨15, 3, .rw, 0x0⟩]⟩,
  ⟨.TAP_NCO, 0x700008, [], [(16, 0x1000)], [⟨0, 32, .rw, 0x0⟩]⟩,
  ⟨.TAP_STATUS, 0x70000c, [], [(16, 0x1000)], [⟨29, 3, .ro, 0x0⟩, ⟨28, 1, .ro, 0x0⟩, ⟨8, 8, .ro, 0x0⟩, ⟨0, 8, .ro, 0x0⟩]⟩,
  ⟨.TAP_GDELAY, 0x700010, [], [(16, 0x1000)], [⟨0, 32, .ro, 0x0⟩]⟩,
  ⟨.TAP_COEF, 0x700400, [], [(16, 0x1000), (2, 0x100), (64, 0x4)], [⟨0, 16, .rw, 0x0⟩]⟩,
  ⟨.CAP_CTRL, 0x710000, [], [(4, 0x100)], [⟨31, 1, .wo, 0x0⟩, ⟨30, 1, .wo, 0x0⟩, ⟨29, 1, .wo, 0x0⟩, ⟨28, 1, .wo, 0x0⟩]⟩,
  ⟨.CAP_CFG, 0x710004, [], [(4, 0x100)], [⟨29, 3, .rw, 0x0⟩, ⟨25, 4, .rw, 0x0⟩, ⟨21, 4, .rw, 0x0⟩, ⟨17, 4, .rw, 0x8⟩, ⟨16, 1, .rw, 0x0⟩]⟩,
  ⟨.CAP_REGION, 0x710008, [], [(4, 0x100)], [⟨8, 6, .rw, 0x10⟩, ⟨0, 7, .rw, 0x10⟩]⟩]
def regDescs2 : List RegDesc := [
  ⟨.CAP_TRIG, 0x71000c, [], [(4, 0x100)], [⟨28, 4, .rw, 0x0⟩]⟩,
  ⟨.CAP_TRIG_ARG, 0x710010, [], [(4, 0x100)], [⟨0, 32, .rw, 0x0⟩]⟩,
  ⟨.CAP_TRIG_TIME_HI, 0x710014, [], [(4, 0x100)], [⟨0, 32, .rw, 0x0⟩]⟩,
  ⟨.CAP_STATUS, 0x710018, [], [(4, 0x100)], [⟨29, 3, .ro, 0x0⟩, ⟨28, 1, .ro, 0x0⟩, ⟨27, 1, .ro, 0x0⟩, ⟨26, 1, .ro, 0x0⟩, ⟨0, 20, .ro, 0x0⟩]⟩,
  ⟨.CAP_TRIG_STAMP_LO, 0x71001c, [], [(4, 0x100)], [⟨0, 32, .ro, 0x0⟩]⟩,
  ⟨.CAP_TRIG_STAMP_HI, 0x710020, [], [(4, 0x100)], [⟨0, 32, .ro, 0x0⟩]⟩,
  ⟨.CAP_TRIG_POS, 0x710024, [], [(4, 0x100)], [⟨0, 26, .ro, 0x0⟩]⟩,
  ⟨.STREAM_STATUS, 0x720000, [], [(32, 0x40)], [⟨31, 1, .ro, 0x0⟩, ⟨28, 3, .ro, 0x0⟩, ⟨24, 4, .ro, 0x0⟩, ⟨23, 1, .ro, 0x0⟩, ⟨22, 1, .ro, 0x0⟩, ⟨0, 16, .ro, 0x0⟩]⟩,
  ⟨.STREAM_CREDIT, 0x720004, [], [(32, 0x40)], [⟨0, 16, .wo, 0x0⟩]⟩,
  ⟨.STREAM_DROPS, 0x720008, [], [(32, 0x40)], [⟨0, 32, .ro, 0x0⟩]⟩,
  ⟨.ARCH_STATUS, 0x730000, [], [], [⟨24, 8, .ro, 0x0⟩, ⟨0, 24, .ro, 0x0⟩]⟩,
  ⟨.ARCH_CTRL, 0x730004, [], [], [⟨31, 1, .wo, 0x0⟩]⟩,
  ⟨.HW_CTRL, 0x10c0000, [], [(16, 0x100000)], [⟨31, 1, .rw, 0x1⟩, ⟨30, 1, .rws, 0x0⟩, ⟨29, 1, .rws, 0x0⟩]⟩,
  ⟨.HW_CTRL, 0x2c0000, [16], [], [⟨31, 1, .rw, 0x1⟩, ⟨30, 1, .rws, 0x0⟩, ⟨29, 1, .rws, 0x0⟩]⟩,
  ⟨.HW_CTRL, 0x1c0000, [17], [], [⟨31, 1, .rw, 0x1⟩, ⟨30, 1, .rws, 0x0⟩, ⟨29, 1, .rws, 0x0⟩]⟩,
  ⟨.HW_STATUS, 0x10c0004, [], [(16, 0x100000)], [⟨29, 3, .ro, 0x0⟩, ⟨24, 5, .ro, 0x0⟩, ⟨0, 16, .ro, 0x0⟩]⟩,
  ⟨.HW_STATUS, 0x2c0004, [16], [], [⟨29, 3, .ro, 0x0⟩, ⟨24, 5, .ro, 0x0⟩, ⟨0, 16, .ro, 0x0⟩]⟩,
  ⟨.HW_STATUS, 0x1c0004, [17], [], [⟨29, 3, .ro, 0x0⟩, ⟨24, 5, .ro, 0x0⟩, ⟨0, 16, .ro, 0x0⟩]⟩,
  ⟨.HW_WDOG, 0x10c0008, [], [(16, 0x100000)], [⟨16, 16, .rw, 0x64⟩, ⟨15, 1, .wo, 0x0⟩]⟩,
  ⟨.HW_WDOG, 0x2c0008, [16], [], [⟨16, 16, .rw, 0x64⟩, ⟨15, 1, .wo, 0x0⟩]⟩,
  ⟨.HW_WDOG, 0x1c0008, [17], [], [⟨16, 16, .rw, 0x64⟩, ⟨15, 1, .wo, 0x0⟩]⟩,
  ⟨.HW_MBOX_IN, 0x10c0010, [], [(16, 0x100000)], [⟨28, 4, .ro, 0x0⟩, ⟨0, 28, .rw, 0x0⟩]⟩,
  ⟨.HW_MBOX_IN, 0x2c0010, [16], [], [⟨28, 4, .ro, 0x0⟩, ⟨0, 28, .rw, 0x0⟩]⟩,
  ⟨.HW_MBOX_IN, 0x1c0010, [17], [], [⟨28, 4, .ro, 0x0⟩, ⟨0, 28, .rw, 0x0⟩]⟩,
  ⟨.HW_MBOX_OUT, 0x10c0014, [], [(16, 0x100000)], [⟨0, 32, .rw, 0x0⟩]⟩,
  ⟨.HW_MBOX_OUT, 0x2c0014, [16], [], [⟨0, 32, .rw, 0x0⟩]⟩,
  ⟨.HW_MBOX_OUT, 0x1c0014, [17], [], [⟨0, 32, .rw, 0x0⟩]⟩,
  ⟨.HW_IRQ, 0x10c0018, [], [(16, 0x100000)], [⟨16, 8, .w1c, 0x0⟩, ⟨0, 8, .rw, 0x0⟩]⟩,
  ⟨.HW_IRQ, 0x2c0018, [16], [], [⟨16, 8, .w1c, 0x0⟩, ⟨0, 8, .rw, 0x0⟩]⟩,
  ⟨.HW_IRQ, 0x1c0018, [17], [], [⟨16, 8, .w1c, 0x0⟩, ⟨0, 8, .rw, 0x0⟩]⟩,
  ⟨.HW_TIMER, 0x10c001c, [], [(16, 0x100000)], [⟨0, 32, .rw, 0x0⟩]⟩,
  ⟨.HW_TIMER, 0x2c001c, [16], [], [⟨0, 32, .rw, 0x0⟩]⟩,
  ⟨.HW_TIMER, 0x1c001c, [17], [], [⟨0, 32, .rw, 0x0⟩]⟩,
  ⟨.HW_ADAPT, 0x10c0020, [], [(16, 0x100000)], [⟨31, 1, .ro, 0x0⟩, ⟨30, 1, .rw, 0x0⟩]⟩,
  ⟨.HW_ADAPT, 0x2c0020, [16], [], [⟨31, 1, .ro, 0x0⟩, ⟨30, 1, .rw, 0x0⟩]⟩,
  ⟨.HW_ADAPT, 0x1c0020, [17], [], [⟨31, 1, .ro, 0x0⟩, ⟨30, 1, .rw, 0x0⟩]⟩,
  ⟨.HW_BUS_STATUS, 0x10c0024, [], [(16, 0x100000)], [⟨24, 8, .ro, 0x0⟩]⟩,
  ⟨.HW_BUS_STATUS, 0x2c0024, [16], [], [⟨24, 8, .ro, 0x0⟩]⟩,
  ⟨.HW_BUS_STATUS, 0x1c0024, [17], [], [⟨24, 8, .ro, 0x0⟩]⟩,
  ⟨.HW_BUS_ADDR, 0x10c0028, [], [(16, 0x100000)], [⟨0, 32, .ro, 0x0⟩]⟩]
def regDescs3 : List RegDesc := [
  ⟨.HW_BUS_ADDR, 0x2c0028, [16], [], [⟨0, 32, .ro, 0x0⟩]⟩,
  ⟨.HW_BUS_ADDR, 0x1c0028, [17], [], [⟨0, 32, .ro, 0x0⟩]⟩,
  ⟨.HW_OVL_SRC_LO, 0x10c0030, [], [(16, 0x100000)], [⟨0, 32, .rw, 0x0⟩]⟩,
  ⟨.HW_OVL_SRC_LO, 0x2c0030, [16], [], [⟨0, 32, .rw, 0x0⟩]⟩,
  ⟨.HW_OVL_SRC_LO, 0x1c0030, [17], [], [⟨0, 32, .rw, 0x0⟩]⟩,
  ⟨.HW_OVL_SRC_HI, 0x10c0034, [], [(16, 0x100000)], [⟨0, 4, .rw, 0x0⟩]⟩,
  ⟨.HW_OVL_SRC_HI, 0x2c0034, [16], [], [⟨0, 4, .rw, 0x0⟩]⟩,
  ⟨.HW_OVL_SRC_HI, 0x1c0034, [17], [], [⟨0, 4, .rw, 0x0⟩]⟩,
  ⟨.HW_OVL_DST, 0x10c0038, [], [(16, 0x100000)], [⟨31, 1, .rw, 0x0⟩, ⟨0, 17, .rw, 0x0⟩]⟩,
  ⟨.HW_OVL_DST, 0x2c0038, [16], [], [⟨31, 1, .rw, 0x0⟩, ⟨0, 17, .rw, 0x0⟩]⟩,
  ⟨.HW_OVL_DST, 0x1c0038, [17], [], [⟨31, 1, .rw, 0x0⟩, ⟨0, 17, .rw, 0x0⟩]⟩,
  ⟨.HW_OVL_CTRL, 0x10c003c, [], [(16, 0x100000)], [⟨31, 1, .rws, 0x0⟩, ⟨30, 1, .rw, 0x0⟩, ⟨28, 2, .ro, 0x0⟩, ⟨0, 17, .rw, 0x0⟩]⟩,
  ⟨.HW_OVL_CTRL, 0x2c003c, [16], [], [⟨31, 1, .rws, 0x0⟩, ⟨30, 1, .rw, 0x0⟩, ⟨28, 2, .ro, 0x0⟩, ⟨0, 17, .rw, 0x0⟩]⟩,
  ⟨.HW_OVL_CTRL, 0x1c003c, [17], [], [⟨31, 1, .rws, 0x0⟩, ⟨30, 1, .rw, 0x0⟩, ⟨28, 2, .ro, 0x0⟩, ⟨0, 17, .rw, 0x0⟩]⟩,
  ⟨.HW_FW_ID, 0x10c0040, [], [(16, 0x100000)], [⟨0, 32, .rw, 0x0⟩]⟩,
  ⟨.HW_FW_ID, 0x2c0040, [16], [], [⟨0, 32, .rw, 0x0⟩]⟩,
  ⟨.HW_FW_ID, 0x1c0040, [17], [], [⟨0, 32, .rw, 0x0⟩]⟩,
  ⟨.CP_CTRL, 0x600000, [], [(2, 0x100)], [⟨31, 1, .rws, 0x0⟩, ⟨30, 1, .rws, 0x0⟩, ⟨0, 2, .rw, 0x0⟩]⟩,
  ⟨.CP_STATUS, 0x600004, [], [(2, 0x100)], [⟨31, 1, .ro, 0x0⟩, ⟨28, 3, .ro, 0x7⟩, ⟨27, 1, .ro, 0x0⟩, ⟨26, 1, .ro, 0x0⟩, ⟨8, 8, .ro, 0x0⟩, ⟨0, 8, .ro, 0x0⟩]⟩,
  ⟨.CP_ERRS, 0x600008, [], [(2, 0x100)], [⟨24, 8, .ro, 0x0⟩, ⟨16, 8, .ro, 0x0⟩, ⟨8, 8, .ro, 0x0⟩, ⟨0, 8, .ro, 0x0⟩]⟩,
  ⟨.TIME_NOW_LO, 0x600400, [], [], [⟨0, 32, .ro, 0x0⟩]⟩,
  ⟨.TIME_NOW_HI, 0x600404, [], [], [⟨0, 32, .ro, 0x0⟩]⟩,
  ⟨.TIME_STATUS, 0x600408, [], [], [⟨29, 3, .ro, 0x0⟩, ⟨28, 1, .ro, 0x0⟩, ⟨16, 8, .ro, 0x0⟩, ⟨0, 16, .ro, 0x8000⟩]⟩,
  ⟨.VAULT_STATUS, 0x600500, [], [], [⟨31, 1, .ro, 0x0⟩, ⟨16, 8, .ro, 0x0⟩, ⟨0, 6, .ro, 0x0⟩]⟩,
  ⟨.WAKE_CODE_LO, 0x600504, [], [], [⟨0, 32, .wo, 0x0⟩]⟩,
  ⟨.WAKE_CODE_HI, 0x600508, [], [], [⟨0, 32, .wo, 0x0⟩]⟩,
  ⟨.CHIP_ID, 0x0, [], [], [⟨0, 32, .ro, 0x5a545128⟩]⟩,
  ⟨.REV_ID, 0x4, [], [], [⟨8, 8, .ro, 0xa⟩, ⟨0, 8, .ro, 0x1⟩]⟩,
  ⟨.SERIAL_LO, 0x8, [], [], [⟨0, 32, .ro, 0x0⟩]⟩,
  ⟨.SERIAL_HI, 0xc, [], [], [⟨0, 32, .ro, 0x0⟩]⟩,
  ⟨.MAC_BASE_LO, 0x10, [], [], [⟨0, 32, .ro, 0x0⟩]⟩,
  ⟨.MAC_BASE_HI, 0x14, [], [], [⟨0, 16, .ro, 0x0⟩]⟩,
  ⟨.FUSE_STATUS, 0x18, [], [], [⟨31, 1, .ro, 0x0⟩, ⟨30, 1, .ro, 0x0⟩, ⟨29, 1, .ro, 0x0⟩, ⟨8, 8, .ro, 0x0⟩, ⟨4, 4, .ro, 0x0⟩, ⟨0, 4, .ro, 0x0⟩]⟩,
  ⟨.PRESENCE, 0x1c, [], [], [⟨18, 4, .ro, 0x0⟩, ⟨17, 1, .ro, 0x0⟩, ⟨16, 1, .ro, 0x0⟩, ⟨0, 16, .ro, 0x0⟩]⟩,
  ⟨.GROUPS, 0x20, [], [], [⟨0, 32, .ro, 0x0⟩]⟩,
  ⟨.ACC_STATUS, 0x100, [], [], [⟨24, 8, .ro, 0x0⟩, ⟨16, 5, .ro, 0x0⟩, ⟨0, 16, .ro, 0x0⟩]⟩,
  ⟨.ACC_ADDR, 0x104, [], [], [⟨0, 32, .ro, 0x0⟩]⟩,
  ⟨.FM_CHIP_CTRL, 0x100000, [], [], [⟨30, 2, .rw, 0x0⟩]⟩,
  ⟨.FM_CHIP_STATUS, 0x100004, [], [], [⟨30, 2, .ro, 0x0⟩, ⟨29, 1, .ro, 0x0⟩, ⟨16, 8, .ro, 0x0⟩]⟩,
  ⟨.WAKE_SRC, 0x100010, [], [], [⟨29, 3, .ro, 0x0⟩, ⟨16, 5, .w1c, 0x0⟩, ⟨0, 16, .ro, 0x0⟩]⟩]
def regDescs4 : List RegDesc := [
  ⟨.WAKE_EN, 0x100014, [], [], [⟨16, 16, .rw, 0x370⟩, ⟨0, 5, .rw, 0x1f⟩]⟩,
  ⟨.WAKE_TIMER, 0x100018, [], [], [⟨0, 32, .rw, 0x0⟩]⟩,
  ⟨.WAKE_RETAIN_FAIL_LO, 0x100020, [], [], [⟨0, 32, .w1c, 0x0⟩]⟩,
  ⟨.WAKE_RETAIN_FAIL_HI, 0x100024, [], [], [⟨0, 32, .w1c, 0x0⟩]⟩,
  ⟨.FM_RAIL, 0x100040, [], [(4, 0x4)], [⟨30, 2, .ro, 0x0⟩, ⟨28, 2, .rw, 0x0⟩, ⟨16, 10, .ro, 0x320⟩, ⟨8, 8, .ro, 0x0⟩, ⟨7, 1, .ro, 0x0⟩]⟩,
  ⟨.FM_FACE_RAIL, 0x100050, [], [(4, 0x4)], [⟨16, 10, .ro, 0x244⟩, ⟨8, 8, .ro, 0x0⟩, ⟨7, 1, .ro, 0x0⟩]⟩,
  ⟨.FM_BUDGET, 0x100080, [], [], [⟨0, 16, .rw, 0x0⟩]⟩,
  ⟨.FM_BUDGET_STATUS, 0x100084, [], [], [⟨31, 1, .ro, 0x0⟩, ⟨28, 3, .ro, 0x0⟩, ⟨27, 1, .ro, 0x0⟩]⟩,
  ⟨.FM_CHIP_PWR, 0x100088, [], [], [⟨16, 16, .ro, 0x0⟩, ⟨0, 16, .ro, 0x0⟩]⟩,
  ⟨.FM_EFFORT, 0x10008c, [], [], [⟨16, 8, .rw, 0x0⟩, ⟨8, 8, .rw, 0x0⟩]⟩,
  ⟨.FM_SCHED, 0x1000c0, [], [], [⟨31, 1, .ro, 0x0⟩, ⟨30, 1, .ro, 0x0⟩, ⟨29, 1, .ro, 0x0⟩, ⟨28, 1, .ro, 0x0⟩, ⟨16, 8, .ro, 0x0⟩, ⟨8, 8, .ro, 0x0⟩, ⟨0, 8, .ro, 0x0⟩]⟩,
  ⟨.FM_FACE_BUDGET, 0x100100, [], [(16, 0x8)], [⟨0, 16, .rw, 0x0⟩]⟩,
  ⟨.FM_FACE_PWR, 0x100104, [], [(16, 0x8)], [⟨31, 1, .ro, 0x0⟩, ⟨28, 3, .ro, 0x0⟩, ⟨27, 1, .ro, 0x0⟩, ⟨12, 12, .ro, 0x0⟩, ⟨0, 12, .ro, 0x0⟩]⟩,
  ⟨.TS, 0x100200, [], [(34, 0x4)], [⟨31, 1, .ro, 0x0⟩, ⟨28, 3, .ro, 0x0⟩, ⟨0, 16, .ro, 0x8000⟩]⟩,
  ⟨.TS_THROTTLE, 0x100300, [], [], [⟨16, 16, .rw, 0x0⟩, ⟨0, 16, .rw, 0x0⟩]⟩,
  ⟨.TS_HYST, 0x100304, [], [], [⟨0, 8, .rw, 0x0⟩]⟩,
  ⟨.TS_STATUS, 0x100308, [], [], [⟨31, 1, .ro, 0x0⟩, ⟨30, 1, .ro, 0x0⟩, ⟨24, 6, .ro, 0x0⟩, ⟨16, 8, .ro, 0x0⟩, ⟨0, 16, .ro, 0x8000⟩]⟩,
  ⟨.FM_SEAL, 0x100400, [], [], [⟨24, 8, .ro, 0x0⟩, ⟨16, 8, .ro, 0x0⟩, ⟨8, 8, .ro, 0x0⟩]⟩,
  ⟨.MADC_CTRL, 0x200000, [], [], [⟨31, 1, .rws, 0x0⟩, ⟨30, 1, .rw, 0x1⟩]⟩,
  ⟨.MADC_CHSEL, 0x200004, [], [], [⟨31, 1, .rws, 0x0⟩, ⟨0, 7, .rw, 0x0⟩]⟩,
  ⟨.MADC_DATA, 0x200008, [], [], [⟨31, 1, .ro, 0x0⟩, ⟨12, 7, .ro, 0x0⟩, ⟨0, 12, .ro, 0x0⟩]⟩,
  ⟨.MADC_GAIN, 0x20000c, [], [], [⟨0, 16, .ro, 0x0⟩]⟩,
  ⟨.MADC_OFFSET, 0x200010, [], [], [⟨0, 16, .ro, 0x0⟩]⟩,
  ⟨.MADC_STATUS, 0x200014, [], [], [⟨31, 1, .ro, 0x0⟩, ⟨30, 1, .ro, 0x0⟩, ⟨25, 5, .ro, 0x0⟩, ⟨8, 8, .ro, 0x0⟩, ⟨0, 8, .ro, 0x0⟩]⟩,
  ⟨.MADC_ALARM, 0x200020, [], [(8, 0x4)], [⟨0, 32, .w1c, 0x0⟩]⟩,
  ⟨.SURVEY_CTRL, 0x200040, [], [], [⟨31, 1, .rw, 0x1⟩, ⟨16, 3, .rw, 0x4⟩, ⟨0, 16, .rw, 0xa8⟩]⟩,
  ⟨.SURVEY_STATUS, 0x200044, [], [], [⟨24, 8, .ro, 0x0⟩, ⟨16, 8, .ro, 0x0⟩, ⟨8, 8, .ro, 0x0⟩, ⟨0, 8, .ro, 0x0⟩]⟩,
  ⟨.AGE_MON, 0x200100, [], [(48, 0x4)], [⟨31, 1, .ro, 0x0⟩, ⟨30, 1, .ro, 0x0⟩, ⟨0, 20, .ro, 0x0⟩]⟩,
  ⟨.MADC_SEQ_ENTRY0, 0x200400, [], [(256, 0x8)], [⟨8, 7, .ro, 0x0⟩, ⟨0, 3, .ro, 0x0⟩]⟩,
  ⟨.MADC_SEQ_ENTRY1, 0x200404, [], [(256, 0x8)], [⟨16, 16, .ro, 0x0⟩, ⟨0, 16, .ro, 0x0⟩]⟩,
  ⟨.MADC_RESULT, 0x200c00, [], [(256, 0x4)], [⟨24, 8, .ro, 0x0⟩, ⟨0, 12, .ro, 0x0⟩]⟩,
  ⟨.SET_HDR, 0x201300, [], [(144, 0x1400), (5, 0x400)], [⟨31, 1, .rw, 0x0⟩, ⟨30, 1, .rw, 0x0⟩, ⟨16, 12, .rw, 0x0⟩, ⟨8, 8, .ro, 0x0⟩, ⟨0, 8, .ro, 0x0⟩]⟩,
  ⟨.CAL_STATUS, 0x10f1030, [], [(16, 0x100000), (9, 0x100)], [⟨29, 3, .ro, 0x0⟩, ⟨22, 7, .ro, 0x0⟩, ⟨19, 3, .ro, 0x0⟩, ⟨16, 3, .ro, 0x0⟩, ⟨12, 4, .ro, 0x0⟩, ⟨0, 8, .ro, 0x0⟩]⟩,
  ⟨.ASSAY_CTRL, 0x300000, [], [], [⟨31, 1, .rw, 0x1⟩, ⟨29, 1, .ro, 0x0⟩, ⟨16, 8, .rw, 0xa⟩, ⟨0, 16, .rw, 0x3e8⟩]⟩,
  ⟨.AS_FACE_STATUS, 0x301000, [], [(16, 0x100)], [⟨29, 3, .ro, 0x0⟩, ⟨28, 1, .ro, 0x0⟩, ⟨24, 4, .ro, 0xf⟩, ⟨20, 4, .ro, 0xf⟩, ⟨17, 3, .ro, 0x0⟩, ⟨16, 1, .ro, 0x0⟩, ⟨0, 16, .ro, 0x0⟩]⟩,
  ⟨.AS_FACE_COUNTS, 0x301004, [], [(16, 0x100)], [⟨24, 8, .ro, 0x0⟩, ⟨16, 8, .ro, 0x0⟩, ⟨8, 8, .ro, 0x0⟩, ⟨0, 8, .ro, 0x0⟩]⟩,
  ⟨.AS_FACE_LAST, 0x301008, [], [(16, 0x100)], [⟨28, 4, .ro, 0x0⟩, ⟨24, 4, .ro, 0x0⟩]⟩,
  ⟨.AS_RX_DP, 0x301020, [], [(16, 0x100), (9, 0x4)], [⟨30, 2, .ro, 0x0⟩, ⟨27, 3, .ro, 0x0⟩, ⟨0, 24, .ro, 0x0⟩]⟩,
  ⟨.AS_TX_DP, 0x301060, [], [(16, 0x100), (9, 0x4)], [⟨30, 2, .ro, 0x0⟩, ⟨27, 3, .ro, 0x0⟩, ⟨0, 24, .ro, 0x0⟩]⟩,
  ⟨.MEM_SCRUB_CTRL, 0x500000, [], [], [⟨31, 1, .rw, 0x1⟩, ⟨0, 24, .rw, 0x4000⟩]⟩]
def regDescs5 : List RegDesc := [
  ⟨.MEM_SCRUB_DDR, 0x500004, [], [], [⟨0, 16, .rw, 0x1000⟩]⟩,
  ⟨.MEM_SCRUB_STATUS, 0x500008, [], [], [⟨24, 8, .ro, 0x1⟩, ⟨16, 8, .ro, 0x0⟩, ⟨8, 8, .ro, 0x0⟩]⟩,
  ⟨.MEM_FLIP_CTRL, 0x500010, [], [], [⟨31, 1, .rw, 0x0⟩, ⟨30, 1, .rw, 0x0⟩, ⟨16, 8, .rw, 0x0⟩, ⟨8, 8, .rw, 0x0⟩, ⟨0, 8, .rw, 0x0⟩]⟩,
  ⟨.MEM_FLIP_DATA_LO, 0x500014, [], [], [⟨0, 32, .rw, 0x0⟩]⟩,
  ⟨.MEM_FLIP_DATA_HI, 0x500018, [], [], [⟨0, 32, .rw, 0x0⟩]⟩,
  ⟨.MEM_FLIP_ADDR, 0x50001c, [], [], [⟨0, 32, .rw, 0x0⟩]⟩,
  ⟨.MEM_ERR_INFO, 0x500020, [], [], [⟨30, 2, .ro, 0x0⟩, ⟨27, 3, .ro, 0x0⟩, ⟨16, 8, .ro, 0x0⟩, ⟨8, 8, .ro, 0x0⟩, ⟨0, 8, .ro, 0x0⟩]⟩,
  ⟨.MEM_ERR_ADDR, 0x500024, [], [], [⟨0, 32, .ro, 0x0⟩]⟩,
  ⟨.MEM_ARRAY0, 0x500100, [], [(20, 0x8)], [⟨16, 16, .ro, 0x0⟩, ⟨0, 16, .ro, 0x0⟩]⟩,
  ⟨.MEM_ARRAY1, 0x500104, [], [(20, 0x8)], [⟨24, 8, .ro, 0x0⟩, ⟨16, 8, .ro, 0x0⟩, ⟨0, 16, .ro, 0x0⟩]⟩,
  ⟨.MEM_REGION0, 0x501000, [], [(256, 0x8)], [⟨24, 8, .ro, 0x0⟩, ⟨16, 8, .ro, 0x0⟩, ⟨12, 4, .ro, 0x0⟩, ⟨11, 1, .rws, 0x0⟩, ⟨0, 8, .ro, 0x0⟩]⟩,
  ⟨.MEM_REGION1, 0x501004, [], [(256, 0x8)], [⟨16, 16, .ro, 0x0⟩, ⟨0, 16, .ro, 0x0⟩]⟩,
  ⟨.DDR_STATUS, 0x580000, [], [(4, 0x10000)], [⟨31, 1, .ro, 0x0⟩, ⟨30, 1, .ro, 0x0⟩, ⟨29, 1, .ro, 0x0⟩, ⟨16, 8, .ro, 0x0⟩]⟩,
  ⟨.DDR_TEST_ERRS, 0x580008, [], [(4, 0x10000)], [⟨0, 32, .ro, 0x0⟩]⟩,
  ⟨.TALLY_CTRL, 0x400000, [], [], [⟨31, 1, .rws, 0x0⟩, ⟨30, 1, .rw, 0x0⟩, ⟨0, 16, .rw, 0x3c⟩]⟩,
  ⟨.TALLY_STATUS, 0x400004, [], [], [⟨31, 1, .ro, 0x0⟩, ⟨30, 1, .ro, 0x0⟩]⟩,
  ⟨.HEAD_SEQ, 0x400008, [], [], [⟨0, 32, .ro, 0x0⟩]⟩,
  ⟨.BASE_SEQ, 0x40000c, [], [], [⟨0, 32, .ro, 0x0⟩]⟩,
  ⟨.TALLY_LOST_A, 0x400010, [], [], [⟨16, 16, .ro, 0x0⟩, ⟨0, 16, .ro, 0x0⟩]⟩,
  ⟨.TALLY_LOST_B, 0x400014, [], [], [⟨16, 16, .ro, 0x0⟩, ⟨0, 16, .ro, 0x0⟩]⟩,
  ⟨.ARCH_OLDEST, 0x400018, [], [], [⟨0, 24, .ro, 0x0⟩]⟩,
  ⟨.ARCH_NEWEST, 0x40001c, [], [], [⟨0, 24, .ro, 0x0⟩]⟩,
  ⟨.TALLY_ARCH_SEL, 0x400020, [], [], [⟨0, 24, .rw, 0x0⟩]⟩,
  ⟨.TALLY_SUB, 0x400024, [], [], [⟨31, 1, .rw, 0x0⟩, ⟨0, 16, .ro, 0x0⟩]⟩,
  ⟨.TALLY_CLASS_ACT_LO, 0x400080, [], [], [⟨0, 2, .rw, 0x1⟩, ⟨2, 2, .rw, 0x1⟩, ⟨4, 2, .rw, 0x1⟩, ⟨6, 2, .rw, 0x1⟩, ⟨8, 2, .rw, 0x1⟩, ⟨10, 2, .rw, 0x1⟩, ⟨12, 2, .rw, 0x1⟩, ⟨14, 2, .rw, 0x1⟩, ⟨16, 2, .rw, 0x1⟩, ⟨18, 2, .rw, 0x1⟩, ⟨20, 2, .rw, 0x1⟩, ⟨22, 2, .rw, 0x1⟩, ⟨24, 2, .rw, 0x1⟩, ⟨26, 2, .rw, 0x1⟩, ⟨28, 2, .rw, 0x1⟩, ⟨30, 2, .rw, 0x1⟩]⟩,
  ⟨.TALLY_CLASS_ACT_HI, 0x400084, [], [], [⟨0, 2, .rw, 0x1⟩, ⟨2, 2, .rw, 0x1⟩, ⟨4, 2, .rw, 0x1⟩, ⟨6, 2, .rw, 0x1⟩, ⟨8, 2, .rw, 0x1⟩, ⟨10, 2, .rw, 0x1⟩, ⟨12, 2, .rw, 0x1⟩, ⟨14, 2, .rw, 0x1⟩, ⟨16, 2, .rw, 0x1⟩, ⟨18, 2, .rw, 0x1⟩, ⟨20, 2, .rw, 0x1⟩, ⟨22, 2, .rw, 0x1⟩, ⟨24, 2, .rw, 0x1⟩, ⟨26, 2, .rw, 0x1⟩, ⟨28, 2, .rw, 0x1⟩, ⟨30, 2, .rw, 0x1⟩]⟩,
  ⟨.TALLY_FILTER0, 0x400100, [], [(16, 0x8)], [⟨31, 1, .rw, 0x0⟩, ⟨29, 2, .rw, 0x0⟩, ⟨16, 8, .rw, 0x0⟩, ⟨8, 8, .rw, 0x0⟩, ⟨0, 8, .rw, 0x0⟩]⟩,
  ⟨.TALLY_FILTER1, 0x400104, [], [(16, 0x8)], [⟨28, 4, .rw, 0x0⟩, ⟨0, 12, .rw, 0x0⟩]⟩,
  ⟨.SNAP_STATUS, 0x400200, [], [], [⟨31, 1, .ro, 0x0⟩, ⟨16, 8, .ro, 0x0⟩]⟩,
  ⟨.SNAP_SEL, 0x400204, [], [], [⟨0, 32, .rw, 0x0⟩]⟩,
  ⟨.SNAP_LO, 0x400208, [], [], [⟨0, 32, .ro, 0x0⟩]⟩,
  ⟨.SNAP_HI, 0x40020c, [], [], [⟨24, 8, .ro, 0x0⟩, ⟨0, 16, .ro, 0x0⟩]⟩,
  ⟨.MARK_TIME_LO, 0x400210, [], [], [⟨0, 32, .ro, 0x0⟩]⟩,
  ⟨.MARK_TIME_HI, 0x400214, [], [], [⟨0, 32, .ro, 0x0⟩]⟩,
  ⟨.HS_CTRL, 0x400400, [], [(18, 0x10)], [⟨31, 1, .rw, 0x0⟩, ⟨30, 1, .rws, 0x0⟩, ⟨0, 16, .rw, 0x400⟩]⟩,
  ⟨.HS_STATUS, 0x400404, [], [(18, 0x10)], [⟨31, 1, .ro, 0x0⟩, ⟨0, 7, .ro, 0x0⟩]⟩,
  ⟨.BW_CTRL, 0x401000, [], [(128, 0x10)], [⟨31, 1, .rw, 0x0⟩, ⟨0, 24, .rw, 0x3e8⟩]⟩,
  ⟨.BW_H2L, 0x401004, [], [(128, 0x10)], [⟨0, 32, .ro, 0x0⟩]⟩,
  ⟨.BW_L2H, 0x401008, [], [(128, 0x10)], [⟨0, 32, .ro, 0x0⟩]⟩,
  ⟨.BW_SEQ, 0x40100c, [], [(128, 0x10)], [⟨0, 8, .ro, 0x0⟩]⟩]
def regDescs6 : List RegDesc := [
  ⟨.PC_CFG, 0x410040, [], [(73, 0x100), (8, 0x4)], [⟨31, 1, .rw, 0x0⟩, ⟨30, 1, .rw, 0x0⟩, ⟨16, 8, .rw, 0x0⟩, ⟨12, 4, .rw, 0xf⟩, ⟨0, 12, .rw, 0x0⟩]⟩,
  ⟨.PC_OVF, 0x410060, [], [(73, 0x100)], [⟨0, 8, .w1c, 0x0⟩]⟩,
  ⟨.RST_CTRL, 0x400, [], [], [⟨31, 1, .wo, 0x0⟩, ⟨0, 16, .wo, 0x0⟩]⟩,
  ⟨.RST_STATUS, 0x404, [], [], [⟨28, 4, .ro, 0x0⟩, ⟨24, 4, .ro, 0x0⟩, ⟨16, 8, .ro, 0x0⟩, ⟨8, 8, .ro, 0x0⟩]⟩,
  ⟨.FACE_RST, 0x10f0020, [], [(16, 0x100000)], [⟨31, 1, .rws, 0x0⟩, ⟨18, 9, .rws, 0x0⟩, ⟨9, 9, .rws, 0x0⟩]⟩,
  ⟨.BOARD_STATUS, 0x500, [], [], [⟨31, 1, .ro, 0x0⟩, ⟨30, 1, .ro, 0x0⟩, ⟨29, 1, .ro, 0x0⟩, ⟨0, 8, .w1c, 0x0⟩]⟩]
/-- Every register of the part (the field tables of the chapters). -/
def regDescs : List RegDesc :=
  regDescs0 ++ regDescs1 ++ regDescs2 ++ regDescs3 ++ regDescs4 ++ regDescs5 ++ regDescs6
/-- Every 48-bit counter: its first LO address and its dimensions (R156, R205, R207, R224, R428). -/
def ctrDescs : List (Nat × List (Nat × Nat)) := [
  (0x1004010, [(16, 0x100000), (9, 0x8000)]),
  (0x1004018, [(16, 0x100000), (9, 0x8000)]),
  (0x1004020, [(16, 0x100000), (9, 0x8000)]),
  (0x1004040, [(16, 0x100000), (9, 0x8000), (8, 0x8)]),
  (0x1004080, [(16, 0x100000), (9, 0x8000), (17, 0x8)]),
  (0x1004108, [(16, 0x100000), (9, 0x8000)]),
  (0x1004208, [(16, 0x100000), (9, 0x8000)]),
  (0x1004210, [(16, 0x100000), (9, 0x8000)]),
  (0x2000028, [(32, 0x10000), (8, 0x100)]),
  (0x2000030, [(32, 0x10000), (8, 0x100)]),
  (0x3000010, [(128, 0x40)]),
  (0x3000018, [(128, 0x40)]),
  (0x3000020, [(128, 0x40)]),
  (0x10f2010, [(16, 0x100000), (8, 0x80)]),
  (0x10f2018, [(16, 0x100000), (8, 0x80)]),
  (0x10f2020, [(16, 0x100000), (8, 0x80)]),
  (0x10f2028, [(16, 0x100000), (8, 0x80)]),
  (0x10f2030, [(16, 0x100000), (8, 0x80)]),
  (0x410000, [(73, 0x100), (8, 0x8)])]

/-- Takes an offset apart over (count, stride) dimensions in falling order of stride. -/
def splitIdx : List (Nat × Nat) → Nat → Option (List Nat)
  | [], 0 => some []
  | [], _ + 1 => none
  | (c, st) :: ds, off =>
    let i := off / st
    if i < c then (splitIdx ds (off % st)).map (i :: ·) else none

/-- The indices at which `addr` is a register of entry `d`. -/
def RegDesc.at? (d : RegDesc) (addr : Nat) : Option (List Nat) :=
  if d.base ≤ addr then (splitIdx d.dims (addr - d.base)).map (d.pre ++ ·) else none

def findDesc (addr : Nat) : List RegDesc → Option (RegDesc × List Nat)
  | [] => none
  | d :: ds => match d.at? addr with
    | some idx => some (d, idx)
    | none => findDesc addr ds

/-- The register that lies at an address, with its indices. -/
def descOf (addr : Nat) : Option (RegDesc × List Nat) := findDesc addr regDescs

/-- The counter whose LO word lies at an address: its place in `ctrDescs` and its indices. -/
def ctrOfLo (addr : Nat) : Option (Nat × List Nat) :=
  let rec go : Nat → List (Nat × List (Nat × Nat)) → Option (Nat × List Nat)
    | _, [] => none
    | i, (b, ds) :: rest =>
      match (if b ≤ addr then splitIdx ds (addr - b) else none) with
      | some idx => some (i, idx)
      | none => go (i + 1) rest
  go 0 ctrDescs

/-- The LO address of the counter one of whose words lies at `addr` (R328: LO at a multiple of 8, HI at LO + 4). -/
def ctrLo? (addr : Nat) : Option Nat :=
  if (ctrOfLo (addr / 8 * 8)).isSome then some (addr / 8 * 8) else none

/-- A word built of field values (lowest bit, width, value). -/
def packFlds : List (Nat × Nat × Nat) → Nat
  | [] => 0
  | (lo, w, v) :: fs => v % 2 ^ w * 2 ^ lo + packFlds fs

/-- Reset values that depend on the index: R12 for the lane and role of a datapath, R164 for the shaping taps, 09 for the
capture regions. -/
def resetFix (n : RegId) (idx : List Nat) (v : Nat) : Nat :=
  match n, idx with
  | .RXD_STATUS, [_, d] => v % 2 ^ 25 + (if d < 8 then d * 2 ^ 28 + 2 ^ 25 else 0xF * 2 ^ 28)
  | .TXD_STATUS, [_, d] => v % 2 ^ 25 + (if d < 8 then d * 2 ^ 28 + 2 ^ 25 else 0xF * 2 ^ 28)
  | .TXD_FIR, [_, _, j] => if j = 2 then 0x100 else 0
  | .CAP_REGION, [c] => v % 2 ^ 8 + 16 * c * 2 ^ 8
  | _, _ => v

/-- The Reset column of the field tables (R22): what the register at `addr` holds after power-on and cold reset. A reserved
word reads 0 (R319). -/
def resetNat (addr : Nat) : Nat :=
  match descOf addr with
  | some (d, idx) => resetFix d.name idx (packFlds (d.flds.map fun f => (f.lo, f.width, f.reset)))
  | none => 0

def resetWord (addr : Nat) : Word := BitVec.ofNat 32 (resetNat addr)

end Sys2Proof.Machine
end

