-- ==== Sys2Proof/Machine/Tab.lean ====
section
/-!
DEFINITION. Sys2Proof/Machine/Tab.lean: sparse tables. A table is a list of (key, value) pairs with rising keys that lists
no entry equal to the default, so that equal tables are equal lists. Registers, counters, memory and the per-unit records
of State are kept so.
-/
namespace Sys2Proof.Machine

/-- A sparse table from natural-number keys. -/
abbrev Tab (α : Type) := List (Nat × α)

/-- What the table holds at a key; `d` is what an unlisted key holds. -/
def tabGet {α : Type} (d : α) (t : Tab α) (k : Nat) : α :=
  match t with
  | [] => d
  | (k', v) :: rest => if k' = k then v else tabGet d rest k

/-- The table without key `k`. -/
def tabDel {α : Type} (t : Tab α) (k : Nat) : Tab α := t.filter fun e => e.1 != k

/-- Puts an entry in front of the first greater key. -/
def tabIns {α : Type} (k : Nat) (v : α) : Tab α → Tab α
  | [] => [(k, v)]
  | (k', v') :: rest => if k < k' then (k, v) :: (k', v') :: rest else (k', v') :: tabIns k v rest

/-- The table with key `k` holding `v`; the default is never listed. -/
def tabSet {α : Type} [DecidableEq α] (d : α) (t : Tab α) (k : Nat) (v : α) : Tab α :=
  if v = d then tabDel t k else tabIns k v (tabDel t k)

/-- Drops every key that satisfies `p`: those keys hold the default again. -/
def tabDrop {α : Type} (p : Nat → Bool) (t : Tab α) : Tab α := t.filter fun e => !p e.1

/-- Keys rise strictly. -/
def tabSorted {α : Type} : Tab α → Bool
  | [] => true
  | [_] => true
  | (k, _) :: (k', v') :: rest => decide (k < k') && tabSorted ((k', v') :: rest)

/-- The canonical form: keys rise strictly and no entry equals the default `d` of its key. -/
def tabWf {α : Type} [DecidableEq α] (d : Nat → α) (t : Tab α) : Bool :=
  tabSorted t && t.all fun e => decide (e.2 ≠ d e.1)

end Sys2Proof.Machine
end

