-- ==== Sys2Proof/Machine/State.lean ====
section
/-!
DEFINITION. Sys2Proof/Machine/State.lean: everything the part holds, as plain data. Registers live in one sparse table by
device address (unlisted: the Reset column, `resetWord`); records of units live in sparse tables whose unlisted entries are
the record after reset. The queue `pending` is the commands that wait (first in, first out).
-/
namespace Sys2Proof.Machine
open Sys2Proof

/-! ## Outcomes -/

/-- Why a step stops with a fault. -/
inductive Fault where
  /-- A command whose list operand has a length that its row cannot carry (WellFormed.lean). Raised by INNER_CODEWORD, HELLO
  and AUTH; safe: the command is not one of the part's. -/
  | illFormed
  deriving DecidableEq, Repr

/-- Why a command has no meaning. -/
inductive Refusal where
  /-- The command has no meaning in this model yet. Raised by Dispatch alone; safe. -/
  | notModelled (mnemonic : String)
  deriving DecidableEq, Repr

/-! ## Memory system (16) -/

/-- What a valid memory word holds beside its bytes: which data and check bits differ from the encoded word, and whether
its check bits carry the poison mask (R398, R400, R403). -/
structure WordTag where
  /-- data bits that differ from the encoded word; 64 bits; R403; reset 0 -/
  dflip : Nat := 0
  /-- check bits that differ; 8 bits; R403; reset 0 -/
  cflip : Nat := 0
  /-- poison mask applied; R400; reset false -/
  poison : Bool := false
  /-- a storage cell of the word is stuck, so that the flips come back after a rewrite; R406; reset false -/
  stuck : Bool := false
  deriving DecidableEq, Repr

/-- A retired memory row (R409): array, instance, row, and whether its sealing record is in OTP. -/
structure RowSeal where
  /-- ARRAY code; 8 bits; R409 -/
  array : Nat
  /-- instance; 8 bits; R409 -/
  index : Nat
  /-- row of 128 words within the instance; R409 -/
  row : Nat
  deriving DecidableEq, Repr

/-- A region of the region table (R408). -/
structure Region where
  /-- ARRAY code; R408 -/
  array : Nat
  /-- instance; R408 -/
  index : Nat
  /-- owner kind; R412 -/
  kind : Nat
  /-- owner instance; R412 -/
  owner : Nat
  /-- first word; R408 -/
  base : Nat
  /-- words covered; R408 -/
  words : Nat
  deriving DecidableEq, Repr

/-! ## Control ports and ZCP (11) -/

/-- A message that a port holds for sending (R291, R296): a reply, a notice or an observation block. -/
structure Msg where
  /-- control port that sends it; R291 -/
  port : Nat
  /-- SESSION; R296 -/
  session : Nat
  /-- SEQUENCE: of the request that a reply answers; one more than the greatest sent in notices and stream messages; R296, R298
  (notes/assumptions/83.md) -/
  seq : Nat
  /-- VER_MAJOR and VER_MINOR as 256 * major + minor; R296 -/
  ver : Nat
  /-- OPCODE; R308 -/
  op : Nat
  /-- FLAGS: 1 REPLY, 2 NOTICE, 4 STREAM; R296 -/
  flags : Nat
  /-- STATUS; R310 -/
  status : Nat
  /-- payload, 32-bit words, little-endian on the wire; R296 -/
  words : List Word
  /-- an armed flip that the transmit buffer took when the message entered it: the word of array 0x08 and its tag; R291, R403; none
  otherwise -/
  flip : Option (Nat × WordTag) := none
  /-- carries no authentication tag: HELLO's reply and the reply of R305; R295, R305; false -/
  bare : Bool := false
  deriving DecidableEq, Repr

/-- A latch of a session (R328): the LO address and the HI word copied. -/
structure Latch where
  /-- address of the LO word; R328 -/
  lo : Nat
  /-- HI word as it stood; R328 -/
  hi : Word
  deriving DecidableEq, Repr

/-- A ZCP session (R300-R306). -/
structure Session where
  /-- SESSION identifier; 64 bits; R300 -/
  id : Nat
  /-- control port it is bound to; R305 -/
  port : Nat
  /-- version as 256 * major + minor; R306 -/
  ver : Nat
  /-- AUTH has succeeded; R302; reset false -/
  authed : Bool := false
  /-- privilege 0-3; R302; reset 0 -/
  priv : Nat := 0
  /-- SHA-384 of the key that authenticated; R302, R71; reset 0 -/
  key : Nat := 0
  /-- highest SEQUENCE accepted; R298; reset 0 -/
  high : Nat := 0
  /-- replies to the last 64 accepted requests, newest first; R298; reset [] -/
  cache : List Msg := []
  /-- greatest SEQUENCE sent to the client; R298; reset 0 -/
  sent : Nat := 0
  /-- tags in a row that did not verify; R297; reset 0 -/
  badTags : Nat := 0
  /-- LO/HI latches held, oldest first, at most 16; R328; reset [] -/
  latches : List Latch := []
  /-- ACC_STATUS.LAST_CODE; R331; reset 0 -/
  lastCode : Nat := 0
  /-- ACC_STATUS.FAILS; 16 bits; R331; reset 0 -/
  fails : Nat := 0
  /-- ACC_ADDR; R331; reset 0 -/
  accAddr : Nat := 0
  /-- TALLY_SUB.EN; R422; reset false -/
  subEn : Bool := false
  /-- TALLY_SUB.DROPPED; 16 bits; R422; reset 0 -/
  subDropped : Nat := 0
  /-- device times of the notices of the last second; R422; reset [] -/
  noticeTimes : List Nat := []
  /-- SNAP_SEL; R432; reset 0 -/
  snapSel : Nat := 0
  /-- its key was removed by the plan just applied; it ends once the operation's DONE is sent; R71; reset false -/
  doomed : Bool := false
  /-- index that Tally events name it by; R416; model's numbering -/
  num : Nat := 0
  /-- client-to-device and device-to-client keys; 32 bytes each; R301; reset [] -/
  keyIn : List Nat := []
  keyOut : List Nat := []
  /-- client-to-device and device-to-client SALTs; 4 bytes each; R301; reset [] -/
  saltIn : List Nat := []
  saltOut : List Nat := []
  /-- HELLO request and reply payloads, which AUTH's signature covers; R302; reset [] -/
  hello : List Nat := []
  deriving DecidableEq, Repr

/-- A master clock that a port hears (R292): port, identity, and its rank in the comparison of IEEE 1588, lower is better. -/
structure PtpMaster where
  /-- control port; R292 -/
  port : Nat
  /-- port identity; 80 bits; R292 -/
  id : Nat
  /-- comparison vector, most significant part first; R292 -/
  rank : Nat
  deriving DecidableEq, Repr

/-- The PTP client beside TIME_STATUS (R292, R293). -/
structure PtpX where
  /-- masters heard; R292; reset [] -/
  heard : List PtpMaster := []
  /-- the master chosen; R292; reset none -/
  master : Option PtpMaster := none
  /-- its first Sync has not come; R293; reset false -/
  fresh : Bool := false
  /-- offsets above 1 us in a row; R293; reset 0 -/
  big : Nat := 0
  /-- offsets have stayed within 100 ns since; R293; reset false -/
  near : Bool := false
  /-- arrival of a two-step Sync whose Follow_Up is awaited; R292; reset none -/
  arrival : Option Nat := none
  /-- arrival minus origin of the last Sync, ns; R292; reset none -/
  raw : Option Int := none
  /-- mean path delay, ns; R292; reset 0 -/
  delay : Int := 0
  /-- nanoseconds that device time is ahead and is still to slew off; R293; reset 0 -/
  slew : Int := 0
  deriving DecidableEq, Repr

/-- The states of a long operation (R311, coded as in R314). -/
inductive OpState where
  | queued | running | suspending | suspended | cancelling | done | failed | cancelled
  deriving DecidableEq, Repr

/-- The long operations with their ARGS (R312). -/
inductive OpKind where
  | calibrate (f lanes kind : Nat)
  | assayRun (f datapaths : Nat)
  | scrubFull (target : Nat)
  | captureDrain (c : Nat)
  | planLoad (source : Nat)
  | flashWrite (slot : Nat) (force : Bool)
  | ddrTest (channels pattern : Nat)
  | burnFloor (value : Nat)
  | burnLimits
  | burnKey (slot digest : Nat)
  | burnRevoke (slot : Nat)
  | faceReplan (f source : Nat)
  deriving DecidableEq, Repr

/-- A handle of a long operation (R311-R314). -/
structure LongOp where
  /-- HANDLE; 16 bits; R313 -/
  handle : Nat
  /-- OP and ARGS; R312 -/
  kind : OpKind
  /-- STATE; R311 -/
  state : OpState := .queued
  /-- suspended while it was QUEUED; R311, R313; reset false -/
  fromQueue : Bool := false
  /-- session that started it; R311 -/
  session : Nat
  /-- privilege of the session that started it; R416 -/
  priv : Nat := 0
  /-- PROGRESS; 16 bits; R314; reset 0 -/
  progress : Nat := 0
  /-- RESULT; R314; reset 0 -/
  result : Nat := 0
  /-- DETAIL; R314; reset 0 -/
  detail : Nat := 0
  /-- START_TIME; 64 bits; R314; reset 0 -/
  start : Nat := 0
  /-- END_TIME; 64 bits; R314; reset 0 -/
  finish : Nat := 0
  /-- a datapath failed and was sealed; R395; reset false -/
  failed : Bool := false
  /-- how far its work has come, in the operation's own units; R53, R65, R181, R414; reset 0 -/
  step : Nat := 0
  deriving DecidableEq, Repr

/-! ## Receive datapaths (03-05) -/

/-- What slice correction holds of the slice in one of the 64 phases (R76, R79). -/
structure SliceHist where
  /-- its last samples before skew correction, newest first, 2^-22 LSB; R79; reset [] -/
  earlier : List Int := []
  /-- its last sample before bandwidth correction, 2^-22 LSB; R79; reset 0 -/
  last : Int := 0
  deriving DecidableEq, Repr

/-- A block of the equaliser whose decisions are awaited for the gradient (R116). -/
structure EqBlock where
  /-- mantissas of its forward transform, bins 0-256; 16 bits each; R109 -/
  bins : List (Int × Int)
  /-- E_F; R109 -/
  ef : Nat
  /-- twice the errors of its outputs so far, oldest first; R116; reset [] -/
  errs : List Int := []
  /-- it counts in the accumulation in progress; R117; reset true -/
  use : Bool := true
  deriving DecidableEq, Repr

/-- What the five stages of a receive datapath hold (R105). -/
structure RxdD where
  /-- ADC codes that do not make a whole clock yet, oldest first; R76; reset [] -/
  codes : List Int := []
  /-- slices by phase; R79; reset [] -/
  slices : Tab SliceHist := []
  /-- the previous clock's 256 corrected samples; R107; reset [] (zeros) -/
  prev : List Int := []
  /-- last equalised samples, newest first, for the interpolator; R119; reset [] -/
  tail : List Int := []
  /-- last retimed sample and its tentative level; R119; reset (0, 0) -/
  lastRt : Int × Int := (0, 0)
  /-- last two tentative decisions, newest first; R119; reset (0, 0) -/
  tdec : Nat × Nat := (0, 0)
  /-- retimed samples before the next detector window, oldest first, at most 32; R125; reset [] -/
  past : List Int := []
  /-- retimed samples not yet decided, oldest first; R125; reset [] -/
  wait : List Int := []
  /-- last two decisions, newest first; R125; reset (0, 0) -/
  dec : Nat × Nat := (0, 0)
  /-- MLSE state preloaded from slicer decisions; R129; reset none -/
  mlseFrom : Option (Nat × Nat) := none
  /-- detector windows still to run with the table that a swap replaced; R113; reset 0 -/
  oldTab : Nat := 0
  /-- blocks whose decisions are awaited, oldest first; R116; reset [] -/
  blocks : List EqBlock := []
  /-- twice the gradient accumulated so far; R116; reset [] (zeros) -/
  grad : List (Int × Int) := []
  /-- blocks in it; R116; reset 0 -/
  gradN : Nat := 0
  /-- sums of the quality window in progress; R131; reset zeros -/
  qual : QualSum := {}
  /-- soft values of symbols not yet in a decoded codeword, oldest first; R126, R142; reset [] -/
  soft : List (Int × Int) := []
  /-- index within the clock of the first of them; R143; reset 0 -/
  softAt : Nat := 0
  /-- stream bits of the codeword decoded last; R147; reset [] -/
  msg : List Bool := []
  /-- sideband bits delivered, each with its fail flag, oldest first, at most 64; R147, R212; reset [] -/
  side : List (Bool × Bool) := []
  /-- inner codewords decoded in this VERIFY window; R93; reset 0 -/
  winWords : Nat := 0
  /-- of them, failed ones; R93; reset 0 -/
  winFails : Nat := 0
  deriving DecidableEq, Repr

/-- What a receive datapath holds beside its registers and memory. -/
structure RxdX where
  /-- bins of the active bank taken as zero until the next swap, 257 for the header's E_C; R115; reset [] -/
  zeroBins : List Nat := []
  /-- gradient latches so far, SEQ of the buffer's header; R117; reset 0 -/
  gradSeq : Nat := 0
  /-- inner codewords counted in service, modulo 4,096 windows of R388; R388; reset 0 -/
  words : Nat := 0
  /-- which of the last 4,096 of them failed, newest first; R99, R388; reset [] -/
  failsAt : List Nat := []
  /-- samples, symbols and bits in its stages; R105; reset empty -/
  dp : RxdD := {}
  deriving DecidableEq, Repr

/-! ## Transmit datapaths (06), pattern checkers and the gearbox (07, 08) -/

/-- What the stages of a transmit datapath hold (R161). -/
structure TxdX where
  /-- stream bits that do not fill a message yet, in transmission order; R138; reset [] -/
  bits : List Bool := []
  /-- sideband bits of the seam frame being sent that are still to go; R138, R212; reset [] -/
  side : List Bool := []
  /-- symbols of the last codewords, newest first, that the interleaver's branches still carry; R141, R168; reset [] (R142: all-zero
  codewords) -/
  words : List (List Nat) := []
  /-- last mapped indices, oldest first: four sent before the two that wait for their successors; R163, R164; reset [] (level −3) -/
  line : List Nat := []
  /-- DAC codes of the last period; 8 bits signed each; R164, R166; reset [] (code 0) -/
  dac : List Int := []
  deriving DecidableEq, Repr

/-- A pattern checker (R207). -/
structure PatX where
  /-- its register, newest bit first, as received or as it runs; R207; reset [] -/
  reg : List Bool := []
  /-- the same with the more significant bits inverted, out of sync; R207; reset [] -/
  regInv : List Bool := []
  /-- bits in a row that matched; R207; reset 0 -/
  run : Nat := 0
  /-- bits in a row that matched in inverted polarity; R207; reset 0 -/
  runInv : Nat := 0
  /-- bits received; R207; reset 0 -/
  n : Nat := 0
  /-- which of the last 1,024 bits compared were in error, newest first; R207; reset [] -/
  errsAt : List Nat := []
  deriving DecidableEq, Repr

/-- A slot of the retry buffer (R223): one pair with its entry of the index. -/
structure Slot where
  /-- pair number; 12 bits; R213 -/
  pair : Nat
  /-- pair in which the first Ethernet frame start of the slot lies, itself when it holds one; R223 -/
  start : Bool
  /-- the pair's symbols by line lane of the port; R223; reset [] -/
  syms : List Nat
  /-- place in the lane's ring of 240 slots; R223 (notes/assumptions/84.md); reset [] -/
  place : Nat
  deriving DecidableEq, Repr

/-- Fill of one direction of a port (R202-R204). -/
structure FillX where
  /-- last 58 bits of the scrambler, newest first; R202; reset [] -/
  scr : List Bool := []
  /-- where the stream stands: pairs since its last marker group, below 4,096; for a G0 port, symbols since its last marker, below the
  markers' spacing; R203, R204; reset 0 -/
  phase : Nat := 0
  /-- what was sent last in this direction was fill; R204; reset false -/
  fills : Bool := false
  /-- the last marker group learned in this direction (G0 ports); R203; reset none -/
  marker : Option Marker := none
  /-- register of the PRBS31Q of a G0 port's fill, newest bit first; R203; reset [] -/
  prbs : List Bool := []
  deriving DecidableEq, Repr

/-- What the gearbox and the paired link engine hold of a port. -/
structure PortX where
  /-- number of the pair that every line lane of the port sends now; 12 bits; R213; reset 0 -/
  pair : Nat := 0
  /-- first codeword of a pair from the host whose second has not come, by line lane of the port; R198; reset [] -/
  fromHost : Tab (List Nat) := []
  /-- codewords of a pair from the line, by line lane of the port: the first one, or both interleaved until every lane's are there;
  R198, R199; reset [] -/
  fromLine : Tab (List Nat) := []
  /-- a frame that an episode cut is to be sent whole again from the next pair on; R224; reset false -/
  resume : Bool := false
  /-- fill toward the line; R202-R204; reset empty -/
  lineFill : FillX := {}
  /-- fill toward the host; R202-R204; reset empty -/
  hostFill : FillX := {}
  /-- retry buffer, oldest pair first, at most 240 slots, by line lane of the port; R223; reset [] -/
  buffer : Tab (List Slot) := []
  deriving DecidableEq, Repr

/-! ## Lanes (03) -/

/-- A ranked candidate of a search (R92): its line mode (1 L400, 2 L400P, 3 L200, 4 L200P) and its measured symbol rate, in
parts per million from that mode's nominal rate. -/
structure Cand where
  /-- line mode; R92 -/
  mode : Nat
  /-- measured rate against nominal, ppm; R92 -/
  ppm : Int
  deriving DecidableEq, Repr

/-- The four correction values of one slice (R79), in field units: offset 1/64 LSB, gain 2^-16, skew 5 fs, bandwidth 2^-12. -/
structure SliceVal where
  /-- offset; 16 bits signed; R79; reset 0 -/
  offset : Int := 0
  /-- gain; 16 bits signed; R79; reset 0 -/
  gain : Int := 0
  /-- skew; 16 bits signed; R79; reset 0 -/
  skew : Int := 0
  /-- bandwidth; 16 bits signed; R79; reset 0 -/
  bw : Int := 0
  deriving DecidableEq, Repr

/-- What a physical lane holds beside its lane block. -/
structure LaneX where
  /-- candidates not yet tried, best first; R92, R94; reset [] -/
  cands : List Cand := []
  /-- the candidate in RETUNE, CONVERGE or VERIFY; R91; reset none -/
  cand : Option Cand := none
  /-- empty SEARCH dwells in a row; R91; reset 0 -/
  emptyDwells : Nat := 0
  /-- P_IN of the last ten 1 us blocks, newest first, 1/16 dB; R100; reset [] -/
  blocks : List Int := []
  /-- when the acquisition in progress started, ns; R95; reset 0 -/
  acqStart : Nat := 0
  /-- a relief-slice handover in progress: slice, whether it hands back; R83; reset none -/
  handover : Option (Nat × Bool) := none
  /-- correction values in use on the lane, by slice; R80, R81; reset [] (identity) -/
  corr : Tab SliceVal := []
  /-- face temperature of the values in use, 1/16 degree; R81; reset 0 -/
  corrT : Int := 0
  /-- temperature sets of the values in use, low and high; none: no set is valid; R81; reset none -/
  corrUse : Option (Nat × Nat) := none
  /-- slices that hold accepted values before the commit; R373 step 4, R375; reset [] -/
  accepted : Tab SliceVal := []
  /-- lane PLL rate against nominal, ppm; R91 RETUNE; reset 0 -/
  pllPpm : Int := 0
  /-- stand-in handovers failed in a row; R373; reset 0 -/
  handFails : Nat := 0
  /-- the set that a no-stand-in commit replaced, with the SNR before it: set, header word, values, SNR; R376; reset none -/
  revert : Option (Nat × Word × Tab SliceVal × Int) := none
  /-- modes that the SEARCH dwell under way looks for; R98, R103; reset 0 -/
  dwellModes : Nat := 0
  /-- RELOCK's restart has ended and its VERIFY window runs; R91; reset false -/
  relockWindow : Bool := false
  /-- consecutive alignment markers found at one phase in this window; R93; reset 0 -/
  amRun : Nat := 0
  /-- phase of that run; R93; reset 0 -/
  amPhase : Nat := 0
  /-- consecutive markers missed while LOCKED; R152; reset 0 -/
  amMisses : Nat := 0
  /-- times of the episodes, or uncorrectable outer codewords, of the last second on the lane, newest first; R227, R232; reset [] -/
  faults : List Nat := []
  /-- times of its exhausted episodes of the last second; R227; reset [] -/
  exhausts : List Nat := []
  /-- a failed handover keeps the lane out of the queue for 10 min; R373; reset false -/
  calHold : Bool := false
  /-- time before which the lane is not calibrated again, 24 h after a run without a stand-in, ns since power-on; R376; reset 0 -/
  calRest : Nat := 0
  deriving DecidableEq, Repr

/-! ## Seam channels (08) -/

/-- What a line lane's seam channel holds beside its position block. -/
structure SeamX where
  /-- training state of the lane, coded as SEAM_STATUS.STATE; p8 trains in a handshake without a position; R218; reset 0 -/
  state : Nat := 0
  /-- consecutive good frames of the frame search; R218; reset 0 -/
  run : Nat := 0
  /-- frame phase of that run; R218; reset 0 -/
  phase : Nat := 0
  /-- version in use; R219; reset 0 -/
  sf : Nat := 0
  /-- partner's FACE_TOKEN; R216; reset 0 -/
  token : Nat := 0
  /-- partner's POS; R216; reset 0 -/
  pos : Nat := 0
  /-- partner's SF_MAX; R216; reset 0 -/
  sfMax : Nat := 0
  /-- partner's RETRY_CAP; R216; reset false -/
  peerRetry : Bool := false
  /-- partner's RELIEF_CAP; R216; reset false -/
  peerRelief : Bool := false
  /-- this face leads; R220; reset false -/
  leader : Bool := false
  /-- round-trip samples taken, newest first; R221; reset [] -/
  samples : List Nat := []
  /-- own STAMP at the last sample; R221; reset 0 -/
  sampledAt : Nat := 0
  /-- RTT_PAIRS; R221; reset 0xFF -/
  rtt : Nat := 0xFF
  /-- step 3 is done and READY is sent; R218; reset false -/
  measured : Bool := false
  /-- a READY frame has been sent since step 3; R218; reset false -/
  greeted : Bool := false
  /-- the partner's READY has come; R218; reset false -/
  peerReady : Bool := false
  /-- this end serves replays on the lane; R221; reset false -/
  cap : Bool := false
  /-- partner's ACK once valid; R215; reset none -/
  ack : Option Nat := none
  /-- the request being served, which repeats ignore; R224; reset none -/
  served : Option Nat := none
  /-- last pair of the replay being sent; R224; reset 0 -/
  replayTo : Nat := 0
  /-- frames for which UNAVAIL is still sent; R225; reset 0 -/
  unavail : Nat := 0
  /-- seam frames sent on this lane; 12 bits; R216; reset 0 -/
  stamp : Nat := 0
  /-- STAMP of the last good frame received; R216; reset 0 -/
  echo : Nat := 0
  /-- the first codeword of the pair that arrives was beyond correction; R224; reset false -/
  firstBad : Bool := false
  /-- highest pair received good with every pair before it, since the last replay began; R215; reset none -/
  good : Option Nat := none
  /-- SEQ of the last good DATA frame; R215; reset none -/
  rxSeq : Option Nat := none
  /-- REPLAY of the last good DATA frame: the partner's span carried replayed pairs; R215; reset false -/
  rxReplay : Bool := false
  deriving DecidableEq, Repr

/-! ## Survey runs (14) and Assay items (15) -/

/-- A calibration item: queued or running on one lane (R370-R376). -/
structure CalItem where
  /-- face; R370 -/
  f : Nat
  /-- physical lane; R370 -/
  p : Nat
  /-- KIND; R370 -/
  kind : Nat
  /-- handle of the CALIBRATE that queued it, 0 when Survey did; R370 -/
  op : Nat := 0
  /-- released and running; R349; reset false -/
  running : Bool := false
  /-- set that it feeds; R371; reset 0 -/
  set : Nat := 0
  /-- bootstrap run; R371; reset false -/
  boot : Bool := false
  /-- face temperature at its start, 1/16 degree; R371; reset 0 -/
  temp : Int := 0
  /-- slice in progress; R373; reset 64 -/
  slice : Nat := 64
  /-- measurements of that slice so far; R374; reset [] -/
  meas : List SliceVal := []
  /-- step 4 failed once on this slice; R373; reset false -/
  retry : Bool := false
  /-- a FACE_PLL run has dropped PLL_LOCK; R378; reset false -/
  started : Bool := false
  /-- staging set; R375; reset [] -/
  staging : Tab SliceVal := []
  deriving DecidableEq, Repr

/-- An Assay item (R382): a rotation followed by BIST, or BIST alone. -/
structure AssayItem where
  /-- face; R382 -/
  f : Nat
  /-- direction, 0 receive and 1 transmit; R382 -/
  dir : Nat
  /-- target datapath; R382 -/
  dp : Nat
  /-- handle of the ASSAY_RUN that queued it, 0 when scheduled; R395 -/
  op : Nat := 0
  /-- BIST without a rotation, of the relief or in place; R382; reset false -/
  bistOnly : Bool := false
  /-- running: rotation or a BIST slice; R349; reset false -/
  running : Bool := false
  /-- next BIST slice; R391; reset 0 -/
  slice : Nat := 0
  /-- MATCH abandonments in a row; R389; reset 0 -/
  matchFails : Nat := 0
  /-- waits for RETRY_S to pass; R389; reset false -/
  held : Bool := false
  /-- signature in force when its BIST slice began; R71, R392; reset 0 -/
  sig : Nat := 0
  /-- the item tests the relief after three MATCH abandonments, for the target given; R389; reset none -/
  forTarget : Option Nat := none
  /-- since when a rotation could not start (R395), ns since power-on plus 1; R395; reset 0 (none) -/
  blocked : Nat := 0
  /-- when it was queued, ns since power-on; R349; reset 0 -/
  queued : Nat := 0
  /-- has waited 60 s and was logged; R349; reset false -/
  logged : Bool := false
  deriving DecidableEq, Repr

/-- An action that a register write starts and that runs when the access is done: warm reset, face reset, one Hewer step, reset of
datapaths, entry to DEEP (R286, R335, R439, R441, R442). -/
inductive Deferred where
  | warm (c : WarmCause)
  | face (f : Nat)
  | step (n : Nat)
  | dps (f rx tx : Nat)
  | deep
  deriving DecidableEq, Repr

/-! ## The plan (02) -/

/-- A record of a plan image (R47). -/
structure PRec where
  /-- TYPE; 16 bits; R47 -/
  ty : Nat
  /-- payload bytes; R47 -/
  data : List Nat
  deriving DecidableEq, Repr

/-- A checked plan image (R44-R50). -/
structure Plan where
  /-- PLAN_ID; 64 bits; R45 -/
  id : Nat
  /-- PLAN_COUNTER; R45 -/
  counter : Nat
  /-- where it came from, coded as PLAN_STATUS.SOURCE; R69 -/
  source : Nat
  /-- records in image order; R47 -/
  recs : List PRec
  /-- image bytes as the loader read them; R44 -/
  image : List Nat := []
  deriving DecidableEq, Repr

/-! ## Spectral taps, capture and streams (09) -/

/-- A complex number in the tap chain. -/
structure Cx where
  re : Int := 0
  im : Int := 0
  deriving DecidableEq, Repr

/-- A spectral tap's chain since its start or last restart, and the block that it fills (R236-R241). -/
structure TapX where
  /-- the settings in force, taken from TAP_CFG and TAP_NCO at the start or restart: SRC, LANE, K, WIDTH, SHIFT, FREQ; R239; reset 0 -/
  src : Nat := 0
  lane : Nat := 0
  k : Nat := 0
  narrow : Bool := false
  shift : Nat := 0
  freq : Nat := 0
  /-- input samples taken; R239; reset 0 -/
  fed : Nat := 0
  /-- the halfband stages' last samples, newest first; R237; reset [] -/
  halves : List (List Cx) := []
  /-- the FIR's last samples, newest first; R237; reset [] -/
  fir : List Cx := []
  /-- samples of the block under way, as FORMAT packs them, oldest first; R241; reset [] -/
  out : List Nat := []
  /-- values of the block that saturated; R238; reset 0 -/
  sats : Nat := 0
  /-- FREQ_OFF at its sample 0; R241; reset 0 -/
  freqOff : Nat := 0
  /-- bank in force at its sample 0; R241; reset 0 -/
  bank : Nat := 0
  /-- datapath that served the lane with the last input, 15 before any; R244; reset 15 -/
  dp : Nat := 15
  /-- that datapath changed within the block; R241; reset false -/
  path : Bool := false
  deriving DecidableEq, Repr

/-- What the header of an observation block takes from the device's settings (R241). -/
structure ObsMeta where
  /-- KIND; R241; reset 0 -/
  kind : Nat := 0
  /-- FACE; R241; reset 0 -/
  face : Nat := 0
  /-- Q; R241; reset 0 -/
  q : Nat := 0
  /-- MODE; R241; reset 0 -/
  mode : Nat := 0
  /-- K; R241; reset 0 -/
  k : Nat := 0
  /-- NCO_FREQ; R241; reset 0 -/
  nco : Nat := 0
  /-- BANK; R241; reset 0 -/
  bank : Nat := 0
  /-- FORMAT; R241; reset 0 -/
  format : Nat := 0
  /-- GDELAY; R241; reset 0 -/
  gdelay : Nat := 0
  /-- GEN; R241; reset 0 -/
  gen : Nat := 0
  deriving DecidableEq, Repr

/-- A record that a channel holds, or an archive entry (R249, R251). A channel's record lies in its region of the capture store. -/
structure ObsRec where
  /-- header fields; R241 -/
  info : ObsMeta := {}
  /-- blocks of at most 4,096 bytes; R241; reset 0 -/
  blocks : Nat := 0
  /-- bytes of the record; R249; reset 0 -/
  size : Nat := 0
  /-- first byte of its region in the store, and bytes of the region; R246; reset 0 -/
  base : Nat := 0
  region : Nat := 0
  /-- byte of the region at which the oldest sample lies; R246; reset 0 -/
  start : Nat := 0
  /-- byte of the record that holds the trigger sample; none without a trigger; R247, R250; reset none -/
  trig : Option Nat := none
  /-- its contents are known; not those of a channel that another command's effect ended (notes/assumptions/82.md); reset true -/
  known : Bool := true
  /-- TRUNC; R250; reset false -/
  trunc : Bool := false
  deriving DecidableEq, Repr

/-- An entry of the capture archive (R251). -/
structure ArchEntry where
  /-- ID, modulo 256; R251 -/
  id : Nat
  /-- the record; R251 -/
  record : ObsRec
  /-- its 8-byte words, oldest first; none where the drain copied a poisoned word; R251, R412 -/
  words : List (Option Nat) := []
  deriving DecidableEq, Repr

/-- An open stream beside its registers (R252, R253). -/
structure StreamX where
  /-- session that opened it; R252; reset 0 -/
  session : Nat := 0
  /-- order of opening, for a fallback's newest first; R252; reset 0 -/
  order : Nat := 0
  /-- CONSUME; R308; reset false -/
  consume : Bool := false
  /-- ID of the archive entry that it reads; R308; reset 0 -/
  arch : Nat := 0
  /-- SEQ of its next block; R241; reset 0 -/
  seq : Nat := 0
  /-- its next block carries GAP; R253; reset false -/
  gap : Bool := false
  deriving DecidableEq, Repr

/-- A shaping set (R163-R165). -/
structure ShapeSet where
  /-- SCALE; 8 bits; R164; reset 0x28 -/
  scale : Nat := 0x28
  /-- taps c_0-c_6 in 1/256, signed; R163; reset main tap 1.0 -/
  taps : List Int := [0, 0, 256, 0, 0, 0, 0]
  /-- predistortion table in DAC LSB, entries that are not 0; R164; reset [] -/
  pd : Tab Int := []
  deriving DecidableEq, Repr

/-! ## Optics (06) and the face's other units -/

/-- A sideband command frame (R174). -/
structure Fsb where
  /-- TYPE: 0 write, 1 read, 2 urgent; R174 -/
  ty : Nat
  /-- LANE; R174 -/
  lane : Nat
  /-- REG; R174 -/
  reg : Nat
  /-- DATA; R174 -/
  data : Nat
  deriving DecidableEq, Repr

/-- A SEAL message that this end sends, repeated while it holds (R217). -/
structure SealOut where
  /-- MSG; R217 -/
  msg : Nat
  /-- POS; R217 -/
  pos : Nat
  /-- TAG; R217 -/
  tag : Nat
  /-- SWITCH_SEQ; R217 -/
  seq : Nat
  /-- REASON; R217 -/
  reason : Nat
  deriving DecidableEq, Repr

/-- A replay episode at the receiving end of a port (R224, R225). -/
structure Episode where
  /-- pair n that failed; R224 -/
  n : Nat
  /-- pair r requested; R224 -/
  r : Nat
  /-- physical lane that n lay on; R224 -/
  lane : Nat
  /-- a frame in progress is lost when r = n; R224 -/
  lost : Bool
  /-- a codeword of the replayed pair r has failed; R225; reset false -/
  bad : Bool := false
  deriving DecidableEq, Repr

/-- A sealing handshake (R228) beside SEAL_STATUS. -/
structure HsX where
  /-- TAG; 8 bits; R217; reset 0 -/
  tag : Nat := 0
  /-- this end's p8 is ready and READY was sent; R228; reset false -/
  ready : Bool := false
  /-- the partner's READY has come; R228; reset false -/
  peerReady : Bool := false
  /-- the partner's SWITCH_SEQ, once known; R228; reset none -/
  peerSwitch : Option Nat := none
  /-- this end has switched its receive; R228 step 7; reset false -/
  switched : Bool := false
  /-- abandonments since the face entered RECEIVE; R227, R230; reset 0 -/
  fails : Nat := 0
  /-- position whose fault waits to be proposed again 1 s after an abandonment; R230; reset none -/
  again : Option Nat := none
  /-- this end sends COMMIT; R228 step 4, R230; reset false -/
  commits : Bool := false
  /-- SEAL message being sent; R217; reset none -/
  out : Option SealOut := none
  /-- pairs of p8 that wait in the switch FIFO, oldest first, with their symbols; R229; reset [] -/
  fifo : List (Nat × List Nat) := []
  /-- REFUSE or WITHDRAW that answers another handshake than the one that `out` belongs to; R217, R230; reset none -/
  reply : Option SealOut := none
  /-- lanes whose permanent faults wait for this handshake; R234; reset [] -/
  waiting : List Nat := []
  deriving DecidableEq, Repr

/-- What a face holds beside its registers. -/
structure FaceX where
  /-- Observation work of the face is shed; R255, R350; reset false -/
  obsShed : Bool := false
  /-- a standing capture waits for the first entry to RECEIVE; R254; reset false -/
  standing : Bool := false
  /-- the tap restarts at the next block boundary; R239; reset false -/
  tapRestart : Bool := false
  /-- the tap's next block carries RESTART; R239; reset false -/
  tapRestarted : Bool := false
  /-- the tap's next block carries SWAP at this sample; R240; reset none -/
  tapSwapAt : Option Nat := none
  /-- the spectral tap's chain and the block under way; R236-R241; reset {} -/
  tap : TapX := {}
  /-- sideband frames to send, next first; R173, R178; reset [] -/
  fsb : List Fsb := []
  /-- failed exchanges in a row; R176; reset 0 -/
  fsbFails : Nat := 0
  /-- the 40 bits of the last command frame; R174; reset 0 -/
  lastCmd : Nat := 0
  /-- engine registers as last acknowledged, by 16 * REG + LANE; R177; reset [] (0) -/
  sent : Tab Nat := []
  /-- lanes that emit, bit p; 9 bits; R166, R169; reset 0 -/
  emit : Nat := 0
  /-- consecutive readings above MAX_LAUNCH by lane; R183; reset [] (0) -/
  overs : Tab Nat := []
  /-- lanes that passed their check at this ramp step, bit p; 9 bits; R184; reset 0 -/
  checked : Nat := 0
  /-- time of a lane's last check, ns since power-on plus 1; R182; reset [] (0: none) -/
  checkAt : Tab Nat := []
  /-- lanes that ramp by themselves, by lane: step 1-8; R184, R468; reset [] (0) -/
  laneRamp : Tab Nat := []
  /-- state that a sideband fault holds the face at until TARGET is written, 5 none; R176; reset 5 -/
  hold : Nat := 5
  /-- since its last eye trip the engine has not read clean; R177; reset false -/
  unclean : Bool := false
  /-- FACE_TOKEN; 16 bits; R220; reset 0 -/
  token : Nat := 0
  /-- direction of the next scheduled Assay item, 0 receive, 1 transmit; R382; reset 0 -/
  assayDir : Nat := 0
  /-- Assay intervals of the present BIST_CYCLE; R382, R389; reset 0 -/
  assayTurn : Nat := 0
  /-- targets skipped for the rest of the cycle, by 9 * direction + datapath; R389; reset [] -/
  assaySkip : List Nat := []
  /-- when AGE of a datapath restarted, ns since power-on plus 1, by 9 * direction + datapath; R382; reset [] (0: never) -/
  ageAt : Tab Nat := []
  /-- sealing handshake; R228; reset idle -/
  hs : HsX := {}
  deriving DecidableEq, Repr

/-- An action of shedding (R350): Observation stops, Integrity and Calibration stop, a lane goes to a level, a rail one P-level
down, Adaptation is held on a rail's faces. -/
inductive ShedAct where
  | obs | integ
  | lane (f p lvl : Nat)
  | rail (c : Nat)
  | hold (c : Nat)
  deriving DecidableEq, Repr

/-- The account of one cause of shedding on one scope (R350-R352). -/
structure Shed where
  /-- actions taken and not reversed, oldest first; R351, R352; reset [] -/
  acts : List ShedAct := []
  /-- scheduler ticks in a row with EST at or below budget minus the margin; R351; reset 0 -/
  below : Nat := 0
  deriving DecidableEq, Repr

/-- An adaptive supply rail (R37, R455), in mV; 0 stands for the power-up set point of R454. -/
structure RailX where
  /-- set point commanded last; R455; reset 0 -/
  cmd : Nat := 0
  /-- voltage confirmed last; R455; reset 0 -/
  confirmed : Nat := 0
  /-- the last command failed to confirm; R455; reset false -/
  failed : Bool := false
  /-- a command waits to be confirmed; R455; reset false -/
  waits : Bool := false
  deriving DecidableEq, Repr

/-- A Hewer's registers (R261, R262) and what it holds as a bus client (R260, R322, R328). -/
structure HewerX where
  /-- X0-X31; 32 bits each; R261; reset [] (0) -/
  x : Tab Nat := []
  /-- rotating file, physical registers 0-31; 32 bits each; R261, R273; reset [] (0) -/
  w : Tab Nat := []
  /-- A0-A3: real half of Aa at 2a, imaginary half at 2a + 1; 40 bits signed each; R261; reset [] (0) -/
  acc : Tab Int := []
  /-- P0-P7 at 0-7, M0-M7 at 8-15, K0-K7 at 16-23; 32 bits each; R261; reset [] (0) -/
  ptr : Tab Nat := []
  /-- LC0 and LC1; 16 bits each; R261; reset [] (0) -/
  lc : Tab Nat := []
  /-- LS0 and LS1; 16 bits each; R261; reset [] (0) -/
  ls : Tab Nat := []
  /-- LE0 and LE1; 16 bits each; R261; reset [] (0) -/
  le : Tab Nat := []
  /-- loops that LOOPR started, by number; R273; reset [] (false) -/
  rot : Tab Bool := []
  /-- RRB; 5 bits; R261; reset 0 -/
  rrb : Nat := 0
  /-- HSR; 32 bits; R261; reset 0 -/
  hsr : Nat := 0
  /-- IPC; 16 bits; R261; reset 0 -/
  ipc : Nat := 0
  /-- IHSR; 32 bits; R261; reset 0 -/
  ihsr : Nat := 0
  /-- TIME_HI as latched by a read of TIME_LO; 32 bits; R262; reset 0 -/
  timeHi : Nat := 0
  /-- CYCLES as far as the model counts them; 32 bits; R262; reset 0 -/
  cycles : Nat := 0
  /-- pointers whose Mn or Kn was written since their last access, bit n; R271; reset 0 -/
  resized : Nat := 0
  /-- posted writes whose status has not returned, oldest first: status and device address; R260; reset [] -/
  posted : List (Nat × Nat) := []
  /-- half the watchdog period has passed without a kick; R284; reset false -/
  warned : Bool := false
  /-- LO/HI latches held as a bus client, oldest first, at most 16; R260, R328; reset [] -/
  latches : List Latch := []
  /-- accesses completed nonzero; 16 bits; R260, R331; reset 0 -/
  fails : Nat := 0
  /-- SNAP_SEL as a bus client; R432; reset 0 -/
  snapSel : Nat := 0
  deriving DecidableEq, Repr


/-- A sealing or substitution record (R12, R359), or the retirement that it stands for. -/
structure SealRec where
  /-- 0 slice, 1 receive datapath, 2 transmit datapath, 3 lane with a substitution, 4 lane without, 5 substitution of
  FACE_REPLAN, 6 memory row; R12, R359 -/
  kind : Nat
  /-- face, or ARRAY code of a row; R359 -/
  face : Nat
  /-- lane, datapath, or INDEX of a row; R359 -/
  index : Nat
  /-- slice, service position of a substitution, or row; R359 -/
  sub : Nat := 0
  /-- reason: 1 found by this end, 2 partner (R228), 3 FACE_REPLAN (R73); R359 -/
  reason : Nat := 1
  deriving DecidableEq, Repr

/-- What an OTP burn in progress writes (R466), with the handle that it belongs to. -/
inductive Burn where
  | seal (r : SealRec)
  | floor (h : Nat)
  | limits (h f a b : Nat)
  | lock (h : Nat)
  | key (h slot digest : Nat)
  | revoke (h slot : Nat)
  deriving DecidableEq, Repr

/-- OTP as far as burns change it. -/
structure Otp where
  /-- sealing region, places in burning order, with whether each is committed; 255 places; R359; reset [] (blank, log 3) -/
  seals : List (SealRec × Bool) := []
  /-- floor increments burned, with whether each is committed; 128 places; R53; reset [] (blank, log 3) -/
  floors : List Bool := []
  /-- limit records: face, OPT_LIM_A, OPT_LIM_B, committed; 4 places a face; R181; reset [] (blank, log 3) -/
  limits : List (Nat × Nat × Nat × Bool) := []
  /-- LIMITS_LOCK fuse; R181; reset false (blank, log 3) -/
  lock : Bool := false
  /-- key records: slot, digest, committed; 2 places a slot; R51; reset [] (blank, log 3) -/
  keys : List (Nat × Nat × Bool) := []
  /-- revoke fuses, bit by slot; R51; reset 0 (blank, log 3) -/
  revoked : Nat := 0
  deriving DecidableEq, Repr

/-- The part. -/
structure State where
  /-- commands waiting, first in, first out; this prompt's queue; reset [] -/
  pending : List Instr := []
  /-- registers by device address, unlisted ones at their Reset column; 32 bits each; R19, R318; reset [] -/
  regs : Tab Word := []
  /-- 48-bit counters by LO address; R156, R205, R207, R224, R428; reset [] (all 0) -/
  ctrs : Tab Nat := []
  /-- SNAP shadows by LO address; 48 bits; R431; reset [] (0) -/
  shadows : Tab Nat := []
  /-- mark that each power domain's shadows belong to, by `pdomKey`; 8 bits; R431; reset [] (0) -/
  snapGens : Tab Nat := []
  /-- bytes of the memories, by array, instance and byte; unlisted 0; R398; reset [] -/
  bytes : List Host.Cell := []
  /-- valid words of the memories, by array, instance and word; unlisted: not valid; R399; reset [] -/
  tags : Tab (Option WordTag) := []
  /-- bytes of the two flash slots, unlisted 0xFF; R63; reset [] (erased: DESIGN CHOICE, log 3) -/
  flash : List Host.Cell := []
  /-- device time, ns; 64 bits; R16, R293; reset 0 -/
  time : Nat := 0
  /-- nanoseconds since power-on, never stepped; R293; reset 0 -/
  mono : Nat := 0
  /-- the model's own counter of free values taken; not the spec's; reset 0 (DESIGN CHOICE, log 4) -/
  freeCtr : Nat := 0
  /-- VDD_AON is valid; R436; reset true -/
  powered : Bool := true
  /-- the Canary has tripped; R360; reset false -/
  canary : Bool := false
  /-- start-up has powered chip control since the last power-on or cold reset; R444; reset false -/
  started : Bool := false
  /-- sessions held, oldest first, at most 32; R305; reset [] -/
  sessions : List Session := []
  /-- sessions numbered so far for Tally; R416; reset 0 (model's numbering, log 5) -/
  sessionCount : Nat := 0
  /-- long operations, at most 64, in order of OP_START; R313; reset [] -/
  ops : List LongOp := []
  /-- handles given so far; R313; reset 0 (model's numbering, log 6) -/
  handleCount : Nat := 0
  /-- messages that the ports hold for sending, oldest first; R291; reset [] -/
  tx : List Msg := []
  /-- (agent, domain) pairs whose DOMAIN_OFF or CLOCK_OFF access is logged; R322; reset [] -/
  accLog : List (Nat × Nat) := []
  /-- status with which the last register-write command completed; R310, R325; reset 0 -/
  busStatus : Nat := 0
  /-- events lost just before the next stored record; R416, R418; reset false -/
  gap : Bool := false
  /-- events lost in the present freeze; R427; reset 0 -/
  frozenLost : Nat := 0
  /-- next block of 256 records to copy to the archive; R425; reset 0 -/
  archNext : Nat := 0
  /-- Tally archive blocks in DDR4: (block, its 2,048 words); R425; reset [] -/
  archive : Tab (List Word) := []
  /-- regions of the region table, defaults first; R408; reset [] -/
  regions : List Region := []
  /-- rows retired onto spares; R409; reset [] -/
  rowSeals : List RowSeal := []
  /-- next SRAM word of the scrubber, counted through the arrays in order; R404; reset 0 -/
  scrubAt : Nat := 0
  /-- next DDR4 line of each channel's scrubber; R404; reset [] (0) -/
  ddrScrub : Tab Nat := []
  /-- words rewritten whole after a UE, whose next UE at a scrub is a hard error; R406; reset [] -/
  wasUe : Tab Bool := []
  /-- receive datapaths by 9 * face + datapath; R5; reset [] -/
  rxds : Tab RxdX := []
  /-- the plan copy in DDR4 is whole; R339, R412; reset false -/
  planCopyOk : Bool := false
  /-- lanes by q = 9 * face + lane; R7; reset [] -/
  lanes : Tab LaneX := []
  /-- calibration items, in order; R349, R370; reset [] -/
  calQ : List CalItem := []
  /-- Assay items, in order; R349, R382; reset [] -/
  assayQ : List AssayItem := []
  /-- actions that a register access asks for and that run right after it: warm reset, face reset, Hewer step; empty between
  commands; R286, R439, R441; reset [] -/
  defer : List Deferred := []
  /-- the running plan; R61, R70; reset none -/
  plan : Option Plan := none
  /-- seam channels by q; R218; reset [] -/
  seams : Tab SeamX := []
  /-- faces by f; R5; reset [] -/
  faces : Tab FaceX := []
  /-- records of capture channels by c; R249; reset [] -/
  caps : Tab ObsRec := []
  /-- capture archive in DDR4, oldest first; R251; reset [] -/
  archEntries : List ArchEntry := []
  /-- ID of the next archive entry; 8 bits; R251; reset 0 -/
  archId : Nat := 0
  /-- size of the capture archive, MiB; R411; reset 0 (PLATFORM) -/
  archMib : Nat := 0
  /-- streams by s; R252; reset [] -/
  streams : Tab StreamX := []
  /-- streams opened so far; R252; reset 0 -/
  streamCount : Nat := 0
  /-- staging claim: none; register writes (none inside); an operation's handle; R68; reset none -/
  claim : Option (Option Nat) := none
  /-- adaptive rails: 0-3 VDD_CORE, 4-7 VDD_FACE; R37, R455; reset [] -/
  rails : Tab RailX := []
  /-- REFCLK_A is lost; R458; reset false -/
  refALost : Bool := false
  /-- REFCLK_B is lost; R458; reset false -/
  refBLost : Bool := false
  /-- shaping sets in use, by 9 * face + transmit datapath; R165; reset [] -/
  shapes : Tab ShapeSet := []
  /-- OTP; R51, R53, R181, R359; reset blank (DESIGN CHOICE, log 3) -/
  otp : Otp := {}
  /-- OTP burns waiting, the one under way in front; R466; reset [] -/
  burnQ : List Burn := []
  /-- retirements without a record; R359; reset [] -/
  volatileSeals : List SealRec := []
  /-- replay episodes outstanding, by port; R224; reset [] -/
  episodes : Tab (Option Episode) := []
  /-- Hewer sample buffers: (instruction word, PC and latency), oldest first; 64 entries; R434; reset [] -/
  hsBuf : Tab (List (Nat × Nat)) := []
  /-- retired instructions since Hewer n's last sample; R434; reset [] (0) -/
  hsCount : Tab Nat := []
  /-- PCS lanes that each host lane carries, by h; R194; reset [] -/
  hostPcs : Tab (List Nat) := []
  /-- symbols inverted by INJECT, by the address of the generator's PRBS_CTRL; R207; reset [] (0) -/
  injects : Tab Nat := []
  /-- shedding for budgets by scope, face f or 16 for the chip; R350-R352; reset [] -/
  budgetShed : Tab Shed := []
  /-- shedding for throttling by scope, face f or 16 for the chip; R355; reset [] -/
  throttleShed : Tab Shed := []
  /-- scheduler ticks since the last scrub quantum, 0-9; R349, R405; reset 0 -/
  ticks : Nat := 0
  /-- where a transition of the chip under way leads: 0 none, 1 STANDBY, 2 DEEP; R333, R335, R362; reset 0 -/
  chipTo : Nat := 0
  /-- when each temperature set was committed, ns since power-on plus 1, by 5 * q + i; R379 (AGE); reset [] (0: never) -/
  setAge : Tab Nat := []
  /-- temperature sets, 5 * q + i, that the Survey mirror in DDR4 holds; R379, R412; reset [] -/
  mirror : List Nat := []
  /-- conversions of the sequence entry under way: how many, and their sum; R366, R368; reset 0 -/
  madcAcc : Nat × Nat := (0, 0)
  /-- entries of the sequence in use; R367; reset 0 (none loaded) -/
  seqLen : Nat := 0
  /-- a new MADC_SEQ waits for the end of the running pass; R368; reset false -/
  seqPending : Bool := false
  /-- Hewers by n; R257; reset [] -/
  hewers : Tab HewerX := []
  /-- privilege of the session whose request runs now, 7 while none does; R416; reset 7 -/
  actor : Nat := 7
  /-- the boot load has not reached RUNNING or BARE; R67; reset true -/
  booting : Bool := true
  /-- an image that passed its checks and waits to be applied; R69, R70; reset none -/
  checked : Option Plan := none
  /-- slots that the boot load has tried without success, then the one that passed: FALLBACK shows it; R62, R66, R440; reset 0 -/
  bootTries : Nat := 0
  /-- bytes 64 to 103 of the PLATFORM record by which DDR4's contents lie; R411; reset [] -/
  ddrLayout : List Nat := []
  /-- edge dies whose die-to-die link has failed, bit by die; 4 bits; R33; reset 0 -/
  d2d : Nat := 0
  /-- DDR4 channels that passed training, once it has ended; R410; reset none -/
  ddrTrain : Option Nat := none
  /-- CRC-32 of the kept banks, by place in KEPT_BANKS, as retention holds them; R335, R338; reset [] (0) -/
  keptCrc : Tab Nat := []
  /-- rate that a control port tries in bring-up, plus 1, by port; R288; reset [] (0: bring-up has not begun) -/
  cpTry : Tab Nat := []
  /-- PTP client; R292, R293; reset: no master -/
  ptp : PtpX := {}
  /-- how often DDR4's contents have become undefined; the model's own, not the spec's; R414; reset 0 (DESIGN CHOICE, log 4) -/
  ddrEpoch : Nat := 0
  /-- transmit datapaths by 9 * face + datapath; R161; reset [] -/
  txds : Tab TxdX := []
  /-- pattern checkers by the address of their PRBS_CTRL; R207; reset [] -/
  pats : Tab PatX := []
  /-- registers of pattern generators by the address of their PRBS_CTRL, newest bit first; R206; reset [] (not started) -/
  gens : Tab (List Bool) := []
  /-- ports by n; R197, R213, R223; reset [] -/
  ports : Tab PortX := []
  /-- level indices that each host transmitter sent last, by h; R199, R202; reset [] -/
  hostTx : Tab (List Nat) := []
  /-- taps that link training gave each host transmitter, 1/1000: pre-cursor, main, post-cursor, by h; R190; reset [] (0, 1000, 0) -/
  hostTaps : Tab (Int × Int × Int) := []
  deriving DecidableEq, Repr

/-- The machine after power-on (R436), before START_UP: every field at the value its line above names. -/
def State.reset : State := {}

end Sys2Proof.Machine
end

