-- ==== Sys2Proof/WellFormed.lean ====
section
/-!
DEFINITION. Sys2Proof/WellFormed.lean: the commands whose list operands have the length that their row gives them. The meanings of
the three rows below answer the fault `illFormed` for any other list.
-/
namespace Sys2Proof

/-- Soft values of an inner codeword: 256 or 128 of them (R146, R150). -/
def InnerWord.wellFormed : InnerWord → Bool
  | .soft v => v.length == 256 || v.length == 128
  | .codes _ => true

/-- CLIENT_NONCE, 32 bytes, and CLIENT_EPH, 97 bytes (R300). -/
def helloWellFormed (nonce eph : List (BitVec 8)) : Bool := nonce.length == 32 && eph.length == 97

/-- SIG where its bytes are given: 96 of them (R302). -/
def ClientSig.wellFormed : ClientSig → Bool
  | .bytes b => b.length == 96
  | .verdict _ => true

/-- PUBKEY of AUTH, 97 bytes, and SIG (R302). -/
def authWellFormed (pub : List (BitVec 8)) (sig : ClientSig) : Bool := pub.length == 97 && sig.wellFormed

/-- Well-formed commands. -/
def Instr.wellFormed : Instr → Bool
  | .innerCodeword _ _ word => word.wellFormed
  | .hello _ _ _ _ _ _ nonce eph => helloWellFormed nonce eph
  | .auth _ pub sig => authWellFormed pub sig
  | _ => true

end Sys2Proof
end

