-- ==== Sys2Proof/Machine/Ops.lean ====
section
/-!
DEFINITION. Sys2Proof/Machine/Ops.lean: the named operations over registers, counters, memory words, free values and Tally
records, which every family of meanings uses.
-/
namespace Sys2Proof.Machine
open Sys2Proof

/-- The outcome of a command. -/
abbrev Out := Host.Outcome State Fault Refusal

/-- The outcome of a command whose list operand may have a length that its row does not give it. -/
def formed (ok : Bool) (t : State) : Out := if ok then .next t else .fault .illFormed

/-! ## STATUS values (R310) -/

abbrev stOk : Nat := 0
abbrev stBadVersion : Nat := 1
abbrev stAuthFail : Nat := 2
abbrev stNoAccess : Nat := 3
abbrev stDomainOff : Nat := 4
abbrev stClockOff : Nat := 5
abbrev stBusy : Nat := 6
abbrev stLimit : Nat := 7
abbrev stBadPlan : Nat := 8
abbrev stNotSusp : Nat := 9
abbrev stTimeout : Nat := 10
abbrev stPoisoned : Nat := 11
abbrev stRange : Nat := 12

/-- The state as a command that may leave actions finds it: none waits (they run before the command that left them ends). -/
def State.calm (s : State) : State := { s with defer := [] }

/-! ## Registers and counters -/

/-- The stored word of the register at an address; a register never written holds its Reset column (R22). -/
def State.reg (s : State) (a : Nat) : Word := tabGet (resetWord a) s.regs a

/-- Stores a register word. -/
def State.setReg (s : State) (a : Nat) (w : Word) : State :=
  { s with regs := tabSet (resetWord a) s.regs a w }

/-- The value of a field. -/
def State.rd (s : State) (f : Fld) : Nat := fieldGet (s.reg f.addr) f.lo f.width

/-- Sets one field; the register's other bits stay. -/
def State.wr (s : State) (f : Fld) (v : Nat) : State :=
  s.setReg f.addr (fieldSet (s.reg f.addr) f.lo f.width v)

/-- Sets several fields, in order. -/
def State.wrs (s : State) : List (Fld × Nat) → State
  | [] => s
  | (f, v) :: fs => (s.wr f v).wrs fs

/-- Counts one in a field that saturates. -/
def State.incSat (s : State) (f : Fld) : State := s.wr f (satInc f.width (s.rd f))

/-- Counts one in a field that wraps. -/
def State.incMod (s : State) (f : Fld) : State := s.wr f (s.rd f + 1)

/-- A flag. -/
def State.on (s : State) (f : Fld) : Bool := s.rd f == 1

/-- Returns every register whose address satisfies `p` to its Reset column (R445, entry D). -/
def State.dropRegs (s : State) (p : Nat → Bool) : State := { s with regs := tabDrop p s.regs }

/-- The 48-bit counter whose LO word lies at `a` (R328). -/
def State.ctr (s : State) (a : Nat) : Nat := tabGet 0 s.ctrs a

def State.setCtr (s : State) (a v : Nat) : State :=
  { s with ctrs := tabSet 0 s.ctrs a (v % 2 ^ 48) }

/-- Adds to a 48-bit counter, modulo 2^48. -/
def State.addCtr (s : State) (a n : Nat) : State := s.setCtr a (s.ctr a + n)

/-- Clears every counter whose LO address satisfies `p`. -/
def State.dropCtrs (s : State) (p : Nat → Bool) : State := { s with ctrs := tabDrop p s.ctrs }

/-! ## Free values -/

/-- The next free value. -/
def State.freeVal (s : State) : Nat := (Config.free s.freeCtr).toNat

/-- The state after a free value was taken. -/
def State.tookFree (s : State) : State := { s with freeCtr := s.freeCtr + 1 }

/-! ## When the part runs -/

/-- Core logic runs: VDD_AON is up, the Canary has not tripped, start-up has powered chip control, and the chip is not in
DEEP (R332, R360, R444). -/
def State.alive (s : State) : Bool :=
  s.powered && !s.canary && s.started && s.rd FM_CHIP_STATUS_STATE != 2

/-- An effect that happens only when `c` holds: otherwise the event cannot occur and nothing changes. -/
def guardS (c : Bool) (s : State) (f : State → State) : State := if c then f s else s

/-! ## Memory words (R398-R403) -/

/-- Key of byte or word `b` of one array's `i`-th copy (R398: ARRAY and INDEX). -/
def memKey (a i b : Nat) : Nat := (a * 256 + i) * 2 ^ 40 + b

/-- Data bytes of one check word: 4 for the (39,32) arrays, else 8 (R398). -/
def memWidth (a : Nat) : Nat := if a = 5 ∨ a = 6 then 4 else 8

/-- How many copies an array has (R398). -/
def memCopies (a : Nat) : Nat :=
  match a with
  | 1 => 16 | 2 => 1 | 3 => 18 | 4 => 18 | 5 => 16 | 6 => 16 | 7 => 1 | 8 => 2 | 9 => 1 | 10 => 16
  | 16 => 1 | 17 => 1 | 18 => 1 | 19 => 1
  | _ => 0

/-- Bytes of one copy of an array (R398). -/
def memSize (a : Nat) : Nat :=
  match a with
  | 1 => 0x280000 | 2 => 0x4000000 | 3 => 0x10000 | 4 => 0x20000 | 5 => 0x9000 | 6 => 0x2400 | 7 => 0x80000
  | 8 => 0x100000 | 9 => 0xB4000 | 10 => 0x240000
  | 16 => 2 ^ 35 | 17 => 2 ^ 35 | 18 => 2 ^ 35 | 19 => 2 ^ 35
  | _ => 0

/-- ARRAY codes that name an array (R398). -/
def memArrayOk (a : Nat) : Bool := memCopies a != 0

/-- DDR4 arrays have no valid bits (R399). -/
def isDdr (a : Nat) : Bool := decide (16 ≤ a)

def State.byte (s : State) (a i b : Nat) : Byte := tabGet 0 s.bytes (memKey a i b)

def State.setByte (s : State) (a i b : Nat) (v : Byte) : State :=
  { s with bytes := tabSet 0 s.bytes (memKey a i b) v }

/-- Stores bytes from byte `b` on. -/
def State.setBytes (s : State) (a i : Nat) : Nat → List Nat → State
  | _, [] => s
  | b, v :: vs => (s.setByte a i b (BitVec.ofNat 8 v)).setBytes a i (b + 1) vs

/-- `n` stored bytes from byte `b` on. -/
def State.getBytes (s : State) (a i b n : Nat) : List Nat :=
  (List.range n).map fun j => (s.byte a i (b + j)).toNat

/-- The tag of a word: none when its valid bit is clear (R399). -/
def State.tag (s : State) (a i w : Nat) : Option WordTag := tabGet none s.tags (memKey a i w)

def State.setTag (s : State) (a i w : Nat) (t : Option WordTag) : State :=
  { s with tags := tabSet none s.tags (memKey a i w) t }

/-- Is a flip armed that the next write of word `w` takes (R403)? -/
def flipHits (s : State) (a i w : Nat) : Bool :=
  s.on MEM_FLIP_CTRL_ARM && s.rd MEM_FLIP_CTRL_ARRAY == a && s.rd MEM_FLIP_CTRL_INDEX == i &&
    (s.rd MEM_FLIP_CTRL_MODE == 0 || s.rd MEM_FLIP_ADDR_WORD == w)

/-- The tag that a freshly encoded word takes: an armed flip corrupts it (R403) and stuck cells show again (R406). -/
def freshTag (s : State) (a i w : Nat) (old : Option WordTag) : WordTag :=
  let base : WordTag := match old with
    | some t => if t.stuck then { dflip := t.dflip, cflip := t.cflip, stuck := true } else {}
    | none => {}
  if flipHits s a i w then
    let m := s.rd MEM_FLIP_DATA_LO_MASK_LO + (if memWidth a = 8 then s.rd MEM_FLIP_DATA_HI_MASK_HI * 2 ^ 32 else 0)
    { base with dflip := Nat.xor base.dflip m, cflip := Nat.xor base.cflip (s.rd MEM_FLIP_CTRL_CHECK) }
  else base

/-- Takes the armed flip (R403: ARM falls). -/
def useFlip (s : State) (a i w : Nat) : State :=
  if flipHits s a i w then s.wr MEM_FLIP_CTRL_ARM 0 else s

/-- A flip is armed for a copy of an array (R403). -/
def flipArmed (s : State) (a i : Nat) : Bool :=
  s.on MEM_FLIP_CTRL_ARM && s.rd MEM_FLIP_CTRL_ARRAY == a && s.rd MEM_FLIP_CTRL_INDEX == i

/-- The word that an armed flip corrupts when the `n` words from `w` on are written (R403): the first, or the one of MEM_FLIP_ADDR. -/
def flipWord (s : State) (a i w n : Nat) : Option Nat :=
  if flipArmed s a i then
    if s.rd MEM_FLIP_CTRL_MODE = 0 then some w
    else if w ≤ s.rd MEM_FLIP_ADDR_WORD ∧ s.rd MEM_FLIP_ADDR_WORD < w + n then some (s.rd MEM_FLIP_ADDR_WORD) else none
  else none

/-- A full-word write: data, fresh check bits, valid set, poison cleared (R399, R400). -/
def memPutWord (s : State) (a i w : Nat) (data : Nat) : State :=
  let t := freshTag s a i w (s.tag a i w)
  ((useFlip s a i w).setBytes a i (w * memWidth a) (leBytes (memWidth a) data)).setTag a i w (some t)

/-- Full-word writes from word `w` on. -/
def memPutWords (s : State) (a i w : Nat) : List Nat → State
  | [] => s
  | d :: ds => memPutWords (memPutWord s a i w d) a i (w + 1) ds

/-- The data as it was encoded. -/
def memRaw (s : State) (a i w : Nat) : Nat := leNat (s.getBytes a i (w * memWidth a) (memWidth a))

/-- Clears the valid bits of the words that `p` picks (R399, bulk clear): they read as zero from then on. -/
def memClear (s : State) (p : Nat → Nat → Nat → Bool) : State :=
  let split := fun k => (k / 2 ^ 48, k / 2 ^ 40 % 256, k % 2 ^ 40)
  { s with
    tags := tabDrop (fun k => let (a, i, w) := split k; p a i w) s.tags
    bytes := tabDrop (fun k => let (a, i, b) := split k; p a i (b / memWidth a)) s.bytes }

/-- Clears one copy of an array. -/
def memClearCopy (s : State) (a i : Nat) : State := memClear s fun a' i' _ => a' == a && i' == i

/-- Memory, on-chip and DDR4 (`bytes`) and flash, is in canonical form: addresses rise strictly and no entry equals what an
unlisted byte reads as. -/
def Memory.wf (bytes flash : List Host.Cell) : Bool := tabWf (fun _ => 0) bytes && tabWf (fun _ => 0xFF) flash

/-- What a check word reads as. -/
inductive EccKind where
  | clean | ce | ue
  deriving DecidableEq, Repr

/-- The code's verdict on a word and the data bits that it returns wrong (R398, R400). Patterns of three and more flipped
bits follow the columns that the spec does not list (Config). -/
def eccOf (a : Nat) (t : WordTag) : EccKind × Nat :=
  if t.poison then (.ue, 0) else
  let wide := memWidth a == 8
  match popcount 64 t.dflip + popcount 8 t.cflip with
  | 0 => (.clean, 0)
  | 1 => (.ce, 0)
  | 2 => (.ue, 0)
  | n =>
    if n % 2 = 1 then
      match Config.eccMiscorrect wide t.dflip t.cflip with
      | none => (.ue, 0)
      | some b => (.ce, Nat.xor t.dflip (2 ^ b))
    else if Config.eccSyndrome wide t.dflip t.cflip = 0 then (.clean, t.dflip) else (.ue, 0)

/-- The syndrome found (MEM_ERR_INFO.SYNDROME; R398). -/
def syndromeOf (a : Nat) (t : WordTag) : Nat :=
  (Config.eccSyndrome (memWidth a == 8) t.dflip
    (if t.poison then Nat.xor t.cflip (if memWidth a = 8 then 0xFF else 0x3F) else t.cflip)).toNat

/-! ## Tally records (R416-R427) -/

/-- An event as its source raises it (R416): CODE, SOURCE kind and index, arguments, and the privilege behind it. -/
structure Ev where
  code : Nat
  kind : Nat := 0
  index : Nat := 0
  a0 : Nat := 0
  a1 : Nat := 0
  a2 : Nat := 0
  priv : Nat := 7
  deriving DecidableEq, Repr

/-- The eight words of a record (R416). -/
def recordWords (e : Ev) (seq time flags : Nat) : List Nat :=
  [seq % 2 ^ 32, time % 2 ^ 32, time / 2 ^ 32 % 2 ^ 32, e.code % 2 ^ 16 + (e.kind % 16 * 4096 + e.index % 4096) * 2 ^ 16,
   e.a0 % 2 ^ 32, e.a1 % 2 ^ 32, e.a2 % 2 ^ 32, flags % 256 + e.priv % 256 * 2 ^ 8 + 0xA5 * 2 ^ 24]

/-- Pairs 32-bit words into 64-bit memory words. -/
def pairWords : List Nat → List Nat
  | x :: y :: r => (x + y * 2 ^ 32) :: pairWords r
  | [x] => [x]
  | [] => []

/-- Events that always notify (codes marked † in R419; R423). -/
def forcedNotify (code : Nat) : Bool := [0x0243, 0x0546, 0x0744, 0x0940, 0x1107].contains code

/-- Does filter `n` match the event (R420)? -/
def filterHits (s : State) (e : Ev) (n : Nat) : Bool :=
  let m := s.rd (TALLY_FILTER0_CLASS_MASK n)
  s.on (TALLY_FILTER0_VALID n) &&
    Nat.land (e.code / 256) m == Nat.land (s.rd (TALLY_FILTER0_CLASS n)) m &&
    nbit (s.rd (TALLY_FILTER0_PRIV_MASK n)) e.priv &&
    (s.rd (TALLY_FILTER1_SRC_KIND n) == 15 ||
      (s.rd (TALLY_FILTER1_SRC_KIND n) == e.kind && s.rd (TALLY_FILTER1_SRC_INDEX n) == e.index))

/-- The action of a class: TALLY_CLASS_ACT (R420). -/
def classAction (s : State) (cls : Nat) : Nat :=
  if cls < 16 then fieldGet (s.reg TALLY_CLASS_ACT_LO) (2 * cls) 2
  else fieldGet (s.reg TALLY_CLASS_ACT_HI) (2 * (cls - 16)) 2

/-- The action an event takes: 0 drop, 1 record, 2 record and notify (R420). -/
def evAction (s : State) (e : Ev) : Nat :=
  if forcedNotify e.code then 2
  else match (List.range 16).find? (filterHits s e) with
    | some n => s.rd (TALLY_FILTER0_ACTION n)
    | none => classAction s (e.code / 256)

/-- Does a session take a notice now: subscribed, and fewer than 1,000 sent in the span of 1 s (R422)? -/
def noticeRoom (time : Nat) (x : Session) : Bool :=
  decide ((x.noticeTimes.filter fun t => decide (time < t + 1000000000)).length < 1000)

/-- The session of an identifier. -/
def State.session (s : State) (id : Nat) : Option Session := s.sessions.find? fun x => x.id == id

/-- Changes one session. -/
def State.sessUpd (s : State) (id : Nat) (g : Session → Session) : State :=
  { s with sessions := s.sessions.map fun x => if x.id == id then g x else x }

/-- Bytes of a message (R295, R300): header, payload, and the tag of a protected one; an ARP packet, an ICMP message for the answers
outside ZCP (R290). -/
def msgBytes (m : Msg) : Nat :=
  match m.op with
  | 0x100 => 28
  | 0x101 => 32
  | 0x102 => 8 + 4 * m.words.length
  | _ => 32 + 4 * m.words.length + if m.bare then 0 else 16

/-- 8-byte words of the transmit buffer that a message takes: header, payload, tag and frame headers in a place of its own
(notes/assumptions/84.md). -/
def msgWords (m : Msg) : Nat := 16 + m.words.length / 2

/-- A message enters its port's transmit buffer (R291), whose array takes an armed flip (R403). -/
def State.send (s : State) (m : Msg) : State :=
  if flipArmed s 8 m.port then
    let w := s.freeVal % (2 ^ 17 - msgWords m)
    match flipWord s 8 m.port w (msgWords m) with
    | some x => { (useFlip s.tookFree 8 m.port x) with tx := s.tx ++ [{ m with flip := some (x, freshTag s 8 m.port x none) }] }
    | none => { s.tookFree with tx := s.tx ++ [m] }
  else { s with tx := s.tx ++ [m] }

/-- Sends one event's notice to every subscribed session (R422, R423). -/
def sendNotices (s : State) (ws : List Nat) : State :=
  let upd := fun (x : Session) =>
    if !x.subEn then x
    else if noticeRoom s.time x then
      { x with noticeTimes := (x.noticeTimes.filter fun t => decide (s.time < t + 1000000000)) ++ [s.time], sent := x.sent + 1 }
    else { x with subDropped := satInc 16 x.subDropped }
  let out := (s.sessions.filter fun x => x.subEn && noticeRoom s.time x).map fun x =>
    ({ port := x.port, session := x.id, seq := x.sent + 1, ver := x.ver, op := 0, flags := 2, status := 0,
       words := ws.map (BitVec.ofNat 32) } : Msg)
  out.foldl State.send { s with sessions := s.sessions.map upd }

/-- Is anyone sent the notice? -/
def anyNotice (s : State) : Bool := s.sessions.any fun x => x.subEn && noticeRoom s.time x

/-- Stores a record at HEAD_SEQ and counts it (R417, R418). -/
def storeRecord (s : State) (e : Ev) (notified : Bool) : State :=
  let seq := s.rd HEAD_SEQ_SEQ
  let flags := bit notified + 2 * bit s.gap
  let s := memPutWords s 7 0 (4 * (seq % 16384)) (pairWords (recordWords e seq s.time flags))
  { s.wr HEAD_SEQ_SEQ (seq + 1) with gap := false }

/-- The event is lost: it is counted, and the next stored record carries GAP (R416, R424, R427). -/
def loseEvent (s : State) (f : Fld) : State := { s.incSat f with gap := true }

/-- Stores one of Tally's own records, 0x0742 or 0x0743, with the notice that its action gives it (R424, R425). -/
def storeOwn (s : State) (e : Ev) : State :=
  let notify := evAction s e == 2
  let ws := recordWords e (s.rd HEAD_SEQ_SEQ) s.time (bit (notify && anyNotice s) + 2 * bit s.gap)
  let t := storeRecord s e (notify && anyNotice s)
  if notify then sendNotices t ws else t

/-- Under archive, the record about to be overwritten belongs to a block not yet copied: the block is lost (R425). -/
def archiveLoss (s : State) : State :=
  let seq := s.rd HEAD_SEQ_SEQ
  let b := (seq - 16384) / 256
  if s.on TALLY_CTRL_POLICY && decide (16384 ≤ seq) && decide (s.archNext ≤ b) then
    storeOwn ({ s with archNext := b + 1 }.incSat TALLY_LOST_B_ARCH) { code := 0x0743 }
  else s

/-- Does the event fall on the last place of a keep-first store (R424)? -/
def lastPlace (s : State) : Bool :=
  !s.on TALLY_CTRL_POLICY && s.rd HEAD_SEQ_SEQ == (s.rd BASE_SEQ_SEQ + 16383) % 2 ^ 32

/-- Can the event be stored now (R423, R424, R427)? -/
def storable (s : State) : Bool :=
  !s.on TALLY_STATUS_FROZEN && !s.on TALLY_STATUS_FULL && !lastPlace s

/-- Stores an event by the policy (R424, R425), or counts it lost while frozen (R427) or full. -/
def storeEvent (s : State) (e : Ev) (notified : Bool) : State :=
  if s.on TALLY_STATUS_FROZEN then
    { loseEvent s TALLY_LOST_B_FROZEN with frozenLost := s.frozenLost + 1 }
  else if s.on TALLY_STATUS_FULL then loseEvent s TALLY_LOST_A_FULL
  else if lastPlace s then
    loseEvent ((storeOwn s { code := 0x0742 }).wr TALLY_STATUS_FULL 1) TALLY_LOST_A_FULL
  else storeRecord s e notified

/-- An armed channel fires: trigger stamp, trigger position, and TRIGGERED (R247, R249). -/
def capFireOne (s : State) (c time pos : Nat) (short : Bool) : State :=
  if s.rd (CAP_STATUS_STATE c) == 1 then
    s.wrs [(CAP_STATUS_STATE c, 2), (CAP_STATUS_SHORT_PRE c, bit short), (CAP_TRIG_STAMP_LO_STAMP_LO c, time),
      (CAP_TRIG_STAMP_HI_STAMP_HI c, time / 2 ^ 32), (CAP_TRIG_POS_POS c, pos)]
  else s

/-- A channel fires, and with it every channel of its group, at one edge and with one stamp (R249). -/
def capFire (s : State) (c time pos : Nat) (short : Bool) : State :=
  if s.rd (CAP_STATUS_STATE c) == 1 then
    let grp := s.on (CAP_CFG_GROUP c)
    (List.range 4).foldl (fun t j =>
      if j == c || (grp && s.on (CAP_CFG_GROUP j)) then capFireOne t j time pos short else t) s
  else s

/-- Channels armed on Tally events fire when an event's code matches, whatever Tally does with it (R247). Where in the
region the write stands at that moment is not part of the event: a free value (notes/assumptions/8.md). -/
def capOnEvent (s : State) (code : Nat) : State :=
  (List.range 4).foldl (fun t c =>
    let arg := t.rd (CAP_TRIG_ARG_ARG c)
    let mask := arg / 2 ^ 16
    if t.rd (CAP_STATUS_STATE c) == 1 && t.rd (CAP_TRIG_TRIG_SRC c) == 1 &&
        Nat.land code mask == Nat.land (arg % 2 ^ 16) mask then
      capFire t.tookFree c t.time (t.freeVal % (t.rd (CAP_REGION_SIZE c) * 2 ^ 20)) (nbit t.freeVal 63)
    else t) s

/-- A record's words as a notice carries them: SEQ all ones and no GAP for one that is not stored (R422, R423). -/
def noticeWords (s : State) (e : Ev) (notified : Bool) : List Nat :=
  recordWords e (if storable s then s.rd HEAD_SEQ_SEQ else 0xFFFFFFFF) s.time (bit notified + 2 * bit (storable s && s.gap))

/-- Records an event, and sends its notice when its action asks for one (R420, R423-R425). -/
def recordEvent (s : State) (e : Ev) (notify : Bool) : State :=
  if notify then sendNotices (storeEvent s e (anyNotice s)) (noticeWords s e (anyNotice s)) else storeEvent s e false

/-- An event with its action: what drops goes no further (R420); a record about to be overwritten comes first (R425). -/
def tallyEvent (s : State) (e : Ev) : State :=
  if evAction s e = 0 then s
  else recordEvent (if storable s then archiveLoss s else s) e (evAction s e == 2)

/-- An event reaches Tally: captures see it, the filters give its action, it is stored and notified (R420-R425). It carries the
privilege of the session whose request runs (R416). -/
def logEvent (s : State) (ev : Ev) : State :=
  tallyEvent (capOnEvent s ev.code) { ev with priv := if ev.priv = 7 then s.actor else ev.priv }

/-- Sets a sticky bit; its change from 0 to 1 logs the event (R419). -/
def stickyEvent (s : State) (f : Fld) (e : Ev) : State :=
  if s.on f then s else logEvent (s.wr f 1) e

/-- A waiting Hewer goes on once an unmasked source is pending, even with IE at 0 (R281, WAIT). -/
def hewerWake (s : State) (n : Nat) : State :=
  if s.rd (HW_STATUS_STATE n) = 2 ∧ Nat.land (s.rd (HW_IRQ_PEND n)) (s.rd (HW_IRQ_MASK n)) ≠ 0 then s.wr (HW_STATUS_STATE n) 1 else s

/-- Raises a Hewer's interrupt source (R276). -/
def raiseIrq (s : State) (n i : Nat) : State :=
  hewerWake (s.wr (HW_IRQ_PEND n) (nbitSet (s.rd (HW_IRQ_PEND n)) i true)) n

/-! ## Performance counters (R428-R430) -/

/-- Counter `i` of block `b` counts `n`; a wrap sets its PC_OVF bit and, with OVF_INT, logs 0x0744 (R430). -/
def pcAdd (s : State) (b i n : Nat) : State :=
  let v := s.ctr (PC_COUNT b i)
  let s := s.addCtr (PC_COUNT b i) n
  if 2 ^ 48 ≤ v + n then
    let s := s.wr (PC_OVF_OVF b) (nbitSet (s.rd (PC_OVF_OVF b)) i true)
    if s.on (PC_CFG_OVF_INT b i) then logEvent s { code := 0x0744, a0 := b, a1 := i } else s
  else s

/-- `n` events of a selector happen in block `b` at a lane or position (R429). -/
def pcCount (s : State) (b ev lane n : Nat) : State :=
  (List.range 8).foldl (fun t i =>
    if t.on (PC_CFG_EN b i) && t.rd (PC_CFG_EVENT b i) == ev &&
        (t.rd (PC_CFG_LANE b i) == 15 || t.rd (PC_CFG_LANE b i) == lane) then pcAdd t b i n else t) s

/-- A control port receives a frame or datagram of `n` bytes (R429). -/
def received (s : State) (port n : Nat) : State := pcCount s (66 + port) 1 15 n

/-- The record of receive datapath `d` of face `f`. -/
def State.rxd (s : State) (f d : Nat) : RxdX := tabGet {} s.rxds (9 * f + d)

def State.setRxd (s : State) (f d : Nat) (r : RxdX) : State :=
  { s with rxds := tabSet {} s.rxds (9 * f + d) r }

end Sys2Proof.Machine
end

