-- ==== Sys2Proof/Machine/Mem.lean ====
section
/-!
DEFINITION. Sys2Proof/Machine/Mem.lean: reads and writes of check words with their errors (R401, R402), owners and notices
(R408, R412, R413), hard errors and row sealing (R406, R409). The inner layout of array 0x05 is notes/assumptions/9.md.
-/
namespace Sys2Proof.Machine
open Sys2Proof

/-! ## The inner layout of the datapath banks (array 0x05) -/

/-- Word of coefficient bank `b`, word `k` (0 the header), of datapath `d` (R112). -/
def bankWord (d b k : Nat) : Nat := d * 1024 + b * 258 + k
/-- Word `k` of detector table `b` of datapath `d` (R124). -/
def tableWord (d b k : Nat) : Nat := d * 1024 + 516 + b * 64 + k
/-- Word `k` of the gradient buffer of datapath `d` (R117). -/
def gradWord (d k : Nat) : Nat := d * 1024 + 644 + k

/-! ## DDR4 addresses (R411) -/

/-- Fitted channels in rising order (R56, R411). -/
def ddrFitted (s : State) : List Nat := (List.range 4).filter fun c => nbit (s.rd PRESENCE_DDR) c

/-- Channel and word in it of the system's 8-byte word `w`: the fitted channels interleave by 4 KiB (R411). -/
def ddrPlace (s : State) (w : Nat) : Nat × Nat :=
  let chans := ddrFitted s
  (chans.getD (w / 512 % chans.length) 0, w / 512 / chans.length * 512 + w % 512)

/-- The system word that word `lw` of channel `c` holds: the inverse of `ddrPlace`. -/
def ddrSystem (s : State) (c lw : Nat) : Nat :=
  let chans := ddrFitted s
  (lw / 512 * chans.length + (chans.findIdx fun x => x == c)) * 512 + lw % 512

/-- The Survey mirror's first system word, and its words (R379, R411). -/
def mirrorAt : Nat := 2 ^ 21
def mirrorWords : Nat := 0xB4000 / 8

/-! ## Owners (R408, R412) -/

/-- One default region per array copy (R398, R408): owner kind and owner index by array. -/
def defaultOwner (a i : Nat) : Nat × Nat :=
  match a with
  | 1 => (3, i) | 2 => (4, 0) | 3 => (1, i) | 4 => (1, i) | 5 => (2, i) | 6 => (2, i) | 7 => (5, 0) | 8 => (8, i)
  | 9 => (6, 0) | 10 => (9, i)
  | _ => (0, 0)

/-- The default regions of the SRAM arrays, in ARRAY and INDEX order (R398, R408). -/
def sramRegions : List Region :=
  [1, 2, 3, 4, 5, 6, 7, 8, 9, 10].flatMap fun a =>
    (List.range (memCopies a)).map fun i =>
      { array := a, index := i, kind := (defaultOwner a i).1, owner := (defaultOwner a i).2, base := 0,
        words := memSize a / memWidth a }

/-- The region that owns a word: a REGIONS entry before a default one (R408), so the last that covers it. The table has room for 256
(MEM_REGION_n). -/
def regionOf (s : State) (a i w : Nat) : Option Nat :=
  (List.range (min s.regions.length 256)).reverse.find? fun n => match s.regions[n]? with
    | some r => r.array == a && r.index == i && decide (r.base ≤ w) && decide (w < r.base + r.words)
    | none => false

/-- The device-wide lane, datapath or set behind a word of array 0x09 (R379): lane and set index. -/
def setOfWord (w : Nat) : Nat × Nat := (w * 8 / 0x1400, w * 8 % 0x1400 / 0x400)

/-- The bin of the active coefficient bank that a word of array 0x05 holds; 257 stands for the header's E_C (R112, R115). -/
def activeBin (s : State) (f w : Nat) : Option (Nat × Nat) :=
  let d := w / 1024
  let x := w % 1024
  let b := s.rd (EQ_BANK_CTRL_ACTIVE_EQ f d)
  if decide (d < 9) && decide (b * 258 ≤ x) && decide (x < b * 258 + 258) then
    let k := x - b * 258
    some (d, if k = 0 then 257 else k - 1)
  else none

/-- An uncorrectable word of the active coefficient bank: the bin is zero until the next swap, and UE is set (R115). -/
def bankUe (s : State) (f d bin : Nat) : State :=
  let r := s.rxd f d
  (s.setRxd f d { r with zeroBins := if r.zeroBins.contains bin then r.zeroBins else r.zeroBins ++ [bin] }).wr
    (EQ_BANK_CTRL_UE f d) 1

/-- The datapath whose active detector table holds a word of array 0x05 (R124). -/
def activeTable (s : State) (f w : Nat) : Option Nat :=
  let d := w / 1024
  let t := tableWord d (s.rd (EQ_BANK_CTRL_ACTIVE_MLSE f d)) 0
  if decide (d < 9) && decide (t ≤ w) && decide (w < t + 64) then some d else none

/-- Takes the VALID of the set that a word of Survey's holds, or the mirror's copy of it (R412, kind 6; notes/assumptions/84.md). -/
def surveyLost (s : State) (a w : Nat) : State :=
  let drop := fun (t : State) (x : Nat × Nat) => { t with mirror := t.mirror.filter fun e => e != 5 * x.1 + x.2 }
  if a = 9 then let (q, i) := setOfWord w; drop (s.wr (SET_HDR_VALID q i) 0) (q, i)
  else if isDdr a then
    let g := ddrSystem s (a - 16) w
    if mirrorAt ≤ g ∧ g < mirrorAt + mirrorWords then drop s (setOfWord (g - mirrorAt)) else s
  else s

/-- What the owner does when a word of its region becomes poisoned (R412). A retry slot, a frame and a codeword of the gearbox (kinds 3, 8
and 9) are marked or discarded where they are read: `bufferedPair`, `sendRead`, `gearPass`. -/
def ownerAct (s : State) (a w : Nat) (r : Region) : State :=
  match r.kind with
  | 2 => if a = 5 then
      match activeBin s r.index w with
      | some (d, bin) => bankUe s r.index d bin
      | none =>
        match activeTable s r.index w with
        | some d => s.wr (EQ_BANK_CTRL_UE r.index d) 1
        | none => s
    else s
  | 6 => surveyLost s a w
  | 7 => { s with planCopyOk := false }
  | _ => s

/-- The notice of R412: a Tally event with ARRAY, INDEX, word and owner; the region counts it, and the first time its count
exceeds the threshold one forced-notify event is logged (R413). The order of the arguments is notes/assumptions/10.md. -/
def ownerNotice (s : State) (a i w : Nat) : State :=
  match regionOf s a i w with
  | none => logEvent s { code := 0x0545, kind := 8, index := a, a0 := a * 256 + i, a1 := w }
  | some n =>
    match s.regions[n]? with
    | none => s
    | some r =>
      let s := logEvent s { code := 0x0545, kind := 8, index := a, a0 := a * 256 + i, a1 := w, a2 := r.kind * 256 + r.owner }
      let old := s.rd (MEM_REGION1_COUNT n)
      let th := s.rd (MEM_REGION1_THRESHOLD n)
      let s := s.incSat (MEM_REGION1_COUNT n)
      let s := if old = th then
          logEvent s { code := 0x0546, kind := 8, index := a, a0 := a * 256 + i, a1 := n, a2 := old + 1 }
        else s
      ownerAct s a w r

/-- Records the last error in MEM_ERR (16, registers): KIND 1 CE, 2 UE, 3 hard error; SOURCE 0 read, 1 partial write,
2 scrub, 3 DDR_TEST. -/
def memErr (s : State) (kind src a i w synd : Nat) : State :=
  s.wrs [(MEM_ERR_INFO_KIND, kind), (MEM_ERR_INFO_SOURCE, src), (MEM_ERR_INFO_ARRAY, a), (MEM_ERR_INFO_INDEX, i),
    (MEM_ERR_INFO_SYNDROME, synd), (MEM_ERR_ADDR_WORD, w)]

/-- A corrected error is recorded, counted and logged (R401, R402, R406). -/
def ceEvent (s : State) (src a i w synd : Nat) : State :=
  logEvent (pcCount ((memErr s 1 src a i w synd).incSat (MEM_ARRAY0_CE a)) 72 1 15 1) { code := 0x0540, kind := 8, index := a, a0 := a * 256 + i, a1 := w }

/-- An uncorrectable error is recorded, counted and logged (R401, R402, R406), with the bin index in the active coefficient
bank (R115). -/
def ueEvent (s : State) (src a i w synd : Nat) : State :=
  let bin := if a = 5 then ((activeBin s i w).map Prod.snd).getD 0 else 0
  logEvent (pcCount ((memErr s 2 src a i w synd).incSat (MEM_ARRAY0_UE a)) 72 2 15 1)
    { code := 0x0541, kind := 8, index := a, a0 := a * 256 + i, a1 := w, a2 := bin }

/-- Takes the flips of a corrected word away; stuck cells show again (R401, R406). -/
def cleanTag (t : WordTag) : WordTag := if t.stuck then t else {}

/-- Reads one check word: the data and whether it is uncorrectable (R399, R401). A CE is corrected and written back; a UE in
a word not yet poisoned poisons it, is logged, and the owner is noticed. -/
def memReadWord (s : State) (a i w : Nat) : State × Nat × Bool :=
  match s.tag a i w with
  | none => (s, 0, false)
  | some t =>
    match eccOf a t with
    | (.clean, x) => (s, Nat.xor (memRaw s a i w) x, false)
    | (.ce, x) =>
      let v := Nat.xor (memRaw s a i w) x
      let s := s.setTag a i w (some (cleanTag t))
      (ceEvent s 0 a i w (syndromeOf a t), v, false)
    | (.ue, _) =>
      if t.poison then (s, 0, true)
      else
        let s := s.setTag a i w (some { t with poison := true })
        (ownerNotice (ueEvent s 0 a i w (syndromeOf a t)) a i w, 0, true)

/-- Bytes of a number with some replaced, from byte `o` on. -/
def mergeBytes (width old o : Nat) (new : List Nat) : Nat :=
  leNat ((List.range width).map fun j =>
    if o ≤ j ∧ j < o + new.length then new.getD (j - o) 0 else old / 2 ^ (8 * j) % 256)

/-- New bytes merged into a word (R402): the old word decides what is written and logged. -/
def memMerge (s : State) (a i w o : Nat) (new : List Nat) : State :=
  let width := memWidth a
  match s.tag a i w with
  | none => memPutWord s a i w (mergeBytes width 0 o new)
  | some t =>
    match eccOf a t with
    | (.clean, x) => memPutWord s a i w (mergeBytes width (Nat.xor (memRaw s a i w) x) o new)
    | (.ce, x) =>
      let v := Nat.xor (memRaw s a i w) x
      memPutWord (ceEvent s 1 a i w (syndromeOf a t)) a i w (mergeBytes width v o new)
    | (.ue, _) =>
      let s' := memPutWord s a i w (mergeBytes width (memRaw s a i w) o new)
      let t' := match s'.tag a i w with
        | some u => { u with poison := true }
        | none => { poison := true }
      let s' := s'.setTag a i w (some t')
      if t.poison then s' else ownerNotice (ueEvent s' 1 a i w (syndromeOf a t)) a i w

/-- A partial write of SRAM (R402, R429). -/
def memPartial (s : State) (a i w o : Nat) (new : List Nat) : State := memMerge (pcCount s 72 3 15 1) a i w o new

/-- A write of whole check words notes the words that read uncorrectable before: a hard error at their next scrub if they
read so again (R406). -/
def memWriteWord (s : State) (a i w data : Nat) : State :=
  let was := match s.tag a i w with
    | some t => t.poison
    | none => false
  let s := memPutWord s a i w data
  if was then { s with wasUe := tabSet false s.wasUe (memKey a i w) true } else s

/-- Writes bytes at byte `b`, none of them across a check word: a whole word or a partial write (R402). -/
def memWriteIn (s : State) (a i b : Nat) (new : List Nat) : State :=
  let width := memWidth a
  if b % width = 0 ∧ new.length = width then memWriteWord s a i (b / width) (leNat new)
  else memPartial s a i (b / width) (b % width) new

/-- Reads `n` bytes at byte `b`, none of them across a check word. -/
def memReadIn (s : State) (a i b n : Nat) : State × Nat × Bool :=
  let width := memWidth a
  let (s, v, ue) := memReadWord s a i (b / width)
  (s, v / 2 ^ (8 * (b % width)) % 2 ^ (8 * n), ue)

/-- Writes a run of bytes at a multiple of 4: whole words where they are whole, else halves; `k` bounds the writes. -/
def memWriteRun (s : State) (a i : Nat) : Nat → Nat → List Nat → State
  | 0, _, _ => s
  | _, _, [] => s
  | k + 1, o, bs =>
    if o % 8 = 0 ∧ (bs.drop 7) ≠ [] then memWriteRun (memWriteIn s a i o (bs.take 8)) a i k (o + 8) (bs.drop 8)
    else memWriteRun (memWriteIn s a i o (bs.take 4)) a i k (o + 4) (bs.drop 4)

/-- Reads `k` check words from `w` on, up to one that cannot be read: their bytes, and whether all could be read. -/
def memReadRun (s : State) (a i w : Nat) : Nat → State × List Nat × Bool
  | 0 => (s, [], true)
  | k + 1 =>
    let (s, v, bad) := memReadWord s a i w
    if bad then (s, [], false)
    else
      let (s, bs, ok) := memReadRun s a i (w + 1) k
      (s, leBytes (memWidth a) v ++ bs, ok)

/-! ## Buffers whose contents the model holds elsewhere (R398: arrays 0x01, 0x08, 0x0A; notes/assumptions/84.md) -/

/-- `n` words from `w` on are written: earlier tags go, and an armed flip that they meet is taken (R403). -/
def bufWrite (s : State) (a i w n : Nat) : State :=
  let lo := memKey a i w
  let t : State := { s with tags := tabDrop (fun k => decide (lo ≤ k) && decide (k < lo + n)) s.tags }
  match flipWord s a i w n with
  | some x => (useFlip t a i x).setTag a i x (some (freshTag s a i x none))
  | none => t

/-- `n` words from `w` on are read: is one of them poisoned or uncorrectable (R401)? -/
def bufRead (s : State) (a i w n : Nat) : State × Bool :=
  let lo := memKey a i w
  ((s.tags.map Prod.fst).filter fun k => decide (lo ≤ k) && decide (k < lo + n)).foldl (fun r k =>
    let x := memReadWord r.1 a i (w + (k - lo))
    (x.1, r.2 || x.2.2)) (s, false)

/-- A word that was written with tag `t` is read; its place is free again. Can it be used? -/
def tagRead (s : State) (a i w : Nat) (t : WordTag) : State × Bool :=
  let r := memReadWord (s.setTag a i w (some t)) a i w
  (r.1.setTag a i w none, !r.2.2)

/-- `n` words pass through a buffer of `size` words at a place of its own, written and read (R403, R412). Can they be used? -/
def bufPass (s : State) (a i size n : Nat) : State × Bool :=
  if flipArmed s a i then
    let w := s.freeVal % (size - n)
    match flipWord s a i w n with
    | some x => tagRead (useFlip s.tookFree a i x) a i x (freshTag s a i x none)
    | none => (s.tookFree, true)
  else (s, true)

/-! ## Rows (R409) -/

/-- Rows of 128 words per copy; 256 rows to a macro, 4 spares to a macro (R409). -/
def spareLeft (s : State) (a i row : Nat) : Bool :=
  decide ((s.rowSeals.filter fun r => r.array == a && r.index == i && r.row / 256 == row / 256).length < 4)

/-- What the copy to a spare makes of a word: CEs corrected, poison kept (R409 step 1). -/
def spareTag (a : Nat) (t : WordTag) : WordTag :=
  if t.poison then { poison := true }
  else if (eccOf a t).1 = EccKind.ce then {}
  else { t with stuck := false }

/-- Spare rows left in an array, saturating at 0xFF; 0 for DDR4 (MEM_ARRAY_a.SPARES, R409). -/
def sparesOf (s : State) (a : Nat) : Nat :=
  if isDdr a then 0
  else
    let macros := memCopies a * ceilDiv (memSize a / memWidth a) (256 * 128)
    min 255 (4 * macros - (s.rowSeals.filter fun r => r.array == a).length)

/-- A hard error (R406, R409): counted and logged; the row moves to a spare when its macro has one. The sealing record is
burned by the caller (R359). Answers whether the row was sealed. -/
def hardError (s : State) (src a i w synd : Nat) : State × Bool :=
  let s := logEvent ((memErr s 3 src a i w synd).incSat (MEM_ARRAY1_HARD a))
    { code := 0x0542, kind := 8, index := a, a0 := a * 256 + i, a1 := w }
  if isDdr a then (s, false)
  else
    let row := w / 128
    if s.rowSeals.any fun r => r.array == a && r.index == i && r.row == row then (s, false)
    else if spareLeft s a i row then
      let fix := fun (e : Nat × Option WordTag) =>
        if decide (memKey a i (row * 128) ≤ e.1) && decide (e.1 < memKey a i (row * 128 + 128)) then
          (e.1, e.2.map (spareTag a)) else e
      let s : State := { s with tags := s.tags.map fix, rowSeals := s.rowSeals ++ [⟨a, i, row⟩] }
      let s := (s.wr (MEM_ARRAY1_SPARES a) (sparesOf s a)).incSat (MEM_ARRAY1_SEALED a)
      (logEvent s { code := 0x0543, kind := 8, index := a, a0 := a * 256 + i, a1 := row }, true)
    else (logEvent s { code := 0x0544, kind := 8, index := a, a0 := a * 256 + i, a1 := row }, false)

/-- One word under the scrubber (R404, R406): a CE is written back and read again; a UE is poisoned, logged and noticed; a
word that was rewritten after a UE and reads so again is a hard error. Answers whether a row was sealed. -/
def scrubWord (s : State) (a i w : Nat) : State × Bool :=
  match s.tag a i w with
  | none => (s, false)
  | some t =>
    if t.poison then (s, false)
    else
      match eccOf a t with
      | (.clean, _) => ({ s with wasUe := tabSet false s.wasUe (memKey a i w) false }, false)
      | (.ce, _) =>
        if t.stuck then hardError s 2 a i w (syndromeOf a t)
        else (ceEvent (s.setTag a i w (some {})) 2 a i w (syndromeOf a t), false)
      | (.ue, _) =>
        let s := s.setTag a i w (some { t with poison := true })
        let s := ownerNotice (ueEvent s 2 a i w (syndromeOf a t)) a i w
        if tabGet false s.wasUe (memKey a i w) then hardError s 2 a i w (syndromeOf a t) else (s, false)

end Sys2Proof.Machine
end

