-- ==== Sys2Proof/Machine/Link.lean ====
section
/-!
DEFINITION. Sys2Proof/Machine/Link.lean: what several families share about a face: its lane maps (R12, R88, R89), relief
(R43), ports (R196, R202), slice corrections (R81), and the ending of rotations, BIST slices and calibration runs
(R84, R375, R388, R393).
-/
namespace Sys2Proof.Machine
open Sys2Proof

/-! ## The running plan -/

/-- Records of a type in the running plan (R49). -/
def State.planRecs (s : State) (ty : Nat) : List (List Nat) :=
  match s.plan with
  | some p => (p.recs.filter fun r => r.ty == ty).map PRec.data
  | none => []

/-- A little-endian field of a payload. -/
def recField (d : List Nat) (off n : Nat) : Nat := leNat ((d.drop off).take n)

/-- The FACE record of a face (R54). -/
def State.faceRec (s : State) (f : Nat) : List Nat :=
  ((s.planRecs 1).find? fun d => recField d 0 1 == f).getD []

/-- FACE.MODES, EFFORT_LIMIT, POSITIONS, RELIEF_POLICY, BIST_CYCLE and SHADOW_TIME (R54). -/
def faceModes (s : State) (f : Nat) : Nat := recField (s.faceRec f) 2 1
def faceEffortLimit (s : State) (f : Nat) : Nat := recField (s.faceRec f) 3 1
def facePositions (s : State) (f : Nat) : Nat := recField (s.faceRec f) 4 1
def faceRelief (s : State) (f : Nat) : Nat := recField (s.faceRec f) 5 1
def faceBistCycle (s : State) (f : Nat) : Nat :=
  let c := recField (s.faceRec f) 8 2
  if c = 0 then 15 else c
def faceShadowTime (s : State) (f : Nat) : Nat :=
  let c := recField (s.faceRec f) 10 2
  if c = 0 then 2000 else c

/-! ## Faces and lane maps -/

/-- Face `f` is in the running plan (R54, R56). -/
def facePresent (s : State) (f : Nat) : Bool := nbit (s.rd PRESENCE_FACES) f

/-- Optical state of a face: 1 SLEEP, 2 STANDBY, 3 SYNTH, 4 RECEIVE, 5 DUPLEX (R169). -/
def optState (s : State) (f : Nat) : Nat := s.rd (OPT_STATUS_STATE f)

/-- The receive datapath that serves a physical lane, 0xF none (R88). -/
def laneDp (s : State) (f p : Nat) : Nat :=
  if p < 8 then fieldGet (s.reg (LANE_MAP_RX f)) (4 * p) 4 else s.rd (LANE_MAP_AUX_P8_DP f)

/-- The transmit datapath that drives a physical lane, 0xF none (06, registers). -/
def txLaneDp (s : State) (f p : Nat) : Nat :=
  if p < 8 then fieldGet (s.reg (LANE_MAP_TX f)) (4 * p) 4 else s.rd (LANE_MAP_TX_AUX_P8_DP f)

def setLaneDp (s : State) (f p d : Nat) : State :=
  if p < 8 then s.wr ⟨LANE_MAP_RX f, 4 * p, 4⟩ d else s.wr (LANE_MAP_AUX_P8_DP f) d

def setTxLaneDp (s : State) (f p d : Nat) : State :=
  if p < 8 then s.wr ⟨LANE_MAP_TX f, 4 * p, 4⟩ d else s.wr (LANE_MAP_TX_AUX_P8_DP f) d

/-- The physical lane of service position `k`, 0xF when the position is not in POSITIONS (R88). -/
def posLane (s : State) (f k : Nat) : Nat := fieldGet (s.reg (POS_MAP f)) (4 * k) 4

def setPosLane (s : State) (f k p : Nat) : State := s.wr ⟨POS_MAP f, 4 * k, 4⟩ p

/-- The service position that a physical lane carries. -/
def posOf (s : State) (f p : Nat) : Option Nat := (List.range 8).find? fun k => posLane s f k == p

def laneSealed (s : State) (f p : Nat) : Bool := nbit (s.rd (RELIEF_STATE_LANE_SEALED f)) p

def dpSealed (s : State) (f d : Nat) : Bool := nbit (s.rd (RELIEF_STATE_DP_SEALED f)) d

def txSealed (s : State) (f d : Nat) : Bool := nbit (s.rd (LANE_MAP_TX_AUX_TX_SEALED f)) d

/-- A lane is in use: a service position names it, a rotation shadows it, or a sealing handshake serves it (R78). -/
def laneInUse (s : State) (f p : Nat) : Bool :=
  (posOf s f p).isSome || s.rd (LANE_MAP_AUX_SHADOW_LANE f) == p || (p == 8 && s.rd (SEAL_STATUS_HS_STATE f) != 0)

/-- A lane-map change: GEN counts it, and it is logged with the lane (R89). -/
def mapChanged (s : State) (f p : Nat) : State :=
  let s := s.incMod (LANE_MAP_AUX_GEN f)
  logEvent s { code := 0x1040, kind := 1, index := 9 * f + p, a0 := s.rd (LANE_MAP_AUX_GEN f) }

/-- Does the face hold a spare at every level (R43)? -/
def reliefOk (s : State) (f : Nat) : Bool :=
  s.rd (RELIEF_STATE_SLICE_RELIEF_USED f) == 0 && s.rd (RELIEF_STATE_RELIEF_DP f) != 15 &&
    s.rd (LANE_MAP_TX_AUX_TX_RELIEF f) != 15 && !laneSealed s f 8 && (posOf s f 8).isNone

/-- RELIEF_OK follows the spares; its fall is logged (R43). -/
def reliefEval (s : State) (f : Nat) : State :=
  let ok := reliefOk s f
  let t := s.wr (RELIEF_STATE_RELIEF_OK f) (bit ok)
  if s.on (RELIEF_STATE_RELIEF_OK f) && !ok then logEvent t { code := 0x1042, kind := 4, index := f } else t

def State.lane (s : State) (f p : Nat) : LaneX := tabGet {} s.lanes (9 * f + p)

def State.setLane (s : State) (f p : Nat) (x : LaneX) : State :=
  { s with lanes := tabSet {} s.lanes (9 * f + p) x }

def State.face (s : State) (f : Nat) : FaceX := tabGet {} s.faces f
def State.setFace (s : State) (f : Nat) (x : FaceX) : State := { s with faces := tabSet {} s.faces f x }

def State.txd (s : State) (f d : Nat) : TxdX := tabGet {} s.txds (9 * f + d)
def State.setTxd (s : State) (f d : Nat) (x : TxdX) : State := { s with txds := tabSet {} s.txds (9 * f + d) x }

def State.port (s : State) (n : Nat) : PortX := tabGet {} s.ports n
def State.setPort (s : State) (n : Nat) (x : PortX) : State := { s with ports := tabSet {} s.ports n x }

/-! ## Emission (R166) -/

/-- EMIT of every transmit datapath: in service on an emitting lane. -/
def emitShow (s : State) (f : Nat) : State :=
  (List.range 9).foldl (fun t d =>
    t.wr (TXD_STATUS_EMIT f d) (bit (t.rd (TXD_STATUS_ROLE f d) == 1 && nbit (t.face f).emit (t.rd (TXD_STATUS_LANE f d))))) s

def setEmit (s : State) (f mask : Nat) : State := emitShow (s.setFace f { s.face f with emit := mask }) f

/-! ## Ports (R55, R196, R197, R202) -/

/-- Line lanes of a port type (R55). -/
def portLines (t : Nat) : Nat := match t % 4 with | 2 => 2 | 3 => 4 | _ => 1
/-- Host lanes of a port type (R55). -/
def portHosts (t : Nat) : Nat := match t % 4 with | 0 => 1 | 1 => 2 | 2 => 4 | _ => 8
/-- Line mode of a port type (R55): 1 L400, 2 L400P, 3 L200, 4 L200P. -/
def portMode (t : Nat) : Nat := (if t % 4 = 0 then 3 else 1) + t / 4 % 2
/-- Is it a paired variant (R55)? -/
def portPaired (t : Nat) : Bool := nbit t 2

/-- The port that carries service position `k` of a face. -/
def portOf (s : State) (f k : Nat) : Option Nat :=
  (List.range 128).find? fun n => s.on (PORT_CFG_VALID n) && s.rd (PORT_CFG_FACE n) == f &&
    decide (s.rd (PORT_CFG_FIRST_K n) ≤ k) && decide (k < s.rd (PORT_CFG_FIRST_K n) + portLines (s.rd (PORT_CFG_TYPE n)))

/-- The port that a host lane belongs to. -/
def portOfHost (s : State) (h : Nat) : Option Nat :=
  (List.range 128).find? fun n => s.on (PORT_CFG_VALID n) &&
    decide (s.rd (PORT_CFG_FIRST_H n) ≤ h) && decide (h < s.rd (PORT_CFG_FIRST_H n) + portHosts (s.rd (PORT_CFG_TYPE n)))

/-- The port whose position a physical lane carries now. -/
def portOfLane (s : State) (f p : Nat) : Option Nat := (posOf s f p).bind (portOf s f)

/-- A port's service positions (R197). -/
def portPositions (s : State) (n : Nat) : List Nat :=
  (List.range (portLines (s.rd (PORT_CFG_TYPE n)))).map (s.rd (PORT_CFG_FIRST_K n) + ·)

/-- A port's host lanes (R197). -/
def portHostLanes (s : State) (n : Nat) : List Nat :=
  (List.range (portHosts (s.rd (PORT_CFG_TYPE n)))).map (s.rd (PORT_CFG_FIRST_H n) + ·)

/-- A pattern generator or checker runs on a host lane or on a line lane's datapaths (R206). -/
def patternOnHost (s : State) (h : Nat) : Bool := s.on (HL_PRBS_CTRL_GEN_EN h) || s.on (HL_PRBS_CTRL_CHK_EN h)

def patternOnLane (s : State) (f p : Nat) : Bool :=
  (laneDp s f p != 15 && s.on (RXD_PRBS_CTRL_CHK_EN f (laneDp s f p))) ||
    (txLaneDp s f p != 15 && s.on (TXD_PRBS_CTRL_GEN_EN f (txLaneDp s f p)))

/-- A test pattern runs on some lane of the port (R196, R209). -/
def patternOnPort (s : State) (n : Nat) : Bool :=
  (portHostLanes s n).any (patternOnHost s) ||
    (portPositions s n).any fun k => patternOnLane s (s.rd (PORT_CFG_FACE n)) (posLane s (s.rd (PORT_CFG_FACE n)) k)

/-- A pattern facility is enabled somewhere on the face (R209, R383). -/
def patternOnFace (s : State) (f : Nat) : Bool :=
  (List.range 9).any (patternOnLane s f) ||
    (List.range 128).any fun n => s.on (PORT_CFG_VALID n) && s.rd (PORT_CFG_FACE n) == f && (portHostLanes s n).any (patternOnHost s)

/-- The line side of a position is valid: OUT_VALID on the datapath that serves its lane, and in the paired variants its
seam training done (R196). -/
def posReady (s : State) (n k : Nat) : Bool :=
  let f := s.rd (PORT_CFG_FACE n)
  let p := posLane s f k
  p != 15 && laneDp s f p != 15 && s.on (RXD_STATUS_OUT_VALID f (laneDp s f p)) &&
    (!portPaired (s.rd (PORT_CFG_TYPE n)) || s.rd (SEAM_STATUS_STATE f k) == 4)

/-- A direction of a G0 port comes up: markers learned before count no more for its fill (R203). -/
def fillForget (s : State) (n : Nat) (host line : Bool) : State :=
  if s.rd (PORT_CFG_TYPE n) % 4 = 0 then
    let x := s.port n
    let x := if host && !s.on (PORT_STATUS_HOST_READY n) then { x with lineFill := { x.lineFill with marker := none } } else x
    let x := if line && !s.on (PORT_STATUS_LINE_READY n) then { x with hostFill := { x.hostFill with marker := none } } else x
    s.setPort n x
  else s

/-- Readiness of a port's sides, UP, fill and its events follow the state of its lanes (R196, R202); a change of UP is
logged with the port and FAIL. -/
def portEval (s : State) (n : Nat) : State :=
  if !s.on (PORT_CFG_VALID n) then s
  else
    let host := (portHostLanes s n).all fun h => s.rd (HL_STATUS_STAGE h) == 8
    let line := (portPositions s n).all (posReady s n)
    let admin := s.on (PORT_CTRL_ADMIN_UP n)
    let pat := patternOnPort s n
    let up := host && line && admin && !pat
    let was := s.on (PORT_STATUS_UP n)
    let s := (fillForget s n host line).wrs [(PORT_STATUS_HOST_READY n, bit host), (PORT_STATUS_LINE_READY n, bit line), (PORT_STATUS_UP n, bit up),
      (PORT_STATUS_HOST_FILL n, bit (!(line && admin) || pat)), (PORT_STATUS_LINE_FILL n, bit (!(host && admin) || pat))]
    if up == was then s
    else
      let s := if up then s.wr (PORT_EVENTS_UP n) 1 else s.wr (PORT_EVENTS_DOWN n) 1
      logEvent s { code := 0x1340, kind := 2, index := n, a0 := bit up, a1 := s.rd (PORT_STATUS_FAIL n) }

/-- Every port of a face again. -/
def portsOfFace (s : State) (f : Nat) : List Nat :=
  (List.range 128).filter fun n => s.on (PORT_CFG_VALID n) && s.rd (PORT_CFG_FACE n) == f

def portsEval (s : State) (ns : List Nat) : State := ns.foldl portEval s

/-- The locked mode is not the line mode of the lane's port (R97). -/
def modeMismatch (s : State) (f p mode : Nat) : Bool :=
  match portOfLane s f p with
  | some n => portMode (s.rd (PORT_CFG_TYPE n)) != mode
  | none => false

/-- OUT_VALID of the datapaths of a lane: LOCKED, no mismatch, ROLE 1, and no checker (R97, R208; 03, registers). -/
def outValid (s : State) (f d : Nat) : Bool :=
  let p := s.rd (RXD_STATUS_LANE f d)
  decide (p < 9) && s.on (LANE_ACQ_STATUS_LOCKED f p) && !s.on (LANE_ACQ_STATUS_MODE_MISMATCH f p) &&
    s.rd (RXD_STATUS_ROLE f d) == 1 && !s.on (RXD_PRBS_CTRL_CHK_EN f d)

/-- OUT_VALID of every datapath of the face, and then its ports. -/
def laneOutEval (s : State) (f p : Nat) : State :=
  let s := (List.range 9).foldl (fun t d => t.wr (RXD_STATUS_OUT_VALID f d) (bit (outValid t f d))) s
  match portOfLane s f p with
  | some n => portEval s n
  | none => s

/-! ## Face temperature and slice corrections (R10, R81) -/

/-- A sensor's VALUE, 1/8 degree (R353). -/
def sensorVal (s : State) (n : Nat) : Int := sext 16 (s.rd (TS_VALUE n))

/-- Face temperature in 1/16 degree (R10, R358): the mean of the two sensors, the other one when one has failed, the higher
substitute when both have. A sensor that has made no conversion yet enters with the VALUE that it shows, 0x8000 (DESIGN CHOICE: the spec
says nothing of that moment; notes/assumptions/61.md). -/
def faceTemp16 (s : State) (f : Nat) : Int :=
  let a := sensorVal s (2 * f)
  let b := sensorVal s (2 * f + 1)
  match s.on (TS_FAILED (2 * f)), s.on (TS_FAILED (2 * f + 1)) with
  | false, false => a + b
  | true, false => 2 * b
  | false, true => 2 * a
  | true, true => 2 * max a b

/-- The temperature at which set `i` is held, 1/16 degree (R81). -/
def setTemp16 (i : Nat) : Int := ([560, 880, 1200, 1520, 1760] : List Int).getD i 1760

/-- Rate class of a line mode (R371): 0 for L400 and L400P, 1 for L200 and L200P. -/
def rateClass (mode : Nat) : Nat := if mode ≤ 2 then 0 else 1

/-- Set `i` of a lane is valid for a mode (R371). -/
def setValid (s : State) (q i mode : Nat) : Bool :=
  mode != 0 && s.on (SET_HDR_VALID q i) && s.rd (SET_HDR_RATE_CLASS q i) == rateClass mode

/-- A slice's values as words of the layouts SLICE_CORR_A and SLICE_CORR_B (R79). -/
def sliceWordA (v : SliceVal) : Nat := twos 16 v.gain * 2 ^ 16 + twos 16 v.offset
def sliceWordB (v : SliceVal) : Nat := twos 16 v.bw * 2 ^ 16 + twos 16 v.skew

def sliceOfWords (a b : Nat) : SliceVal :=
  { offset := sext 16 a, gain := sext 16 (a / 2 ^ 16), skew := sext 16 b, bw := sext 16 (b / 2 ^ 16) }

/-- Word of array 0x09 that holds slice `sl` of set `i` of lane `q` (R379). -/
def setWord (q i sl : Nat) : Nat := q * 0x280 + i * 0x80 + sl

/-- What a set holds for a slice (R379). -/
def setSlice (s : State) (q i sl : Nat) : SliceVal :=
  match s.tag 9 0 (setWord q i sl) with
  | none => {}
  | some _ => let w := memRaw s 9 0 (setWord q i sl); sliceOfWords (w % 2 ^ 32) (w / 2 ^ 32)

/-- The sets in use at a temperature: the nearest valid ones below and above, one alone beyond the ends (R81). -/
def setsInUse (s : State) (q mode : Nat) (t16 : Int) : Option (Nat × Nat) :=
  let ok := (List.range 5).filter fun i => setValid s q i mode
  match ok.head?, ok.getLast? with
  | some lo, some hi =>
    if t16 ≤ setTemp16 lo then some (lo, lo)
    else if setTemp16 hi ≤ t16 then some (hi, hi)
    else
      let below := (ok.filter fun i => decide (setTemp16 i ≤ t16)).getLastD lo
      let above := (ok.filter fun i => decide (t16 < setTemp16 i)).headD hi
      some (below, above)
  | _, _ => none

/-- Interpolation of one value (R81), rounded convergently to the field unit (notes/assumptions/11.md). -/
def interp (t lo hi vlo vhi : Int) : Int :=
  if hi = lo then vlo else roundDiv (vlo * (hi - lo) + (vhi - vlo) * (t - lo)) (hi - lo).toNat

/-- The applied values of a slice (R81). -/
def sliceApplied (s : State) (q : Nat) (use : Nat × Nat) (t16 : Int) (sl : Nat) : SliceVal :=
  let a := setSlice s q use.1 sl
  let b := setSlice s q use.2 sl
  let g := interp t16 (setTemp16 use.1) (setTemp16 use.2)
  { offset := g a.offset b.offset, gain := g a.gain b.gain, skew := g a.skew b.skew, bw := g a.bw b.bw }

/-- Is `a` the address of a slice correction of datapath `d`? -/
def isSliceCorr (f d a : Nat) : Bool := decide (rxdAt f d + 0x100 ≤ a) && decide (a < rxdAt f d + 0x100 + 65 * 16)

/-- The values of R81 for a mode at the present temperature become the lane's values in use (R80): identity where no set is valid. -/
def laneCorr (s : State) (f p mode : Nat) : State :=
  let q := 9 * f + p
  let t16 := faceTemp16 s f
  let use := setsInUse s q mode t16
  let vals := match use with
    | some u => (List.range 65).foldl (fun t sl => tabSet {} t sl (sliceApplied s q u t16 sl)) []
    | none => []
  s.setLane f p { s.lane f p with corr := vals, corrT := t16, corrUse := use }

/-- A datapath takes the values in use on a lane, all slices at once (R80, R81); slices that hold accepted values of a run in progress
keep them (R373 step 4). CORR_TEMP shows T in 1/8 degree, rounded convergently (notes/assumptions/11.md). -/
def corrShow (s : State) (f d p : Nat) : State :=
  let x := s.lane f p
  let put := fun (t : State) (e : Nat × SliceVal) =>
    t.wrs [(SLICE_CORR_A_GAIN f d e.1, twos 16 e.2.gain), (SLICE_CORR_A_OFFSET f d e.1, twos 16 e.2.offset),
      (SLICE_CORR_B_BW f d e.1, twos 16 e.2.bw), (SLICE_CORR_B_SKEW f d e.1, twos 16 e.2.skew)]
  let s := (s.dropRegs (isSliceCorr f d)).wrs [(RXD_STATUS_CORR_LOADED f d, bit x.corrUse.isSome),
    (RXD_STATUS_CORR_TEMP f d, twos 12 (roundDiv x.corrT 2)), (RXD_STATUS_SET_LO f d, (x.corrUse.getD (7, 7)).1),
    (RXD_STATUS_SET_HI f d, (x.corrUse.getD (7, 7)).2)]
  ((x.corr ++ x.accepted).filter fun e => decide (e.1 ≤ 64)).foldl put s

/-- Computes a lane's values for a datapath's mode and loads them (R80, R81). -/
def corrLoad (s : State) (f d p : Nat) : State := corrShow (laneCorr s f p (s.rd (RXD_STATUS_MODE f d))) f d p

/-- The datapaths that take a lane's samples: the one that serves it and the one that shadows it. -/
def laneDps (s : State) (f p : Nat) : List Nat :=
  (List.range 9).filter fun d => s.rd (RXD_STATUS_LANE f d) == p &&
    (s.rd (RXD_STATUS_ROLE f d) == 1 || s.rd (RXD_STATUS_ROLE f d) == 2)

/-- The mode of the datapath that serves a lane, 0 where none does. -/
def laneDpMode (s : State) (f p : Nat) : Nat := if laneDp s f p = 15 then 0 else s.rd (RXD_STATUS_MODE f (laneDp s f p))

/-- Every datapath of a lane takes the lane's values in use at one edge (R80, R81). -/
def corrRestore (s : State) (f p : Nat) : State := (laneDps s f p).foldl (fun t d => corrShow t f d p) s

/-- R81 for a lane: every datapath of the lane takes newly interpolated corrections at one edge. -/
def corrRecompute (s : State) (f p : Nat) : State := corrRestore (laneCorr s f p (laneDpMode s f p)) f p

/-! ## Effort levels (R96, R129) -/

/-- The detector that a level uses on every datapath of the lane: the MLSE at E0 and E1 (R125, R129). -/
def detectorFor (s : State) (f p lvl : Nat) : State :=
  (laneDps s f p).foldl (fun t d => t.wr (DET_CTRL_MLSE_ON f d) (bit (decide (lvl < 2)))) s

/-- A receive datapath serves a lane from now on, with the lane's corrections and the detector of its level (R80, R125). -/
def rxServe (s : State) (f p d : Nat) : State :=
  let s := corrShow (s.wrs [(RXD_STATUS_LANE f d, p), (RXD_STATUS_ROLE f d, 1)]) f d p
  detectorFor s f p (s.rd (LANE_EFFORT_CURRENT f p))

/-- MARGIN_NEXT shows none at E3 and at CAP (R131). -/
def marginNextEval (s : State) (f p : Nat) : State :=
  let lvl := s.rd (LANE_EFFORT_CURRENT f p)
  if lvl = 3 ∨ s.rd (LANE_EFFORT_CAP f p) ≤ lvl then (laneDps s f p).foldl (fun t d => t.wr (QUAL_MARGIN_MARGIN_NEXT f d) 0x8000) s else s

/-- An effort change applies to a lane (R129 step 3). -/
def effortApply (s : State) (f p lvl : Nat) : State :=
  let s := (s.wr (LANE_EFFORT_CURRENT f p) lvl).incMod (LANE_EFFORT_CHANGES f p)
  pcCount (marginNextEval (detectorFor s f p lvl) f p) f 2 p 1

/-- Outside LOCKED the lane runs at E0 (R96); the return to E0 is an effort change (notes/assumptions/12.md). -/
def effortE0 (s : State) (f p : Nat) : State :=
  if s.rd (LANE_EFFORT_CURRENT f p) = 0 then detectorFor s f p 0 else effortApply s f p 0

/-- A level is requested (R129 step 1): a newer request replaces a pending one, one for the present level leaves none. -/
def effortRequest (s : State) (f p lvl : Nat) : State :=
  if s.rd (LANE_EFFORT_CURRENT f p) = lvl then s.wrs [(LANE_EFFORT_PEND f p, 0), (LANE_EFFORT_PENDING f p, 0)]
  else s.wrs [(LANE_EFFORT_PEND f p, 1), (LANE_EFFORT_PENDING f p, lvl)]

/-! ## Seam training state (R218) -/

def State.seam (s : State) (f p : Nat) : SeamX := tabGet {} s.seams (9 * f + p)

def State.setSeam (s : State) (f p : Nat) (x : SeamX) : State :=
  { s with seams := tabSet {} s.seams (9 * f + p) x }

/-- Sets the training state of a lane, shown in the block of the position that it carries. -/
def seamState (s : State) (f p st : Nat) : State :=
  let s := s.setSeam f p { s.seam f p with state := st }
  match posOf s f p with
  | some k => s.wr (SEAM_STATUS_STATE f k) st
  | none => s

/-- Episodes and replays of a port end (R234). -/
def episodesEnd (s : State) (n : Nat) : State :=
  let f := s.rd (PORT_CFG_FACE n)
  let s : State := { s with episodes := tabSet none s.episodes n none }
  (portPositions s n).foldl (fun t k =>
    t.wrs [(REPLAY_STATUS_RQ_OUT f k, 0), (REPLAY_STATUS_REPLAYING f k, 0), (REPLAY_STATUS_ATTEMPT f k, 0), (REPLAY_STATUS_BACKLOG f k, 0)]) s

/-- A lane that leaves LOCKED returns to STATE 0: no version is in use, and the port's episodes end; its count of frames sent stays
(R216, R218, R234; notes/assumptions/13.md). -/
def seamOff (s : State) (f p : Nat) : State :=
  let x := s.seam f p
  if { x with stamp := 0 } = {} then s
  else
    let s := s.setSeam f p { stamp := x.stamp }
    match posOf s f p with
    | some k =>
      let s := s.wrs [(SEAM_STATUS_STATE f k, 0), (SEAM_STATUS_SF f k, 0), (SEAM_STATUS_RETRY_ON f k, 0),
        (SEAM_STATUS_RETRY_CAP f k, 0), (SEAM_STATUS_LEADER f k, 0)]
      match portOf s f k with
      | some n => episodesEnd s n
      | none => s
    | none => s

/-- Training starts with its frame search, when the lane is LOCKED in a paired mode without a mismatch (R218 step 1). -/
def seamStart (s : State) (f p : Nat) : State :=
  let s := seamOff s f p
  let m := s.rd (LANE_ACQ_STATUS_MODE f p)
  if s.on (LANE_ACQ_STATUS_LOCKED f p) && !s.on (LANE_ACQ_STATUS_MODE_MISMATCH f p) && (m == 2 || m == 4) then
    let s := match posOf s f p with
      | some k => s.wrs [(SEAM_STATUS_RTT_PAIRS f k, 0xFF), (SEAM_STATUS_FAIL_REASON f k, 0)]
      | none => s
    seamState s f p 1
  else s

/-! ## Datapath power and reset -/

/-- Is `a` in the register range of a receive datapath? -/
def inRxd (f d a : Nat) : Bool := decide (rxdAt f d ≤ a) && decide (a < rxdAt f d + 0x8000)
def inTxd (f d a : Nat) : Bool := decide (txdAt f d ≤ a) && decide (a < txdAt f d + 0x4000)

/-- Clears the valid bits of a receive datapath's words in array 0x05 (R399). -/
def rxdClearMem (s : State) (f d : Nat) : State := memClear s fun a i w => a == 5 && i == f && w / 1024 == d
/-- Clears the valid bits of a transmit datapath's words in array 0x06 (R399). -/
def txdClearMem (s : State) (f d : Nat) : State := memClear s fun a i w => a == 6 && i == f && w / 256 == d

/-- A receive datapath's registers at their field tables, with lane and role given (R442, R447). -/
def rxdRegsReset (s : State) (f d lane role : Nat) : State :=
  ((s.dropRegs (inRxd f d)).setRxd f d {}).wrs [(RXD_STATUS_LANE f d, lane), (RXD_STATUS_ROLE f d, role)]

/-- A receive datapath's domain turns off (R36): its arrays lose their valid bits (R399), its registers their contents. -/
def rxdOff (s : State) (f d role : Nat) : State := rxdClearMem (rxdRegsReset s f d 15 role) f d

/-! ## Rotations, BIST slices and calibration runs that end early -/

/-- The face's Assay block at rest: PHASE IDLE, no datapath, no lane (15, registers). -/
def assayIdle (s : State) (f : Nat) : State :=
  s.wrs [(AS_FACE_STATUS_PHASE f, 0), (AS_FACE_STATUS_DP f, 15), (AS_FACE_STATUS_LANE f, 15), (AS_FACE_STATUS_SLICE f, 0),
    (AS_FACE_STATUS_RETEST f, 0), (AS_FACE_STATUS_MATCHED f, 0)]

/-- The running item of a face waits for RETRY_S (R389, R393). -/
def assayHold (s : State) (f cause : Nat) : State :=
  { s with assayQ := s.assayQ.map fun x =>
      if x.f == f && x.running then
        { x with running := false, held := true, matchFails := if cause = 10 then x.matchFails + 1 else x.matchFails }
      else x }

/-- An abandoned rotation (R388): the relief's feed stops, its domain turns off, its ROLE is 0, cause and winning class are
recorded and logged; the item waits (R389). -/
def rotationAbandon (s : State) (f cause cls : Nat) : State :=
  let ph := s.rd (AS_FACE_STATUS_PHASE f)
  if ph = 0 ∨ ph = 5 then s
  else
    let r := s.rd (AS_FACE_STATUS_DP f)
    let s := if s.rd (AS_FACE_STATUS_DIR f) = 0 then
        (rxdOff s f r 0).wr (LANE_MAP_AUX_SHADOW_LANE f) 15
      else s.wrs [(LANE_MAP_TX_AUX_PARALLEL_LANE f, 15), (TXD_STATUS_ROLE f r, 0), (TXD_STATUS_LANE f r, 15)]
    let s := assayHold (assayIdle s f) f cause
    let s := (s.wrs [(AS_FACE_LAST_CAUSE f, cause), (AS_FACE_LAST_CLASS f, cls)]).incSat (AS_FACE_COUNTS_ABANDONS f)
    logEvent s { code := 0x0441, kind := 4, index := f, a0 := cause, a1 := cls }

/-- Re-initialisation after a BIST slice, and the datapath's release (R391 steps 4 and 5): the saved contents return, so
only the datapath's status is cleared; a datapath tested in place serves its lane again, and a relief receive datapath's domain
turns off. -/
def bistRelease (s : State) (f : Nat) : State :=
  let d := s.rd (AS_FACE_STATUS_DP f)
  let s := if s.rd (AS_FACE_STATUS_DIR f) = 0 then
      match (List.range 9).find? fun p => laneDp s f p == d with
      | some p => rxdRegsReset s f d p 1
      | none => rxdOff s f d 0
    else
      let s := s.wrs [(TXD_STATUS_APPLY_COUNT f d, 0), (TXD_STATUS_SAT_COUNT f d, 0)]
      emitShow (s.wr (TXD_STATUS_ROLE f d) (bit ((List.range 9).any fun p => txLaneDp s f p == d))) f
  assayIdle s f

/-- A lower-class action of a face is abandoned: one event with the class of the winning action (R30). -/
def abandonEvent (s : State) (f cls : Nat) : State := logEvent s { code := 0x0147, kind := 4, index := f, a0 := cls }

/-- An abandoning cause during a BIST slice ends it (R393): neither pass nor failure, and it is queued again; it is recorded and logged
with the winning class (R30, R388). -/
def bistAbandon (s : State) (f cause cls : Nat) : State :=
  if s.rd (AS_FACE_STATUS_PHASE f) = 5 then
    let s := assayHold (bistRelease s f) f cause
    abandonEvent (s.wrs [(AS_FACE_LAST_CAUSE f, cause), (AS_FACE_LAST_CLASS f, cls)]) f cls
  else s

/-- A cause of R388 that applies to the whole face. -/
def assayAbandon (s : State) (f cause cls : Nat) : State := bistAbandon (rotationAbandon s f cause cls) f cause cls

/-- H16's notice to the face Hewer: source 6, and the lane in HW_MBOX_IN (R283). -/
def corrNotice (s : State) (f p : Nat) : State := raiseIrq (s.wr (HW_MBOX_IN_LANE f) p) f 6

/-- A stand-in ends at once (R84): the original slice has its phase back with the values that it held before the trim. -/
def standInEnd (s : State) (f p : Nat) : State :=
  let x := s.lane f p
  if s.on (LANE_SLICE_STAND_IN f p) || x.handover.isSome || x.accepted != [] then
    let s := s.setLane f p { x with handover := none, accepted := [] }
    let s := if s.on (LANE_SLICE_STAND_IN f p) then s.wr (LANE_SLICE_STAND_IN f p) 0 else s
    corrRestore s f p
  else s

/-- A lane has an item, queued or running (R370). -/
def calBusy (s : State) (f p : Nat) : Bool := s.calQ.any fun (x : CalItem) => x.f == f && x.p == p

/-- Queues an item; CALIBRATE items go ahead of scheduled ones (R370). -/
def calPut (s : State) (x : CalItem) : State :=
  let ahead := fun (y : CalItem) => x.op == 0 || y.op != 0 || y.running
  { s with calQ := s.calQ.takeWhile ahead ++ x :: s.calQ.dropWhile ahead }

/-- Queues a lane's item and shows it (R370; 14, registers). -/
def calQueue (s : State) (f p kind op : Nat) : State :=
  if calBusy s f p then s
  else (calPut s { f := f, p := p, kind := kind, op := op }).wrs [(CAL_STATUS_STATE f p, 1), (CAL_STATUS_KIND f p, kind)]

/-- No set is valid for the lane's mode (R371). -/
def noValidSet (s : State) (f p : Nat) : Bool :=
  (List.range 5).all fun i => !setValid s (9 * f + p) i (s.rd (LANE_ACQ_STATUS_MODE f p))

/-- H16 runs, so Survey does (R284). -/
def hewerRuns (s : State) (n : Nat) : Bool := s.rd (HW_STATUS_STATE n) == 1 || s.rd (HW_STATUS_STATE n) == 2

/-- A lane that enters LOCKED with no valid set is queued for a bootstrap run (R371). -/
def calBootstrap (s : State) (f p : Nat) : State :=
  if s.on SURVEY_CTRL_AUTO && hewerRuns s 16 && noValidSet s f p && decide ((s.lane f p).calRest ≤ s.mono) && !(s.lane f p).calHold then
    calQueue s f p 1 0
  else s

/-- A calibration run that ends without a commit (R375, R381): the set is unchanged, slices return to the values of R81, and
the item waits in the queue again. -/
def calRunEnd (s : State) (f p result : Nat) : State :=
  let s := standInEnd s f p
  if s.calQ.any (fun (x : CalItem) => x.f == f && x.p == p && x.running) then
    let upd := fun (x : CalItem) =>
      if x.f == f && x.p == p && x.running then
        ({ f := x.f, p := x.p, kind := x.kind, op := x.op } : CalItem)
      else x
    let s : State := { s with calQ := s.calQ.map upd }
    let s := s.wrs [(CAL_STATUS_STATE f p, 1), (CAL_STATUS_RESULT f p, result), (CAL_STATUS_SLICE f p, 0)]
    s.wr SURVEY_STATUS_ACTIVE (s.rd SURVEY_STATUS_ACTIVE - 1)
  else s

/-- A calibration run gives way to an action of a higher class, which its event names (R30). -/
def calAbandon (s : State) (f p cls : Nat) : State :=
  let t := calRunEnd s f p 3
  if s.calQ.any (fun (x : CalItem) => x.f == f && x.p == p && x.running) then abandonEvent t f cls else t

end Sys2Proof.Machine
end

