-- ==== Sys2Proof/Machine/Tap.lean ====
section
/-!
DEFINITION. Sys2Proof/Machine/Tap.lean: the chain of a spectral tap (R236-R240): NCO, halfband decimators, FIR, scaling and width. The
figures that the rules leave open stand in Config (notes/assumptions/68.md).
-/
namespace Sys2Proof.Machine
open Sys2Proof

/-- The NCO (R236): input sample `x` times exp(−j·2π·phase ÷ 2^32); FREQ turns the phase once a sample. -/
def ncoMix (freq n : Nat) (x : Int) : Cx :=
  let w := Config.ncoWave (n * freq % 2 ^ 32)
  { re := x * w.1, im := x * w.2 }

/-- Output of a filter with coefficients `h`, over its last samples, newest first. -/
def firSum (h : Nat → Int) (xs : List Cx) : Cx :=
  xs.zipIdx.foldl (fun a e => { re := a.re + h e.2 * e.1.re, im := a.im + h e.2 * e.1.im }) {}

/-- Sample `n` (from 1) at the first of some halfband stages (R237): each stage has 23 symmetric taps and hands on every second sample. -/
def halfRun : List (List Cx) → Nat → Cx → List (List Cx) × Option Cx
  | [], _, x => ([], some x)
  | h :: r, n, x =>
    let h := (x :: h).take 23
    if n % 2 = 0 then
      let (r, y) := halfRun r (n / 2) (firSum (fun i => Config.halfband (min i (22 - i))) h)
      (h :: r, y)
    else (h :: r, none)

/-- Coefficient h_i of the FIR in a bank: 127 symmetric taps, h63 in the centre, in units of 2^-14 (R240). -/
def tapCoef (s : State) (f b i : Nat) : Int := sext 16 (s.rd (TAP_COEF_H f b (min i (126 - i))))

/-- An exact value `v` in units of 2^-`bits` as an output half (R238): rounded once, saturated to 16 bits, and at WIDTH 1 its upper 8
bits, rounded convergently. The number counts a saturation. -/
def tapHalf (v : Int) (bits shift : Nat) (narrow : Bool) : Nat × Nat :=
  let y := roundDiv (v * 2 ^ shift) (2 ^ bits)
  let z := clampI (-32768) 32767 y
  if narrow then
    let q := roundDiv z 256
    (twos 8 (clampI (-128) 127 q), bit (z != y || decide (127 < q)))
  else (twos 16 z, bit (z != y))

/-- Samples of a tap block (R241). -/
def tapBlockLen (narrow : Bool) : Nat := if narrow then 2048 else 1024

/-- Datapath that steers lane `p`'s converter, 15 when none does (R120). -/
def steerDp (s : State) (f p : Nat) : Nat :=
  (findIdx? (fun d => s.rd (RXD_STATUS_LANE f d) == p && s.on (TR_STATUS_STEER f d)) 9).getD 15

/-- GDELAY = 74·2^K − 11 (R237). -/
def tapGdelay (k : Nat) : Nat := 74 * 2 ^ k - 11

/-- The FIR's output sample, by the active bank, joins the block under way (R237-R241). -/
def tapOut (s : State) (f : Nat) (x : TapX) : TapX :=
  let bank := s.rd (TAP_CTRL_ACTIVE f)
  let y := firSum (tapCoef s f bank) x.fir
  let bits := Config.ncoBits + x.k * Config.halfbandBits + 14
  let (re, a) := tapHalf y.re bits x.shift x.narrow
  let (im, b) := tapHalf y.im bits x.shift x.narrow
  let x := if x.out = [] then { x with bank := bank, freqOff := s.rd (TR_STATUS_FREQ f (steerDp s f x.lane)) } else x
  { x with out := x.out ++ [re + im * 2 ^ (if x.narrow then 8 else 16)], sats := x.sats + a + b }

/-- One input sample through the chain (R236-R239): the first GDELAY + 63·2^K symbol periods give no output. -/
def tapStep (s : State) (f : Nat) (x : TapX) (v : BitVec 16) : TapX :=
  let n := x.fed + 1
  let halves := if x.halves = [] then List.replicate x.k [] else x.halves
  let (halves, o) := halfRun halves n (ncoMix x.freq x.fed v.toInt)
  let x := { x with fed := n, halves := halves }
  match o with
  | none => x
  | some y =>
    let x := { x with fir := (y :: x.fir).take 127 }
    if tapGdelay x.k + 63 * 2 ^ x.k < n then tapOut s f x else x

/-- Is the block under way complete (R241)? -/
def tapDone (x : TapX) : Bool := decide (tapBlockLen x.narrow ≤ x.out.length)

/-- Input samples up to the end of the block under way. -/
def tapFeed (s : State) (f : Nat) : TapX → List (BitVec 16) → TapX
  | x, [] => x
  | x, v :: vs => if tapDone x then x else tapFeed s f (tapStep s f x v) vs

/-- Payload words of samples that fill `w` bits each, the first in the low bits (R241). -/
def tapPack (w : Nat) : List Nat → List Word
  | [] => []
  | a :: r =>
    if w = 32 then BitVec.ofNat 32 a :: tapPack w r
    else match r with
      | [] => [BitVec.ofNat 32 a]
      | b :: r => BitVec.ofNat 32 (a + b * 2 ^ 16) :: tapPack w r

end Sys2Proof.Machine
end

