-- ==== Sys2Proof/Machine/Capture.lean ====
section
/-!
DEFINITION. Sys2Proof/Machine/Capture.lean: spectral taps, capture channels, the capture archive and streams (09).
-/
namespace Sys2Proof.Machine
open Sys2Proof

def State.cap (s : State) (c : Nat) : ObsRec := tabGet {} s.caps c
def State.setCap (s : State) (c : Nat) (x : ObsRec) : State := { s with caps := tabSet {} s.caps c x }
def State.stream (s : State) (i : Nat) : StreamX := tabGet {} s.streams i
def State.setStream (s : State) (i : Nat) (x : StreamX) : State := { s with streams := tabSet {} s.streams i x }

/-- Symbol rate of a mode, GBd times 21 (R29, R210); a lane with no mode samples at the 200 GSa/s of SEARCH (R91). -/
def symRate21 (mode : Nat) : Nat := match mode with | 1 => 4760 | 2 => 4800 | 3 => 2380 | 4 => 2400 | _ => 4200

/-! ## Taps -/

/-- OBSERVE record of a face (R254). -/
def State.obsRec (s : State) (f : Nat) : Option (List Nat) := (s.planRecs 0xA).find? fun d => recField d 0 1 == f

/-- The tap of a face exists (R56, R235). -/
def tapExists (s : State) (f : Nat) : Bool :=
  match s.obsRec f with
  | some d => nbit (recField d 1 1) 0
  | none => false

/-- A chain that starts, with the settings that the registers hold (R239). -/
def tapFresh (s : State) (f : Nat) : TapX :=
  { src := s.rd (TAP_CFG_SRC f), lane := s.rd (TAP_CFG_LANE f), k := s.rd (TAP_CFG_K f), narrow := s.on (TAP_CFG_WIDTH f),
    shift := s.rd (TAP_CFG_SHIFT f), freq := s.rd (TAP_NCO_FREQ f) }

/-- The tap with the settings in force: those of its registers unless it runs (R239). -/
def tapNow (s : State) (f : Nat) : TapX := if s.rd (TAP_STATUS_STATE f) = 1 then (s.face f).tap else tapFresh s f

/-- The tap's source gives samples (R244): the lane's ADC runs, and for SRC 2 a datapath serves the lane. -/
def tapInput (s : State) (f : Nat) : Bool :=
  let x := tapNow s f
  s.rd (LANE_ACQ_STATUS_STATE f x.lane) != 0 && (x.src != 2 || laneDp s f x.lane != 15)

/-- Is stream `i` open on the tap of face `f`? -/
def liveOn (s : State) (i f : Nat) : Bool :=
  s.on (STREAM_STATUS_OPEN i) && s.rd (STREAM_STATUS_SRC i) == 1 && s.rd (STREAM_STATUS_INDEX i) == f

/-- The bank swap takes effect (R240): the other bank is active from output sample `at_` of the block on. -/
def tapSwapNow (s : State) (f at_ : Nat) : State :=
  (s.wrs [(TAP_CTRL_ACTIVE f, 1 - s.rd (TAP_CTRL_ACTIVE f)), (TAP_CTRL_SWAP f, 0), (TAP_STATUS_SWAP_PEND f, 0)]).setFace f
    { s.face f with tapSwapAt := some at_ }

/-- The chain restarts (R239): the filter state is cleared, GEN counts, the next block carries RESTART; a swap asked for takes effect from
the first output sample (R256). -/
def tapRestartNow (s : State) (f : Nat) : State :=
  let s := ((s.incMod (TAP_STATUS_GEN f)).wrs [(TAP_STATUS_SAT_COUNT f, 0), (TAP_CTRL_RESTART f, 0)]).setFace f
    { s.face f with tapRestart := false, tapRestarted := true, tap := tapFresh s f, tapSwapAt := none }
  if s.on (TAP_STATUS_SWAP_PEND f) then tapSwapNow s f 0 else s

/-- The live streams of a tap carry GAP on their next block (R255). -/
def tapGap (s : State) (f : Nat) : State :=
  (List.range 32).foldl (fun t i => if liveOn t i f then t.setStream i { t.stream i with gap := true } else t) s

/-- TAP_STATUS.STATE as RUN, shedding and input give it (R244, R255); a tap that comes back from NO_INPUT or SHED restarts, and one that
stops drops the block under way. -/
def tapEval (s : State) (f : Nat) : State :=
  if !tapExists s f then s
  else
    let old := s.rd (TAP_STATUS_STATE f)
    let new := if !s.on (TAP_CTRL_RUN f) then 0 else if (s.face f).obsShed then 3 else if tapInput s f then 1 else 2
    let s := s.wr (TAP_STATUS_STATE f) new
    if new = old then s
    else if new = 1 ∧ old ≠ 0 then tapGap (tapRestartNow s f) f
    else s.setFace f { s.face f with tap := tapFresh s f, tapSwapAt := none, tapRestart := false }

/-- A restart is asked for (R239): by RESTART or by a write to TAP_CFG or TAP_NCO while the tap runs. -/
def tapRestartEff (s : State) (f : Nat) : State :=
  if s.rd (TAP_STATUS_STATE f) = 1 then
    (s.wr (TAP_CTRL_RESTART f) 1).setFace f { s.face f with tapRestart := true }
  else s

/-- A new TAP_CFG (R235-R239): values out of range are discarded with RANGE. -/
def tapCfgEff (s : State) (f v : Nat) : State × Nat :=
  if 2 < v / 2 ^ 28 ∨ 8 < v / 2 ^ 24 % 16 ∨ v / 2 ^ 19 % 32 = 0 ∨ 16 < v / 2 ^ 19 % 32 then (s, stRange)
  else
    let s := (s.setReg (TAP_CFG f) (BitVec.ofNat 32 (v / 2 ^ 15 * 2 ^ 15))).wr (TAP_GDELAY_GDELAY f) (tapGdelay (v / 2 ^ 19 % 32))
    (tapEval (tapRestartEff s f) f, stOk)

/-- RUN (R235). -/
def tapRunEff (s : State) (f : Nat) (run : Bool) : State := tapEval (s.wr (TAP_CTRL_RUN f) (bit run)) f

/-- A swap request (R240). -/
def tapSwapEff (s : State) (f : Nat) : State := s.wrs [(TAP_CTRL_SWAP f, 1), (TAP_STATUS_SWAP_PEND f, 1)]

/-- A coefficient write (R240): BUSY at the active bank, and at both banks while a swap is pending. -/
def tapCoefEff (s : State) (f b i v : Nat) : State × Nat :=
  if s.on (TAP_STATUS_SWAP_PEND f) || s.rd (TAP_CTRL_ACTIVE f) == b then (s, stBusy)
  else (s.wr (TAP_COEF_H f b i) v, stOk)

/-- What a tap block's header takes from the settings in force (R241). -/
def tapMeta (s : State) (f : Nat) : ObsMeta :=
  let x := tapNow s f
  { kind := 1, face := f, q := 9 * f + x.lane, mode := s.rd (LANE_ACQ_STATUS_MODE f x.lane), k := x.k, nco := x.freq, bank := x.bank,
    format := if x.narrow then 3 else 4, gdelay := tapGdelay x.k, gen := s.rd (TAP_STATUS_GEN f) }

/-- An observation block to send (R241): what its header takes from settings, how far its stamp lies behind device time and the 2^-16 ns
of it, FREQ_OFF, TRUNC, SAT, RESTART and PATH, the samples of SWAP_AT and TRIG_IDX, the number of samples and the payload. -/
structure ObsBlock where
  info : ObsMeta
  age : Nat
  frac : Nat
  freqOff : Nat
  trunc : Bool := false
  sat : Bool
  restart : Bool := false
  path : Bool
  swapAt : Option Nat := none
  trig : Option Nat := none
  samples : Nat
  payload : List Word
  deriving DecidableEq, Repr

/-- Flags of a block (R241). -/
def obsFlags (b : ObsBlock) (gap : Bool) : Nat :=
  bit gap + 2 * bit b.trunc + 4 * bit b.sat + 8 * bit b.swapAt.isSome + 16 * bit b.trig.isSome + 32 * bit b.restart + 64 * bit b.path

/-- The words of a stream's message: stream index, header with the stamp in device time, payload (R241, R242, R296). -/
def obsWords (i : Nat) (b : ObsBlock) (seq time : Nat) (gap : Bool) : List Word :=
  let m := b.info
  ([i % 256, 0x4B424F5A, m.kind + m.face * 2 ^ 8 + m.q * 2 ^ 16 + obsFlags b gap * 2 ^ 24, seq % 2 ^ 32, b.samples,
    time % 2 ^ 32, time / 2 ^ 32, b.frac + m.mode * 2 ^ 16 + m.k * 2 ^ 24, m.nco,
    b.freqOff + b.swapAt.getD 0xFFFF % 2 ^ 16 * 2 ^ 16,
    m.bank + m.format * 2 ^ 8 + b.trig.getD 0xFFFF % 2 ^ 16 * 2 ^ 16, m.gdelay, m.gen, 0, 0, 0, 0].map
      (BitVec.ofNat 32)) ++ b.payload

/-- Sends a block on a stream: a credit is spent, SEQ counts, and a gap that the stream had shows (R253). -/
def streamPut (s : State) (i : Nat) (b : ObsBlock) : State :=
  let x := s.stream i
  let port := s.rd (STREAM_STATUS_PORT i)
  let y := s.session x.session
  let msg : Msg := { port := port, session := x.session, seq := (y.map fun y => y.sent + 1).getD 0, ver := (y.map Session.ver).getD 0, op := 0,
                     flags := 4, status := 0, words := obsWords i b x.seq ((s.time + 2 ^ 64 - b.age % 2 ^ 64) % 2 ^ 64) x.gap }
  let s := s.wr (STREAM_STATUS_CREDIT i) (s.rd (STREAM_STATUS_CREDIT i) - 1)
  let s := (s.sessUpd x.session fun y => { y with sent := y.sent + 1 }).send msg
  pcCount (s.setStream i { x with seq := x.seq + 1, gap := false }) (66 + port) 3 15 1

/-- A port's transmit buffer of 1 MiB has no room for another block (R291). -/
def txFull (s : State) (port : Nat) : Bool :=
  decide (2 ^ 20 < ((s.tx.filter fun m => m.port == port).map msgBytes).sum + 4212)

/-- A live stream sends a tap block, or drops it without credit or room in the port's buffer (R253, R291). -/
def liveSend (s : State) (f i : Nat) (b : ObsBlock) : State :=
  if liveOn s i f then
    if s.rd (STREAM_STATUS_CREDIT i) = 0 ∨ txFull s (s.rd (STREAM_STATUS_PORT i)) then
      (s.incSat (STREAM_DROPS_DROPS i)).setStream i { s.stream i with gap := true }
    else streamPut s i b
  else s

/-! ## Streams -/

/-- Closes a stream; a channel that it read is FULL again (R250, R252). -/
def streamClose (s : State) (i : Nat) : State :=
  if s.on (STREAM_STATUS_OPEN i) then
    let s := if s.rd (STREAM_STATUS_SRC i) = 2 ∧ s.rd (CAP_STATUS_STATE (s.rd (STREAM_STATUS_INDEX i))) = 4 then
        s.wr (CAP_STATUS_STATE (s.rd (STREAM_STATUS_INDEX i))) 3
      else s
    (s.wrs [(STREAM_STATUS_OPEN i, 0), (STREAM_STATUS_CREDIT i, 0)]).setStream i {}
  else s

/-- Closes every stream that satisfies `p`. -/
def streamsClose (s : State) (p : State → Nat → Bool) : State :=
  (List.range 32).foldl (fun t i => if t.on (STREAM_STATUS_OPEN i) && p t i then streamClose t i else t) s

/-- Rate of a control port in Gb/s by its code in CP_STATUS (R288). -/
def cpRate (code : Nat) : Nat := match code with | 0 => 400 | 1 => 200 | 2 => 100 | 3 => 25 | _ => 0

/-- What a live stream of tap `f` uses, in units of 2^-27/21 Gb/s (R252): 4,160 bytes a block. -/
def tapCost (s : State) (f : Nat) : Nat :=
  symRate21 (s.rd (LANE_ACQ_STATUS_MODE f (s.rd (TAP_CFG_LANE f)))) * 33280 * 2 ^ (16 - s.rd (TAP_CFG_K f)) *
    (if s.on (TAP_CFG_WIDTH f) then 1 else 2)

/-- The sum over the live streams of a port. -/
def liveSum (s : State) (port : Nat) : Nat :=
  ((List.range 32).map fun i =>
    if s.on (STREAM_STATUS_OPEN i) && s.on (STREAM_STATUS_LIVE i) && s.rd (STREAM_STATUS_PORT i) == port then
      tapCost s (s.rd (STREAM_STATUS_INDEX i)) else 0).sum

/-- 0.9 of the port's rate in the same units (R252). -/
def liveLimit (rate : Nat) : Nat := rate * 9 * 21 * 2 ^ 27 / 10

/-- The newest live stream of a port. -/
def newestLive (s : State) (port : Nat) : Option Nat :=
  (List.range 32).foldl (fun (b : Option Nat) i =>
    if s.on (STREAM_STATUS_OPEN i) && s.on (STREAM_STATUS_LIVE i) && s.rd (STREAM_STATUS_PORT i) == port then
      match b with
      | some j => if (s.stream j).order < (s.stream i).order then some i else some j
      | none => some i
    else b) none

/-- On a lower rate, live streams close newest first until the rest fit, one event each (R252). -/
def liveFit (s : State) (port rate : Nat) : Nat → State
  | 0 => s
  | n + 1 =>
    if liveLimit rate < liveSum s port then
      match newestLive s port with
      | some i => liveFit (logEvent (streamClose s i) { code := 0x0641, kind := 9, index := i }) port rate n
      | none => s
    else s

/-! ## Capture channels -/

/-- A channel records (ARMED or TRIGGERED). -/
def capBusy (s : State) (c : Nat) : Bool := s.rd (CAP_STATUS_STATE c) == 1 || s.rd (CAP_STATUS_STATE c) == 2

/-- What the records of a channel say of its settings (R241). -/
def capMeta (s : State) (c : Nat) : ObsMeta :=
  let f := s.rd (CAP_CFG_FACE c)
  let p := s.rd (CAP_CFG_LANE c)
  let src := s.rd (CAP_CFG_SRC c)
  if src = 3 then { tapMeta s f with kind := 5 }
  else { kind := 2 + src, face := f, q := 9 * f + p, mode := s.rd (LANE_ACQ_STATUS_MODE f p), format := src }

/-- Blocks of 4,096 bytes that a region holds: all of it once written through, else up to END (R249, R250). -/
def capBlocks (s : State) (c : Nat) (wrapped : Bool) (end_ : Nat) : Nat :=
  if wrapped then s.rd (CAP_REGION_SIZE c) * 256 else ceilDiv (end_ * 64) 4096

/-- Bytes of a channel's region, and the first of them in the store (R246). -/
def capBytes (s : State) (c : Nat) : Nat := s.rd (CAP_REGION_SIZE c) * 2 ^ 20
def capBase (s : State) (c : Nat) : Nat := s.rd (CAP_REGION_BASE c) * 2 ^ 20

/-- The record that a channel has written when it stops (R246, R249): the whole region from END on once it is written through, else what
lies below END; the trigger sample is marked if the channel fired. -/
def capRecord (s : State) (c : Nat) (wrapped : Bool) (end_ : Nat) (trunc known : Bool) : ObsRec :=
  let n := capBytes s c
  let start := if wrapped then end_ * 64 % n else 0
  { info := capMeta s c, blocks := capBlocks s c wrapped end_, size := if wrapped then n else end_ * 64, base := capBase s c, region := n,
    start := start, trig := if s.rd (CAP_STATUS_STATE c) = 2 then some ((s.rd (CAP_TRIG_POS_POS c) + n - start) % n) else none,
    trunc := trunc, known := known }

/-- A channel stops in FULL with its record (R249, R250). -/
def capFull (s : State) (c : Nat) (wrapped : Bool) (end_ : Nat) (trunc known : Bool) : State :=
  (s.wrs [(CAP_STATUS_STATE c, 3), (CAP_STATUS_TRUNC c, bit trunc), (CAP_STATUS_WRAPPED c, bit wrapped), (CAP_STATUS_END c, end_)]).setCap c
    (capRecord s c wrapped end_ trunc known)

/-- The words that a channel wrote last, up to `end_` in its region, circularly (R246): array 0x02 holds them. -/
def capStore (s : State) (c end_ : Nat) (data : List (BitVec 64)) : State :=
  let n := capBytes s c / 8
  data.zipIdx.foldl (fun t e => memWriteWord t 2 0 (capBase s c / 8 + (end_ * 8 + n * (data.length + 1) - data.length + e.2) % n) e.1.toNat) s

/-- Word `j` of a record (R249): from the store, or from its archive entry; none where it is poisoned (R412), a free value where the
contents are not known. -/
def recWord (s : State) (r : ObsRec) (words : Option (List (Option Nat))) (j : Nat) : State × Option Nat :=
  match words with
  | some w => (s, w.getD j (some 0))
  | none =>
    if r.known then
      let (s, v, ue) := memReadWord s 2 0 (r.base / 8 + (r.start / 8 + j) % (r.region / 8))
      (s, if ue then none else some v)
    else (s.tookFree, some s.freeVal)

/-- `n` words of a record from word `j` on. -/
def recWords (s : State) (r : ObsRec) (words : Option (List (Option Nat))) (j n : Nat) : State × List (Option Nat) :=
  (List.range n).foldl (fun acc k =>
    let (t, w) := recWord acc.1 r words (j + k)
    (t, acc.2 ++ [w])) (s, [])

/-- A channel ends early (R250). Where its write stands is not part of the cause: a free value (notes/assumptions/8.md). -/
def capTrunc (s : State) (c : Nat) : State :=
  if capBusy s c then
    let v := s.freeVal
    logEvent (capFull s.tookFree c (nbit v 63) (v % (s.rd (CAP_REGION_SIZE c) * 2 ^ 14)) true false) { code := 0x0840, kind := 9, index := c }
  else s

/-- Channels on a face that record a given lane (all lanes: 15) end early (R250). -/
def capEnd (s : State) (f p : Nat) : State :=
  (List.range 4).foldl (fun t c =>
    if capBusy t c && t.rd (CAP_CFG_FACE c) == f && (p == 15 || (t.rd (CAP_CFG_SRC c) != 3 && t.rd (CAP_CFG_LANE c) == p)) then capTrunc t c
    else t) s

/-- A lane's ADC goes off (R244, R250). -/
def obsLaneOff (s : State) (f p : Nat) : State := tapEval (capEnd s f p) f

/-- Staging claimed (R68, R256): every channel that is not IDLE ends and its data is discarded, with one event. -/
def capDiscardAll (s : State) : State :=
  if (List.range 4).any fun c => s.rd (CAP_STATUS_STATE c) != 0 then
    let s := streamsClose s fun t i => t.rd (STREAM_STATUS_SRC i) == 2
    let s := (List.range 4).foldl (fun t c => (t.wr (CAP_STATUS_STATE c) 0).setCap c {}) s
    logEvent s { code := 0x0841, kind := 9 }
  else s

/-- A region as bounds in MiB. -/
def capRegion (s : State) (c : Nat) : Nat × Nat := (s.rd (CAP_REGION_BASE c), s.rd (CAP_REGION_BASE c) + s.rd (CAP_REGION_SIZE c))

/-- Rate of a channel in units of 2^-16/42 GB/s (R245). -/
def capRate (s : State) (c : Nat) : Nat :=
  let f := s.rd (CAP_CFG_FACE c)
  let r := fun p => symRate21 (s.rd (LANE_ACQ_STATUS_MODE f p)) * 2 ^ 16
  match s.rd (CAP_CFG_SRC c) with
  | 0 => 2 * r (s.rd (CAP_CFG_LANE c))
  | 1 => 4 * r (s.rd (CAP_CFG_LANE c))
  | 2 => r (s.rd (CAP_CFG_LANE c)) / 2
  | _ => (if s.on (TAP_CFG_WIDTH f) then 4 else 8) * r (s.rd (TAP_CFG_LANE f)) / 2 ^ s.rd (TAP_CFG_K f)

/-- Arming checks of a mask (R245, R246, R248, R250, R256): the status that refuses it, or OK. -/
def armStatus (s : State) (mask : List Nat) : Nat :=
  if s.claim.isSome then stBusy
  else if mask.any fun c => s.rd (CAP_STATUS_STATE c) != 0 then stBusy
  else if mask.any fun c => (s.rd (CAP_TRIG_TRIG_SRC c) == 2 && s.rd (CAP_TRIG_ARG_ARG c) % 256 == 0) || !facePresent s (s.rd (CAP_CFG_FACE c))
  then stRange
  else if mask.any fun c => decide (64 < (capRegion s c).2) then stRange
  else if mask.any fun c => (List.range 4).any fun e => e != c && (mask.contains e || s.rd (CAP_STATUS_STATE e) != 0) &&
      decide ((capRegion s c).1 < (capRegion s e).2) && decide ((capRegion s e).1 < (capRegion s c).2)
  then stRange
  else if 1024 * 42 * 2 ^ 16 < (((List.range 4).filter fun c => mask.contains c || capBusy s c).map (capRate s)).sum then stBusy
  else stOk

/-- Arms channels, or refuses all of them (R246). A trigger time already past fires at once (R247). -/
def armEff (s : State) (mask : List Nat) : State × Nat :=
  let st := armStatus s mask
  if st ≠ stOk then (s, st)
  else
    let s := mask.foldl (fun t c => (t.wrs [(CAP_STATUS_STATE c, 1), (CAP_STATUS_TRUNC c, 0), (CAP_STATUS_SHORT_PRE c, 0),
      (CAP_STATUS_WRAPPED c, 0), (CAP_STATUS_END c, 0)]).setCap c {}) s
    (mask.foldl (fun t c =>
      let tt := t.rd (CAP_TRIG_ARG_ARG c) + t.rd (CAP_TRIG_TIME_HI_TIME_HI c) * 2 ^ 32
      if t.rd (CAP_TRIG_TRIG_SRC c) = 4 ∧ tt ≤ t.time then capFire t c tt 0 true else t) s, stOk)

/-- FORCE (R247): an ARMED channel fires with the time of the write; ignored in other states (R256). -/
def forceEff (s : State) (c : Nat) : State :=
  if s.rd (CAP_STATUS_STATE c) = 1 then
    capFire s.tookFree c s.time (s.freeVal % (s.rd (CAP_REGION_SIZE c) * 2 ^ 20)) (nbit s.freeVal 63)
  else s

/-- DISCARD (R250, R256): FULL returns to IDLE; BUSY while READING. -/
def discardEff (s : State) (c : Nat) : State × Nat :=
  match s.rd (CAP_STATUS_STATE c) with
  | 3 => ((s.wr (CAP_STATUS_STATE c) 0).setCap c {}, stOk)
  | 4 => (s, stBusy)
  | _ => (s, stOk)

/-- Writes of CAP_CFG, CAP_REGION and CAP_TRIG (R248): an undefined value discards the whole write with RANGE. -/
def capCfgEff (s : State) (c v : Nat) : State × Nat :=
  if 3 < v / 2 ^ 29 ∨ 8 < v / 2 ^ 21 % 16 then (s, stRange)
  else (s.setReg (CAP_CFG c) (BitVec.ofNat 32 (v / 2 ^ 16 * 2 ^ 16)), stOk)

def capRegionEff (s : State) (c v : Nat) : State × Nat :=
  if v % 128 = 0 ∨ 64 < v % 128 then (s, stRange)
  else (s.wrs [(CAP_REGION_BASE c, v / 2 ^ 8), (CAP_REGION_SIZE c, v)], stOk)

def capTrigEff (s : State) (c v : Nat) : State × Nat :=
  if 4 < v / 2 ^ 28 then (s, stRange) else (s.wr (CAP_TRIG_TRIG_SRC c) (v / 2 ^ 28), stOk)

/-- The standing capture of a face is armed when the face first enters RECEIVE (R254). -/
def standingArm (s : State) (f : Nat) : State :=
  if (s.face f).standing then
    let s := s.setFace f { s.face f with standing := false }
    match s.obsRec f with
    | some d =>
      let c := recField d 2 1
      if c < 4 then
        let (t, st) := armEff s [c]
        if st = stOk then t else logEvent s { code := 0x0843, kind := 9, index := c, a0 := st }
      else s
    | none => s
  else s

/-! ## The archive (R251) -/

/-- MiB that a record takes in the archive. -/
def recMib (r : ObsRec) : Nat := ceilDiv (r.blocks * 4096) (2 ^ 20)

/-- ARCH_STATUS follows the entries. -/
def archShow (s : State) : State :=
  s.wrs [(ARCH_STATUS_ENTRIES, s.archEntries.length), (ARCH_STATUS_FREE, s.archMib - (s.archEntries.map fun e => recMib e.record).sum)]

/-- A channel's record becomes an entry, poisoned words as they are, and the channel is IDLE (R251, R412). -/
def archAdd (s : State) (c : Nat) : State :=
  let (s, ws) := recWords s (s.cap c) none 0 ((s.cap c).size / 8)
  let s : State := { s with archEntries := s.archEntries ++ [⟨s.archId, s.cap c, ws⟩], archId := (s.archId + 1) % 256 }
  (archShow (s.wr (CAP_STATUS_STATE c) 0)).setCap c {}

/-- Does a record fit in the free space? -/
def archFits (s : State) (r : ObsRec) : Bool := decide (recMib r ≤ s.rd ARCH_STATUS_FREE) && decide (s.archEntries.length < 255)

/-- Frees an entry; a stream that read it closes. -/
def archFree (s : State) (id : Nat) : State :=
  let s := streamsClose s fun t i => t.rd (STREAM_STATUS_SRC i) == 3 && (t.stream i).arch == id
  archShow { s with archEntries := s.archEntries.filter fun e => e.id != id }

/-! ## The rows -/

/-- R240: the swap takes effect at the next output sample, or with a restart that waits for the block's end (R256). -/
def execTapSwapApply (f : Fin 16) (s : State) : Out :=
  .next (guardS (s.alive && s.on (TAP_STATUS_SWAP_PEND f.val) && !(s.face f.val).tapRestart) s fun s =>
    tapSwapNow s f.val (s.face f.val).tap.out.length)

/-- The tap takes samples (R235-R240), and notes a change of the datapath that they come from (R244). -/
def tapTake (s : State) (f : Nat) (input : List (BitVec 16)) : TapX :=
  let x := (s.face f).tap
  let dp := if x.src = 2 then laneDp s f x.lane else 15
  tapFeed s f { x with dp := dp, path := x.path || (x.fed != 0 && dp != x.dp) } input

/-- The block that a tap has completed (R241). -/
def tapBlockOf (s : State) (f : Nat) (b : TapIn) : ObsBlock :=
  let x := (s.face f).tap
  { info := tapMeta s f, age := b.age.toNat, frac := b.frac.toNat, freqOff := x.freqOff, sat := x.sats != 0,
    restart := (s.face f).tapRestarted, path := x.path, swapAt := (s.face f).tapSwapAt, samples := x.out.length,
    payload := tapPack (if x.narrow then 16 else 32) x.out }

/-- A complete block goes out on the tap's live streams; a restart that was asked for takes place at its end (R238, R239, R253). -/
def tapSend (s : State) (f : Nat) (b : TapIn) : State :=
  let o := tapBlockOf s f b
  let s := (List.range 32).foldl (fun t i => liveSend t f i o) s
  let x := s.face f
  let s := s.setFace f { x with tapSwapAt := none, tapRestarted := false, tap := { x.tap with out := [], sats := 0, path := false } }
  if x.tapRestart then tapEval (tapRestartNow s f) f else s

/-- R238, R239, R241, R253: samples of the source, up to the end of a block (notes/assumptions/68.md). -/
def execTapBlock (f : Fin 16) (b : TapIn) (s : State) : Out :=
  .next (guardS (s.alive && s.rd (TAP_STATUS_STATE f.val) == 1) s fun s =>
    let x := tapTake s f.val b.input
    let s := s.wr (TAP_STATUS_SAT_COUNT f.val) (satAdd 8 (s.rd (TAP_STATUS_SAT_COUNT f.val)) (x.sats - (s.face f.val).tap.sats))
    let s := s.setFace f.val { s.face f.val with tap := x }
    if tapDone x then tapSend s f.val b else s)

/-- R247, R249: a burst, a power step or a device time reached; Tally events and FORCE fire with their own causes. -/
def execCaptureTrigger (c : Fin 4) (time : BitVec 64) (pos : BitVec 26) (shortPre : Bool) (s : State) : Out :=
  let src := s.rd (CAP_TRIG_TRIG_SRC c.val)
  let tt := s.rd (CAP_TRIG_ARG_ARG c.val) + s.rd (CAP_TRIG_TIME_HI_TIME_HI c.val) * 2 ^ 32
  .next (guardS (s.alive && s.rd (CAP_STATUS_STATE c.val) == 1 && (src == 2 || src == 3 || (src == 4 && decide (tt ≤ s.time)))) s
    fun s => capFire s c.val (if src = 4 then tt else time.toNat) pos.toNat shortPre)

/-- R249: the post-trigger share is written; `data` is what the channel wrote of its region since it was armed, the last word at END. -/
def execCaptureFull (c : Fin 4) (wrapped : Bool) (end_ : BitVec 20) (data : List (BitVec 64)) (s : State) : Out :=
  .next (guardS (s.alive && s.rd (CAP_STATUS_STATE c.val) == 2) s fun s =>
    capFull (capStore s c.val end_.toNat data) c.val wrapped end_.toNat false true)

/-- The record that a stored stream reads, and the words of an archive entry: a channel's words lie in the store. -/
def storedRec (s : State) (i : Nat) : Option (ObsRec × Option (List (Option Nat))) :=
  if s.rd (STREAM_STATUS_SRC i) = 2 then some (s.cap (s.rd (STREAM_STATUS_INDEX i)), none)
  else if s.rd (STREAM_STATUS_SRC i) = 3 then
    (s.archEntries.find? fun e => e.id == (s.stream i).arch).map fun e => (e.record, some e.words)
  else none

/-- Bits of a sample by FORMAT (R241). -/
def formatBits (format : Nat) : Nat := match format with | 0 => 8 | 1 => 16 | 2 => 2 | 3 => 16 | _ => 32

/-- Bytes of block `n` of a record (R241). -/
def recBlockLen (r : ObsRec) (n : Nat) : Nat := min 4096 (r.size - 4096 * n)

/-- The trigger sample's index in block `n` of a record, if the block holds it: of the samples in the byte that CAP_TRIG_POS names, the
first (notes/assumptions/82.md). -/
def recTrig (r : ObsRec) (n : Nat) : Option Nat :=
  match r.trig with
  | some b => if b / 4096 = n then some (b % 4096 * 8 / formatBits r.info.format) else none
  | none => none

/-- Block `n` of a record, with zeros for poisoned words (R241, R249, R412). -/
def recBlock (s : State) (r : ObsRec) (words : Option (List (Option Nat))) (n : Nat) (b : ObsIn) : State × ObsBlock :=
  let len := recBlockLen r n
  let (s, ws) := recWords s r words (512 * n) (len / 8)
  (s, { info := r.info, age := b.age.toNat, frac := b.frac.toNat, freqOff := b.freqOff.toNat, trunc := r.trunc, sat := b.sat, path := b.path,
        trig := recTrig r n, samples := len * 8 / formatBits r.info.format,
        payload := ws.flatMap fun w => [BitVec.ofNat 32 (w.getD 0), BitVec.ofNat 32 (w.getD 0 / 2 ^ 32)] })

/-- R251-R253, R255: the next block of the record; with CONSUME the entry is freed, or the channel goes IDLE, at its end. -/
def execStreamBlockSend (i : Fin 32) (b : ObsIn) (s : State) : Out :=
  .next (guardS (s.alive && s.on (STREAM_STATUS_OPEN i.val) && s.rd (STREAM_STATUS_CREDIT i.val) != 0 &&
      !s.on (CP_STATUS_PAUSED (s.rd (STREAM_STATUS_PORT i.val))) && !txFull s (s.rd (STREAM_STATUS_PORT i.val))) s fun s =>
    match storedRec s i.val with
    | none => s
    | some (r, words) =>
      let x := s.stream i.val
      if r.blocks ≤ x.seq ∨ (s.face r.info.face).obsShed then s
      else
        let (s, o) := recBlock s r words x.seq b
        let s := streamPut s i.val o
        if x.consume ∧ x.seq + 1 = r.blocks then
          if s.rd (STREAM_STATUS_SRC i.val) = 3 then archFree s x.arch
          else
            let c := s.rd (STREAM_STATUS_INDEX i.val)
            ((streamClose s i.val).wr (CAP_STATUS_STATE c) 0).setCap c {}
        else s)

/-- R253: ten seconds without credit; the data stays where it was. -/
def execStreamTimeout (i : Fin 32) (s : State) : Out :=
  .next (guardS (s.alive && s.on (STREAM_STATUS_OPEN i.val) && !s.on (STREAM_STATUS_LIVE i.val) && s.rd (STREAM_STATUS_CREDIT i.val) == 0) s
    fun s => logEvent (streamClose s i.val) { code := 0x0842, kind := 9, index := i.val })

end Sys2Proof.Machine
end

