-- ==== Sys2Proof/Machine/Domains.lean ====
section
/-!
DEFINITION. Sys2Proof/Machine/Domains.lean: which power and clock domain answers at a device address, and whether it can
(R318-R322).
-/
namespace Sys2Proof.Machine
open Sys2Proof

/-- The power domains that hold registers (R36, R318, R320). -/
inductive PDom where
  | chip | aon
  | ddr (c : Nat) | cport (n : Nat)
  | face (f : Nat) | hewer (f : Nat) | rxd (f d : Nat) | txd (f : Nat)
  | hgroup (g : Nat)
  deriving DecidableEq, Repr

/-- The clock domains that hold registers (R318, R320): `rx f d` stands for the recovered clock in which receive datapath `d` runs now,
that of one of the face's nine lanes (R27); all transmit datapaths of a face run in one (R28, R34). -/
inductive CDom where
  | chip | aon | survey | tally | capture
  | ddr (c : Nat) | cport (n : Nat) | tap (f : Nat)
  | face (f : Nat) | hewer (f : Nat) | rx (f d : Nat) | tx (f : Nat)
  | hgroup (g : Nat)
  deriving DecidableEq, Repr

/-- The domains of an address, none outside every range of R318; a counter block of Tally lies in its own block's domains (R428). -/
def domsOf (a : Nat) : Option (PDom × CDom) :=
  if a < 0x200000 then some (.chip, .chip)
  else if a < 0x300000 then some (.chip, .survey)
  else if a < 0x400000 then some (.chip, .chip)
  else if 0x410000 ≤ a ∧ a < 0x414900 then
    let b := (a - 0x410000) / 0x100
    some (if b < 16 then (.face b, .face b) else if b < 48 then (.hgroup (b - 16), .hgroup (b - 16))
      else if b < 64 then (.hewer (b - 48), .hewer (b - 48)) else if b = 64 then (.chip, .survey) else if b = 65 then (.chip, .chip)
      else if b < 68 then (.cport (b - 66), .cport (b - 66)) else if b < 72 then (.ddr (b - 68), .ddr (b - 68)) else (.chip, .chip))
  else if a < 0x500000 then some (.chip, .tally)
  else if a < 0x600000 then
    if 0x580000 ≤ a ∧ a < 0x5C0000 then some (.ddr ((a - 0x580000) / 0x10000), .ddr ((a - 0x580000) / 0x10000))
    else some (.chip, .chip)
  else if a < 0x600200 then some (.cport ((a - 0x600000) / 0x100), .cport ((a - 0x600000) / 0x100))
  else if 0x600400 ≤ a ∧ a < 0x60050C then
    if 0x600500 ≤ a ∧ a < 0x600504 then some (.chip, .chip) else some (.aon, .aon)
  else if 0x700000 ≤ a ∧ a < 0x710000 then some (.face ((a - 0x700000) / 0x1000), .tap ((a - 0x700000) / 0x1000))
  else if 0x710000 ≤ a ∧ a < 0x730008 then some (.chip, .capture)
  else if 0x1000000 ≤ a ∧ a < 0x2000000 then
    let f := (a - 0x1000000) / 0x100000
    let o := a % 0x100000
    if o < 0x48000 then some (.rxd f (o / 0x8000), .rx f (o / 0x8000))
    else if 0x50000 ≤ o ∧ o < 0x74000 then some (.txd f, .tx f)
    else if 0xC0000 ≤ o ∧ o < 0xF0000 then some (.hewer f, .hewer f)
    else some (.face f, .face f)
  else if 0x2000000 ≤ a ∧ a < 0x2200000 then
    let g := (a - 0x2000000) / 0x10000
    some (.hgroup g, .hgroup g)
  else if 0x3000000 ≤ a ∧ a < 0x3002000 then some (.chip, .chip)
  else if 0x4000000 ≤ a ∧ a < 0x5200000 then
    let n := (a - 0x4000000) / 0x100000
    if n < 16 then some (.hewer n, .hewer n) else if n = 16 then some (.chip, .survey) else some (.chip, .chip)
  else none

/-- Is a power domain on (R36, R54, R56, R189, R321, R333)? A host group is one domain, on while a port has any of its lanes. -/
def pdomOn (s : State) : PDom → Bool
  | .chip => true
  | .aon => true
  | .ddr c => nbit (s.rd PRESENCE_DDR) c
  | .cport n => n == 0 || s.on PRESENCE_PORT_B
  | .face f => facePresent s f
  | .hewer f => facePresent s f
  | .rxd f d => facePresent s f && s.rd FM_CHIP_STATUS_STATE == 0 && optState s f != 1 && !dpSealed s f d && s.rd (RXD_STATUS_ROLE f d) != 0
  | .txd f => facePresent s f && s.rd FM_CHIP_STATUS_STATE == 0 && optState s f != 1
  | .hgroup g => nbit (s.rd GROUPS_PRESENT) g && s.rd FM_CHIP_STATUS_STATE == 0

/-- Does a clock run (R56, R321)? -/
def cdomOn (s : State) : CDom → Bool
  | .rx f _ => decide (3 ≤ optState s f)
  | .tx f => decide (3 ≤ optState s f)
  | .tap f => tapExists s f
  | _ => true

/-- The lane in whose recovered clock a receive datapath runs (R27, R320): the one that it serves or shadows, else p8. -/
def rxClockLane (s : State) (f d : Nat) : Nat :=
  if (s.rd (RXD_STATUS_ROLE f d) == 1 || s.rd (RXD_STATUS_ROLE f d) == 2) && decide (s.rd (RXD_STATUS_LANE f d) < 9) then s.rd (RXD_STATUS_LANE f d)
  else 8

/-- Numbers for the log of R322: power domains and clock domains apart. -/
def pdomKey : PDom → Nat
  | .chip => 0 | .aon => 1 | .ddr c => 2 + c | .cport n => 6 + n | .face f => 16 + f | .hewer f => 32 + f | .rxd f d => 64 + 9 * f + d
  | .txd f => 256 + f | .hgroup g => 300 + g

def cdomKey (s : State) : CDom → Nat
  | .chip => 0 | .aon => 1 | .ddr c => 2 + c | .cport n => 6 + n | .survey => 8 | .tally => 9 | .capture => 10 | .face f => 16 + f
  | .hewer f => 32 + f | .rx f d => 64 + 9 * f + rxClockLane s f d | .tx f => 256 + f | .tap f => 448 + f | .hgroup g => 480 + g

/-- The number that the log of R322 keeps for a clock domain. -/
def clockKey (s : State) (c : CDom) : Nat := 100000 + cdomKey s c

/-- The registers of a host lane that belongs to no port do not answer, though its group's domain may be on (R189). -/
def portless (s : State) (a : Nat) : Bool :=
  decide (0x2000000 ≤ a) && decide (a < 0x2200000) && decide (a % 0x10000 < 0x800) && (portOfHost s (8 * ((a - 0x2000000) / 0x10000) + a % 0x10000 / 0x100 % 8)).isNone

/-- The clock of a sealed transmit datapath is stopped, though the face's transmit clock may run (R168, R321). -/
def txGated (s : State) (a : Nat) : Bool :=
  let o := a % 0x100000
  decide (0x1000000 ≤ a) && decide (a < 0x2000000) && decide (0x50000 ≤ o) && decide (o < 0x74000) &&
    txSealed s ((a - 0x1000000) / 0x100000) ((o - 0x50000) / 0x4000)

/-- An access refused inside a domain that is itself on is logged under the domain's number and this mark, until the domain turns off. -/
abbrev domInside : Nat := 1000000

/-- What the domain checks of R319 answer: OK, or DOMAIN_OFF or CLOCK_OFF with the domain's number in the log of R322. -/
def domStatus (s : State) (a : Nat) : Nat × Nat :=
  match domsOf a with
  | none => (stRange, 0)
  | some (p, c) =>
    if !pdomOn s p then (stDomainOff, pdomKey p)
    else if portless s a then (stDomainOff, domInside + pdomKey p)
    else if !cdomOn s c then (stClockOff, clockKey s c)
    else if txGated s a then (stClockOff, domInside + clockKey s c)
    else (stOk, 0)

/-- Device addresses of every domain that can be off: one in each. -/
def domProbes : List Nat :=
  (List.range 4).map (fun c => 0x580000 + c * 0x10000) ++ [0x600100] ++
  ((List.range 16).flatMap fun f =>
    [faceAt f 0xA0000, faceAt f 0xC0000, 0x700000 + f * 0x1000] ++ (List.range 9).flatMap fun d => [rxdAt f d, txdAt f d]) ++
  (List.range 32).map fun g => 0x411000 + g * 0x100

/-- The log's numbers of the domains that are off now. -/
def offKeys (s : State) : List Nat :=
  domProbes.flatMap fun a => match domsOf a with
    | none => []
    | some (p, c) => (if pdomOn s p then [] else [pdomKey p]) ++ (if cdomOn s c then [] else [clockKey s c])

/-- What the log keeps of an entry while the domains `off` are off (R322): it is dropped once its domain has turned on. -/
def accKeep (off : List Nat) (e : Nat × Nat) : Option (Nat × Nat) :=
  if domInside ≤ e.2 then some (e.1, if off.contains (e.2 - domInside) then e.2 - domInside else e.2)
  else if off.contains e.2 then some e else none

/-- Logging is re-armed for every domain that turned on or whose clock started (R322): called where domains change, and at each access. -/
def accRearm (s : State) : State :=
  if s.accLog = [] then s
  else let off := offKeys s; { s with accLog := s.accLog.filterMap (accKeep off) }

end Sys2Proof.Machine
end

