-- ==== Sys2Proof/Machine/InnerCode.lean ====
section
/-!
DEFINITION. Sys2Proof/Machine/InnerCode.lean: the inner codes, their Chase decoders and encoders, and the interleaver
(R135-R142, R146-R150).
-/
namespace Sys2Proof.Machine
open Sys2Proof

/-! ## Symbols (R122) -/

/-- The level of an index, −3 to +3 (R122). -/
def pamLevel (i : Nat) : Int := 2 * (i : Int) - 3

/-- The two bits of an index, the more significant first (R122: 00, 01, 11, 10). -/
def grayBits (i : Nat) : Bool × Bool := (decide (2 ≤ i % 4), i % 4 == 1 || i % 4 == 2)

/-- The index of two bits (R122). -/
def grayIndex (b : Bool × Bool) : Nat :=
  match b with
  | (false, false) => 0 | (false, true) => 1 | (true, true) => 2 | (true, false) => 3

/-! ## The field and the columns of H (R135-R137) -/

/-- Times α in GF(2^8) with p(x) = x^8 + x^4 + x^3 + x^2 + 1 (R135). -/
def gfDbl (a : Nat) : Nat := if a < 128 then 2 * a else Nat.xor (2 * a) 0x11D

/-- Product in GF(2^8), over the low `n` bits of `b`. -/
def gfMulBits : Nat → Nat → Nat → Nat
  | 0, _, _ => 0
  | n + 1, a, b => Nat.xor (if b % 2 = 1 then a else 0) (gfMulBits n (gfDbl a) (b / 2))

def gfMul (a b : Nat) : Nat := gfMulBits 8 a b

/-- The inverse: a^254. -/
def gfInv (a : Nat) : Nat :=
  let a2 := gfMul a a
  let a4 := gfMul a2 a2
  let a8 := gfMul a4 a4
  let a16 := gfMul a8 a8
  let a32 := gfMul a16 a16
  let a64 := gfMul a32 a32
  let a128 := gfMul a64 a64
  gfMul a2 (gfMul a4 (gfMul a8 (gfMul a16 (gfMul a32 (gfMul a64 a128)))))

/-- g(z) = z^2 + z + α^5 (R136). -/
def gfG (z : Nat) : Nat := Nat.xor (Nat.xor (gfMul z z) z) 0x20

/-- The column of H for a field element (R136). -/
def goppaCol (b : Nat) : Nat :=
  let i := gfInv (gfG b)
  i * 256 + gfMul b i

/-- Is bit `i` the highest set bit's place that a basis vector owns? Reduces a vector by an echelon basis (leading vectors
first). -/
def xorReduce (basis : List Nat) (v : Nat) : Nat := basis.foldl (fun v b => min v (Nat.xor v b)) v

/-- Scans the elements from `b` on (R137): the check elements in the order taken, and the others. The basis is kept with
falling leading bits. -/
def goppaScan : Nat → Nat → List Nat → List Nat → List Nat → List Nat × List Nat
  | 0, _, _, chk, msg => (chk, msg)
  | n + 1, b, basis, chk, msg =>
    let r := xorReduce basis (goppaCol b)
    if r = 0 ∨ chk.length = 16 then goppaScan n (b + 1) basis chk (msg ++ [b])
    else goppaScan n (b + 1) ((basis.filter fun x => decide (r < x)) ++ r :: (basis.filter fun x => decide (x < r))) (chk ++ [b]) msg

/-- The element of each position: 240 message elements, then the 16 check elements (R137). -/
def goppaElems : List Nat :=
  let r := goppaScan 256 0 [] [] []
  r.2 ++ r.1

/-- The columns of H in position order. -/
def goppaCols : List Nat := goppaElems.map goppaCol

/-- H·c for the bits that are one (R136). -/
def goppaSyndrome (cols : List Nat) (c : List Bool) : Nat :=
  (cols.zip c).foldl (fun a e => if e.2 then Nat.xor a e.1 else a) 0

/-- The algebraic decoder: the positions of at most two errors that give a syndrome (R136, R146). -/
def goppaDecode (cols : List Nat) (syn : Nat) : Option (List Nat) :=
  if syn = 0 then some []
  else match cols.findIdx? (· == syn) with
    | some i => some [i]
    | none => (List.range 256).findSome? fun i =>
        (cols.findIdx? (· == Nat.xor syn (cols.getD i 0))).map fun j => [i, j]

/-- A soft value, 6-bit signed, and its magnitude. -/
def softVal (v : BitVec 6) : Int := sext 6 v.toNat

/-- Inserts a position by reliability, ties toward the lower position (R146 step 1). -/
def relInsert (x : Nat × Nat) : List (Nat × Nat) → List (Nat × Nat)
  | [] => [x]
  | y :: ys => if x.1 < y.1 ∨ (x.1 = y.1 ∧ x.2 < y.2) then x :: y :: ys else y :: relInsert x ys

/-- The `L` least reliable positions, the least reliable first. -/
def leastReliable (v : List Int) (l : Nat) : List Nat :=
  (((v.zipIdx.map fun e => (e.1.natAbs, e.2)).foldr relInsert []).take l).map Prod.snd

/-- Members of exactly one of two lists. -/
def symDiff (a b : List Nat) : List Nat := (a.filter fun x => !b.contains x) ++ (b.filter fun x => !a.contains x)

/-- The algebraic decoder of the (128,120) code: the position of at most one error that gives a syndrome (R150). -/
def hammingDecode (cols : List Nat) (syn : Nat) : Option (List Nat) :=
  if syn = 0 then some [] else (cols.findIdx? (· == syn)).map fun i => [i]

/-- The hard decision of a soft value: 1 where it is negative (R146). -/
def hardBit (x : Int) : Bool := decide (x < 0)

/-- What Chase decoding gives for a code with the columns `cols` and the algebraic decoder `alg` (R146, R147, R150): whether the hard
syndrome is nonzero, and the positions in which the output differs from the hard decision, or none for a failure. -/
def chaseWith (cols : List Nat) (alg : Nat → Option (List Nat)) (soft : List Int) (l : Nat) : Bool × Option (List Nat) :=
  let syn := goppaSyndrome cols (soft.map hardBit)
  let weak := leastReliable soft l
  let cand := fun (p : Nat) =>
    let flips := weak.zipIdx.filterMap fun e => if nbit p e.2 then some e.1 else none
    let syn' := flips.foldl (fun a i => Nat.xor a (cols.getD i 0)) syn
    (alg syn').map fun e =>
      let diff := symDiff flips e
      ((diff.map fun i => (soft.getD i 0).natAbs).sum, diff)
  let best := (List.range (2 ^ l)).foldl (fun (b : Option (Nat × List Nat)) p =>
    match b, cand p with
    | none, c => c
    | some b, some c => if c.1 < b.1 then some c else some b
    | some b, none => some b) none
  (syn != 0, best.map Prod.snd)

/-- Chase decoding of the code of L400 and L400P (R146). -/
def chase (soft : List Int) (l : Nat) : Bool × Option (List Nat) := chaseWith goppaCols (goppaDecode goppaCols) soft l

/-- Columns of the (128,120) code: those of the 120 message bits, which the spec leaves to IEEE 802.3dj, then those of the check bits
(log 69). -/
def hammingCols : List Nat := ((List.range 120).map fun i => (Config.hammingRow i).toNat) ++ (List.range 8).map fun i => 2 ^ i

/-- Chase decoding of the code of L200 and L200P (R150). -/
def chase200 (soft : List Int) (l : Nat) : Bool × Option (List Nat) := chaseWith hammingCols (hammingDecode hammingCols) soft l

/-- The bits that a decode delivers: the hard decisions with the changed positions flipped; the hard decisions of a failure (R147). -/
def decodedBits (soft : List Int) (diff : Option (List Nat)) : List Bool :=
  soft.zipIdx.map fun e => hardBit e.1 != ((diff.getD []).contains e.2)

/-! ## The encoders (R137, R138, R149) -/

/-- Reduces a vector by a basis with falling leading bits, with the combination of check columns used. -/
def xorSolve (basis : List (Nat × Nat)) (v : Nat × Nat) : Nat × Nat :=
  basis.foldl (fun v b => if Nat.xor v.1 b.1 < v.1 then (Nat.xor v.1 b.1, Nat.xor v.2 b.2) else v) v

/-- The check columns as a basis with falling leading bits; each with the check bits that make it. -/
def checkBasis (cols : List Nat) : List (Nat × Nat) :=
  cols.zipIdx.foldl (fun basis e =>
    let r := xorSolve basis (e.1, 2 ^ e.2)
    (basis.filter fun x => decide (r.1 < x.1)) ++ r :: (basis.filter fun x => decide (x.1 < r.1))) []

/-- The codeword of 240 message bits: the check bits are those that make H·c zero (R137). -/
def innerEncode (m : List Bool) : List Bool :=
  let cols := goppaCols
  let chk := (xorSolve (checkBasis (cols.drop 240)) (goppaSyndrome cols m, 0)).2
  m ++ (List.range 16).map (nbit chk)

/-- The codeword of 120 message bits in L200 and L200P. -/
def hammingEncode (m : List Bool) : List Bool :=
  let chk := goppaSyndrome hammingCols m
  m ++ (List.range 8).map (nbit chk)

/-! ## Line modes (R138, R141, R149, R211) -/

/-- L200 or L200P? -/
def mode200 (mode : Nat) : Bool := decide (3 ≤ mode)

/-- Message bits of an inner codeword. -/
def modeMsg (mode : Nat) : Nat := if mode200 mode then 120 else 240

/-- Sideband bits at the message's end: two in L400P, one in L200P (R138, R211). -/
def modeSide (mode : Nat) : Nat := match mode with | 2 => 2 | 4 => 1 | _ => 0

/-- Symbols of a codeword period (R141, R150). -/
def modePeriod (mode : Nat) : Nat := if mode200 mode then 64 else 128

/-- The interleaver's depth in codewords: 16, or what IEEE 802.3dj defines for L200 (log 69). -/
def modeDepth (mode : Nat) : Nat := if mode200 mode then Config.l200Depth + 1 else 16

/-- By how many periods slot `s` is delayed: slot s of period t carries symbol s of codeword t − (s mod 16) (R141). -/
def slotDelay (mode s : Nat) : Nat := if mode200 mode then Config.l200Delay s % (Config.l200Depth + 1) else s % 16

/-- The inner codeword of a message in a line mode. -/
def modeEncode (mode : Nat) (m : List Bool) : List Bool := if mode200 mode then hammingEncode m else innerEncode m

/-- Chase decoding in a line mode. -/
def modeChase (mode : Nat) (soft : List Int) (l : Nat) : Bool × Option (List Nat) :=
  if mode200 mode then chase200 soft l else chase soft l

/-- The level indices of a codeword: symbol s carries bits 2s and 2s + 1 (R140). -/
def wordSymbols (c : List Bool) : List Nat :=
  (List.range (c.length / 2)).map fun s => grayIndex (c.getD (2 * s) false, c.getD (2 * s + 1) false)

/-- What one period of the line carries: slot s the symbol of the codeword that its branch delays; `ws` holds the codewords' symbols,
the newest first, and a codeword before the first one is the all-zero codeword (R141, R142). -/
def interleave (mode : Nat) (ws : List (List Nat)) : List Nat :=
  (List.range (modePeriod mode)).map fun s => (ws.getD (slotDelay mode s) []).getD s 0

/-- The soft values of the oldest codeword in a run of periods (R142): symbol s lies in slot s, as many periods on as its branch delays;
with the levels inverted the more significant bit of each symbol changes (R143, R145). -/
def deinterleave (mode : Nat) (inverted : Bool) (ps : List (List (Int × Int))) : List Int :=
  (List.range (modePeriod mode)).flatMap fun s =>
    let v := (ps.getD (slotDelay mode s) []).getD s (0, 0)
    [if inverted then -v.1 else v.1, v.2]

/-- A list cut into pieces of `n`, at most `k` of them; a shorter rest is left out. -/
def pieces {α : Type} (n : Nat) : Nat → List α → List (List α)
  | 0, _ => []
  | k + 1, l => if l.length < n then [] else l.take n :: pieces n k (l.drop n)

/-- Least reliable positions tried at an effort level (R146). -/
def chaseDepth (lvl : Nat) : Nat := match lvl with | 0 => 4 | 1 => 3 | 2 => 2 | _ => 0

end Sys2Proof.Machine
end

