-- ==== Sys2Proof/Machine/Dsp.lean ====
section
/-!
DEFINITION. Sys2Proof/Machine/Dsp.lean: the arithmetic of the receive stages of R105 on plain numbers: slice correction (R79), the
frequency-domain equaliser (R107-R109), the timing interpolator and its error (R119), the detectors and their soft values (R122-R126),
and the statistics of R116 and R131. What the spec leaves open of them (log 68) are constants of Config with no body.
-/
namespace Sys2Proof.Machine
open Sys2Proof

/-! ## Slice correction (R76, R79) -/

/-- One sample of a slice: offset subtracted, gain, skew, bandwidth, in that order; the result in 1/8 LSB, rounded convergently once at
the end (log 68). The intermediate unit is 2^-22 LSB. -/
def sliceStep (v : SliceVal) (h : SliceHist) (code : Int) : Int × SliceHist :=
  let g := (64 * code - v.offset) * (65536 + v.gain)
  let k := if v.skew = 0 then g else Config.fracDelay v.skew g h.earlier
  (roundDiv (4096 * k + v.bw * (k - h.last)) (2 ^ 31), { earlier := (g :: h.earlier).take 4, last := k })

/-- Corrects the codes of a clock from sample `j` on: sample j comes from slice j mod 64 (R76), whose values are `val` (the relief
slice's where it stands in). -/
def sliceCorrect (val : Nat → SliceVal) : Nat → Tab SliceHist → List Int → List Int × Tab SliceHist
  | _, hs, [] => ([], hs)
  | j, hs, c :: cs =>
    let r := sliceStep (val (j % 64)) (tabGet {} hs (j % 64)) c
    let rest := sliceCorrect val (j + 1) (tabSet {} hs (j % 64) r.2) cs
    (r.1 :: rest.1, rest.2)

/-! ## The equaliser (R107-R109) -/

/-- Largest component magnitude of a block. -/
def blockMax (x : Array (Int × Int)) : Nat := x.foldl (fun m c => max m (max c.1.natAbs c.2.natAbs)) 0

/-- Shift of a stage by the block's largest component (R109). -/
def stageShift (m : Nat) : Nat := if m < 2 ^ 13 then 0 else if m < 2 ^ 14 then 1 else 2

/-- The twiddle factor `k` of a 512-point transform, conjugate for the inverse. -/
def twiddle (inv : Bool) (k : Nat) : Int × Int :=
  let w := Config.twiddle (k % 512)
  if inv then (w.1, -w.2) else w

/-- A complex product. -/
def cmul (a b : Int × Int) : Int × Int := (a.1 * b.1 - a.2 * b.2, a.1 * b.2 + a.2 * b.1)

/-- Both components divided by `2 ^ n` with convergent rounding. -/
def cround (a : Int × Int) (n : Nat) : Int × Int := (roundDiv a.1 (2 ^ n), roundDiv a.2 (2 ^ n))

/-- Radix-2 stage `st` of nine, decimating in frequency, shifted right by `sh` (log 68). -/
def fftStage (inv : Bool) (st sh : Nat) (x : Array (Int × Int)) : Array (Int × Int) :=
  let half := 256 / 2 ^ st
  (Array.range 512).map fun i =>
    let j := i % (2 * half)
    if j < half then
      let a := x.getD i (0, 0)
      let b := x.getD (i + half) (0, 0)
      cround (a.1 + b.1, a.2 + b.2) sh
    else
      let a := x.getD (i - half) (0, 0)
      let b := x.getD i (0, 0)
      cround (cmul (a.1 - b.1, a.2 - b.2) (twiddle inv ((j - half) * 2 ^ st))) (Config.twiddleBits + sh)

/-- The nine low bits of an index in reverse order. -/
def rev9 (i : Nat) : Nat := (List.range 9).foldl (fun a k => 2 * a + i / 2 ^ k % 2) 0

/-- The nine stages with the shifts of R109: the transform's mantissas in natural order, and the sum of the shifts. -/
def fft512 (inv : Bool) (x : Array (Int × Int)) : Array (Int × Int) × Nat :=
  let r := (List.range 9).foldl (fun (t : Array (Int × Int) × Nat) st =>
    let sh := stageShift (blockMax t.1)
    (fftStage inv st sh t.1, t.2 + sh)) (x, 0)
  ((Array.range 512).map fun i => r.1.getD (rev9 i) (0, 0), r.2)

/-- A block of real samples as complex ones. -/
def realBlock (x : List Int) : Array (Int × Int) := (x.map fun v => (v, (0 : Int))).toArray

/-- The coefficient that multiplies bin `k` (R108): the conjugate above 256, the imaginary parts of C0 and C256 taken as zero. -/
def binCoef (c : Array (Int × Int)) (k : Nat) : Int × Int :=
  if k = 0 ∨ k = 256 then ((c.getD k (0, 0)).1, 0)
  else if k < 256 then c.getD k (0, 0)
  else let a := c.getD (512 - k) (0, 0); (a.1, -a.2)

/-- The product of R109: every M_F·M_C over 2^(13 + r), with the smallest r from 0 to 3 that keeps the block below 2^15. -/
def binProduct (c x : Array (Int × Int)) : Array (Int × Int) × Nat :=
  let p := (Array.range 512).map fun k => cmul (x.getD k (0, 0)) (binCoef c k)
  let at_ := fun (r : Nat) => p.map fun a => cround a (13 + r)
  let r := ((List.range 3).find? fun r => decide (blockMax (at_ r) < 2 ^ 15)).getD 3
  (at_ r, r)

/-- A sample at the equaliser's output format (R106): the value kept, and whether it saturated. -/
def sat12 (x : Int) : Int × Bool := (clampI (-2048) 2047 x, decide (x < -2048) || decide (2047 < x))

/-- `m · 2 ^ n`, rounded convergently where n is negative (R109). -/
def expRound (m n : Int) : Int := if 0 ≤ n then m * 2 ^ n.toNat else roundDiv m (2 ^ (-n).toNat)

/-- What one clock of the equaliser gives. -/
structure EqOut where
  /-- output samples -/
  y : List Int
  /-- E_F -/
  ef : Nat
  /-- E_I -/
  ei : Nat
  /-- saturated samples -/
  sats : Nat
  /-- mantissas of the forward transform, bins 0 to 256 -/
  bins : List (Int × Int)

/-- One clock of the overlap-save filter (R107-R109): 512 corrected samples in, the last 256 of the filtered block out. -/
def eqClock (c : Array (Int × Int)) (ec : Int) (x : List Int) : EqOut :=
  let fwd := fft512 false (realBlock x)
  let prod := binProduct c fwd.1
  let back := fft512 true prod.1
  let ei := prod.2 + back.2
  let shift := (fwd.2 : Int) + ec + ei - 9
  let out := (List.range 256).map fun i => sat12 (expRound (back.1.getD (256 + i) (0, 0)).1 shift)
  { y := out.map Prod.fst, ef := fwd.2, ei := ei, sats := (out.filter Prod.snd).length,
    bins := (List.range 257).map fun k => fwd.1.getD k (0, 0) }

/-! ## The timing interpolator (R119) -/

/-- Retimes samples at an interpolator phase: at phase 0 they pass; else each is interpolated among itself and the eight before. -/
def retime (phase : Int) : List Int → List Int → List Int
  | _, [] => []
  | before, y :: ys => (if phase = 0 then y else Config.interpolate phase y before) :: retime phase ((y :: before).take 8) ys

/-! ## The slicer (R123-R126) -/

/-- The expected value of a symbol triple (R123). -/
def tripleVal (t : Array Int) (i2 i1 i0 : Nat) : Int := t.getD (16 * i2 + 4 * i1 + i0) 0

/-- The first index at which a list of four metrics is least. -/
def argMin4 (m : List Int) : Nat :=
  (List.range 4).foldl (fun b i => if m.getD i 0 < m.getD b 0 then i else b) 0

/-- Squared distances of a sample to the four values that may follow two decisions. -/
def sliceMetrics (t : Array Int) (i2 i1 : Nat) (y : Int) : List Int :=
  (List.range 4).map fun i => (y - tripleVal t i2 i1 i) * (y - tripleVal t i2 i1 i)

/-- A soft value (R126): the LLR over 0.5, which is the difference of the metrics over NOISE_VAR (0 is taken as 1), rounded to nearest
and clamped to ±31. -/
def softOf (nv : Nat) (m1 m0 : Int) : Int := clampI (-31) 31 (roundDiv (m1 - m0) (max nv 1))

/-- The least of some metrics. -/
def minOf (m : List Int) (is : List Nat) : Int :=
  match is with
  | [] => 0
  | i :: is => is.foldl (fun b j => min b (m.getD j 0)) (m.getD i 0)

/-- The soft values of a symbol's two bits from the metrics of its four indices: bit at 1 against bit at 0. -/
def softPair (nv : Nat) (m : List Int) : Int × Int :=
  (softOf nv (minOf m [2, 3]) (minOf m [0, 1]), softOf nv (minOf m [1, 2]) (minOf m [0, 3]))

/-- The decision-feedback slicer (R125): index and metrics of each sample, with the two decisions before it, newest first. -/
def sliceRun (t : Array Int) : Nat × Nat → List Int → List (Nat × List Int) × (Nat × Nat)
  | dec, [] => ([], dec)
  | dec, y :: ys =>
    let m := sliceMetrics t dec.2 dec.1 y
    let i := argMin4 m
    let r := sliceRun t (i, dec.1) ys
    ((i, m) :: r.1, r.2)

/-- Mueller–Müller error over samples with their tentative levels (R119), from the sample and level before them. -/
def mmError : Int × Int → List (Int × Int) → Int
  | _, [] => 0
  | (y0, l0), (y, l) :: rest => (y * l0 - y0 * l) + mmError (y, l) rest

/-! ## The MLSE (R125, R126) -/

/-- A metric above every path's. -/
def farMetric : Int := 2 ^ 60

/-- Branch metric of a symbol (R125). -/
def branch (t : Array Int) (y : Int) (i2 i1 i0 : Nat) : Int := (y - tripleVal t i2 i1 i0) * (y - tripleVal t i2 i1 i0)

/-- The least of four numbers given by index. -/
def min4 (g : Nat → Int) : Int := min (min (g 0) (g 1)) (min (g 2) (g 3))

/-- One symbol forward: metrics of the states 4·i(n) + i(n−1), from those of the symbol before. -/
def mlseForward (t : Array Int) (y : Int) (a : Array Int) : Array Int :=
  (Array.range 16).map fun st => min4 fun i2 => a.getD (4 * (st % 4) + i2) farMetric + branch t y i2 (st % 4) (st / 4)

/-- One symbol backward: least metric of what follows each state. -/
def mlseBack (t : Array Int) (y : Int) (b : Array Int) : Array Int :=
  (Array.range 16).map fun st => min4 fun i0 => b.getD (4 * i0 + st / 4) farMetric + branch t y (st % 4) (st / 4) i0

/-- States of a window's start: every one at 0, or the one preloaded from slicer decisions (R129 step 2). -/
def mlseStart (frm : Option (Nat × Nat)) : Array Int :=
  (Array.range 16).map fun st =>
    match frm with
    | none => 0
    | some (i1, i2) => if st = 4 * i1 + i2 then 0 else farMetric

/-- Metrics before each sample of a window, oldest first. -/
def mlseForwards (t : Array Int) : Array Int → List Int → List (Array Int)
  | _, [] => []
  | a, y :: ys => a :: mlseForwards t (mlseForward t y a) ys

/-- Metrics after each sample of a window, oldest first. -/
def mlseBacks (t : Array Int) : List Int → List (Array Int)
  | [] => []
  | _ :: ys => (match ys, mlseBacks t ys with
    | y :: _, b :: bs => mlseBack t y b :: b :: bs
    | _, bs => (Array.range 16).map (fun _ => 0) :: bs)

/-- For every sample of a window the metrics of the best paths through each of the four indices (R126), so that the decided index is
the best path's. -/
def mlseWindow (t : Array Int) (frm : Option (Nat × Nat)) (ys : List Int) : List (Nat × List Int) :=
  ((mlseForwards t (mlseStart frm) ys).zip (mlseBacks t ys)).zip ys |>.map fun e =>
    let m := (List.range 4).map fun i0 => min4 fun i1 => min4 fun i2 =>
      e.1.1.getD (4 * i1 + i2) farMetric + branch t e.2 i2 i1 i0 + e.1.2.getD (4 * i0 + i1) farMetric
    (argMin4 m, m)

/-- One detector window of 32 symbols (R125): pre-run before it, traceback of 48 after it. -/
def detWindow (mlse : Bool) (t : Array Int) (frm : Option (Nat × Nat)) (dec : Nat × Nat) (past win after : List Int) :
    List (Nat × List Int) × (Nat × Nat) :=
  if mlse then
    let r := ((mlseWindow t frm (past ++ win ++ after)).drop past.length).take win.length
    (r, r.foldl (fun d e => (e.1, d.1)) dec)
  else sliceRun t dec win

/-! ## Statistics (R116, R131) -/

/-- Adds a decided symbol to a window's sums: index triple's value, sample and decided index. -/
def qualAdd (q : QualSum) (tv y : Int) (i : Nat) : QualSum :=
  let e := y - tv
  { t2 := q.t2 + (tv * tv).toNat, e2 := q.e2 + (e * e).toNat,
    levels := (List.range 4).map fun k =>
      let l := q.levels.getD k {}
      if k = i then { n := l.n + 1, sum := l.sum + y, sq := l.sq + (y * y).toNat } else l }

/-- The sums of two parts of a window. -/
def qualJoin (a b : QualSum) : QualSum :=
  { t2 := a.t2 + b.t2, e2 := a.e2 + b.e2,
    levels := (List.range 4).map fun k =>
      let l := a.levels.getD k {}
      let m := b.levels.getD k {}
      { n := l.n + m.n, sum := l.sum + m.sum, sq := l.sq + m.sq } }

/-- Does 160 times the decimal logarithm of `num ÷ den` reach `v − 1/2`? It never equals a half step, so that rounding to the nearest is
the convergent one. -/
def logGe (num den : Nat) (v : Int) : Bool :=
  let e := 2 * v - 1
  if 0 ≤ e then decide (10 ^ e.toNat * den ^ 320 ≤ num ^ 320) else decide (den ^ 320 ≤ num ^ 320 * 10 ^ (-e).toNat)

/-- `10·log10 (num ÷ den)` in 1/16 dB, rounded to nearest, for positive numbers and a result within ±2,047. -/
def log16 (num den : Nat) : Int :=
  (List.range 12).foldl (fun (v : Int) i =>
    let w := v + (2 ^ (11 - i) : Nat)
    if logGe num den w then w else v) (-2048)

/-- The mean of a level in output units, rounded convergently. -/
def levelMean (l : LevelSum) : Int := roundDiv l.sum l.n

/-- The standard deviation of a level in 1/16 output unit, rounded to nearest: 16·√(n·Σy² − (Σy)²) ÷ n. -/
def levelSigma (l : LevelSum) : Nat :=
  let v := (l.n : Int) * l.sq - l.sum * l.sum
  let r := Nat.sqrt (1024 * v.toNat / (l.n * l.n))
  (r + 1) / 2

/-- Twice the error of a decided symbol (R116): decision-directed, or blind against 2.5·LEVEL. -/
def twiceError (blind : Bool) (level y tv : Int) : Int :=
  if blind then 2 * y - 5 * level * (if y < 0 then -1 else if y = 0 then 0 else 1) else 2 * (y - tv)

/-- Twice the gradient of one block, bins 0 to 256 (R116): conj(X_k) times the transform of the error block; at E3 the bins from 154 on
are not accumulated (R128). -/
def blockGrad (e3 : Bool) (b : EqBlock) : List (Int × Int) :=
  let er := fft512 false (realBlock (List.replicate 256 0 ++ b.errs))
  (List.range 257).map fun k =>
    if e3 && decide (154 ≤ k) then (0, 0)
    else
      let x := b.bins.getD k (0, 0)
      let p := cmul (x.1, -x.2) (er.1.getD k (0, 0))
      (p.1 * 2 ^ (b.ef + er.2), p.2 * 2 ^ (b.ef + er.2))

/-- Sums two gradients bin by bin. -/
def gradAdd (a b : List (Int × Int)) : List (Int × Int) :=
  (List.range 257).map fun k => ((a.getD k (0, 0)).1 + (b.getD k (0, 0)).1, (a.getD k (0, 0)).2 + (b.getD k (0, 0)).2)

/-- A gradient from its doubled sums as E_G and 16-bit mantissas (R117): the least exponent that holds every component (log 68). -/
def gradPack (g : List (Int × Int)) : Nat × List Word :=
  let fits := fun (e : Nat) => g.all fun a => decide ((roundDiv a.1 (2 ^ (e + 1))).natAbs < 2 ^ 15) &&
    decide ((roundDiv a.2 (2 ^ (e + 1))).natAbs < 2 ^ 15)
  let e := ((List.range 31).find? fits).getD 31
  let m := fun (x : Int) => twos 16 (clampI (-32768) 32767 (roundDiv x (2 ^ (e + 1))))
  (e, g.map fun a => BitVec.ofNat 32 (m a.2 * 2 ^ 16 + m a.1))

end Sys2Proof.Machine
end

