-- ==== Sys2Proof/Machine/Lane.lean ====
section
/-!
DEFINITION. Sys2Proof/Machine/Lane.lean: line lanes (03): the acquisition engine of R91, losses of R99, the power and clip
detectors, and the lanes' entry to and exit from OFF.
-/
namespace Sys2Proof.Machine
open Sys2Proof

/-- Event code of a LANE_EVENTS bit, carried with the lane and LAST_LOSS or STATE (R104, R419). -/
def laneEvent (s : State) (f p b a0 : Nat) (fld : Fld) : State :=
  stickyEvent s fld { code := 0x1000 + b, kind := 1, index := 9 * f + p, a0 := a0 }

/-- States whose entry or exit notifies the face Hewer: CONVERGE and LOCKED (R276). -/
def acqNotable (a b : Nat) : Bool := a != b && (a == 5 || a == 7 || b == 5 || b == 7)

/-- Soft values that no codeword takes leave the decoder, and the counts of a VERIFY window start over (R93, R143). -/
def softDrop (s : State) (f d : Nat) : State :=
  let x := s.rxd f d
  s.setRxd f d { x with dp := { x.dp with soft := [], softAt := (x.dp.softAt + x.dp.soft.length) % 256, winWords := 0, winFails := 0 } }

/-- Puts the engine into a state (R91) with what follows from the state alone: LOCKED, FROZEN (R86), the Hewer's notice
(R276), and codeword alignment, which holds only from VERIFY to the end of LOCKED or RELOCK (R143, R152). -/
def setAcq (s : State) (f p st : Nat) : State :=
  let old := s.rd (LANE_ACQ_STATUS_STATE f p)
  let s := s.wrs [(LANE_ACQ_STATUS_STATE f p, st), (LANE_ACQ_STATUS_LOCKED f p, bit (decide (st = 7))),
    (LANE_AGC_FROZEN f p, bit (decide (st = 7 ∨ st = 8)))]
  let x := s.lane f p
  let s := s.setLane f p { x with amRun := 0, amPhase := if st = 7 then x.amPhase else 0, amMisses := 0 }
  let s := if st = 7 then s else
    (laneDps s f p).foldl (fun t d => softDrop (t.wrs [(CODE_STATUS_SYNC f d, 0), (CODE_STATUS_AM_LOCK f d, 0)]) f d)
      (s.wr (LANE_ACQ_STATUS_MODE_MISMATCH f p) 0)
  if acqNotable old st then raiseIrq s f 5 else s

/-- Quality metrics of a datapath start over (R132), and with them the window in progress. SIGMA reads 0x0000, its Reset column, where
R132 names 0x8000 for each field (DESIGN CHOICE: the two differ; notes/assumptions/73.md). -/
def qualReset (s : State) (f d : Nat) : State :=
  let x := s.rxd f d
  (s.dropRegs fun a => decide (QUAL_SNR f d ≤ a) && decide (a < QUAL_LEVEL f d 4)).setRxd f d { x with dp := { x.dp with qual := {} } }

/-- Entry to DETECT: the clip count clears (R101), RESTART reads 0 again (03, registers). -/
def enterDetect (s : State) (f p : Nat) : State :=
  (setAcq s f p 1).wrs [(LANE_CLIP_COUNT_CLIPS f p, 0), (LANE_ACQ_CTRL_RESTART f p, 0)]

/-- The engine's conditions for running (R78, R91): the face receives, and the lane is in use and not sealed. -/
def laneMayRun (s : State) (f p : Nat) : Bool :=
  facePresent s f && (optState s f == 4 || optState s f == 5) && !laneSealed s f p && laneInUse s f p

/-- What a lane that stops being LOCKED, or stops altogether, ends with it (R84, R103, R218). -/
def laneDrops (s : State) (f p cls : Nat) : State :=
  let s := if s.rd (LANE_MAP_AUX_SHADOW_LANE f) = p then rotationAbandon s f 1 cls else s
  let s := calAbandon (standInEnd s f p) f p cls
  seamOff s f p

/-- To OFF at once (R91, R99): no cause is recorded, GAIN stays (R86), P_NOW reads none (R87). -/
def laneToOff (s : State) (f p : Nat) : State :=
  if s.rd (LANE_ACQ_STATUS_STATE f p) = 0 then s
  else
    let s := laneDrops s f p 4
    let x := s.lane f p
    let s := s.setLane f p { x with cands := [], cand := none, emptyDwells := 0, blocks := [], relockWindow := false }
    let s := (laneDps s f p).foldl (fun t d => t.wr (TR_STATUS_STEER f d) 0) s
    let s := (setAcq s f p 0).wrs [(LANE_POWER_P_NOW f p, 0x8000), (LANE_ACQ_STATUS_MODE f p, 0)]
    obsLaneOff (laneOutEval (effortE0 s f p) f p) f p

/-- Out of OFF into DETECT (R91, R94, R95): the attempt counts and the cause start over. -/
def laneFromOff (s : State) (f p : Nat) : State :=
  if s.rd (LANE_ACQ_STATUS_STATE f p) = 0 then
    let s := enterDetect s f p
    let s := s.setLane f p { s.lane f p with acqStart := s.mono, emptyDwells := 0, cands := [], cand := none, blocks := [] }
    let s := s.wrs [(LANE_ACQ_STATUS_LAST_LOSS f p, 0), (LANE_ACQ_STATUS_ATTEMPTS f p, 0), (LANE_ACQ_STATUS_FALSE_LOCKS f p, 0)]
    let d := laneDp s f p
    tapEval (if d = 15 then s else s.wr (TR_STATUS_STEER f d) 1) f
  else s

/-- The engine of a lane follows its conditions (R78, R91). -/
def laneEval (s : State) (f p : Nat) : State :=
  if laneMayRun s f p then laneFromOff s f p else laneToOff s f p

/-- Every lane of a face. -/
def lanesEval (s : State) (f : Nat) : State := (List.range 9).foldl (fun t p => laneEval t f p) s

/-- LANE_EVENTS bit of a cause of R99. -/
def lossField (f p cause : Nat) : Fld :=
  match cause with
  | 1 => LANE_EVENTS_LOS f p | 2 => LANE_EVENTS_AM_LOSS f p | 3 => LANE_EVENTS_DEC_FAIL f p | 4 => LANE_EVENTS_STEP f p
  | 5 => LANE_EVENTS_CLIP f p | 6 => LANE_EVENTS_TIMING f p | 7 => LANE_EVENTS_RESTART f p | _ => LANE_EVENTS_MODE_CHANGE f p

/-- P_NOW lies within ±1.0 dB of P_LOCK (R102). -/
def powerNearLock (s : State) (f p : Nat) : Bool :=
  let a := s.rd (LANE_POWER_P_NOW f p)
  let b := s.rd (LANE_POWER_P_LOCK f p)
  a != 0x8000 && b != 0x8000 && decide (sext 16 a - sext 16 b ≤ 16) && decide (sext 16 b - sext 16 a ≤ 16)

/-- The state that a loss enters (R99, R102). -/
def lossEnters (s : State) (f p cause : Nat) : Nat :=
  if cause = 1 ∨ cause = 7 then 1
  else if (cause = 2 ∨ cause = 3 ∨ cause = 6) ∧ s.on (LANE_ACQ_CTRL_RELOCK_EN f p) ∧ powerNearLock s f p then 8
  else 2

/-- A loss of R99: cause, event, OUT_VALID, rotation and stand-in (R103), effort E0 (R96), and the state entered. A loss from
LOCKED starts a new acquisition (R94, R95). Only RELOCK keeps the mode: elsewhere none is locked or a candidate (03, registers). -/
def laneLossCore (s : State) (f p cause : Nat) : State :=
  let wasLocked := s.rd (LANE_ACQ_STATUS_STATE f p) == 7
  let dest := lossEnters s f p cause
  let s := s.wr (LANE_ACQ_STATUS_LAST_LOSS f p) cause
  let s := laneEvent s f p (if cause ≤ 6 then cause else cause + 2) cause (lossField f p cause)
  let s := laneDrops s f p 4
  let s := if wasLocked then
      (s.wr (LANE_ACQ_STATUS_ATTEMPTS f p) 0).setLane f p { s.lane f p with acqStart := s.mono }
    else s
  let x := s.lane f p
  let s := s.setLane f p { x with cands := [], cand := none, relockWindow := false, emptyDwells := 0 }
  let s := if dest = 1 then enterDetect s f p else setAcq s f p dest
  let s := if dest = 8 then s else s.wr (LANE_ACQ_STATUS_MODE f p) 0
  laneOutEval (effortE0 s f p) f p

/-- RELOCK fails into SETTLE (R91): the mode that it kept is given up. -/
def relockFailed (s : State) (f p : Nat) : State :=
  laneOutEval ((setAcq (s.setLane f p { s.lane f p with relockWindow := false }) f p 2).wr (LANE_ACQ_STATUS_MODE f p) 0) f p

/-- Modes searched: bits outside FACE.MODES are ignored (R98). -/
def searchModes (s : State) (f p : Nat) : Nat := Nat.land (s.rd (LANE_ACQ_CTRL_MODE_EN f p)) (faceModes s f)

/-- A LOCKED lane whose mode is enabled no longer. -/
def modeRemoved (s : State) (f p : Nat) : Bool :=
  s.rd (LANE_ACQ_STATUS_STATE f p) == 7 && !nbit (searchModes s f p) (s.rd (LANE_ACQ_STATUS_MODE f p) - 1)

/-- Changes of MODE_EN that waited for the face's sealing handshake take effect (R31, R98). -/
def modeEnCheck (s : State) (f : Nat) : State :=
  (List.range 9).foldl (fun t p => if modeRemoved t f p then laneLossCore t f p 8 else t) s

/-- Ranks of equal magnitude: L400P, L400, L200P, L200 (R92). -/
def toneRank (m : Nat) : Nat := match m with | 1 => 0 | 0 => 1 | 3 => 2 | _ => 3

/-- Is tone `a` tried before `b` (R92)? -/
def toneBefore (a b : Tone) : Bool :=
  decide (b.mag < a.mag) || (a.mag == b.mag && decide (toneRank a.mode.val < toneRank b.mode.val))

def toneInsert (t : Tone) : List Tone → List Tone
  | [] => [t]
  | u :: us => if toneBefore t u then t :: u :: us else u :: toneInsert t us

/-- The candidates of a dwell, in the order in which they are tried (R92): enabled modes, within ±250 ppm, 12 dB or more above
the floor. -/
def candidates (modes : Nat) (ts : List Tone) : List Cand :=
  let ok := ts.filter fun t => nbit modes t.mode.val && decide (-16000 ≤ t.rate) && decide (t.rate ≤ 16000) && decide (192 ≤ t.above)
  (ok.foldr toneInsert []).map fun t => { mode := t.mode.val + 1, ppm := t.rate }

/-- A SEARCH dwell starts; the modes in force at its start count (R98, R103). -/
def enterSearch (s : State) (f p : Nat) : State :=
  let s := setAcq s f p 3
  s.setLane f p { s.lane f p with cands := [], cand := none, dwellModes := searchModes s f p }

/-- The next candidate of the list enters RETUNE, or SEARCH begins again (R91, R94). -/
def nextCand (s : State) (f p : Nat) : State :=
  let x := s.lane f p
  match x.cands with
  | [] => enterSearch (s.wr (LANE_ACQ_STATUS_MODE f p) 0) f p
  | c :: cs =>
    let s := s.setLane f p { x with cands := cs, cand := some c, pllPpm := c.ppm }
    let s := ((setAcq s f p 4).wr (LANE_ACQ_STATUS_MODE f p) c.mode).incSat (LANE_ACQ_STATUS_ATTEMPTS f p)
    let s := if (tapNow s f).lane = p then tapRestartEff s f else s
    let d := laneDp s f p
    if d = 15 then s
    else corrLoad (s.wrs [(RXD_STATUS_MODE f d, c.mode), (TR_STATUS_FREQ f d, twos 16 c.ppm), (TR_STATUS_STEER f d, 1),
      (TR_STATUS_F_LIMIT f d, 0), (TR_STATUS_P_LIMIT f d, 0)]) f d p

/-- Entry to LOCKED (R86, R87, R93, R95, R97, R132): AGC frozen, P_LOCK, LOCK_TIME, the LOCK event, metrics from anew, mismatch
against the port's mode, OUT_VALID, and in the paired modes seam training (R218). -/
def enterLocked (s : State) (f p : Nat) : State :=
  let mode := s.rd (LANE_ACQ_STATUS_MODE f p)
  let s := setAcq s f p 7
  let x := s.lane f p
  let s := s.wrs [(LANE_POWER_P_LOCK f p, s.rd (LANE_POWER_P_NOW f p)),
    (LANE_ACQ_TIME_LOCK_TIME f p, min 0xFFFFFFFF ((s.mono - x.acqStart) / 1000)),
    (LANE_ACQ_STATUS_MODE_MISMATCH f p, bit (modeMismatch s f p mode))]
  let s := match portOfLane s f p with
    | some n => if modeMismatch s f p mode then s.wr (PORT_STATUS_FAIL n) 4 else s
    | none => s
  let s := (laneDps s f p).foldl (fun t d => qualReset t f d) s
  let s := s.setLane f p { x with relockWindow := false, cands := [], cand := none }
  let s := laneEvent s f p 0 7 (LANE_EVENTS_LOCK f p)
  laneOutEval (seamStart (calBootstrap s f p) f p) f p

/-- Does `p` hold at `k` or more of the places from `t` on, `n` of them left? -/
def reaches (p : Nat → Bool) : Nat → Nat → Nat → Bool
  | _, _, 0 => true
  | 0, _, _ + 1 => false
  | n + 1, t, k + 1 => if p t then reaches p n (t + 1) k else reaches p n (t + 1) (k + 1)

/-- A candidate alignment gives codeword `t` a zero hard syndrome (R141, R143): `sym` is the level index of a symbol counted from a clock
boundary, none where there is none. -/
def zeroWord (cols : List Nat) (sym : Nat → Option Nat) (o : Nat) (inv : Bool) (t : Nat) : Bool :=
  let c := (List.range 128).map fun s => sym (o + 128 * (t + s % 16) + s)
  c.all Option.isSome &&
    goppaSyndrome cols (c.flatMap fun i => let b := grayBits (i.getD 0); [b.1 != inv, b.2]) == 0

/-- The search of R143: the first of the 256 candidates, by rising offset and not inverted first, that gives eight or more zero syndromes
among 256 codewords. -/
def alignSearch (sym : Nat → Option Nat) : Option (Nat × Bool) :=
  let cols := goppaCols
  (List.range 256).findSome? fun i =>
    if reaches (zeroWord cols sym (i / 2) (i % 2 == 1)) 256 0 8 then some (i / 2, i % 2 == 1) else none

/-- Symbol `i` of periods of 128. -/
def periodSym (ps : List (List Nat)) (i : Nat) : Option Nat := (ps[i / 128]?).bind fun l => l[i % 128]?

/-- The boundary and polarity that a window takes (R143, R150): in L400 and L400P those of the search; in L200 and L200P those that the
markers give. -/
def alignTaken (mode : Nat) (v : Verify) : Option (Nat × Bool) :=
  if mode ≤ 2 then alignSearch (periodSym (v.hard.map fun l => l.map Fin.val)) else v.bound.map fun a => (a.1.toNat % 64, a.2)

/-- The window's alignment: the one that it holds already, or the one that the command brings. -/
def windowAlign (s : State) (f p : Nat) (v : Verify) : Option (Nat × Bool) :=
  let d := laneDp s f p
  if d ≠ 15 ∧ s.on (CODE_STATUS_SYNC f d) then some (s.rd (CODE_STATUS_OFFSET f d), s.on (CODE_STATUS_INVERTED f d))
  else alignTaken (s.rd (LANE_ACQ_STATUS_MODE f p)) v

/-- Codewords decoded and failed in the window (R93): those that passed the decoder, and the command's for the others. -/
def windowWords (s : State) (f p : Nat) (v : Verify) : Nat × Nat :=
  let x := (s.rxd f (laneDp s f p)).dp
  (x.winWords + v.words, x.winFails + v.fails)

/-- The lock test of R93: AM lock was declared in the window, and of 4,096 or more codewords fewer than 1 in 100 fail. -/
def lockTest (s : State) (f p : Nat) (v : Verify) : Bool :=
  let w := windowWords s f p v
  laneDp s f p != 15 && s.on (CODE_STATUS_AM_LOCK f (laneDp s f p)) && decide (4096 ≤ w.1) && decide (w.2 * 100 < w.1)

/-- Takes the alignment found (R143 step 2), unless one is held. -/
def takeAlign (s : State) (f p : Nat) (a : Option (Nat × Bool)) : State :=
  match a with
  | none => s
  | some (o, inv) =>
    let d := laneDp s f p
    if d = 15 ∨ s.on (CODE_STATUS_SYNC f d) then s
    else (s.wrs [(CODE_STATUS_SYNC f d, 1), (CODE_STATUS_OFFSET f d, o), (CODE_STATUS_INVERTED f d, bit inv)]).incMod
      (CODE_STATUS_RESYNCS f d)

/-- The lane is in pattern mode (R208): the checker of its datapath is enabled. -/
def patternMode (s : State) (f p : Nat) : Bool := laneDp s f p != 15 && s.on (RXD_PRBS_CTRL_CHK_EN f (laneDp s f p))

/-- The test of R208: SYNC through the last 500 us with an error ratio below 1 in 100. -/
def patTest (v : Verify) : Bool :=
  match v.pat with
  | some (b, e) => decide (e * 100 < b)
  | none => false

/-- A 1 ms VERIFY window ends (R93, R94, R143): LOCKED, or a false lock in VERIFY, or SETTLE from RELOCK (R91). -/
def verifyEnd (s : State) (f p : Nat) (v : Verify) : State :=
  let st := s.rd (LANE_ACQ_STATUS_STATE f p)
  let pat := patternMode s f p
  let a := if pat then none else windowAlign s f p v
  let s := takeAlign s f p a
  if (pat && patTest v) || (a.isSome && lockTest s f p v) then enterLocked s f p
  else if st = 8 then relockFailed s f p
  else
    let s := s.incSat (LANE_ACQ_STATUS_FALSE_LOCKS f p)
    nextCand (laneEvent s f p 7 6 (LANE_EVENTS_FALSE_LOCK f p)) f p

/-- Is the lane's engine in a state? -/
def acqIn (s : State) (f p st : Nat) : Bool := s.alive && s.rd (LANE_ACQ_STATUS_STATE f p) == st

/-- AGC gain code and AT_LIMIT (R85, R86): the gain moves only while the AGC runs. -/
def setGain (s : State) (f p g : Nat) : State :=
  if s.rd (LANE_ACQ_STATUS_STATE f p) = 0 ∨ s.on (LANE_AGC_FROZEN f p) then s
  else s.wrs [(LANE_AGC_GAIN f p, g), (LANE_AGC_AT_LIMIT f p, bit (decide (g = 0 ∨ g = 127)))]

/-- P_IN in 1/16 dB (R85, R87): the mean square of `n` codes against 127², less the gain −6 + 0.25·c dB. A block of zeros lies below every
value. -/
def powerIn (sumSq n gain : Nat) : Int :=
  if sumSq = 0 ∨ n = 0 then -32767 else log16 sumSq (16129 * n) + 96 - 4 * gain

/-- P_NOW as the field holds it: values below the field's range saturate (R87); the operand is in 1/16 dB. -/
def powerField (x : Int) : Nat := twos 16 (clampI (-32767) 32767 x)

/-- A power step (R100): 3.0 dB or more above the lowest of the ten blocks before it. -/
def powerStep (blocks : List Int) (x : Int) : Bool :=
  decide (blocks.length = 10) &&
    (match blocks with
     | [] => false
     | b :: bs => decide (bs.foldl min b + 48 ≤ x))

/-- A clip fraction above 1/8192 (R101). -/
def clipLoss (clipped samples : Nat) : Bool := decide (samples < clipped * 8192)

end Sys2Proof.Machine
end

