-- ==== Sys2Proof/Machine/LongOp.lean ====
section
/-!
DEFINITION. Sys2Proof/Machine/LongOp.lean: handles of long operations and how they end (R311-R314), and the staging claim (R68).
-/
namespace Sys2Proof.Machine
open Sys2Proof

/-- OP codes of R312. -/
def OpKind.code : OpKind → Nat
  | .calibrate .. => 1 | .assayRun .. => 2 | .scrubFull .. => 3 | .captureDrain .. => 4 | .planLoad .. => 5 | .flashWrite .. => 6
  | .ddrTest .. => 7 | .burnFloor .. => 8 | .burnLimits => 8 | .burnKey .. => 8 | .burnRevoke .. => 8 | .faceReplan .. => 9

/-- STATE codes of R314. -/
def OpState.code : OpState → Nat
  | .queued => 0 | .running => 1 | .suspending => 2 | .suspended => 3 | .cancelling => 4 | .done => 5 | .failed => 6 | .cancelled => 7

/-- Is a state terminal? -/
def OpState.terminal : OpState → Bool
  | .done => true | .failed => true | .cancelled => true | _ => false

/-- The handle. -/
def State.op (s : State) (h : Nat) : Option LongOp := s.ops.find? fun o => o.handle == h

/-- Changes one handle. -/
def State.opUpd (s : State) (h : Nat) (g : LongOp → LongOp) : State :=
  { s with ops := s.ops.map fun o => if o.handle == h then g o else o }

/-- Is the operation at work: RUNNING, SUSPENDING or CANCELLING? -/
def opActive (o : LongOp) : Bool := o.state == .running || o.state == .suspending || o.state == .cancelling

/-- May the work of handle `h` go on, or nothing of an operation be concerned (0)? No item of a suspended, suspending or cancelled
operation is released (R311, R312). -/
def opGoes (s : State) (h : Nat) : Bool := h == 0 || (match s.op h with | some o => o.state == .running | none => true)

/-- The handle that a burn belongs to. -/
def Burn.handle : Burn → Option Nat
  | .seal _ => none | .floor h => some h | .limits h _ _ _ => some h | .lock h => some h | .key h _ _ => some h | .revoke h _ => some h

/-- `done` of `n` as PROGRESS of an operation that runs (R314). -/
def fraction (done n : Nat) : Nat := min 0xFFFE (done * 65536 / n)

/-- The bits of `x` below `n`. -/
def bitsOf (n x : Nat) : List Nat := (List.range n).filter (nbit x)

/-- PROGRESS of an operation at work (R314): items, BIST slices and burns count; others hold what was last measured. -/
def opProgress (s : State) (o : LongOp) : Nat :=
  if !(opActive o || (o.state == .suspended && !o.fromQueue)) then o.progress
  else match o.kind with
  | .calibrate _ lanes kind =>
    let n := if kind = 4 then 1 else (bitsOf 9 lanes).length
    fraction (n - (s.calQ.filter fun x => x.op == o.handle).length) n
  | .assayRun _ dps =>
    let n := 8 * (bitsOf 9 dps).length * (bit (nbit dps 14) + bit (nbit dps 15))
    fraction (n - ((s.assayQ.filter fun x => x.op == o.handle).map fun x => 8 - x.slice).sum) n
  | .burnFloor _ | .burnLimits | .burnKey .. | .burnRevoke _ =>
    fraction (o.step - (s.burnQ.filter fun b => b.handle == some o.handle).length) o.step
  | _ => o.progress

/-- The 24-byte reply of R314 as six words. -/
def opStatusWords (o : LongOp) : List Word :=
  [o.handle % 2 ^ 16 + o.kind.code * 2 ^ 16 + o.state.code * 2 ^ 24, o.progress % 2 ^ 16 + o.result % 256 * 2 ^ 16 + o.detail % 256 * 2 ^ 24,
   o.start % 2 ^ 32, o.start / 2 ^ 32, o.finish % 2 ^ 32, o.finish / 2 ^ 32].map (BitVec.ofNat 32)

/-- CLAIMED shows the claim (R68). -/
def claimSet (s : State) (c : Option (Option Nat)) : State := { s.wr PLAN_STAGE_PTR_CLAIMED (bit c.isSome) with claim := c }

/-- Claims the staging area; capture ends and its data is discarded (R68). -/
def claimTake (s : State) (c : Option Nat) : State := claimSet (if s.claim.isSome then s else capDiscardAll s) (some c)

/-- The NOTICE of a terminal state to the starting session, if it still exists (R311). -/
def opNotice (s : State) (o : LongOp) : State :=
  match s.sessions.find? fun x => x.id == o.session with
  | some x =>
    (s.sessUpd x.id fun y => { y with sent := y.sent + 1 }).send
      { port := x.port, session := x.id, seq := x.sent + 1, ver := x.ver, op := 0x24, flags := 2, status := 0, words := opStatusWords o }
  | none => s

/-- A handle enters a terminal state with the PROGRESS given (R311, R314); its claim ends (R68). -/
def opEndAt (s : State) (h : Nat) (st : OpState) (result detail progress : Nat) : State :=
  match s.op h with
  | none => s
  | some o =>
    if o.state.terminal then s
    else
      let o' := { o with state := st, result := result, detail := detail, finish := s.time, progress := progress }
      let s := s.opUpd h fun _ => o'
      let s := if s.claim = some (some h) then claimSet s none else s
      opNotice s o'

/-- The same with the PROGRESS of R314: 0xFFFF in DONE, else the last value reached. -/
def opEnd (s : State) (h : Nat) (st : OpState) (result detail : Nat) : State :=
  opEndAt s h st result detail (if st = .done then 0xFFFF else ((s.op h).map (opProgress s)).getD 0)

end Sys2Proof.Machine
end

