-- ==== Sys2Proof/Machine/Ddr.lean ====
section
/-!
DEFINITION. Sys2Proof/Machine/Ddr.lean: the system address space of DDR4 (R411) and reads and writes of its words. What a word
holds before it is written is a free value (R399: undefined; notes/assumptions/4.md).
-/
namespace Sys2Proof.Machine
open Sys2Proof

/-- Bytes of the system address space (R411; DDR_STATUS.CAPACITY in GiB). -/
def ddrTotal (s : State) : Nat := ((ddrFitted s).map fun c => s.rd (DDR_STATUS_CAPACITY c) * 2 ^ 30).sum

/-- Channels, as a mask, of the DDR_TEST at work (R414). -/
def ddrTestMask (s : State) : Nat :=
  match s.ops.find? fun o => opActive o && o.kind.code == 7 with
  | some o => match o.kind with
    | .ddrTest c _ => c
    | _ => 0
  | none => 0

/-- Does a copy of `n` bytes from system byte `a` touch a channel under DDR_TEST (R414)? -/
def ddrTested (s : State) (a n : Nat) : Bool :=
  ddrTestMask s != 0 && (List.range (min 4 (ceilDiv (a % 4096 + n) 4096))).any fun j => nbit (ddrTestMask s) (ddrPlace s (a / 8 + 512 * j)).1

/-- Reads system word `w`: the data and whether it is poisoned or uncorrectable. -/
def ddrReadW (s : State) (w : Nat) : State × Nat × Bool :=
  let (c, lw) := ddrPlace s w
  let s := if w % 8 = 0 then pcCount s (68 + c) 0 15 1 else s
  match s.tag (16 + c) 0 lw with
  | none => (s, leNat ((List.range 8).map fun j => (Config.ddrByte s.ddrEpoch (8 * w + j)).toNat), false)
  | some _ => memReadWord s (16 + c) 0 lw

/-- One write of at most a line, at byte `o` of system line `l` (R402, R410): below 64 bytes the line is read, its old words decide, and
words that are covered in part or not at all are merged. -/
def ddrWriteLine (s : State) (l o : Nat) (bs : List Nat) : State :=
  let (c, lw) := ddrPlace s (8 * l)
  let s := if bs.length < 64 then pcCount (pcCount s (68 + c) 0 15 1) (68 + c) 2 15 1 else s
  let s := (List.range 8).foldl (fun t j =>
    if o ≤ 8 * j ∧ 8 * j + 8 ≤ o + bs.length then memWriteWord t (16 + c) 0 (lw + j) (leNat ((bs.drop (8 * j - o)).take 8))
    else
      let new := (bs.take (8 * j + 8 - o)).drop (8 * j - o)
      let at_ := max o (8 * j) - 8 * j
      match t.tag (16 + c) 0 (lw + j) with
      | some _ => memMerge t (16 + c) 0 (lw + j) at_ new
      | none => if new = [] then t else memPutWord t (16 + c) 0 (lw + j)
          (mergeBytes 8 (leNat ((List.range 8).map fun i => (Config.ddrByte t.ddrEpoch (64 * l + 8 * j + i)).toNat)) at_ new)) s
  pcCount s (68 + c) 1 15 1

/-- Writes bytes from system byte `a` on, a line at a time; `k` bounds the lines. -/
def ddrWrite (s : State) : Nat → Nat → List Nat → State
  | 0, _, _ => s
  | k + 1, a, bs =>
    if bs = [] then s
    else
      let n := 64 - a % 64
      ddrWrite (ddrWriteLine s (a / 64) (a % 64) (bs.take n)) k (a + n) (bs.drop n)

/-- Reads `k` system words from `w` on, up to one that is poisoned or uncorrectable: their bytes, and whether all could be read. A line is
counted at its first word. -/
def ddrReadRun (s : State) (first : Bool) (w : Nat) : Nat → State × List Nat × Bool
  | 0 => (s, [], true)
  | k + 1 =>
    let s := if first && w % 8 != 0 then pcCount s (68 + (ddrPlace s w).1) 0 15 1 else s
    let (s, v, bad) := ddrReadW s w
    if bad then (s, [], false)
    else
      let (s, bs, ok) := ddrReadRun s false (w + 1) k
      (s, leBytes 8 v ++ bs, ok)

/-- Reads `n` bytes from system byte `a` on, up to a word that cannot be read. -/
def ddrRead (s : State) (a n : Nat) : State × List Nat × Bool :=
  let (s, bs, ok) := ddrReadRun s true (a / 8) (ceilDiv (a % 8 + n) 8)
  (s, (bs.drop (a % 8)).take n, ok)

end Sys2Proof.Machine
end

