-- ==== Sys2Proof/Machine/Otp.lean ====
section
/-!
DEFINITION. Sys2Proof/Machine/Otp.lean: OTP burns (R51, R53, R181, R359, R361, R466) and the lane map that OTP gives a face (R12).
-/
namespace Sys2Proof.Machine
open Sys2Proof

/-! ## What OTP shows -/

/-- The floor: committed increments (R53). -/
def Otp.floor (o : Otp) : Nat := (o.floors.filter id).length

/-- The committed digest of a key slot (R51). -/
def Otp.digest (o : Otp) (slot : Nat) : Option Nat := (o.keys.find? fun k => k.1 == slot && k.2.2).map fun k => k.2.1

/-- Places of a key slot that are burned. -/
def Otp.keyPlaces (o : Otp) (slot : Nat) : Nat := (o.keys.filter fun k => k.1 == slot).length

/-- Places of a face's limit records that are burned. -/
def Otp.limitPlaces (o : Otp) (f : Nat) : Nat := (o.limits.filter fun l => l.1 == f).length

/-- The last committed limit record of a face (R181). -/
def Otp.limitOf (o : Otp) (f : Nat) : Option (Nat × Nat) :=
  ((o.limits.filter fun l => l.1 == f && l.2.2.2).getLast?).map fun l => (l.2.1, l.2.2.1)

/-- The registers that show OTP (R51, R53, R359). -/
def otpShow (s : State) : State :=
  let o := s.otp
  let mask := fun (p : Nat → Bool) => ((List.range 4).map fun i => if p i then 2 ^ i else 0).sum
  s.wrs [(FM_SEAL_USED, (o.seals.filter fun r => r.2).length), (FM_SEAL_SPENT, o.seals.length), (FM_SEAL_PENDING, min 255 s.volatileSeals.length),
    (FUSE_STATUS_LIMITS_LOCK, bit o.lock), (FUSE_STATUS_SLOT_REVOKED, o.revoked), (FUSE_STATUS_SLOT_FILLED, mask fun i => (o.digest i).isSome),
    (PLAN_COUNTER_FLOOR, o.floor), (PLAN_COUNTER_SPENT, o.floors.length)]

/-- OPT_LIM as OTP gives it (R179): the last committed record, else 0. -/
def limitsShow (s : State) (f : Nat) : State :=
  let r := (s.otp.limitOf f).getD (0, 0)
  (s.setReg (OPT_LIM_A f) (BitVec.ofNat 32 r.1)).setReg (OPT_LIM_B f) (BitVec.ofNat 32 r.2)

/-! ## Sealings (R359) -/

/-- Sealing burns that wait. -/
def sealsQueued (s : State) : Nat := (s.burnQ.filter fun b => match b with | .seal _ => true | _ => false).length

/-- Retires an element: its record burns, or the retirement is volatile and is logged (R359). -/
def sealBurn (s : State) (r : SealRec) : State :=
  if s.on FUSE_STATUS_VPP_OK && decide (s.otp.seals.length + sealsQueued s < 255) then { s with burnQ := s.burnQ ++ [.seal r] }
  else
    logEvent (otpShow { s with volatileSeals := s.volatileSeals ++ [r] })
      { code := 0x0246, kind := if r.kind = 6 then 8 else 4, index := r.face, a0 := r.kind, a1 := r.index, a2 := r.sub }

/-- A sealed memory row's record (R409). -/
def rowSealBurn (s : State) (a i row : Nat) : State := sealBurn s { kind := 6, face := a, index := i, sub := row }

/-- Seals what a hard error found. -/
def hardErrorSeal (s : State) (a i w : Nat) (done : Bool) : State := if done then rowSealBurn s a i (w / 128) else s

/-- Every retirement in effect: committed records, burns that wait, volatile ones. -/
def sealsInEffect (s : State) : List SealRec :=
  ((s.otp.seals.filter fun r => r.2).map Prod.fst) ++ (s.burnQ.filterMap fun b => match b with | .seal r => some r | _ => none) ++
    s.volatileSeals

/-! ## The burn under way (R466) -/

/-- A limits operation burns each present face, then the fuse (R181); a floor operation up to its value (R53). -/
def burnsOf (s : State) (h : Nat) : OpKind → List Burn
  | .burnFloor v => (List.range (v - s.otp.floor)).map fun _ => .floor h
  | .burnLimits => (((List.range 16).filter (facePresent s)).map fun f =>
      Burn.limits h f (s.reg (OPT_LIM_A f)).toNat (s.reg (OPT_LIM_B f)).toNat) ++ [.lock h]
  | .burnKey slot d => [.key h slot d]
  | .burnRevoke slot => [.revoke h slot]
  | _ => []

/-- What one burn leaves in OTP; a record that did not commit spends its place (R361). -/
def Otp.burn (o : Otp) (b : Burn) (ok : Bool) : Otp :=
  match b with
  | .seal r => { o with seals := o.seals ++ [(r, ok)] }
  | .floor _ => { o with floors := o.floors ++ [ok] }
  | .limits _ f a b => { o with limits := o.limits ++ [(f, a, b, ok)] }
  | .lock _ => if ok then { o with lock := true } else o
  | .key _ k d => { o with keys := o.keys ++ [(k, d, ok)] }
  | .revoke _ k => if ok then { o with revoked := nbitSet o.revoked k true } else o

/-- The burn in front commits (R466); its operation ends when nothing of it is left, or at this point when it was cancelled. -/
def burnDone (s : State) : State :=
  match s.burnQ with
  | [] => s
  | b :: bs =>
    let s := otpShow { s with otp := s.otp.burn b true, burnQ := bs }
    match b with
    | .seal r => logEvent s { code := 0x0245, kind := if r.kind = 6 then 8 else 4, index := r.face, a0 := r.kind, a1 := r.index, a2 := r.sub }
    | _ =>
      match b.handle with
      | none => s
      | some h =>
        let rest := bs.filter fun x => x.handle == some h
        match s.op h with
        | some o =>
          if rest = [] then opEnd s h .done 0 0
          else if o.state = .cancelling then
            opEnd { s with burnQ := bs.filter fun x => x.handle != some h } h .cancelled 0 0
          else s
        | none => s

/-- Programming stops (R361, R456): the record in front stays uncommitted, sealings that waited turn volatile, operations end
FAILED with DOMAIN_OFF when `fail` says so (R312). -/
def burnsStop (s : State) (fail : Bool) : State :=
  let front := match s.burnQ with
    | [] => s.otp
    | b :: _ => s.otp.burn b false
  let vol := s.burnQ.filterMap fun b => match b with | .seal r => some r | _ => none
  let hs := s.burnQ.filterMap Burn.handle
  let s := otpShow { s with otp := front, burnQ := [], volatileSeals := s.volatileSeals ++ vol }
  if fail then hs.foldl (fun t h => opEnd t h .failed stDomainOff 0) s else s

/-! ## The lane map of a face (R12) -/

/-- The relief and map registers of a face as the retirements in effect give them (R12, R43): dk serves pk; a sealed datapath is
replaced by d8; a position with a substitution is served on p8 with the datapaths that its sealed lane has free. -/
def faceMapReset (s : State) (f : Nat) : State :=
  let rs := (sealsInEffect s).filter fun r => r.face == f && decide (r.kind < 6)
  let has := fun (k i : Nat) => rs.any fun r => r.kind == k && r.index == i
  let rx := (List.range 9).filter (has 1)
  let tx := (List.range 9).filter (has 2)
  let subs := (rs.find? fun r => r.kind == 3 || r.kind == 5).map fun r => r.sub
  let pos := facePositions s f
  let s := s.wrs [(RELIEF_STATE_DP_SEALED f, ((rx.map fun i => 2 ^ i).sum)), (LANE_MAP_TX_AUX_TX_SEALED f, ((tx.map fun i => 2 ^ i).sum)),
    (RELIEF_STATE_LANE_SEALED f, (((List.range 9).filter fun p => has 3 p || has 4 p).map fun i => 2 ^ i).sum),
    (RELIEF_STATE_SLICE_RELIEF_USED f, (((List.range 9).filter fun p => has 0 p).map fun i => 2 ^ i).sum),
    (LANE_MAP_AUX_SHADOW_LANE f, 15), (LANE_MAP_TX_AUX_PARALLEL_LANE f, 15)]
  let s := (List.range 9).foldl (fun t p =>
    let d := if p = 8 then 15 else if rx.contains p then 8 else p
    let e := if p = 8 then 15 else if tx.contains p then 8 else p
    setTxLaneDp (setLaneDp t f p d) f p e) s
  let s := s.wrs [(RELIEF_STATE_RELIEF_DP f, if rx = [] then 8 else 15), (LANE_MAP_TX_AUX_TX_RELIEF f, if tx = [] then 8 else 15)]
  let s := (List.range 8).foldl (fun t k => setPosLane t f k (if nbit pos k then k else 15)) s
  let s := match subs with
    | none => s
    | some k =>
      let d := laneDp s f k
      let e := txLaneDp s f k
      let s := setPosLane s f k 8
      let rd := s.rd (RELIEF_STATE_RELIEF_DP f)
      let te := s.rd (LANE_MAP_TX_AUX_TX_RELIEF f)
      let s := if rd = 15 then setLaneDp (setLaneDp s f 8 d) f k 15
        else (setLaneDp (setLaneDp s f 8 rd) f k 15).wr (RELIEF_STATE_RELIEF_DP f) d
      if te = 15 then setTxLaneDp (setTxLaneDp s f 8 e) f k 15
      else (setTxLaneDp (setTxLaneDp s f 8 te) f k 15).wr (LANE_MAP_TX_AUX_TX_RELIEF f) e
  s.wr (RELIEF_STATE_RELIEF_OK f) (bit (reliefOk s f))

/-- A slice sealing shows in LANE_SLICE (R42, R377): the first gives the relief slice, a second marks the lane failing. -/
def sliceSealsShow (s : State) (f : Nat) : State :=
  (List.range 9).foldl (fun t p =>
    match (sealsInEffect t).filter fun r => r.kind == 0 && r.face == f && r.index == p with
    | [] => t
    | [r] => t.wrs [(LANE_SLICE_REPLACED f p, 1), (LANE_SLICE_RELIEF_FOR f p, r.sub)]
    | r :: r2 :: _ => t.wrs [(LANE_SLICE_REPLACED f p, 1), (LANE_SLICE_RELIEF_FOR f p, r.sub), (LANE_SLICE_FAILING f p, 1),
        (LANE_SLICE_FAIL_SLICE f p, r2.sub)]) s

/-! ## Rows -/

/-- R359: every volatile retirement is burned into a new place, while places last. -/
def execVppOtpApplied (s : State) : Out :=
  .next (guardS s.powered s fun s =>
    let s := s.wr FUSE_STATUS_VPP_OK 1
    if s.alive then
      let n := 255 - (s.otp.seals.length + sealsQueued s)
      otpShow { s with burnQ := s.burnQ ++ (s.volatileSeals.take n).map Burn.seal, volatileSeals := s.volatileSeals.drop n }
    else s)

/-- R456, R312, R361. -/
def execVppOtpRemoved (s : State) : Out := .next (guardS s.powered s fun s => burnsStop (s.wr FUSE_STATUS_VPP_OK 0) true)

end Sys2Proof.Machine
end

