-- ==== Sys2Proof/Machine/Optics.lean ====
section
/-!
DEFINITION. Sys2Proof/Machine/Optics.lean: transmit shaping and optical front-end control (06): optical states and the walk
between them, the face sideband, limits in force, eye safety, the ramp, external laser sources.
-/
namespace Sys2Proof.Machine
open Sys2Proof

/-! ## Shaping (R162-R165) -/

/-- A pending tap or predistortion entry as array 0x06 holds it: word `w` of datapath `d`, or its Reset column when the word
is not valid (R398, R399). -/
def txdWord (s : State) (f d w reset : Nat) : Nat :=
  match s.tag 6 f (d * 256 + w) with
  | none => reset
  | some _ => memRaw s 6 f (d * 256 + w)

/-- The pending set of a transmit datapath (R165). -/
def pendingShape (s : State) (f d : Nat) : ShapeSet :=
  { scale := s.rd (TXD_CTRL_SCALE f d)
    taps := (List.range 7).map fun j => sext 10 (txdWord s f d (4 + j) (if j = 2 then 256 else 0))
    pd := (List.range 64).filterMap fun i =>
      let v := sext 8 (txdWord s f d (64 + i) 0)
      if v = 0 then none else some (i, v) }

def State.shape (s : State) (f d : Nat) : ShapeSet := tabGet {} s.shapes (9 * f + d)
def State.setShape (s : State) (f d : Nat) (x : ShapeSet) : State := { s with shapes := tabSet {} s.shapes (9 * f + d) x }

/-- The level of an index (R122, R162). -/
def levelOf (invert : Bool) (i : Nat) : Int := 2 * ((if invert then 3 - i else i : Nat) : Int) - 3

/-- The DAC code before its clamp, for the symbol at place `n` of a run of level indices (R163, R164). -/
def dacRaw (x : ShapeSet) (invert : Bool) (syms : List Nat) (n : Nat) : Int :=
  let l := fun k => levelOf invert (syms.getD k 0)
  let idx := fun k => if invert then 3 - syms.getD k 0 else syms.getD k 0
  let u := ((List.range 7).map fun j => x.taps.getD j 0 * l (n + 2 - j)).sum
  roundDiv (u * x.scale) 256 + tabGet 0 x.pd (16 * idx (n - 1) + 4 * idx n + idx (n + 1))

/-- Clamped codes in a run, over the symbols whose seven taps lie within it. -/
def clampedCodes (x : ShapeSet) (invert : Bool) (syms : List Nat) : Nat :=
  ((List.range syms.length).filter fun n =>
    decide (4 ≤ n) && decide (n + 2 < syms.length) &&
      (decide (dacRaw x invert syms n < -128) || decide (127 < dacRaw x invert syms n))).length

/-- The pending set goes into use (R165): APPLY falls, APPLY_COUNT counts, SAT_COUNT starts over with the codes that clamp. -/
def shapeApply (s : State) (f d : Nat) (x : ShapeSet) (syms : List Nat) : State :=
  let s := s.setShape f d x
  (s.wrs [(TXD_CTRL_APPLY f d, 0), (TXD_STATUS_SAT_COUNT f d, min 255 (clampedCodes x (s.on (TXD_CTRL_INVERT f d)) syms))]).incMod
    (TXD_STATUS_APPLY_COUNT f d)

/-! ## Limits in force (R179, R180, R467) -/

/-- The face-scope LIMITS record: LIM_A and LIM_B. -/
def faceLimits (s : State) (f : Nat) : Option (Nat × Nat) :=
  ((s.planRecs 5).find? fun d => d.length == 12 && recField d 0 1 == f).map fun d => (recField d 4 4, recField d 8 4)

/-- MAX_LASER_I in force (R180). -/
def maxLaserI (s : State) (f : Nat) : Nat :=
  match faceLimits s f with
  | some l => min (s.rd (OPT_LIM_A_MAX_LASER_I f)) (l.1 / 2 ^ 24)
  | none => s.rd (OPT_LIM_A_MAX_LASER_I f)

/-- MAX_LAUNCH in force, 0.1 dBm. -/
def maxLaunch (s : State) (f : Nat) : Int :=
  match faceLimits s f with
  | some l => min (sext 8 (s.rd (OPT_LIM_A_MAX_LAUNCH f))) (sext 8 (l.1 / 2 ^ 16))
  | none => sext 8 (s.rd (OPT_LIM_A_MAX_LAUNCH f))

/-- EYE_TRIP in force, 0.1 dBm. -/
def eyeTripLevel (s : State) (f : Nat) : Int :=
  match faceLimits s f with
  | some l => min (sext 8 (s.rd (OPT_LIM_A_EYE_TRIP f))) (sext 8 (l.1 / 2 ^ 8))
  | none => sext 8 (s.rd (OPT_LIM_A_EYE_TRIP f))

/-- MAX_DRV_SWING in force. -/
def maxSwing (s : State) (f : Nat) : Nat :=
  match faceLimits s f with
  | some l => min (s.rd (OPT_LIM_A_MAX_DRV_SWING f)) (l.1 % 256)
  | none => s.rd (OPT_LIM_A_MAX_DRV_SWING f)

/-- The effective LANES_PERMITTED. -/
def lanesPermitted (s : State) (f : Nat) : Nat :=
  match faceLimits s f with
  | some l => Nat.land (s.rd (OPT_LIM_B_LANES_PERMITTED f)) (l.2 / 2 ^ 18 % 512)
  | none => s.rd (OPT_LIM_B_LANES_PERMITTED f)

/-- May a lane emit in DUPLEX (R169)? -/
def mayEmit (s : State) (f p : Nat) : Bool :=
  nbit (s.rd (OPT_CTRL_TX_LANE_EN f)) p && nbit (lanesPermitted s f) p && laneInUse s f p && !laneSealed s f p &&
    s.rd (OPT_LIM_B_MPD_RESP f) != 0

/-- The emitting set as a mask. -/
def emitMask (s : State) (f : Nat) : Nat := ((List.range 9).map fun p => if mayEmit s f p then 2 ^ p else 0).sum

/-! ## The sideband (R173-R178) -/

/-- Bits of a number, most significant first. -/
def msbBits : Nat → Nat → List Bool
  | 0, _ => []
  | n + 1, x => nbit x n :: msbBits n x

/-- CRC-8 of R175 over bits in transmission order. -/
def crc8 (bs : List Bool) : Nat :=
  bs.foldl (fun c b =>
    let top := nbit c 7 != b
    let d := c * 2 % 256
    if top then Nat.xor d 0x07 else d) 0

/-- The 40 bits of a command frame, the first sent the most significant (R174). -/
def fsbCommand (x : Fsb) : Nat :=
  let body := x.ty % 4 * 2 ^ 28 + x.lane % 16 * 2 ^ 24 + x.reg % 256 * 2 ^ 16 + x.data % 2 ^ 16
  body * 2 ^ 9 + crc8 (msbBits 30 body) * 2 + 1

/-- What a reply says (R175, R176). -/
inductive FsbReply where
  | ack (data : Nat)
  | badCrc
  | nak
  | none
  deriving DecidableEq, Repr

/-- Reads the 33 bits of a reply, or their absence. -/
def fsbParse (r : Option (BitVec 33)) : FsbReply :=
  match r with
  | none => .none
  | some v =>
    let x := v.toNat
    if nbit x 32 then .none
    else if crc8 (msbBits 23 (x / 2 ^ 9)) != x / 2 % 256 then .badCrc
    else if x / 2 ^ 29 % 8 = 0 then .ack (x / 2 ^ 9 % 2 ^ 16) else .nak

/-- Queues a frame. -/
def fsbPut (s : State) (f : Nat) (x : Fsb) : State := s.setFace f { s.face f with fsb := (s.face f).fsb ++ [x] }

/-- Writes an engine register. -/
def engWrite (s : State) (f lane reg data : Nat) : State := fsbPut s f ⟨0, lane, reg, data⟩

/-- POWER_STATE for an optical state (R169). -/
def powerState (st : Nat) : Nat := match st with | 1 => 0 | 2 => 1 | 3 => 1 | 4 => 2 | 5 => 3 | _ => 0

def engPower (s : State) (f st : Nat) : State := engWrite s f 15 2 (powerState st)

/-- The urgent frame goes ahead of every queued frame (R178). -/
def urgentFrame (s : State) (f : Nat) : State :=
  s.setFace f { s.face f with fsb := ⟨2, 15, 3, 0⟩ :: (s.face f).fsb }

/-- DRV_SWING and LASER_BIAS values that may leave the device (R180). -/
def swingOut (s : State) (f p : Nat) : Nat := min (s.rd (OPT_LANE_A_DRV_SWING f p)) (maxSwing s f)
def biasOut (s : State) (f p step : Nat) : Nat := min (s.rd (OPT_LANE_A_LASER_BIAS f p) * step / 8) (maxLaserI s f)

/-- Sends a lane's ramp step (R184, R468): at step 1 swing and bias before LIGHT_EN; at a later one the swing again where a limit has
fallen below it (R187). -/
def rampLane (s : State) (f p step : Nat) : State :=
  let s := if step = 1 then
      engWrite (engWrite s f p 0x11 (swingOut s f p)) f p 0x12 (s.rd (OPT_LANE_A_DRV_BIAS f p))
    else if maxSwing s f < tabGet 0 (s.face f).sent (0x11 * 16 + p) then engWrite s f p 0x11 (swingOut s f p)
    else s
  let s := engWrite s f p 0x10 (biasOut s f p step)
  if step = 1 then engWrite s f p 0x15 1 else s

/-- Clears LIGHT_EN on the lanes of a mask that emit. -/
def lightOffLanes (s : State) (f mask : Nat) : State :=
  let go := Nat.land (s.face f).emit mask
  let s := (List.range 9).foldl (fun t p => if nbit go p then engWrite t f p 0x15 0 else t) s
  let x := s.face f
  setEmit (s.setFace f { x with laneRamp := tabDrop (fun p => nbit go p) x.laneRamp, overs := tabDrop (fun p => nbit go p) x.overs })
    f (x.emit - go)

/-! ## External laser sources (R185, R186) -/

/-- A face takes its light from a bank. -/
def usesEls (s : State) (f : Nat) : Bool := facePresent s f && s.on (OPT_LIM_B_LASER_SOURCE f)

/-- The ceiling that faults set, which no command can lift: a die-to-die link (R33), a lost REFCLK_A (R458), a sideband fault (R176). -/
def faultCeiling (s : State) (f : Nat) : Nat := min (if nbit s.d2d (f / 4) then 1 else if s.refALost then 2 else 5) (s.face f).hold

/-- The target in force: TARGET below the ceilings of the chip state (R332, R333) and of faults. -/
def effTarget (s : State) (f : Nat) : Nat :=
  let chip := match s.rd FM_CHIP_STATUS_STATE with | 0 => 5 | 1 => 3 | _ => 1
  min (min (s.rd (OPT_CTRL_TARGET f)) chip) (faultCeiling s f)

/-- The face ramps or is in DUPLEX. -/
def faceLit (s : State) (f : Nat) : Bool :=
  optState s f == 5 || (optState s f == 4 && s.rd (OPT_STATUS_RAMP_STEP f) != 0)

/-- REQ rises with the first DUPLEX target of a bank (R185 step 1); ELS_WAIT shows a face that waits for the grant. -/
def elsEval (s : State) (f : Nat) : State :=
  let b := f / 4
  let want := fun (t : State) (g : Nat) => usesEls t g && t.rd (OPT_CTRL_TARGET g) == 5
  let s := if ((List.range 4).any fun i => want s (4 * b + i)) && !s.on (ELS_BANK_REQ b) then s.wr (ELS_BANK_REQ b) 1 else s
  (List.range 4).foldl (fun t i =>
    let g := 4 * b + i
    if facePresent t g then t.wr (OPT_STATUS_ELS_WAIT g) (bit (want t g && !t.on (ELS_BANK_GNT b))) else t) s

/-! ## Rails (R37, R455) -/

def State.rail (s : State) (c : Nat) : RailX := tabGet {} s.rails c
def State.setRail (s : State) (c : Nat) (x : RailX) : State := { s with rails := tabSet {} s.rails c x }

/-- Voltage of a rail in mV: 0 in the record is the power-up set point (R454). -/
def railMv (c x : Nat) : Nat := if x = 0 then (if c < 4 then 800 else 580) else x

/-- What a face needs of its rail, mV: for its modes from RECEIVE up, else idle (R37; notes/assumptions/16.md). -/
def faceNeedMv (s : State) (f st : Nat) : Nat :=
  if st < 4 then 580
  else if nbit (faceModes s f) 1 then 790 else if nbit (faceModes s f) 0 then 780 else 640

/-- VOLT field, AGE_MARGIN field and AGE_LIMIT field of a rail: 0-3 core, 4-7 face. -/
def railVoltF (c : Nat) : Fld := if c < 4 then FM_RAIL_VOLT c else FM_FACE_RAIL_VOLT (c - 4)
def railMarginF (c : Nat) : Fld := if c < 4 then FM_RAIL_AGE_MARGIN c else FM_FACE_RAIL_AGE_MARGIN (c - 4)
def railLimitF (c : Nat) : Fld := if c < 4 then FM_RAIL_AGE_LIMIT c else FM_FACE_RAIL_AGE_LIMIT (c - 4)

/-- A VOUT_COMMAND (R454, R455). -/
def railCmd (s : State) (c mv : Nat) : State :=
  if s.rd (railVoltF c) = mv then s
  else (s.wr (railVoltF c) mv).setRail c { s.rail c with cmd := mv, waits := true }

/-- A face rail takes the highest voltage that its faces need, plus AGE_MARGIN, at most 0.82 V (R37, R344). -/
def faceRailNeed (s : State) (e : Nat) : Nat :=
  ((List.range 4).map fun i =>
    let f := 4 * e + i
    if facePresent s f then faceNeedMv s f (if optState s f = 3 then effTarget s f else optState s f) else 580).foldl max 580

def faceRailApply (s : State) (e : Nat) : State :=
  if (s.rail (4 + e)).failed then s else railCmd s (4 + e) (min 820 (faceRailNeed s e + s.rd (FM_FACE_RAIL_AGE_MARGIN e)))

/-- A face step waits because its rail failed to confirm the voltage that the step needs (R455). -/
def railWaits (s : State) (f st : Nat) : Bool :=
  let r := s.rail (4 + f / 4)
  r.failed && decide (railMv (4 + f / 4) r.confirmed < faceNeedMv s f st)

/-! ## Datapath domains of a face -/

/-- LANE and ROLE of every datapath as the maps give them: service, sealed, or relief (R12, 03 and 06 registers). The detector of a serving
receive datapath is the one of its lane's level (R125). -/
def dpRoles (s : State) (f : Nat) : State :=
  let s := (List.range 9).foldl (fun t d =>
    match (List.range 9).find? fun p => laneDp t f p == d with
    | some p => t.wrs [(RXD_STATUS_LANE f d, p), (RXD_STATUS_ROLE f d, 1),
        (DET_CTRL_MLSE_ON f d, bit (decide (t.rd (LANE_EFFORT_CURRENT f p) < 2)))]
    | none => t.wrs [(RXD_STATUS_LANE f d, 15), (RXD_STATUS_ROLE f d, if dpSealed t f d then 4 else 0)]) s
  (List.range 9).foldl (fun t d =>
    match (List.range 9).find? fun p => txLaneDp t f p == d with
    | some p => t.wrs [(TXD_STATUS_LANE f d, p), (TXD_STATUS_ROLE f d, 1),
        (TXD_STATUS_MODE f d, match portOfLane t f p with | some n => portMode (t.rd (PORT_CFG_TYPE n)) | none => 0)]
    | none => t.wrs [(TXD_STATUS_LANE f d, 15), (TXD_STATUS_ROLE f d, if txSealed t f d then 4 else 0)]) s

/-- Datapath registers, banks, tables, shaping sets and coding counters of a face take their reset values (R447). -/
def faceDpReset (s : State) (f : Nat) : State :=
  let s := s.dropRegs fun a => decide (rxdAt f 0 ≤ a) && decide (a < OPT_CTRL f)
  let s := s.dropCtrs fun a => decide (rxdAt f 0 ≤ a) && decide (a < OPT_CTRL f)
  let s := memClear s fun a i _ => (a == 5 || a == 6) && i == f
  dpRoles { s with rxds := tabDrop (fun k => k / 9 == f) s.rxds, shapes := tabDrop (fun k => k / 9 == f) s.shapes } f

/-! ## Relief lanes and port policies (R227, R230, R231) -/

/-- The service positions of a face that a paired port carries. -/
def pairedPositions (s : State) (f : Nat) : List Nat :=
  ((portsOfFace s f).filter fun n => portPaired (s.rd (PORT_CFG_TYPE n))).flatMap (portPositions s)

/-- One partner face for the whole face (R220, R227): every paired lane reports the same token under SF2, as its position shows it, and so
does p8 once it trains. -/
def onePartner (s : State) (f : Nat) : Bool :=
  let ks := pairedPositions s f
  let tok := s.rd (SEAM_PARTNER_FACE_TOKEN f (ks.headD 0))
  ks != [] && (ks.all fun k => s.rd (SEAM_PARTNER_FACE_TOKEN f k) == tok && s.rd (SEAM_PARTNER_SF_MAX f k) != 0 &&
      ((s.seam f (posLane s f k)).sf != 1)) && (ks.any fun k => (s.seam f (posLane s f k)).sf == 2) &&
    ((s.seam f 8).state != 4 || ((s.seam f 8).token == tok && (s.seam f 8).sf == 2))

/-- RELIEF_READY (R227), shown by SEAL_STATUS. -/
def reliefReady (s : State) (f : Nat) : Bool :=
  onePartner s f && nbit (faceRelief s f) 0 && !laneSealed s f 8 && (posOf s f 8).isNone && nbit (s.rd (OPT_CTRL_TX_LANE_EN f)) 8 &&
    nbit (lanesPermitted s f) 8 && s.rd (RELIEF_STATE_RELIEF_DP f) != 15 && s.rd (LANE_MAP_TX_AUX_TX_RELIEF f) != 15 &&
    decide ((s.face f).hs.fails < 3)

/-- Lights the lanes that join the emitting set in DUPLEX, each by its own ramp, and darkens those that leave it (R169, R468). -/
def emitEval (s : State) (f : Nat) : State :=
  if faceLit s f then
    let m := emitMask s f
    let s := lightOffLanes s f (511 - m)
    if optState s f = 5 then
      (List.range 9).foldl (fun t p =>
        if nbit m p && !nbit (t.face f).emit p then
          let t := rampLane t f p 1
          let x := t.face f
          setEmit (t.setFace f { x with laneRamp := tabSet 0 x.laneRamp p 1, checked := nbitSet x.checked p false }) f (x.emit + 2 ^ p)
        else t) s
    else s
  else s

/-- A lane is sealed: its record, its relief bit, its light and its engine (R78, R169, R228, R231). -/
def laneSeal (s : State) (f p kind k reason : Nat) : State :=
  let s := s.wr (RELIEF_STATE_LANE_SEALED f) (nbitSet (s.rd (RELIEF_STATE_LANE_SEALED f)) p true)
  let s := sealBurn s { kind := kind, face := f, index := p, sub := k, reason := reason }
  reliefEval (laneEval (lightOffLanes s f (2 ^ p)) f p) f

/-- SEAL_POLICY for a permanent fault that finds no relief (R231, R232). -/
def sealPolicy (s : State) (f p : Nat) : State :=
  match posOf s f p with
  | none => s
  | some k =>
    match portOf s f k with
    | none => s
    | some n =>
      if s.on (PORT_CFG_SEAL_POLICY n) then
        stickyEvent (s.wr (SEAM_STATUS_DEGRADED f k) 1) (SEAM_EVENTS_DEGRADED f k) { code := 0x1206, kind := 1, index := 9 * f + p }
      else if laneSealed s f p then s
      else portEval (laneSeal (s.wr (PORT_STATUS_FAIL n) 7) f p 4 k 1) n

/-- Faults that waited for a handshake on the face find no relief (R234). -/
def waitingPolicy (s : State) (f : Nat) : State :=
  let w := (s.face f).hs.waiting
  let s := s.setFace f { s.face f with hs := { (s.face f).hs with waiting := [] } }
  w.foldl (fun t p => sealPolicy t f p) s

/-- p8 stops serving: its light goes out, its datapaths return to relief, its lane to OFF. -/
def p8Off (s : State) (f : Nat) : State :=
  let s := lightOffLanes s f 256
  let d := laneDp s f 8
  let e := txLaneDp s f 8
  let s := setTxLaneDp (setLaneDp s f 8 15) f 8 15
  let s := if d = 15 then s else rxdOff s f d 0
  let s := if e = 15 then s else s.wrs [(TXD_STATUS_ROLE f e, 0), (TXD_STATUS_LANE f e, 15), (TXD_STATUS_EMIT f e, 0)]
  laneEval (mapChanged s f 8) f 8

/-- A handshake is abandoned with a reason (R230): nothing is sealed, it is logged, and the initiator proposes again after 1 s;
a third abandonment leaves the faults to their ports' policies. Where an action of a higher class ended it, the event's second argument
is that class (R30; notes/assumptions/66.md). A change of MODE_EN that waited for it takes effect (R31). -/
def sealAbandon (s : State) (f result : Nat) (cls : Nat := 0) : State :=
  if s.rd (SEAL_STATUS_HS_STATE f) = 0 then s
  else
    let k := s.rd (SEAL_STATUS_HS_POS f)
    let init := s.on (SEAL_STATUS_INITIATOR f)
    let x := (s.face f).hs
    let s := s.wrs [(SEAL_STATUS_HS_STATE f, 0), (SEAL_STATUS_RESULT f, result)]
    let fails := x.fails + 1
    let s := s.setFace f { s.face f with hs := { fails := fails, again := (if init then some k else none), waiting := x.waiting,
                                                 out := some ⟨8, k, x.tag, 0, result⟩ } }
    let s := logEvent (p8Off s f) { code := 0x1241, kind := 4, index := f, a0 := result, a1 := cls }
    let s := modeEnCheck s f
    if 3 ≤ fails then waitingPolicy (if init then sealPolicy s f (posLane s f k) else s) f else s

/-! ## Steps between states (R170) -/

/-- The light goes out: LIGHT_EN cleared, DACs to code 0, no ramp. -/
def lightOut (s : State) (f : Nat) : State :=
  let s := lightOffLanes s f 511
  (s.setFace f { s.face f with checked := 0, laneRamp := [], overs := [] }).wr (OPT_STATUS_RAMP_STEP f) 0

/-- Enters a state; the face's rail follows what its faces now need (R37). -/
def enterOpt (s : State) (f st : Nat) : State :=
  faceRailApply (accRearm (s.wrs [(OPT_STATUS_STATE f, st), (OPT_STATUS_TRANSIT f, 0)])) (f / 4)

/-- A transmit rotation runs on the face. -/
def txRotation (s : State) (f : Nat) : Bool := s.rd (AS_FACE_STATUS_PHASE f) != 0 && s.rd (AS_FACE_STATUS_PHASE f) != 5 && s.on (AS_FACE_STATUS_DIR f)

/-- A face that enters RECEIVE draws a random FACE_TOKEN (R220), and its handshakes count from here (R227). -/
def tokenDraw (s : State) (f : Nat) : State :=
  let x := s.face f
  let hs := if s.rd (SEAL_STATUS_HS_STATE f) = 0 then {} else { x.hs with fails := 0 }
  s.tookFree.setFace f { x with token := s.freeVal % 2 ^ 16, hs := hs }

/-- DUPLEX → RECEIVE, also the end of a ramp (R170). A transmit rotation needs DUPLEX (R383) and ends with cause STATE. -/
def duplexToReceive (s : State) (f : Nat) : State :=
  let s := if txRotation s f then rotationAbandon s f 6 3 else s
  let s := if optState s f = 5 then tokenDraw s f else s
  let s := enterOpt (engPower (lightOut s f) f 4) f 4
  elsEval s f

/-- RECEIVE → SYNTH (R170): the ADCs stop; rotations, captures and the tap's input end. -/
def receiveToSynth (s : State) (f : Nat) : State :=
  let s := sealAbandon (assayAbandon s f 6 3) f 5 3
  let s := enterOpt s f 3
  let s := lanesEval s f
  tapEval (capEnd (engPower s f 3) f 15) f

/-- SYNTH → STANDBY (R170): ENGINE_ID is read on the entry (R177). -/
def synthToStandby (s : State) (f : Nat) : State :=
  fsbPut ((enterOpt s f 2).wrs [(OPT_STATUS_PLL_LOCK f, 0), (OPT_STATUS_PENDING f, 0)]) f ⟨1, 15, 0, 0⟩

/-- Any → SLEEP (R170, R187): the all-off frame, POWER_STATE 0, lanes and datapaths off; a pending request ends with BUSY. -/
def toSleep (s : State) (f : Nat) : State :=
  if optState s f = 1 ∧ !s.on (OPT_STATUS_TRANSIT f) then s
  else
    let s := if s.on (OPT_STATUS_PENDING f) then s.wr (OPT_STATUS_RESULT f) stBusy else s
    let s := if faceLit s f then duplexToReceive s f else s
    let s := if optState s f = 4 ∨ optState s f = 5 then receiveToSynth s f else s
    let s := engPower (urgentFrame s f) f 1
    let s := (enterOpt s f 1).wrs [(OPT_STATUS_PLL_LOCK f, 0), (OPT_STATUS_PENDING f, 0)]
    let s := portsEval (faceDpReset (lanesEval s f) f) (portsOfFace s f)
    elsEval s f

/-- PENDING (R172, R455): a RECEIVE or DUPLEX target waits for lock, or any target for its rail. -/
def pendingEval (s : State) (f : Nat) : State :=
  let st := optState s f
  let t := s.rd (OPT_CTRL_TARGET f)
  let lock := decide (4 ≤ t) && !s.on (OPT_STATUS_PLL_LOCK f) && (st == 3 || (st == 2 && s.on (OPT_STATUS_TRANSIT f)))
  s.wr (OPT_STATUS_PENDING f) (bit (lock || (decide (st < t) && railWaits s f (st + 1))))

/-- The ramp may start: in RECEIVE toward DUPLEX, with the grant where light is external, and after an eye trip only once the engine
reads clean (R170, R177, R185). -/
def rampReady (s : State) (f : Nat) : Bool :=
  optState s f == 4 && s.rd (OPT_STATUS_RAMP_STEP f) == 0 && effTarget s f == 5 && !s.on (OPT_STATUS_EYE_TRIP f) && !(s.face f).unclean &&
    (!usesEls s f || s.on (ELS_BANK_GNT (f / 4)))

/-- Step 1 of the ramp (R184): every lane of the emitting set. -/
def rampStart (s : State) (f : Nat) : State :=
  let m := emitMask s f
  let s := (List.range 9).foldl (fun t p => if nbit m p then rampLane t f p 1 else t) s
  let s := s.setFace f { s.face f with checked := 0, overs := [] }
  (setEmit s f m).wrs [(OPT_STATUS_RAMP_STEP f, 1), (OPT_STATUS_TRANSIT f, 1)]

/-- Goes down from state `n` to a target, step by step (R171). -/
def walkDown (s : State) (f t : Nat) : Nat → State
  | 0 => s
  | n + 1 =>
    let st := optState s f
    if t = 1 then toSleep s f
    else if t < 5 ∧ faceLit s f then walkDown (duplexToReceive s f) f t n
    else if t < st then walkDown (if st = 4 then receiveToSynth s f else if st = 3 then synthToStandby s f else s) f t n
    else s

/-- A face moves toward its target (R171, R172): down at once, unless the change is commanded and a started handshake completes first
(R31); a fault waits for none, and ends it (R33). Up by the next step, which its own row ends. Its rail follows (R37). -/
def optWalk (s : State) (f : Nat) : State :=
  if !facePresent s f then s
  else
    let s := if faultCeiling s f < optState s f then sealAbandon s f 5 3 else s
    let s := faceRailApply s (f / 4)
    let t := effTarget s f
    let st := optState s f
    let stepping := s.on (OPT_STATUS_TRANSIT f)
    if t < st ∨ (t ≤ st ∧ stepping) then
      if s.rd (SEAL_STATUS_HS_STATE f) ≠ 0 ∧ !s.canary then s
      else
        let s := if stepping ∧ ¬ faceLit s f then
            engPower (s.wr (OPT_STATUS_TRANSIT f) 0) f st
          else s
        let s := if t = 1 then toSleep (s.wr (OPT_STATUS_TRANSIT f) 1) f else walkDown s f t 4
        elsEval (pendingEval s f) f
    else if st < t then
      let s := if st = 4 then (if rampReady s f then rampStart s f else s)
        else if st = 3 ∧ !s.on (OPT_STATUS_PLL_LOCK f) then s
        else if railWaits s f (st + 1) then s
        else s.wr (OPT_STATUS_TRANSIT f) 1
      elsEval (pendingEval s f) f
    else elsEval (pendingEval s f) f

/-- Every face. -/
def optWalkAll (s : State) : State := (List.range 16).foldl optWalk s

/-- OPT_CTRL.TARGET (R171, R183): RANGE and LIMIT show in RESULT; an accepted target lifts a fault's hold and the walk begins. -/
def targetEff (s : State) (f v : Nat) : State × Nat :=
  if v = 0 ∨ 5 < v then (s.wr (OPT_STATUS_RESULT f) stRange, stRange)
  else if v = 5 ∧ s.on (OPT_STATUS_EYE_TRIP f) then (s.wr (OPT_STATUS_RESULT f) stLimit, stLimit)
  else
    let s := s.wrs [(OPT_CTRL_TARGET f, v), (OPT_STATUS_RESULT f, 0)]
    (optWalk (s.setFace f { s.face f with hold := 5 }) f, stOk)

/-- TX_LANE_EN (R169): lanes that leave the emitting set go dark; lanes that join it in DUPLEX ramp by themselves (R468). -/
def laneEnEff (s : State) (f v : Nat) : State := emitEval (s.wr (OPT_CTRL_TX_LANE_EN f) v) f

/-! ## Eye safety (R182, R183) -/

/-- An eye trip (R183, R177): the urgent frame, RECEIVE, TARGET, EYE_TRIP and event 0x1107 on every trip. -/
def eyeTrip (s : State) (f kind idx cause arg1 : Nat) : State :=
  let s := urgentFrame s f
  let s := bistAbandon (rotationAbandon s f 7 2) f 7 2
  let s := sealAbandon s f 5 2
  let lit := faceLit s f
  let s := if lit then duplexToReceive s f else s
  let s := if lit ∨ s.rd (OPT_CTRL_TARGET f) = 5 then s.wr (OPT_CTRL_TARGET f) 4 else s
  let s := s.setFace f { s.face f with unclean := true }
  let s := logEvent (s.wr (OPT_STATUS_EYE_TRIP f) 1) { code := 0x1107, kind := kind, index := idx, a0 := cause, a1 := arg1 }
  optWalk (elsEval s f) f

/-- ENGINE_STATUS as read (R177); a clean reading lets a face relight. -/
def engineStatus (s : State) (f v : Nat) : State :=
  if optState s f = 1 then s
  else if v % 8 = 0 then (if (s.face f).unclean then optWalk (s.setFace f { s.face f with unclean := false }) f else s)
  else if v % 4 ≠ 0 ∨ (nbit v 2 ∧ faceLit s f) then eyeTrip s f 4 f 4 v
  else if nbit v 2 then engPower (logEvent s { code := 0x1144, kind := 4, index := f, a0 := v }) f (optState s f)
  else s

/-- Launch power in 0.01 dBm of a corrected code over MPD_RESP (R182, R364): 1000·log10(0.3·code ÷ MPD_RESP) to the nearest.
`v` is right when 10^(2v−1) ≤ (3·code ÷ 10·resp)^2000; the search halves its step from 8192. -/
def launchGe (code resp : Nat) (v : Int) : Bool :=
  let e := 2 * v - 1
  if 0 ≤ e then decide (10 ^ e.toNat * (10 * resp) ^ 2000 ≤ (3 * code) ^ 2000)
  else decide ((10 * resp) ^ 2000 ≤ (3 * code) ^ 2000 * 10 ^ (-e).toNat)

def launchPower (code resp : Nat) : Int :=
  (List.range 14).foldl (fun (v : Int) i =>
    let w := v + (2 ^ (13 - i) : Nat)
    if launchGe code resp w then w else v) (-8192)

/-- A monitor-ADC code corrected by gain and offset (R363). -/
def madcCode (s : State) (raw : Nat) : Nat :=
  let x : Int := ((raw : Int) * 16 - sext 16 (s.rd MADC_OFFSET_OFFSET)) * (2 ^ 16 + sext 16 (s.rd MADC_GAIN_GAIN))
  (clampI 0 4095 (roundDiv x (16 * 2 ^ 16))).toNat

/-- One lane's check with its corrected code (R182-R184): code 0 is no check; above EYE_TRIP, or a third time above MAX_LAUNCH,
trips; at or below MAX_LAUNCH it passes. -/
def eyeCheck (s : State) (f p code : Nat) : State :=
  if code = 0 then s.wr (OPT_LANE_B_MPD_PWR f p) 0x8000
  else
    let v := launchPower code (s.rd (OPT_LIM_B_MPD_RESP f))
    let x := s.face f
    let s := (s.wr (OPT_LANE_B_MPD_PWR f p) (twos 16 v)).setFace f { x with checkAt := tabSet 0 x.checkAt p (s.mono + 1) }
    if eyeTripLevel s f * 10 < v then eyeTrip s f 1 (9 * f + p) 1 0
    else if maxLaunch s f * 10 < v then
      let n := tabGet 0 x.overs p + 1
      if 3 ≤ n then eyeTrip s f 1 (9 * f + p) 2 0
      else s.setFace f { s.face f with overs := tabSet 0 (s.face f).overs p n }
    else s.setFace f { s.face f with overs := tabSet 0 (s.face f).overs p 0, checked := nbitSet (s.face f).checked p true }

/-! ## Lane settings and limits -/

/-- A write to OPT_LANE_A (R180, R468): LIMIT above a limit in force; the fields go to the engine at the points of R468. -/
def laneAEff (s : State) (f p v : Nat) : State × Nat :=
  if maxLaserI s f < v / 2 ^ 24 ∨ maxSwing s f < v / 2 ^ 16 % 256 then (s, stLimit)
  else
    let s := s.setReg (OPT_LANE_A f p) (BitVec.ofNat 32 v)
    let s := if optState s f = 4 ∨ optState s f = 5 then engWrite s f p 0x13 (v % 256) else s
    if nbit (s.face f).emit p then
      let step := if tabGet 0 (s.face f).laneRamp p ≠ 0 then tabGet 0 (s.face f).laneRamp p
        else if optState s f = 5 then 8 else s.rd (OPT_STATUS_RAMP_STEP f)
      (engWrite (engWrite (engWrite s f p 0x11 (swingOut s f p)) f p 0x12 (v / 2 ^ 8 % 256)) f p 0x10 (biasOut s f p step), stOk)
    else (s, stOk)

/-- A queued frame with its laser current or swing bounded by the limits in force (R180). -/
def fsbBound (s : State) (f : Nat) (x : Fsb) : Fsb :=
  if x.ty = 0 ∧ x.reg = 0x10 then { x with data := min x.data (maxLaserI s f) }
  else if x.ty = 0 ∧ x.reg = 0x11 then { x with data := min x.data (maxSwing s f) }
  else x

/-- New limits in force (R169, R180, R187): no queued frame passes them, and lower ones reach the emitting lanes at the next exchange, or
at the next step of a ramp; lanes not permitted go dark, and in DUPLEX those newly permitted ramp by themselves. -/
def limitsChanged (s : State) (f : Nat) : State :=
  let s := s.setFace f { s.face f with fsb := (s.face f).fsb.map (fsbBound s f) }
  let x := s.face f
  let s := (List.range 9).foldl (fun t p =>
    if nbit x.emit p && mayEmit t f p && optState t f == 5 && tabGet 0 x.laneRamp p == 0 then
      let t := if maxSwing t f < tabGet 0 x.sent (0x11 * 16 + p) then engWrite t f p 0x11 (swingOut t f p) else t
      if maxLaserI t f < tabGet 0 x.sent (0x10 * 16 + p) then engWrite t f p 0x10 (maxLaserI t f) else t
    else t) s
  elsEval (emitEval s f) f

/-! ## Sideband exchanges -/

/-- The frame at the front was answered (R176, R177); ALL_OFF leaves no lane's LIGHT_EN set. -/
def fsbAck (s : State) (f : Nat) (x : Fsb) (data : Nat) : State :=
  let s := s.setFace f { s.face f with
    fsbFails := 0, fsb := (s.face f).fsb.drop 1,
    sent := if x.ty = 0 then tabSet 0 (s.face f).sent (x.reg * 16 + x.lane) x.data
      else if x.ty = 2 then tabDrop (fun k => k / 16 == 0x15) (s.face f).sent else (s.face f).sent }
  if x.ty = 1 ∧ x.reg = 0 then logEvent s { code := 0x1142, kind := 4, index := f, a0 := data }
  else if x.ty = 1 ∧ x.reg = 1 then engineStatus s f data
  else s

/-- A failed exchange (R176): resent up to three times; the fourth failure in a row is a fault and the face goes to SLEEP. -/
def fsbFail (s : State) (f : Nat) : State :=
  let n := (s.face f).fsbFails + 1
  if n < 4 then s.setFace f { s.face f with fsbFails := n }
  else
    let s := s.setFace f { s.face f with fsbFails := 0, fsb := [], hold := 1 }
    let s := stickyEvent s (OPT_STATUS_FSB_FAULT f) { code := 0x1106, kind := 4, index := f }
    optWalk (sealAbandon s f 5) f

/-- Sends the frame at the front and takes its reply (R173-R176). -/
def fsbExchange (s : State) (f : Nat) (reply : Option (BitVec 33)) : State :=
  match (s.face f).fsb with
  | [] => s
  | x :: _ =>
    let s := (s.setFace f { s.face f with lastCmd := fsbCommand x }).incMod (FSB_STATS_EXCHANGES f)
    let s := pcCount s f 6 15 1
    match fsbParse reply with
    | .ack data => fsbAck s f x data
    | .badCrc => fsbFail (s.incSat (FSB_STATS_CRC_ERRS f)) f
    | .nak => fsbFail (s.incSat (FSB_STATS_NAKS f)) f
    | .none => fsbFail s f

/-! ## The rows -/

/-- R165: the set goes into use; in a transmit rotation both datapaths apply it at one boundary (R187). -/
def execShapingSetApplied (f : Fin 16) (d : Fin 9) (syms : List (Fin 4)) (s : State) : Out :=
  .next (guardS (s.alive && s.on (TXD_CTRL_APPLY f.val d.val)) s fun s =>
    let x := pendingShape s f.val d.val
    let ns := syms.map Fin.val
    let l := s.rd (TXD_STATUS_LANE f.val d.val)
    let s := shapeApply s f.val d.val x ns
    if l < 9 ∧ s.rd (LANE_MAP_TX_AUX_PARALLEL_LANE f.val) = l then
      (List.range 9).foldl (fun t e =>
        if e != d.val && t.rd (TXD_STATUS_LANE f.val e) == l then
          shapeApply (t.wr (TXD_CTRL_SCALE f.val e) x.scale) f.val e x ns else t) s
    else s)

/-- R170: powers the face and enters STANDBY; ENGINE_ID is read (R177). -/
def execSleepToStandby (f : Fin 16) (s : State) : Out :=
  .next (guardS (s.alive && facePresent s f.val && optState s f.val == 1 && decide (1 < effTarget s f.val)) s fun s =>
    let s := fsbPut (engPower (dpRoles s f.val) f.val 2) f.val ⟨1, 15, 0, 0⟩
    optWalk (enterOpt s f.val 2) f.val)

/-- R170: the PLLs lock. -/
def execStandbyToSynth (f : Fin 16) (s : State) : Out :=
  .next (guardS (s.alive && facePresent s f.val && optState s f.val == 2 &&
      (decide (2 < effTarget s f.val) || s.on (OPT_STATUS_TRANSIT f.val))) s fun s =>
    optWalk ((enterOpt s f.val 3).wr (OPT_STATUS_PLL_LOCK f.val) 1) f.val)

/-- R170, R220, R468: TIA_GAIN per lane, POWER_STATE 2, the ADCs start; the face draws its token; a standing capture arms. -/
def execSynthToReceive (f : Fin 16) (s : State) : Out :=
  .next (guardS (s.alive && facePresent s f.val && optState s f.val == 3 && s.on (OPT_STATUS_PLL_LOCK f.val) &&
      decide (3 < effTarget s f.val) && !railWaits s f.val 4) s fun s =>
    let s := (List.range 9).foldl (fun t p => engWrite t f.val p 0x13 (t.rd (OPT_LANE_A_TIA_GAIN f.val p))) s
    let s := engPower s f.val 4
    let s := enterOpt (tokenDraw s f.val) f.val 4
    let s := lanesEval s f.val
    optWalk (tapEval (standingArm s f.val) f.val) f.val)

/-- R184: every emitting lane passed its check: the next eighth, and DUPLEX after step 8, where lanes that have joined the emitting set
meanwhile start their own ramps (R169). A lane that ramps by itself names its lane (R468). -/
def execRampStep (f : Fin 16) (lane : Option (Fin 9)) (s : State) : Out :=
  .next (guardS (s.alive && facePresent s f.val) s fun s =>
    let x := s.face f.val
    match lane with
    | some p =>
      let n := tabGet 0 x.laneRamp p.val
      if n = 0 ∨ !nbit x.checked p.val then s
      else if n < 8 then
        rampLane (s.setFace f.val { x with laneRamp := tabSet 0 x.laneRamp p.val (n + 1), checked := nbitSet x.checked p.val false })
          f.val p.val (n + 1)
      else s.setFace f.val { x with laneRamp := tabSet 0 x.laneRamp p.val 0 }
    | none =>
      let n := s.rd (OPT_STATUS_RAMP_STEP f.val)
      if optState s f.val ≠ 4 ∨ n = 0 ∨ (List.range 9).any (fun p => nbit x.emit p && !nbit x.checked p) then s
      else if n < 8 then
        let s := (List.range 9).foldl (fun t p => if nbit x.emit p then rampLane t f.val p (n + 1) else t) s
        (s.setFace f.val { s.face f.val with checked := 0 }).wr (OPT_STATUS_RAMP_STEP f.val) (n + 1)
      else emitEval (optWalk (enterOpt (engPower s f.val 5) f.val 5) f.val) f.val)

/-- R172, R455: RESULT 0x0A, TARGET SYNTH. -/
def execTargetLockTimeout (f : Fin 16) (s : State) : Out :=
  .next (guardS (s.alive && s.on (OPT_STATUS_PENDING f.val)) s fun s =>
    let s := s.wrs [(OPT_STATUS_RESULT f.val, stTimeout), (OPT_CTRL_TARGET f.val, 3), (OPT_STATUS_PENDING f.val, 0)]
    elsEval (logEvent s { code := 0x1140, kind := 4, index := f.val }) f.val)

/-- R182: the photodiode is selected and the corrected reading stored; H16 is told, and the conversions of the sequence entry under way start over (R366). -/
def execEyeSafetyCheck (f : Fin 16) (p : Fin 9) (raw : BitVec 12) (s : State) : Out :=
  .next (guardS (s.alive && nbit (s.face f.val).emit p.val && s.on MADC_STATUS_CAL_DONE) s fun s =>
    let s : State := { raiseIrq (engWrite s f.val p.val 0x14 0) 16 6 with madcAcc := (0, 0) }
    eyeCheck s f.val p.val (madcCode s raw.toNat))

/-- R183 cause 3. -/
def execEyeCheckStale (f : Fin 16) (p : Fin 9) (s : State) : Out :=
  .next (guardS (s.alive && nbit (s.face f.val).emit p.val) s fun s => eyeTrip s f.val 1 (9 * f.val + p.val) 3 0)

/-- R173, R176. -/
def execSidebandExchange (f : Fin 16) (reply : Option (BitVec 33)) (s : State) : Out :=
  .next (guardS (s.alive && facePresent s f.val) s fun s => fsbExchange s f.val reply)

/-- R176, R177: a read of ENGINE_STATUS goes out ahead of other frames but behind an urgent one (R178), which takes this exchange. -/
def execEngineStatusPoll (f : Fin 16) (reply : Option (BitVec 33)) (s : State) : Out :=
  .next (guardS (s.alive && facePresent s f.val && optState s f.val != 1) s fun s =>
    let x := s.face f.val
    let urgent := fun (y : Fsb) => y.ty == 2
    fsbExchange (s.setFace f.val { x with fsb := x.fsb.takeWhile urgent ++ ⟨1, 15, 1, 0⟩ :: x.fsb.dropWhile urgent }) f.val reply)

/-- R185 steps 2 and 3. -/
def execElsGrant (b : Fin 4) (s : State) : Out :=
  .next (guardS s.alive s fun s =>
    let s := s.wr (ELS_BANK_GNT b.val) 1
    (List.range 4).foldl (fun t i => optWalk t (4 * b.val + i)) s)

/-- R186: waiting faces take TIMEOUT and target RECEIVE; the request is released. -/
def execElsGrantTimeout (b : Fin 4) (s : State) : Out :=
  .next (guardS (s.alive && s.on (ELS_BANK_REQ b.val) && !s.on (ELS_BANK_GNT b.val)) s fun s =>
    let s := (List.range 4).foldl (fun t i =>
      let f := 4 * b.val + i
      if t.on (OPT_STATUS_ELS_WAIT f) then t.wrs [(OPT_STATUS_RESULT f, stTimeout), (OPT_CTRL_TARGET f, 4), (OPT_STATUS_ELS_WAIT f, 0)]
      else t) s
    let s := s.wrs [(ELS_BANK_TIMEOUT b.val, 1), (ELS_BANK_REQ b.val, 0)]
    let s := logEvent s { code := 0x1143, kind := 0, index := b.val }
    (List.range 4).foldl (fun t i => pendingEval t (4 * b.val + i)) s)

/-- R186: the grant goes while a face of the bank is lit. -/
def execElsGrantLost (b : Fin 4) (s : State) : Out :=
  let lit := (List.range 4).filter fun i => usesEls s (4 * b.val + i) && faceLit s (4 * b.val + i)
  .next (guardS (s.alive && s.on (ELS_BANK_GNT b.val) && lit != []) s fun s =>
    let s := s.wrs [(ELS_BANK_GNT b.val, 0), (ELS_BANK_LOST b.val, 1)]
    let s := lit.foldl (fun t i =>
      let f := 4 * b.val + i
      stickyEvent (duplexToReceive t f) (OPT_STATUS_ELS_LOST f) { code := 0x1104, kind := 4, index := f }) s
    elsEval s (4 * b.val))

/-- Frames that put a face's light out wait on its sideband. -/
def darkening (s : State) (f : Nat) : Bool := (s.face f).fsb.any fun x => x.ty == 2 || (x.ty == 0 && x.reg == 0x15)

/-- R185 step 4: once LIGHT_EN is cleared on every lane of the bank. -/
def execElsRelease (b : Fin 4) (s : State) : Out :=
  .next (guardS (s.alive && s.on (ELS_BANK_REQ b.val) && !((List.range 4).any fun i =>
      usesEls s (4 * b.val + i) && (faceLit s (4 * b.val + i) || s.rd (OPT_CTRL_TARGET (4 * b.val + i)) == 5 || darkening s (4 * b.val + i)))) s
    fun s => s.wr (ELS_BANK_REQ b.val) 0)

/-- R185 step 5. -/
def execElsGrantWithdrawn (b : Fin 4) (s : State) : Out :=
  .next (guardS (s.alive && s.on (ELS_BANK_GNT b.val) && !((List.range 4).any fun i =>
      usesEls s (4 * b.val + i) && faceLit s (4 * b.val + i))) s fun s => elsEval (s.wr (ELS_BANK_GNT b.val) 0) (4 * b.val))

end Sys2Proof.Machine
end

