-- ==== Sys2Proof/Machine/LaneRows.lean ====
section
/-!
DEFINITION. Sys2Proof/Machine/LaneRows.lean: the commands of the acquisition engine (R91-R104) and the register effects of a
lane block.
-/
namespace Sys2Proof.Machine
open Sys2Proof

/-- A loss of R99, and with it the sealing handshake that p8 serves (R230). -/
def laneLoss (s : State) (f p cause : Nat) : State :=
  let s := laneLossCore s f p cause
  if p = 8 ∧ s.rd (SEAL_STATUS_HS_STATE f) ≠ 0 then optWalk (sealAbandon s f 5) f else s

/-! ## The rows -/

def execSignalDetect (f : Fin 16) (p : Fin 9) (s : State) : Out :=
  .next (guardS (acqIn s f.val p.val 1) s fun s => effortE0 (setAcq s f.val p.val 2) f.val p.val)

def execSettleDone (f : Fin 16) (p : Fin 9) (gain : BitVec 7) (s : State) : Out :=
  .next (guardS (acqIn s f.val p.val 2) s fun s => enterSearch (setGain s f.val p.val gain.toNat) f.val p.val)

def execSettleLimit (f : Fin 16) (p : Fin 9) (gain : BitVec 7) (s : State) : Out :=
  .next (guardS (acqIn s f.val p.val 2) s fun s => enterSearch (setGain s f.val p.val gain.toNat) f.val p.val)

/-- R91, R92: candidates are ranked and the first enters RETUNE; four empty dwells in a row lead to DETECT. -/
def execSearchDwell (f : Fin 16) (p : Fin 9) (tones : List Tone) (s : State) : Out :=
  .next (guardS (acqIn s f.val p.val 3) s fun s =>
    let x := s.lane f.val p.val
    match candidates x.dwellModes tones with
    | [] =>
      if 4 ≤ x.emptyDwells + 1 then
        enterDetect (s.setLane f.val p.val { x with emptyDwells := 0 }) f.val p.val
      else enterSearch (s.setLane f.val p.val { x with emptyDwells := x.emptyDwells + 1 }) f.val p.val
    | cs => nextCand (s.setLane f.val p.val { x with cands := cs, emptyDwells := 0 }) f.val p.val)

def execRetuneDone (f : Fin 16) (p : Fin 9) (s : State) : Out :=
  .next (guardS (acqIn s f.val p.val 4) s fun s => setAcq s f.val p.val 5)

def execRetuneLimit (f : Fin 16) (p : Fin 9) (s : State) : Out :=
  .next (guardS (acqIn s f.val p.val 4) s fun s => nextCand s f.val p.val)

def execConvergeLimit (f : Fin 16) (p : Fin 9) (s : State) : Out :=
  .next (guardS (acqIn s f.val p.val 5) s fun s => nextCand s f.val p.val)

/-- R93: the window ends in VERIFY, or in RELOCK after its restart. -/
def execVerifyWindow (f : Fin 16) (p : Fin 9) (v : Verify) (s : State) : Out :=
  .next (guardS (acqIn s f.val p.val 6 || (acqIn s f.val p.val 8 && (s.lane f.val p.val).relockWindow)) s fun s =>
    verifyEnd s f.val p.val v)

/-- R95: the search goes on. -/
def execAcqTimeout (f : Fin 16) (p : Fin 9) (s : State) : Out :=
  let st := s.rd (LANE_ACQ_STATUS_STATE f.val p.val)
  .next (guardS (s.alive && st != 0 && st != 7) s fun s => laneEvent s f.val p.val 8 st (LANE_EVENTS_ACQ_TIMEOUT f.val p.val))

/-- R91: the loop holds neither limit of R121 and the window starts. -/
def execRelockRestartEnd (f : Fin 16) (p : Fin 9) (s : State) : Out :=
  .next (guardS (acqIn s f.val p.val 8 && !(s.lane f.val p.val).relockWindow) s fun s =>
    let s := s.setLane f.val p.val { s.lane f.val p.val with relockWindow := true }
    let d := laneDp s f.val p.val
    if d = 15 then s else (softDrop s f.val d).wrs [(TR_STATUS_F_LIMIT f.val d, 0), (TR_STATUS_P_LIMIT f.val d, 0)])

/-- R91: the restart has not ended within 200 us. -/
def execRelockLimit (f : Fin 16) (p : Fin 9) (s : State) : Out :=
  .next (guardS (acqIn s f.val p.val 8) s fun s => relockFailed s f.val p.val)

/-- R87, R100: P_NOW in every state but OFF, from the sum of the squared codes of the block's `n` samples and the gain; in LOCKED with
STEP_EN the step comparison with the ten blocks before. -/
def execPowerBlock (f : Fin 16) (p : Fin 9) (sumSq : Nat) (n : Nat) (gain : BitVec 7) (s : State) : Out :=
  let st := s.rd (LANE_ACQ_STATUS_STATE f.val p.val)
  .next (guardS (s.alive && st != 0) s fun s =>
    let x := s.lane f.val p.val
    let s := setGain s f.val p.val gain.toNat
    let power := powerIn sumSq n (s.rd (LANE_AGC_GAIN f.val p.val))
    let v := clampI (-32767) 32767 power
    let rise := st == 7 && powerStep x.blocks v
    let step := rise && s.on (LANE_ACQ_CTRL_STEP_EN f.val p.val)
    let s := s.wr (LANE_POWER_P_NOW f.val p.val) (powerField power)
    let s := s.setLane f.val p.val { s.lane f.val p.val with blocks := (v :: x.blocks).take 10 }
    let s := if rise && s.rd (LANE_MAP_AUX_SHADOW_LANE f.val) == p.val then rotationAbandon s f.val 3 4 else s
    if step then laneLoss s f.val p.val 4 else s)

def execLos (f : Fin 16) (p : Fin 9) (s : State) : Out :=
  .next (guardS (acqIn s f.val p.val 7) s fun s => laneLoss s f.val p.val 1)

/-- R101: clipped samples are counted in every state but OFF; in LOCKED with CLIP_EN a fraction above 1/8192 is a loss. -/
def execClipWindow (f : Fin 16) (p : Fin 9) (clipped : Nat) (samples : Nat) (s : State) : Out :=
  let st := s.rd (LANE_ACQ_STATUS_STATE f.val p.val)
  .next (guardS (s.alive && st != 0) s fun s =>
    let s := s.wr (LANE_CLIP_COUNT_CLIPS f.val p.val) (satAdd 32 (s.rd (LANE_CLIP_COUNT_CLIPS f.val p.val)) clipped)
    if st == 7 && s.on (LANE_ACQ_CTRL_CLIP_EN f.val p.val) && clipLoss clipped samples then laneLoss s f.val p.val 5 else s)

def execDecFail (f : Fin 16) (p : Fin 9) (s : State) : Out :=
  .next (guardS (acqIn s f.val p.val 7) s fun s => laneLoss s f.val p.val 3)

/-- R99, R152: AM_LOCK falls with the loss. -/
def execAmLoss (f : Fin 16) (p : Fin 9) (s : State) : Out :=
  .next (guardS (acqIn s f.val p.val 7 && !patternMode s f.val p.val) s fun s => laneLoss s f.val p.val 2)

/-- R121: the limit held shows in TR_STATUS of the steering datapath, with the integrator and the interpolator as they
stand. -/
def execTimingLoss (f : Fin 16) (p : Fin 9) (interp : Bool) (freq : BitVec 16) (phase : BitVec 8) (s : State) : Out :=
  .next (guardS (acqIn s f.val p.val 7) s fun s =>
    let d := laneDp s f.val p.val
    let s := if d = 15 then s else
      s.wrs [(if interp then TR_STATUS_P_LIMIT f.val d else TR_STATUS_F_LIMIT f.val d, 1), (TR_STATUS_FREQ f.val d, freq.toNat),
        (TR_STATUS_PHASE f.val d, phase.toNat)]
    laneLoss s f.val p.val 6)

/-- The datapath of a lane takes the boundary that a marker gives in L200 and L200P, once in a window (R150). -/
def markerAlign (s : State) (f p : Nat) (inverted : Bool) (phase : Nat) : State :=
  if mode200 (s.rd (LANE_ACQ_STATUS_MODE f p)) then takeAlign s f p (some (phase % 64, inverted)) else s

/-- The marker group that a G0 port's line lane carries is learned for the fill toward the host (R203). -/
def markerLearn (s : State) (f p : Nat) (m : Marker) : State :=
  match portOfLane s f p with
  | some n => if s.rd (PORT_CFG_TYPE n) % 4 = 0 then let x := s.port n; s.setPort n { x with hostFill := { x.hostFill with marker := some m } } else s
  | none => s

/-- A marker in a window (R93, R152): eight in a row at one phase declare AM lock; after that, three misses in a row end it. -/
def markerInWindow (s : State) (f p : Nat) (found : Bool) (phase : Nat) : State :=
  let x := s.lane f p
  let d := laneDp s f p
  if d ≠ 15 ∧ s.on (CODE_STATUS_AM_LOCK f d) then
    if found ∧ phase = x.amPhase then s.setLane f p { x with amRun := x.amRun + 1, amMisses := 0 }
    else if 3 ≤ x.amMisses + 1 then (s.setLane f p { x with amRun := 0, amMisses := 0 }).wr (CODE_STATUS_AM_LOCK f d) 0
    else s.setLane f p { x with amMisses := x.amMisses + 1 }
  else
    let run := if !found then 0 else if x.amRun = 0 ∨ x.amPhase = phase then x.amRun + 1 else 1
    let s := s.setLane f p { x with amRun := run, amPhase := if found then phase else 0, amMisses := 0 }
    if 8 ≤ run ∧ d ≠ 15 then s.wr (CODE_STATUS_AM_LOCK f d) 1 else s

/-- R151, R152: a marker with up to 2 bit errors counts as found. In a window it builds AM lock; in LOCKED a marker is expected at the
phase of the lock, and three in a row that miss it are a loss with cause AM_LOSS. -/
def execAlignmentMarker (f : Fin 16) (p : Fin 9) (errors : Nat) (inverted : Bool) (m : Marker) (s : State) : Out :=
  let x := s.lane f.val p.val
  let found := decide (errors ≤ 2)
  .next (
    if acqIn s f.val p.val 6 || (acqIn s f.val p.val 8 && x.relockWindow) then
      let s := markerInWindow s f.val p.val found m.phase
      if found then markerAlign s f.val p.val inverted m.phase else s
    else if acqIn s f.val p.val 7 then
      if found && x.amPhase == m.phase then markerLearn (s.setLane f.val p.val { x with amMisses := 0 }) f.val p.val m
      else if patternMode s f.val p.val then s
      else if 3 ≤ x.amMisses + 1 then laneLoss s f.val p.val 2
      else s.setLane f.val p.val { x with amMisses := x.amMisses + 1 }
    else s)

/-! ## Register effects, called by Bus -/

/-- RESTART (R99, R103): no effect in OFF. In a state that is neither OFF nor LOCKED it restarts from DETECT too, with LAST_LOSS and the
LANE_EVENTS bit as for a LOCKED lane (DESIGN CHOICE: R99 speaks of LOCKED lanes; notes/assumptions/67.md). -/
def restartEff (s : State) (f p : Nat) : State :=
  if s.rd (LANE_ACQ_STATUS_STATE f p) = 0 then s else laneLoss (s.wr (LANE_ACQ_CTRL_RESTART f p) 1) f p 7

/-- A new MODE_EN (R98): a LOCKED lane whose mode it removes loses lock, once a sealing handshake on the face has ended (R31). -/
def modeEnEff (s : State) (f p v : Nat) : State :=
  let s := s.wr (LANE_ACQ_CTRL_MODE_EN f p) (Nat.land v (faceModes s f))
  if s.rd (SEAL_STATUS_HS_STATE f) = 0 ∧ modeRemoved s f p then laneLoss s f p 8 else s

/-- EQ_CONV.DONE (R118): CONVERGE ends and VERIFY begins; ignored elsewhere. -/
def convDoneEff (s : State) (f p : Nat) : State :=
  if s.rd (LANE_ACQ_STATUS_STATE f p) = 5 then setAcq s f p 6 else s

/-- EQ_CONV.FAIL (R118): the candidate is dropped; ignored outside CONVERGE. -/
def convFailEff (s : State) (f p : Nat) : State :=
  if s.rd (LANE_ACQ_STATUS_STATE f p) = 5 then nextCand s f p else s

end Sys2Proof.Machine
end

