-- ==== Sys2Proof/Machine/Survey.lean ====
section
/-!
DEFINITION. Sys2Proof/Machine/Survey.lean: the monitor ADC (R363-R369), line calibration (R370-R378, R381) and the
temperature sets (R379).
-/
namespace Sys2Proof.Machine
open Sys2Proof

/-! ## The monitor ADC -/

/-- A channel of an absent face returns code 0 (R364). -/
def madcChannelCode (s : State) (ch raw : Nat) : Nat :=
  let face := if ch < 16 then none else if ch < 80 then some ((ch - 16) / 4) else if ch < 96 then some (ch - 80) else some (ch - 96)
  match face with
  | some f => if facePresent s f then madcCode s raw else 0
  | none => madcCode s raw

/-- Entries of a sequence as (CH, AVG, LO, HI): the MADC_SEQ record, or the default sequence (R367). -/
def seqEntries (s : State) : List (Nat × Nat × Nat × Nat) :=
  match s.planRecs 7 with
  | d :: _ => (List.range (recField d 0 2)).map fun n =>
      (recField d (4 + 8 * n) 1, recField d (5 + 8 * n) 1, recField d (8 + 8 * n) 2, recField d (10 + 8 * n) 2)
  | [] => (List.range 14).map fun n => (n, 2, 0, 4095)

/-- Loads the sequence into its registers. -/
def seqLoadNow (s : State) : State :=
  let es := seqEntries s
  let s := s.dropRegs fun a => decide (MADC_SEQ_ENTRY0 0 ≤ a) && decide (a < MADC_SEQ_ENTRY0 256)
  let t := (List.range es.length).foldl (fun t n =>
    match es[n]? with
    | some e => t.wrs [(MADC_SEQ_ENTRY0_CH n, e.1), (MADC_SEQ_ENTRY0_AVG n, e.2.1), (MADC_SEQ_ENTRY1_LO n, e.2.2.1), (MADC_SEQ_ENTRY1_HI n, e.2.2.2)]
    | none => t) s
  { t with seqLen := es.length, seqPending := false }

/-- A new MADC_SEQ takes effect at the end of the running pass (R368, R71). -/
def seqLoad (s : State) : State := if s.on MADC_STATUS_SEQ_ACTIVE then { s with seqPending := true } else seqLoadNow s

/-- The sequence stops: no pass is in progress, and the next begins at entry 0 (R369). -/
def seqStop (s : State) : State :=
  let s : State := { s.wrs [(MADC_STATUS_SEQ_ACTIVE, 0), (MADC_STATUS_ENTRY, 0)] with madcAcc := (0, 0) }
  if s.seqPending then seqLoadNow s else s

/-- Bit `n` of the alarm registers (14, registers). -/
def alarmBit (n : Nat) : Fld := { MADC_ALARM_ALARM (n / 32) with lo := n % 32, width := 1 }

/-- The end of an entry (R368): result, alarm, the next entry or the pass's end; a trapped H16 stops it here (R369). -/
def seqEntryEnd (s : State) (n mean : Nat) : State :=
  let s := s.wrs [(MADC_RESULT_PASS n, s.rd MADC_STATUS_PASSES), (MADC_RESULT_CODE n, mean)]
  let s := if mean < s.rd (MADC_SEQ_ENTRY1_LO n) ∨ s.rd (MADC_SEQ_ENTRY1_HI n) < mean then
      stickyEvent s (alarmBit n) { code := 0x0340, a0 := n, a1 := s.rd (MADC_SEQ_ENTRY0_CH n), a2 := mean }
    else s
  if !hewerRuns s 16 then seqStop s
  else if s.seqLen ≤ n + 1 then raiseIrq ((seqStop s).incMod MADC_STATUS_PASSES) 16 4
  else { s.wr MADC_STATUS_ENTRY (n + 1) with madcAcc := (0, 0) }

/-- One conversion of the running sequence entry (R363, R367, R368). -/
def seqConvert (s : State) (raw : Nat) : State :=
  let n := s.rd MADC_STATUS_ENTRY
  let avg := s.rd (MADC_SEQ_ENTRY0_AVG n)
  let sum := s.madcAcc.2 + madcChannelCode s (s.rd (MADC_SEQ_ENTRY0_CH n)) raw
  if s.madcAcc.1 + 1 < 2 ^ avg then { s with madcAcc := (s.madcAcc.1 + 1, sum) }
  else seqEntryEnd s n (roundDiv (sum : Int) (2 ^ avg)).toNat

/-- A write of MADC_CHSEL with START: the channel, VALID cleared (R366; 14, registers); a channel over 111 is RANGE. -/
def madcDirectEff (s : State) (ch : Nat) : State × Nat :=
  if 111 < ch then (s, stRange)
  else if s.on MADC_CHSEL_START then (s.wr MADC_CHSEL_CH ch, stOk)
  else (s.wrs [(MADC_CHSEL_CH, ch), (MADC_CHSEL_START, 1), (MADC_DATA_VALID, 0)], stOk)

/-- Self-calibration starts unless a face is in DUPLEX or ramping (R365). -/
def selfcalEff (s : State) : State × Nat :=
  if (List.range 16).any fun f => facePresent s f && (optState s f == 5 || (optState s f == 4 && s.on (OPT_STATUS_TRANSIT f))) then (s, stBusy)
  else if s.on MADC_CTRL_SELFCAL then (s, stOk)
  else (s.wrs [(MADC_CTRL_SELFCAL, 1), (MADC_STATUS_CAL_DONE, 0)], stOk)

/-! ## Calibration runs -/

/-- The running item of a lane. -/
def calItem (s : State) (f p : Nat) : Option CalItem := s.calQ.find? fun x => x.f == f && x.p == p && x.running

/-- Changes the running item of a lane. -/
def calUpd (s : State) (f p : Nat) (g : CalItem → CalItem) : State :=
  { s with calQ := s.calQ.map fun x => if x.f == f && x.p == p && x.running then g x else x }

/-- Removes the running item of a lane. -/
def calDrop (s : State) (f p : Nat) : State :=
  { s with calQ := s.calQ.filter fun x => !(x.f == f && x.p == p && x.running) }

/-- A run ends: RESULT, one lane fewer calibrating, and STATE 0, or 1 where another item of the lane waits (14, registers). -/
def calFinish (s : State) (f p result : Nat) : State :=
  let s := calDrop s f p
  s.wrs [(CAL_STATUS_STATE f p, bit (calBusy s f p)), (CAL_STATUS_SLICE f p, 0), (CAL_STATUS_RESULT f p, result),
    (SURVEY_STATUS_ACTIVE, s.rd SURVEY_STATUS_ACTIVE - 1)]

/-- The lane has no stand-in: its relief slice is used, or three handovers in a row failed (R373, R376). -/
def noStandIn (s : State) (f p : Nat) : Bool := s.on (LANE_SLICE_REPLACED f p) || decide (3 ≤ (s.lane f p).handFails)

/-- The set whose window holds the face temperature (R371): within 3.0 degrees of its temperature. -/
def windowSet (s : State) (f : Nat) : Option Nat :=
  (List.range 5).find? fun i => decide ((faceTemp16 s f - setTemp16 i).natAbs ≤ 48)

/-- The set nearest a temperature (R371), ties to the lower (notes/assumptions/21.md). -/
def nearestSet (t16 : Int) : Nat :=
  (List.range 5).foldl (fun b i => if (t16 - setTemp16 i).natAbs < (t16 - setTemp16 b).natAbs then i else b) 0

/-- The set that a run released now feeds, and whether it is a bootstrap run (R371); none when the face temperature lies in no
window (notes/assumptions/21.md). -/
def feedSet (s : State) (f p : Nat) : Option (Nat × Bool) :=
  if noValidSet s f p then some (nearestSet (faceTemp16 s f), true) else (windowSet s f).map fun i => (i, false)

/-- A released item starts (R373 step 1). -/
def calStart (s : State) (x : CalItem) (set : Nat) (boot : Bool) : State :=
  let f := x.f
  let p := x.p
  let started : CalItem := { x with running := true, set := set, boot := boot, temp := faceTemp16 s f, slice := 64, meas := [], retry := false, staging := [] }
  let s : State := { s with calQ := s.calQ.map fun y => if y = x then started else y }
  (s.wrs [(CAL_STATUS_STATE f p, 2), (CAL_STATUS_SLICE f p, 64), (CAL_STATUS_SET f p, set), (CAL_STATUS_KIND f p, x.kind),
    (SURVEY_STATUS_ACTIVE, s.rd SURVEY_STATUS_ACTIVE + 1)]).incMod (CAL_STATUS_RUNS f p)

/-- The values that a slice applies on the lane now. -/
def appliedSlice (s : State) (f p sl : Nat) : SliceVal :=
  let d := laneDp s f p
  sliceOfWords (s.reg (SLICE_CORR_A f d sl)).toNat (s.reg (SLICE_CORR_B f d sl)).toNat

/-- A slice takes values on every datapath of the lane, beside the sets, until the commit (R373 step 4, R375). -/
def acceptSlice (s : State) (f p sl : Nat) (v : SliceVal) : State :=
  let x := s.lane f p
  let s := s.setLane f p { x with accepted := tabSet {} x.accepted sl v }
  corrNotice ((laneDps s f p).foldl (fun t d =>
    t.wrs [(SLICE_CORR_A_GAIN f d sl, twos 16 v.gain), (SLICE_CORR_A_OFFSET f d sl, twos 16 v.offset),
      (SLICE_CORR_B_BW f d sl, twos 16 v.bw), (SLICE_CORR_B_SKEW f d sl, twos 16 v.skew)]) s) f p

/-- The values that a KIND measures, over others that are kept (R370). -/
def mergeKind (kind : Nat) (new kept : SliceVal) : SliceVal :=
  { offset := if kind = 3 then kept.offset else new.offset, gain := if kind = 3 then kept.gain else new.gain,
    skew := if kind = 2 then kept.skew else new.skew, bw := if kind = 2 then kept.bw else new.bw }

/-- The four differences of two measurements in 1/4192 of their tolerances (R374); values that the KIND does not measure are
equal. -/
def measDiffs (a b : SliceVal) : List Nat :=
  [131 * (a.offset - b.offset).natAbs, 32 * (a.gain - b.gain).natAbs, 1048 * (a.skew - b.skew).natAbs, 524 * (a.bw - b.bw).natAbs]

/-- Two measurements agree (R374). -/
def measAgree (a b : SliceVal) : Bool := (measDiffs a b).all fun x => decide (x ≤ 4192)

/-- The mean of a pair, rounded convergently (R374). -/
def measMean (a b : SliceVal) : SliceVal :=
  { offset := roundDiv (a.offset + b.offset) 2, gain := roundDiv (a.gain + b.gain) 2, skew := roundDiv (a.skew + b.skew) 2,
    bw := roundDiv (a.bw + b.bw) 2 }

/-- The pair that is taken of three: the agreeing one with the smallest largest difference, ties to the earlier (R374); sizes of
different values compare relative to their tolerances (notes/assumptions/22.md). -/
def measPair (a b c : SliceVal) : Option (SliceVal × SliceVal) :=
  ([(a, b), (a, c), (b, c)].filter fun x => measAgree x.1 x.2).foldl (fun best x =>
    match best with
    | none => some x
    | some y => if (measDiffs x.1 x.2).foldl max 0 < (measDiffs y.1 y.2).foldl max 0 then some x else some y) none

/-- A value outside a range of R79. -/
def outOfRange (v : SliceVal) : Bool :=
  decide (512 < v.offset.natAbs) || decide (4096 < v.gain.natAbs) || decide (400 < v.skew.natAbs) || decide (1024 < v.bw.natAbs)

/-- A rejected run (R374, R375): values of R81 return, RESULT 2, one event with q, the slice and the value. -/
def calReject (s : State) (f p sl val : Nat) : State :=
  let s := (calFinish (standInEnd s f p) f p 2).incSat SURVEY_STATUS_REJECTS
  logEvent s { code := 0x0341, kind := 1, index := 9 * f + p, a0 := 9 * f + p, a1 := sl, a2 := val }

/-- A sealed slice (R377): the relief slice becomes its replacement, or a second one marks the lane failing. -/
def sliceSeal (s : State) (f p sl : Nat) : State :=
  let q := 9 * f + p
  let rec_ : SealRec := { kind := 0, face := f, index := p, sub := sl }
  if s.on (LANE_SLICE_REPLACED f p) then
    logEvent (sealBurn (s.wrs [(LANE_SLICE_FAILING f p, 1), (LANE_SLICE_FAIL_SLICE f p, sl)]) rec_)
      { code := 0x0344, kind := 1, index := q, a0 := q, a1 := sl }
  else
    let s := s.wrs [(LANE_SLICE_STAND_IN f p, 0), (LANE_SLICE_REPLACED f p, 1), (LANE_SLICE_RELIEF_FOR f p, sl),
      (RELIEF_STATE_SLICE_RELIEF_USED f, nbitSet (s.rd (RELIEF_STATE_SLICE_RELIEF_USED f)) p true)]
    logEvent (sealBurn (reliefEval s f) rec_) { code := 0x0343, kind := 1, index := q, a0 := q, a1 := sl }

/-- The system byte of the mirror of set `i` of lane q (R379, R411): the sets as they lie in Survey SRAM (notes/assumptions/84.md). -/
def mirrorByte (q i : Nat) : Nat := 2 ^ 24 + q * 0x1400 + i * 0x400

/-- A committed set is mirrored to DDR4 where a channel is fitted (R379): its 65 slices, and its header at +0x300. -/
def mirrorStore (s : State) (q i : Nat) : State :=
  if s.rd PRESENCE_DDR = 0 then s
  else
    let words := (List.range 65).flatMap fun sl => leBytes 8 (memRaw s 9 0 (setWord q i sl))
    let s := ddrWrite (ddrWrite s 65 (mirrorByte q i) words) 1 (mirrorByte q i + 0x300) (leBytes 4 (s.reg (SET_HDR q i)).toNat)
    { s with mirror := if s.mirror.contains (5 * q + i) then s.mirror else s.mirror ++ [5 * q + i] }

/-- The commit (R375, R376): the staging set replaces set `i`, its header is written, R81 recomputes, and the set is mirrored. -/
def calCommit (s : State) (f p : Nat) (x : CalItem) : State :=
  let q := 9 * f + p
  let i := x.set
  let alone := noStandIn s f p
  let old := (List.range 65).map fun sl => (sl, setSlice s q i sl)
  let snr := sext 16 (s.rd (QUAL_SNR_SNR_DET f (laneDp s f p)))
  let oldHdr := s.reg (SET_HDR q i)
  let s := x.staging.foldl (fun t e => memPutWord t 9 0 (setWord q i e.1) (sliceWordA e.2 + sliceWordB e.2 * 2 ^ 32)) s
  let s := s.wrs [(SET_HDR_VALID q i, 1), (SET_HDR_RATE_CLASS q i, rateClass (s.rd (LANE_ACQ_STATUS_MODE f p))),
    (SET_HDR_TEMP q i, twos 12 (roundDiv (faceTemp16 s f) 2)), (SET_HDR_AGE q i, 0), (SET_HDR_GEN q i, s.rd (SET_HDR_GEN q i) + 1)]
  let s : State := { s with setAge := tabSet 0 s.setAge (5 * q + i) (s.mono + 1) }
  let s := mirrorStore s q i
  let l := s.lane f p
  let l' : LaneX := { l with handover := none, accepted := [], handFails := 0 }
  let l' : LaneX := if alone then { l' with revert := some (i, oldHdr, old, snr), calRest := s.mono + 86400000000000 } else l'
  let s := corrNotice (corrRecompute (s.setLane f p l') f p) f p
  (calFinish s f p 1).incMod SURVEY_STATUS_COMMITS

/-- A commit waits while a rotation shadows the lane (R373 step 5, R381). -/
def calCommitTry (s : State) (f p : Nat) : State :=
  match calItem s f p with
  | some x => if s.rd (CAL_STATUS_STATE f p) = 4 && s.rd (LANE_MAP_AUX_SHADOW_LANE f) != p then calCommit s f p x else s
  | none => s

/-- Step 2 for the next slice to trim, or the measurement itself where no stand-in serves (R373, R376); a sealed slice carries
no phase and keeps its values; after slice 63 the run awaits its commit. -/
def calSlice (s : State) (f p : Nat) (sl : Nat) : State :=
  let sealed := s.on (LANE_SLICE_REPLACED f p) && s.rd (LANE_SLICE_RELIEF_FOR f p) == sl
  let sl := if sealed then sl + 1 else sl
  let s := calUpd s f p fun x => { x with slice := sl, meas := [], retry := false }
  if 64 ≤ sl then calCommitTry (s.wr (CAL_STATUS_STATE f p) 4) f p
  else
    let s := s.setLane f p { s.lane f p with handover := if noStandIn s f p then none else some (sl, false) }
    s.wrs [(CAL_STATUS_STATE f p, 2), (CAL_STATUS_SLICE f p, sl)]

/-- The slice after `sl`: slice 64 comes first, then 0 to 63 (R373). -/
def calNext (s : State) (f p sl : Nat) : State := calSlice s f p (if sl = 64 then 0 else sl + 1)

/-- A slice's accepted value (R373 step 4, R376, R377). Slice 64 has no relief of its own: outside a range its run is rejected
(notes/assumptions/23.md). -/
def calAccept (s : State) (f p : Nat) (x : CalItem) (v : SliceVal) : State :=
  let sl := x.slice
  if outOfRange v then
    if sl = 64 then calReject s f p sl 4
    else calNext (sliceSeal s f p sl) f p sl
  else
    let kept := setSlice s (9 * f + p) x.set sl
    let s := calUpd s f p fun y => { y with staging := tabDel y.staging sl ++ [(sl, mergeKind x.kind v kept)] }
    if sl = 64 then calNext (acceptSlice s f p sl v) f p sl
    else if noStandIn s f p then calNext s f p sl
    else (s.setLane f p { s.lane f p with handover := some (sl, true) }).wr (CAL_STATUS_STATE f p) 3

/-- The first value over its tolerance: 0 offset, 1 gain, 2 skew, 3 bandwidth. -/
def firstOver (a b : SliceVal) : Nat := ((List.range 4).find? fun i => decide (4192 < (measDiffs a b).getD i 0)).getD 0

/-- A measurement of the slice under trim ends (R372, R374). -/
def calMeasure (s : State) (f p : Nat) (x : CalItem) (v : SliceVal) : State :=
  let s := calUpd s f p fun y => { y with meas := y.meas ++ [v] }
  match x.meas with
  | [] => s
  | [a] => if measAgree a v then calAccept s f p x (measMean a v) else s.incSat SURVEY_STATUS_THIRD_RUNS
  | a :: b :: _ =>
    match measPair a b v with
    | some y => calAccept s f p x (measMean y.1 y.2)
    | none => calReject s f p x.slice (firstOver a b)

/-- Step 2 of R373 fails (R83): RESULT 3, one event, and the lane waits 10 min; the third failure in a row is logged again. -/
def handoverFailed (s : State) (f p sl : Nat) : State :=
  let q := 9 * f + p
  let s := calRunEnd s f p 3
  let l := s.lane f p
  let s := (s.setLane f p { l with handFails := l.handFails + 1, calHold := true }).wr (CAL_STATUS_STATE f p) 0
  let ev : Ev := { code := 0x0345, kind := 1, index := q, a0 := q, a1 := sl }
  let s := logEvent s ev
  if l.handFails + 1 = 3 then logEvent s { ev with a2 := 3 } else s

/-- A handover's comparison passes (R83 step 2): mean in 1/64 LSB within 0.5 LSB, RMS in parts per million within 0.2 %. -/
def handoverPasses (mean rms : Int) : Bool := decide (mean.natAbs ≤ 32) && decide (rms.natAbs ≤ 2000)

/-- Step 4 done: slice `sl` has its phase back and takes its accepted values alone (R373). -/
def handedBack (s : State) (f p : Nat) (x : CalItem) : State :=
  let v := ((x.staging.find? fun e => e.1 == x.slice).map Prod.snd).getD {}
  let v := mergeKind x.kind v (appliedSlice s f p x.slice)
  let s := (s.setLane f p { s.lane f p with handover := none }).wr (LANE_SLICE_STAND_IN f p) 0
  calNext (acceptSlice s f p x.slice v) f p x.slice

/-- Step 4 fails: it is logged as any failed handover (R83); once the slice is measured again, a second failure seals it (R373, R377). -/
def handBackFailed (s : State) (f p : Nat) (x : CalItem) : State :=
  let s := logEvent s { code := 0x0345, kind := 1, index := 9 * f + p, a0 := 9 * f + p, a1 := x.slice }
  let s := s.setLane f p { s.lane f p with handover := none }
  if x.retry then
    let s := calUpd s f p fun y => { y with staging := tabDel y.staging x.slice }
    calNext (sliceSeal s f p x.slice) f p x.slice
  else (calUpd s f p fun y => { y with retry := true, meas := [] }).wr (CAL_STATUS_STATE f p) 2

/-- Runs end while H16 does not run (R284): they are discarded and queued again (notes/assumptions/24.md). -/
def surveyStop (s : State) : State :=
  (s.calQ.filter fun x => x.running && x.p != 9).foldl (fun t x => calRunEnd t x.f x.p 3) s

/-- A run whose face temperature has left its window is discarded and queued again (R371, R381). -/
def calWindowCheck (s : State) (f : Nat) : State :=
  let t := faceTemp16 s f
  (s.calQ.filter fun x => x.running && x.f == f && x.p != 9).foldl (fun u x =>
    let ref := if x.boot then x.temp else setTemp16 x.set
    if 48 < (t - ref).natAbs then calRunEnd u f x.p 4 else u) s

/-- Hours since a set's commit, saturating (14, registers). -/
def setAgeHours (s : State) (q i : Nat) : Nat :=
  let t := tabGet 0 s.setAge (5 * q + i)
  if t = 0 then 0 else min 255 ((s.mono + 1 - t) / 3600000000000)

/-- Survey's own scheduling for a lane (R371): the set of the present window is not valid, stale, or was taken out of its window. -/
def surveySchedule (s : State) (f p : Nat) : State :=
  let q := 9 * f + p
  let l := s.lane f p
  if s.on SURVEY_CTRL_AUTO && hewerRuns s 16 && s.on (LANE_ACQ_STATUS_LOCKED f p) && decide (l.calRest ≤ s.mono) && !l.calHold then
    match windowSet s f with
    | some i =>
      if !setValid s q i (s.rd (LANE_ACQ_STATUS_MODE f p)) || decide (s.rd SURVEY_CTRL_REFRESH < setAgeHours s q i) ||
          decide (48 < (2 * sext 12 (s.rd (SET_HDR_TEMP q i)) - setTemp16 i).natAbs) then calQueue s f p 1 0
      else s
    | none => s
  else s

/-- A lane's item may start: LOCKED, a set to feed, fewer than MAX_LANES at work and none on the face (R370, R371). -/
def calReady (s : State) (f p : Nat) : Option (Nat × Bool) :=
  if s.on (LANE_ACQ_STATUS_LOCKED f p) && !(s.lane f p).calHold && decide ((s.lane f p).calRest ≤ s.mono) && hewerRuns s 16 &&
      s.rd (SEAL_STATUS_HS_STATE f) == 0 &&
      decide (s.rd SURVEY_STATUS_ACTIVE < s.rd SURVEY_CTRL_MAX_LANES) && !(s.calQ.any fun x => x.f == f && x.running) then
    feedSet s f p
  else none

/-- R376: the next QUAL_SNR window after a run without a stand-in; more than 0.5 dB lower restores the previous set. -/
def revertCheck (s : State) (f p : Nat) (snr : Int) : State :=
  let q := 9 * f + p
  let l := s.lane f p
  match l.revert with
  | none => s
  | some (i, hdr, old, before) =>
    let s := s.setLane f p { l with revert := none }
    if 8 < before - snr then
      let s := old.foldl (fun t e => memPutWord t 9 0 (setWord q i e.1) (sliceWordA e.2 + sliceWordB e.2 * 2 ^ 32)) s
      let s := (s.setReg (SET_HDR q i) hdr).wr (CAL_STATUS_RESULT f p) 5
      logEvent (corrNotice (corrRecompute s f p) f p) { code := 0x0342, kind := 1, index := q, a0 := q, a1 := i }
    else s

/-! ## The sets (R379) -/

/-- A write of a set's words: word `w` of the slices (two to a slice) or its header (130). -/
def setWriteEff (s : State) (q i w : Nat) (value : Word) : State × Nat :=
  let f := q / 9
  let p := q % 9
  if (calItem s f p).isSome then (s, stBusy)
  else if w < 130 then
    if s.on (SET_HDR_VALID q i) then (s, stBusy)
    else (memWriteIn s 9 0 (q * 0x1400 + i * 0x400 + 4 * w) (leBytes 4 value.toNat), stOk)
  else
    let valid := fieldGet value 31 1
    let s := s.wrs [(SET_HDR_VALID q i, valid), (SET_HDR_RATE_CLASS q i, fieldGet value 30 1), (SET_HDR_TEMP q i, fieldGet value 16 12)]
    let s := if valid = 1 then { s with setAge := tabSet 0 s.setAge (5 * q + i) (s.mono + 1) } else s
    (corrNotice (corrRecompute s f p) f p, stOk)

/-! ## FACE_PLL runs (R378) -/

/-- The released FACE_PLL item of a face: it belongs to no lane, and lane 0's block shows it (notes/assumptions/25.md). -/
def pllItem (s : State) (f : Nat) : Option CalItem := calItem s f 9

def pllFinish (s : State) (f result : Nat) : State :=
  match pllItem s f with
  | some x => if x.started then (calDrop s f 9).wrs [(CAL_STATUS_STATE f 0, 0), (CAL_STATUS_RESULT f 0, result)] else s
  | none => s

/-! ## Rows -/

/-- R363, R366, R368: a direct conversion goes before the sequence. -/
def execMadcConversion (raw : BitVec 12) (s : State) : Out :=
  .next (guardS (s.alive && s.on MADC_STATUS_CAL_DONE) s fun s =>
    if s.on MADC_CHSEL_START then
      let ch := s.rd MADC_CHSEL_CH
      s.wrs [(MADC_DATA_VALID, 1), (MADC_DATA_CH, ch), (MADC_DATA_CODE, madcChannelCode s ch raw.toNat), (MADC_CHSEL_START, 0)]
    else if s.on MADC_STATUS_SEQ_ACTIVE then seqConvert s raw.toNat
    else s)

/-- R365. -/
def execSelfcalDone (gain offset : BitVec 16) (s : State) : Out :=
  .next (guardS (s.alive && !s.on MADC_STATUS_CAL_DONE) s fun s =>
    s.wrs [(MADC_GAIN_GAIN, gain.toNat), (MADC_OFFSET_OFFSET, offset.toNat), (MADC_STATUS_CAL_DONE, 1), (MADC_CTRL_SELFCAL, 0)])

/-- R368, R369: a pass starts while the sequence runs, H16 runs and no pass is in progress. -/
def execMadcSequencePass (s : State) : Out :=
  .next (guardS (s.alive && s.on MADC_CTRL_SEQ_RUN && hewerRuns s 16 && s.on MADC_STATUS_CAL_DONE && !s.on MADC_STATUS_SEQ_ACTIVE &&
      decide (0 < s.seqLen)) s fun s =>
    { s.wrs [(MADC_STATUS_SEQ_ACTIVE, 1), (MADC_STATUS_ENTRY, 0)] with madcAcc := (0, 0) })

/-- R372, R374: the measured residual of the slice in progress, in field units. -/
def execSliceMeasurement (f : Fin 16) (p : Fin 9) (off gain skew bw : Int) (s : State) : Out :=
  .next (guardS (s.alive && hewerRuns s 16) s fun s =>
    match calItem s f.val p.val with
    | some x =>
      let s := raiseIrq s 16 5
      if s.rd (CAL_STATUS_STATE f.val p.val) = 2 && (s.lane f.val p.val).handover.isNone && s.on (LANE_ACQ_STATUS_LOCKED f.val p.val) then
        let a := appliedSlice s f.val p.val x.slice
        calMeasure s f.val p.val x (mergeKind x.kind
          { offset := a.offset + off, gain := a.gain + gain, skew := a.skew + skew, bw := a.bw + bw } a)
      else s
    | none => s)

/-- R83: mean in 1/64 LSB, RMS in parts per million. -/
def execHandoverCompareDone (f : Fin 16) (p : Fin 9) (mean rms : Int) (s : State) : Out :=
  .next (guardS (s.alive && s.on (LANE_ACQ_STATUS_LOCKED f.val p.val) && hewerRuns s 16) s fun s =>
    match calItem s f.val p.val, (s.lane f.val p.val).handover with
    | some x, some (sl, back) =>
      match handoverPasses mean rms, back with
      | true, false =>
        let s := s.setLane f.val p.val { s.lane f.val p.val with handover := none }
        corrNotice (s.wrs [(LANE_SLICE_STAND_IN f.val p.val, 1), (LANE_SLICE_RELIEF_FOR f.val p.val, sl)]) f.val p.val
      | true, true => handedBack s f.val p.val x
      | false, false => handoverFailed s f.val p.val sl
      | false, true => handBackFailed s f.val p.val x
    | _, _ => s)

/-- R373: 10 min after a failed handover the lane is queued again. -/
def execCalRequeue (f : Fin 16) (p : Fin 9) (s : State) : Out :=
  .next (guardS (s.alive && (s.lane f.val p.val).calHold) s fun s =>
    let s := s.setLane f.val p.val { s.lane f.val p.val with calHold := false }
    if calBusy s f.val p.val then s.wr (CAL_STATUS_STATE f.val p.val) 1 else calQueue s f.val p.val 1 0)

/-- R378: a released run with the face in SYNTH drops PLL_LOCK. -/
def execFacePll (f : Fin 16) (s : State) : Out :=
  .next (guardS (s.alive && facePresent s f.val && optState s f.val == 3 && !s.on (OPT_STATUS_TRANSIT f.val)) s fun s =>
    match pllItem s f.val with
    | some x =>
      if x.started then s
      else pendingEval (((calUpd s f.val 9 fun y => { y with started := true }).wrs [(OPT_STATUS_PLL_LOCK f.val, 0), (CAL_STATUS_STATE f.val 0, 2)]).incMod
        (CAL_STATUS_RUNS f.val 0)) f.val
    | none => s)

/-- R378, R172: PLL_LOCK rises; a held target goes on. -/
def execFacePllDone (f : Fin 16) (s : State) : Out :=
  .next (guardS (s.alive && facePresent s f.val && optState s f.val == 3 && !s.on (OPT_STATUS_PLL_LOCK f.val)) s fun s =>
    optWalk ((pllFinish s f.val 1).wr (OPT_STATUS_PLL_LOCK f.val) 1) f.val)

/-- R378: RESULT 6; the PLLs keep retrying. -/
def execFacePllTimeout (f : Fin 16) (s : State) : Out :=
  .next (guardS (s.alive && facePresent s f.val && optState s f.val == 3 && !s.on (OPT_STATUS_PLL_LOCK f.val)) s fun s => pllFinish s f.val 6)

end Sys2Proof.Machine
end

