-- ==== Sys2Proof/Machine/Assay.lean ====
section
/-!
DEFINITION. Sys2Proof/Machine/Assay.lean: what Assay tests (R382), rotations (R383-R390), logic BIST (R391-R394) and the items
of ASSAY_RUN (R395).
-/
namespace Sys2Proof.Machine
open Sys2Proof

/-! ## Signatures (R59, R394) -/

/-- Offset of the signature set for this device in the ASSAY record. -/
def assaySet (s : State) : Option (List Nat × Nat) :=
  match s.planRecs 8 with
  | d :: _ => ((List.range (recField d 0 1)).find? fun n => recField d (4 + 392 * n) 4 == Config.revId).map fun n => (d, 4 + 392 * n)
  | [] => none

/-- SIGNATURE of slice `j` of a direction. -/
def assaySig (s : State) (dir j : Nat) : Option Nat :=
  (assaySet s).map fun x => recField x.1 (x.2 + 8 + 24 * (8 * dir + j) + 16) 8

/-- BIST is enabled for scheduled items of a face (R382). -/
def bistEnabled (s : State) (f : Nat) : Bool := nbit (faceRelief s f) 2 && s.on ASSAY_CTRL_SIGS_OK

/-- BIST is enabled for an item: those of ASSAY_RUN ignore RELIEF_POLICY, and none runs without a signature set (R59, R382, R395). -/
def bistFor (s : State) (x : AssayItem) : Bool := if x.op = 0 then bistEnabled s x.f else s.on ASSAY_CTRL_SIGS_OK

/-! ## What an item does (R382, R383) -/

/-- The relief datapath of a direction, 15 none. -/
def reliefDp (s : State) (f dir : Nat) : Nat := if dir = 0 then s.rd (RELIEF_STATE_RELIEF_DP f) else s.rd (LANE_MAP_TX_AUX_TX_RELIEF f)

def dirSealed (s : State) (f dir d : Nat) : Bool := if dir = 0 then dpSealed s f d else txSealed s f d

/-- The lane that a target's rotation would move: the lane in use that it serves, or the emitting lane that it drives (R382). -/
def targetLane (s : State) (f dir d : Nat) : Option Nat :=
  (List.range 9).find? fun p =>
    if dir = 0 then laneDp s f p == d && laneInUse s f p else txLaneDp s f p == d && nbit (s.face f).emit p

/-- FACE_REPLAN runs on the face. -/
def replanning (s : State) (f : Nat) : Bool :=
  s.ops.any fun o => opActive o && match o.kind with
    | .faceReplan g _ => g == f
    | _ => false

/-- A rotation of a lane may start (R383). -/
def rotationMay (s : State) (f dir p : Nat) : Bool :=
  reliefDp s f dir != 15 && !patternOnFace s f && s.rd (SEAL_STATUS_HS_STATE f) == 0 && !replanning s f &&
    (if dir = 0 then s.on (LANE_ACQ_STATUS_LOCKED f p) && !s.on (LANE_ACQ_STATUS_MODE_MISMATCH f p)
     else optState s f == 5 && nbit (s.face f).emit p)

/-- What an item needs now: none when it waits (R209, R383), else the lane that it rotates or none for BIST alone. -/
def assayReady (s : State) (x : AssayItem) : Option (Option Nat) :=
  if patternOnFace s x.f then none
  else if x.bistOnly || x.dp == reliefDp s x.f x.dir then some none
  else match targetLane s x.f x.dir x.dp with
    | none => some none
    | some p => if rotationMay s x.f x.dir p then some (some p) else none

/-- The scheduled target of a direction (R382): never tested first, then the largest age, ties to the lower; sealed and skipped
ones apart. -/
def assayTarget (s : State) (f dir : Nat) : Option Nat :=
  let x := s.face f
  ((List.range 9).filter fun d => !dirSealed s f dir d && !x.assaySkip.contains (9 * dir + d)).foldl (fun best d =>
    match best with
    | none => some d
    | some b => if tabGet 0 x.ageAt (9 * dir + d) < tabGet 0 x.ageAt (9 * dir + b) then some d else some b) none

/-! ## Items -/

/-- Queues an item; those of ASSAY_RUN go ahead of scheduled ones (R395). -/
def assayPut (s : State) (x : AssayItem) : State :=
  let ahead := fun (y : AssayItem) => x.op == 0 || y.op != 0 || y.running
  { s with assayQ := s.assayQ.takeWhile ahead ++ { x with queued := s.mono } :: s.assayQ.dropWhile ahead }

/-- The running item of a face. -/
def assayItem (s : State) (f : Nat) : Option AssayItem := s.assayQ.find? fun x => x.f == f && x.running

def assayUpd (s : State) (f : Nat) (g : AssayItem → AssayItem) : State :=
  { s with assayQ := s.assayQ.map fun x => if x.f == f && x.running then g x else x }

/-- The running item of a face has ended. -/
def assayDrop (s : State) (f : Nat) : State := { s with assayQ := s.assayQ.filter fun x => !(x.f == f && x.running) }

/-- AGE of a datapath restarts (R382, R392). -/
def ageRestart (s : State) (f dir d : Nat) : State :=
  s.setFace f { s.face f with ageAt := tabSet 0 (s.face f).ageAt (9 * dir + d) (s.mono + 1) }

/-- AGE in seconds, saturating (15, registers). -/
def assayAge (s : State) (f dir d : Nat) : Nat :=
  let t := tabGet 0 (s.face f).ageAt (9 * dir + d)
  if t = 0 then 0 else min (2 ^ 24 - 1) ((s.mono + 1 - t) / 1000000000)

/-! ## Copies (R168, R384) -/

/-- Copies one check word within an array copy; an unreadable word stays unreadable. -/
def memCopyWord (s : State) (a i src dst : Nat) : State :=
  match s.tag a i src with
  | none => (s.setBytes a i (dst * memWidth a) (leBytes (memWidth a) 0)).setTag a i dst none
  | some _ =>
    let (s, v, ue) := memReadWord s a i src
    let s := memPutWord s a i dst v
    if ue then s.setTag a i dst (some { poison := true }) else s

def memCopyWords (s : State) (a i src dst n : Nat) : State := (List.range n).foldl (fun t k => memCopyWord t a i (src + k) (dst + k)) s

/-- Step 1 of a receive rotation (R384, R80, R144): the relief takes what the serving datapath uses. -/
def rxShadow (s : State) (f p src r : Nat) : State :=
  let act := s.rd (EQ_BANK_CTRL_ACTIVE_EQ f src)
  let tab := s.rd (EQ_BANK_CTRL_ACTIVE_MLSE f src)
  let s := (rxdRegsReset s f r p 2).wr (LANE_MAP_AUX_SHADOW_LANE f) p
  let s := memCopyWords (memCopyWords s 5 f (bankWord src act 0) (bankWord r 0 0) 258) 5 f (bankWord src act 0) (bankWord r 1 0) 258
  let s := memCopyWords (memCopyWords s 5 f (tableWord src tab 0) (tableWord r 0 0) 64) 5 f (tableWord src tab 0) (tableWord r 1 0) 64
  let s := s.setReg (TR_CTRL f r) (s.reg (TR_CTRL f src))
  let s := s.wrs [(RXD_STATUS_MODE f r, s.rd (RXD_STATUS_MODE f src)), (DET_CTRL_NOISE_VAR f r, s.rd (DET_CTRL_NOISE_VAR f src)),
    (DET_CTRL_MLSE_ON f r, s.rd (DET_CTRL_MLSE_ON f src)), (TR_STATUS_FREQ f r, s.rd (TR_STATUS_FREQ f src)),
    (TR_STATUS_PHASE f r, s.rd (TR_STATUS_PHASE f src)), (TR_STATUS_STEER f r, 0),
    (CODE_STATUS_SYNC f r, s.rd (CODE_STATUS_SYNC f src)), (CODE_STATUS_OFFSET f r, s.rd (CODE_STATUS_OFFSET f src)),
    (CODE_STATUS_INVERTED f r, s.rd (CODE_STATUS_INVERTED f src)), (CODE_STATUS_AM_LOCK f r, s.rd (CODE_STATUS_AM_LOCK f src)), (EQ_BANK_CTRL_ACTIVE_TAG f r, s.rd (EQ_BANK_CTRL_ACTIVE_TAG f src))]
  corrShow (accRearm s) f r p

/-- Step 1 of a transmit rotation (R168): the interleaver's branches and what waits in the stages, shaping sets, pending and in use, and
INVERT. -/
def txParallel (s : State) (f p src r : Nat) : State :=
  let s := memCopyWords s 6 f (256 * src) (256 * r) 256
  let s := (List.range 7).foldl (fun t j => t.setReg (TXD_FIR f r j) (t.reg (TXD_FIR f src j))) s
  let s := ((s.setReg (TXD_CTRL f r) (s.reg (TXD_CTRL f src))).setShape f r (s.shape f src)).setTxd f r (s.txd f src)
  s.wrs [(TXD_CTRL_APPLY f r, 0), (TXD_STATUS_LANE f r, p), (TXD_STATUS_ROLE f r, 2), (TXD_STATUS_MODE f r, s.rd (TXD_STATUS_MODE f src)),
    (LANE_MAP_TX_AUX_PARALLEL_LANE f, p)]

/-! ## Start and end of the work -/

/-- An item released by Foreman starts its rotation or its next BIST slice (R384, R387, R391). The prepare step ends within the
command: the rotation stands in SHADOW, or in MATCH for transmit (notes/assumptions/26.md). -/
def assayStart (s : State) (x : AssayItem) (lane : Option Nat) : State :=
  let f := x.f
  let mark := fun (y : AssayItem) =>
    if y.f == x.f && y.dir == x.dir && y.dp == x.dp && y.op == x.op && !y.held then ({ y with running := true, blocked := 0, sig := (assaySig s y.dir y.slice).getD 0 } : AssayItem) else y
  let s : State := { s with assayQ := s.assayQ.map mark }
  match lane with
  | some p =>
    let r := reliefDp s f x.dir
    let s := s.wrs [(AS_FACE_STATUS_DIR f, x.dir), (AS_FACE_STATUS_DP f, r), (AS_FACE_STATUS_LANE f, p), (AS_FACE_STATUS_MATCHED f, 0),
      (AS_FACE_STATUS_RETEST f, 0), (AS_FACE_STATUS_SLICE f, 0)]
    if x.dir = 0 then (rxShadow s f p x.dp r).wr (AS_FACE_STATUS_PHASE f) 2
    else (txParallel s f p x.dp r).wr (AS_FACE_STATUS_PHASE f) 3
  | none =>
    let s := s.wrs [(AS_FACE_STATUS_PHASE f, 5), (AS_FACE_STATUS_DIR f, x.dir), (AS_FACE_STATUS_DP f, x.dp), (AS_FACE_STATUS_LANE f, 15),
      (AS_FACE_STATUS_SLICE f, x.slice), (AS_FACE_STATUS_RETEST f, 0), (AS_FACE_STATUS_MATCHED f, 0)]
    if x.dir = 0 then accRearm (laneOutEval (s.wr (RXD_STATUS_ROLE f x.dp) 3) f (s.rd (RXD_STATUS_LANE f x.dp)))
    else s.wr (TXD_STATUS_ROLE f x.dp) 3

/-- An item without BIST ends; with it, its slices follow (R382). -/
def assayAfterSwitch (s : State) (f dir d : Nat) (x : AssayItem) : State :=
  if bistFor s x then assayUpd s f fun y => { y with running := false, bistOnly := true, slice := 0, queued := s.mono }
  else assayDrop (ageRestart s f dir d) f

/-- The switch of a receive rotation and its release (R384, R386): output, steering and relief change hands. -/
def rxSwitch (s : State) (f p r : Nat) : State :=
  let src := laneDp s f p
  let freq := s.rd (TR_STATUS_FREQ f src)
  let s := (setLaneDp s f p r).wrs [(RELIEF_STATE_RELIEF_DP f, src), (RXD_STATUS_ROLE f r, 1), (LANE_MAP_AUX_SHADOW_LANE f, 15),
    (TR_STATUS_FREQ f r, freq), (TR_STATUS_STEER f r, s.rd (TR_STATUS_STEER f src)), (CODE_STATUS_AM_LOCK f r, s.rd (CODE_STATUS_AM_LOCK f src))]
  let s := rxdOff (qualReset s f r) f src 0
  laneOutEval (mapChanged s f p) f p

/-- The switch of a transmit rotation (R387, R168). -/
def txSwitch (s : State) (f p r : Nat) : State :=
  let src := txLaneDp s f p
  let s := (setTxLaneDp s f p r).wrs [(LANE_MAP_TX_AUX_TX_RELIEF f, src), (LANE_MAP_TX_AUX_PARALLEL_LANE f, 15), (TXD_STATUS_ROLE f r, 1),
    (TXD_STATUS_EMIT f r, s.rd (TXD_STATUS_EMIT f src)), (TXD_STATUS_ROLE f src, 0), (TXD_STATUS_LANE f src, 15), (TXD_STATUS_EMIT f src, 0)]
  mapChanged s f p

/-- A datapath fails BIST (R392): it is sealed, and no relief remains in its direction; one that failed in place gives its lane to
the relief (notes/assumptions/27.md). The sealing of a transmit datapath changes LANE_MAP_TX_AUX, which GEN counts (R167). -/
def bistSeal (s : State) (f dir d j : Nat) : State :=
  let s := bistRelease s f
  let r := reliefDp s f dir
  if dir = 0 then
    let at_ := (List.range 9).find? fun p => laneDp s f p == d
    let s := s.wrs [(RELIEF_STATE_DP_SEALED f, nbitSet (s.rd (RELIEF_STATE_DP_SEALED f)) d true), (RELIEF_STATE_RELIEF_DP f, 15),
      (AS_RX_DP_RESULT f d, 2), (AS_RX_DP_FAIL_SLICE f d, j)]
    let s := match at_ with
      | some p => mapChanged (if r = 15 then setLaneDp s f p r else rxServe (setLaneDp s f p r) f p r) f p
      | none => s
    let s := rxdOff s f d 4
    logEvent (sealBurn (reliefEval s f) { kind := 1, face := f, index := d }) { code := 0x0444, kind := 4, index := f, a0 := d, a1 := j }
  else
    let at_ := (List.range 9).find? fun p => txLaneDp s f p == d
    let s := s.wrs [(LANE_MAP_TX_AUX_TX_SEALED f, nbitSet (s.rd (LANE_MAP_TX_AUX_TX_SEALED f)) d true), (LANE_MAP_TX_AUX_TX_RELIEF f, 15),
      (AS_TX_DP_RESULT f d, 2), (AS_TX_DP_FAIL_SLICE f d, j)]
    let s := match at_ with
      | some p => mapChanged (if r = 15 then setTxLaneDp s f p r else (setTxLaneDp s f p r).wrs [(TXD_STATUS_LANE f r, p), (TXD_STATUS_ROLE f r, 1)]) f p
      | none => s.incMod (LANE_MAP_AUX_GEN f)
    let s := emitShow (s.wrs [(TXD_STATUS_LANE f d, 15), (TXD_STATUS_ROLE f d, 4)]) f
    logEvent (sealBurn (reliefEval s f) { kind := 2, face := f, index := d }) { code := 0x1141, kind := 4, index := f, a0 := d, a1 := j }

/-- A datapath has passed every slice (R392). -/
def bistPass (s : State) (f dir d : Nat) : State :=
  let s := (ageRestart s f dir d).wr (if dir = 0 then AS_RX_DP_RESULT f d else AS_TX_DP_RESULT f d) 1
  logEvent (s.incMod (AS_FACE_COUNTS_BIST_PASSES f)) { code := 0x0443, kind := 4, index := f, a0 := d, a1 := dir }

/-- A target that could not be matched while its relief passes is skipped for the rest of the cycle (R389). -/
def skipTarget (s : State) (f dir : Nat) (x : AssayItem) : State :=
  match x.forTarget with
  | some t => s.setFace f { s.face f with assaySkip := (s.face f).assaySkip ++ [9 * dir + t] }
  | none => s

/-- Progress of the ASSAY_RUN behind an item (R395): a slice more; a datapath that failed makes its result LIMIT. -/
def assayProgress (s : State) (h : Nat) (fail : Bool) : State :=
  if h = 0 then s else s.opUpd h fun o => { o with step := o.step + 1, failed := o.failed || fail }

/-- The end of a BIST slice with its MISR (R391, R392): it is judged by the signature in force at its start (R71). -/
def bistDone (s : State) (f : Nat) (x : AssayItem) (misr : Nat) : State :=
  let d := s.rd (AS_FACE_STATUS_DP f)
  let j := s.rd (AS_FACE_STATUS_SLICE f)
  if x.sig = misr then
    let s := assayProgress (bistRelease s f) x.op false
    if j < 7 then assayUpd s f fun y => { y with running := false, slice := j + 1, queued := s.mono }
    else assayDrop (skipTarget (bistPass s f x.dir d) f x.dir x) f
  else if s.rd (AS_FACE_STATUS_RETEST f) = 0 then s.wr (AS_FACE_STATUS_RETEST f) 1
  else assayDrop (assayProgress (bistSeal s f x.dir d j) x.op true) f

/-- Three MATCH abandonments in a row (R389): counted and logged; with BIST enabled the relief is tested in the target's stead. -/
def matchFailed (s : State) (f : Nat) (x : AssayItem) : State :=
  if x.matchFails + 1 = 3 then
    let s := logEvent (s.incSat (AS_FACE_COUNTS_MATCH_FAILS f)) { code := 0x0442, kind := 4, index := f, a0 := x.dp, a1 := x.dir }
    if bistEnabled s f then
      let upd := fun (y : AssayItem) =>
        if y.f == f && y.dir == x.dir && y.dp == x.dp && y.op == x.op then
          ({ f := f, dir := x.dir, dp := reliefDp s f x.dir, op := x.op, bistOnly := true, forTarget := some x.dp, queued := s.mono } : AssayItem)
        else y
      { s with assayQ := s.assayQ.map upd }
    else s
  else s

/-! ## Rows -/

/-- R382: the interval's item, unless one is outstanding; a direction without a relief queues none (R392). -/
def execAssayQueue (f : Fin 16) (s : State) : Out :=
  .next (guardS (s.alive && facePresent s f.val && nbit (faceRelief s f.val) 1 && s.on ASSAY_CTRL_EN) s fun s =>
    let x := s.face f.val
    let turn := (x.assayTurn + 1) % 18
    let s := s.setFace f.val { x with assayTurn := turn, assaySkip := if turn = 0 then [] else x.assaySkip }
    if s.assayQ.any fun y => y.f == f.val then s
    else
      let dir := x.assayDir
      let s := s.setFace f.val { s.face f.val with assayDir := 1 - dir }
      if reliefDp s f.val dir = 15 then s
      else match assayTarget s f.val dir with
        | some d => assayPut s { f := f.val, dir := dir, dp := d }
        | none => s)

/-- R384 step 3. -/
def execRotationShadowEnd (f : Fin 16) (s : State) : Out :=
  .next (guardS (s.alive && s.rd (AS_FACE_STATUS_PHASE f.val) == 2) s fun s =>
    s.wrs [(AS_FACE_STATUS_PHASE f.val, 3), (AS_FACE_STATUS_MATCHED f.val, 0)])

/-- R385, R387: 2^20 symbols or codes in a row. -/
def execRotationMatch (f : Fin 16) (s : State) : Out :=
  .next (guardS (s.alive && s.rd (AS_FACE_STATUS_PHASE f.val) == 3) s fun s =>
    s.wrs [(AS_FACE_STATUS_PHASE f.val, 4), (AS_FACE_STATUS_MATCHED f.val, 0x400)])

/-- R384 steps 4 and 5, R386, R387. -/
def execRotationSwitch (f : Fin 16) (s : State) : Out :=
  .next (guardS (s.alive && s.rd (AS_FACE_STATUS_PHASE f.val) == 4) s fun s =>
    let dir := s.rd (AS_FACE_STATUS_DIR f.val)
    let p := s.rd (AS_FACE_STATUS_LANE f.val)
    let r := s.rd (AS_FACE_STATUS_DP f.val)
    let src := if dir = 0 then laneDp s f.val p else txLaneDp s f.val p
    let s := if dir = 0 then rxSwitch s f.val p r else txSwitch s f.val p r
    let s := (assayIdle s f.val).incMod (AS_FACE_COUNTS_ROTATIONS f.val)
    let s := logEvent s { code := 0x0440, kind := 4, index := f.val, a0 := 9 * f.val + p, a1 := src, a2 := r }
    let s := match assayItem s f.val with
      | some x => assayAfterSwitch s f.val dir src x
      | none => s
    calCommitTry s f.val p)

/-- R384, R388 cause 10, R389. -/
def execMatchTimeout (f : Fin 16) (s : State) : Out :=
  .next (guardS (s.alive && s.rd (AS_FACE_STATUS_PHASE f.val) == 3) s fun s =>
    match assayItem s f.val with
    | some x => matchFailed (rotationAbandon s f.val 10 0) f.val x
    | none => rotationAbandon s f.val 10 0)

/-- R389: RETRY_S have passed. -/
def execAssayRetry (f : Fin 16) (s : State) : Out :=
  .next (guardS s.alive s fun s =>
    { s with assayQ := s.assayQ.map fun x => if x.f == f.val then { x with held := false } else x })

/-- R391, R392. -/
def execBistSliceDone (f : Fin 16) (misr : BitVec 64) (s : State) : Out :=
  .next (guardS (s.alive && s.rd (AS_FACE_STATUS_PHASE f.val) == 5) s fun s =>
    match assayItem s f.val with
    | some x => bistDone s f.val x misr.toNat
    | none => s)

end Sys2Proof.Machine
end

