-- ==== Sys2Proof/Machine/Pattern.lean ====
section
/-!
DEFINITION. Sys2Proof/Machine/Pattern.lean: the patterns PRBS13Q and PRBS31Q (R206), their generator and the checker of R207, on plain
bits. Polynomials and inversion are those of IEEE 802.3 (notes/assumptions/71.md).
-/
namespace Sys2Proof.Machine
open Sys2Proof

/-- Length of the register: 13 or 31. -/
def prbsLen (p31 : Bool) : Nat := if p31 then 31 else 13

/-- The next bit after the bits sent, newest first: 1 + x + x^2 + x^12 + x^13, or 1 + x^28 + x^31 inverted. -/
def prbsNext (p31 : Bool) (r : List Bool) : Bool :=
  let t := fun (k : Nat) => r.getD (k - 1) false
  if p31 then !(t 28 != t 31) else (t 1 != t 2) != (t 12 != t 13)

/-- Generated symbols: `n` level indices by the Gray map (R206), and the register after them, newest bit first. -/
def prbsSymbols (p31 : Bool) : Nat → List Bool → List Nat × List Bool
  | 0, r => ([], r)
  | n + 1, r =>
    let a := prbsNext p31 r
    let r := (a :: r).take 31
    let b := prbsNext p31 r
    let rest := prbsSymbols p31 n ((b :: r).take 31)
    (grayIndex (a, b) :: rest.1, rest.2)

/-- INJECT (R207): the more significant bit of the first `k` of the symbols is inverted. -/
def injectSymbols (k : Nat) (syms : List Nat) : List Nat :=
  syms.zipIdx.map fun e => if e.2 < k then grayIndex (!(grayBits e.1).1, (grayBits e.1).2) else e.1

/-- A checker as it stands: its register and runs, and what it adds to the counters and events. -/
structure PatRun where
  /-- the checker's own state -/
  x : PatX
  /-- SYNC -/
  sync : Bool
  /-- INVERTED -/
  inv : Bool
  /-- bits compared -/
  bits : Nat
  /-- mismatches -/
  errs : Nat
  /-- sync losses -/
  losses : Nat

/-- One received bit (R207). Out of sync the register takes received bits, in both polarities, and 256 bits in a row that it predicts
give SYNC; inversion changes the more significant bit of each symbol (R192). In sync it runs by itself, and more than 64 errors among the
last 1,024 bits end it. -/
def patBit (p31 : Bool) (r : PatRun) (b : Bool) : PatRun :=
  let msb := r.x.n % 2 == 0
  if r.sync then
    let want := prbsNext p31 r.x.reg
    let bad := want != (if r.inv && msb then !b else b)
    let n := r.x.n + 1
    let es := (if bad then n :: r.x.errsAt else r.x.errsAt).filter fun i => decide (n < i + 1024)
    if 64 < es.length then { r with x := { n := n }, sync := false, bits := r.bits + 1, errs := r.errs + bit bad, losses := r.losses + 1 }
    else { r with x := { r.x with reg := (want :: r.x.reg).take 31, n := n, errsAt := es }, bits := r.bits + 1, errs := r.errs + bit bad }
  else
    let c := if msb then !b else b
    let full := decide (prbsLen p31 ≤ r.x.reg.length)
    let run := if full && b == prbsNext p31 r.x.reg then r.x.run + 1 else 0
    let runInv := if full && c == prbsNext p31 r.x.regInv then r.x.runInv + 1 else 0
    let reg := (b :: r.x.reg).take 31
    let regInv := (c :: r.x.regInv).take 31
    if 256 ≤ run then { r with x := { reg := reg, n := r.x.n + 1 }, sync := true, inv := false }
    else if 256 ≤ runInv then { r with x := { reg := regInv, n := r.x.n + 1 }, sync := true, inv := true }
    else { r with x := { reg := reg, regInv := regInv, run := run, runInv := runInv, n := r.x.n + 1 } }

/-- A run of received bits. -/
def patBitsRun (p31 : Bool) (r : PatRun) (bs : List Bool) : PatRun := bs.foldl (patBit p31) r

end Sys2Proof.Machine
end

