-- ==== Sys2Proof/Machine/PatternOps.lean ====
section
/-!
DEFINITION. Sys2Proof/Machine/PatternOps.lean: where pattern generators and checkers keep their registers and counters (R206), and what
they do with symbols (R207).
-/
namespace Sys2Proof.Machine
open Sys2Proof

def patBits (w : PatAt) : Nat := match w with | .host h => HL_PRBS_BITS h.val | .line f d => RXD_PRBS_BITS f.val d.val
def patErrs (w : PatAt) : Nat := match w with | .host h => HL_PRBS_ERRS h.val | .line f d => RXD_PRBS_ERRS f.val d.val
def patChk (w : PatAt) : Fld := match w with | .host h => HL_PRBS_CTRL_CHK_EN h.val | .line f d => RXD_PRBS_CTRL_CHK_EN f.val d.val
def patSync (w : PatAt) : Fld := match w with | .host h => HL_PRBS_STATUS_SYNC h.val | .line f d => RXD_PRBS_STATUS_SYNC f.val d.val
def patInv (w : PatAt) : Fld := match w with | .host h => HL_PRBS_STATUS_INVERTED h.val | .line f d => RXD_PRBS_STATUS_INVERTED f.val d.val
def patResyncs (w : PatAt) : Fld := match w with | .host h => HL_PRBS_STATUS_RESYNCS h.val | .line f d => RXD_PRBS_STATUS_RESYNCS f.val d.val

/-- The pattern that a checker looks for: PRBS31Q rather than PRBS13Q. -/
def patChk31 (w : PatAt) : Fld := match w with | .host h => HL_PRBS_CTRL_CHK_PAT h.val | .line f d => RXD_PRBS_CTRL_CHK_PAT f.val d.val
/-- Address of the checker's PRBS_CTRL. -/
def patAddr (w : PatAt) : Nat := match w with | .host h => HL_PRBS_CTRL h.val | .line f d => RXD_PRBS_CTRL f.val d.val

/-- The level indices that a checker sees: a host lane's are corrected by its RX_INVERTED (R192); a line lane's are the detector's hard
decisions (R206). -/
def patReceived (s : State) (w : PatAt) (syms : List Nat) : List Nat :=
  match w with
  | .host h => if s.on (HL_STATUS_RX_INVERTED h.val) then syms.map (3 - ·) else syms
  | .line _ _ => syms

/-- A checker takes symbols (R207): SYNC, INVERTED, RESYNCS, BITS and ERRS follow. -/
def patFeed (s : State) (w : PatAt) (syms : List Nat) : State :=
  let bs := syms.flatMap fun i => [(grayBits i).1, (grayBits i).2]
  let r := patBitsRun (s.on (patChk31 w))
    { x := tabGet {} s.pats (patAddr w), sync := s.on (patSync w), inv := s.on (patInv w), bits := 0, errs := 0, losses := 0 } bs
  let t : State := { s with pats := tabSet {} s.pats (patAddr w) r.x }
  let t := t.wrs [(patSync w, bit r.sync), (patInv w, bit r.inv), (patResyncs w, t.rd (patResyncs w) + r.losses)]
  (t.addCtr (patBits w) r.bits).addCtr (patErrs w) r.errs

/-- The next symbols of a generator (R206): its register starts from a value that the spec leaves open (log 71); INJECT acts on the
first ones (R207). `a` is the address of its PRBS_CTRL. -/
def genSymbols (s : State) (a : Nat) (p31 : Bool) (n : Nat) : List Nat × State :=
  let r := prbsSymbols p31 n (tabGet Config.prbsSeed s.gens a)
  let k := tabGet 0 s.injects a
  (injectSymbols k r.1, { s with gens := tabSet Config.prbsSeed s.gens a r.2, injects := tabSet 0 s.injects a (k - n) })

end Sys2Proof.Machine
end

