-- ==== Sys2Proof/Machine/Eq.lean ====
section
/-!
DEFINITION. Sys2Proof/Machine/Eq.lean: equalisation and detection (04): coefficient banks, detector tables and swaps, the
gradient buffer, exponents, effort levels and quality metrics.
-/
namespace Sys2Proof.Machine
open Sys2Proof

/-- Is a swap of either kind pending (R111)? -/
def swapPending (s : State) (f d : Nat) : Bool := s.on (EQ_BANK_CTRL_SWAP_EQ f d) || s.on (EQ_BANK_CTRL_SWAP_MLSE f d)

/-- Is bank `b` (or table `b`) active? -/
def bankActive (s : State) (f d b : Nat) (table : Bool) : Bool :=
  s.rd (if table then EQ_BANK_CTRL_ACTIVE_MLSE f d else EQ_BANK_CTRL_ACTIVE_EQ f d) == b

/-- A write to word `k` of a bank or table (R111, R112, R124), with the status answered: BUSY and ACTIVE_WR when the target is
active or a swap is pending. Read-only bits of a header or a table word stay 0 (R319). -/
def bankWriteEff (s : State) (f d b k : Nat) (table : Bool) (v : Nat) : State × Nat :=
  if bankActive s f d b table || swapPending s f d then (s.wr (EQ_BANK_CTRL_ACTIVE_WR f d) 1, stBusy)
  else if table then (memWriteIn s 5 f (4 * tableWord d b k) (leBytes 4 (v % 2 ^ 12)), 0)
  else if k = 0 then (memWriteIn s 5 f (4 * bankWord d b 0) (leBytes 4 (v / 2 ^ 24 * 2 ^ 24 + v % 16)), 0)
  else (memWriteIn s 5 f (4 * bankWord d b k) (leBytes 4 v), 0)

/-- A swap request (R113): ignored with SWAP_OVERRUN while one is pending. -/
def swapEff (s : State) (f d : Nat) (eq mlse : Bool) : State :=
  if !eq && !mlse then s
  else if swapPending s f d then s.wr (EQ_BANK_CTRL_SWAP_OVERRUN f d) 1
  else s.wrs [(EQ_BANK_CTRL_SWAP_EQ f d, bit eq), (EQ_BANK_CTRL_SWAP_MLSE f d, bit mlse)]

/-- The accumulation in progress is discarded, and with it the blocks before this moment (R117). -/
def gradDrop (s : State) (f d : Nat) : State :=
  let x := s.rxd f d
  s.setRxd f d { x with dp := { x.dp with grad := [], gradN := 0, blocks := x.dp.blocks.map fun b => { b with use := false } } }

/-- A coefficient-bank swap takes effect (R113, R115): ACTIVE_EQ toggles, the new bank's TAG shows, zeroed bins end, and the gradient
starts anew (R117). -/
def swapEqApply (s : State) (f d : Nat) : State :=
  let a := 1 - s.rd (EQ_BANK_CTRL_ACTIVE_EQ f d)
  let s := gradDrop (s.setRxd f d { s.rxd f d with zeroBins := [] }) f d
  let (s, h, _) := memReadIn s 5 f (4 * bankWord d a 0) 4
  let s := (s.wrs [(EQ_BANK_CTRL_ACTIVE_EQ f d, a), (EQ_BANK_CTRL_SWAP_EQ f d, 0), (EQ_BANK_CTRL_ACTIVE_TAG f d, h / 2 ^ 24)]).incMod
    (EQ_BANK_CTRL_SWAP_COUNT f d)
  pcCount s f 1 (s.rd (RXD_STATUS_LANE f d)) 1

/-- A detector-table swap takes effect (R113): the samples that the equaliser has handed on before it keep the old table. -/
def swapMlseApply (s : State) (f d : Nat) : State :=
  let x := s.rxd f d
  let s := s.setRxd f d { x with dp := { x.dp with oldTab := x.dp.wait.length / 32 } }
  let s := (s.wrs [(EQ_BANK_CTRL_ACTIVE_MLSE f d, 1 - s.rd (EQ_BANK_CTRL_ACTIVE_MLSE f d)), (EQ_BANK_CTRL_SWAP_MLSE f d, 0)]).incMod
    (EQ_BANK_CTRL_SWAP_COUNT f d)
  pcCount s f 1 (s.rd (RXD_STATUS_LANE f d)) 1

/-- The datapath runs: it serves or shadows a lane whose engine is not OFF. -/
def rxdRuns (s : State) (f d : Nat) : Bool :=
  let r := s.rd (RXD_STATUS_ROLE f d)
  s.alive && facePresent s f && (r == 1 || r == 2) && decide (s.rd (RXD_STATUS_LANE f d) < 9) &&
    s.rd (LANE_ACQ_STATUS_STATE f (s.rd (RXD_STATUS_LANE f d))) != 0

/-- E_C of the active bank: zero after an uncorrectable error in its header (R112, R115). -/
def activeExp (s : State) (f d : Nat) : Int :=
  if (s.rxd f d).zeroBins.contains 257 then 0 else
    let w := bankWord d (s.rd (EQ_BANK_CTRL_ACTIVE_EQ f d)) 0
    match s.tag 5 f w with
    | none => 0
    | some _ => sext 4 (memRaw s 5 f w)

/-- The active bank's mantissas, bins 0 to 256 (R108, R112): a word never written and a bin of R115 count as zero. -/
def activeCoefs (s : State) (f d : Nat) : Array (Int × Int) :=
  (Array.range 257).map fun k =>
    let w := bankWord d (s.rd (EQ_BANK_CTRL_ACTIVE_EQ f d)) (k + 1)
    if (s.rxd f d).zeroBins.contains k || (s.tag 5 f w).isNone then (0, 0)
    else (sext 16 (memRaw s 5 f w), sext 16 (memRaw s 5 f w / 2 ^ 16))

/-- A detector table's 64 expected values (R123, R124). -/
def tableVals (s : State) (f d b : Nat) : Array Int :=
  (Array.range 64).map fun k =>
    let w := tableWord d b k
    if (s.tag 5 f w).isNone then 0 else sext 12 (memRaw s 5 f w)

/-- The slice that a phase's samples come from: the relief slice where it stands in for or replaces the phase's own (R82). -/
def phaseSlice (s : State) (f p j : Nat) : Nat :=
  if (s.on (LANE_SLICE_STAND_IN f p) || s.on (LANE_SLICE_REPLACED f p)) && s.rd (LANE_SLICE_RELIEF_FOR f p) == j then 64 else j

/-- The correction values that a datapath applies to a slice (R79, R80). -/
def sliceInUse (s : State) (f d sl : Nat) : SliceVal :=
  { offset := sext 16 (s.rd (SLICE_CORR_A_OFFSET f d sl)), gain := sext 16 (s.rd (SLICE_CORR_A_GAIN f d sl)),
    skew := sext 16 (s.rd (SLICE_CORR_B_SKEW f d sl)), bw := sext 16 (s.rd (SLICE_CORR_B_BW f d sl)) }

/-- What a block shows (R109, R110): its exponents with E_C of the active bank, the extremes since restart, saturated samples. -/
def blockShow (s : State) (f d : Nat) (o : EqOut) : State :=
  let ec := activeExp s f d
  s.wrs [(EQ_EXP_E_F f d, o.ef), (EQ_EXP_E_I f d, o.ei), (EQ_EXP_E_C f d, twos 4 ec), (EQ_EXP_SHIFT f d, twos 8 ((o.ef : Int) + ec + o.ei - 9)),
    (EQ_EXP_RANGE_EF_MIN f d, min (s.rd (EQ_EXP_RANGE_EF_MIN f d)) o.ef), (EQ_EXP_RANGE_EF_MAX f d, max (s.rd (EQ_EXP_RANGE_EF_MAX f d)) o.ef),
    (EQ_EXP_RANGE_EI_MIN f d, min (s.rd (EQ_EXP_RANGE_EI_MIN f d)) o.ei), (EQ_EXP_RANGE_EI_MAX f d, max (s.rd (EQ_EXP_RANGE_EI_MAX f d)) o.ei),
    (EQ_EXP_RANGE_SAT_COUNT f d, satAdd 8 (s.rd (EQ_EXP_RANGE_SAT_COUNT f d)) o.sats), (EQ_EXP_RANGE_RESTART f d, 0)]

/-- The timing loop after a clock (R119, R121): the proportional path moves the interpolator within ±0.5 UI, the integral path the
frequency within ±400 ppm; the scale of the error is open (log 68). F_LIMIT and P_LIMIT show a limit that is reached. -/
def loopStep (s : State) (f d : Nat) (err : Int) : State :=
  let phase := clampI (-128) 127 (sext 8 (s.rd (TR_STATUS_PHASE f d)) + Config.phaseStep (s.rd (TR_CTRL_KP f d)) err)
  let freq := clampI (-25600) 25600 (sext 16 (s.rd (TR_STATUS_FREQ f d)) + Config.freqStep (s.rd (TR_CTRL_KI f d)) err)
  s.wrs [(TR_STATUS_PHASE f d, twos 8 phase), (TR_STATUS_FREQ f d, twos 16 freq),
    (TR_STATUS_P_LIMIT f d, bit (decide (phase = -128 ∨ phase = 127))), (TR_STATUS_F_LIMIT f d, bit (decide (freq = -25600 ∨ freq = 25600)))]

/-- One clock of 256 codes through slice correction, the equaliser and the interpolator (R105, R107): the retimed samples wait for the
detector, and the block waits for its decisions (R116). -/
def rxClock (s : State) (f d : Nat) (codes : List Int) : State :=
  let x := (s.rxd f d).dp
  let p := s.rd (RXD_STATUS_LANE f d)
  let c := sliceCorrect (fun j => sliceInUse s f d (phaseSlice s f p j)) 0 x.slices codes
  let prev := if x.prev = [] then List.replicate 256 0 else x.prev
  let o := eqClock (activeCoefs s f d) (activeExp s f d) (prev ++ c.1)
  let rt := retime (sext 8 (s.rd (TR_STATUS_PHASE f d))) x.tail o.y
  let tent := sliceRun (tableVals s f d (s.rd (EQ_BANK_CTRL_ACTIVE_MLSE f d))) x.tdec rt
  let lv := rt.zip (tent.1.map fun e => pamLevel e.1)
  let s := loopStep (blockShow s f d o) f d (mmError x.lastRt lv)
  s.setRxd f d { s.rxd f d with dp := { x with
    slices := c.2, prev := c.1, tail := (o.y.reverse ++ x.tail).take 8, lastRt := lv.getLastD x.lastRt, tdec := tent.2,
    wait := x.wait ++ rt, blocks := x.blocks ++ [{ bins := o.bins, ef := o.ef }] } }

/-- Effort level of the lane that a datapath serves or shadows. -/
def rxdEffort (s : State) (f d : Nat) : Nat := s.rd (LANE_EFFORT_CURRENT f (s.rd (RXD_STATUS_LANE f d)))

/-- The oldest block has its 256 errors: while ENABLE is 1 its gradient joins the accumulation of 2^LOG2_BLOCKS blocks (R116, R128). -/
def gradStep (s : State) (f d : Nat) : State :=
  let x := s.rxd f d
  match x.dp.blocks with
  | [] => s
  | b :: bs =>
    if b.errs.length < 256 then s
    else if s.on (GRAD_CTRL_ENABLE f d) && b.use && decide (x.dp.gradN < 2 ^ s.rd (GRAD_CTRL_LOG2_BLOCKS f d)) then
      s.setRxd f d { x with dp := { x.dp with blocks := bs, grad := gradAdd x.dp.grad (blockGrad (rxdEffort s f d == 3) b), gradN := x.dp.gradN + 1 } }
    else s.setRxd f d { x with dp := { x.dp with blocks := bs } }

/-- A sample, its decided index and the metrics of the four, with the expected value of the decided triple. -/
abbrev Decided := Int × Nat × List Int × Int

/-- Decisions with the expected values of their triples (R123). -/
def withTriples (t : Array Int) : Nat × Nat → List (Int × (Nat × List Int)) → List Decided
  | _, [] => []
  | dec, e :: es => (e.1, e.2.1, e.2.2, tripleVal t dec.2 dec.1 e.2.1) :: withTriples t (e.2.1, dec.1) es

/-- What decided symbols leave (R116, R126, R131, R206): soft values for the decoder, errors for the block's gradient, the window's sums
while the lane is LOCKED, and symbols for an enabled checker. -/
def detLeave (s : State) (f d : Nat) (ds : List Decided) : State :=
  let x := s.rxd f d
  let nv := s.rd (DET_CTRL_NOISE_VAR f d)
  let es := ds.map fun e => twiceError (s.on (GRAD_CTRL_ERR_SRC f d)) (s.rd (GRAD_CTRL_LEVEL f d)) e.1 e.2.2.2
  let q := if s.rd (LANE_ACQ_STATUS_STATE f (s.rd (RXD_STATUS_LANE f d))) = 7 then ds.foldl (fun q e => qualAdd q e.2.2.2 e.1 e.2.1) x.dp.qual else x.dp.qual
  let s := s.setRxd f d { x with dp := { x.dp with
    soft := x.dp.soft ++ ds.map (fun e => softPair nv e.2.2.1), qual := q,
    blocks := match x.dp.blocks with
      | [] => []
      | b :: bs => { b with errs := b.errs ++ es } :: bs } }
  let s := gradStep s f d
  if h : f < 16 ∧ d < 9 then
    if s.on (RXD_PRBS_CTRL_CHK_EN f d) then patFeed s (.line ⟨f, h.1⟩ ⟨d, h.2⟩) (ds.map fun e => e.2.1) else s
  else s

/-- One detector window (R125), once 32 symbols and the 48 after them have come; the MLSE or the slicer by MLSE_ON. -/
def detStep (s : State) (f d : Nat) : State :=
  let x := s.rxd f d
  if x.dp.wait.length < 80 then s
  else
    let a := s.rd (EQ_BANK_CTRL_ACTIVE_MLSE f d)
    let t := tableVals s f d (if x.dp.oldTab = 0 then a else 1 - a)
    let win := x.dp.wait.take 32
    let r := detWindow (s.on (DET_CTRL_MLSE_ON f d)) t x.dp.mlseFrom x.dp.dec x.dp.past win ((x.dp.wait.drop 32).take 48)
    let s := s.setRxd f d { x with dp := { x.dp with
      past := win, wait := x.dp.wait.drop 32, dec := r.2, mlseFrom := none, oldTab := x.dp.oldTab - 1 } }
    detLeave s f d (withTriples t x.dp.dec (win.zip r.1))

/-- ADC codes enter a datapath (R105): every whole clock of 256 passes the stages up to the detector. -/
def rxFeed (s : State) (f d : Nat) (codes : List Int) : State :=
  let all := (s.rxd f d).dp.codes ++ codes
  let n := all.length / 256
  let s := s.setRxd f d { s.rxd f d with dp := { (s.rxd f d).dp with codes := all.drop (256 * n) } }
  (pieces 256 n all).foldl (fun t c => (List.range 8).foldl (fun t _ => detStep t f d) (rxClock t f d c)) s

/-- RESTART of the exponent range (R110): every field at its Reset column; RESTART reads 1 until the next block. -/
def expRestartEff (s : State) (f d : Nat) : State :=
  (s.setReg (EQ_EXP_RANGE f d) (resetWord (EQ_EXP_RANGE f d))).wr (EQ_EXP_RANGE_RESTART f d) 1

/-- The latched gradient (R117, R128): header and 257 words; bins 154 to 256 are zero at E3. -/
def gradWords (seq eg : Nat) (e3 : Bool) (g : List Word) : List Nat :=
  (seq % 256 * 2 ^ 24 + eg % 32) :: (List.range 257).map fun k => if e3 && decide (154 ≤ k) then 0 else (g.getD k 0).toNat

/-- A new CAP (R129, R134): deeper than FACE.EFFORT_LIMIT is RANGE; below the current or the pending level it is requested. -/
def capEff (s : State) (f p v : Nat) : State × Nat :=
  if faceEffortLimit s f < v then (s, stRange)
  else
    let s := s.wr (LANE_EFFORT_CAP f p) v
    let deeper := decide (v < s.rd (LANE_EFFORT_CURRENT f p)) ||
      (s.on (LANE_EFFORT_PEND f p) && decide (v < s.rd (LANE_EFFORT_PENDING f p)))
    (marginNextEval (if deeper then effortRequest s f p v else s) f p, 0)

/-- SNR_REQ by mode and level, 1/16 dB (R131). -/
def snrReq (mode lvl : Nat) : Int :=
  if mode = 1 ∨ mode = 2 then ([268, 272, 292, 302] : List Int).getD lvl 302 else ([260, 264, 282, 292] : List Int).getD lvl 292

/-- A signed 1/16 dB value in a 16-bit field in which 0x8000 means none. -/
def dbField (x : Int) : Nat := twos 16 (clampI (-32767) 32767 x)

/-! ## The rows -/

/-- R113: each requested swap takes effect; the table swap meets the first block of the new bank. SWAP_COUNT counts a bank and a table that
one write requested as two swaps (DESIGN CHOICE: R113 says one count on completion; notes/assumptions/80.md). -/
def execSwapApply (f : Fin 16) (d : Fin 9) (s : State) : Out :=
  .next (guardS s.alive s fun s =>
    let s := if s.on (EQ_BANK_CTRL_SWAP_EQ f.val d.val) then swapEqApply s f.val d.val else s
    if s.on (EQ_BANK_CTRL_SWAP_MLSE f.val d.val) then swapMlseApply s f.val d.val else s)

/-- R115, R412: the word turns poisoned with its event, and its owner acts. -/
def execBankUe (f : Fin 16) (d : Fin 9) (bin : Fin 258) (s : State) : Out :=
  .next (guardS (rxdRuns s f.val d.val) s fun s =>
    let k := if bin.val = 257 then 0 else bin.val + 1
    let w := bankWord d.val (s.rd (EQ_BANK_CTRL_ACTIVE_EQ f.val d.val)) k
    let t := (s.tag 5 f.val w).getD {}
    let s' := s.setTag 5 f.val w (some { t with poison := true })
    bankUe (if t.poison then s' else ownerNotice (ueEvent s' 0 5 f.val w (syndromeOf 5 t)) 5 f.val w) f.val d.val bin.val)

/-- R117: the buffer takes the gradient when it is free; else the accumulation is discarded with OVERRUN. The next one starts. -/
def execGradientLatch (f : Fin 16) (d : Fin 9) (s : State) : Out :=
  .next (guardS (rxdRuns s f.val d.val && s.on (GRAD_CTRL_ENABLE f.val d.val)) s fun s =>
    let x := s.rxd f.val d.val
    let s := s.setRxd f.val d.val { x with dp := { x.dp with grad := [], gradN := 0 } }
    if s.on (GRAD_CTRL_READY f.val d.val) then
      pcCount (s.wr (GRAD_CTRL_OVERRUN f.val d.val) 1) f.val 7 (s.rd (RXD_STATUS_LANE f.val d.val)) 1
    else
      let g := gradPack x.dp.grad
      let s := s.setRxd f.val d.val { s.rxd f.val d.val with gradSeq := (x.gradSeq + 1) % 256 }
      let s := memPutWords s 5 f.val (gradWord d.val 0) (gradWords (x.gradSeq + 1) g.1 (rxdEffort s f.val d.val == 3) g.2)
      raiseIrq (s.wr (GRAD_CTRL_READY f.val d.val) 1) f.val 4)

/-- R129 steps 2 and 3: in LOCKED a pending level is applied (R96, R134); an MLSE that it turns on starts from the slicer's decisions,
and the accumulation in progress is discarded (R117). -/
def execEffortSwitch (f : Fin 16) (p : Fin 9) (s : State) : Out :=
  .next (guardS (acqIn s f.val p.val 7 && s.on (LANE_EFFORT_PEND f.val p.val)) s fun s =>
    let l := s.rd (LANE_EFFORT_PENDING f.val p.val)
    let s := (laneDps s f.val p.val).foldl (fun t d =>
      let x := t.rxd f.val d
      let t := if l < 2 ∧ t.on (DET_CTRL_MLSE_ON f.val d) = false then t.setRxd f.val d { x with dp := { x.dp with mlseFrom := some x.dp.dec, past := [] } } else t
      gradDrop t f.val d) s
    effortApply (s.wrs [(LANE_EFFORT_PEND f.val p.val, 0), (LANE_EFFORT_PENDING f.val p.val, 0)]) f.val p.val l)

/-- The sums of a window: those of the symbols that passed the datapath, and `q` for the others (log 68). -/
def windowSums (s : State) (f d : Nat) (q : QualSum) : QualSum := qualJoin (s.rxd f d).dp.qual q

/-- SNR_DET of a window in 1/16 dB (R131); where no error or no signal stands in the sums the spec states no value, and a free one shows
(log 68). -/
def windowSnr (s : State) (w : QualSum) : Int := if w.t2 = 0 ∨ w.e2 = 0 then sext 16 s.freeVal else log16 w.t2 w.e2

/-- The statistics of one level (R131): a level at which no symbol was decided has a free mean and deviation (log 68). -/
def levelShow (s : State) (f d i : Nat) (l : LevelSum) : State :=
  if l.n = 0 then (s.wrs [(QUAL_LEVEL_MEAN f d i, s.freeVal), (QUAL_LEVEL_SIGMA f d i, s.freeVal / 2 ^ 16)]).tookFree
  else s.wrs [(QUAL_LEVEL_MEAN f d i, twos 16 (levelMean l)), (QUAL_LEVEL_SIGMA f d i, min 0xFFFF (levelSigma l))]

/-- R131: SNR, the margins at this and the next deeper level, and the level statistics; the next window starts. -/
def execQualityWindow (f : Fin 16) (d : Fin 9) (q : QualSum) (s : State) : Out :=
  let p := s.rd (RXD_STATUS_LANE f.val d.val)
  .next (guardS (rxdRuns s f.val d.val && acqIn s f.val p 7) s fun s =>
    let mode := s.rd (LANE_ACQ_STATUS_MODE f.val p)
    let lvl := s.rd (LANE_EFFORT_CURRENT f.val p)
    let w := windowSums s f.val d.val q
    let v := clampI (-32767) 32767 (windowSnr s w)
    let s := if w.t2 = 0 ∨ w.e2 = 0 then s.tookFree else s
    let x := s.rxd f.val d.val
    let s := s.setRxd f.val d.val { x with dp := { x.dp with qual := {} } }
    let next := if lvl = 3 ∨ s.rd (LANE_EFFORT_CAP f.val p) ≤ lvl then 0x8000 else dbField (v - snrReq mode (lvl + 1))
    let s := s.wrs [(QUAL_SNR_SNR_DET f.val d.val, dbField v), (QUAL_SNR_WINDOWS f.val d.val, satInc 16 (s.rd (QUAL_SNR_WINDOWS f.val d.val))),
      (QUAL_MARGIN_MARGIN_NOW f.val d.val, dbField (v - snrReq mode lvl)), (QUAL_MARGIN_MARGIN_NEXT f.val d.val, next)]
    let s := (List.range 4).foldl (fun t i => levelShow t f.val d.val i (w.levels.getD i {})) s
    if s.rd (RXD_STATUS_ROLE f.val d.val) = 1 then revertCheck s f.val p v else s)

end Sys2Proof.Machine
end

