-- ==== Sys2Proof/Machine/HostLane.lean ====
section
/-!
DEFINITION. Sys2Proof/Machine/HostLane.lean: host lanes, their bring-up, ports and test patterns (07).
-/
namespace Sys2Proof.Machine
open Sys2Proof

/-- An HL_EVENTS bit; its change from 0 to 1 logs an event with the lane (R196, R419). -/
def hostEvent (s : State) (h b : Nat) (fld : Fld) : State := stickyEvent s fld { code := 0x1300 + b, kind := 3, index := h }

/-- Sets a port's FAIL. -/
def portFail (s : State) (n c : Nat) : State := s.wr (PORT_STATUS_FAIL n) c

/-- Every port that a host lane touches again. -/
def hostPortEval (s : State) (h : Nat) : State :=
  match portOfHost s h with
  | some n => portEval s n
  | none => s

/-- To stage 1 (R191): the lane's CDR, polarity and markers start over; a training under way is abandoned (R210). -/
def hostStage1 (s : State) (h : Nat) : State :=
  let s := s.wrs [(HL_STATUS_STAGE h, 1), (HL_STATUS_CDR_LOCK h, 0), (HL_STATUS_RX_INVERTED h, 0), (HL_STATUS_AM_LOCK h, 0),
    (HL_STATUS_FIRST_PCS h, 0xFF), (HL_STATUS_POSITION h, 0xFF),
    (HL_STATUS_TRAIN h, if s.rd (HL_STATUS_TRAIN h) = 1 then 0 else s.rd (HL_STATUS_TRAIN h)), (HL_CTRL_RESTART h, 0)]
  hostPortEval { s with hostPcs := tabSet [] s.hostPcs h [] } h

/-- To stage 5 (R194, R196). -/
def hostStage5 (s : State) (h : Nat) : State :=
  hostPortEval (s.wrs [(HL_STATUS_STAGE h, 5), (HL_STATUS_AM_LOCK h, 0), (HL_STATUS_FIRST_PCS h, 0xFF), (HL_STATUS_POSITION h, 0xFF)]) h

/-- To OFF: STAGE 0 and every other field of HL_STATUS at its Reset column (R189, R210). -/
def hostOff (s : State) (h : Nat) : State :=
  hostPortEval { s.setReg (HL_STATUS h) (resetWord (HL_STATUS h)) with hostPcs := tabSet [] s.hostPcs h [] } h

/-- Ready (R191): every entry sets READY. -/
def hostReady (s : State) (h : Nat) : State := hostEvent (s.wr (HL_STATUS_STAGE h) 8) h 0 (HL_EVENTS_READY h)

/-- C2C port of a host lane (R55)? -/
def hostC2c (s : State) (h : Nat) : Bool :=
  match portOfHost s h with
  | some n => s.on (PORT_CFG_HOST_IF n)
  | none => false

/-- After polarity: training in C2C, else marker lock (R191). -/
def hostPolarityDone (s : State) (h : Nat) (inv : Bool) : State :=
  let s := s.wr (HL_STATUS_RX_INVERTED h) (bit inv)
  if hostC2c s h then s.wrs [(HL_STATUS_STAGE h, 4), (HL_STATUS_TRAIN h, 1)] else s.wr (HL_STATUS_STAGE h) 5

/-- PCS lanes of a port type's PHY (R198, R222); 16 for 1.6TBASE-R and 8 for 200GBASE-R are the numbers of IEEE 802.3
(notes/assumptions/17.md). -/
def portPcs (t : Nat) : Nat := match t % 4 with | 0 => 8 | 2 => 32 | _ => 16

/-- The lane-order check of R194. -/
def orderOk (s : State) (n : Nat) : Bool :=
  let hs := portHostLanes s n
  let p := portPcs (s.rd (PORT_CFG_TYPE n))
  let ls := hs.map fun h => tabGet [] s.hostPcs h
  ls.all (fun l => l.length * hs.length == p) && (List.range p).all fun i => (ls.flatten.filter (· == i)).length == 1

/-- The check fails (R194, R222): FAIL = ORDER, and every host lane of the port returns to stage 5. -/
def hostOrderFail (s : State) (n : Nat) : State :=
  (portHostLanes s n).foldl (fun t h => hostStage5 (hostEvent t h 1 (HL_EVENTS_AM_FAIL h)) h)
    ((portFail s n 2).wr (PORT_EVENTS_ORDER_FAIL n) 1)

/-- Stage 6 on every host lane of the port (R194): to stage 7, or back to stage 5 with FAIL = ORDER. -/
def hostOrder (s : State) (n : Nat) : State :=
  let hs := portHostLanes s n
  if orderOk s n then
    hs.foldl (fun t h =>
      let l := tabGet [] t.hostPcs h
      let first := l.foldl min 0xFF
      t.wrs [(HL_STATUS_FIRST_PCS h, first), (HL_STATUS_POSITION h, first), (HL_STATUS_STAGE h, 7)]) s
  else hostOrderFail s n

/-- Marker lock done (R191, R194): a G0 lane is ready, in the paired variant once it carries every PCS lane of its PHY (R222), and its
marker is learned for the fill toward the line (R203); the lanes of another port wait for the last one. -/
def hostLocked (s : State) (h : Nat) (pcs : List Nat) (m : Marker) : State :=
  match portOfHost s h with
  | none => s
  | some n =>
    let t := s.rd (PORT_CFG_TYPE n)
    let s := s.wr (HL_STATUS_AM_LOCK h) 1
    let s : State := { s with hostPcs := tabSet [] s.hostPcs h pcs }
    if t % 4 = 0 then
      if portPaired t && !orderOk s n then hostOrderFail s n
      else
        let s := portEval (hostReady s h) n
        let x := s.port n
        if portPaired t then s else s.setPort n { x with lineFill := { x.lineFill with marker := some m } }
    else if (portHostLanes s n).all fun g => s.on (HL_STATUS_AM_LOCK g) then hostOrder s n else s

/-- Skew in ns, rounded to nearest, of a figure in host UI of 9.412 ps (R195; notes/assumptions/18.md). -/
def skewNs (ui : Nat) : Nat := (ui * 9412 + 500000) / 1000000

/-- Above 180 ns (R195). -/
def skewBad (ui : Nat) : Bool := decide (180000000 < ui * 9412)

/-- The port's counters of R205. -/
def hostClear (s : State) (n : Nat) : State := ((s.setCtr (HOST_CW n) 0).setCtr (HOST_UE n) 0).setCtr (HOST_SYM n) 0

/-- One codeword rebuilt from the host (R205): `none` is beyond correction, else the located symbol errors. -/
def hostCodeword (s : State) (n : Nat) (errs : Option Nat) : State :=
  if s.on (PORT_STATUS_HOST_READY n) && s.rd (PORT_CFG_TYPE n) % 4 != 0 then
    let s := s.addCtr (HOST_CW n) 1
    match errs with
    | none => s.addCtr (HOST_UE n) 1
    | some e => s.addCtr (HOST_SYM n) e
  else s

/-! ## Register effects -/

def adminUpEff (s : State) (n : Nat) (up : Bool) : State :=
  let s := s.wr (PORT_CTRL_ADMIN_UP n) (bit up)
  portEval (if up then s else portFail s n 5) n

def portRestartEff (s : State) (n : Nat) : State := (portHostLanes s n).foldl hostStage1 s

/-- The port whose lane a pattern facility concerns (R206): a line lane's checker lies in the datapath that serves the lane, its
generator in the one that drives it. -/
def patPort (s : State) (w : PatAt) (chk : Bool) : Option Nat :=
  match w with
  | .host h => portOfHost s h.val
  | .line f d =>
    ((List.range 9).find? fun p => (if chk then laneDp s f.val p else txLaneDp s f.val p) == d.val).bind (portOfLane s f.val)

/-- GEN_EN or CHK_EN (R209): the port goes down with FAIL = PRBS, rotations and BIST slices of the face end (R388 cause 9);
after the last facility of the port the host lanes pass the stages again. A checker starts unsynchronised. -/
def patEff (s : State) (w : PatAt) (chk en : Bool) : State :=
  let fld := match w, chk with
    | .host h, false => HL_PRBS_CTRL_GEN_EN h.val
    | .host h, true => HL_PRBS_CTRL_CHK_EN h.val
    | .line f d, false => TXD_PRBS_CTRL_GEN_EN f.val d.val
    | .line f d, true => RXD_PRBS_CTRL_CHK_EN f.val d.val
  let was := s.on fld
  let s := s.wr fld (bit en)
  let s := if chk then
      let s : State := { s with pats := tabSet {} s.pats (patAddr w) {} }
      match w with
      | .host h => s.wr (HL_PRBS_STATUS_SYNC h.val) 0
      | .line f d => s.wrs [(RXD_PRBS_STATUS_SYNC f.val d.val, 0), (RXD_STATUS_OUT_VALID f.val d.val, bit (outValid s f.val d.val))]
    else s
  match patPort s w chk with
  | none => s
  | some n =>
    if en then
      let s := assayAbandon (portFail s n 6) (s.rd (PORT_CFG_FACE n)) 9 3
      portEval (episodesEnd s n) n
    else if was && !patternOnPort s n then (portHostLanes s n).foldl hostStage1 s
    else portEval s n

/-- INJECT (R207): one symbol of a running generator is inverted. -/
def injectEff (s : State) (w : PatAt) : State :=
  let (fld, a) := match w with
    | .host h => (HL_PRBS_CTRL_GEN_EN h.val, HL_PRBS_CTRL h.val)
    | .line f d => (TXD_PRBS_CTRL_GEN_EN f.val d.val, TXD_PRBS_CTRL f.val d.val)
  if s.on fld then { s with injects := tabSet 0 s.injects a (tabGet 0 s.injects a + 1) } else s

/-- CLEAR of BITS and ERRS (R207). -/
def patClearEff (s : State) (w : PatAt) : State := (s.setCtr (patBits w) 0).setCtr (patErrs w) 0

/-- Is a host lane in a stage? -/
def hostIn (s : State) (h st : Nat) : Bool := s.alive && s.rd (HL_STATUS_STAGE h) == st

/-! ## The rows -/

/-- R191 stage 1; a lost REFCLK_A holds the lane there (R458). -/
def execHostSignalDetect (h : Fin 256) (s : State) : Out :=
  .next (guardS (hostIn s h.val 1 && !s.refALost && !nbit s.d2d (h.val / 64)) s fun s => s.wrs [(HL_STATUS_SIG_DET h.val, 1), (HL_STATUS_STAGE h.val, 2)])

/-- R191 stage 2; a forced polarity skips the search (R192). -/
def execCdrLock (h : Fin 256) (s : State) : Out :=
  .next (guardS (hostIn s h.val 2) s fun s =>
    let s := s.wrs [(HL_STATUS_CDR_LOCK h.val, 1), (HL_STATUS_STAGE h.val, 3)]
    match s.rd (HL_CTRL_POL_MODE h.val) with
    | 0 => s
    | m => hostPolarityDone s h.val (m == 2))

def execPolarity (h : Fin 256) (inverted : Bool) (s : State) : Out :=
  .next (guardS (hostIn s h.val 3) s fun s => hostPolarityDone s h.val inverted)

/-- R190, R193: training ends with the transmitter's taps that the partner's coefficient requests left. -/
def execLinkTrainingDone (h : Fin 256) (taps : Int × Int × Int) (s : State) : Out :=
  .next (guardS (hostIn s h.val 4) s fun s =>
    let s : State := { s with hostTaps := tabSet (0, 1000, 0) s.hostTaps h.val taps }
    s.wrs [(HL_STATUS_TRAIN h.val, 2), (HL_STATUS_STAGE h.val, 5)])

/-- R194. -/
def execHostMarkerLock (h : Fin 256) (pcs : List (BitVec 8)) (m : Marker) (s : State) : Out :=
  .next (guardS (hostIn s h.val 5) s fun s => hostLocked s h.val (pcs.map BitVec.toNat) m)

/-- R195: the skew of each host lane of the port, in lane order; a skew above 180 ns repeats stages 6 and 7. -/
def execDeskew (n : Fin 128) (skews : List (BitVec 16)) (s : State) : Out :=
  let hs := portHostLanes s n.val
  .next (guardS (s.alive && s.on (PORT_CFG_VALID n.val) && hs.all fun h => s.rd (HL_STATUS_STAGE h) == 7) s fun s =>
    let ks := (List.range hs.length).map fun i => (skews.getD i 0).toNat
    let s := (hs.zip ks).foldl (fun t e => t.wr (HL_SKEW_SKEW_UI e.1) e.2) s
    let s := s.wr (PORT_STATUS_MAX_SKEW n.val) (min 255 (skewNs (ks.foldl max 0)))
    if ks.any skewBad then hostOrder ((portFail s n.val 1).wr (PORT_EVENTS_DESKEW_FAIL n.val) 1) n.val
    else portEval (hs.foldl hostReady s) n.val)

/-- R191: the stage's HL_EVENTS bit is set and the lane returns to stage 1 (the CDR limit shows CDR_LOSS, notes/assumptions/19.md). -/
def execHostStageTimeout (h : Fin 256) (s : State) : Out :=
  let st := s.rd (HL_STATUS_STAGE h.val)
  .next (guardS (s.alive && decide (2 ≤ st) && decide (st ≤ 7)) s fun s =>
    let s := match st with
      | 2 => hostEvent s h.val 3 (HL_EVENTS_CDR_LOSS h.val)
      | 3 => hostEvent s h.val 5 (HL_EVENTS_POL_FAIL h.val)
      | 4 =>
        let s := hostEvent (s.wr (HL_STATUS_TRAIN h.val) 3) h.val 6 (HL_EVENTS_TRAIN_FAIL h.val)
        match portOfHost s h.val with
        | some n => portFail s n 3
        | none => s
      | 5 => if s.on (HL_STATUS_AM_LOCK h.val) then s else hostEvent s h.val 1 (HL_EVENTS_AM_FAIL h.val)
      | _ => s
    if st = 5 ∧ s.on (HL_STATUS_AM_LOCK h.val) then s else hostStage1 s h.val)

/-- R196: the port's host side goes down; the other lanes keep marker lock. -/
def execHostLaneLoss (h : Fin 256) (why : HostLoss) (s : State) : Out :=
  .next (guardS (hostIn s h.val 8) s fun s =>
    match why with
    | .signal => hostStage1 (hostEvent (s.wr (HL_STATUS_SIG_DET h.val) 0) h.val 2 (HL_EVENTS_LOS h.val)) h.val
    | .cdr => hostStage1 (hostEvent s h.val 3 (HL_EVENTS_CDR_LOSS h.val)) h.val
    | .marker => hostStage5 (pcCount (hostEvent s h.val 4 (HL_EVENTS_AM_LOSS h.val)) (16 + h.val / 8) 3 (h.val % 8) 1) h.val)

/-- R207: the checker takes the symbols, and the match of 256 consecutive bits gives SYNC. -/
def execPrbsSync (at_ : PatAt) (syms : List (Fin 4)) (s : State) : Out :=
  .next (guardS (s.alive && s.on (patChk at_)) s fun s => patFeed s at_ (patReceived s at_ (syms.map Fin.val)))

/-- R207: the checker takes the symbols; more than 64 bits among 1,024 in error end SYNC. -/
def execPrbsSyncLoss (at_ : PatAt) (syms : List (Fin 4)) (s : State) : Out :=
  .next (guardS (s.alive && s.on (patChk at_)) s fun s => patFeed s at_ (patReceived s at_ (syms.map Fin.val)))

end Sys2Proof.Machine
end

