-- ==== Sys2Proof/Machine/SeamFrames.lean ====
section
/-!
DEFINITION. Sys2Proof/Machine/SeamFrames.lean: the seam frames that this end sends (R212, R214-R218).
-/
namespace Sys2Proof.Machine
open Sys2Proof

/-- The position whose registers and settings a lane's channel uses: its own, or for p8 in a handshake the one being moved. -/
def seamPos (s : State) (f p : Nat) : Option Nat :=
  match posOf s f p with
  | some k => some k
  | none => if p = 8 ∧ s.rd (SEAL_STATUS_HS_STATE f) ≠ 0 then some (s.rd (SEAL_STATUS_HS_POS f)) else none

/-- SF_MAX offered (R216). -/
def ownSfMax (s : State) (f p : Nat) : Nat :=
  match seamPos s f p with
  | some k => if s.on (SEAM_CTRL_SF_LIMIT f k) then 1 else 2
  | none => 2

/-- Fields with their widths in sending order, each most significant bit first (R212). -/
def packFields (l : List (Nat × Nat)) : List Bool := l.flatMap fun e => msbBits e.2 e.1

/-- A frame of a TYPE with its BODY (R214). -/
def seamBits (ty : Nat) (body : List (Nat × Nat)) : List Bool :=
  let x := msbBits 4 ty ++ packFields body
  msbBits 4 6 ++ x ++ msbBits 8 (crc8 x)

/-- HELLO (step 0) or READY (step 2) of R216: the token is 0 under SF1. -/
def seamOffer (s : State) (f p step : Nat) : List Bool :=
  let x := s.seam f p
  let mx := ownSfMax s f p
  seamBits 2 [(mx, 4), (step, 2), (if step = 2 then bit x.cap else 0, 1), (bit (nbit (faceRelief s f) 0), 1),
    (if mx = 1 ∨ x.sf = 1 then 0 else (s.face f).token, 16), ((seamPos s f p).getD 0, 3), (0, 21)]

/-- RTT of R216: the frames sent on the lane, and the STAMP of the last good frame received. -/
def seamRtt (s : State) (f p : Nat) : List Bool :=
  let x := s.seam f p
  seamBits 2 [(ownSfMax s f p, 4), (1, 2), (0, 1), (bit (nbit (faceRelief s f) 0), 1), (x.stamp, 12), (x.echo, 12), (0, 16)]

/-- DATA of R215. SEQ is the pair that the port sends; RQ goes out while a request is outstanding (R224). -/
def seamDataOut (s : State) (f p : Nat) : List Bool :=
  let x := s.seam f p
  let k := (seamPos s f p).getD 0
  let seq := match portOf s f k with
    | some n => (s.port n).pair
    | none => 0
  let rq := s.on (REPLAY_STATUS_RQ_OUT f k)
  seamBits 1 [(seq, 12), (x.good.getD 0, 12), (if rq then s.rd (REPLAY_STATUS_RQ_SEQ f k) else 0, 12), (bit x.good.isSome, 1), (bit rq, 1),
    (s.rd (REPLAY_STATUS_REPLAYING f k), 1), (bit (decide (0 < x.unavail)), 1), (0, 8)]

/-- A SEAL frame of R217. -/
def seamSealOut (m : SealOut) : List Bool :=
  seamBits 3 [(m.msg, 4), (m.pos, 3), (0, 1), (m.tag, 8), (m.seq, 12), (m.reason, 4), (0, 16)]

/-- The message that a SEAL frame of a lane carries: that of the face's handshake, or in alternate slots the answer to another one
(R217, R230; notes/assumptions/77.md). -/
def sealMsg (s : State) (f stamp : Nat) : Option SealOut :=
  let h := (s.face f).hs
  match h.out, h.reply with
  | some a, some b => some (if stamp / 4 % 2 = 0 then a else b)
  | some a, none => some a
  | none, b => b

/-- The frame that a lane sends next: HELLO until the partner's HELLO has come, RTT until the round trip is measured, READY until the
partner's READY has come and one READY is out, then DATA (R218); under SF2 every fourth DATA frame gives way to a SEAL message, except on
the lane being moved (R217). A lane that does not train sends HELLO too (notes/assumptions/76.md). -/
def seamOut (s : State) (f p : Nat) : List Bool :=
  let x := s.seam f p
  match x.state with
  | 3 => if x.measured then seamOffer s f p 2 else seamRtt s f p
  | 4 =>
    if !x.greeted then seamOffer s f p 2
    else if x.stamp % 4 = 3 ∧ x.sf = 2 then
      match sealMsg s f x.stamp with
      | some m => if posLane s f m.pos = p then seamDataOut s f p else seamSealOut m
      | none => seamDataOut s f p
    else seamDataOut s f p
  | _ => seamOffer s f p 0

/-- A lane's next frame starts: its STAMP counts it (R216), and UNAVAIL goes out with 16 frames (R225). -/
def seamNext (s : State) (f p : Nat) : List Bool × State :=
  let x := s.seam f p
  (seamOut s f p, s.setSeam f p { x with
    stamp := (x.stamp + 1) % 4096, unavail := x.unavail - 1, greeted := x.greeted || (x.measured && decide (3 ≤ x.state)) })

end Sys2Proof.Machine
end

