-- ==== Sys2Proof/Machine/LineTx.lean ====
section
/-!
DEFINITION. Sys2Proof/Machine/LineTx.lean: the stages of a transmit datapath (R161-R166) on the stream of a line lane (R138).
-/
namespace Sys2Proof.Machine
open Sys2Proof

/-- Clamp of a DAC code (R164). -/
def dacClamp (v : Int) : Int := max (-128) (min 127 v)

/-- Stages 3 to 5 on one period's level indices (R162-R164): INVERT, the taps and the predistortion over the last six indices and these,
the clamp with SAT_COUNT. A symbol leaves once the two after it are known. -/
def txShape (s : State) (f d : Nat) (syms : List Nat) : State :=
  let x := s.txd f d
  let sh := s.shape f d
  let run := (List.replicate (6 - x.line.length) 0 ++ x.line) ++ (if s.on (TXD_CTRL_INVERT f d) then syms.map (3 - ·) else syms)
  let raw := (List.range syms.length).map fun i => dacRaw sh false run (i + 4)
  let sat := (raw.filter fun c => decide (c < -128) || decide (127 < c)).length
  (s.setTxd f d { x with line := run.drop (run.length - 6), dac := raw.map dacClamp }).wr (TXD_STATUS_SAT_COUNT f d)
    (min 255 (s.rd (TXD_STATUS_SAT_COUNT f d) + sat))

/-- One codeword period (R161): encoder, interleaver, and in place of their stream a generator's symbols (R206, R207). -/
def txPeriod (s : State) (f d : Nat) (msg : List Bool) : State :=
  let mode := s.rd (TXD_STATUS_MODE f d)
  let x := s.txd f d
  let ws := (wordSymbols (modeEncode mode msg) :: x.words).take (modeDepth mode)
  let s := s.setTxd f d { x with words := ws }
  let r := if s.on (TXD_PRBS_CTRL_GEN_EN f d) then
      genSymbols s (TXD_PRBS_CTRL f d) (s.on (TXD_PRBS_CTRL_GEN_PAT f d)) (modePeriod mode)
    else (interleave mode ws, s)
  txShape r.2 f d r.1

/-- A datapath takes stream bits and the sideband bits that go with them (R138, R211): every whole message is sent. -/
def txFeed (s : State) (f d : Nat) (bits side : List Bool) : State :=
  let mode := s.rd (TXD_STATUS_MODE f d)
  let n := modeMsg mode - modeSide mode
  let x := s.txd f d
  let all := x.bits ++ bits
  let k := all.length / n
  let s := s.setTxd f d { x with bits := all.drop (k * n), side := side.drop (k * modeSide mode) }
  ((pieces n k all).zipIdx).foldl (fun t e => txPeriod t f d (e.1 ++ (side.drop (e.2 * modeSide mode)).take (modeSide mode))) s

/-- The transmit datapaths that take a lane's stream: the one that drives it and one in a transmit rotation (R168). -/
def laneTxs (s : State) (f p : Nat) : List Nat :=
  (List.range 9).filter fun d => s.rd (TXD_STATUS_LANE f d) == p && (s.rd (TXD_STATUS_ROLE f d) == 1 || s.rd (TXD_STATUS_ROLE f d) == 2)

/-- Sideband bits of a lane until `need` of them are there: whole frames follow those that wait (R212). -/
def sideDraw (s : State) (f p : Nat) (have_ : List Bool) (need : Nat) : List Bool × State :=
  (List.range ((need - have_.length + 63) / 64)).foldl (fun r _ =>
    let g := seamNext r.2 f p
    (r.1 ++ g.1, g.2)) (have_, s)

/-- Stream bits of a physical lane enter its transmit datapaths (R138, R161). -/
def laneSend (s : State) (f p : Nat) (bits : List Bool) : State :=
  match laneTxs s f p with
  | [] => s
  | d :: ds =>
    let mode := s.rd (TXD_STATUS_MODE f d)
    if optState s f < 3 ∨ mode = 0 then s
    else
      let x := s.txd f d
      let need := (x.bits.length + bits.length) / (modeMsg mode - modeSide mode) * modeSide mode
      let r := sideDraw s f p x.side need
      (d :: ds).foldl (fun t e => txFeed t f e bits r.1) r.2

/-- Stream bits of a service position: its lane, and in a sealing handshake that moves it p8 too (R228 step 1). -/
def posSend (s : State) (f k : Nat) (bits : List Bool) : State :=
  let p := posLane s f k
  let s := if p < 9 then laneSend s f p bits else s
  if s.rd (SEAL_STATUS_HS_STATE f) ≠ 0 ∧ s.rd (SEAL_STATUS_HS_POS f) = k ∧ p ≠ 8 then laneSend s f 8 bits else s

/-- The codes that a physical lane's DAC converts: its datapath's last period, or code 0 where it is not driven (R166). -/
def dacOut (s : State) (f p : Nat) : List Int :=
  let d := txLaneDp s f p
  if d ≠ 15 ∧ s.on (TXD_STATUS_EMIT f d) then (s.txd f d).dac else [0]

end Sys2Proof.Machine
end

