-- ==== Sys2Proof/Machine/Rs.lean ====
section
/-!
DEFINITION. Sys2Proof/Machine/Rs.lean: the outer code RS(544,514) of IEEE 802.3 (R153, R154, R201, R205), over GF(2^10): syndromes,
error locator, correction and encoder. Field, generator and symbol order are the standard's (notes/assumptions/70.md).
-/
namespace Sys2Proof.Machine
open Sys2Proof

/-- Times α in GF(2^10) with x^10 + x^3 + 1. -/
def gtDbl (a : Nat) : Nat := if a < 512 then 2 * a else Nat.xor (2 * a) 0x409

/-- Product over the low `n` bits of `b`. -/
def gtMulBits : Nat → Nat → Nat → Nat
  | 0, _, _ => 0
  | n + 1, a, b => Nat.xor (if b % 2 = 1 then a else 0) (gtMulBits n (gtDbl a) (b / 2))

def gtMul (a b : Nat) : Nat := if a = 0 ∨ b = 0 then 0 else gtMulBits 10 a b

/-- `a ^ e` over the low `n` bits of `e`. -/
def gtPowBits : Nat → Nat → Nat → Nat
  | 0, _, _ => 1
  | n + 1, a, e => gtMul (if e % 2 = 1 then a else 1) (gtPowBits n (gtMul a a) (e / 2))

def gtPow (a e : Nat) : Nat := gtPowBits 10 a e

/-- The inverse: a^1022. -/
def gtInv (a : Nat) : Nat := gtPow a 1022

/-- α^e. -/
def gtAlpha (e : Nat) : Nat := gtPow 2 (e % 1023)

/-- The 30 terms v, v·b, v·b², … added to a list of sums. -/
def addPowers (b : Nat) : Nat → List Nat → List Nat
  | _, [] => []
  | v, x :: xs => Nat.xor x v :: addPowers b (gtMul v b) xs

/-- The 30 syndromes of a word, whose first symbol is the coefficient of x^543. -/
def rsSyndromes (w : List Nat) : List Nat :=
  (w.zipIdx.filter fun e => e.1 != 0).foldl (fun acc e => addPowers (gtAlpha (543 - e.2)) e.1 acc) (List.replicate 30 0)

/-- Value of a polynomial, lowest coefficient first. -/
def gtEval (p : List Nat) (x : Nat) : Nat := p.foldr (fun c a => Nat.xor c (gtMul a x)) 0

/-- Sum of polynomials. -/
def gtAdd : List Nat → List Nat → List Nat
  | [], q => q
  | p, [] => p
  | a :: p, b :: q => Nat.xor a b :: gtAdd p q

/-- A polynomial times a constant and a power of x. -/
def gtScale (c k : Nat) (p : List Nat) : List Nat := List.replicate k 0 ++ p.map (gtMul c)

/-- The error locator of a list of syndromes (Berlekamp and Massey): its coefficients, and its length. -/
def rsLocator (syn : List Nat) : List Nat × Nat :=
  let step := fun (t : (List Nat × List Nat) × (Nat × Nat × Nat)) (n : Nat) =>
    let c := t.1.1
    let b := t.1.2
    let l := t.2.1
    let m := t.2.2.1
    let bd := t.2.2.2
    let d := (List.range (l + 1)).foldl (fun a i => Nat.xor a (gtMul (c.getD i 0) (if i ≤ n then syn.getD (n - i) 0 else 0))) 0
    if d = 0 then ((c, b), (l, m + 1, bd))
    else
      let c' := gtAdd c (gtScale (gtMul d (gtInv bd)) m b)
      if 2 * l ≤ n then ((c', c), (n + 1 - l, 1, d)) else ((c', b), (l, m + 1, bd))
  let r := (List.range 30).foldl step (([1], [1]), (0, 1, 1))
  (r.1.1, r.2.1)

/-- The places of the errors, by the power of x, when the locator has as many roots among the 544 as its length, and at most 15. -/
def rsPlaces (syn : List Nat) : Option (List Nat × List Nat) :=
  let r := rsLocator syn
  if 15 < r.2 then none
  else
    let ps := (List.range 544).filter fun e => gtEval r.1 (gtAlpha (1023 - e)) == 0
    if ps.length = r.2 then some (ps, r.1) else none

/-- The value of the error at a place (Forney), whose first root is α^0. -/
def rsValue (syn loc : List Nat) (e : Nat) : Nat :=
  let xi := gtAlpha (1023 - e)
  let om := (List.range 30).map fun n => (List.range (n + 1)).foldl (fun a i => Nat.xor a (gtMul (loc.getD i 0) (syn.getD (n - i) 0))) 0
  let dl := (loc.zipIdx.filterMap fun c => if c.2 % 2 = 1 then some (gtMul c.1 (gtPow xi (c.2 - 1))) else none).foldl Nat.xor 0
  gtMul (gtAlpha e) (gtMul (gtEval om xi) (gtInv dl))

/-- What the decoder finds in a word of 544 symbols (R153, R154): how many symbols it corrects and the corrected word, or none beyond
correction. -/
def rsDecode (w : List Nat) : Option (Nat × List Nat) :=
  let syn := rsSyndromes w
  if syn.all (· == 0) then some (0, w)
  else (rsPlaces syn).map fun r =>
    (r.1.length, w.zipIdx.map fun c => if r.1.contains (543 - c.2) then Nat.xor c.1 (rsValue syn r.2 (543 - c.2)) else c.1)

/-- The generator polynomial, lowest coefficient first: the product of x + α^j for j from 0 to 29. -/
def rsGen : List Nat := (List.range 30).foldl (fun g j => gtAdd (0 :: g) (g.map (gtMul (gtAlpha j)))) [1]

/-- The codeword of 514 symbols: the 30 check symbols follow, the highest power first. -/
def rsEncode (m : List Nat) : List Nat :=
  let g := ((rsGen.take 30).reverse)
  m ++ m.foldl (fun rem x =>
    let fb := Nat.xor x (rem.getD 0 0)
    if fb = 0 then rem.drop 1 ++ [0] else List.zipWith Nat.xor (rem.drop 1 ++ [0]) (g.map (gtMul fb))) (List.replicate 30 0)

/-- The 1,088 symbols of a pair as IEEE 802.3 interleaves its two codewords: alternately by 10-bit symbols (R153, R213). -/
def pairSymbols (a b : List Nat) : List Nat := (a.zip b).flatMap fun e => [e.1, e.2]

/-- The ten bits of a symbol in the order in which they are sent: the least significant first (notes/assumptions/70.md). -/
def symBits (x : Nat) : List Bool := (List.range 10).map (nbit x)

/-- The symbol of ten bits in sending order. -/
def bitsSym (b : List Bool) : Nat := (b.zipIdx.map fun e => if e.1 then 2 ^ e.2 else 0).sum

end Sys2Proof.Machine
end

