-- ==== Sys2Proof/Machine/Gearbox.lean ====
section
/-!
DEFINITION. Sys2Proof/Machine/Gearbox.lean: the gearbox's data (R197-R204): PCS lanes between host and line, what host transmitters send,
termination in the paired variants, fill, and the pairs and retry buffer of R213 and R223. Block codes, transcoding, scrambler and marker
groups are those of IEEE 802.3 (notes/assumptions/72.md).
-/
namespace Sys2Proof.Machine
open Sys2Proof

/-! ## Host transmitters (R188, R190, R192, R199) -/

/-- Tap weights of TX_PRESET, 1/1000 of the peak swing: pre-cursor, main, post-cursor (R190). -/
def presetTaps (n : Nat) : Int × Int × Int :=
  match n with | 0 => (0, 1000, 0) | 1 => (-50, 900, -50) | 2 => (-100, 800, -100) | _ => (-75, 850, 0)

/-- Taps that a host transmitter uses (R190): those of its training in C2C, of its preset in C2M. -/
def hostTapsOf (s : State) (h : Nat) : Int × Int × Int :=
  if hostC2c s h then tabGet (0, 1000, 0) s.hostTaps h else presetTaps (s.rd (HL_CTRL_TX_PRESET h))

/-- What a host transmitter drives for the symbols that it sends, in 1/1000 of a level unit (R190); the symbols before and after the run
count as none. -/
def hostDrive (s : State) (h : Nat) : List Int :=
  let t := hostTapsOf s h
  let l := (tabGet [] s.hostTx h).map pamLevel
  (List.range l.length).map fun i =>
    t.1 * l.getD (i + 1) 0 + t.2.1 * l.getD i 0 + (if i = 0 then 0 else t.2.2 * l.getD (i - 1) 0)

/-- A host lane sends bits: Gray-coded symbols (R188), a generator's symbols in their place (R207), TX_INVERT (R192). -/
def hostLaneSend (s : State) (h : Nat) (bits : List Bool) : State :=
  let data := wordSymbols bits
  let r := if s.on (HL_PRBS_CTRL_GEN_EN h) then genSymbols s (HL_PRBS_CTRL h) (s.on (HL_PRBS_CTRL_GEN_PAT h)) data.length else (data, s)
  { r.2 with hostTx := tabSet [] r.2.hostTx h (if s.on (HL_CTRL_TX_INVERT h) then r.1.map (3 - ·) else r.1) }

/-! ## PCS lanes (R198, R199) -/

/-- The symbols of one PCS lane in a pair of the line lane that carries it (R198): the line lane takes one 10-bit symbol from each of its
`per` PCS lanes in turn. -/
def pcsSymbols (per m : Nat) (pair : List Nat) : List Nat := (List.range (1088 / per)).map fun r => pair.getD (r * per + m) 0

/-- A line lane's pair from the symbols of its PCS lanes, in increasing number (R198). -/
def linePairOf (pcs : List (List Nat)) : List Nat :=
  (List.range (1088 / pcs.length)).flatMap fun r => pcs.map fun l => l.getD r 0

/-- The symbols that host lane i carries of the pairs of a port's line lanes (R199): PCS lanes i, i + H, i + 2H … , multiplexed by 10-bit
symbols in increasing number. -/
def hostShare (p n h i : Nat) (pairs : List (List Nat)) : List Nat :=
  let lanes := (List.range (p / h)).map fun m => pcsSymbols (p / n) ((i + m * h) % (p / n)) (pairs.getD ((i + m * h) / (p / n)) [])
  (List.range (1088 / (p / n))).flatMap fun r => lanes.map fun l => l.getD r 0

/-- A pair of every line lane of a port leaves toward the host (R199). -/
def hostPairs (s : State) (n : Nat) (pairs : List (List Nat)) : State :=
  let t := s.rd (PORT_CFG_TYPE n)
  ((portHostLanes s n).zipIdx).foldl (fun u e =>
    hostLaneSend u e.1 ((hostShare (portPcs t) (portLines t) (portHosts t) e.2 pairs).flatMap symBits)) s

/-! ## Fill (R202-R204) -/

/-- The 64 bits of a control block after its sync header, in sending order: the type and 56 bits. -/
def ctlBlock (ty rest : Nat) : List Bool := (List.range 8).map (nbit ty) ++ (List.range 56).map (nbit rest)

/-- Local Fault ordered set (R202): type 0x4B, data 00 00 01, O code 0. -/
def lfBlock : List Bool := ctlBlock 0x4B 0x010000
/-- Idle block: type 0x1E, eight idle codes. -/
def idleBlock : List Bool := ctlBlock 0x1E 0
/-- Error block: type 0x1E, eight error codes. -/
def errorBlock : List Bool := ctlBlock 0x1E ((List.range 8).map fun i => 0x1E * 2 ^ (7 * i)).sum

/-- Four control blocks as one block of 257 bits (R202 step 2): no data blocks, the second half of the first type left out. -/
def transcode (bs : List (List Bool)) : List Bool :=
  match bs with
  | [] => []
  | b :: rest => List.replicate 5 false ++ b.take 4 ++ b.drop 8 ++ rest.flatten

/-- The self-synchronous scrambler 1 + x^39 + x^58 (R202 step 3); the state is its last outputs, newest first. -/
def scramble : List Bool → List Bool → List Bool × List Bool
  | st, [] => ([], st)
  | st, b :: bs =>
    let o := b != (st.getD 38 false != st.getD 57 false)
    let r := scramble ((o :: st).take 58) bs
    (o :: r.1, r.2)

/-- The RS-FEC pair of 10,280 message bits (R202 step 4): their 10-bit symbols go to the two codewords in turn. -/
def encodePair (bits : List Bool) : List Nat :=
  let m := (pieces 10 1028 bits).map bitsSym
  let half := fun (i : Nat) => (List.range 514).map fun k => m.getD (2 * k + i) 0
  pairSymbols (rsEncode (half 0)) (rsEncode (half 1))

/-- Bits of a pair that the marker group takes at phase 0 (R202). -/
def fillHead (ty : Nat) (x : FillX) : List Bool := if x.phase = 0 then (Config.markerGroup ty).take 10280 else []

/-- 64b/66b blocks of a pair of fill: four in each block of 257 bits. -/
def fillBlocks (ty : Nat) (x : FillX) : Nat := 4 * ((10280 - (fillHead ty x).length) / 257)

/-- A pair of fill (R202): blocks of one kind, the first one an error block where a frame is cut (R224), with the marker group at phase 0.
-/
def fillPair (ty : Nat) (x : FillX) (block : List Bool) (err : Bool) : List Nat × FillX :=
  let head := fillHead ty x
  let first := transcode [if err then errorBlock else block, block, block, block]
  let body := first ++ (List.replicate 39 (transcode [block, block, block, block])).flatten
  let r := scramble x.scr (body.take (10280 - head.length))
  (encodePair (head ++ r.1), { x with scr := r.2 })

/-- The stream of a direction moves on by one pair, fill or data: data returns at a marker group (R204). -/
def pairPhase (x : FillX) (fill : Bool) : FillX :=
  { x with phase := ((if !fill && x.fills then 0 else x.phase) + 1) % 4096, fills := fill }

/-- G0 fill of `k` symbols (R203): the learned marker group at its spacing, PRBS31Q between, or PRBS31Q alone. -/
def g0Fill (x : FillX) : Nat → List Nat × FillX
  | 0 => ([], x)
  | k + 1 =>
    let r := g0Fill x k
    let y := r.2
    let next := { y with phase := match y.marker with | some m => (y.phase + 1) % max m.spacing 1 | none => y.phase }
    match y.marker with
    | some m =>
      if y.phase < m.bits.length / 2 then (r.1 ++ [grayIndex (m.bits.getD (2 * y.phase) false, m.bits.getD (2 * y.phase + 1) false)], next)
      else
        let g := prbsSymbols true 1 (if y.prbs = [] then Config.prbsSeed else y.prbs)
        (r.1 ++ g.1, { next with prbs := g.2 })
    | none =>
      let g := prbsSymbols true 1 (if y.prbs = [] then Config.prbsSeed else y.prbs)
      (r.1 ++ g.1, { next with prbs := g.2 })

/-- The bits of level indices. -/
def symbolBits (syms : List Nat) : List Bool := syms.flatMap fun i => [(grayBits i).1, (grayBits i).2]

/-- Bits of an unpaired G0 port in one direction (R200, R203): data bit for bit, or as much fill. Data keeps the fill's phase counting. -/
def g0Bits (x : FillX) (fill : Bool) (bits : List Bool) : List Bool × FillX :=
  if fill then
    let r := g0Fill x (bits.length / 2)
    (symbolBits r.1, { r.2 with fills := true })
  else (bits, { x with fills := false, phase := match x.marker with | some m => (x.phase + bits.length / 2) % max m.spacing 1 | none => 0 })

/-! ## Codewords (R201) -/

/-- A received codeword's 544 symbols; 0 for one that is not given. -/
def word544 (syms : List (BitVec 10)) : List Nat := (List.range 544).map fun i => (syms.getD i 0).toNat

/-- A codeword as the gearbox encodes it again (R201): corrected, or with its sync headers marked. -/
def reencode (w : List Nat) : List Nat :=
  match rsDecode w with
  | some r => r.2
  | none => rsEncode (Config.markedMessage (w.take 514))

/-- A codeword passes the gearbox's buffers, array 0x0A of its face: one that holds a lost word leaves marked (R412, kind 9). -/
def gearPass (s : State) (f : Nat) (w : List Nat) : State × List Nat :=
  let r := bufPass s 10 f 294912 85
  (r.1, if r.2 then w else rsEncode (Config.markedMessage (w.take 514)))

/-! ## Toward the line: pairs and the retry buffer (R213, R223, R226) -/

/-- The pair counter of a port moves on: TX_SEQ shows it, and a replay ends behind its last pair (R213, R224). -/
def pairSent (s : State) (n : Nat) : State :=
  let f := s.rd (PORT_CFG_FACE n)
  let x := s.port n
  let q := (x.pair + 1) % 4096
  let s := s.setPort n { x with pair := q }
  if !portPaired (s.rd (PORT_CFG_TYPE n)) then s
  else
    (portPositions s n).foldl (fun t k =>
      let t := t.wr (SEAM_STATUS_TX_SEQ f k) q
      let y := t.seam f (posLane t f k)
      if t.on (REPLAY_STATUS_REPLAYING f k) && q != y.replayTo && decide ((q + 4096 - y.replayTo) % 4096 < 2048) then
        t.wr (REPLAY_STATUS_REPLAYING f k) 0
      else t) s

/-- First word of a slot in the face's retry buffer, array 0x01 (R223): 40,960 words to a position, 170 to a slot. -/
def slotAt (k place : Nat) : Nat := 40960 * k + 170 * place

/-- A pair with the sync headers of both codewords marked (R201). -/
def markedPair (pair : List Nat) : List Nat :=
  let half := fun (i : Nat) => (List.range 514).map fun r => pair.getD (2 * r + i) 0
  let marked := fun (i : Nat) => rsEncode (Config.markedMessage (half i))
  pairSymbols (marked 0) (marked 1)

/-- The pair of a line lane that is sent now, read from its retry buffer: marked when a word of its slot is lost (R412, kind 3). -/
def bufferedPair (s : State) (n j : Nat) : State × List Nat :=
  let x := s.port n
  match (tabGet [] x.buffer j).find? fun e => e.pair == x.pair with
  | some e =>
    let r := bufRead s 1 (s.rd (PORT_CFG_FACE n)) (slotAt (s.rd (PORT_CFG_FIRST_K n) + j) e.place) 170
    (r.1, if r.2 then markedPair e.syms else e.syms)
  | none => (s, [])

/-- What a position sends of its retry buffer. -/
def bufferSend (s : State) (n j : Nat) : State :=
  let r := bufferedPair s n j
  posSend r.1 (s.rd (PORT_CFG_FACE n)) (s.rd (PORT_CFG_FIRST_K n) + j) (r.2.flatMap symBits)

/-- A pair enters a line lane's retry buffer (R223): its number follows those of the pairs queued. -/
def bufferPut (s : State) (n j : Nat) (starts : Bool) (syms : List Nat) : State :=
  let f := s.rd (PORT_CFG_FACE n)
  let x := s.port n
  let k := s.rd (PORT_CFG_FIRST_K n) + j
  let num := (x.pair + s.rd (REPLAY_STATUS_BACKLOG f k)) % 4096
  let old := tabGet [] x.buffer j
  let place := match old.getLast? with
    | some e => (e.place + 1) % 240
    | none => 0
  let b := old ++ [⟨num, starts, syms, place⟩]
  bufWrite (s.setPort n { x with buffer := tabSet [] x.buffer j (b.drop (b.length - 240)) }) 1 f (slotAt k place) 170

/-- What line lane j sends for a pair that the host side gives (none where its contents are not given): fill while LINE_FILL reads 1
(R202); a paired port queues it and sends the pair whose turn it is (R224, R226). -/
def linePair (s : State) (n j : Nat) (starts : Bool) (syms : List Nat) : State :=
  let t := s.rd (PORT_CFG_TYPE n)
  let f := s.rd (PORT_CFG_FACE n)
  let k := s.rd (PORT_CFG_FIRST_K n) + j
  let fill := s.on (PORT_STATUS_LINE_FILL n)
  let s := if j = 0 then pairSent s n else s
  let x := s.port n
  let r := if fill then fillPair t x.lineFill lfBlock false else (syms, x.lineFill)
  let s := s.setPort n { x with lineFill := if j + 1 = portLines t then pairPhase r.2 fill else r.2 }
  if portPaired t then
    bufferSend (bufferPut s n j (starts && !fill) r.1) n j
  else posSend s f k (r.1.flatMap symBits)

/-- One pair time of a paired port whose pair no OUTER_CODEWORD command carries; `drain`: the host's gaps leave no new pair, so that the
backlog falls by one (R226). -/
def pairStep (s : State) (n : Nat) (drain : Bool) : State :=
  let f := s.rd (PORT_CFG_FACE n)
  if drain then
    let s := (portPositions s n).foldl (fun t k => t.wr (REPLAY_STATUS_BACKLOG f k) (t.rd (REPLAY_STATUS_BACKLOG f k) - 1)) (pairSent s n)
    (List.range (portLines (s.rd (PORT_CFG_TYPE n)))).foldl (fun t j => bufferSend t n j) s
  else (List.range (portLines (s.rd (PORT_CFG_TYPE n)))).foldl (fun t j => linePair t n j false []) s

/-- The counter block of a port's host group (R428). -/
def groupBlock (s : State) (n : Nat) : Nat := 16 + (portHostLanes s n).headD 0 / 8

/-- Blocks of a pair from the host by kind (R429): how many of its 160 64b/66b blocks carry data is a free value, as the model holds no
state of the host's scrambler (notes/assumptions/72.md). -/
def blocksIn (s : State) (n : Nat) : State :=
  let d := s.freeVal % 161
  pcCount (pcCount s.tookFree (groupBlock s n) 1 15 d) (groupBlock s n) 2 15 (160 - d)

/-- A codeword from the host for line lane j (R198, R201, R205): the first of a pair waits for the second. -/
def hostWord (s : State) (n j : Nat) (second starts : Bool) (w : List Nat) : State :=
  let (s, w) := gearPass s (s.rd (PORT_CFG_FACE n)) w
  let x := s.port n
  if !second then s.setPort n { x with fromHost := tabSet [] x.fromHost j w }
  else
    let a := tabGet [] x.fromHost j
    if a = [] then s
    else
      let per := portPcs (s.rd (PORT_CFG_TYPE n)) / portLines (s.rd (PORT_CFG_TYPE n))
      let pcs := (List.range per).map fun m => pcsSymbols per m (pairSymbols a w)
      linePair (blocksIn (s.setPort n { x with fromHost := tabSet [] x.fromHost j [] }) n) n j starts (linePairOf pcs)

/-- Bits of an unpaired G0 port from its host lane (R200, R203). -/
def g0FromHost (s : State) (n : Nat) (bits : List Bool) : State :=
  let x := s.port n
  let r := g0Bits x.lineFill (s.on (PORT_STATUS_LINE_FILL n)) bits
  posSend (s.setPort n { x with lineFill := r.2 }) (s.rd (PORT_CFG_FACE n)) (s.rd (PORT_CFG_FIRST_K n)) r.1

/-! ## Toward the host -/

/-- Bits of an unpaired G0 port from its line lane (R200, R203). -/
def g0FromLine (s : State) (n : Nat) (bits : List Bool) : State :=
  let x := s.port n
  let r := g0Bits x.hostFill (s.on (PORT_STATUS_HOST_FILL n)) bits
  hostLaneSend (s.setPort n { x with hostFill := r.2 }) (s.rd (PORT_CFG_FIRST_H n)) r.1

/-- Idle blocks in place of a pair of data toward the host, the first one behind an error block where a frame is cut (R224 step 2). -/
def idlePair (s : State) (n : Nat) (cut : Bool) : List Nat × State :=
  let x := s.port n
  let r := fillPair (s.rd (PORT_CFG_TYPE n)) x.hostFill idleBlock cut
  (r.1, s.setPort n { x with hostFill := r.2 })

/-- The pair with which output resumes (R224 step 4, R225): idle up to the start block of the frame. -/
def resumedPair (pair : List Nat) : List Nat :=
  let m := (List.range 514).flatMap fun k => [pair.getD (2 * k) 0, pair.getD (2 * k + 1) 0]
  let r := Config.resumedMessage m
  encodePair ((List.range 1028).flatMap fun k => symBits (r.getD k 0))

/-- What the host gets for the pairs of every line lane: fill while HOST_FILL reads 1 (R202); after an episode idle blocks until a pair in
which a frame starts (R224, R225); else the pairs. -/
def hostBound (s : State) (n : Nat) (starts : Bool) (pairs : List (List Nat)) : List (List Nat) × State :=
  let t := s.rd (PORT_CFG_TYPE n)
  let x := s.port n
  if s.on (PORT_STATUS_HOST_FILL n) then
    pairs.foldl (fun a _ =>
      let y := a.2.port n
      let g := fillPair t y.hostFill lfBlock false
      (a.1 ++ [g.1], pcCount (a.2.setPort n { y with hostFill := g.2 }) (groupBlock s n) 4 15 (fillBlocks t y.hostFill))) ([], s)
  else if x.resume then
    if starts then (pairs.map resumedPair, s.setPort n { x with resume := false })
    else pairs.foldl (fun a _ =>
      let g := idlePair a.2 n false
      (a.1 ++ [g.1], g.2)) ([], s)
  else (pairs, s)

/-- Once the pair of every line lane is there, the host lanes send them (R199). -/
def hostJoin (s : State) (n : Nat) (starts : Bool) : State :=
  let x := s.port n
  let pairs := (List.range (portLines (s.rd (PORT_CFG_TYPE n)))).map fun j => tabGet [] x.fromLine j
  if pairs.any fun l => l.length != 1088 then s
  else
    let fill := s.on (PORT_STATUS_HOST_FILL n)
    let r := hostBound (s.setPort n { x with fromLine := [] }) n starts pairs
    let y := r.2.port n
    hostPairs (r.2.setPort n { y with hostFill := pairPhase y.hostFill fill }) n r.1

/-- A pair of line lane j is complete. -/
def lineJoin (s : State) (n j : Nat) (starts : Bool) (pair : List Nat) : State :=
  let x := s.port n
  hostJoin (s.setPort n { x with fromLine := tabSet [] x.fromLine j pair }) n starts

/-- A codeword from line lane j that passes (R198): the first of a pair waits for the second. -/
def lineWord (s : State) (n j : Nat) (second starts : Bool) (w : List Nat) : State :=
  let (s, w) := gearPass s (s.rd (PORT_CFG_FACE n)) w
  let x := s.port n
  if !second then s.setPort n { x with fromLine := tabSet [] x.fromLine j w }
  else
    let a := tabGet [] x.fromLine j
    if a.length = 544 then lineJoin s n j starts (pairSymbols a w) else s

/-- Idle blocks toward the host in place of a discarded pair of line lane j (R224 step 2). -/
def lineIdle (s : State) (n j : Nat) (cut : Bool) : State :=
  let r := idlePair s n cut
  lineJoin r.2 n j false r.1

end Sys2Proof.Machine
end

