-- ==== Sys2Proof/Machine/Code.lean ====
section
/-!
DEFINITION. Sys2Proof/Machine/Code.lean: the coding counters of a receive datapath (R156, R157) and the inner codewords that
they count (R146, R147, R150).
-/
namespace Sys2Proof.Machine
open Sys2Proof

/-- LO address of coding counter `c` of R156, in the table's order: INNER_CW, INNER_BITS_CORR, INNER_HARD_NZ, INNER_HIST_0 to
INNER_HIST_7, OUTER_HIST_0 to OUTER_HIST_16, OUTER_SYM. -/
def codingCtr (f d c : Nat) : Nat :=
  match c with
  | 0 => INNER_CW f d | 1 => INNER_BITS_CORR f d | 2 => INNER_HARD_NZ f d
  | _ => if c < 11 then INNER_HIST f d (c - 3) else if c < 28 then OUTER_HIST f d (c - 11) else OUTER_SYM f d

/-- A coding counter counts; a wrap sets WRAPPED (R157). -/
def codingCount (s : State) (f d c n : Nat) : State :=
  let v := s.ctr (codingCtr f d c)
  let s := s.addCtr (codingCtr f d c) n
  if 2 ^ 48 ≤ v + n then s.wr (CODE_STATUS_WRAPPED f d) 1 else s

/-- The counters count only in service and with codeword alignment (R156). -/
def codingOn (s : State) (f d : Nat) : Bool :=
  rxdRuns s f d && s.rd (RXD_STATUS_ROLE f d) == 1 && s.on (CODE_STATUS_SYNC f d)

/-- Every coding counter of a datapath clears (R157, R160). -/
def codingClear (s : State) (f d : Nat) : State :=
  s.dropCtrs fun a => (List.range 29).any fun c => codingCtr f d c == a

/-- What decoding a codeword gives: hard syndrome nonzero, and the number of bits changed or none (R146, R150); the code follows from
the number of soft values. -/
def innerDecode (lvl : Nat) (v : List Int) : Bool × Option Nat :=
  let r := modeChase (if v.length = 256 then 1 else 3) v (chaseDepth lvl)
  (r.1, r.2.map List.length)

/-- The stream bits of a decoded codeword and its sideband bits with the fail flag (R138, R147, R211). -/
def delivered (mode lvl : Nat) (v : List Int) : List Bool × List (Bool × Bool) :=
  let r := modeChase mode v (chaseDepth lvl)
  let m := (decodedBits v r.2).take (modeMsg mode)
  (m.take (modeMsg mode - modeSide mode), (m.drop (modeMsg mode - modeSide mode)).map fun b => (b, r.2.isNone))

/-- A failed codeword in the last 4,096 of a datapath; eight or more of them abandon a rotation that shadows the lane (R388). -/
def noteWord (s : State) (f d : Nat) (failed : Bool) : State :=
  let x := s.rxd f d
  let n := x.words + 1
  let fs := (if failed then n :: x.failsAt else x.failsAt).filter fun i => decide (n < i + 4096)
  let s := s.setRxd f d { x with words := n, failsAt := fs }
  if failed && decide (8 ≤ fs.length) && s.rd (LANE_MAP_AUX_SHADOW_LANE f) == s.rd (RXD_STATUS_LANE f d) then rotationAbandon s f 2 4 else s

/-- The lane's engine is in a VERIFY window, or in the one that ends a RELOCK (R91, R143). -/
def inWindow (s : State) (f p : Nat) : Bool :=
  s.rd (LANE_ACQ_STATUS_STATE f p) == 6 || (s.rd (LANE_ACQ_STATUS_STATE f p) == 8 && (s.lane f p).relockWindow)

/-- The stream bits that a datapath delivers pass bit for bit through the gearbox of an unpaired G0 port (R200). -/
def g0Pass (s : State) (f d : Nat) (bits : List Bool) : State :=
  match portOfLane s f (s.rd (RXD_STATUS_LANE f d)) with
  | some n =>
    let t := s.rd (PORT_CFG_TYPE n)
    if s.rd (RXD_STATUS_ROLE f d) = 1 ∧ t % 4 = 0 ∧ portPaired t = false then g0FromLine s n bits else s
  | none => s

/-- One codeword leaves the decoder (R146, R147): its bits are delivered; in a window it counts for the lock test (R93); in service with
codeword alignment it is counted (R156). -/
def wordDecoded (s : State) (f d : Nat) (v : List Int) : State :=
  let p := s.rd (RXD_STATUS_LANE f d)
  let lvl := rxdEffort s f d
  let r := innerDecode lvl v
  let o := delivered (s.rd (RXD_STATUS_MODE f d)) lvl v
  let x := s.rxd f d
  let n := bit (inWindow s f p && s.on (CODE_STATUS_SYNC f d))
  let s := s.setRxd f d { x with dp := { x.dp with
    msg := o.1, side := (x.dp.side ++ o.2).drop ((x.dp.side ++ o.2).length - 64), winWords := x.dp.winWords + n,
    winFails := x.dp.winFails + n * bit r.2.isNone } }
  let s := g0Pass s f d o.1
  if codingOn s f d then
    let s := codingCount s f d 0 1
    let s := if r.1 then codingCount s f d 2 1 else s
    let s := noteWord s f d r.2.isNone
    match r.2 with
    | none => pcCount (codingCount s f d 10 1) f 3 (s.rd (RXD_STATUS_LANE f d)) 1
    | some n => codingCount (codingCount s f d 1 n) f d (3 + min n 6) 1
  else s

/-- Symbols before the next codeword boundary of the decoder's soft values (R143). -/
def softSkip (s : State) (f d mode : Nat) : Nat :=
  let n := modePeriod mode
  (s.rd (CODE_STATUS_OFFSET f d) % n + 256 - (s.rxd f d).dp.softAt) % n

/-- The oldest whole codeword of the decoder's soft values, de-interleaved (R142), and what stays. -/
def nextWord (s : State) (f d : Nat) : Option (List Int) × State :=
  let mode := s.rd (RXD_STATUS_MODE f d)
  let n := modePeriod mode
  let x := s.rxd f d
  let k := softSkip s f d mode
  if s.on (CODE_STATUS_SYNC f d) && decide (k + n * modeDepth mode ≤ x.dp.soft.length) then
    (some (deinterleave mode (s.on (CODE_STATUS_INVERTED f d)) (pieces n (modeDepth mode) (x.dp.soft.drop k))),
      s.setRxd f d { x with dp := { x.dp with soft := x.dp.soft.drop (k + n), softAt := (x.dp.softAt + k + n) % 256 } })
  else (none, s)

/-- Without alignment (R143): in a window of L400 or L400P the search runs once the soft values hold its 271 periods at every offset; its
result is taken, or the values go; outside a window they go at once. -/
def alignStep (s : State) (f d : Nat) : State :=
  let p := s.rd (RXD_STATUS_LANE f d)
  let x := (s.rxd f d).dp
  if s.on (CODE_STATUS_SYNC f d) then s
  else if !inWindow s f p || patternMode s f p then softDrop s f d
  else if mode200 (s.rd (RXD_STATUS_MODE f d)) || s.rd (RXD_STATUS_ROLE f d) != 1 || decide (x.soft.length < 382 + 271 * 128) then s
  else
    let hard := (x.soft.map fun v => grayIndex (hardBit v.1, hardBit v.2)).toArray
    let skip := (256 - x.softAt) % 256
    takeAlign (softDrop s f d) f p (alignSearch fun i => hard[skip + i]?)

/-- The soft values of the codeword that a command decodes (R105, R142): given as they are, where they fit the mode, or the oldest whole
codeword after the command's codes have passed the stages. -/
def wordTaken (s : State) (f d : Nat) (w : InnerWord) : Option (List Int) × State :=
  match w with
  | .soft v => (if v.length = 2 * modePeriod (s.rd (RXD_STATUS_MODE f d)) then some (v.map softVal) else none, s)
  | .codes c => nextWord (alignStep (rxFeed s f d (c.map fun b => sext 8 b.toNat)) f d) f d

/-- R105, R146, R147, R156: one codeword is decoded at the lane's effort level, delivered and counted. -/
def execInnerCodeword (f : Fin 16) (d : Fin 9) (word : InnerWord) (s : State) : Out :=
  formed word.wellFormed (guardS (rxdRuns s f.val d.val) s fun s =>
    match wordTaken s f.val d.val word with
    | (some v, s) => wordDecoded s f.val d.val v
    | (none, s) => s)

/-- R157: a counter at its top counts one more. -/
def execCounterWrap (f : Fin 16) (d : Fin 9) (c : Fin 29) (s : State) : Out :=
  .next (guardS (codingOn s f.val d.val && s.ctr (codingCtr f.val d.val c.val) == 2 ^ 48 - 1) s fun s =>
    codingCount s f.val d.val c.val 1)

end Sys2Proof.Machine
end

