-- ==== Sys2Proof/Machine/Foreman.lean ====
section
/-!
DEFINITION. Sys2Proof/Machine/Foreman.lean: the power estimate, budgets, shedding and the scheduler (R342-R352), scrub quanta
(R404-R407), thermal sensors and throttling (R353-R358), rails (R343, R344, R455), ageing (R380), and the chip states RUN and
STANDBY (R332, R333).
-/
namespace Sys2Proof.Machine
open Sys2Proof

/-! ## Rails (R37, R342-R344, R455) -/

/-- Nominal voltage of a P-level, mV (R342). -/
def pVolt (lvl : Nat) : Nat := ([800, 700, 620, 580] : List Nat).getD lvl 580

/-- Set point of a core rail at a P-level: nominal plus AGE_MARGIN (R344). -/
def coreVolt (s : State) (c lvl : Nat) : Nat := pVolt lvl + s.rd (FM_RAIL_AGE_MARGIN c)

/-- P-levels that a rail may not use: P0 past its ageing limit (R344), and any above a voltage that did not confirm (R455). -/
def levelWithdrawn (s : State) (c lvl : Nat) : Bool :=
  (lvl == 0 && s.on (FM_RAIL_AGE_LIMIT c)) ||
    ((s.rail c).failed && decide (railMv c (s.rail c).confirmed < coreVolt s c lvl))

/-! ## Accounts (R350-R352) -/

/-- The account of a scope, 0-15 a face, 16 the chip: budget, or throttling. -/
def State.shed (s : State) (thr : Bool) (scope : Nat) : Shed := tabGet {} (if thr then s.throttleShed else s.budgetShed) scope

def State.setShed (s : State) (thr : Bool) (scope : Nat) (x : Shed) : State :=
  if thr then { s with throttleShed := tabSet {} s.throttleShed scope x } else { s with budgetShed := tabSet {} s.budgetShed scope x }

/-- Every action in force on a face: the chip's and its own, both causes (R352). -/
def actsOn (s : State) (f : Nat) : List ShedAct :=
  (s.shed false 16).acts ++ (s.shed true 16).acts ++ (s.shed false f).acts ++ (s.shed true f).acts

/-- Every action in force anywhere. -/
def actsAll (s : State) : List ShedAct :=
  (List.range 17).flatMap fun i => (s.shed false i).acts ++ (s.shed true i).acts

/-- Step of R350 that an action belongs to. -/
def ShedAct.step : ShedAct → Nat
  | .obs => 1 | .integ => 2 | .lane .. => 3 | .rail _ => 4 | .hold _ => 4

def deepestStep (l : List ShedAct) : Nat := (l.map ShedAct.step).foldl max 0

def obsShedOn (s : State) (f : Nat) : Bool := (actsOn s f).contains .obs
def integShedOn (s : State) (f : Nat) : Bool := (actsOn s f).contains .integ
def integShedChip (s : State) : Bool := (s.shed false 16).acts.contains .integ || (s.shed true 16).acts.contains .integ

/-! ## Effort levels (R345) -/

/-- The level that a lane is at or asked for. -/
def laneTarget (s : State) (f p : Nat) : Nat :=
  if s.on (LANE_EFFORT_PEND f p) then s.rd (LANE_EFFORT_PENDING f p) else s.rd (LANE_EFFORT_CURRENT f p)

/-- A lane's margin at a level, 1/16 dB, once a window is complete (R131). -/
def laneMargin (s : State) (f p lvl : Nat) : Option Int :=
  let d := laneDp s f p
  let snr := s.rd (QUAL_SNR_SNR_DET f d)
  if d = 15 ∨ snr = 0x8000 then none else some (sext 16 snr - snrReq (s.rd (LANE_ACQ_STATUS_MODE f p)) lvl)

def laneLocked (s : State) (f p : Nat) : Bool := s.on (LANE_ACQ_STATUS_LOCKED f p)

/-- May a lane step down to a level: CAP, and GUARD at that level (R345 rule 3)? -/
def levelAllowed (s : State) (f p lvl : Nat) : Bool :=
  decide (lvl ≤ 3) && decide (lvl ≤ s.rd (LANE_EFFORT_CAP f p)) &&
    match laneMargin s f p lvl with
    | some m => decide ((s.rd FM_EFFORT_GUARD : Int) ≤ m)
    | none => false

/-- The deepest level that CAP and GUARD permit (R345). -/
def deepestLevel (s : State) (f p : Nat) : Nat :=
  if !levelAllowed s f p 1 then 0 else if !levelAllowed s f p 2 then 1 else if !levelAllowed s f p 3 then 2 else 3

/-- The level that the accounts ask of a lane, within CAP. -/
def laneWant (s : State) (f p : Nat) : Nat :=
  min (s.rd (LANE_EFFORT_CAP f p)) (((actsOn s f).map fun a => match a with
    | .lane g q l => if g = f ∧ q = p then l else 0
    | _ => 0).foldl max 0)

/-- Asks a lane for the accounts' level (R129). -/
def lanePush (s : State) (f p : Nat) : State :=
  if laneWant s f p = laneTarget s f p then s else effortRequest s f p (laneWant s f p)

/-! ## The estimate (R347, R38) -/

/-- Receive power of a lane at a level, nW (R127). -/
def rxPower (mode lvl : Nat) : Nat :=
  let x := ([640625000, 600000000, 490000000, 450000000] : List Nat).getD lvl 450000000
  if mode = 3 ∨ mode = 4 then x * 55 / 100 else x

/-- Power of a face Hewer at a P-level, nW (R342). -/
def hewerPower (lvl : Nat) : Nat := ([375000000, 205000000, 80000000, 14000000] : List Nat).getD lvl 14000000

/-- A lane's receive power (R345 rule 1, R347); `floor` takes it to its deepest allowed level. -/
def lanePower (s : State) (f p : Nat) (floor : Bool) : Nat :=
  if s.rd (LANE_ACQ_STATUS_STATE f p) = 0 then 0
  else
    let lvl := if !laneLocked s f p then 0 else if floor then max (laneTarget s f p) (deepestLevel s f p) else laneTarget s f p
    rxPower (s.rd (LANE_ACQ_STATUS_MODE f p)) lvl

/-- Cost of an Integrity item on a face: the relief receive datapath at its lane's level (R348). -/
def integCost (s : State) (f dir : Nat) (lane : Option Nat) : Nat :=
  if dir = 1 then 0 else match lane with
    | some p => lanePower s f p false
    | none => rxPower 1 0

/-- CAPTURE_DRAINs at work on a face's captures (R348). -/
def drainsOn (s : State) (f : Nat) : List LongOp :=
  s.ops.filter fun o => o.state == .running && (match o.kind with | .captureDrain c => s.rd (CAP_CFG_FACE c) == f | _ => false)

/-- Items released on a face (R348): rotation or BIST slice, Survey run, tap, drain. -/
def itemsPower (s : State) (f : Nat) : Nat :=
  let ph := s.rd (AS_FACE_STATUS_PHASE f)
  let l := s.rd (AS_FACE_STATUS_LANE f)
  (if ph = 0 then 0 else integCost s f (s.rd (AS_FACE_STATUS_DIR f)) (if l = 15 then none else some l)) +
    (if s.calQ.any fun x => x.f == f && x.running then 50000000 else 0) +
    (if tapExists s f && (s.rd (TAP_STATUS_STATE f) == 1 || s.rd (TAP_STATUS_STATE f) == 2) then 400000000 else 0) +
    (if (s.face f).obsShed then 0 else 1000000000 * (drainsOn s f).length)

/-- The face column of a face (R38), nW. -/
def facePower (s : State) (f : Nat) (floor : Bool) : Nat :=
  if !facePresent s f then 0
  else
    hewerPower (if floor then 3 else s.rd (FM_RAIL_PLEVEL (f / 4))) + 150000000 + 156250000 * popcount 9 (s.face f).emit +
      ((List.range 9).map fun p => lanePower s f p floor).sum + (if floor then 0 else itemsPower s f)

/-- Armed and triggered capture channels (R348). -/
def capturePower (s : State) : Nat :=
  Config.capturePower.toNat * ((List.range 4).filter fun c => s.rd (CAP_STATUS_STATE c) == 1 || s.rd (CAP_STATUS_STATE c) == 2).length

/-- Host lanes of ports. -/
def hostLanesUsed (s : State) : Nat :=
  ((List.range 128).map fun n => if s.on (PORT_CFG_VALID n) then portHosts (s.rd (PORT_CFG_TYPE n)) else 0).sum

/-- The chip estimate (R38, R347), nW: faces, host SerDes and gearbox by host lane, L400P by lane, H16 and H17, other SRAM,
DDR4, control ports, always-on, scrubbing and capture (notes/assumptions/28.md). -/
def chipPower (s : State) (floor : Bool) : Nat :=
  let p400 := ((List.range 144).filter fun q => laneLocked s (q / 9) (q % 9) && s.rd (LANE_ACQ_STATUS_MODE (q / 9) (q % 9)) == 2).length
  let scrub := if floor || !s.on MEM_SCRUB_CTRL_EN || integShedChip s then 0 else 100000000 * (1 + popcount 4 (s.rd PRESENCE_DDR))
  ((List.range 16).map fun f => facePower s f floor).sum +
    (if s.rd FM_CHIP_STATUS_STATE = 0 then hostLanesUsed s * (179687500 + 39062500) else 0) + 85937500 * p400 +
    2 * (500000000 * hewerPower (if floor then 3 else s.rd (FM_RAIL_PLEVEL 0)) / 375000000) + 8600000000 +
    2000000000 * popcount 4 (s.rd PRESENCE_DDR) + 3000000000 * (1 + s.rd PRESENCE_PORT_B) + scrub + capturePower s

/-- EST or FLOOR of a scope, nW. -/
def scopePower (s : State) (scope : Nat) (floor : Bool) : Nat := if scope = 16 then chipPower s floor else facePower s scope floor

/-- The budget of a scope, nW; none where a face has none (R346, R347). -/
def scopeBudget (s : State) (scope : Nat) : Option Nat :=
  let b := if scope = 16 then s.rd FM_BUDGET_CHIP_BUDGET else s.rd (FM_FACE_BUDGET_BUDGET scope)
  if b = 0 then none else some (b * 125000000)

/-- 1/8 W, rounded up. -/
def eighths (nw : Nat) : Nat := ceilDiv nw 125000000

/-! ## Applying the accounts -/

/-- Faces of a scope that are present. -/
def scopeFaces (s : State) (scope : Nat) : List Nat :=
  (if scope = 16 then List.range 16 else [scope]).filter (facePresent s)

/-- Observation stops on a face (R255). -/
def obsApply (s : State) (f : Nat) : State :=
  if obsShedOn s f && !(s.face f).obsShed then tapEval (s.setFace f { s.face f with obsShed := true }) f else s

/-- Integrity and Calibration stop on a face (R350 step 2, R381, R388 cause 4). -/
def integApply (s : State) (f : Nat) : State :=
  if integShedOn s f then
    let s := assayAbandon s f 4 3
    (s.calQ.filter fun x => x.f == f && x.running && x.p != 9).foldl (fun t x => calAbandon t x.f x.p 3) s
  else s

/-- P-level of a core rail (R342, R350, R332): raising the voltage comes a tick before the frequency (R343). -/
def coreRailApply (s : State) (c : Nat) : State :=
  let deep := ((List.range 17).map fun i =>
    max ((s.shed false i).acts.count (.rail c)) ((s.shed true i).acts.count (.rail c))).foldl max 0
  let want := if s.rd FM_CHIP_STATUS_STATE = 1 then 3 else min 3 (s.rd (FM_RAIL_PCAP c) + deep)
  let lvl := ((List.range 4).find? fun l => decide (want ≤ l) && !levelWithdrawn s c l).getD 3
  let cur := s.rd (FM_RAIL_PLEVEL c)
  let mv := min 820 (coreVolt s c lvl)
  if cur ≤ lvl then railCmd (s.wr (FM_RAIL_PLEVEL c) lvl) c mv
  else if mv ≤ s.rd (FM_RAIL_VOLT c) then s.wr (FM_RAIL_PLEVEL c) lvl
  else railCmd s c mv

/-- HW_ADAPT.HOLD of a face (R283, R332, R350 step 4): each change raises source 3 (R276), its fall clears ACK (10, registers). -/
def holdApply (s : State) (f : Nat) : State :=
  let on := facePresent s f && (s.rd FM_CHIP_STATUS_STATE == 1 || (actsAll s).contains (.hold (f / 4)))
  if s.on (HW_ADAPT_HOLD f) == on then s
  else if on then raiseIrq (s.wr (HW_ADAPT_HOLD f) 1) f 3
  else raiseIrq (s.wrs [(HW_ADAPT_HOLD f, 0), (HW_ADAPT_ACK f, 0)]) f 3

/-- Everything that the accounts ask for. -/
def foremanApply (s : State) : State :=
  let s := (scopeFaces s 16).foldl (fun t f =>
    (List.range 9).foldl (fun u p => lanePush u f p) (integApply (obsApply t f) f)) s
  let s := (List.range 4).foldl coreRailApply s
  let s := (List.range 4).foldl faceRailApply s
  (List.range 16).foldl holdApply s

/-! ## Shedding and restoring (R345, R350, R351) -/

/-- Inserts by decreasing margin, ties toward the lower q (R345 rule 3). -/
def candIns (x : Int × Nat) : List (Int × Nat) → List (Int × Nat)
  | [] => [x]
  | y :: ys => if y.1 < x.1 ∨ (y.1 = x.1 ∧ x.2 < y.2) then x :: y :: ys else y :: candIns x ys

/-- Lanes of a scope that may step down now, in order (R345 rule 3). -/
def shedCands (s : State) (scope : Nat) : List Nat :=
  let qs := (scopeFaces s scope).flatMap fun f => (List.range 9).map fun p => 9 * f + p
  ((qs.filterMap fun q =>
    let f := q / 9
    let p := q % 9
    let l := laneTarget s f p + 1
    if laneLocked s f p && levelAllowed s f p l then (laneMargin s f p l).map fun m => (m, q) else none).foldr candIns []).map Prod.snd

/-- Rails of a scope: every core rail, or the one that the face shares (R350). -/
def scopeRails (scope : Nat) : List Nat := if scope = 16 then List.range 4 else [scope / 4]

/-- The next action of an account after the lanes: a rail one level down, then Adaptation held (R350 step 4). -/
def railAct (s : State) (a : Shed) (scope : Nat) : Option ShedAct :=
  match (scopeRails scope).find? fun c => decide (s.rd (FM_RAIL_PCAP c) + a.acts.count (.rail c) < 3) with
  | some c => some (.rail c)
  | none => ((scopeRails scope).find? fun c => !a.acts.contains (.hold c)).map .hold

/-- Takes one action into an account and applies it to its faces. -/
def takeAct (s : State) (thr : Bool) (scope : Nat) (act : ShedAct) : State :=
  let a := s.shed thr scope
  let s := s.setShed thr scope { a with acts := a.acts ++ [act], below := 0 }
  match act with
  | .obs => (scopeFaces s scope).foldl obsApply s
  | .integ => (scopeFaces s scope).foldl integApply s
  | .lane f p _ => lanePush s f p
  | .rail c => coreRailApply s c
  | .hold c => (List.range 4).foldl (fun t i => holdApply t (4 * c + i)) s

/-- Reverses one action of an account, the last one first; among lanes the one with the lowest MARGIN_NOW (R345 rule 4, R351). -/
def undoAct (s : State) (thr : Bool) (scope : Nat) : State :=
  let a := s.shed thr scope
  match a.acts.getLast? with
  | none => s
  | some (.lane _ _ _) =>
    let key := fun (x : ShedAct) => match x with
      | .lane f p _ => (laneMargin s f p (laneTarget s f p)).getD 32768
      | _ => 32768
    let lanes := a.acts.filter fun x => x.step == 3
    let best := lanes.foldl (fun (b : Option ShedAct) x => match b, x with
      | none, _ => some x
      | some y, .lane f p l => match y with
        | .lane g q m => if (f = g ∧ p = q ∧ m < l) ∨ (¬ (f = g ∧ p = q) ∧ (key x < key y ∨ (key x = key y ∧ 9 * f + p < 9 * g + q))) then some x else some y
        | _ => some x
      | some y, _ => some y) none
    match best with
    | some x => foremanApply (s.setShed thr scope { a with acts := a.acts.erase x })
    | none => s
  | some _ => foremanApply (s.setShed thr scope { a with acts := a.acts.dropLast })

/-- Steps 1 to 3 of R350 on a scope while EST is above its budget: lanes one level each, until EST fits. -/
def shedLanes (s : State) (scope lim : Nat) : State :=
  (shedCands s scope).foldl (fun t q =>
    if lim < scopePower t scope false then takeAct t false scope (.lane (q / 9) (q % 9) (laneTarget t (q / 9) (q % 9) + 1)) else t) s

/-- BUDGET_UNMET of a scope. -/
def unmetF (scope : Nat) : Fld := if scope = 16 then FM_BUDGET_STATUS_BUDGET_UNMET else FM_FACE_PWR_BUDGET_UNMET scope

/-- One tick of shedding for a budget (R350): the steps in order, step 4 one action a tick, step 5 when nothing is left. -/
def shedTick (s : State) (scope lim : Nat) : State :=
  let past := fun (t : State) => decide (lim < scopePower t scope false)
  let s := if past s && !(s.shed false scope).acts.contains .obs then takeAct s false scope .obs else s
  let s := if past s && !(s.shed false scope).acts.contains .integ then takeAct s false scope .integ else s
  if !past s then s
  else if shedCands s scope ≠ [] then shedLanes s scope lim
  else match railAct s (s.shed false scope) scope with
    | some act => takeAct s false scope act
    | none =>
      if s.on (unmetF scope) then s
      else logEvent (s.wr (unmetF scope) 1) { code := 0x0240, kind := if scope = 16 then 0 else 4, index := if scope = 16 then 0 else scope }

/-- Restore margin (R351): 1 W on the chip, 1/4 W on a face. -/
def restoreMargin (scope : Nat) : Nat := if scope = 16 then 1000000000 else 250000000

/-- A scope's budget at a tick (R350, R351): 10 ms are 100 ticks. -/
def budgetTick (s : State) (scope : Nat) : State :=
  let a := s.shed false scope
  let restore := fun (t : State) =>
    if a.acts = [] then t
    else if 100 ≤ a.below then undoAct t false scope
    else t.setShed false scope { a with below := a.below + 1 }
  match scopeBudget s scope with
  | none => restore (s.wr (unmetF scope) 0)
  | some lim =>
    let s := if scopePower s scope true ≤ lim then s.wr (unmetF scope) 0 else s
    if lim < scopePower s scope false then shedTick s scope lim
    else if scopePower s scope false + restoreMargin scope ≤ lim then restore s
    else s.setShed false scope { a with below := 0 }

/-- Rule 2 of R345: a lane whose margin is below RAISE moves up one level; no budget holds it back. -/
def raiseLane (s : State) (f p : Nat) : State :=
  let t := laneTarget s f p
  if laneLocked s f p && decide (0 < t) then
    match laneMargin s f p t with
    | some m =>
      if m < (s.rd FM_EFFORT_RAISE : Int) then
        let keep := fun (a : Shed) => { a with acts := a.acts.filter fun x => match x with
          | .lane g q l => !(g == f && q == p && decide (t ≤ l))
          | _ => true }
        let s := [16, f].foldl (fun u i => (u.setShed false i (keep (u.shed false i))).setShed true i (keep (u.shed true i))) s
        effortRequest s f p (t - 1)
      else s
    | none => s
  else s

/-! ## The scheduler (R348, R349) -/

/-- EST with an item's cost fits the chip budget and the face's. -/
def itemFits (s : State) (f cost : Nat) : Bool :=
  let fits := fun scope => match scopeBudget s scope with
    | some lim => decide (scopePower s scope false + cost ≤ lim)
    | none => true
  fits 16 && fits f

/-- Releases an Assay item when its class is not shed, its face is free and it may start (R209, R349, R383); one that has nothing to
test ends, and one of ASSAY_RUN that may not run is skipped (R395). -/
def assayRelease (s : State) (x : AssayItem) : State :=
  if x.running || x.held || (assayItem s x.f).isSome || s.rd (AS_FACE_STATUS_PHASE x.f) != 0 || integShedOn s x.f ||
      s.rd FM_CHIP_STATUS_STATE != 0 || !opGoes s x.op then s
  else
    let gone := ({ s with assayQ := s.assayQ.erase x } : State)
    let skip := gone.opUpd x.op fun o => { o with detail := o.detail + 1 }
    if dirSealed s x.f x.dir x.dp || reliefDp s x.f x.dir = 15 then (if x.op = 0 then gone else skip)
    else match assayReady s x with
      | none =>
        if x.op = 0 then s
        else if x.blocked = 0 then
          { s with assayQ := s.assayQ.map fun y => if y = x then { y with blocked := s.mono + 1 } else y }
        else if x.blocked + 10000000000 < s.mono + 1 then skip
        else s
      | some none =>
        if !bistFor s x then (if x.op = 0 then gone else skip)
        else if patternOnFace s x.f then s
        else if itemFits s x.f (integCost s x.f x.dir none) then assayStart s x none else s
      | some (some p) => if itemFits s x.f (integCost s x.f x.dir (some p)) then assayStart s x (some p) else s

/-- Releases a calibration item (R349, R370); a FACE_PLL item is released at once and waits for SYNTH (R378). -/
def calRelease (s : State) (x : CalItem) : State :=
  if x.running || integShedOn s x.f || !opGoes s x.op then s
  else if x.p = 9 then
    { s with calQ := s.calQ.map fun (y : CalItem) => if y = x then { y with running := true } else y }
  else match calReady s x.f x.p with
    | some (i, boot) => if itemFits s x.f 50000000 then calStart s x i boot else s
    | none => s

/-- Releases a face's Observation work once its class is shed no more (R255, R349): the tap that would run, and the drains. -/
def obsRelease (s : State) (f : Nat) : State :=
  let tap := if tapExists s f && s.rd (TAP_STATUS_STATE f) == 3 then 400000000 else 0
  if (s.face f).obsShed && !obsShedOn s f && itemFits s f (tap + 1000000000 * (drainsOn s f).length) then
    tapEval (s.setFace f { s.face f with obsShed := false }) f
  else s

/-- Observation items that wait (R348, R349): taps, drains and stored streams of faces whose Observation is held. -/
def obsQueue (s : State) : Nat :=
  let held := (List.range 16).filter fun f => (s.face f).obsShed
  (held.map fun f => (if tapExists s f && s.rd (TAP_STATUS_STATE f) == 3 then 1 else 0) + (drainsOn s f).length).sum +
    ((List.range 32).filter fun i => s.on (STREAM_STATUS_OPEN i) && match storedRec s i with
      | some (r, _) => held.contains r.info.face
      | none => false).length

/-- SRAM words before copy `i` of array `a`, in scrubbing order (R404). -/
def sramBefore (a i : Nat) : Nat :=
  ((List.range a).map fun b => if isDdr b then 0 else memCopies b * (memSize b / memWidth b)).sum + i * (memSize a / memWidth a)

def sramTotal : Nat := sramBefore 11 0

/-- The array that holds an SRAM word of the scrubbing order. -/
def sramArray (g : Nat) : Nat := ((List.range 11).filter fun a => decide (sramBefore a 0 ≤ g) && decide (a ≠ 0)).getLastD 1

/-- A scrubbed word is read unless it is passed over: invalid or poisoned (R404, R429). -/
def scrubCounts (s : State) (a i w : Nat) : Bool :=
  !isDdr a && match s.tag a i w with
    | some t => !t.poison
    | none => false

/-- Lines of the fitted channels between two positions of a DDR4 pass (R404): reads of the scrubber (R429). -/
def scrubLines (s : State) (l n : Nat) : Nat :=
  (((List.range 4).filter fun c => nbit (s.rd PRESENCE_DDR) c).map fun c => min (l + n) (s.rd (DDR_STATUS_CAPACITY c) * 2 ^ 24) - l).sum

/-- Scrubs listed words that satisfy `p`; a sealed row's record burns (R404, R406, R409). -/
def scrubWords (s : State) (p : Nat → Nat → Nat → Bool) : State :=
  (s.tags.map Prod.fst).foldl (fun t k =>
    let a := k / 2 ^ 48
    let i := k / 2 ^ 40 % 256
    let w := k % 2 ^ 40
    if p a i w then
      let t := if scrubCounts t a i w then pcCount t 72 0 15 1 else t
      let r := scrubWord t a i w
      hardErrorSeal r.1 a i w r.2 else t) s

/-- A scrub quantum of 1 ms (R404, R405): SRAM_RATE words and DDR_RATE lines of each fitted channel from where they stand. -/
def scrubQuantum (s : State) : State :=
  let g := s.scrubAt
  let n := s.rd MEM_SCRUB_CTRL_SRAM_RATE
  let s := scrubWords s fun a i w => !isDdr a && decide (g ≤ sramBefore a i + w) && decide (sramBefore a i + w < g + n)
  let g' := if sramTotal ≤ g + n then 0 else g + n
  let s := if sramTotal ≤ g + n then s.incMod MEM_SCRUB_STATUS_SRAM_PASSES else s
  let s := { s with scrubAt := g' }.wr MEM_SCRUB_STATUS_ARRAY (sramArray g')
  let chans := (List.range 4).filter fun c => nbit (s.rd PRESENCE_DDR) c
  let r := s.rd MEM_SCRUB_DDR_DDR_RATE
  let lines := fun c => s.rd (DDR_STATUS_CAPACITY c) * 2 ^ 24
  let s := pcCount s 72 0 15 (scrubLines s (tabGet 0 s.ddrScrub (chans.headD 0)) r)
  let s := chans.foldl (fun (t : State) c =>
    let l := tabGet 0 t.ddrScrub c
    let t := scrubWords t fun a _ w => a == 16 + c && decide (l ≤ w / 8) && decide (w / 8 < l + r)
    { t with ddrScrub := tabSet 0 t.ddrScrub c (l + r) }) s
  if chans ≠ [] ∧ chans.all (fun c => decide (lines c ≤ tabGet 0 s.ddrScrub c)) then
    { s.incMod MEM_SCRUB_STATUS_DDR_PASSES with ddrScrub := [] }
  else s

/-- The SCRUB_FULL at work, if any (R405). -/
def scrubFullOp (s : State) : Option LongOp := s.ops.find? fun o => opActive o && o.kind.code == 3

/-- Lines of the largest fitted channel: a DDR4 pass covers all channels at once (R404). -/
def ddrLines (s : State) : Nat :=
  (((List.range 4).filter fun c => nbit (s.rd PRESENCE_DDR) c).map fun c => s.rd (DDR_STATUS_CAPACITY c) * 2 ^ 24).foldl max 0

/-- A quantum of SCRUB_FULL (R405): `nw` SRAM words and `nl` lines of each channel from where it stands. Its `step` holds the words
done, and the lines done above bit 40. -/
def scrubFullQuantum (s : State) (o : LongOp) (nw nl : Nat) : State :=
  match o.kind with
  | .scrubFull target =>
    let g := o.step % 2 ^ 40
    let l := o.step / 2 ^ 40
    let tw := if nbit target 0 then sramTotal else 0
    let tl := if nbit target 1 then ddrLines s else 0
    let s := scrubWords s fun a i w =>
      if isDdr a then decide (nbit target 1 ∧ l ≤ w / 8 ∧ w / 8 < l + nl)
      else decide (nbit target 0 ∧ g ≤ sramBefore a i + w ∧ sramBefore a i + w < g + nw)
    let s := if nbit target 1 then pcCount s 72 0 15 (scrubLines s l nl) else s
    let g' := min tw (g + nw)
    let l' := min tl (l + nl)
    s.opUpd o.handle fun x => { x with step := g' + l' * 2 ^ 40, progress := fraction (g' + l') (tw + tl) }
  | _ => s

/-- The quantum of a millisecond's ten ticks, while Integrity is not shed: SCRUB_FULL goes ahead of scheduled quanta (R405). -/
def scrubTick (s : State) : State :=
  let s : State := { s with ticks := (s.ticks + 1) % 10 }
  if s.ticks ≠ 0 ∨ integShedChip s then s
  else match scrubFullOp s with
    | some o => scrubFullQuantum s o (s.rd MEM_SCRUB_CTRL_SRAM_RATE) (s.rd MEM_SCRUB_DDR_DDR_RATE)
    | none => if s.on MEM_SCRUB_CTRL_EN then scrubQuantum s else s

/-- The registers that show the estimate, shedding and queues (13, registers). -/
def foremanShow (s : State) : State :=
  let s := (scopeFaces s 16).foldl (fun t f => t.wrs [(FM_FACE_PWR_EST f, min 0xFFF (eighths (facePower t f false))),
    (FM_FACE_PWR_FLOOR f, min 0xFFF (eighths (facePower t f true))), (FM_FACE_PWR_SHED f, deepestStep (actsOn t f))]) s
  let all := actsAll s
  let q := fun (n : Nat) => min 255 n
  s.wrs [(FM_CHIP_PWR_EST, min 0xFFFF (eighths (chipPower s false))), (FM_CHIP_PWR_FLOOR, min 0xFFFF (eighths (chipPower s true))),
    (FM_BUDGET_STATUS_SHED, deepestStep ((s.shed false 16).acts ++ (s.shed true 16).acts)),
    (FM_SCHED_INTEG_SHED, bit (all.contains .integ)), (FM_SCHED_CAL_SHED, bit (all.contains .integ)),
    (FM_SCHED_ADAPT_HELD, bit (all.any fun a => match a with | .hold _ => true | _ => false)), (FM_SCHED_OBS_SHED, bit (all.contains .obs)),
    (FM_SCHED_INTEG_Q, q (s.assayQ.filter fun x => !x.running).length), (FM_SCHED_CAL_Q, q (s.calQ.filter fun x => !x.running).length),
    (FM_SCHED_OBS_Q, q (obsQueue s))]

/-! ## Sensors (R353-R358) -/

/-- Neighbours of a sensor (R353): those of absent faces are none. -/
def tsNeighbours (s : State) (n : Nat) : List Nat :=
  let ok := fun m => decide (32 ≤ m) || facePresent s (m / 2)
  let all := if n = 32 then [33, 2, 10] else if n = 33 then [32, 18, 26]
    else
      let f := n / 2
      let near := (List.range 16).filter fun g => (g + 1 == f || f + 1 == g) && g / 4 == f / 4
      [4 * f + 1 - n] ++ near.flatMap fun g => [2 * g, 2 * g + 1]
  all.filter ok

/-- A sensor holds a valid reading. -/
def tsValid (s : State) (n : Nat) : Bool := !s.on (TS_FAILED n) && s.rd (TS_VALUE n) != 0x8000

/-- The substitute of a failed sensor (R358). -/
def tsSubstitute (s : State) (n : Nat) : Option Int :=
  let near := ((tsNeighbours s n).filter (tsValid s)).map (sensorVal s)
  let all := ((List.range 34).filter (tsValid s)).map (sensorVal s)
  match (if near = [] then all else near) with
  | [] => none
  | x :: xs => some (xs.foldl max x + 48)

/-- Every failed sensor shows its substitute. -/
def tsSubstitutes (s : State) : State :=
  (List.range 34).foldl (fun t n =>
    if t.on (TS_FAILED n) then
      match tsSubstitute s n with
      | some v => t.wr (TS_VALUE n) (twos 16 v)
      | none => t
    else t) s

/-- THROTTLE of a scope (R355): begins at THROTTLE, ends when every one of its sensors is below THROTTLE − HYST. -/
def throttleF (scope : Nat) : Fld := if scope = 16 then FM_BUDGET_STATUS_THROTTLE else FM_FACE_PWR_THROTTLE scope

/-- Sensors of a scope: the face's two, or TS32 and TS33 for the chip (R355). -/
def scopeSensors (scope : Nat) : List Nat := if scope = 16 then [32, 33] else [2 * scope, 2 * scope + 1]

def throttleEval (s : State) (scope : Nat) : State :=
  let th := sext 16 (s.rd TS_THROTTLE_THROTTLE)
  let vs := ((scopeSensors scope).filter fun n => s.rd (TS_VALUE n) != 0x8000).map (sensorVal s)
  if vs.any fun v => decide (th ≤ v) then s.wr (throttleF scope) 1
  else if vs.all fun v => decide (v < th - (s.rd TS_HYST_HYST : Int)) then s.wr (throttleF scope) 0
  else s

/-- ALERT (R356). -/
def alertEval (s : State) : State :=
  let al := sext 16 (s.rd TS_THROTTLE_ALERT)
  let vs := ((List.range 34).filter fun n => s.rd (TS_VALUE n) != 0x8000).map (sensorVal s)
  if vs.any fun v => decide (al ≤ v) then
    if s.on TS_STATUS_ALERT then s else logEvent (s.wr TS_STATUS_ALERT 1) { code := 0x0243 }
  else if vs.all fun v => decide (v < al - (s.rd TS_HYST_HYST : Int)) then s.wr TS_STATUS_ALERT 0
  else s

/-- TS_STATUS (13, registers). -/
def tsShow (s : State) : State :=
  let hot := ((List.range 34).filter fun n => s.rd (TS_VALUE n) != 0x8000).foldl (fun (b : Option Nat) n => match b with
    | none => some n
    | some m => if sensorVal s m < sensorVal s n then some n else some m) none
  let s := match hot with
    | some n => s.wrs [(TS_STATUS_HOTTEST, n), (TS_STATUS_HOT_VALUE, s.rd (TS_VALUE n))]
    | none => s
  s.wrs [(TS_STATUS_FAILED, ((List.range 34).filter fun n => s.on (TS_FAILED n)).length),
    (TS_STATUS_THROTTLING, bit ((List.range 17).any fun i => s.on (throttleF i)))]

/-- A face's temperature has moved 0.5 degree or more from the values in use: they are recomputed (R81); runs whose window it
left end (R371). -/
def faceTempEval (s : State) (f : Nat) : State :=
  let t := faceTemp16 s f
  let s := (List.range 9).foldl (fun u p =>
    let moved := (laneDps u f p).any (fun d => u.on (RXD_STATUS_CORR_LOADED f d)) && decide (8 ≤ (t - (u.lane f p).corrT).natAbs)
    if moved then corrNotice (corrRecompute u f p) f p else u) s
  calWindowCheck s f

/-- The throttle and alert flags, which a threshold crossing changes. -/
def thermFlags (s : State) : List Nat := s.rd TS_STATUS_ALERT :: (List.range 17).map fun i => s.rd (throttleF i)

/-- What a reading changes (R354-R358); a crossing raises H17's source 4 (R276). -/
def sensorsEval (s : State) : State :=
  let s := tsSubstitutes s
  let old := thermFlags s
  let s := if s.plan.isNone then s
    else alertEval ((List.range 16).foldl (fun t f => if facePresent t f then throttleEval t f else t) (throttleEval s 16))
  let s := if thermFlags s = old then s else raiseIrq s 17 4
  (scopeFaces s 16).foldl faceTempEval (tsShow s)

/-- A sensor is declared failed (R357): logged, with the start of its substitution (R358). -/
def sensorFail (s : State) (n cause : Nat) : State :=
  if s.on (TS_FAILED n) then s
  else
    let s := s.wrs [(TS_FAILED n, 1), (TS_FAIL_CAUSE n, cause)]
    let s := logEvent s { code := 0x0241, kind := 7, index := n, a0 := cause }
    sensorsEval (logEvent s { code := 0x0242, kind := 7, index := n })

/-! ## Ageing (R344, R380) -/

/-- AGE_MARGIN of a rail rises by 5 mV (R344); a rail that would pass 0.82 V shows AGE_LIMIT, a core rail loses P0. -/
def ageRaise (s : State) (c : Nat) : State :=
  if !nbit (recField ((s.planRecs 4).headD []) 12 1) 0 then s
  else
    let s := s.wr (railMarginF c) (min 255 (s.rd (railMarginF c) + 5))
    let m := s.rd (railMarginF c)
    let past := if c < 4 then decide (820 < 800 + m) else decide (820 ≤ faceRailNeed s (c - 4) + m)
    let s := if past && !s.on (railLimitF c) then logEvent (s.wr (railLimitF c) 1) { code := 0x0244, a0 := c } else s
    if c < 4 then coreRailApply s c else faceRailApply s (c - 4)

/-- Rail of an ageing monitor (R380): 0-3 core, 4-7 face. -/
def monitorRail (n : Nat) : Nat := if n < 32 then 4 + n / 2 / 4 else (n - 32) / 4

/-- One normalised reading, and whether it lies below the monitor's OTP guard frequency (R380). -/
def ageReading (s : State) (n freq : Nat) (below : Bool) : State :=
  if s.on (AGE_MON_FAILED n) then s
  else if freq = 0 then
    logEvent (s.wrs [(AGE_MON_FAILED n, 1), (AGE_MON_FREQ n, 0), (AGE_MON_BELOW n, 0)]) { code := 0x0346, a0 := n }
  else
    let s := s.wrs [(AGE_MON_FREQ n, freq), (AGE_MON_BELOW n, bit below)]
    if below then ageRaise (raiseIrq s 17 6) (monitorRail n) else s

/-! ## Chip states RUN and STANDBY (R332, R333) -/

/-- RUN → STANDBY: rotations and BIST end, faces go down to SYNTH, datapaths, lane analog and host groups turn off. -/
def chipStandby (s : State) : State :=
  let s := (List.range 16).foldl (fun t f => assayAbandon t f 6 3) s
  let s := optWalkAll (s.wr FM_CHIP_STATUS_STATE 1)
  let s := (scopeFaces s 16).foldl (fun t f => (portsOfFace t f).foldl (fun u n => (portHostLanes u n).foldl hostOff u) (faceDpReset (capEnd t f 15) f)) s
  let s := s.dropRegs fun a => decide (0x2000000 ≤ a) && decide (a < 0x2200000)
  let s := { s with injects := tabDrop (fun a => decide (0x2000000 ≤ a)) s.injects }
  let s := s.dropRegs fun a => decide (0x411000 ≤ a) && decide (a < 0x413000)
  foremanApply (s.dropCtrs fun a => (decide (0x411000 ≤ a) && decide (a < 0x413000)) || (decide (0x2000000 ≤ a) && decide (a < 0x2200000)))

/-- STANDBY → RUN: host lanes start at stage 1, and each face resumes its walk. -/
def chipRun (s : State) : State :=
  let s := accRearm (s.wr FM_CHIP_STATUS_STATE 0)
  let s := (List.range 128).foldl (fun t n => if t.on (PORT_CFG_VALID n) then (portHostLanes t n).foldl hostStage1 t else t) s
  optWalkAll (foremanApply s)

/-- A sealing handshake runs on some face: a chip state change waits for its end (R31). -/
def handshakes (s : State) : Bool := (List.range 16).any fun f => s.rd (SEAL_STATUS_HS_STATE f) != 0

/-- A transition of the chip begins (R333, R335). -/
def chipBegin (s : State) (goal : Nat) : State := { s.wr FM_CHIP_STATUS_TRANSIT 1 with chipTo := goal }

/-- The chip follows FM_CHIP_CTRL.TARGET when no transition is under way (R333, R335, R362): to RUN at once; to STANDBY and DEEP a
transition begins. -/
def chipFollow (s : State) : State :=
  if s.chipTo ≠ 0 then s
  else match s.rd FM_CHIP_CTRL_TARGET with
    | 0 => if s.rd FM_CHIP_STATUS_STATE = 1 then chipRun s else s
    | 1 => if s.rd FM_CHIP_STATUS_STATE = 0 then chipBegin s 1 else s
    | 2 => chipBegin s 2
    | _ => s

/-- A transition under way runs once no sealing handshake is left (R31; notes/assumptions/78.md): STANDBY at once, and the TARGET that was
written meanwhile after it (R362); entry to DEEP right after the command. -/
def chipWaited (s : State) : State :=
  if handshakes s then s
  else
    let s := if s.chipTo = 1 then chipFollow (chipStandby { s.wr FM_CHIP_STATUS_TRANSIT 0 with chipTo := 0 }) else s
    if 2 ≤ s.chipTo then { s with defer := s.defer ++ [.deep] } else s

/-- An accepted write of FM_CHIP_CTRL.TARGET (R333, R335, R362). -/
def chipTarget (s : State) (t : Nat) : State := chipWaited (chipFollow (s.wrs [(FM_CHIP_CTRL_TARGET, t), (FM_CHIP_STATUS_RESULT, 0)]))

/-! ## Rows -/

/-- R345, R347, R349-R351, R371, R405: one 100 µs tick of Foreman. -/
def schedulerTick (s : State) : State :=
  let s := raiseIrq s 17 3
  let lanes := (scopeFaces s 16).flatMap fun f => (List.range 9).map fun p => (f, p)
  let s := lanes.foldl (fun t l => calCommitTry (surveySchedule t l.1 l.2) l.1 l.2) s
  let s := lanes.foldl (fun t l => raiseLane t l.1 l.2) s
  let s := (16 :: scopeFaces s 16).foldl budgetTick s
  let s := foremanApply s
  let s := s.assayQ.foldl assayRelease s
  let s := s.calQ.foldl calRelease s
  let s := (scopeFaces s 16).foldl obsRelease s
  foremanShow (chipWaited (scrubTick s))

/-- R349: once for an Integrity item that has waited more than 60 s. -/
def execIntegrityWait (f : Fin 16) (tx : Bool) (d : Fin 9) (s : State) : Out :=
  .next (guardS s.alive s fun s =>
    let hit := fun (x : AssayItem) => x.f == f.val && x.dir == bit tx && x.dp == d.val && !x.running && !x.logged
    if s.assayQ.any hit then
      logEvent { s with assayQ := s.assayQ.map fun x => if hit x then { x with logged := true } else x }
        { code := 0x024A, kind := 4, index := f.val, a0 := d.val, a1 := bit tx }
    else s)

/-- R353-R358: a reading in 1/8 degree; one outside −40.0 to +150.0 °C fails the sensor. -/
def execSensorConversion (n : Fin 34) (value : Int) (s : State) : Out :=
  .next (guardS (s.alive && (decide (32 ≤ n.val) || facePresent s (n.val / 2)) && !s.on (TS_FAILED n.val)) s fun s =>
    if value < -320 ∨ 1200 < value then sensorFail s n.val 1
    else sensorsEval (s.wr (TS_VALUE n.val) (twos 16 value)))

/-- R355: one action every 10 ms while a scope throttles. -/
def execThrottleAction (scope : Fin 17) (s : State) : Out :=
  .next (guardS (s.alive && s.plan.isSome && hewerRuns s 17 && s.on (throttleF scope.val)) s fun s =>
    let a := s.shed true scope.val
    let s := if !a.acts.contains .obs then takeAct s true scope.val .obs
      else if !a.acts.contains .integ then takeAct s true scope.val .integ
      else match shedCands s scope.val with
        | q :: _ => takeAct s true scope.val (.lane (q / 9) (q % 9) (laneTarget s (q / 9) (q % 9) + 1))
        | [] => match railAct s a scope.val with
          | some (.rail c) => takeAct s true scope.val (.rail c)
          | _ => s
    foremanShow s)

/-- R355: one action reversed every 100 ms once the scope's sensors have cooled. -/
def execThrottleRelease (scope : Fin 17) (s : State) : Out :=
  .next (guardS (s.alive && s.plan.isSome && hewerRuns s 17 && !s.on (throttleF scope.val)) s fun s =>
    foremanShow (undoAct s true scope.val))

/-- R357: cause 1, 2 or 3. -/
def execSensorFailure (n : Fin 34) (cause : Fin 3) (s : State) : Out :=
  .next (guardS (s.alive && (decide (32 ≤ n.val) || facePresent s (n.val / 2))) s fun s => sensorFail s n.val (cause.val + 1))

/-- R455: NAK, VOUT_MODE, and the reading of channel 0-7 within 15 mV. -/
def execRailConfirm (c : Fin 8) (nak ulinear : Bool) (raw : BitVec 12) (s : State) : Out :=
  .next (guardS (s.alive && (s.rail c.val).waits) s fun s =>
    let r := s.rail c.val
    let off := ((madcCode s raw.toNat * 1200 : Nat) : Int) - ((r.cmd * 4096 : Nat) : Int)
    let bad := nak || !ulinear || decide (15 * 4096 < off.natAbs)
    let s := s.wr BOARD_STATUS_RAIL_ERR (nbitSet (s.rd BOARD_STATUS_RAIL_ERR) c.val bad)
    let s := s.setRail c.val { r with confirmed := if bad then r.confirmed else r.cmd, failed := bad, waits := false }
    let s := if bad then s.wr (railVoltF c.val) (railMv c.val r.confirmed) else s
    if c.val < 4 then coreRailApply s c.val
    else (List.range 4).foldl (fun t i => optWalk t (4 * (c.val - 4) + i)) s)

/-- R455: the failed set point is commanded again. -/
def execRailRetry (c : Fin 8) (s : State) : Out :=
  .next (guardS (s.alive && (s.rail c.val).failed && !(s.rail c.val).waits) s fun s =>
    (s.wr (railVoltF c.val) (s.rail c.val).cmd).setRail c.val { s.rail c.val with waits := true })

/-- R380: the normalised count, and whether it is under the monitor's guard frequency in OTP. -/
def execAgeingMeasurement (n : Fin 48) (freq : BitVec 20) (below : Bool) (s : State) : Out :=
  .next (guardS (s.alive && hewerRuns s 16) s fun s => ageReading s n.val freq.toNat below)

/-- R283: one event for a hold that firmware has not confirmed. -/
def execAdaptAckTimeout (f : Fin 16) (s : State) : Out :=
  .next (guardS (s.alive && s.on (HW_ADAPT_HOLD f.val) && !s.on (HW_ADAPT_ACK f.val)) s fun s =>
    logEvent s { code := 0x0249, kind := 5, index := f.val })

end Sys2Proof.Machine
end

