-- ==== Sys2Proof/Machine/Seam.lean ====
section
/-!
DEFINITION. Sys2Proof/Machine/Seam.lean: paired mode (08): seam frames and training, retry, permanent faults and the sealing
handshake; the outer stage of R153, R154 and R205.
-/
namespace Sys2Proof.Machine
open Sys2Proof

/-! ## Frames (R212-R217) -/

/-- Frame bits `a` to `b`, the first sent the most significant (R212). -/
def fb (x : Nat) (a b : Nat) : Nat := x / 2 ^ (63 - b) % 2 ^ (b - a + 1)

/-- TYPE is DATA, TRAIN or SEAL, the CRC holds and no bit came with the fail flag (R214). -/
def frameGood (i : SeamIn) : Bool :=
  let x := i.bits.toNat
  !i.flagged && decide (1 ≤ fb x 4 7) && decide (fb x 4 7 ≤ 3) && crc8 (msbBits 52 (fb x 4 55)) == fb x 56 63

/-- The position block shows the lane's channel (R216, R218, R219, R221). -/
def seamShow (s : State) (f p : Nat) : State :=
  let x := s.seam f p
  match posOf s f p with
  | none => s
  | some k =>
    s.wrs [(SEAM_STATUS_STATE f k, x.state), (SEAM_STATUS_SF f k, x.sf), (SEAM_STATUS_LEADER f k, bit x.leader),
      (SEAM_STATUS_RETRY_CAP f k, bit x.cap), (SEAM_STATUS_RTT_PAIRS f k, x.rtt),
      (SEAM_STATUS_RETRY_ON f k, bit (x.state == 4 && x.peerRetry && s.on (SEAM_CTRL_RETRY_EN f k))),
      (SEAM_PARTNER_FACE_TOKEN f k, x.token), (SEAM_PARTNER_POS f k, x.pos), (SEAM_PARTNER_SF_MAX f k, x.sfMax),
      (SEAM_PARTNER_RETRY_CAP f k, bit x.peerRetry), (SEAM_PARTNER_RELIEF_CAP f k, bit x.peerRelief)]

def seamPut (s : State) (f p : Nat) (x : SeamX) : State := seamShow (s.setSeam f p x) f p

/-- The port whose line side a lane belongs to follows its training (R196). -/
def seamPortEval (s : State) (f p : Nat) : State :=
  match portOfLane s f p with
  | some n => portEval s n
  | none => s

def seamEvent (s : State) (f p b : Nat) (fld : Nat → Nat → Fld) : State :=
  match posOf s f p with
  | some k => stickyEvent s (fld f k) { code := 0x1200 + b, kind := 1, index := 9 * f + p }
  | none => s

/-! ## Training (R218-R221) -/

/-- A failed training step (R218): FAILED, FAIL_REASON, TRAIN_FAIL. -/
def seamFail (s : State) (f p step : Nat) : State :=
  let s := seamPut s f p { s.seam f p with state := 5 }
  let s := match posOf s f p with
    | some k => s.wr (SEAM_STATUS_FAIL_REASON f k) step
    | none => s
  seamPortEval (seamEvent s f p 2 SEAM_EVENTS_TRAIN_FAIL) f p

/-- RTT_PAIRS of the largest sample: 0.7 of it rounded up, saturating at 0xFE (R221). -/
def rttPairs (samples : List Nat) : Nat := min 0xFE (ceilDiv (7 * samples.foldl max 0) 10)

/-- May a lane serve replays (R221): RETRY_EN, and RTT_PAIRS at most 112 on every lane of the port that has measured it? -/
def retryServes (s : State) (f p : Nat) : Bool :=
  match seamPos s f p with
  | none => false
  | some k =>
    s.on (SEAM_CTRL_RETRY_EN f k) && decide ((s.seam f p).rtt ≤ 112) &&
      match portOf s f k with
      | some n => (portPositions s n).all fun j =>
          let q := posLane s f j
          !(s.seam f q).measured || decide ((s.seam f q).rtt ≤ 112)
      | none => true

/-- A measured lane's RETRY_CAP follows the conditions of R221; a lane that served replays and no longer does, or is `fresh` from its
measurement and does not, logs the refusal. -/
def retryEval (fresh : Nat) (s : State) (f q : Nat) : State :=
  let x := s.seam f q
  if !x.measured then s
  else
    let ok := retryServes s f q
    let t := seamPut s f q { x with cap := ok }
    if !ok && (x.cap || q == fresh) then seamEvent t f q 3 SEAM_EVENTS_RETRY_REFUSED else t

/-- Every position of the port that carries a lane. -/
def seamPort (s : State) (f p : Nat) : List Nat :=
  match (seamPos s f p).bind (portOf s f) with
  | some n => portPositions s n
  | none => []

/-- Step 3 is done (R218, R221): READY goes out with RETRY_CAP; the port's other lanes follow the new RTT_PAIRS. -/
def seamMeasured (s : State) (f p : Nat) : State :=
  let x := s.seam f p
  let s := s.setSeam f p { x with rtt := rttPairs x.samples, measured := true }
  (((seamPort s f p).map (posLane s f)).filter (· != p)).foldl (fun t q => retryEval p t f q) (retryEval p s f p)

/-- Training is done when both READYs are out (R218 step 4). -/
def seamReady (s : State) (f p : Nat) : State :=
  let x := s.seam f p
  if x.state = 3 ∧ x.measured ∧ x.peerReady then
    seamPortEval (seamEvent (seamPut s f p { x with state := 4 }) f p 0 SEAM_EVENTS_READY) f p
  else s

/-- Equal tokens (R220): the face draws a new one and its lanes retrain. -/
def seamRedraw (s : State) (f : Nat) : State :=
  let t := s.freeVal % 2 ^ 16
  let s := s.tookFree.setFace f { s.face f with token := t }
  (List.range 9).foldl (fun u p => if (u.seam f p).state = 0 then u else seamPortEval (seamStart u f p) f p) s

/-- HELLO or READY in step 2 (R218, R219, R220). -/
def seamHello (s : State) (f p : Nat) (x : Nat) : State :=
  let mx := fb x 8 11
  if mx = 0 then seamFail s f p 2
  else
    let sf := min (ownSfMax s f p) (min 2 mx)
    let tok := fb x 16 31
    if sf = 2 ∧ tok = (s.face f).token then seamRedraw s f
    else
      seamPut s f p { s.seam f p with
        state := 3, sf := sf, token := tok, pos := fb x 32 34, sfMax := mx, peerRelief := fb x 15 15 == 1,
        leader := sf == 2 && decide (tok < (s.face f).token) }

/-- A TRAIN frame (R216, R218). -/
def seamTrain (s : State) (f p : Nat) (i : SeamIn) : State :=
  let b := i.bits.toNat
  let x := s.seam f p
  let step := fb b 12 13
  if x.state = 2 then (if step = 0 ∨ step = 2 then seamHello s f p b else s)
  else if x.state = 3 ∧ step = 1 then
    let c := (x.stamp + 4096 - fb b 28 39) % 4096
    if x.measured ∨ (x.samples ≠ [] ∧ (x.stamp + 4096 - x.sampledAt) % 4096 < 16) then s
    else
      let s := s.setSeam f p { x with samples := c :: x.samples, sampledAt := x.stamp }
      if 16 ≤ x.samples.length + 1 then seamReady (seamMeasured s f p) f p else s
  else if (x.state = 3 ∨ x.state = 4) ∧ step = 2 then
    seamReady (seamPut s f p { x with peerReady := true, peerRetry := fb b 14 14 == 1 }) f p
  else s

/-! ## Retry (R223-R226) -/

/-- What this end's transmission has done since the last frame beside the codewords that commands brought (R213, R216, R225, R226): its
seam frames on the lane, and the port's pairs, of which the first `drained` leave the backlog. -/
def seamSent (s : State) (f p : Nat) (i : SeamIn) : State :=
  let x := s.seam f p
  let s := s.setSeam f p { x with
    stamp := (x.stamp + i.sent) % 4096, unavail := x.unavail - i.sent, greeted := x.greeted || (x.measured && decide (0 < i.sent)) }
  match (seamPos s f p).bind (portOf s f) with
  | some n => (List.range (max i.pairs i.drained)).foldl (fun t c => pairStep t n (decide (c < i.drained))) s
  | none => s

/-- A lane's retry buffer holds a pair (R223). -/
def bufferHolds (s : State) (n j r : Nat) : Bool := (tabGet [] (s.port n).buffer j).any fun e => e.pair == r

/-- Pairs from `r` to the one being sent now. -/
def replayLen (s : State) (n r : Nat) : Nat := ((s.port n).pair + 4096 - r) % 4096 + 1

/-- Is pair `r` in the buffers of the port, and can it be served within 240 slots (R223, R225)? -/
def replayOk (s : State) (n r : Nat) : Bool :=
  let m := replayLen s n r
  decide (m < 2048) && (List.range (portLines (s.rd (PORT_CFG_TYPE n)))).all (fun j => bufferHolds s n j r) &&
    decide (m + s.rd (REPLAY_STATUS_BACKLOG (s.rd (PORT_CFG_FACE n)) (s.rd (PORT_CFG_FIRST_K n))) ≤ 240)

/-- A replay request arrives (R224 step 3, R225): from the next pair on, pairs from r on are sent again on every lane of the port; a repeat
of the request being served is ignored. -/
def seamRequest (s : State) (f p n r : Nat) : State :=
  let x := s.seam f p
  if x.served = some r ∨ !x.cap then s
  else
    let ks := seamPort s f p
    let tx := (s.port n).pair
    let mark := fun (t : State) => ks.foldl (fun u j =>
      let q := posLane u f j
      let y := u.seam f q
      u.setSeam f q { y with served := some r, replayTo := if u.on (REPLAY_STATUS_REPLAYING f j) then y.replayTo else tx }) t
    if replayOk s n r then
      let m := replayLen s n r
      let s := ks.foldl (fun t j => (t.wrs [(REPLAY_STATUS_REPLAYING f j, 1),
        (REPLAY_STATUS_BACKLOG f j, min 0xFF (t.rd (REPLAY_STATUS_BACKLOG f j) + m))]).addCtr (SERVED f j) 1) (mark s)
      let s := s.setPort n { s.port n with pair := (r + 4095) % 4096 }
      pcCount s f 5 p m
    else
      let s := mark s
      s.setSeam f p { s.seam f p with unavail := 16 }

/-- The partner acknowledges pair `a` on a line lane (R223): slots more than 8 pairs older than the oldest unacknowledged one are freed. -/
def bufferFree (s : State) (n j a : Nat) : State :=
  let x := s.port n
  let keep := fun (e : Slot) => decide ((e.pair + 4096 + 7 - a) % 4096 < 2048)
  s.setPort n { x with buffer := tabSet [] x.buffer j ((tabGet [] x.buffer j).filter keep) }

/-- Sets what the receiver acknowledges on every lane of a port (R215, R224). -/
def ackHold (s : State) (n : Nat) (g : Option Nat) : State :=
  let f := s.rd (PORT_CFG_FACE n)
  (portPositions s n).foldl (fun t k =>
    let q := posLane t f k
    t.setSeam f q { t.seam f q with good := g }) s

/-- Host-bound output resumes at the next frame start (R224 step 4, R225). -/
def portResume (s : State) (n : Nat) : State := s.setPort n { s.port n with resume := true }

/-- The episode of a port ends with its data lost (R225). -/
def episodeExhausted (s : State) (n : Nat) (e : Episode) (lost : Nat) : State :=
  let f := s.rd (PORT_CFG_FACE n)
  let s : State := { s with episodes := tabSet none s.episodes n none }
  let s := (portPositions s n).foldl (fun t k => t.wr (REPLAY_STATUS_RQ_OUT f k) 0) s
  let x := s.lane f e.lane
  let s := s.setLane f e.lane { x with exhausts := s.mono :: x.exhausts.filter fun t => decide (s.mono < t + 1000000000) }
  let s := ackHold s n none
  match seamPos s f e.lane with
  | some k => (s.addCtr (EXHAUSTED f k) 1).addCtr (LOST_FRAMES f k) lost
  | none => s

/-- A DATA frame on a trained lane (R215, R224, R225). -/
def seamData (s : State) (f p : Nat) (i : SeamIn) : State :=
  let b := i.bits.toNat
  match (seamPos s f p).bind fun k => (portOf s f k).map fun n => (k, n) with
  | none => s
  | some (k, n) =>
    let x := s.seam f p
    let s := s.setSeam f p { x with rxSeq := some (fb b 8 19), rxReplay := fb b 46 46 == 1 }
    let s := if fb b 44 44 = 1 then
        bufferFree (s.setSeam f p { s.seam f p with ack := some (fb b 20 31) }) n (k - s.rd (PORT_CFG_FIRST_K n)) (fb b 20 31)
      else s
    let s := if fb b 45 45 = 1 then seamRequest s f p n (fb b 32 43)
      else s.setSeam f p { s.seam f p with served := none }
    if fb b 47 47 = 1 then
      match tabGet none s.episodes n with
      | none => s
      | some e => seamEvent (portResume (episodeExhausted s n e i.lost) n) f p 5 SEAM_EVENTS_UNAVAIL
    else s

/-- Requests pair r on every lane of the port (R224 steps 1 and 2). -/
def episodeStart (s : State) (n k : Nat) (e : Episode) : State :=
  let f := s.rd (PORT_CFG_FACE n)
  let s : State := { s with episodes := tabSet none s.episodes n (some e) }
  let s := (portPositions s n).foldl (fun t j =>
    t.wrs [(REPLAY_STATUS_RQ_OUT f j, 1), (REPLAY_STATUS_ATTEMPT f j, 1), (REPLAY_STATUS_RQ_SEQ f j, e.r)])
    (ackHold s n (some ((e.r + 4095) % 4096)))
  let s := pcCount (s.addCtr (REPLAYS f k) 1) f 4 e.lane 1
  let x := s.lane f e.lane
  let s := s.setLane f e.lane { x with faults := s.mono :: x.faults.filter fun t => decide (s.mono < t + 1000000000) }
  if s.rd (AS_FACE_STATUS_PHASE f) = 0 then s
  else if (portPositions s n).any fun j => s.rd (LANE_MAP_AUX_SHADOW_LANE f) == posLane s f j then rotationAbandon s f 2 4 else s

/-- The pair r that a failure of pair n requests (R224 step 1), and whether the frame in progress is lost. -/
def replayFrom (sf n : Nat) (frame : Option Nat) : Nat × Bool :=
  match frame with
  | none => (n, false)
  | some g => if sf = 2 ∧ (n + 4096 - g) % 4096 ≤ 8 then (g, false) else (n, g != n)

/-- The request is repeated, or the episode is exhausted (R225). -/
def episodeRepeat (s : State) (n : Nat) (e : Episode) : State :=
  let f := s.rd (PORT_CFG_FACE n)
  match seamPos s f e.lane with
  | none => s
  | some k =>
    let a := s.rd (REPLAY_STATUS_ATTEMPT f k)
    if s.rd (SEAM_CTRL_RETRY_MAX f k) ≤ a then
      seamEvent (episodeExhausted s n e 0) f e.lane 4 SEAM_EVENTS_EXHAUSTED
    else
      (portPositions s n).foldl (fun t j => t.wr (REPLAY_STATUS_ATTEMPT f j) (a + 1))
        { s with episodes := tabSet none s.episodes n (some { e with bad := true }) }

/-- A codeword of a paired lane at the receiver (R224, R225). -/
def seamPair (s : State) (f p k n : Nat) (w : OuterIn) (bad : Bool) : State :=
  let m := w.pair.toNat
  let start := fun (t : State) =>
    let (r, lost) := replayFrom (t.seam f p).sf m (w.frame.map BitVec.toNat)
    episodeStart t n k { n := m, r := r, lane := p, lost := lost }
  match tabGet none s.episodes n with
  | none => if bad && s.on (SEAM_STATUS_RETRY_ON f k) then start s else s
  | some e =>
    if w.replay && m == e.r then
      if bad then (if e.bad && w.second then s else episodeRepeat s n e)
      else if !w.second then { s with episodes := tabSet none s.episodes n (some { e with bad := false }) }
      else if e.bad then s
      else
        let s : State := { s with episodes := tabSet none s.episodes n none }
        let s := portResume ((portPositions s n).foldl (fun t j => t.wr (REPLAY_STATUS_RQ_OUT f j) 0) s) n
        match e.lost, seamPos s f e.lane with
        | true, some j => s.addCtr (LOST_FRAMES f j) 1
        | _, _ => s
    else if bad && m != e.n && decide ((e.n + 4096 - m) % 4096 < 2048) then start s
    else s

/-! ## The sealing handshake (R228-R233) -/

def hsSet (s : State) (f : Nat) (g : HsX → HsX) : State := s.setFace f { s.face f with hs := g (s.face f).hs }

/-- Sends a SEAL message of the handshake. -/
def hsSend (s : State) (f msg seq reason : Nat) : State :=
  hsSet s f fun h => { h with out := some ⟨msg, s.rd (SEAL_STATUS_HS_POS f), h.tag, seq, reason⟩ }

/-- p8 starts (R228 step 1): the relief datapaths serve and drive it, its lane acquires, and it ramps alone. -/
def p8Start (s : State) (f k : Nat) : State :=
  let d := s.rd (RELIEF_STATE_RELIEF_DP f)
  let e := s.rd (LANE_MAP_TX_AUX_TX_RELIEF f)
  let pk := posLane s f k
  let s := rxServe (setTxLaneDp (setLaneDp s f 8 d) f 8 e) f 8 d
  let s := s.wrs [(TXD_STATUS_LANE f e, 8), (TXD_STATUS_ROLE f e, 1),
    (TXD_STATUS_MODE f e, s.rd (TXD_STATUS_MODE f (txLaneDp s f pk)))]
  let s := (s.setShape f e (s.shape f (txLaneDp s f pk))).setTxd f e { s.txd f (txLaneDp s f pk) with side := [] }
  emitEval (laneEval (mapChanged (accRearm s) f 8) f 8) f

/-- This end proposes to move position k (R228 step 1); rotations end (R388 cause 8). -/
def hsPropose (s : State) (f k : Nat) : State :=
  let s := assayAbandon s f 8 4
  let tag := s.freeVal % 256
  let s := s.tookFree.wrs [(SEAL_STATUS_HS_STATE f, 1), (SEAL_STATUS_INITIATOR f, 1), (SEAL_STATUS_HS_POS f, k), (SEAL_STATUS_RESULT f, 0)]
  let s := hsSet s f fun h => { fails := h.fails, waiting := h.waiting, tag := tag, commits := true }
  p8Start (hsSend s f 1 0 0) f k

/-- This end accepts a PROPOSE (R228 step 2). -/
def hsAccept (s : State) (f k tag : Nat) : State :=
  let s := assayAbandon s f 8 4
  let s := s.wrs [(SEAL_STATUS_HS_STATE f, 2), (SEAL_STATUS_INITIATOR f, 0), (SEAL_STATUS_HS_POS f, k), (SEAL_STATUS_RESULT f, 0)]
  let s := hsSet s f fun h => { fails := h.fails, waiting := h.waiting, tag := tag }
  p8Start (hsSend s f 2 0 0) f k

/-- Refuses a PROPOSE of another handshake; a running one goes on with its own message (R217, R228). -/
def hsRefuse (s : State) (f k tag reason : Nat) : State :=
  hsSet s f fun h => { h with reply := some ⟨6, k, tag, 0, reason⟩ }

/-- The face leads its partner (R220). -/
def faceLeads (s : State) (f : Nat) : Bool := (List.range 9).any fun p => (s.seam f p).leader

/-- A PROPOSE arrives (R228, R230). -/
def hsOnPropose (s : State) (f k tag : Nat) : State :=
  let st := s.rd (SEAL_STATUS_HS_STATE f)
  let own := s.rd (SEAL_STATUS_HS_POS f)
  if st = 0 then
    if reliefReady s f && posLane s f k != 15 && posLane s f k != 8 then hsAccept s f k tag
    else hsRefuse s f k tag (if nbit (faceRelief s f) 0 then 2 else 3)
  else if own = k ∧ (s.face f).hs.tag = tag then s
  else if st ≤ 2 ∧ s.on (SEAL_STATUS_INITIATOR f) then
    if own = k then
      let lead := faceLeads s f
      hsSet (s.wr (SEAL_STATUS_HS_STATE f) 2) f fun h => { h with tag := (if lead then h.tag else tag), commits := lead }
    else if faceLeads s f then s
    else
      let pw := posLane s f own
      let mine := (s.face f).hs.tag
      let s := p8Off s f
      let s := hsSet s f fun h => { h with waiting := h.waiting ++ [pw] }
      hsSet (hsAccept s f k tag) f fun h => { h with reply := some ⟨7, own, mine, 0, 0⟩ }
  else hsRefuse s f k tag 4

/-- Own SWITCH_SEQ: the transmit pair count + RTT_PAIRS + 16 (R228 step 4). -/
def switchSeq (s : State) (f : Nat) : Nat :=
  let k := s.rd (SEAL_STATUS_HS_POS f)
  let pair := match portOf s f k with
    | some n => (s.port n).pair
    | none => 0
  (pair + s.rd (SEAM_STATUS_RTT_PAIRS f k) + 16) % 4096

/-- COMMIT or COMMITTED goes out. -/
def hsCommit (s : State) (f msg : Nat) : State :=
  let q := switchSeq s f
  hsSend (s.wrs [(SEAL_STATUS_HS_STATE f, 4), (SEAL_STATUS_SWITCH_SEQ f, q)]) f msg q 0

/-- A is READY and has B's READY (R228 step 4). -/
def hsTryCommit (s : State) (f : Nat) : State :=
  let h := (s.face f).hs
  if s.rd (SEAL_STATUS_HS_STATE f) = 3 ∧ h.commits ∧ h.ready ∧ h.peerReady then hsCommit s f 4 else s

/-- Ends the handshake's record: the faults that waited take their policy (R234), and a MODE_EN and a TARGET that waited apply (R31). -/
def hsEnd (s : State) (f : Nat) : State :=
  let s := hsSet (s.wr (SEAL_STATUS_HS_STATE f) 0) f fun h => { fails := h.fails, waiting := h.waiting }
  optWalk (waitingPolicy (modeEnCheck s f) f) f

/-- Position k moves to p8 and pk is sealed (R228 step 7, R233): the datapaths freed by pk become the relief. -/
def moveToP8 (s : State) (f k reason : Nat) : State :=
  let pk := posLane s f k
  let d := laneDp s f pk
  let e := txLaneDp s f pk
  let s := lightOffLanes s f (2 ^ pk)
  let s := setTxLaneDp (setLaneDp (setPosLane s f k 8) f pk 15) f pk 15
  let s := s.wrs [(RELIEF_STATE_RELIEF_DP f, d), (LANE_MAP_TX_AUX_TX_RELIEF f, e)]
  let s := if d = 15 then s else rxdOff s f d 0
  let s := if e = 15 then s else s.wrs [(TXD_STATUS_ROLE f e, 0), (TXD_STATUS_LANE f e, 15), (TXD_STATUS_EMIT f e, 0)]
  let s := laneSeal s f pk 3 k reason
  let s := seamShow (mapChanged s f pk) f 8
  match portOf s f k with
  | some n => portEval (laneOutEval s f 8) n
  | none => s

/-- A SEAL frame (R217, R228, R230). -/
def seamSeal (s : State) (f : Nat) (i : SeamIn) : State :=
  let b := i.bits.toNat
  let k := fb b 12 14
  let tag := fb b 16 23
  let st := s.rd (SEAL_STATUS_HS_STATE f)
  let mine := st != 0 && tag == (s.face f).hs.tag
  match fb b 8 11 with
  | 1 => hsOnPropose s f k tag
  | 2 => if mine && st == 1 then s.wr (SEAL_STATUS_HS_STATE f) 2 else s
  | 3 => if mine then hsTryCommit (hsSet s f fun h => { h with peerReady := true }) f else s
  | 4 =>
    if mine && st == 3 && !(s.face f).hs.commits then
      hsCommit (hsSet s f fun h => { h with peerSwitch := some (fb b 24 35) }) f 5
    else s
  | 5 => if mine && st == 4 && (s.face f).hs.commits then hsSet s f fun h => { h with peerSwitch := some (fb b 24 35) } else s
  | 6 => if mine then sealAbandon s f (fb b 36 39) else s
  | 7 => if mine && !s.on (SEAL_STATUS_INITIATOR f) then sealAbandon s f 9 else s
  | 8 => if mine then sealAbandon s f (fb b 36 39) else s
  | _ => s

/-- A HELLO on p8 for a position that this end still maps to pk (R233). -/
def reconcile (s : State) (f : Nat) (i : SeamIn) : State :=
  let b := i.bits.toNat
  let k := fb b 32 34
  let pk := posLane s f k
  if !frameGood i || fb b 4 7 != 2 || fb b 12 13 != 0 || pk == 15 || pk == 8 then s
  else if laneSealed s f 8 || (posOf s f 8).isSome || s.rd (RELIEF_STATE_RELIEF_DP f) == 15 || s.rd (LANE_MAP_TX_AUX_TX_RELIEF f) == 15 then
    sealPolicy s f pk
  else moveToP8 (p8Start s f k) f k 2

/-- The frame that arrives (R212, R214): the 64 sideband bits that the lane's decoder delivered with their fail flags where it holds as
many, else the command's. -/
def seamArrived (s : State) (f p : Nat) (i : SeamIn) : SeamIn × State :=
  let d := laneDp s f p
  let x := s.rxd f d
  if d ≠ 15 ∧ x.dp.side.length = 64 then
    ({ i with bits := BitVec.ofNat 64 (x.dp.side.foldl (fun a b => 2 * a + bit b.1) 0), flagged := x.dp.side.any Prod.snd },
      s.setRxd f d { x with dp := { x.dp with side := [] } })
  else (i, s)

/-- A good TRAIN frame's STAMP is kept for ECHO (R216). -/
def seamEcho (s : State) (f p : Nat) (i : SeamIn) : State :=
  let b := i.bits.toNat
  if frameGood i && fb b 4 7 == 2 && fb b 12 13 == 1 then s.setSeam f p { s.seam f p with echo := fb b 16 27 } else s

/-- A seam frame on a lane (R212-R218). -/
def seamFrame (s : State) (f p : Nat) (i0 : SeamIn) : State :=
  let r := seamArrived s f p i0
  let s := r.2
  let i := r.1
  let x := s.seam f p
  if p = 8 ∧ s.rd (SEAL_STATUS_HS_STATE f) = 0 ∧ (x.state = 0 ∨ x.state = 2) ∧ fb i.bits.toNat 4 7 = 2 ∧
      posLane s f (fb i.bits.toNat 32 34) ≠ 8 then
    reconcile s f i
  else if x.state = 0 ∨ x.state = 5 then s
  else
    let s := seamEcho (seamSent s f p i) f p i
    let x := s.seam f p
    let good := frameGood i
    if x.state = 1 then
      if good && fb i.bits.toNat 0 3 == 6 then
        let run := if x.run = 0 ∨ x.phase = i.phase.val then x.run + 1 else 1
        if 4 ≤ run then
          let s := seamPut s f p { x with run := run, phase := i.phase.val, state := 2 }
          if fb i.bits.toNat 4 7 = 2 then seamTrain s f p i else s
        else s.setSeam f p { x with run := run, phase := i.phase.val }
      else s.setSeam f p { x with run := 0 }
    else if !good then
      match posOf s f p with
      | some k => s.addCtr (FRAME_ERRS f k) 1
      | none => s
    else
      match fb i.bits.toNat 4 7 with
      | 2 => seamTrain s f p i
      | 3 => if x.state = 4 ∧ x.sf = 2 then seamSeal s f i else s
      | _ => if x.state = 4 then seamData s f p i else s

/-! ## Permanent faults (R227, R232) -/

/-- Does a condition of R227 (or of R232: 0, 2, 3, 4) hold as the registers show it? -/
def faultHolds (s : State) (f p cond : Nat) : Bool :=
  let x := s.lane f p
  let recent := fun (l : List Nat) => (l.filter fun t => decide (s.mono < t + 1000000000)).length
  match cond with
  | 0 => decide (s.rd (SEAL_CTRL_EPISODES f) ≤ recent x.faults)
  | 1 => decide (3 ≤ recent x.exhausts)
  | 2 => s.on (LANE_SLICE_FAILING f p)
  | 3 => s.rd (LANE_ACQ_STATUS_STATE f p) != 0 && !s.on (LANE_ACQ_STATUS_LOCKED f p)
  | _ =>
    let d := laneDp s f p
    s.on (SEAL_CTRL_MARGIN_RULE f) && s.rd (LANE_EFFORT_CURRENT f p) == 0 && d != 15 &&
      s.rd (QUAL_MARGIN_MARGIN_NOW f d) != 0x8000 && decide (sext 16 (s.rd (QUAL_MARGIN_MARGIN_NOW f d)) < 0)

/-- The port of a lane, when the lane serves one and is not sealed. -/
def faultPort (s : State) (f p : Nat) : Option (Nat × Nat) :=
  if laneSealed s f p then none
  else match posOf s f p with
    | some k => (portOf s f k).map fun n => (k, n)
    | none => none

/-- A permanent fault of a paired lane: the handshake, or the port's policy; while a handshake runs it waits (R227, R234). -/
def permanentFault (s : State) (f p k : Nat) : State :=
  let s := stickyEvent s (SEAM_EVENTS_PERMANENT f k) { code := 0x1201, kind := 1, index := 9 * f + p }
  if s.rd (SEAL_STATUS_HS_STATE f) ≠ 0 then
    if s.rd (SEAL_STATUS_HS_POS f) = k then s
    else hsSet s f fun h => { h with waiting := if h.waiting.contains p then h.waiting else h.waiting ++ [p] }
  else if reliefReady s f && p != 8 then hsPropose s f k
  else sealPolicy s f p

/-! ## Register effects -/

/-- RETRY_EN (R221): RETRY_CAP and RETRY_ON of the position's lane follow it. -/
def retryEnEff (s : State) (f k : Nat) : State :=
  let p := posLane s f k
  if p = 15 then s else retryEval 9 (seamShow s f p) f p

/-- RETRAIN (R218). -/
def retrainEff (s : State) (f k : Nat) : State :=
  let p := posLane s f k
  if p = 15 then s else seamPortEval (seamStart s f p) f p

/-- The five seam counters of a position (R224). -/
def seamClear (s : State) (f k : Nat) : State :=
  [REPLAYS f k, SERVED f k, LOST_FRAMES f k, EXHAUSTED f k, FRAME_ERRS f k].foldl (fun t a => t.setCtr a 0) s

/-! ## The outer stage (R153, R154, R201) -/

/-- The service position and the port whose share a lane's codewords carry: p8's in a handshake those of the position being moved. -/
def lineOf (s : State) (f p : Nat) : Option (Nat × Nat) := (seamPos s f p).bind fun k => (portOf s f k).map fun n => (k, n)

/-- Is position k received on this lane: on p8 once this end has switched, on its own lane before (R228, R229)? -/
def servesPos (s : State) (f p k : Nat) : Bool :=
  s.rd (SEAL_STATUS_HS_STATE f) == 0 || s.rd (SEAL_STATUS_HS_POS f) != k || ((p == 8) == (s.face f).hs.switched)

/-- Pair `m` follows the partner's SWITCH_SEQ. -/
def pastSwitch (s : State) (f m : Nat) : Bool :=
  match (s.face f).hs.peerSwitch with
  | some q => decide ((m + 4096 - q) % 4096 < 2048)
  | none => false

/-- p8's pairs wait in the switch FIFO of 8 KiB, six pairs (R229). -/
def fifoPut (s : State) (f m : Nat) (second : Bool) (w : List Nat) : State :=
  let put := fun (l : List (Nat × List Nat)) =>
    if second then l.map fun e => if e.1 = m ∧ e.2.length = 544 then (m, pairSymbols e.2 w) else e
    else if l.length < 6 then l ++ [(m, w)] else l
  hsSet s f fun h => { h with fifo := put h.fifo }

/-- A codeword of a position passes toward the host, or waits for the switch (R229). -/
def pairedPass (s : State) (f p k n : Nat) (w : OuterIn) (word : List Nat) : State :=
  let m := w.pair.toNat
  if servesPos s f p k then
    if s.rd (SEAL_STATUS_HS_STATE f) ≠ 0 ∧ s.rd (SEAL_STATUS_HS_POS f) = k ∧ p ≠ 8 ∧ pastSwitch s f m then s
    else lineWord s n (k - s.rd (PORT_CFG_FIRST_K n)) w.second w.starts word
  else if p = 8 ∧ pastSwitch s f m then fifoPut s f m w.second word
  else s

/-- What the receiver acknowledges follows a codeword (R215): a pair is good when both its codewords are, and ACK is held while an episode
discards. -/
def ackTake (s : State) (f p m : Nat) (second bad held : Bool) : State :=
  let x := s.seam f p
  if !second then s.setSeam f p { x with firstBad := bad }
  else if bad || x.firstBad || held then s
  else
    match x.good with
    | some g => if m = (g + 1) % 4096 then s.setSeam f p { x with good := some m } else s
    | none => s.setSeam f p { x with good := some m }

/-- A codeword of a paired lane (R201, R224, R225): good ones pass corrected; while an episode is outstanding only replayed ones from r on
pass, and idle blocks stand for the others; with retry off or an exhausted episode an uncorrectable one passes marked. -/
def pairedWord (s : State) (f p k n : Nat) (w : OuterIn) (word : List Nat) (bad : Bool) : State :=
  let m := w.pair.toNat
  let s := if (s.seam f p).state = 4 ∧ servesPos s f p k then seamPair s f p k n w bad else s
  match tabGet none s.episodes n with
  | none => pairedPass (ackTake s f p m w.second bad false) f p k n w (reencode word)
  | some e =>
    let again := w.replay && decide ((m + 4096 - e.r) % 4096 < 2048)
    let s := ackTake s f p m w.second bad (!again)
    if again && !bad then pairedPass s f p k n w (reencode word)
    else if w.second && servesPos s f p k then lineIdle s n (k - s.rd (PORT_CFG_FIRST_K n)) (m == e.n && w.frame.isSome)
    else s

/-- A codeword on the line side of a datapath with AM lock (R153, R154, R156): it is counted; in L400 it passes as it is (R26), in the
paired modes through the retry. -/
def outerLine (s : State) (f d p mode : Nat) (w : OuterIn) : State :=
  let word := word544 w.syms
  let dec := rsDecode word
  let s := match dec with
    | some r => codingCount (codingCount s f d (11 + r.1) 1) f d 28 r.1
    | none =>
      let s := codingCount s f d 27 1
      let s := stickyEvent s (CODE_STATUS_OUTER_UE f d) { code := 0x1041, kind := 1, index := 9 * f + p, a0 := d, a1 := mode }
      if s.rd (LANE_MAP_AUX_SHADOW_LANE f) = p then rotationAbandon s f 2 4 else s
  if mode = 1 then
    let x := s.lane f p
    let s := if dec.isNone then
        s.setLane f p { x with faults := s.mono :: x.faults.filter fun t => decide (s.mono < t + 1000000000) }
      else s
    match lineOf s f p with
    | some (k, n) => if portPaired (s.rd (PORT_CFG_TYPE n)) then s else lineWord s n (k - s.rd (PORT_CFG_FIRST_K n)) w.second w.starts word
    | none => s
  else
    match lineOf s f p with
    | some (k, n) => if portPaired (s.rd (PORT_CFG_TYPE n)) && !laneSealed s f p then pairedWord s f p k n w word dec.isNone else s
    | none => s

/-- A codeword from the host (R198, R201, R205), or as many bits of an unpaired G0 port's PMA lane (R200). -/
def outerHost (s : State) (n : Nat) (w : OuterIn) : State :=
  let t := s.rd (PORT_CFG_TYPE n)
  let word := word544 w.syms
  if !s.on (PORT_CFG_VALID n) then s
  else if t % 4 = 0 && !portPaired t then g0FromHost s n (word.flatMap symBits)
  else
    let s := hostCodeword s n ((rsDecode word).map Prod.fst)
    if w.share.val < portLines t then hostWord s n w.share.val w.second w.starts (if portPaired t then reencode word else word) else s

/-! ## The rows -/

/-- R153, R154, R201, R205: an outer codeword on a line lane or from the host. -/
def execOuterCodeword (at_ : OuterAt) (w : OuterIn) (s : State) : Out :=
  .next (guardS s.alive s fun s =>
    match at_ with
    | .host n => outerHost s n.val w
    | .line f d =>
      let p := s.rd (RXD_STATUS_LANE f.val d.val)
      let mode := s.rd (LANE_ACQ_STATUS_MODE f.val p)
      if !codingOn s f.val d.val || !s.on (CODE_STATUS_AM_LOCK f.val d.val) || mode == 0 || mode == 3 then s
      else outerLine s f.val d.val p mode w)

/-- A commanded change that waited for the handshake follows its end (R31). -/
def afterHs (s t : State) (f : Nat) : State :=
  if s.rd (SEAL_STATUS_HS_STATE f) ≠ 0 ∧ t.rd (SEAL_STATUS_HS_STATE f) = 0 then optWalk t f else t

def execSeamFrame (f : Fin 16) (p : Fin 9) (i : SeamIn) (s : State) : Out :=
  .next (guardS s.alive s fun s => afterHs s (seamFrame s f.val p.val i) f.val)

/-- R218: the step in progress, 4 once the round trip is measured. -/
def execSeamTrainTimeout (f : Fin 16) (p : Fin 9) (s : State) : Out :=
  let x := s.seam f.val p.val
  .next (guardS (s.alive && decide (1 ≤ x.state) && decide (x.state ≤ 3)) s fun s =>
    seamFail s f.val p.val (if x.measured then 4 else x.state))

def execSeamRetrainTimer (f : Fin 16) (p : Fin 9) (s : State) : Out :=
  .next (guardS (s.alive && (s.seam f.val p.val).state == 5) s fun s => seamPortEval (seamStart s f.val p.val) f.val p.val)

/-- R225. -/
def execReplayRetry (n : Fin 128) (s : State) : Out :=
  .next (guardS s.alive s fun s =>
    match tabGet none s.episodes n.val with
    | some e => episodeRepeat s n.val e
    | none => s)

/-- R227. -/
def execPermanentFault (f : Fin 16) (p : Fin 9) (cond : Fin 5) (s : State) : Out :=
  .next (guardS (s.alive && faultHolds s f.val p.val cond.val) s fun s =>
    match faultPort s f.val p.val with
    | some (k, n) => if portPaired (s.rd (PORT_CFG_TYPE n)) then permanentFault s f.val p.val k else s
    | none => s)

/-- R232: the conditions in the table's order; the third needs signal present (R87) and the face's other lanes LOCKED. -/
def execLanePermanentFault (f : Fin 16) (p : Fin 9) (cond : Fin 4) (s : State) : Out :=
  let c := if cond.val = 0 then 0 else cond.val + 1
  let others := (List.range 9).all fun q => q == p.val || !laneInUse s f.val q || laneSealed s f.val q || s.on (LANE_ACQ_STATUS_LOCKED f.val q)
  let pn := s.rd (LANE_POWER_P_NOW f.val p.val)
  let present := pn != 0x8000 && decide (-544 ≤ sext 16 pn)
  .next (guardS (s.alive && faultHolds s f.val p.val c && (c != 3 || (others && present))) s fun s =>
    match faultPort s f.val p.val with
    | some (k, n) =>
      if portPaired (s.rd (PORT_CFG_TYPE n)) then s
      else sealPolicy (stickyEvent s (SEAM_EVENTS_PERMANENT f.val k) { code := 0x1201, kind := 1, index := 9 * f.val + p.val }) f.val p.val
    | none => s)

/-- R228 step 3: token and POS are checked, a skew beyond two pairs is refused with reason 7 (R229). -/
def execP8Ready (f : Fin 16) (skew : Int) (s : State) : Out :=
  let st := s.rd (SEAL_STATUS_HS_STATE f.val)
  let x := s.seam f.val 8
  .next (guardS (s.alive && (st == 1 || st == 2) && x.state == 4 && s.on (LANE_ACQ_STATUS_LOCKED f.val 8) &&
      nbit (s.face f.val).emit 8 && tabGet 0 (s.face f.val).laneRamp 8 == 0) s fun s =>
    let lim : Int := if s.rd (LANE_ACQ_STATUS_MODE f.val 8) = 2 then 512 else 1024
    afterHs s (if !onePartner s f.val || x.pos != s.rd (SEAL_STATUS_HS_POS f.val) then sealAbandon s f.val 8
    else if lim < 10 * skew ∨ 10 * skew < -lim then sealAbandon s f.val 7
    else
      let s := s.wrs [(SEAL_STATUS_HS_STATE f.val, 3), (SEAL_STATUS_SKEW f.val, twos 8 skew)]
      let s := hsSend (hsSet s f.val fun h => { h with ready := true }) f.val 3 0 0
      hsTryCommit s f.val) f.val)

/-- R229: from here on position k is received on p8; pairs that came early leave the switch FIFO. -/
def execSealSwitch (f : Fin 16) (s : State) : Out :=
  .next (guardS (s.alive && s.rd (SEAL_STATUS_HS_STATE f.val) == 4 && (s.face f.val).hs.peerSwitch.isSome) s fun s =>
    let h := (s.face f.val).hs
    let k := s.rd (SEAL_STATUS_HS_POS f.val)
    let s := hsSet s f.val fun h => { h with switched := true, fifo := [] }
    match portOf s f.val k with
    | some n => (h.fifo.filter fun e => e.2.length == 1088).foldl (fun t e => lineJoin t n (k - t.rd (PORT_CFG_FIRST_K n)) false e.2) s
    | none => s)

/-- R228 step 7; a commanded change that waited for the handshake follows (R31). -/
def execSealCommit (f : Fin 16) (s : State) : Out :=
  .next (guardS (s.alive && s.rd (SEAL_STATUS_HS_STATE f.val) == 4 && (s.face f.val).hs.switched) s fun s =>
    let k := s.rd (SEAL_STATUS_HS_POS f.val)
    let pk := posLane s f.val k
    let init := s.on (SEAL_STATUS_INITIATOR f.val)
    let s := moveToP8 s f.val k (if init then 1 else 2)
    let s := s.wr (SEAL_STATUS_RESULT f.val) 1
    let s := logEvent s { code := 0x1240, kind := 1, index := 9 * f.val + pk, a0 := bit init }
    hsEnd s f.val)

/-- R230; a commanded change that waited follows (R31). -/
def execSealHandshakeTimeout (f : Fin 16) (s : State) : Out :=
  .next (guardS (s.alive && s.rd (SEAL_STATUS_HS_STATE f.val) != 0) s fun s => optWalk (sealAbandon s f.val 6) f.val)

/-- R230: again while relief is ready, else the port's policy. -/
def execSealRepropose (f : Fin 16) (s : State) : Out :=
  .next (guardS (s.alive && s.rd (SEAL_STATUS_HS_STATE f.val) == 0) s fun s =>
    match (s.face f.val).hs.again with
    | none => s
    | some k =>
      let s := hsSet s f.val fun h => { h with again := none }
      let p := posLane s f.val k
      if p = 15 ∨ p = 8 ∨ laneSealed s f.val p then s
      else if reliefReady s f.val then hsPropose s f.val k else sealPolicy s f.val p)

end Sys2Proof.Machine
end

