-- ==== Sys2Proof/Machine/TallyOps.lean ====
section
/-!
DEFINITION. Sys2Proof/Machine/TallyOps.lean: freeze and thaw, the archive, SNAP, bandwidth windows and the memory system's small
commands (16, 17).
-/
namespace Sys2Proof.Machine
open Sys2Proof

/-- A record that Tally stores by rule, with the notice that its action gives it (R427). -/
def tallyOwn (s : State) (ev : Ev) : State :=
  let e := { ev with priv := s.actor }
  let notify := evAction s e == 2
  let ws := recordWords e (if storable s then s.rd HEAD_SEQ_SEQ else 0xFFFFFFFF) s.time
    (bit (notify && anyNotice s) + 2 * bit (storable s && s.gap))
  let t := storeEvent (if storable s then archiveLoss s else s) e (notify && anyNotice s)
  if notify then sendNotices t ws else t

/-- TALLY_FREEZE (R427): 0x0740 is stored, then recording stops. -/
def freezeEff (s : State) : State :=
  if s.on TALLY_STATUS_FROZEN then s else (tallyOwn s { code := 0x0740 }).wr TALLY_STATUS_FROZEN 1

/-- TALLY_THAW, the end of FREEZE_MAX, a warm reset or a wake (R427): 0x0741 carries the events lost. -/
def thawEff (s : State) : State :=
  if s.on TALLY_STATUS_FROZEN then
    let n := s.frozenLost
    tallyOwn { s.wr TALLY_STATUS_FROZEN 0 with frozenLost := 0 } { code := 0x0741, a0 := n }
  else s

/-- CLEAR empties the store (R424). -/
def tallyClearEff (s : State) : State :=
  let h := s.rd HEAD_SEQ_SEQ
  { (memClearCopy s 7 0).wrs [(BASE_SEQ_SEQ, h), (TALLY_STATUS_FULL, 0)] with archNext := h / 256 }

/-- PLATFORM record of the running plan (R49). -/
def platform (s : State) : List Nat := (s.planRecs 3).headD []

/-- Blocks that the Tally archive keeps: TALLY_ARCH MiB of 8 KiB, none without DDR4 (R410, R425). -/
def archKeeps (s : State) : Nat := if s.rd PRESENCE_DDR = 0 then 0 else recField (platform s) 96 2 * 128

/-- A completed block is copied to the archive, which keeps the newest (R425). -/
def archCopy (s : State) : State :=
  let b := s.archNext
  if s.on TALLY_CTRL_POLICY && decide ((b + 1) * 256 ≤ s.rd HEAD_SEQ_SEQ) && archKeeps s != 0 then
    let (t, ws) := (List.range 1024).foldl (fun (acc : State × List Word) j =>
      let (u, v, _) := memReadWord acc.1 7 0 (4 * (b * 256 % 16384) + j)
      (u, BitVec.ofNat 32 (v / 2 ^ 32) :: BitVec.ofNat 32 v :: acc.2)) (s, [])
    let lo := (b + 1) - archKeeps s
    let t : State := { t with archive := (tabSet [] t.archive b ws.reverse).filter fun e => decide (lo ≤ e.1), archNext := b + 1 }
    match t.archive.head? with
    | some e => t.wrs [(ARCH_OLDEST_BLOCK, e.1), (ARCH_NEWEST_BLOCK, b)]
    | none => t
  else s

/-- TALLY_ARCH_SEL (R425): a block outside the archive is discarded with RANGE. -/
def archSelEff (s : State) (v : Nat) : State × Nat :=
  let b := v % 2 ^ 24
  if s.archive = [] ∨ b < s.rd ARCH_OLDEST_BLOCK ∨ s.rd ARCH_NEWEST_BLOCK < b then (s, stRange) else (s.wr TALLY_ARCH_SEL_BLOCK b, stOk)

/-! ## SNAP (R431) -/

/-- One address in every power domain that holds counters. -/
def snapProbes : List Nat := [0, 0x600000] ++ domProbes

/-- SNAP: every domain that is on copies its counters; BUSY while a mark propagates. -/
def snapEff (s : State) : State × Nat :=
  if s.on SNAP_STATUS_BUSY then (s, stBusy)
  else
    let g := (s.rd SNAP_STATUS_GEN + 1) % 256
    let on := fun a => (domsOf a).any fun d => pdomOn s d.1
    let keep := s.shadows.filter fun e => !on e.1
    let sh := (s.ctrs.filter fun e => on e.1).foldl (fun t e => tabSet 0 t e.1 e.2) keep
    let gens := (snapProbes.filter on).foldl (fun t a =>
      match domsOf a with
      | some d => tabSet 0 t (pdomKey d.1) g
      | none => t) s.snapGens
    let s : State := { s with shadows := sh, snapGens := gens }
    (s.wrs [(SNAP_STATUS_BUSY, 1), (SNAP_STATUS_GEN, g), (MARK_TIME_LO_TIME, s.time), (MARK_TIME_HI_TIME, s.time / 2 ^ 32)], stOk)

/-- The shadow that a selector names: value and GEN. -/
def shadowOf (s : State) (a : Nat) : Nat × Nat :=
  (tabGet 0 s.shadows a, match domsOf a with | some d => tabGet 0 s.snapGens (pdomKey d.1) | none => 0)

/-! ## Memory system registers -/

/-- MEM_FLIP_CTRL (R403): an armed flip takes only ARM = 0, which disarms it. -/
def memFlipEff (s : State) (v : Nat) : State × Nat :=
  if s.on MEM_FLIP_CTRL_ARM then
    if nbit v 31 then (s, stBusy) else (s.wr MEM_FLIP_CTRL_ARM 0, stOk)
  else if memArrayOk (v / 2 ^ 16 % 256) then
    (s.wrs [(MEM_FLIP_CTRL_ARM, v / 2 ^ 31), (MEM_FLIP_CTRL_MODE, v / 2 ^ 30), (MEM_FLIP_CTRL_ARRAY, v / 2 ^ 16),
      (MEM_FLIP_CTRL_INDEX, v / 2 ^ 8), (MEM_FLIP_CTRL_CHECK, v)], stOk)
  else (s, stRange)

/-- RESTART of a Hewer's sample buffer (R434). -/
def hsRestartEff (s : State) (n : Nat) : State :=
  { s.wrs [(HS_STATUS_FULL n, 0), (HS_STATUS_COUNT n, 0)] with
    hsBuf := tabSet [] s.hsBuf n [], hsCount := tabSet 0 s.hsCount n 0 }

/-! ## The rows -/

def execFreezeTimeout (s : State) : Out :=
  .next (guardS (s.alive && s.on TALLY_STATUS_FROZEN && s.rd TALLY_CTRL_FREEZE_MAX != 0) s thawEff)

def execSnapDone (s : State) : Out := .next (guardS s.alive s fun s => s.wr SNAP_STATUS_BUSY 0)

def execTallyArchiveCopy (s : State) : Out := .next (guardS s.alive s archCopy)

/-- R433: the counts of the window, in units of 64 bytes. -/
def execBwWindow (n : Fin 128) (h2l l2h : Word) (s : State) : Out :=
  .next (guardS (s.alive && s.on (BW_CTRL_EN n.val) && s.on (PORT_CFG_VALID n.val) && s.rd (PORT_CFG_TYPE n.val) % 4 != 0) s fun s =>
    (s.wrs [(BW_H2L_BYTES n.val, h2l.toNat), (BW_L2H_BYTES n.val, l2h.toNat)]).incMod (BW_SEQ_WINDOWS n.val))

/-- R430: the count that wraps a counter. -/
def execPcOvf (b : Fin 73) (i : Fin 8) (s : State) : Out :=
  .next (guardS (s.alive && s.on (PC_CFG_EN b.val i.val) && s.ctr (PC_COUNT b.val i.val) == 2 ^ 48 - 1) s fun s => pcAdd s b.val i.val 1)

end Sys2Proof.Machine
end

