-- ==== Sys2Proof/Machine/RegWrite.lean ====
section
/-!
DEFINITION. Sys2Proof/Machine/RegWrite.lean: what a write does to the register that it reaches, field by field (R20, R325) and
with the effects that each chapter gives it. An effect answers the state and the status.
-/
namespace Sys2Proof.Machine
open Sys2Proof

/-- Bits [lo+n-1:lo] of a written value. -/
def vf (v lo n : Nat) : Nat := v / 2 ^ lo % 2 ^ n

/-- One field of a plain register takes its part of a write (R20): RW and RWL set, W1C clears, RO, WO and RWS keep. -/
def writeFld (v : Nat) (w : Word) (f : FldDesc) : Word :=
  match f.acc with
  | .rw => fieldSet w f.lo f.width (vf v f.lo f.width)
  | .rwl => fieldSet w f.lo f.width (vf v f.lo f.width)
  | .w1c => fieldSet w f.lo f.width (Nat.land (fieldGet w f.lo f.width) (2 ^ f.width - 1 - vf v f.lo f.width))
  | _ => w

/-- A write to a register whose fields have no further effect. -/
def plainWrite (s : State) (d : RegDesc) (a v : Nat) : State := s.setReg a (d.flds.foldl (writeFld v) (s.reg a))

/-- The value that keeps every RW field, clears no W1C bit and sets one action bit (R325). -/
def actionValue (s : State) (a b : Nat) : Nat :=
  match descOf a with
  | some (d, _) => ((d.flds.filter fun f => f.acc == .rw).foldl (fun (w : Word) f => fieldSet w f.lo f.width (fieldGet (s.reg a) f.lo f.width)) 0).toNat + 2 ^ b
  | none => 2 ^ b

/-! ## Control ports, device chip states and the rest of the effects that no family holds -/

/-- The link goes down and bring-up restarts at RATE_CAP (R288); sessions persist. -/
def cpRestart (s : State) (n : Nat) : State :=
  let s := s.wrs [(CP_STATUS_LINK n, 0), (CP_STATUS_RATE n, 7)]
  { s with cpTry := tabSet 0 s.cpTry n (s.rd (CP_CTRL_RATE_CAP n) + 1) }

/-- Can a copy of the running plan be restored (R334, R339, R412)? -/
def planRestorable (s : State) : Bool :=
  match s.plan with
  | none => false
  | some p =>
    if s.rd PRESENCE_DDR = 0 then (p.source == 1 && s.on PLAN_STATUS_SLOT_A_VALID) || (p.source == 2 && s.on PLAN_STATUS_SLOT_B_VALID)
    else s.planCopyOk

/-- FM_CHIP_CTRL.TARGET (R333, R334): entry to DEEP follows the reply. -/
def chipTargetEff (s : State) (t : Nat) : State × Nat :=
  match t with
  | 0 => (chipTarget s 0, stOk)
  | 1 => (chipTarget s 1, stOk)
  | 2 =>
    if s.ops.any fun o => !o.state.terminal then (s.wr FM_CHIP_STATUS_RESULT stBusy, stBusy)
    else if !planRestorable s then (s.wr FM_CHIP_STATUS_RESULT stRange, stRange)
    else (chipTarget s 2, stOk)
  | _ => (s.wr FM_CHIP_STATUS_RESULT stRange, stRange)

/-- Stages one word at PTR (R68). -/
def stageWord (s : State) (v : Nat) : State :=
  let p := s.rd PLAN_STAGE_PTR_PTR
  (memWriteIn s 2 0 p (leBytes 4 v)).wr PLAN_STAGE_PTR_PTR (p + 4)

/-- PLAN_STAGE_DATA (R68). -/
def stageDataEff (s : State) (v : Nat) : State × Nat :=
  match s.claim with
  | some (some _) => (s, stBusy)
  | _ => (stageWord (claimTake s none) v, stOk)

/-- PLAN_STAGE_PTR (R68): PTR is set; RELEASE ends a claim held by register writes. -/
def stagePtrEff (s : State) (v : Nat) : State × Nat :=
  match s.claim with
  | some (some _) => (s, stBusy)
  | _ =>
    let s := (claimTake s none).wr PLAN_STAGE_PTR_PTR (v / 4 % 2 ^ 22 * 4)
    (if nbit v 31 then claimSet s none else s, stOk)

/-- STREAM_CREDIT.ADD (R253, R256). -/
def streamCreditEff (s : State) (i v : Nat) : State × Nat :=
  if s.on (STREAM_STATUS_OPEN i) then (s.wr (STREAM_STATUS_CREDIT i) (satAdd 16 (s.rd (STREAM_STATUS_CREDIT i)) (v % 2 ^ 16)), stOk)
  else (s, stRange)

/-- ARCH_CTRL.DROP_OLDEST (R251). -/
def dropOldestEff (s : State) : State :=
  match s.archEntries with
  | [] => s
  | e :: _ => archFree s e.id

/-- CAP_CTRL (R246, R247, R250): each bit is an action; the first status that is not OK is answered. -/
def capCtrlEff (s : State) (c v : Nat) : State × Nat :=
  let (s, st1) := if nbit v 31 then armEff s [c] else (s, stOk)
  let s := if nbit v 30 then forceEff s c else s
  let s := if nbit v 29 then capTrunc s c else s
  let (s, st2) := if nbit v 28 then discardEff s c else (s, stOk)
  (s, if st1 ≠ stOk then st1 else st2)

/-- OPT_LIM_A and OPT_LIM_B (R20, R179, R180). -/
def optLimEff (s : State) (f : Nat) (b : Bool) (v : Nat) : State × Nat :=
  if s.on FUSE_STATUS_LIMITS_LOCK then (s, stLimit)
  else if b && decide (2 < vf v 28 4) then (s, stRange)
  else
    let s := if b then s.setReg (OPT_LIM_B f) (BitVec.ofNat 32 (v / 2 ^ 18 * 2 ^ 18 + v % 2 ^ 16)) else s.setReg (OPT_LIM_A f) (BitVec.ofNat 32 v)
    (limitsChanged s f, stOk)

/-- OPT_CTRL (R169, R171, R325): a TARGET that is refused discards the whole write. -/
def optCtrlEff (s : State) (f v : Nat) : State × Nat :=
  let (s, st) := targetEff s f (vf v 29 3)
  if st ≠ stOk ∨ s.rd (OPT_CTRL_TX_LANE_EN f) = v % 512 then (s, st) else (laneEnEff s f (v % 512), stOk)

/-- LANE_ACQ_CTRL (R98, R99): a MODE_EN that leaves no enabled bit is RANGE. -/
def acqCtrlEff (s : State) (d : RegDesc) (f p v : Nat) : State × Nat :=
  let m := Nat.land (v % 16) (faceModes s f)
  if m = 0 then (s, stRange)
  else
    let old := s.rd (LANE_ACQ_CTRL_MODE_EN f p)
    let s := (plainWrite s d (LANE_ACQ_CTRL f p) v).wr (LANE_ACQ_CTRL_MODE_EN f p) old
    let s := if m = old then s else modeEnEff s f p m
    (if nbit v 31 then restartEff s f p else s, stOk)

/-- The lane that a receive datapath serves (R12). -/
def servedLane (s : State) (f d : Nat) : Option Nat := (List.range 9).find? fun p => laneDp s f p == d

/-- EQ_CONV (R118): DONE acts when both are written. -/
def eqConvEff (s : State) (d : RegDesc) (f dp v : Nat) : State :=
  let s := plainWrite s d (EQ_CONV f dp) v
  match servedLane s f dp with
  | some p => if nbit v 31 then convDoneEff s f p else if nbit v 30 then convFailEff s f p else s
  | none => s

/-- A pattern register (R206, R207): patterns, then enables, INJECT and CLEAR. -/
def patCtrlEff (s : State) (d : RegDesc) (a v : Nat) (w : PatAt) (gen chk : Option Fld) : State :=
  let oldG := match gen with | some g => s.rd g | none => 0
  let oldC := match chk with | some c => s.rd c | none => 0
  let s := plainWrite s d a v
  let s := match gen with
    | some g => if vf v 31 1 = oldG then s else patEff (s.wr g oldG) w false (nbit v 31)
    | none => s
  let s := match chk with
    | some c => if vf v 23 1 = oldC then s else patEff (s.wr c oldC) w true (nbit v 23)
    | none => s
  let s := if gen.isSome && nbit v 29 then injectEff s w else s
  if chk.isSome && nbit v 21 then patClearEff s w else s

/-- PORT_CTRL (R191, R202, R205). -/
def portCtrlEff (s : State) (n v : Nat) : State :=
  let s := if nbit v 31 == s.on (PORT_CTRL_ADMIN_UP n) then s
    else if s.on (PORT_CFG_VALID n) then adminUpEff s n (nbit v 31) else s.wr (PORT_CTRL_ADMIN_UP n) (vf v 31 1)
  let s := if nbit v 30 && s.on (PORT_CFG_VALID n) then portRestartEff s n else s
  if nbit v 29 then hostClear s n else s

/-- TAP_CTRL (R235, R239, R240). -/
def tapCtrlEff (s : State) (f v : Nat) : State :=
  let s := if nbit v 31 == s.on (TAP_CTRL_RUN f) then s else tapRunEff s f (nbit v 31)
  let s := if nbit v 30 then tapSwapEff s f else s
  if nbit v 28 then tapRestartEff s f else s

/-! ## Hewers (R276, R284-R286) -/

/-- RESET of a Hewer (R261, R286): every register and PEND clear, both memories stay; RUN starts it at address 0. -/
def hewerReset (s : State) (n : Nat) : State :=
  let x := tabGet {} s.hewers n
  let x' : HewerX := { latches := x.latches, fails := x.fails, snapSel := x.snapSel }
  let s : State := { s with hewers := tabSet {} s.hewers n x' }
  s.wrs [(HW_IRQ_PEND n, 0), (HW_STATUS_CAUSE n, 0), (HW_STATUS_PC n, 0), (HW_STATUS_STATE n, if s.on (HW_CTRL_RUN n) then 1 else 3)]

/-- RUN (R286): 1 starts a HALTED Hewer, 0 halts one that runs or waits; a TRAPPED one needs RESET. -/
def hewerRun (s : State) (n : Nat) (run : Bool) : State :=
  let s := s.wr (HW_CTRL_RUN n) (bit run)
  let st := s.rd (HW_STATUS_STATE n)
  if run && st == 3 then s.wr (HW_STATUS_STATE n) 1
  else if !run && (st == 1 || st == 2) then s.wr (HW_STATUS_STATE n) 3
  else s

/-- HW_CTRL (R286): RUN, then RESET, then STEP, which runs after the access. -/
def hwCtrlEff (s : State) (n v : Nat) : State :=
  let s := hewerRun s n (nbit v 31)
  let s := if nbit v 30 then hewerReset s n else s
  if nbit v 29 && s.rd (HW_STATUS_STATE n) == 3 && !s.on (HW_CTRL_STEP n) then
    { s.wr (HW_CTRL_STEP n) 1 with defer := s.defer ++ [.step n] }
  else s

/-- KICK restarts the watchdog's period (R284). -/
def wdogKick (s : State) (n : Nat) : State :=
  { s with hewers := tabSet {} s.hewers n { tabGet {} s.hewers n with warned := false } }

/-- HW_OVL_CTRL (R285): START, unless a copy runs. LEN is a multiple of 4. -/
def ovlCtrlEff (s : State) (n v : Nat) : State × Nat :=
  if v % 4 ≠ 0 then (s, stRange)
  else if nbit v 31 && !s.on (HW_OVL_CTRL_START n) && ddrTested s ((s.reg (HW_OVL_SRC_LO n)).toNat + (s.reg (HW_OVL_SRC_HI n)).toNat * 2 ^ 32)
      (v % 2 ^ 18) then (s, stBusy)
  else
    let s := s.wrs [(HW_OVL_CTRL_DIR n, v / 2 ^ 30), (HW_OVL_CTRL_LEN n, v)]
    (if nbit v 31 && !s.on (HW_OVL_CTRL_START n) then s.wrs [(HW_OVL_CTRL_START n, 1), (HW_OVL_CTRL_STATUS n, 0)] else s, stOk)

/-- TS_THROTTLE (R354): a threshold above its ceiling (R346), or ALERT at or below THROTTLE, is discarded with LIMIT. -/
def throttleEff (s : State) (d : RegDesc) (a v : Nat) : State × Nat :=
  let c : Int × Int := match (s.planRecs 5).find? fun r => r.length == 8 with
    | some r => (sext 16 (recField r 0 2), sext 16 (recField r 2 2))
    | none => (880, 960)
  let t := sext 16 (vf v 16 16)
  let al := sext 16 (v % 2 ^ 16)
  if c.1 < t ∨ c.2 < al ∨ al ≤ t then (s, stLimit) else (sensorsEval (plainWrite s d a v), stOk)

/-! ## Resets by register (R439, R441, R442) -/

/-- FACE_RST: a datapath with ROLE 2 or 3 is BUSY, a sealed one RANGE, and then no datapath is reset (R442). A face reset while a plan
applies, and a datapath mask while a face reset runs, are BUSY (R448). -/
def faceRstEff (s : State) (f v : Nat) : State × Nat :=
  let rx := vf v 18 9
  let tx := vf v 9 9
  let busy := (List.range 9).any fun d => (nbit rx d && (s.rd (RXD_STATUS_ROLE f d) == 2 || s.rd (RXD_STATUS_ROLE f d) == 3)) ||
    (nbit tx d && (s.rd (TXD_STATUS_ROLE f d) == 2 || s.rd (TXD_STATUS_ROLE f d) == 3))
  let isSealed := (List.range 9).any fun d => (nbit rx d && dpSealed s f d) || (nbit tx d && txSealed s f d)
  let applying := nbit v 31 && (s.checked.isSome || s.ops.any fun o => o.step == 2 && !o.state.terminal && (o.kind.code == 5 || o.kind.code == 9))
  if busy || applying || ((rx != 0 || tx != 0) && s.on (FACE_RST_FACE f)) then (s, stBusy)
  else if isSealed then (s, stRange)
  else
    let ds : List Deferred := (if rx = 0 ∧ tx = 0 then [] else [.dps f rx tx]) ++ (if nbit v 31 && !s.on (FACE_RST_FACE f) then [.face f] else [])
    let s := if nbit v 31 then s.wr (FACE_RST_FACE f) 1 else s
    ({ s with defer := s.defer ++ ds }, stOk)

/-- RST_CTRL (R439). -/
def rstCtrlEff (s : State) (v : Nat) : State × Nat :=
  if !nbit v 31 then (s, stOk)
  else if v % 2 ^ 16 = 0x5752 then ({ s with defer := s.defer ++ [.warm (.rstCtrl (BitVec.ofNat 32 v))] }, stOk)
  else (s, stRange)

/-! ## Values that a register rejects (R325) -/

/-- Selectors of PC_CFG.EVENT by block (R429). -/
def pcEventOk (b e : Nat) : Bool :=
  if b < 16 then decide (e ≤ 7) || e == 0x10
  else if b < 48 then decide (e ≤ 4) || e == 0x10
  else if b < 66 then decide (e ≤ 8)
  else if b < 68 then decide (e ≤ 4) || e == 0x10
  else if b < 72 then decide (e ≤ 3) || e == 0x10
  else decide (e ≤ 3)

/-- POWER record of the running plan. -/
def powerRec (s : State) : List Nat := (s.planRecs 4).headD []

/-- Does a field of the register reject its part of the value? -/
def rejects (s : State) (n : RegId) (idx : List Nat) (v : Nat) : Bool :=
  match n, idx with
  | .LANE_AGC, _ => decide (vf v 16 8 < 16) || decide (64 < vf v 16 8)
  | .GRAD_CTRL, _ => decide (vf v 24 4 < 4)
  | .TR_CTRL, _ => decide (vf v 8 5 < 8)
  | .ELS_BANK, _ => v % 2 ^ 16 == 0
  | .HL_CTRL, _ => vf v 29 2 == 3 || decide (3 < v % 8) || vf v 16 8 == 0
  | .SEAM_CTRL, _ => vf v 24 3 == 0
  | .SEAL_CTRL, _ => vf v 16 16 == 0
  | .HW_WDOG, [n] => decide (16 ≤ n) && vf v 16 16 == 0
  | .HW_OVL_SRC_LO, _ => v % 64 != 0
  | .HW_OVL_DST, _ => v % 4 != 0
  | .FM_RAIL, _ => decide (vf v 28 2 < recField (powerRec s) 9 1)
  | .FM_BUDGET, _ => v % 2 ^ 16 == 0 || decide (recField (powerRec s) 2 2 < v % 2 ^ 16)
  | .FM_EFFORT, _ => decide (vf v 16 8 < vf v 8 8)
  | .TS_HYST, _ => decide (v % 256 < 8) || decide (80 < v % 256)
  | .MADC_CHSEL, _ => decide (111 < v % 128)
  | .SURVEY_CTRL, _ => vf v 16 3 == 0
  | .ASSAY_CTRL, _ => vf v 16 8 == 0 || decide (v % 2 ^ 16 < 10)
  | .MEM_SCRUB_CTRL, _ => v % 2 ^ 24 == 0 || decide (0x100000 < v % 2 ^ 24)
  | .MEM_SCRUB_DDR, _ => v % 2 ^ 16 == 0
  | .TALLY_CTRL, _ => nbit v 30 && archKeeps s == 0
  | .TALLY_CLASS_ACT_LO, _ => (List.range 16).any fun c => vf v (2 * c) 2 == 3
  | .TALLY_CLASS_ACT_HI, _ => (List.range 16).any fun c => vf v (2 * c) 2 == 3
  | .TALLY_FILTER0, _ => vf v 29 2 == 3
  | .HS_CTRL, _ => v % 2 ^ 16 == 0
  | .BW_CTRL, _ => v % 2 ^ 24 == 0 || decide (1000000 < v % 2 ^ 24)
  | .PC_CFG, [b, _] => !pcEventOk b (vf v 16 8)
  | _, _ => false

/-! ## The effects, by register -/

/-- A budget or a cap that Foreman follows at its next tick changes: H17's source 5 (R276). -/
def budgetChange (s : State) : State := raiseIrq s 17 5

/-- Line side: chapters 03 to 06 and 08. -/
def writeLine (s : State) (d : RegDesc) (idx : List Nat) (a v : Nat) : Option (State × Nat) :=
  match d.name, idx with
  | .LANE_ACQ_CTRL, [f, p] => some (acqCtrlEff s d f p v)
  | .EQ_BANK_CTRL, [f, dp] => some (swapEff (plainWrite s d a v) f dp (nbit v 31) (nbit v 30), stOk)
  | .EQ_EXP_RANGE, [f, dp] => some (if nbit v 0 then expRestartEff s f dp else s, stOk)
  | .EQ_CONV, [f, dp] => some (eqConvEff s d f dp v, stOk)
  | .LANE_EFFORT, [f, p] => some (capEff s f p (vf v 18 2))
  | .CNT_CTRL, [f, dp] => some (if nbit v 31 then codingClear s f dp else s, stOk)
  | .TXD_CTRL, [f, dp] =>
    let s := plainWrite s d a v
    some (if nbit v 31 then s.wr (TXD_CTRL_APPLY f dp) 1 else s, stOk)
  | .TXD_FIR, [f, dp, j] => some (memWriteIn s 6 f (4 * (dp * 256 + 4 + j)) (leBytes 4 (v % 2 ^ 10)), stOk)
  | .TXD_PD, [f, dp, i] => some (memWriteIn s 6 f (4 * (dp * 256 + 64 + i)) (leBytes 4 (v % 2 ^ 8)), stOk)
  | .OPT_CTRL, [f] => some (optCtrlEff s f v)
  | .OPT_LIM_A, [f] => some (optLimEff s f false v)
  | .OPT_LIM_B, [f] => some (optLimEff s f true v)
  | .OPT_LANE_A, [f, p] => some (laneAEff s f p v)
  | .SEAM_CTRL, [f, k] =>
    let s := retryEnEff (plainWrite s d a v) f k
    let s := if nbit v 31 then retrainEff s f k else s
    some (if nbit v 28 then seamClear s f k else s, stOk)
  | .RXD_PRBS_CTRL, [f, dp] =>
    some (patCtrlEff s d a v (.line (Fin.ofNat 16 f) (Fin.ofNat 9 dp)) none (some (RXD_PRBS_CTRL_CHK_EN f dp)), stOk)
  | .TXD_PRBS_CTRL, [f, dp] =>
    some (patCtrlEff s d a v (.line (Fin.ofNat 16 f) (Fin.ofNat 9 dp)) (some (TXD_PRBS_CTRL_GEN_EN f dp)) none, stOk)
  | .FACE_RST, [f] => some (faceRstEff s f v)
  | _, _ => none

/-- Host side, taps, capture and streams: chapters 07 and 09. -/
def writeHost (s : State) (d : RegDesc) (idx : List Nat) (a v : Nat) : Option (State × Nat) :=
  match d.name, idx with
  | .HL_CTRL, [g, l] =>
    let s := plainWrite s d a v
    some (if nbit v 31 then hostStage1 s (8 * g + l) else s, stOk)
  | .HL_PRBS_CTRL, [g, l] =>
    let h := 8 * g + l
    some (patCtrlEff s d a v (.host (Fin.ofNat 256 h)) (some (HL_PRBS_CTRL_GEN_EN h)) (some (HL_PRBS_CTRL_CHK_EN h)), stOk)
  | .PORT_CTRL, [n] => some (portCtrlEff s n v, stOk)
  | .TAP_CTRL, [f] => some (tapCtrlEff s f v, stOk)
  | .TAP_CFG, [f] => some (tapCfgEff s f v)
  | .TAP_NCO, [f] => some (tapRestartEff (plainWrite s d a v) f, stOk)
  | .TAP_COEF, [f, b, i] => some (tapCoefEff s f b i (v % 2 ^ 16))
  | .CAP_CTRL, [c] => some (capCtrlEff s c v)
  | .CAP_CFG, [c] => some (capCfgEff s c v)
  | .CAP_REGION, [c] => some (capRegionEff s c v)
  | .CAP_TRIG, [c] => some (capTrigEff s c v)
  | .STREAM_CREDIT, [i] => some (streamCreditEff s i v)
  | .ARCH_CTRL, _ => some (if nbit v 31 then dropOldestEff s else s, stOk)
  | _, _ => none

/-- Hewers, Foreman, Survey, memory and Tally: chapters 10 and 13 to 17; `zcp` is false for a Hewer's write. -/
def writeCore (s : State) (zcp : Bool) (d : RegDesc) (idx : List Nat) (a v : Nat) : Option (State × Nat) :=
  match d.name, idx with
  | .HW_CTRL, [n] => some (hwCtrlEff s n v, stOk)
  | .HW_WDOG, [n] =>
    let s := plainWrite s d a v
    some (if nbit v 15 then wdogKick s n else s, stOk)
  | .HW_MBOX_IN, [n] =>
    let s := plainWrite s d a v
    some (if zcp then raiseIrq s n 2 else s, stOk)
  | .HW_IRQ, [n] => some (hewerWake (plainWrite s d a v) n, stOk)
  | .HW_OVL_CTRL, [n] => some (ovlCtrlEff s n v)
  | .FM_CHIP_CTRL, _ => some (chipTargetEff s (vf v 30 2))
  | .WAKE_EN, _ => some ((plainWrite s d a v).wr WAKE_EN_EN (Nat.lor (v % 32) 8), stOk)
  | .FM_RAIL, [c] => some (coreRailApply (plainWrite s d a v) c, stOk)
  | .TS_THROTTLE, _ => some (throttleEff s d a v)
  | .FM_BUDGET, _ => some (budgetChange (plainWrite s d a v), stOk)
  | .FM_FACE_BUDGET, _ => some (budgetChange (plainWrite s d a v), stOk)
  | .MADC_CTRL, _ =>
    if nbit v 31 then
      let (s, st) := selfcalEff s
      some (if st = stOk then s.wr MADC_CTRL_SEQ_RUN (v / 2 ^ 30) else s, st)
    else some (plainWrite s d a v, stOk)
  | .MADC_CHSEL, _ => some (if nbit v 31 then madcDirectEff s (v % 128) else (plainWrite s d a v, stOk))
  | .SET_HDR, [q, i] => some (setWriteEff s q i 130 (BitVec.ofNat 32 v))
  | .MEM_FLIP_CTRL, _ => some (memFlipEff s v)
  | .MEM_REGION0, [n] => some (if nbit v 11 then s.wr (MEM_REGION1_COUNT n) 0 else s, stOk)
  | .TALLY_CTRL, _ =>
    let s := plainWrite s d a v
    some (if nbit v 31 then tallyClearEff s else s, stOk)
  | .TALLY_ARCH_SEL, _ => some (archSelEff s v)
  | .HS_CTRL, [n] =>
    let s := plainWrite s d a v
    some (if nbit v 30 then hsRestartEff s n else s, stOk)
  | _, _ => none

/-- Chip control, control ports and time: chapters 02, 11, 12 and 18. -/
def writeChip (s : State) (d : RegDesc) (idx : List Nat) (a v : Nat) : Option (State × Nat) :=
  match d.name, idx with
  | .PLAN_STAGE_PTR, _ => some (stagePtrEff s v)
  | .PLAN_STAGE_DATA, _ => some (stageDataEff s v)
  | .CP_CTRL, [n] =>
    let s := plainWrite s d a v
    let s := if nbit v 30 then s.setReg (CP_ERRS n) 0 else s
    some (if nbit v 31 then cpRestart s n else s, stOk)
  | .WAKE_CODE_LO, _ => some (s.setReg a (BitVec.ofNat 32 v), stOk)
  | .WAKE_CODE_HI, _ => some (s.setReg a (BitVec.ofNat 32 v), stOk)
  | .RST_CTRL, _ => some (rstCtrlEff s v)
  | _, _ => none

/-- A write that reaches a register. -/
def regEffect (s : State) (zcp : Bool) (d : RegDesc) (idx : List Nat) (a v : Nat) : State × Nat :=
  if rejects s d.name idx v then (s, stRange)
  else
    match writeLine s d idx a v with
    | some r => r
    | none => match writeHost s d idx a v with
      | some r => r
      | none => match writeCore s zcp d idx a v with
        | some r => r
        | none => match writeChip s d idx a v with
          | some r => r
          | none => (plainWrite s d a v, stOk)

end Sys2Proof.Machine
end

