-- ==== Sys2Proof/Machine/Bus.lean ====
section
/-!
DEFINITION. Sys2Proof/Machine/Bus.lean: register accesses from sessions and Hewers (R318-R331): the checks in their order, latches,
session-scoped registers, memory-backed words, and the views that registers give of what the part holds elsewhere.
-/
namespace Sys2Proof.Machine
open Sys2Proof

/-- Who sends an access: a ZCP session, a Hewer (R260: each counts as a session), or a register-write command of its own, which
stands for a ZCP write with every privilege and belongs to no session (notes/assumptions/30.md). -/
inductive Agent where
  | session (id : Nat)
  | hewer (n : Nat)
  | direct
  deriving DecidableEq, Repr

def State.hw (s : State) (n : Nat) : HewerX := tabGet {} s.hewers n
def State.setHw (s : State) (n : Nat) (x : HewerX) : State := { s with hewers := tabSet {} s.hewers n x }

/-- Privilege of the agent's session; a Hewer's accesses carry 7, as what the device causes does (R416). -/
def agentPriv (s : State) : Agent → Nat
  | .session id => ((s.session id).map Session.priv).getD 0
  | .hewer _ => 7
  | .direct => 3

/-! ## Checks (R304, R319) -/

/-- The Hewer whose HW_CTRL lies at an address. -/
def hwCtrlOf (a : Nat) : Option Nat := (List.range 18).find? fun n => hwAt n == a

/-- May the agent write at an address (R260, R286, R304)? An RWL register after LIMITS_LOCK passes here and answers LIMIT. -/
def mayWrite (s : State) (ag : Agent) (a : Nat) : Bool :=
  match hwCtrlOf a with
  | some n => decide (n < 16) && (match ag with | .hewer _ => false | _ => decide (3 ≤ agentPriv s ag))
  | none =>
    let least := if a < 0x100000 then 2
      else if !s.on FUSE_STATUS_LIMITS_LOCK && (match descOf a with | some (d, _) => d.flds.any fun f => f.acc == .rwl | none => false) then 2
      else 1
    match ag with
    | .hewer _ => decide (0x100000 ≤ a)
    | _ => decide (least ≤ agentPriv s ag)

/-- The checks of R319 in their order: the status, and the domain's number for R322. -/
def accessCheck (s : State) (ag : Agent) (a : Nat) (write : Bool) : Nat × Nat :=
  if a % 4 ≠ 0 then (stRange, 0)
  else if (domsOf a).isNone then (stRange, 0)
  else if write && !mayWrite s ag a then (stNoAccess, 0)
  else domStatus s a

/-- Number of the agent in the log of R322. -/
def agentKey (s : State) : Agent → Option Nat
  | .session id => (s.session id).map fun x => 1000 + x.num
  | .hewer n => some n
  | .direct => none

/-- What a failed access leaves (R322, R331): the session's diagnostics, and one event for the first in a domain. The order of
the event's arguments is notes/assumptions/10.md. -/
def accessFailed (s : State) (ag : Agent) (a st dom : Nat) : State :=
  let s := match ag with
    | .session id => s.sessUpd id fun x => { x with lastCode := st, fails := satInc 16 x.fails, accAddr := a }
    | .hewer n => s.setHw n { s.hw n with fails := satInc 16 (s.hw n).fails }
    | .direct => s
  if st = stDomainOff ∨ st = stClockOff then
    match agentKey s ag with
    | none => s
    | some k =>
      if s.accLog.any fun e => e.1 == k && e.2 % domInside == dom % domInside then s
      else
        let ev : Ev := match ag with
          | .session _ => { code := 0x0144, kind := 6, index := k - 1000, a0 := a, a1 := st, priv := agentPriv s ag }
          | _ => { code := 0x0144, kind := 5, index := k, a0 := a, a1 := st }
        { logEvent s ev with accLog := s.accLog ++ [(k, dom)] }
  else s

/-- A datapath under a BIST slice: only its status register answers (R393). -/
def bistHides (s : State) (a : Nat) : Bool :=
  if 0x1000000 ≤ a ∧ a < 0x2000000 then
    let f := (a - 0x1000000) / 0x100000
    let o := a % 0x100000
    if o < 0x48000 then s.rd (RXD_STATUS_ROLE f (o / 0x8000)) == 3 && a != RXD_STATUS f (o / 0x8000)
    else if 0x50000 ≤ o ∧ o < 0x74000 then
      let d := (o - 0x50000) / 0x4000
      s.rd (TXD_STATUS_ROLE f d) == 3 && a != TXD_STATUS f d
    else false
  else false

/-! ## Memory-backed words -/

/-- A register address that shows a memory: array, copy, byte, and whether a reader sees a reserved hole. -/
inductive MemPlace where
  | cell (a i b : Nat)
  | hole
  deriving DecidableEq, Repr

/-- The memory behind an address (R112, R117, R124, R258, R379, R417, R163, R164), if it is one. -/
def memPlace (a : Nat) : Option MemPlace :=
  if 0x4000000 ≤ a ∧ a < 0x5200000 then
    let n := (a - 0x4000000) / 0x100000
    let o := a % 0x100000
    some (if o < 0x10000 then .cell 3 n o else if 0x20000 ≤ o ∧ o < 0x40000 then .cell 4 n (o - 0x20000) else .hole)
  else if 0x480000 ≤ a ∧ a < 0x500000 then some (.cell 7 0 (a - 0x480000))
  else if 0x201000 ≤ a ∧ a < 0x2B5000 then
    let o := a - 0x201000
    let q := o / 0x1400
    let i := o % 0x1400 / 0x400
    let w := o % 0x400 / 4
    if w < 130 then some (.cell 9 0 (q * 0x1400 + i * 0x400 + 4 * w)) else none
  else if 0x1000000 ≤ a ∧ a < 0x2000000 then
    let f := (a - 0x1000000) / 0x100000
    let o := a % 0x100000
    if o < 0x48000 then
      let d := o / 0x8000
      let x := o % 0x8000
      if 0x1000 ≤ x ∧ x < 0x2000 then
        let k := x % 0x800 / 4
        some (if k < 258 then .cell 5 f (4 * bankWord d ((x - 0x1000) / 0x800) k) else .hole)
      else if 0x2000 ≤ x ∧ x < 0x3000 then some (if x < 0x2200 then .cell 5 f (4 * tableWord d ((x - 0x2000) / 0x100) (x % 0x100 / 4)) else .hole)
      else if 0x3000 ≤ x ∧ x < 0x4000 then some (if x < 0x3000 + 4 * 258 then .cell 5 f (4 * gradWord d ((x - 0x3000) / 4)) else .hole)
      else none
    else none
  else none

/-- TXD_FIR and TXD_PD words (array 0x06): word in the datapath's words and its Reset column while not valid. -/
def shapePlace (a : Nat) : Option (Nat × Nat × Nat × Nat) :=
  match descOf a with
  | some (d, idx) => match d.name, idx with
    | .TXD_FIR, [f, dp, j] => some (f, dp, 4 + j, if j = 2 then 0x100 else 0)
    | .TXD_PD, [f, dp, i] => some (f, dp, 64 + i, 0)
    | _, _ => none
  | none => none

/-- A write to a memory-backed word; gradient buffers and the event store are read only (R111, R258, R379). -/
def memPlaceWrite (s : State) (addr v : Nat) : MemPlace → State × Nat
  | .hole => (s, stOk)
  | .cell a i b =>
    match a with
    | 3 =>
      if s.rd (HW_STATUS_STATE i) = 3 ∨ s.rd (HW_STATUS_STATE i) = 4 then (memWriteIn s 3 i b (leBytes 4 v), stOk) else (s, stBusy)
    | 4 => (memWriteIn s 4 i b (leBytes 4 v), stOk)
    | 9 => setWriteEff s (b / 0x1400) (b % 0x1400 / 0x400) (b % 0x400 / 4) (BitVec.ofNat 32 v)
    | 5 =>
      let x := addr % 0x100000 % 0x8000
      let d := addr % 0x100000 / 0x8000
      if x < 0x2000 then bankWriteEff s i d ((x - 0x1000) / 0x800) (x % 0x800 / 4) false v
      else if x < 0x2200 then bankWriteEff s i d ((x - 0x2000) / 0x100) (x % 0x100 / 4) true v
      else (s, stOk)
    | _ => (s, stOk)

/-! ## Latches (R328) -/

/-- Two-word values beside the counters: their LO addresses (R328 and the registers' own words). -/
def pairLos : List Nat := [0x8, 0x10, 0x208, 0x100020, 0x400210, 0x600400]

/-- The LO address of the value one of whose words lies at `a`. -/
def pairLo? (a : Nat) : Option Nat :=
  match ctrLo? a with
  | some lo => some lo
  | none => if pairLos.contains (a / 8 * 8) then some (a / 8 * 8) else none

/-- Puts a latch: one for each LO address, at most 16, the oldest discarded. -/
def latchPut (ls : List Latch) (lo : Nat) (hi : Word) : List Latch :=
  let ls := ls.filter (fun l => l.lo != lo) ++ [⟨lo, hi⟩]
  if 16 < ls.length then ls.drop 1 else ls

/-- The latches of an agent. -/
def latchesOf (s : State) : Agent → List Latch
  | .session id => ((s.session id).map Session.latches).getD []
  | .hewer n => (s.hw n).latches
  | .direct => []

def setLatches (s : State) (ag : Agent) (ls : List Latch) : State :=
  match ag with
  | .session id => s.sessUpd id fun x => { x with latches := ls }
  | .hewer n => s.setHw n { s.hw n with latches := ls }
  | .direct => s

/-! ## Session-scoped registers and views -/

/-- The agent's SNAP_SEL (R432). -/
def snapSel (s : State) : Agent → Nat
  | .session id => ((s.session id).map Session.snapSel).getD 0
  | .hewer n => (s.hw n).snapSel
  | .direct => s.rd SNAP_SEL_ADDR

def setSnapSel (s : State) (ag : Agent) (v : Nat) : State :=
  match ag with
  | .session id => s.sessUpd id fun x => { x with snapSel := v % 2 ^ 32 }
  | .hewer n => s.setHw n { s.hw n with snapSel := v % 2 ^ 32 }
  | .direct => s.wr SNAP_SEL_ADDR v

/-- Transmit buffer fill of a port, in 4 KiB units: header 32, payload and tag 16 bytes a message (R291, R295). -/
def bufFill (s : State) (n : Nat) : Nat :=
  min 255 (((s.tx.filter fun m => m.port == n).map fun m => 48 + 4 * m.words.length).sum / 4096)

/-- What a register shows that lies elsewhere in the state; the rest shows its stored word. -/
def regShow (s : State) (ag : Agent) (n : RegId) (idx : List Nat) (w : Word) : Word :=
  match n, idx with
  | .TIME_NOW_LO, _ => BitVec.ofNat 32 s.time
  | .TIME_NOW_HI, _ => BitVec.ofNat 32 (s.time / 2 ^ 32)
  | .ACC_STATUS, _ => match ag with
    | .session id => match s.session id with
      | some x => BitVec.ofNat 32 (x.lastCode % 256 * 2 ^ 24 + x.latches.length * 2 ^ 16 + x.fails)
      | none => w
    | .hewer n => BitVec.ofNat 32 (s.rd (HW_BUS_STATUS_CODE n) * 2 ^ 24 + (s.hw n).latches.length * 2 ^ 16 + (s.hw n).fails)
    | .direct => w
  | .ACC_ADDR, _ => match ag with
    | .session id => match s.session id with
      | some x => BitVec.ofNat 32 x.accAddr
      | none => w
    | .hewer n => s.reg (HW_BUS_ADDR n)
    | .direct => w
  | .TALLY_SUB, _ => match ag with
    | .session id => match s.session id with
      | some x => BitVec.ofNat 32 (bit x.subEn * 2 ^ 31 + x.subDropped)
      | none => w
    | _ => w
  | .SNAP_SEL, _ => BitVec.ofNat 32 (snapSel s ag)
  | .CP_STATUS, [n] => fieldSet (fieldSet w 8 8 (s.sessions.filter fun x => x.port == n).length) 0 8 (bufFill s n)
  | .VAULT_STATUS, _ => fieldSet w 0 6 s.sessions.length
  | .OPT_LANE_B, [f, p] =>
    let t := tabGet 0 (s.face f).checkAt p
    fieldSet w 8 8 (if t = 0 then 0xFF else min 255 ((s.mono + 1 - t) / 1000000))
  | .SEAL_STATUS, [f] =>
    let g := SEAL_STATUS_RELIEF_READY f
    fieldSet w g.lo g.width (bit (reliefReady s f))
  | .SET_HDR, [q, i] => fieldSet w 8 8 (setAgeHours s q i)
  | .AS_RX_DP, [f, d] =>
    let g := AS_RX_DP_AGE f d
    fieldSet w g.lo g.width (assayAge s f 0 d)
  | .AS_TX_DP, [f, d] =>
    let g := AS_TX_DP_AGE f d
    fieldSet w g.lo g.width (assayAge s f 1 d)
  | .BW_CTRL, [n] => if s.on (PORT_CFG_VALID n) && s.rd (PORT_CFG_TYPE n) % 4 != 0 then w else 0
  | .BW_H2L, [n] => if s.on (PORT_CFG_VALID n) && s.rd (PORT_CFG_TYPE n) % 4 != 0 then w else 0
  | .BW_L2H, [n] => if s.on (PORT_CFG_VALID n) && s.rd (PORT_CFG_TYPE n) % 4 != 0 then w else 0
  | .BW_SEQ, [n] => if s.on (PORT_CFG_VALID n) && s.rd (PORT_CFG_TYPE n) % 4 != 0 then w else 0
  | _, _ => w

/-- WO fields read 0 (R20). -/
def hideWo (d : RegDesc) (w : Word) : Word := d.flds.foldl (fun w f => if f.acc == .wo then fieldSet w f.lo f.width 0 else w) w

/-- The live word of a register or counter; a reserved word reads 0 (R319). -/
def liveWord (s : State) (ag : Agent) (a : Nat) : Word :=
  match ctrLo? a with
  | some lo => BitVec.ofNat 32 (if a = lo then s.ctr lo else s.ctr lo / 2 ^ 32)
  | none =>
    match descOf a with
    | some (d, idx) => hideWo d (regShow s ag d.name idx (s.reg a))
    | none => 0

/-- A word of the archive window: the block that TALLY_ARCH_SEL names, in slot order (R425). -/
def archWindow (s : State) (a : Nat) : Word := (tabGet [] s.archive (s.rd TALLY_ARCH_SEL_BLOCK)).getD ((a - 0x47E000) / 4) 0

/-- A word of a Hewer's sample buffer (R434). -/
def hsWord (s : State) (a : Nat) : Word :=
  let o := a - 0x440000
  match (tabGet [] s.hsBuf (o / 0x200))[o % 0x200 / 8]? with
  | some e => BitVec.ofNat 32 (if o % 8 = 0 then e.1 else e.2)
  | none => 0

/-! ## Reads -/

/-- A read that has passed its checks: the state after it, the word and the status. -/
def blockRead (s : State) (ag : Agent) (a : Nat) : State × Word × Nat :=
  if bistHides s a then (s, 0, stOk)
  else if a = SNAP_LO ∨ a = SNAP_HI then
    let sel := snapSel s ag
    let st := (domStatus s sel).1
    let (v, g) := shadowOf s sel
    let s := if a = SNAP_HI then setSnapSel s ag (sel + 8) else s
    if st ≠ stOk then (s, 0, st)
    else (s, BitVec.ofNat 32 (if a = SNAP_LO then v else g % 256 * 2 ^ 24 + v / 2 ^ 32), stOk)
  else if 0x440000 ≤ a ∧ a < 0x442400 then (s, hsWord s a, stOk)
  else if 0x47E000 ≤ a ∧ a < 0x480000 then (s, archWindow s a, stOk)
  else
    match memPlace a with
    | some .hole => (s, 0, stOk)
    | some (.cell m i b) =>
      let (s, v, bad) := memReadIn s m i b 4
      if bad then (s, 0, stPoisoned) else (s, BitVec.ofNat 32 v, stOk)
    | none =>
      match shapePlace a with
      | some (f, dp, w, r) =>
        if (s.tag 6 f (dp * 256 + w)).isNone then (s, BitVec.ofNat 32 r, stOk)
        else
          let (s, v, bad) := memReadIn s 6 f (4 * (dp * 256 + w)) 4
          if bad then (s, 0, stPoisoned) else (s, BitVec.ofNat 32 v, stOk)
      | none =>
        match pairLo? a with
        | none => (s, liveWord s ag a, stOk)
        | some lo =>
          if a = lo then
            let w := liveWord s ag a
            (setLatches s ag (latchPut (latchesOf s ag) lo (liveWord s ag (lo + 4))), w, stOk)
          else
            match (latchesOf s ag).find? fun l => l.lo == lo with
            | some l => (setLatches s ag ((latchesOf s ag).filter fun l => l.lo != lo), l.hi, stOk)
            | none => (s, liveWord s ag a, stOk)

/-- A read (R319, R322, R324, R331): a nonzero status returns the word 0. -/
def busRead (s : State) (ag : Agent) (a : Nat) : State × Word × Nat :=
  let s := accRearm s
  let (st, dom) := accessCheck s ag a false
  if st ≠ stOk then (accessFailed s ag a st dom, 0, st)
  else
    let (s, w, st) := blockRead s ag a
    if st ≠ stOk then (accessFailed s ag a st 0, 0, st) else (s, w, stOk)

/-! ## Writes -/

/-- One word of a performance counter (R430): the other word stays. -/
def ctrWrite (s : State) (a v : Nat) : State :=
  match ctrLo? a with
  | some lo =>
    if 0x410000 ≤ lo ∧ lo < 0x414900 then
      if a = lo then s.setCtr lo (s.ctr lo / 2 ^ 32 * 2 ^ 32 + v % 2 ^ 32) else s.setCtr lo (v % 2 ^ 16 * 2 ^ 32 + s.ctr lo % 2 ^ 32)
    else s
  | none => s

/-- A write that has passed its checks. -/
def blockWrite (s : State) (ag : Agent) (a v : Nat) : State × Nat :=
  if bistHides s a then (s, stBusy)
  else if a = SNAP_SEL then if (ctrOfLo v).isSome then (setSnapSel s ag v, stOk) else (s, stRange)
  else if a = TALLY_SUB then
    match ag with
    | .session id => (s.sessUpd id fun x => { x with subEn := nbit v 31 }, stOk)
    | _ => (s, stOk)
  else
    match memPlace a with
    | some p => memPlaceWrite s a v p
    | none =>
      if (ctrLo? a).isSome then (ctrWrite s a v, stOk)
      else
        match descOf a with
        | some (d, idx) => regEffect s (match ag with | .hewer _ => false | _ => true) d idx a v
        | none => (s, stOk)

/-- A write (R319, R322, R325). -/
def busWrite (s : State) (ag : Agent) (a : Nat) (w : Word) : State × Nat :=
  let s := accRearm s
  let (st, dom) := accessCheck s ag a true
  if st ≠ stOk then (accessFailed s ag a st dom, st)
  else
    let (s, st) := blockWrite s ag a w.toNat
    if st ≠ stOk then (accessFailed s ag a st 0, st) else (s, stOk)

end Sys2Proof.Machine
end

