-- ==== Sys2Proof/Machine/HewerCode.lean ====
section
/-!
DEFINITION. Sys2Proof/Machine/HewerCode.lean: the instructions of a Hewer, their encodings and their decoding (R280, R281).
-/
namespace Sys2Proof.Machine
open Sys2Proof

/-- Operations of ALU3 (R281). SHL, SHR and SRA shift by t [4:0]; the 16-bit pair operations carry their halving bit. -/
inductive AluFn where
  | add | sub | and | or | xor | shl | shr | sra | min | max
  | add16 (half : Bool) | sub16 (half : Bool) | conj | swaph
  deriving DecidableEq, Repr

/-- Multiply-accumulate operations (R281). -/
inductive MacFn where
  | mac2 | cmac | cmacj | cmadd | cmaddj
  deriving DecidableEq, Repr

/-- Access widths of loads and stores (R270): 32, 64, 16 and 8 bits. -/
inductive Width where
  | w | d | h | b
  deriving DecidableEq, Repr

/-- The instructions of R281. A 6-bit register field selects X0-X31, then W0-W31 (R280). Signed fields are kept as their bits. -/
inductive HInstr where
  | alu (fn : AluFn) (sat : Bool) (d u v : Fin 64)
  | addi (d u : Fin 64) (imm : BitVec 12)
  | movi (d : Fin 64) (imm : BitVec 18)
  | movhi (d : Fin 64) (imm : BitVec 18)
  | cmp (u v : Fin 64)
  | exp (d u : Fin 64)
  | expm (d u v : Fin 64)
  | hist (sat : Bool) (d u v : Fin 64)
  | mfs (d : Fin 64) (idx : BitVec 12)
  | mts (u : Fin 64) (idx : BitVec 12)
  | mac (fn : MacFn) (sat : Bool) (a : Fin 4) (u v w : Fin 64) (neg : Bool)
  | aset (a : Fin 4) (u : Fin 64)
  | aclr (a : Fin 4)
  | ashr (sat : Bool) (a : Fin 4) (sh : BitVec 6)
  | extr (sat : Bool) (d : Fin 64) (a : Fin 4) (sh : BitVec 6)
  | norm (d : Fin 64) (a : Fin 4)
  | load (k : Width) (d : Fin 64) (p : Fin 8) (upd : Fin 4) (off : BitVec 13)
  | store (k : Width) (d : Fin 64) (p : Fin 8) (upd : Fin 4) (off : BitVec 13)
  | setp (sel : Fin 24) (u : Fin 64)
  | getp (d : Fin 64) (sel : Fin 24)
  | paddi (p : Fin 8) (imm : BitVec 12)
  | br (off : BitVec 24)
  | bcc (cond : Fin 6) (off : BitVec 20)
  | call (off : BitVec 24)
  | jr (u : Fin 64)
  | loop (rot : Bool) (l : Fin 2) (u : Fin 64) (off : BitVec 16)
  | reti | nop | wait | ei | di | sync | trap | bkpt
  deriving DecidableEq, Repr

/-- FN of ALU3 (R281). -/
def AluFn.code : AluFn → Nat
  | .add => 0x01 | .sub => 0x02 | .and => 0x03 | .or => 0x04 | .xor => 0x05 | .shl => 0x06 | .shr => 0x07 | .sra => 0x08
  | .min => 0x09 | .max => 0x0A | .add16 h => 0x10 + 0x20 * bit h | .sub16 h => 0x11 + 0x20 * bit h | .conj => 0x12 | .swaph => 0x13

/-- The function that FN names; a value not listed has none (R281). -/
def AluFn.ofCode : Nat → Option AluFn
  | 0x01 => some .add | 0x02 => some .sub | 0x03 => some .and | 0x04 => some .or | 0x05 => some .xor | 0x06 => some .shl
  | 0x07 => some .shr | 0x08 => some .sra | 0x09 => some .min | 0x0A => some .max
  | 0x10 => some (.add16 false) | 0x30 => some (.add16 true) | 0x11 => some (.sub16 false) | 0x31 => some (.sub16 true)
  | 0x12 => some .conj | 0x13 => some .swaph
  | _ => none

def MacFn.code : MacFn → Nat
  | .mac2 => 0x10 | .cmac => 0x11 | .cmacj => 0x12 | .cmadd => 0x13 | .cmaddj => 0x14

def Width.code : Width → Nat
  | .w => 0 | .d => 1 | .h => 2 | .b => 3

/-- Bytes of an access (R270). -/
def Width.bytes : Width → Nat
  | .w => 4 | .d => 8 | .h => 2 | .b => 1

/-- Major opcode (R281). -/
def HInstr.opcode : HInstr → Nat
  | .alu .. => 0x00 | .addi .. => 0x01 | .movi .. => 0x02 | .movhi .. => 0x03 | .cmp .. => 0x04 | .exp .. => 0x05
  | .expm .. => 0x06 | .hist .. => 0x07 | .mfs .. => 0x08 | .mts .. => 0x09
  | .mac fn .. => fn.code | .aset .. => 0x15 | .aclr .. => 0x16 | .ashr .. => 0x17 | .extr .. => 0x18 | .norm .. => 0x19
  | .load k .. => 0x20 + k.code | .store k .. => 0x24 + k.code | .setp .. => 0x28 | .getp .. => 0x29 | .paddi .. => 0x2A
  | .br .. => 0x30 | .bcc .. => 0x31 | .call .. => 0x32 | .jr .. => 0x33 | .loop rot .. => if rot then 0x35 else 0x34
  | .reti => 0x36 | .nop => 0x38 | .wait => 0x39 | .ei => 0x3A | .di => 0x3B | .sync => 0x3C | .trap => 0x3D | .bkpt => 0x3E

/-- S, bit 25, where the instruction has it (R280). -/
def HInstr.sat : HInstr → Bool
  | .alu _ b .. => b | .hist b .. => b | .mac _ b .. => b | .ashr b .. => b | .extr b .. => b
  | _ => false

/-- Bits [23:0] of the encoding (R280). -/
def HInstr.low : HInstr → Nat
  | .alu fn _ d u v => d.val * 2 ^ 18 + u.val * 2 ^ 12 + v.val * 2 ^ 6 + fn.code
  | .addi d u imm => d.val * 2 ^ 18 + u.val * 2 ^ 12 + imm.toNat
  | .movi d imm => d.val * 2 ^ 18 + imm.toNat
  | .movhi d imm => d.val * 2 ^ 18 + imm.toNat
  | .cmp u v => u.val * 2 ^ 12 + v.val * 2 ^ 6
  | .exp d u => d.val * 2 ^ 18 + u.val * 2 ^ 12
  | .expm d u v => d.val * 2 ^ 18 + u.val * 2 ^ 12 + v.val * 2 ^ 6
  | .hist _ d u v => d.val * 2 ^ 18 + u.val * 2 ^ 12 + v.val * 2 ^ 6
  | .mfs d idx => d.val * 2 ^ 18 + idx.toNat
  | .mts u idx => u.val * 2 ^ 12 + idx.toNat
  | .mac _ _ a u v w neg => a.val * 2 ^ 22 + u.val * 2 ^ 16 + v.val * 2 ^ 10 + w.val * 2 ^ 4 + bit neg * 2 ^ 3
  | .aset a u => a.val * 2 ^ 22 + u.val * 2 ^ 16
  | .aclr a => a.val * 2 ^ 22
  | .ashr _ a sh => a.val * 2 ^ 16 + sh.toNat * 2 ^ 10
  | .extr _ d a sh => d.val * 2 ^ 18 + a.val * 2 ^ 16 + sh.toNat * 2 ^ 10
  | .norm d a => d.val * 2 ^ 18 + a.val * 2 ^ 16
  | .load _ d p upd off => d.val * 2 ^ 18 + p.val * 2 ^ 15 + upd.val * 2 ^ 13 + off.toNat
  | .store _ d p upd off => d.val * 2 ^ 18 + p.val * 2 ^ 15 + upd.val * 2 ^ 13 + off.toNat
  | .setp sel u => sel.val * 2 ^ 18 + u.val * 2 ^ 12
  | .getp d sel => d.val * 2 ^ 18 + sel.val * 2 ^ 12
  | .paddi p imm => p.val * 2 ^ 18 + imm.toNat
  | .br off => off.toNat
  | .bcc c off => c.val * 2 ^ 20 + off.toNat
  | .call off => off.toNat
  | .jr u => u.val * 2 ^ 12
  | .loop _ l u off => l.val * 2 ^ 23 + u.val * 2 ^ 16 + off.toNat
  | _ => 0

/-- The encoding, with the pair bit P (R280). -/
def HInstr.encode (i : HInstr) (pair : Bool) : Nat :=
  i.opcode * 2 ^ 26 + bit i.sat * 2 ^ 25 + bit pair * 2 ^ 24 + i.low

/-- A register field at bit `lo`. -/
def regAt (x lo : Nat) : Fin 64 := ⟨x / 2 ^ lo % 64, Nat.mod_lt _ (by decide)⟩

/-- `n` bits from `lo` on. -/
def bitsAt (x lo n : Nat) : BitVec n := BitVec.ofNat n (x / 2 ^ lo)

def accAt (x lo : Nat) : Fin 4 := ⟨x / 2 ^ lo % 4, Nat.mod_lt _ (by decide)⟩

/-- A pointer selector 0-23; the values above have no register, which is ILLEGAL (R281, DEDUCED, notes/assumptions/29.md). -/
def selOf (x : Nat) (k : Fin 24 → HInstr) : Option HInstr := if h : x < 24 then some (k ⟨x, h⟩) else none

/-- The load or store of a width; a 64-bit access names an even register (R281; odd ones are ILLEGAL, notes/assumptions/29.md). -/
def memOf (store : Bool) (k : Width) (x : Nat) : Option HInstr :=
  let d := regAt x 18
  if k = .d ∧ d.val % 2 = 1 then none
  else
    let p : Fin 8 := ⟨x / 2 ^ 15 % 8, Nat.mod_lt _ (by decide)⟩
    let u : Fin 4 := accAt x 13
    some (if store then .store k d p u (bitsAt x 0 13) else .load k d p u (bitsAt x 0 13))

/-- The instruction that a word encodes, P apart; none is ILLEGAL (R280, R281). Bits that a format leaves unused are not
looked at (notes/assumptions/29.md). -/
def HInstr.decode (x : Nat) : Option HInstr :=
  let sat := nbit x 25
  let d := regAt x 18
  let u := regAt x 12
  let v := regAt x 6
  let mac := fun fn => some (HInstr.mac fn sat (accAt x 22) (regAt x 16) (regAt x 10) (regAt x 4) (nbit x 3))
  let lp := fun rot => some (HInstr.loop rot ⟨x / 2 ^ 23 % 2, Nat.mod_lt _ (by decide)⟩ (regAt x 16) (bitsAt x 0 16))
  match x / 2 ^ 26 % 64 with
  | 0x00 => (AluFn.ofCode (x % 64)).map fun fn => .alu fn sat d u v
  | 0x01 => some (.addi d u (bitsAt x 0 12))
  | 0x02 => some (.movi d (bitsAt x 0 18))
  | 0x03 => some (.movhi d (bitsAt x 0 18))
  | 0x04 => some (.cmp u v)
  | 0x05 => some (.exp d u)
  | 0x06 => some (.expm d u v)
  | 0x07 => some (.hist sat d u v)
  | 0x08 => some (.mfs d (bitsAt x 0 12))
  | 0x09 => some (.mts u (bitsAt x 0 12))
  | 0x10 => mac .mac2
  | 0x11 => mac .cmac
  | 0x12 => mac .cmacj
  | 0x13 => mac .cmadd
  | 0x14 => mac .cmaddj
  | 0x15 => some (.aset (accAt x 22) (regAt x 16))
  | 0x16 => some (.aclr (accAt x 22))
  | 0x17 => some (.ashr sat (accAt x 16) (bitsAt x 10 6))
  | 0x18 => some (.extr sat d (accAt x 16) (bitsAt x 10 6))
  | 0x19 => some (.norm d (accAt x 16))
  | 0x20 => memOf false .w x
  | 0x21 => memOf false .d x
  | 0x22 => memOf false .h x
  | 0x23 => memOf false .b x
  | 0x24 => memOf true .w x
  | 0x25 => memOf true .d x
  | 0x26 => memOf true .h x
  | 0x27 => memOf true .b x
  | 0x28 => selOf d.val fun sel => .setp sel u
  | 0x29 => selOf u.val fun sel => .getp d sel
  | 0x2A => some (.paddi ⟨d.val % 8, Nat.mod_lt _ (by decide)⟩ (bitsAt x 0 12))
  | 0x30 => some (.br (bitsAt x 0 24))
  | 0x31 => if h : x / 2 ^ 20 % 16 < 6 then some (.bcc ⟨x / 2 ^ 20 % 16, h⟩ (bitsAt x 0 20)) else none
  | 0x32 => some (.call (bitsAt x 0 24))
  | 0x33 => some (.jr u)
  | 0x34 => lp false
  | 0x35 => lp true
  | 0x36 => some .reti
  | 0x38 => some .nop
  | 0x39 => some .wait
  | 0x3A => some .ei
  | 0x3B => some .di
  | 0x3C => some .sync
  | 0x3D => some .trap
  | 0x3E => some .bkpt
  | _ => none

/-- P, bit 24 (R274, R280). -/
def pairBit (x : Nat) : Bool := nbit x 24

/-- ALU and MAC groups, 0x00-0x1F (R274). -/
def HInstr.arith (i : HInstr) : Bool := decide (i.opcode < 0x20)

/-- Load, store and address groups, 0x20-0x2F (R274). -/
def HInstr.memGroup (i : HInstr) : Bool := decide (0x20 ≤ i.opcode) && decide (i.opcode < 0x30)

/-- MAC group, 0x10-0x1F (R429). -/
def HInstr.macGroup (i : HInstr) : Bool := decide (0x10 ≤ i.opcode) && decide (i.opcode < 0x20)

/-- The X and W registers that an instruction writes (R274). -/
def HInstr.dests : HInstr → List Nat
  | .alu _ _ d _ _ => [d.val] | .addi d _ _ => [d.val] | .movi d _ => [d.val] | .movhi d _ => [d.val] | .exp d _ => [d.val]
  | .expm d _ _ => [d.val] | .hist _ d _ _ => [d.val] | .mfs d _ => [d.val] | .extr _ d _ _ => [d.val] | .norm d _ => [d.val]
  | .load k d _ _ _ => if k = .d then [d.val, d.val + 1] else [d.val]
  | .getp d _ => [d.val]
  | _ => []

end Sys2Proof.Machine
end

