-- ==== Sys2Proof/Machine/Hewer.lean ====
section
/-!
DEFINITION. Sys2Proof/Machine/Hewer.lean: what a Hewer's instructions do (R259-R287): arithmetic, addressing, loops, pairs, bus
accesses and traps.
-/
namespace Sys2Proof.Machine
open Sys2Proof

/-! ## Registers (R261, R273, R280) -/

/-- Wn names the physical register (n + RRB) mod 32 (R273). -/
def wPhys (x : HewerX) (n : Nat) : Nat := (n + x.rrb) % 32

/-- The register that a 6-bit field selects (R280). -/
def hGet (x : HewerX) (r : Nat) : Nat := if r < 32 then tabGet 0 x.x r else tabGet 0 x.w (wPhys x (r - 32))

/-- Sets it; `names` is the file that names W registers (in a pair both instructions name them before either writes; R274). -/
def hPut (names x : HewerX) (r v : Nat) : HewerX :=
  if r < 32 then { x with x := tabSet 0 x.x r (v % 2 ^ 32) } else { x with w := tabSet 0 x.w (wPhys names (r - 32)) (v % 2 ^ 32) }

/-- Bits of HSR (R261). -/
abbrev hsrIE : Nat := 31
abbrev hsrINT : Nat := 30
abbrev hsrBERR : Nat := 11
abbrev hsrPSN : Nat := 10
abbrev hsrCBF : Nat := 9
abbrev hsrSOV : Nat := 8
abbrev hsrAWRAP : Nat := 7
abbrev hsrAOV : Nat := 6

/-- The sticky bits, 11 to 6 (R261). -/
def hsrSticky : Nat := 0xFC0

/-- Sets a bit when a condition holds; sticky bits are set so. -/
def hFlag (x : HewerX) (b : Nat) (c : Bool) : HewerX := if c then { x with hsr := nbitSet x.hsr b true } else x

/-! ## Arithmetic (R263-R269) -/

/-- Real half of a complex word. -/
def cRe (v : Nat) : Int := sext 16 v
/-- Imaginary half. -/
def cIm (v : Nat) : Int := sext 16 (v / 2 ^ 16)
/-- A complex word. -/
def cWord (re im : Int) : Nat := twos 16 re + twos 16 im * 2 ^ 16

/-- A 16-bit result: saturated or wrapped, and whether it fitted (R266, R267). -/
def fit16 (sat : Bool) (v : Int) : Int × Bool :=
  if -32768 ≤ v ∧ v ≤ 32767 then (v, true) else (if sat then clampI (-32768) 32767 v else sext 16 (twos 16 v), false)

/-- A 40-bit half after a sum: its value, whether it overflowed and whether it wrapped (R265). -/
def fit40 (sat : Bool) (v : Int) : Int × Bool × Bool :=
  if -(2 ^ 39) ≤ v ∧ v < 2 ^ 39 then (v, false, false)
  else if sat then (clampI (-(2 ^ 39)) (2 ^ 39 - 1) v, true, false)
  else (sext 40 (twos 40 v), true, true)

/-- Bits below the sign bit that equal it, for a `w`-bit value (R268): a zero has the most. -/
def rsb (w x : Nat) : Nat :=
  let sgn := nbit x (w - 1)
  match (List.range (w - 1)).find? fun i => nbit x (w - 2 - i) != sgn with
  | some i => i
  | none => w - 1

/-- EXP of a word (R268). -/
def exp16 (v : Nat) : Nat := min (rsb 16 (v % 2 ^ 16)) (rsb 16 (v / 2 ^ 16))

/-- v ÷ 2^k to nearest, ties to even; v·2^−k when k is negative (R266). -/
def shiftRound (v : Int) (k : Int) : Int := if 0 ≤ k then roundDiv v (2 ^ k.toNat) else v * 2 ^ (-k).toNat

/-- One half of ADD16x2 or SUB16x2 (R267). -/
def pack16 (half sat : Bool) (v : Int) : Int × Bool := fit16 sat (if half then roundDiv v 2 else v)

/-- The result of an ALU3 operation and whether a 16-bit half did not fit (R267, R281). The 32-bit operations wrap silently. CONJ of
an imaginary half of −32,768 has no stated result: `free` (notes/assumptions/4.md). -/
def aluOp (fn : AluFn) (sat : Bool) (a b free : Nat) : Nat × Bool :=
  let k := b % 32
  let pair := fun (half : Bool) (g : Int → Int → Int) =>
    let r := pack16 half sat (g (cRe a) (cRe b))
    let i := pack16 half sat (g (cIm a) (cIm b))
    (cWord r.1 i.1, !r.2 || !i.2)
  match fn with
  | .add => ((a + b) % 2 ^ 32, false)
  | .sub => ((a + 2 ^ 32 - b) % 2 ^ 32, false)
  | .and => (Nat.land a b, false)
  | .or => (Nat.lor a b, false)
  | .xor => (Nat.xor a b, false)
  | .shl => (a * 2 ^ k % 2 ^ 32, false)
  | .shr => (a / 2 ^ k, false)
  | .sra => (twos 32 (sext 32 a / 2 ^ k), false)
  | .min => (if sext 32 a ≤ sext 32 b then a else b, false)
  | .max => (if sext 32 a ≤ sext 32 b then b else a, false)
  | .add16 half => pair half fun x y => x + y
  | .sub16 half => pair half fun x y => x - y
  | .conj => (a % 2 ^ 16 + (if a / 2 ^ 16 = 0x8000 then free % 2 ^ 16 else twos 16 (-cIm a)) * 2 ^ 16, false)
  | .swaph => (a / 2 ^ 16 + a % 2 ^ 16 * 2 ^ 16, false)

/-- Does the operation have no stated result on these operands? -/
def aluOpen (fn : AluFn) (a : Nat) : Bool := fn == .conj && a / 2 ^ 16 == 0x8000

/-- HIST (R269): counts four signed samples of `u` against the thresholds of `v` into the bytes of `d`. -/
def histOp (sat : Bool) (d u v : Nat) : Nat × Bool :=
  let byte := fun (x i : Nat) => x / 2 ^ (8 * i) % 256
  let lvl := fun (x : Int) => if x < sext 8 (byte v 0) then 0 else if x < sext 8 (byte v 1) then 1 else if x < sext 8 (byte v 2) then 2 else 3
  let n := fun j => ((List.range 4).filter fun i => lvl (sext 8 (byte u i)) == j).length
  let out := (List.range 4).map fun j => byte d j + n j
  (leNat (out.map fun x => if x ≤ 255 then x else if sat then 255 else x % 256), out.any fun x => decide (255 < x))

/-- The exact values that a multiply adds to the two halves (R264). -/
def macProd (fn : MacFn) (u v : Nat) : Int × Int :=
  match fn with
  | .mac2 => (cRe u * cRe v, cIm u * cIm v)
  | .cmac => (cRe u * cRe v - cIm u * cIm v, cRe u * cIm v + cIm u * cRe v)
  | .cmadd => (cRe u * cRe v - cIm u * cIm v, cRe u * cIm v + cIm u * cRe v)
  | .cmacj => (cRe u * cRe v + cIm u * cIm v, cRe u * cIm v - cIm u * cRe v)
  | .cmaddj => (cRe u * cRe v + cIm u * cIm v, cRe u * cIm v - cIm u * cRe v)

/-- Does the operation start from u·2^15 instead of the accumulator (R281)? -/
def macLoads : MacFn → Bool
  | .cmadd => true | .cmaddj => true | _ => false

/-- Puts both halves of an accumulator by R265. -/
def accPut (x : HewerX) (sat : Bool) (a : Nat) (re im : Int) : HewerX :=
  let r := fit40 sat re
  let i := fit40 sat im
  let x : HewerX := { x with acc := tabSet 0 (tabSet 0 x.acc (2 * a) r.1) (2 * a + 1) i.1 }
  hFlag (hFlag x hsrAOV (r.2.1 || i.2.1)) hsrAWRAP (r.2.2 || i.2.2)

/-! ## Special registers (R262) -/

/-- Is an index in the table? -/
def specialOk (i : Nat) : Bool := decide (i ≤ 0x0C) || (decide (0x20 ≤ i) && decide (i < 0x30))

/-- MFS: the value, and the Hewer after the read; `time` is device time, `free` the stall cycles that the model does not count
(notes/assumptions/31.md). -/
def specialGet (x y : HewerX) (time free i : Nat) : Nat × HewerX :=
  match i with
  | 0x00 => (x.hsr, y)
  | 0x01 => (x.ipc, y)
  | 0x02 => (x.ihsr, y)
  | 0x03 => (x.rrb, y)
  | 0x04 => (tabGet 0 x.lc 0, y)
  | 0x05 => (tabGet 0 x.ls 0, y)
  | 0x06 => (tabGet 0 x.le 0, y)
  | 0x07 => (tabGet 0 x.lc 1, y)
  | 0x08 => (tabGet 0 x.ls 1, y)
  | 0x09 => (tabGet 0 x.le 1, y)
  | 0x0A => (time % 2 ^ 32, { y with timeHi := time / 2 ^ 32 % 2 ^ 32 })
  | 0x0B => (x.timeHi, y)
  | 0x0C => let c := (x.cycles + free) % 2 ^ 32; (c, { y with cycles := c })
  | _ =>
    let h := (i - 0x20) / 2
    let v := twos 40 (tabGet 0 x.acc h)
    (if i % 2 = 0 then v % 2 ^ 32 else twos 32 (sext 8 (v / 2 ^ 32)), y)

/-- A write to HSR (R261, R262): IE, Z, LT and LTU take the value, INT stays, a sticky bit stays only where 1 is written. -/
def hsrWrite (old v : Nat) : Nat :=
  Nat.land v 0x80000007 + Nat.land old (2 ^ hsrINT) + Nat.land (Nat.land old v) hsrSticky

/-- MTS (R262); the read-only registers ignore it. -/
def specialPut (x y : HewerX) (i v : Nat) : HewerX :=
  match i with
  | 0x00 => { y with hsr := hsrWrite x.hsr v }
  | 0x01 => { y with ipc := v % 2 ^ 16 }
  | 0x02 => { y with ihsr := v % 2 ^ 32 }
  | 0x03 => { y with rrb := v % 32 }
  | 0x04 => { y with lc := tabSet 0 y.lc 0 (v % 2 ^ 16) }
  | 0x05 => { y with ls := tabSet 0 y.ls 0 (v % 2 ^ 16) }
  | 0x06 => { y with le := tabSet 0 y.le 0 (v % 2 ^ 16) }
  | 0x07 => { y with lc := tabSet 0 y.lc 1 (v % 2 ^ 16) }
  | 0x08 => { y with ls := tabSet 0 y.ls 1 (v % 2 ^ 16) }
  | 0x09 => { y with le := tabSet 0 y.le 1 (v % 2 ^ 16) }
  | 0x0A => y
  | 0x0B => y
  | 0x0C => y
  | _ =>
    let h := (i - 0x20) / 2
    let old := twos 40 (tabGet 0 x.acc h)
    let n := if i % 2 = 0 then old / 2 ^ 32 * 2 ^ 32 + v % 2 ^ 32 else v % 2 ^ 8 * 2 ^ 32 + old % 2 ^ 32
    { y with acc := tabSet 0 y.acc h (sext 40 n) }

/-! ## Pointers (R270, R271) -/

def hP (x : HewerX) (n : Nat) : Nat := tabGet 0 x.ptr n
def hM (x : HewerX) (n : Nat) : Nat := tabGet 0 x.ptr (8 + n)
def hK (x : HewerX) (n : Nat) : Nat := tabGet 0 x.ptr (16 + n)

/-- Folds a value into Pn's circular buffer: the value and the lengths folded (R270). A linear pointer wraps at 32 bits. -/
def hFold (x : HewerX) (n : Nat) (v : Int) : Nat × Nat :=
  let m := hM x n
  if m = 0 then (twos 32 v, 0)
  else
    let q := (v - hK x n) / (m : Int)
    (twos 32 (v - q * m), q.natAbs)

/-- What an access of `bytes` bytes through Pn uses and leaves: the address, the pointer after it and whether CBF is set. A
pointer whose Mn or Kn was written is folded first (R271); only the forms that use Pn + off fold the address (R280). -/
def hAddr (x : HewerX) (n upd : Nat) (off : Int) (bytes : Nat) : Nat × Nat × Bool :=
  let pre : Nat × Nat := if nbit x.resized n then hFold x n (hP x n : Int) else (hP x n, 0)
  let p : Int := (pre.1 : Int)
  let addr : Nat × Nat := if upd = 3 then (pre.1, 0) else hFold x n (p + off)
  let next : Nat × Nat := match upd with
    | 0 => (pre.1, 0)
    | 1 => hFold x n (p + bytes)
    | 2 => hFold x n (p - bytes)
    | _ => hFold x n (p + off)
  (addr.1, next.1, decide (1 ≤ pre.2) || decide (1 < addr.2) || decide (1 < next.2))

/-- Leaves the pointer after an access. -/
def hAfter (x : HewerX) (n : Nat) (a : Nat × Nat × Bool) : HewerX :=
  hFlag { x with ptr := tabSet 0 x.ptr n a.2.1, resized := nbitSet x.resized n false } hsrCBF a.2.2

/-! ## Where an address leads (R259) -/

inductive HPlace where
  | data (b : Nat)
  | near (dev : Nat)
  | far (dev : Nat)
  deriving DecidableEq, Repr

/-- Base of a Hewer's near window (R259). -/
def nearBase (n : Nat) : Nat := if n < 16 then faceAt n 0 else if n = 16 then 0x200000 else 0x100000

def hPlace (n a : Nat) : Option HPlace :=
  if a < 0x20000 then some (.data a)
  else if 0x100000 ≤ a ∧ a < 0x200000 then some (.near (nearBase n + (a - 0x100000)))
  else if 0x40000000 ≤ a ∧ a < 0x48000000 then some (.far (a - 0x40000000))
  else none

/-! ## Bus accesses (R260, R327) -/

/-- A bus access completed with a nonzero status (R260). -/
def hBusErr (s : State) (n st dev : Nat) : State :=
  if st = stOk then s
  else
    let s := s.setHw n (hFlag (s.hw n) hsrBERR true)
    pcCount (s.wrs [(HW_BUS_STATUS_CODE n, st), (HW_BUS_ADDR_ADDR n, dev)]) (48 + n) 8 15 1

/-- A device word. -/
def hDevRead (s : State) (n dev : Nat) : State × Nat :=
  let (s, w, st) := busRead s (.hewer n) dev
  (hBusErr s n st dev, w.toNat)

/-- A load of `k` from an address: the state and the bits loaded (R259, R279, R327). -/
def hLoad (s : State) (n : Nat) (k : Width) : HPlace → State × Nat
  | .data b =>
    let (s, v, bad) := memReadIn s 4 n b k.bytes
    if bad then (s.setHw n (hFlag (s.hw n) hsrPSN true), 0) else (s, v)
  | .near dev => dev' s dev
  | .far dev => dev' s dev
where
  dev' (s : State) (dev : Nat) : State × Nat :=
    match k with
    | .w => hDevRead s n dev
    | .d =>
      let (s, lo) := hDevRead s n dev
      let (s, hi) := hDevRead s n (dev + 4)
      (s, lo + hi * 2 ^ 32)
    | .h =>
      let (s, v) := hDevRead s n (dev / 4 * 4)
      (s, v / 2 ^ (8 * (dev % 4)) % 2 ^ 16)
    | .b =>
      let (s, v) := hDevRead s n (dev / 4 * 4)
      (s, v / 2 ^ (8 * (dev % 4)) % 2 ^ 8)

/-- A far-window write: a face Hewer's completes with NO_ACCESS (R260). -/
def hFarWrite (s : State) (n dev v : Nat) : State :=
  if n < 16 then
    let st := if (domsOf dev).isNone then stRange else stNoAccess
    hBusErr (accessFailed s (.hewer n) dev st 0) n st dev
  else
    let (s, st) := busWrite s (.hewer n) dev (BitVec.ofNat 32 v)
    hBusErr s n st dev

/-- A near-window write is posted: it reaches its register in program order, and its status returns later (R260). -/
def hNearWrite (s : State) (n dev v : Nat) : State :=
  let (s, st) := busWrite s (.hewer n) dev (BitVec.ofNat 32 v)
  s.setHw n { s.hw n with posted := (s.hw n).posted ++ [(st, dev)] }

/-- A store (R259, R260, R327): 16-bit and 8-bit stores to a device register complete with RANGE. -/
def hStore (s : State) (n : Nat) (k : Width) (v : Nat) : HPlace → State
  | .data b => memWriteIn s 4 n b (leBytes k.bytes v)
  | .near dev => match k with
    | .w => hNearWrite s n dev v
    | .d => hNearWrite (hNearWrite s n dev (v % 2 ^ 32)) n (dev + 4) (v / 2 ^ 32)
    | _ => hBusErr (accessFailed s (.hewer n) dev stRange 0) n stRange dev
  | .far dev => match k with
    | .w => hFarWrite s n dev v
    | .d => hFarWrite (hFarWrite s n dev (v % 2 ^ 32)) n (dev + 4) (v / 2 ^ 32)
    | _ => hBusErr (accessFailed s (.hewer n) dev stRange 0) n stRange dev

/-- The status of the oldest posted write returns (R260). -/
def postedReturn (s : State) (n : Nat) : State :=
  match (s.hw n).posted with
  | [] => s
  | (st, dev) :: r => hBusErr (s.setHw n { s.hw n with posted := r }) n st dev

/-- SYNC: every posted write has completed (R281). -/
def postedDrain (s : State) (n : Nat) : State := (s.hw n).posted.foldl (fun t _ => postedReturn t n) s

/-! ## One instruction -/

/-- Trap causes (R278). -/
abbrev tIllegal : Nat := 1
abbrev tMisaligned : Nat := 2
abbrev tDataRange : Nat := 3
abbrev tFetchUe : Nat := 4
abbrev tWatchdog : Nat := 5
abbrev tTrap : Nat := 6
abbrev tBkpt : Nat := 7
abbrev tPair : Nat := 8
abbrev tLoop : Nat := 9

/-- What an instruction comes to: it goes on to the next, it jumps, or it traps. -/
inductive HRes where
  | seq (s : State)
  | jump (s : State) (pc : Nat)
  | trap (cause : Nat)
  deriving DecidableEq, Repr

/-- Active loops that end at an address (R272). -/
def loopEndsAt (x : HewerX) (l pc : Nat) : Bool := tabGet 0 x.lc l != 0 && tabGet 0 x.le l == pc

/-- A branch, LOOP, LOOPR or RETI at LEn of an active loop (R272). -/
def atLoopEnd (x : HewerX) (pc : Nat) : Bool := loopEndsAt x 0 pc || loopEndsAt x 1 pc

/-- LOOP and LOOPR (R272, R273). -/
def hLoopStart (x : HewerX) (rot : Bool) (l count off pc : Nat) : HewerX × Option Nat :=
  let ls := (pc + 4) % 2 ^ 16
  let le := (pc + 4 + 4 * off) % 2 ^ 16
  let o := 1 - l
  let nests := if l = 1 then decide (tabGet 0 x.ls 0 ≤ ls) && decide (le ≤ tabGet 0 x.le 0)
    else decide (ls ≤ tabGet 0 x.ls 1) && decide (tabGet 0 x.le 1 ≤ le)
  let x' : HewerX := { x with lc := tabSet 0 x.lc l count, ls := tabSet 0 x.ls l ls, le := tabSet 0 x.le l le, rot := tabSet false x.rot l rot }
  if 65535 < count ∨ tabGet 0 x.lc l ≠ 0 ∨ (count ≠ 0 ∧ tabGet 0 x.lc o ≠ 0 ∧ !nests) then (x, none)
  else (x', some (if count = 0 then (le + 4) % 2 ^ 16 else ls))

/-- Branch target: words from the next instruction on (DEDUCED from R272; notes/assumptions/29.md). -/
def hTarget (pc : Nat) (off : Int) : Nat := twos 16 ((pc : Int) + 4 + 4 * off) / 4 * 4

/-- Conditions of BCC (R281) on Z, LT, LTU. -/
def condHolds (hsr c : Nat) : Bool :=
  match c with
  | 0 => nbit hsr 2 | 1 => !nbit hsr 2 | 2 => nbit hsr 1 | 3 => !nbit hsr 1 | 4 => nbit hsr 0 | _ => !nbit hsr 0

/-- CMP (R281). -/
def cmpFlags (hsr a b : Nat) : Nat := hsr / 8 * 8 + 4 * bit (a == b) + 2 * bit (decide (sext 32 a < sext 32 b)) + bit (decide (a < b))

/-- HSR after RETI (R277). -/
def retiHsr (hsr ihsr : Nat) : Nat := Nat.land ihsr 0xC0000007 + Nat.land (Nat.lor hsr ihsr) hsrSticky

/-- Sets a register of Hewer `n` in `dst`, named as `x` names it. -/
def hOut (dst : State) (n : Nat) (x : HewerX) (r v : Nat) : State := dst.setHw n (hPut x (dst.hw n) r v)

/-- One instruction at `pc`: operands come from `src`, results go into `dst` (R274: in a pair both read before either writes). -/
def hExec (src dst : State) (n : Nat) (i : HInstr) (pc : Nat) : HRes :=
  let x := src.hw n
  let g := fun (r : Fin 64) => hGet x r.val
  let put := fun (r : Fin 64) v => HRes.seq (hOut dst n x r.val v)
  match i with
  | .alu fn sat d u v =>
    let dst := if aluOpen fn (g u) then dst.tookFree else dst
    let r := aluOp fn sat (g u) (g v) src.freeVal
    .seq (dst.setHw n (hFlag (hPut x (dst.hw n) d.val r.1) hsrSOV r.2))
  | .addi d u imm => put d (twos 32 ((g u : Int) + sext 12 imm.toNat))
  | .movi d imm => put d (twos 32 (sext 18 imm.toNat))
  | .movhi d imm => put d (imm.toNat % 2 ^ 16 * 2 ^ 16 + g d % 2 ^ 16)
  | .cmp u v => .seq (dst.setHw n { dst.hw n with hsr := cmpFlags (dst.hw n).hsr (g u) (g v) })
  | .exp d u => put d (exp16 (g u))
  | .expm d u v => put d (if sext 32 (g v) ≤ (exp16 (g u) : Int) then g v else exp16 (g u))
  | .hist sat d u v =>
    let r := histOp sat (g d) (g u) (g v)
    .seq (dst.setHw n (hFlag (hPut x (dst.hw n) d.val r.1) hsrSOV r.2))
  | .mfs d idx =>
    if specialOk idx.toNat then
      let r := specialGet x (dst.hw n) src.time src.freeVal idx.toNat
      let dst := if idx.toNat = 0x0C then dst.tookFree else dst
      .seq (dst.setHw n (hPut x r.2 d.val r.1))
    else .trap tIllegal
  | .mts u idx => if specialOk idx.toNat then .seq (dst.setHw n (specialPut x (dst.hw n) idx.toNat (g u))) else .trap tIllegal
  | .mac fn sat a u v w neg =>
    let p := macProd fn (g u) (g v)
    let k : Int := if neg then -1 else 1
    let b : Int × Int := if macLoads fn then (cRe (g w) * 2 ^ 15, cIm (g w) * 2 ^ 15) else (tabGet 0 x.acc (2 * a.val), tabGet 0 x.acc (2 * a.val + 1))
    .seq (dst.setHw n (accPut (dst.hw n) sat a.val (b.1 + k * p.1) (b.2 + k * p.2)))
  | .aset a u => .seq (dst.setHw n (accPut (dst.hw n) false a.val (cRe (g u) * 2 ^ 15) (cIm (g u) * 2 ^ 15)))
  | .aclr a => .seq (dst.setHw n (accPut (dst.hw n) false a.val 0 0))
  | .ashr sat a sh =>
    let k := sext 6 sh.toNat
    .seq (dst.setHw n (accPut (dst.hw n) sat a.val (shiftRound (tabGet 0 x.acc (2 * a.val)) k) (shiftRound (tabGet 0 x.acc (2 * a.val + 1)) k)))
  | .extr sat d a sh =>
    let k := 15 + sext 6 sh.toNat
    let r := fit16 sat (shiftRound (tabGet 0 x.acc (2 * a.val)) k)
    let m := fit16 sat (shiftRound (tabGet 0 x.acc (2 * a.val + 1)) k)
    .seq (dst.setHw n (hFlag (hPut x (dst.hw n) d.val (cWord r.1 m.1)) hsrSOV (!r.2 || !m.2)))
  | .norm d a =>
    let r := rsb 40 (twos 40 (tabGet 0 x.acc (2 * a.val)))
    let m := rsb 40 (twos 40 (tabGet 0 x.acc (2 * a.val + 1)))
    put d (twos 32 ((min r m : Nat) - (8 : Int)))
  | .load k d p upd off =>
    let a := hAddr x p.val upd.val (sext 13 off.toNat) k.bytes
    if a.1 % k.bytes ≠ 0 then .trap tMisaligned
    else
      match hPlace n a.1 with
      | none => .trap tDataRange
      | some pl =>
        let (dst, v) := hLoad dst n k pl
        let dst := dst.setHw n (hAfter (dst.hw n) p.val a)
        match k with
        | .w => .seq (hOut dst n x d.val v)
        | .d => .seq (hOut (hOut dst n x d.val (v % 2 ^ 32)) n x (d.val + 1) (v / 2 ^ 32))
        | .h => .seq (hOut dst n x d.val (twos 32 (sext 16 v)))
        | .b => .seq (hOut dst n x d.val (twos 32 (sext 8 v)))
  | .store k d p upd off =>
    let a := hAddr x p.val upd.val (sext 13 off.toNat) k.bytes
    if a.1 % k.bytes ≠ 0 then .trap tMisaligned
    else
      match hPlace n a.1 with
      | none => .trap tDataRange
      | some pl =>
        let v := if k = .d then g d + hGet x (d.val + 1) * 2 ^ 32 else g d
        .seq (hStore (dst.setHw n (hAfter (dst.hw n) p.val a)) n k v pl)
  | .setp sel u =>
    let y := dst.hw n
    .seq (dst.setHw n { y with ptr := tabSet 0 y.ptr sel.val (g u), resized := nbitSet y.resized (sel.val % 8) (decide (8 ≤ sel.val)) })
  | .getp d sel => put d (tabGet 0 x.ptr sel.val)
  | .paddi p imm =>
    let r := hFold x p.val ((hP x p.val : Int) + sext 12 imm.toNat)
    let y := dst.hw n
    .seq (dst.setHw n (hFlag { y with ptr := tabSet 0 y.ptr p.val r.1 } hsrCBF (decide (1 < r.2))))
  | .br off => if atLoopEnd x pc then .trap tLoop else .jump dst (hTarget pc (sext 24 off.toNat))
  | .bcc c off =>
    if atLoopEnd x pc then .trap tLoop
    else if condHolds x.hsr c.val then .jump dst (hTarget pc (sext 20 off.toNat)) else .seq dst
  | .call off =>
    if atLoopEnd x pc then .trap tLoop
    else .jump (dst.setHw n (hPut x (dst.hw n) 31 ((pc + 4) % 2 ^ 16))) (hTarget pc (sext 24 off.toNat))
  | .jr u => if atLoopEnd x pc then .trap tLoop else .jump dst (g u % 2 ^ 16 / 4 * 4)
  | .loop rot l u off =>
    if atLoopEnd x pc then .trap tLoop
    else
      match hLoopStart x rot l.val (g u) off.toNat pc with
      | (y, some next) => .jump (dst.setHw n y) next
      | (_, none) => .trap tLoop
  | .reti =>
    if atLoopEnd x pc then .trap tLoop
    else .jump (dst.setHw n { dst.hw n with hsr := retiHsr x.hsr x.ihsr }) (x.ipc / 4 * 4)
  | .nop => .seq dst
  | .wait =>
    .seq (if dst.rd (HW_STATUS_STATE n) = 1 ∧ Nat.land (dst.rd (HW_IRQ_PEND n)) (dst.rd (HW_IRQ_MASK n)) = 0 then dst.wr (HW_STATUS_STATE n) 2 else dst)
  | .ei => .seq (dst.setHw n { dst.hw n with hsr := nbitSet (dst.hw n).hsr hsrIE true })
  | .di => .seq (dst.setHw n { dst.hw n with hsr := nbitSet (dst.hw n).hsr hsrIE false })
  | .sync => .seq (postedDrain dst n)
  | .trap => .trap tTrap
  | .bkpt => .trap tBkpt

/-! ## Traps, loops and sampling around it -/

/-- A trap (R278, R284): the Hewer stops, Tally logs it; H16 stops Survey, H17 asks for a warm reset. -/
def hTrap (s : State) (n cause pc : Nat) : State :=
  let s := s.wrs [(HW_STATUS_STATE n, 4), (HW_STATUS_CAUSE n, cause), (HW_STATUS_PC n, pc)]
  let s := logEvent s { code := 0x0940, kind := 5, index := n, a0 := cause, a1 := pc }
  if n = 16 then surveyStop (if s.on MADC_STATUS_SEQ_ACTIVE then seqStop s else s)
  else if n = 17 then { s with defer := s.defer ++ [.warm .h17Trap] }
  else s

/-- The loop-back of one loop when an instruction or pair that covers LEn has run (R272, R273): the Hewer, and where it goes. -/
def loopBack (x : HewerX) (l pc len : Nat) : HewerX × Option Nat :=
  if loopEndsAt x l pc || (len == 8 && loopEndsAt x l ((pc + 4) % 2 ^ 16)) then
    let x : HewerX := if tabGet false x.rot l then { x with rrb := (x.rrb + 31) % 32 } else x
    let c := tabGet 0 x.lc l
    ({ x with lc := tabSet 0 x.lc l (c - 1) }, if 1 < c then some (tabGet 0 x.ls l) else none)
  else (x, none)

/-- Where the next instruction lies after a straight one: the inner loop's end first (R272). -/
def hAdvance (s : State) (n pc len : Nat) : State :=
  let (x, a) := loopBack (s.hw n) 1 pc len
  match a with
  | some t => (s.setHw n x).wr (HW_STATUS_PC n) t
  | none =>
    let (x, b) := loopBack x 0 pc len
    match b with
    | some t => (s.setHw n x).wr (HW_STATUS_PC n) t
    | none => (s.setHw n x).wr (HW_STATUS_PC n) (pc + len)

/-- Sampling (R434): every PERIOD-th retired instruction leaves its word, PC and latency; the latency is a free value
(notes/assumptions/31.md). -/
def hSample (s : State) (n word pc retired : Nat) : State :=
  if s.on (HS_CTRL_EN n) && !s.on (HS_STATUS_FULL n) then
    let c := tabGet 0 s.hsCount n + retired
    let p := s.rd (HS_CTRL_PERIOD n)
    if p ≤ c then
      let buf := tabGet [] s.hsBuf n ++ [(word, pc % 2 ^ 16 * 2 ^ 16 + s.freeVal % 2 ^ 16)]
      let s : State := { s.tookFree with hsBuf := tabSet [] s.hsBuf n buf, hsCount := tabSet 0 s.hsCount n (c - p) }
      let s := s.wr (HS_STATUS_COUNT n) buf.length
      if buf.length = 64 then logEvent (s.wr (HS_STATUS_FULL n) 1) { code := 0x0745, kind := 5, index := n } else s
    else { s with hsCount := tabSet 0 s.hsCount n c }
  else s

/-- What every issue leaves: CYCLES, the performance counters and the sample (R262, R429, R434). -/
def hRetire (s : State) (n word pc retired : Nat) (mac jumped : Bool) : State :=
  let s := s.setHw n { s.hw n with cycles := ((s.hw n).cycles + 1) % 2 ^ 32 }
  let s := pcCount (pcCount s (48 + n) 0 15 1) (48 + n) 1 15 retired
  let s := if retired = 2 then pcCount s (48 + n) 2 15 1 else s
  let s := if mac then pcCount s (48 + n) 7 15 1 else s
  let s := if jumped then pcCount s (48 + n) 6 15 1 else s
  hSample s n word pc retired

/-- Runs one instruction at the Hewer's PC, P clear. -/
def hRun (s : State) (n : Nat) (i : HInstr) : State :=
  let pc := s.rd (HW_STATUS_PC n)
  match hExec s s n i pc with
  | .trap c => hTrap s n c pc
  | .seq t => hRetire (hAdvance t n pc 4) n (i.encode false) pc 1 i.macGroup false
  | .jump t a => hRetire (t.wr (HW_STATUS_PC n) a) n (i.encode false) pc 1 i.macGroup (match i with | .loop .. => false | _ => true)

/-- A valid pair (R274). -/
def pairOk (pc : Nat) (a b : HInstr) (wb : Nat) : Bool :=
  pc % 8 == 0 && a.arith && b.memGroup && !pairBit wb && !(a.dests.any fun r => b.dests.contains r)

/-- Runs a pair: both read before either writes (R274). A pair whose second instruction traps does neither (notes/assumptions/29.md). -/
def hPair (s : State) (n pc : Nat) (a b : HInstr) (word : Nat) : State :=
  match hExec s s n a pc with
  | .trap c => hTrap s n c pc
  | .jump _ _ => hTrap s n tPair pc
  | .seq t =>
    match hExec s t n b (pc + 4) with
    | .trap c => hTrap s n c (pc + 4)
    | .jump _ _ => hTrap s n tPair pc
    | .seq t => hRetire (hAdvance t n pc 8) n word pc 2 a.macGroup false

/-- An overlay copy writes the program bytes of `len` bytes at `pc` (R285). -/
def ovlCovers (s : State) (n pc : Nat) : Bool :=
  s.on (HW_OVL_CTRL_START n) && s.rd (HW_OVL_DST_MEM n) == 0 && s.rd (HW_OVL_CTRL_DIR n) == 0 &&
    decide (s.rd (HW_OVL_DST_OFFSET n) ≤ pc) && decide (pc < s.rd (HW_OVL_DST_OFFSET n) + s.rd (HW_OVL_CTRL_LEN n))

/-- A program word (R278, FETCH_UE). -/
def hFetch (s : State) (n pc : Nat) : State × Option Nat :=
  let (s, v, bad) := memReadIn s 3 n pc 4
  (s, if bad then none else some v)

/-- Fetches, decodes and runs the instruction or pair at PC (R274, R278, R280). -/
def hFetchRun (s : State) (n : Nat) : State :=
  let pc := s.rd (HW_STATUS_PC n)
  match hFetch s n pc with
  | (s, none) => hTrap s n tFetchUe pc
  | (s, some w) =>
    match HInstr.decode w with
    | none => hTrap s n tIllegal pc
    | some i =>
      if pairBit w then
        match hFetch s n ((pc + 4) % 2 ^ 16) with
        | (s, none) => hTrap s n tFetchUe (pc + 4)
        | (s, some w2) =>
          match HInstr.decode w2 with
          | none => hTrap s n tIllegal (pc + 4)
          | some j => if pairOk pc i j w2 then hPair s n pc i j w else hTrap s n tPair pc
      else hRun s n i

/-- STEP (R286): one instruction or pair while HALTED; a fetch inside an overlay copy waits for it (R285). -/
def hStep (s : State) (n : Nat) : State :=
  if s.rd (HW_STATUS_STATE n) = 3 then
    if ovlCovers s n (s.rd (HW_STATUS_PC n)) then s else (hFetchRun s n).wr (HW_CTRL_STEP n) 0
  else s.wr (HW_CTRL_STEP n) 0

/-- Is an unmasked source pending, and which is first (R276, R277)? -/
def irqFirst (s : State) (n : Nat) : Option Nat :=
  (List.range 8).find? fun i => nbit (s.rd (HW_IRQ_PEND n)) i && nbit (s.rd (HW_IRQ_MASK n)) i

/-- Interrupt entry (R277). -/
def irqEnter (s : State) (n i : Nat) : State :=
  let x := s.hw n
  let y : HewerX := { x with ipc := s.rd (HW_STATUS_PC n), ihsr := x.hsr, hsr := nbitSet (nbitSet x.hsr hsrIE false) hsrINT true }
  pcCount ((s.setHw n y).wr (HW_STATUS_PC n) (0x40 + 16 * i)) (48 + n) 5 15 1

/-- An overlay copy (R285) of `len` bytes between system byte `src` and byte `dst` of a memory: up to a word that cannot be read. The state,
and whether all were copied. -/
def ovlCopy (s : State) (n arr src dst len : Nat) (out : Bool) : State × Bool :=
  if out then
    let (s, bs, ok) := memReadRun s arr n (dst / 8) (ceilDiv (dst % 8 + len) 8)
    (ddrWrite s (len / 64 + 2) src ((bs.drop (dst % 8)).take len), ok)
  else
    let (s, bs, ok) := ddrRead s src len
    (memWriteRun s arr n len dst bs, ok)

/-- A copy ends (R285): failing when its range lies outside DDR4 or the memory, or when it would write DDR4 from program memory. -/
def ovlDone (s : State) (n : Nat) : State :=
  let src := s.rd (HW_OVL_SRC_LO_SRC n) + s.rd (HW_OVL_SRC_HI_SRC n) * 2 ^ 32
  let dst := s.rd (HW_OVL_DST_OFFSET n)
  let len := s.rd (HW_OVL_CTRL_LEN n)
  let data := s.on (HW_OVL_DST_MEM n)
  let out := s.on (HW_OVL_CTRL_DIR n)
  let ok := decide (src + len ≤ ddrTotal s) && decide (dst + len ≤ (if data then 0x20000 else 0x10000)) && (data || !out)
  let (s, done) := if ok then ovlCopy s n (if data then 4 else 3) src dst len out else (s, false)
  let s := raiseIrq (s.wrs [(HW_OVL_CTRL_START n, 0), (HW_OVL_CTRL_STATUS n, if done then 1 else 2)]) n 7
  if s.on (HW_CTRL_STEP n) then hStep s n else s

end Sys2Proof.Machine
end

