-- ==== Sys2Proof/Machine/Sha.lean ====
section
/-!
DEFINITION. Sys2Proof/Machine/Sha.lean: SHA-384 (FIPS 180-4) and CRC-32 (IEEE 802.3), the digests that the plan image, the commit
record, key slots and kept banks use (R50, R51, R64, R335).
-/
namespace Sys2Proof.Machine
open Sys2Proof

/-- Round constants of SHA-384, first half. -/
def shaK1 : List Nat :=
  [0x428A2F98D728AE22, 0x7137449123EF65CD, 0xB5C0FBCFEC4D3B2F, 0xE9B5DBA58189DBBC,
   0x3956C25BF348B538, 0x59F111F1B605D019, 0x923F82A4AF194F9B, 0xAB1C5ED5DA6D8118,
   0xD807AA98A3030242, 0x12835B0145706FBE, 0x243185BE4EE4B28C, 0x550C7DC3D5FFB4E2,
   0x72BE5D74F27B896F, 0x80DEB1FE3B1696B1, 0x9BDC06A725C71235, 0xC19BF174CF692694,
   0xE49B69C19EF14AD2, 0xEFBE4786384F25E3, 0x0FC19DC68B8CD5B5, 0x240CA1CC77AC9C65,
   0x2DE92C6F592B0275, 0x4A7484AA6EA6E483, 0x5CB0A9DCBD41FBD4, 0x76F988DA831153B5,
   0x983E5152EE66DFAB, 0xA831C66D2DB43210, 0xB00327C898FB213F, 0xBF597FC7BEEF0EE4,
   0xC6E00BF33DA88FC2, 0xD5A79147930AA725, 0x06CA6351E003826F, 0x142929670A0E6E70,
   0x27B70A8546D22FFC, 0x2E1B21385C26C926, 0x4D2C6DFC5AC42AED, 0x53380D139D95B3DF,
   0x650A73548BAF63DE, 0x766A0ABB3C77B2A8, 0x81C2C92E47EDAEE6, 0x92722C851482353B]

/-- Round constants of SHA-384, second half. -/
def shaK2 : List Nat :=
  [0xA2BFE8A14CF10364, 0xA81A664BBC423001, 0xC24B8B70D0F89791, 0xC76C51A30654BE30,
   0xD192E819D6EF5218, 0xD69906245565A910, 0xF40E35855771202A, 0x106AA07032BBD1B8,
   0x19A4C116B8D2D0C8, 0x1E376C085141AB53, 0x2748774CDF8EEB99, 0x34B0BCB5E19B48A8,
   0x391C0CB3C5C95A63, 0x4ED8AA4AE3418ACB, 0x5B9CCA4F7763E373, 0x682E6FF3D6B2B8A3,
   0x748F82EE5DEFB2FC, 0x78A5636F43172F60, 0x84C87814A1F0AB72, 0x8CC702081A6439EC,
   0x90BEFFFA23631E28, 0xA4506CEBDE82BDE9, 0xBEF9A3F7B2C67915, 0xC67178F2E372532B,
   0xCA273ECEEA26619C, 0xD186B8C721C0C207, 0xEADA7DD6CDE0EB1E, 0xF57D4F7FEE6ED178,
   0x06F067AA72176FBA, 0x0A637DC5A2C898A6, 0x113F9804BEF90DAE, 0x1B710B35131C471B,
   0x28DB77F523047D84, 0x32CAAB7B40C72493, 0x3C9EBE0A15C9BEBC, 0x431D67C49C100D4C,
   0x4CC5D4BECB3E42B6, 0x597F299CFC657E2A, 0x5FCB6FAB3AD6FAEC, 0x6C44198C4A475817]

/-- Initial hash value of SHA-384. -/
def shaInit : List Nat :=
  [0xCBBB9D5DC1059ED8, 0x629A292A367CD507, 0x9159015A3070DD17, 0x152FECD8F70E5939,
   0x67332667FFC00B31, 0x8EB44A8768581511, 0xDB0C2E0D64F98FA7, 0x47B5481DBEFA4FA4]

abbrev W64 := BitVec 64

def shaRotr (x : W64) (n : Nat) : W64 := x.rotateRight n

/-- Message bytes with their padding: 0x80, zeros, and the length in bits in 16 bytes. -/
def shaPad (m : List Nat) : List Nat :=
  let n := m.length
  m ++ 0x80 :: List.replicate ((239 - n % 128) % 128) 0 ++ ((List.range 16).reverse.map fun j => 8 * n / 256 ^ j % 256)

/-- A big-endian number from bytes. -/
def beNat (bs : List Nat) : Nat := bs.foldl (fun a b => 256 * a + b % 256) 0

/-- The 16 words of a block, newest first. -/
def shaWords (blk : List Nat) : List W64 := ((List.range 16).map fun j => BitVec.ofNat 64 (beNat ((blk.drop (8 * j)).take 8))).reverse

/-- The message schedule, newest first. -/
def shaSchedule : Nat → List W64 → List W64
  | 0, w => w
  | n + 1, w =>
    let g := fun i => w.getD i 0
    let s0 := shaRotr (g 14) 1 ^^^ shaRotr (g 14) 8 ^^^ (g 14 >>> 7)
    let s1 := shaRotr (g 1) 19 ^^^ shaRotr (g 1) 61 ^^^ (g 1 >>> 6)
    shaSchedule n ((s1 + g 6 + s0 + g 15) :: w)

/-- One round on the eight working variables. -/
def shaRound (v : List W64) (kw : Nat × W64) : List W64 :=
  match v with
  | [a, b, c, d, e, f, g, h] =>
    let s1 := shaRotr e 14 ^^^ shaRotr e 18 ^^^ shaRotr e 41
    let t1 := h + s1 + ((e &&& f) ^^^ (~~~e &&& g)) + BitVec.ofNat 64 kw.1 + kw.2
    let s0 := shaRotr a 28 ^^^ shaRotr a 34 ^^^ shaRotr a 39
    let t2 := s0 + ((a &&& b) ^^^ (a &&& c) ^^^ (b &&& c))
    [t1 + t2, a, b, c, d + t1, e, f, g]
  | v => v

/-- One block. -/
def shaBlock (h : List W64) (blk : List Nat) : List W64 :=
  let w := (shaSchedule 64 (shaWords blk)).reverse
  let v := ((shaK1 ++ shaK2).zip w).foldl shaRound h
  List.zipWith (· + ·) h v

/-- Every block. -/
def shaBlocks : Nat → List Nat → List W64 → List W64
  | 0, _, h => h
  | n + 1, m, h => shaBlocks n (m.drop 128) (shaBlock h (m.take 128))

/-- SHA-384 as a big-endian number of 48 bytes. -/
def sha384 (m : List Nat) : Nat :=
  let p := shaPad m
  ((shaBlocks (p.length / 128) p (shaInit.map (BitVec.ofNat 64))).take 6).foldl (fun a x => a * 2 ^ 64 + x.toNat) 0

/-- One byte of a CRC-32, reflected. -/
def crcByte (c b : Nat) : Nat :=
  (List.range 8).foldl (fun x _ => if x % 2 = 1 then Nat.xor (x / 2) 0xEDB88320 else x / 2) (Nat.xor c (b % 256))

/-- CRC-32 of IEEE 802.3 (R64, R335; notes/assumptions/32.md). -/
def crc32 (m : List Nat) : Nat := Nat.xor (m.foldl crcByte 0xFFFFFFFF) 0xFFFFFFFF

end Sys2Proof.Machine
end

