-- ==== Sys2Proof/Machine/P384.lean ====
section
/-!
DEFINITION. Sys2Proof/Machine/P384.lean: the curve P-384 (FIPS 186-4), ECDSA and Diffie-Hellman over it, and HMAC and HKDF with SHA-384
(RFC 2104, RFC 5869), which images and sessions use (R50, R51, R301, R302). Numbers and coordinates lie in bytes big-endian
(notes/assumptions/62.md).
-/
namespace Sys2Proof.Machine
open Sys2Proof

/-! ## The field and the curve y² = x³ − 3x + b -/

/-- The field's prime 2^384 − 2^128 − 2^96 + 2^32 − 1. -/
def p384P : Nat := 2 ^ 384 - 2 ^ 128 - 2 ^ 96 + 2 ^ 32 - 1

/-- The order of the base point. -/
def p384N : Nat := 0xFFFFFFFFFFFFFFFFFFFFFFFFFFFFFFFFFFFFFFFFFFFFFFFFC7634D81F4372DDF581A0DB248B0A77AECEC196ACCC52973

/-- The curve's coefficient b. -/
def p384B : Nat := 0xB3312FA7E23EE7E4988E056BE3F82D19181D9C6EFE8141120314088F5013875AC656398D8A2ED19D2A85C8EDD3EC2AEF

/-- A point in Jacobian coordinates (X, Y, Z), x = X ÷ Z² and y = Y ÷ Z³; Z = 0 is the point at infinity. -/
abbrev JPoint := Nat × Nat × Nat

/-- The base point. -/
def p384G : JPoint :=
  (0xAA87CA22BE8B05378EB1C71EF320AD746E1D3B628BA79B9859F741E082542A385502F25DBF55296C3A545E3872760AB7,
   0x3617DE4A96262C6F5D9E98BF9292DC29F8F41DBD289A147CE9DA3113B5F0B8C00A60B1CE1D7E819D7A431D7C90EA0E5F, 1)

/-- `a ^ e` modulo `m`, over the bits of `e` from the lowest, `n` of them. -/
def powMod (m : Nat) : Nat → Nat → Nat → Nat
  | 0, _, _ => 1 % m
  | n + 1, a, e =>
    let r := powMod m n (a * a % m) (e / 2)
    if e % 2 = 1 then a * r % m else r

/-- The inverse modulo a prime below 2^384. -/
def invMod (m a : Nat) : Nat := powMod m 384 (a % m) (m - 2)

/-- Twice a point. -/
def jDouble (q : JPoint) : JPoint :=
  let p := p384P
  let (x, y, z) := q
  if z = 0 ∨ y = 0 then (1, 1, 0)
  else
    let d := z * z % p
    let g := y * y % p
    let b := x * g % p
    let a := 3 * ((x + p - d) % p * ((x + d) % p) % p) % p
    let x3 := (a * a + 8 * (p - b)) % p
    let z3 := ((y + z) * (y + z) + (p - g) + (p - d)) % p
    (x3, (a * ((4 * b + (p - x3)) % p) + 8 * (p - g * g % p)) % p, z3)

/-- The sum of two points. -/
def jAdd (q r : JPoint) : JPoint :=
  let p := p384P
  let (x1, y1, z1) := q
  let (x2, y2, z2) := r
  if z1 = 0 then r
  else if z2 = 0 then q
  else
    let s1 := z1 * z1 % p
    let s2 := z2 * z2 % p
    let u1 := x1 * s2 % p
    let u2 := x2 * s1 % p
    let v1 := y1 * (z2 * s2 % p) % p
    let v2 := y2 * (z1 * s1 % p) % p
    if u1 = u2 then (if v1 = v2 then jDouble q else (1, 1, 0))
    else
      let h := (u2 + (p - u1)) % p
      let t := (v2 + (p - v1)) % p
      let hh := h * h % p
      let hhh := h * hh % p
      let v := u1 * hh % p
      let x3 := (t * t + (p - hhh) + 2 * (p - v)) % p
      (x3, (t * ((v + (p - x3)) % p) + (p - v1 * hhh % p)) % p, h * (z1 * z2 % p) % p)

/-- `k` times a point, over the low `n` bits of `k`. -/
def jMul (q : JPoint) : Nat → Nat → JPoint
  | 0, _ => (1, 1, 0)
  | n + 1, k =>
    let r := jDouble (jMul q n (k / 2))
    if k % 2 = 1 then jAdd r q else r

/-- The x and y coordinates of a point, none at infinity. -/
def jAffine (q : JPoint) : Option (Nat × Nat) :=
  let p := p384P
  let (x, y, z) := q
  if z % p = 0 then none
  else
    let i := invMod p z
    let ii := i * i % p
    some (x * ii % p, y * (i * ii % p) % p)

/-- Are two coordinates those of a point of the curve? -/
def onCurve (x y : Nat) : Bool :=
  decide (x < p384P) && decide (y < p384P) && y * y % p384P == (x * x % p384P * x + 3 * (p384P - x) + p384B) % p384P

/-- A public key in its uncompressed form, 0x04, X, Y in 97 bytes (R50, R301): none when it is no point of the curve. -/
def pubPoint (key : List Nat) : Option JPoint :=
  let x := beNat ((key.drop 1).take 48)
  let y := beNat ((key.drop 49).take 48)
  if key.length = 97 ∧ key.head? = some 4 ∧ onCurve x y then some (x, y, 1) else none

/-- ECDSA's verdict on the signature (r, s) of a digest of 384 bits under a public key (R50, R51, R302). -/
def ecdsaVerify (key : List Nat) (digest r s : Nat) : Bool :=
  match pubPoint key with
  | none => false
  | some q =>
    decide (0 < r) && decide (r < p384N) && decide (0 < s) && decide (s < p384N) &&
      (let w := invMod p384N s
       match jAffine (jAdd (jMul p384G 384 (digest * w % p384N)) (jMul q 384 (r * w % p384N))) with
       | some (x, _) => x % p384N == r
       | none => false)

/-- A signature (r, s) of a digest with a private key and a per-signature secret. -/
def ecdsaSign (key secret digest : Nat) : Nat × Nat :=
  let r := ((jAffine (jMul p384G 384 secret)).getD (0, 0)).1 % p384N
  (r, invMod p384N secret * (digest + r * key) % p384N)

/-- The public key of a private key, in 97 bytes. -/
def pubOf (key : Nat) : List Nat :=
  let (x, y) := (jAffine (jMul p384G 384 key)).getD (0, 0)
  4 :: ((leBytes 48 x).reverse ++ (leBytes 48 y).reverse)

/-- The shared secret of a private key and a partner's public key: the x coordinate, 48 bytes (R301); none when the key is no point. -/
def ecdhSecret (key : Nat) (peer : List Nat) : Option (List Nat) :=
  (pubPoint peer).bind fun q => (jAffine (jMul q 384 key)).map fun a => (leBytes 48 a.1).reverse

/-! ## HMAC and HKDF -/

/-- The 48 bytes of a SHA-384 digest. -/
def shaBytes (m : List Nat) : List Nat := (leBytes 48 (sha384 m)).reverse

/-- HMAC-SHA-384 with its block of 128 bytes; the keys here are no longer than a block. -/
def hmac384 (key m : List Nat) : List Nat :=
  let k := key ++ List.replicate (128 - key.length) 0
  shaBytes (k.map (Nat.xor 0x5C) ++ shaBytes (k.map (Nat.xor 0x36) ++ m))

/-- Blocks of HKDF's expansion, `n` of them, after the block `t` and from counter `i` on. -/
def hkdfBlocks (prk info : List Nat) : Nat → List Nat → Nat → List Nat
  | 0, _, _ => []
  | n + 1, t, i =>
    let b := hmac384 prk (t ++ info ++ [i])
    b ++ hkdfBlocks prk info n b (i + 1)

/-- HKDF-SHA-384: `len` bytes from a secret, a salt and an info string. -/
def hkdf384 (secret salt info : List Nat) (len : Nat) : List Nat :=
  (hkdfBlocks (hmac384 salt secret) info (ceilDiv len 48) [] 1).take len

end Sys2Proof.Machine
end

