-- ==== Sys2Proof/Machine/PlanCheck.lean ====
section
/-!
DEFINITION. Sys2Proof/Machine/PlanCheck.lean: the plan image and its checks (02: R44-R62, and the payload rules of R254, R289, R303,
R338, R346, R367, R394, R408, R411, R421, R467). A check answers the reason code of R62, or the plan.
-/
namespace Sys2Proof.Machine
open Sys2Proof

/-- Bytes [off, off+n) are zero. -/
def zeros (d : List Nat) (off n : Nat) : Bool := ((d.drop off).take n).all (· == 0)

/-- Elements of a list that differ from each other pairwise. -/
def distinct {α : Type} [BEq α] : List α → Bool
  | [] => true
  | x :: xs => !xs.contains x && distinct xs

/-- Spans (space, start, length) that share no element; an empty span shares none (R57). -/
def disjoint : List (Nat × Nat × Nat) → Bool
  | [] => true
  | (a, b, n) :: xs => xs.all (fun (c, d, m) => a != c || n == 0 || m == 0 || decide (b + n ≤ d) || decide (d + m ≤ b)) && disjoint xs

/-- Records from offset 64 up to the trailer (R47): none when one runs past it or a pad byte is not zero. -/
def frames : Nat → List Nat → Option (List PRec)
  | _, [] => some []
  | 0, _ => none
  | n + 1, bs =>
    let len := recField bs 2 4
    let pad := (4 - (6 + len) % 4) % 4
    if bs.length < 6 + len + pad then none
    else if !zeros bs (6 + len) pad then none
    else (frames n (bs.drop (6 + len + pad))).map fun rs => { ty := recField bs 0 2, data := (bs.drop 6).take len } :: rs

/-! ## Scopes (R49) -/

/-- The face that a record is scoped to, none for the chip. -/
def PRec.face (r : PRec) : Option Nat :=
  match r.ty with
  | 1 => some (recField r.data 0 1)
  | 2 => some (recField r.data 2 1)
  | 5 => if r.data.length = 12 then some (recField r.data 0 1) else none
  | 6 => if recField r.data 0 1 < 16 then some (recField r.data 0 1) else none
  | 10 => some (recField r.data 0 1)
  | _ => none

/-- Payloads of a type. -/
def payloads (rs : List PRec) (ty : Nat) : List (List Nat) := (rs.filter fun r => r.ty == ty).map PRec.data

/-- The faces that FACE records make present (R54). -/
def facesIn (rs : List PRec) : List Nat := (payloads rs 1).map fun d => recField d 0 1

/-- The FACE record of a face. -/
def faceIn (rs : List PRec) (f : Nat) : List Nat := ((payloads rs 1).find? fun d => recField d 0 1 == f).getD []

/-! ## Payload rules -/

/-- FACE (R54). -/
def faceRule (d : List Nat) : Bool :=
  let p := recField d 5 1
  d.length == 16 && zeros d 12 4 && decide (recField d 0 1 < 16) && decide (1 ≤ recField d 1 1) && decide (recField d 1 1 ≤ 5) &&
    decide (1 ≤ recField d 2 1) && decide (recField d 2 1 < 16) && decide (recField d 3 1 < 4) && decide (p < 8) && (!nbit p 2 || nbit p 1)

/-- Service positions and host lanes of a PORT record (R55). -/
def portPosIn (d : List Nat) : List Nat := (List.range (portLines (recField d 1 1))).map (recField d 3 1 + ·)
def portHostIn (d : List Nat) : List Nat := (List.range (portHosts (recField d 1 1))).map (recField d 4 2 + ·)

/-- PORT by itself and with its face (R55). -/
def portRule (rs : List PRec) (d : List Nat) : Bool :=
  let t := recField d 1 1
  let fr := faceIn rs (recField d 2 1)
  d.length == 12 && zeros d 8 4 && decide (recField d 0 1 < 128) && decide (t < 8) && (facesIn rs).contains (recField d 2 1) &&
    decide (recField d 3 1 < 8) && decide (recField d 3 1 % portLines t = 0) && decide (recField d 4 2 < 256) &&
    decide (recField d 4 2 % portHosts t = 0) && decide (recField d 6 1 < 2) && decide (recField d 7 1 < 2) &&
    nbit (recField fr 2 1) (portMode t - 1) && (portPosIn d).all fun k => nbit (recField fr 4 1) k

/-- No two ports share a number, a service position or a host lane (R55). -/
def portsRule (rs : List PRec) : Bool :=
  let ps := payloads rs 2
  ps.all (portRule rs) && distinct (ps.map fun d => recField d 0 1) &&
    distinct (ps.flatMap fun d => (portPosIn d).map fun k => 8 * recField d 2 1 + k) && distinct (ps.flatMap portHostIn)

/-- A port block of PLATFORM (R289); port A's ENABLE is ignored. -/
def portBlockRule (d : List Nat) (o : Nat) : Bool :=
  (o == 0 || decide (recField d o 1 < 2)) && decide (recField d (o + 1) 1 < 4) && decide (recField d (o + 2) 1 < 2) &&
    decide (recField d (o + 3) 1 < 8) && zeros d (o + 7) 1 && decide (recField d (o + 12) 1 ≤ 32) && zeros d (o + 13) 3

/-- Channels that PLATFORM fits (R411). -/
def fittedIn (d : List Nat) : List Nat := (List.range 4).filter fun c => recField d (64 + 8 * c) 1 == 1

/-- Capacity of a channel in GiB (R411). -/
def chanGib (d : List Nat) (c : Nat) : Nat :=
  let o := 64 + 8 * c
  recField d (o + 1) 1 * (64 / recField d (o + 2) 1) * (8 * (recField d (o + 3) 1 + 1)) / 8

/-- PLATFORM (R289, R411). -/
def platformRule (d : List Nat) : Bool :=
  let fit := fittedIn d
  let geo := fun c => (d.drop (65 + 8 * c)).take 3
  let ta := recField d 96 2
  let ov := recField d 98 2
  let ca := recField d 100 4
  d.length == 112 && zeros d 104 8 && portBlockRule d 0 && portBlockRule d 32 &&
    ((List.range 4).all fun c => decide (recField d (64 + 8 * c) 1 < 2) && zeros d (68 + 8 * c) 4) &&
    (fit.all fun c => (recField d (65 + 8 * c) 1 == 1 || recField d (65 + 8 * c) 1 == 2) &&
      (recField d (66 + 8 * c) 1 == 8 || recField d (66 + 8 * c) 1 == 16) && decide (recField d (67 + 8 * c) 1 < 2) &&
      geo c == geo (fit.headD 0)) &&
    (if fit = [] then ta == 0 && ov == 0 && ca == 0
     else [1, 2, 4].contains fit.length && decide (32 + ta + ov + ca ≤ (fit.map (chanGib d)).sum * 1024) && decide (32 + ta + ov ≤ 65536))

/-- POWER (R346). -/
def powerRule (d : List Nat) : Bool :=
  d.length == 16 && zeros d 13 3 && decide (1 ≤ recField d 0 2) && decide (recField d 0 2 ≤ recField d 2 2) &&
    decide (sext 16 (recField d 4 2) < sext 16 (recField d 6 2)) && decide (8 ≤ recField d 8 1) && decide (recField d 8 1 ≤ 80) &&
    decide (recField d 9 1 < 4) && decide (recField d 11 1 ≤ recField d 10 1) && decide (recField d 12 1 < 2)

/-- LIMITS, both scopes (R346, R467). -/
def limitsRule (rs : List PRec) (d : List Nat) : Bool :=
  if d.length = 8 then zeros d 4 4 && decide (sext 16 (recField d 2 2) ≤ 960)
  else d.length == 12 && zeros d 1 3 && (facesIn rs).contains (recField d 0 1) && decide (recField d 8 4 / 2 ^ 16 % 4 = 0) &&
    decide (recField d 8 4 / 2 ^ 28 < 3)

/-- MICROCODE (R57). -/
def codeRule (d : List Nat) : Bool :=
  let n := d.length - 8
  decide (8 ≤ d.length) && decide (recField d 0 1 < 18) && decide (recField d 1 1 < 2) && zeros d 2 2 && decide (recField d 4 4 % 4 = 0) &&
    decide (n % 4 = 0) && decide (recField d 4 4 + n ≤ if recField d 1 1 = 0 then 0x10000 else 0x20000)

/-- MADC_SEQ (R367). -/
def madcRule (d : List Nat) : Bool :=
  let n := recField d 0 2
  d.length == 4 + 8 * n && decide (1 ≤ n) && decide (n ≤ 256) && (List.range n).all fun i =>
    let o := 4 + 8 * i
    decide (recField d o 1 ≤ 111) && decide (recField d (o + 1) 1 ≤ 6) && zeros d (o + 2) 2 && decide (recField d (o + 4) 2 ≤ recField d (o + 6) 2) &&
      decide (recField d (o + 6) 2 ≤ 4095)

/-- ASSAY (R394). -/
def assayRule (d : List Nat) : Bool :=
  let n := recField d 0 1
  d.length == 4 + 392 * n && decide (1 ≤ n) && decide (n ≤ 16) && zeros d 1 3 && distinct ((List.range n).map fun i => recField d (4 + 392 * i) 4) &&
    (List.range n).all fun i => zeros d (8 + 392 * i) 4 && (List.range 16).all fun j =>
      let o := 12 + 392 * i + 24 * j
      recField d o 8 != 0 && decide (1 ≤ recField d (o + 8) 4) && decide (recField d (o + 8) 4 ≤ 2 ^ 20) && zeros d (o + 12) 4

/-- TALLY_MAP (R421). -/
def tallyRule (rs : List PRec) (d : List Nat) : Bool :=
  let n := recField d 1 1
  d.length == 12 + 8 * n && decide (recField d 0 1 < 2) && decide (n ≤ 16) && zeros d 2 2 &&
    ((List.range 32).all fun c => recField d 4 8 / 4 ^ c % 4 != 3) && ((List.range n).all fun i => recField d (12 + 8 * i) 4 / 2 ^ 29 % 4 != 3) &&
    (recField d 0 1 == 0 || recField ((payloads rs 3).headD []) 96 2 != 0)

/-- OBSERVE by itself (R254): tap fields are checked when the record instantiates the tap, capture fields when it names a channel
(notes/assumptions/33.md). -/
def observeRule (d : List Nat) : Bool :=
  let ch := recField d 2 1
  let tc := recField d 4 4
  let cfg := recField d 140 4
  let reg := recField d 144 4
  let src := recField d 148 4 / 2 ^ 28
  d.length == 160 && decide (recField d 0 1 < 16) && decide (recField d 1 1 < 4) && (decide (ch < 4) || ch == 255) && zeros d 3 1 && zeros d 156 4 &&
    (!nbit (recField d 1 1) 0 || (decide (tc / 2 ^ 28 ≤ 2) && decide (tc / 2 ^ 24 % 16 ≤ 8) && tc / 2 ^ 19 % 32 != 0 && decide (tc / 2 ^ 19 % 32 ≤ 16))) &&
    (ch == 255 || (decide (cfg / 2 ^ 29 ≤ 3) && decide (cfg / 2 ^ 21 % 16 ≤ 8) && cfg / 2 ^ 25 % 16 == recField d 0 1 && reg % 128 != 0 &&
      decide (reg / 2 ^ 8 % 64 + reg % 128 ≤ 64) && decide (src ≤ 4) && (src != 2 || recField d 152 1 != 0)))

/-- OBSERVE records together (R254). -/
def observesRule (rs : List PRec) : Bool :=
  let ds := payloads rs 10
  let caps := ds.filter fun d => recField d 2 1 != 255
  ds.all observeRule && distinct (caps.map fun d => recField d 2 1) &&
    disjoint (caps.map fun d => (0, recField d 144 4 / 2 ^ 8 % 64, recField d 144 4 % 128))

/-- TRUSTED_KEYS (R303). -/
def keysRule (d : List Nat) : Bool :=
  let n := recField d 0 1
  d.length == 4 + 100 * n && decide (n ≤ 32) && zeros d 1 3 && distinct ((List.range n).map fun i => (d.drop (4 + 100 * i)).take 97) &&
    (List.range n).all fun i => decide (recField d (101 + 100 * i) 1 ≤ 2) && zeros d (102 + 100 * i) 2

/-- Bank identifiers of KEPT_BANKS as (class, index) (R338). -/
def banksIn (d : List Nat) : List (Nat × Nat) :=
  (List.range (recField d 0 1)).map fun i => (recField d (5 + 2 * i) 1, recField d (4 + 2 * i) 1)

/-- KEPT_BANKS (R338). -/
def keptRule (d : List Nat) : Bool :=
  let n := recField d 0 1
  d.length == 4 + 2 * n && decide (n ≤ 64) && zeros d 1 3 && distinct (banksIn d) && (banksIn d).all fun (c, i) =>
    match c with | 1 => decide (i < 18) | 2 => decide (i < 18) | 3 => decide (i < 16) | 4 => i == 0 | _ => false

/-- Instances of an owner kind (R408, R412): how many OWNER_INDEX values it takes. -/
def ownerCount (k : Nat) : Nat := match k with | 1 => 18 | 2 => 16 | 3 => 16 | 8 => 2 | 9 => 16 | _ => if k < 8 then 1 else 0

/-- Words of one copy of an array, those of a DDR4 channel by PLATFORM (R398, R408). -/
def wordsOf (rs : List PRec) (a : Nat) : Nat :=
  if isDdr a then
    let p := (payloads rs 3).headD []
    if (fittedIn p).contains (a - 16) then chanGib p (a - 16) * 2 ^ 27 else 0
  else memSize a / memWidth a

/-- REGIONS (R408). -/
def regionsRule (rs : List PRec) (d : List Nat) : Bool :=
  let n := recField d 0 1
  let at_ := fun i => 4 + 16 * i
  d.length == 4 + 16 * n && decide (n ≤ 64) && zeros d 1 3 &&
    ((List.range n).all fun i =>
      let o := at_ i
      let a := recField d o 1
      memArrayOk a && decide (recField d (o + 1) 1 < memCopies a) && decide (recField d (o + 3) 1 < ownerCount (recField d (o + 2) 1)) &&
        decide (1 ≤ recField d (o + 8) 4) && decide (recField d (o + 4) 4 + recField d (o + 8) 4 ≤ wordsOf rs a) && zeros d (o + 14) 2) &&
    disjoint ((List.range n).map fun i => (recField d (at_ i) 2, recField d (at_ i + 4) 4, recField d (at_ i + 8) 4))

/-- REG_INIT (R60): pairs of address and value. -/
def initPairs (d : List Nat) : List (Nat × Nat) := (List.range (d.length / 8)).map fun i => (recField d (8 * i) 4, recField d (8 * i + 4) 4)

def initRule (d : List Nat) : Bool := decide (d.length % 8 = 0) && (initPairs d).all fun p => decide (p.1 % 4 = 0)

/-! ## The checks of records (R61 steps 8 and 9) -/

/-- A type that an image of this minor version may not hold (R45, R48, R49). -/
def unknownType (minor ty : Nat) : Bool := decide (ty < 0x8000) && (ty == 0 || decide (14 < ty) || (minor == 0 && (ty == 12 || ty == 13)))

/-- Counts of R49: one record a chip, one a face, 128 ports; a second face-scope LIMITS fails under R467. -/
def countsOk (rs : List PRec) : Bool :=
  let one := fun ty => decide ((payloads rs ty).length ≤ 1)
  [3, 4, 7, 8, 9, 11, 12, 13, 14].all one && distinct ((payloads rs 1).map fun d => recField d 0 1) &&
    distinct ((payloads rs 10).map fun d => recField d 0 1) && decide ((payloads rs 2).length ≤ 128) &&
    decide (((payloads rs 5).filter fun d => d.length == 8).length ≤ 1)

/-- PLATFORM, POWER and program microcode of H16, H17 and every present face (R57, R62). -/
def missing (rs : List PRec) : Bool :=
  let prog := ((payloads rs 6).filter fun d => recField d 1 1 == 0 && decide (12 ≤ d.length)).map fun d => recField d 0 1
  payloads rs 3 == [] || payloads rs 4 == [] || !([16, 17] ++ facesIn rs).all fun n => prog.contains n

/-- Every payload rule (R62, reason 0x0B). -/
def crossOk (rs : List PRec) : Bool :=
  (payloads rs 1).all faceRule && (payloads rs 3).all platformRule && portsRule rs && (payloads rs 4).all powerRule &&
    (payloads rs 5).all (limitsRule rs) && distinct (((payloads rs 5).filter fun d => d.length == 12).map fun d => recField d 0 1) &&
    (payloads rs 6).all codeRule && disjoint ((payloads rs 6).map fun d => (2 * recField d 0 1 + recField d 1 1, recField d 4 4, d.length - 8)) &&
    (payloads rs 7).all madcRule && (payloads rs 8).all assayRule && (payloads rs 9).all (tallyRule rs) && observesRule rs &&
    (payloads rs 11).all keysRule && (payloads rs 12).all keptRule && (payloads rs 13).all (regionsRule rs) && (payloads rs 14).all initRule

/-- The thermal ceilings of the chip-scope LIMITS record (R346). -/
def ceilings (rs : List PRec) : Int × Int :=
  match (payloads rs 5).find? fun d => d.length == 8 with
  | some d => (sext 16 (recField d 0 2), sext 16 (recField d 2 2))
  | none => (880, 960)

/-- A face-scope LIMITS record against the OTP set, after LIMITS_LOCK (R58). -/
def limitFits (o : Otp) (d : List Nat) : Bool :=
  let (a, b) := (o.limitOf (recField d 0 1)).getD (0, 0)
  let x := recField d 4 4
  let y := recField d 8 4
  decide (x / 2 ^ 24 ≤ a / 2 ^ 24) && decide (sext 8 (x / 2 ^ 16) ≤ sext 8 (a / 2 ^ 16)) && decide (sext 8 (x / 2 ^ 8) ≤ sext 8 (a / 2 ^ 8)) &&
    decide (x % 2 ^ 8 ≤ a % 2 ^ 8) && Nat.land (y / 2 ^ 18 % 2 ^ 9) (b / 2 ^ 18 % 2 ^ 9) == y / 2 ^ 18 % 2 ^ 9 && y / 2 ^ 27 == b / 2 ^ 27 &&
    y % 2 ^ 16 == b % 2 ^ 16

/-- Step 9: POWER against its ceilings, LIMITS against OTP (R58, R346). -/
def limitsOk (o : Otp) (rs : List PRec) : Bool :=
  let p := (payloads rs 4).headD []
  decide (sext 16 (recField p 4 2) ≤ (ceilings rs).1) && decide (sext 16 (recField p 6 2) ≤ (ceilings rs).2) &&
    (!o.lock || ((payloads rs 5).filter fun d => d.length == 12).all (limitFits o))

/-! ## The image (R44-R50, R61) -/

/-- The largest image (R44). -/
abbrev imageMax : Nat := 0xFFF000

/-- Does REV_MASK name the device's revision (R46)? -/
def revOk (rev mask : Nat) : Bool :=
  let b := rev / 256 % 256
  let m := rev % 256
  rev / 2 ^ 16 == 0 && decide (10 ≤ b) && decide (b ≤ 13) && decide (m ≤ 7) && nbit mask (8 * (b - 10) + m)

/-- The key conditions of R51 on the signer: slot filled and not revoked, digest of PUBKEY equal. -/
def signerOk (o : Otp) (slot : Nat) (pub : List Nat) : Bool :=
  decide (slot < 4) && !nbit o.revoked slot && o.digest slot == some (sha384 pub)

/-- The signature of an image's trailer `tr` over the bytes before it (R50, R51): the signer's slot, and ECDSA under PUBKEY. -/
def signatureOk (o : Otp) (body tr : List Nat) : Bool :=
  let pub := (tr.drop 8).take 97
  signerOk o (recField tr 4 1) pub && ecdsaVerify pub (sha384 body) (beNat ((tr.drop 112).take 48)) (beNat ((tr.drop 160).take 48))

/-- The check of R61. `img` is what the source gives: IMAGE_LEN bytes when it holds as many, else the first 64 at least; `held` is
how many it holds; `digest` the commit record's for an image from flash; `scope` what FACE_REPLAN asks of the records (R73). The spec
gives framing, padding and RECORD_COUNT only their reason code, and the tests of step 8 no order among themselves: the model makes
the first at step 2, and the others in the order UNKNOWN, DUPLICATE, MISSING, CROSS_REF, SCOPE (DESIGN CHOICE, notes/assumptions/63.md). -/
def checkImage (o : Otp) (rev : Nat) (img : List Nat) (held : Nat) (digest : Option Nat) (scope : List PRec → Bool) (src : Nat) : Except Nat Plan :=
  let len := recField img 28 4
  let t := len - 208
  let fits := decide (272 ≤ len) && decide (len ≤ held)
  let body := img.take t
  let tr := (img.drop t).take 208
  if img.take 4 ≠ [0x5A, 0x50, 0x4C, 0x4E] then .error 1
  else if recField img 4 1 ≠ 1 ∨ 1 < recField img 5 1 then .error 2
  else if fits && tr.take 4 != [0x5A, 0x53, 0x49, 0x47] then .error 1
  else if !fits || decide (imageMax < len) || img.length != len || recField img 6 2 != 64 || !zeros img 36 28 || !zeros tr 5 3 || !zeros tr 105 7
    then .error 8
  else match frames img.length (body.drop 64) with
    | none => .error 8
    | some rs =>
      if rs.length ≠ recField img 32 4 then .error 8
      else if recField img 8 4 ≠ 0x5A545128 then .error 3
      else if !revOk rev (recField img 12 4) then .error 4
      else if digest.any fun d => d != sha384 img then .error 15
      else if !signatureOk o body tr then .error 5
      else if 128 < recField img 24 4 then .error 7
      else if recField img 24 4 < o.floor then .error 6
      else if rs.any fun r => unknownType (recField img 5 1) r.ty then .error 9
      else if !countsOk rs then .error 10
      else if missing rs then .error 13
      else if !crossOk rs then .error 11
      else if !scope rs then .error 14
      else if !limitsOk o rs then .error 12
      else .ok { id := recField img 16 8, counter := recField img 24 4, source := src, recs := rs, image := img }

/-- Optional types that the device does not know, one each (R48). -/
def optionalTypes (rs : List PRec) : List Nat := ((rs.filter fun r => decide (0x8000 ≤ r.ty)).map PRec.ty).dedup

end Sys2Proof.Machine
end

