-- ==== Sys2Proof/Machine/Session.lean ====
section
/-!
DEFINITION. Sys2Proof/Machine/Session.lean: how sessions and the key vault end (R71, R305, R315), and the keys that the plan trusts
(R302, R303).
-/
namespace Sys2Proof.Machine
open Sys2Proof

/-- A session ends (R305): its streams close, its latches and log of R322 go with it, nothing is sent; Tally logs it. -/
def sessionEnd (s : State) (id : Nat) : State :=
  match s.session id with
  | none => s
  | some x =>
    let s := streamsClose s fun t i => (t.stream i).session == id
    let s : State := { s with sessions := s.sessions.filter (fun y => y.id != id), accLog := s.accLog.filter (fun e => e.1 != 1000 + x.num) }
    logEvent s { code := 0x0643, kind := 6, index := x.num }

/-- Sessions that satisfy `p` end. -/
def sessionsEnd (s : State) (p : Session → Bool) : State := (s.sessions.filter p).foldl (fun t x => sessionEnd t x.id) s

/-- The vault clears and every session ends (R315). -/
def vaultClear (s : State) : State := ((sessionsEnd s fun _ => true).incMod VAULT_STATUS_CLEARS).wr VAULT_STATUS_IDENT_OK 0

/-- Keys of TRUSTED_KEYS as (SHA-384 of PUBKEY, PRIV) (R303). -/
def trustedKeys (rs : List PRec) : List (Nat × Nat) :=
  match payloads rs 11 with
  | d :: _ => (List.range (recField d 0 1)).map fun i => (sha384 ((d.drop (4 + 100 * i)).take 97), recField d (101 + 100 * i) 1)
  | [] => []

/-- Is a key digest in an unrevoked owner slot (R51, R302)? -/
def ownerKey (o : Otp) (dig : Nat) : Bool := (List.range 4).any fun k => !nbit o.revoked k && o.digest k == some dig

/-- Records of the running plan. -/
def runningRecs (s : State) : List PRec := (s.plan.map Plan.recs).getD []

/-- Is port `n` one that exists (R288)? -/
def portExists (s : State) (n : Nat) : Bool := n == 0 || s.on PRESENCE_PORT_B

/-- Offset of a port block in PLATFORM, and its fields (R289); in bare state the defaults of R288 and R290. -/
def portBlock (s : State) (n off len : Nat) : Nat := recField ((s.planRecs 3).headD []) (32 * n + off) len

/-- A port's MTU is 9,000 bytes (R289). -/
def portJumbo (s : State) (n : Nat) : Bool := portBlock s n 2 1 == 1

end Sys2Proof.Machine
end

