-- ==== Sys2Proof/Machine/Plan.lean ====
section
/-!
DEFINITION. Sys2Proof/Machine/Plan.lean: applying a checked plan (R54-R60, R70, R71), re-planning and resetting one face (R73, R441),
and the plan copy in DDR4 (R339).
-/
namespace Sys2Proof.Machine
open Sys2Proof

/-! ## Hewers -/

/-- A Hewer's memories: cleared, then loaded by the MICROCODE records of the running plan (R57, R399). -/
def hewerLoad (s : State) (n : Nat) : State :=
  let s := memClear s fun a i _ => (a == 3 || a == 4) && i == n
  (s.planRecs 6).foldl (fun t d =>
    if recField d 0 1 = n then memWriteRun t (3 + recField d 1 1) n d.length (recField d 4 4) (d.drop 8) else t) s

/-- A Hewer's registers and control block at their reset values; RUN starts it at address 0 (R286, R447). -/
def hewerFresh (s : State) (n : Nat) : State :=
  let s := s.dropRegs fun a => decide (hwAt n ≤ a) && decide (a < hwAt n + 0x1000)
  hewerReset { s with hewers := tabSet {} s.hewers n {} } n

/-! ## DDR4 and the plan copy (R339, R410, R411) -/

/-- The loader keeps a copy of the running image in DDR4 (R339). -/
def copyWrite (s : State) : State :=
  match s.plan with
  | some p =>
    if s.rd PRESENCE_DDR ≠ 0 ∧ s.ddrTrain.isSome then { ddrWrite s p.image.length 0 p.image with planCopyOk := true }
    else { s with planCopyOk := false }
  | none => { s with planCopyOk := false }

/-- Channels that the running plan fits, as a mask (R411). -/
def fitMask (s : State) : Nat := ((fittedIn (platform s)).map fun c => 2 ^ c).sum

/-- The outcome of training on the channels that the plan fits (R410): the copy is written, or the device runs without DDR4. -/
def ddrEval (s : State) : State :=
  match s.ddrTrain, s.plan with
  | some pass, some _ =>
    let bad := (fittedIn (platform s)).filter fun c => !nbit pass c
    if bad = [] then
      copyWrite ((fittedIn (platform s)).foldl (fun t c => t.wrs [(DDR_STATUS_TRAINED c, 1), (DDR_STATUS_FAIL c, 0)]) s)
    else
      let s := bad.foldl (fun t c => t.wr (DDR_STATUS_FAIL c) 1) (s.wr PRESENCE_DDR 0)
      logEvent { s with archMib := 0, planCopyOk := false } { code := 0x0547, a0 := (bad.map fun c => 2 ^ c).sum }
  | _, _ => s

/-! ## Chip-scope records (R70 steps 1, 2 and 6) -/

/-- Regions that the DDR4 layout adds on each fitted channel (R408, R411): base and size in MiB, owner kind. -/
def ddrRegions (s : State) : List Region :=
  let p := platform s
  let ta := recField p 96 2
  let ov := recField p 98 2
  let n := (fittedIn p).length
  let areas := [(0, 16, 7), (16, 1, 6), (17, 15, 0), (32, ta, 5), (32 + ta, ov, 0), (32 + ta + ov, recField p 100 4, 4)]
  (fittedIn p).flatMap fun c => (areas.filter fun x => x.2.1 != 0).map fun (b, z, k) =>
    { array := 16 + c, index := 0, kind := k, owner := 0, base := b * 2 ^ 17 / n, words := z * 2 ^ 17 / n }

/-- Regions of the REGIONS record with their thresholds (R408). -/
def planRegions (s : State) : List (Region × Nat) :=
  match s.planRecs 13 with
  | d :: _ => (List.range (recField d 0 1)).map fun i =>
      let o := 4 + 16 * i
      ({ array := recField d o 1, index := recField d (o + 1) 1, kind := recField d (o + 2) 1, owner := recField d (o + 3) 1,
         base := recField d (o + 4) 4, words := recField d (o + 8) 4 }, recField d (o + 12) 2)
  | [] => []

/-- The region table, defaults first (R408), and the registers that show it; a region that did not change keeps its count. -/
def regionsApply (s : State) : State :=
  let rs := (sramRegions ++ ddrRegions s).map (fun r => (r, 0)) ++ planRegions s
  let old := s.regions
  let s := (List.range 256).foldl (fun t n =>
    match rs[n]? with
    | some (r, th) =>
      let keep := if old[n]? = some r then t.rd (MEM_REGION1_COUNT n) else 0
      t.wrs [(MEM_REGION0_ARRAY n, r.array), (MEM_REGION0_INDEX n, r.index), (MEM_REGION0_OWNER_KIND n, r.kind),
        (MEM_REGION0_OWNER_INDEX n, r.owner), (MEM_REGION1_COUNT n, keep), (MEM_REGION1_THRESHOLD n, if th = 0 then 16 else th)]
    | none => (t.setReg (MEM_REGION0 n) 0).setReg (MEM_REGION1 n) 0) s
  { s with regions := rs.map Prod.fst }

/-- The part of PLATFORM that lays out DDR4 (R411). -/
def ddrLayoutOf (p : List Nat) : List Nat := (p.drop 64).take 40

/-- PTP of the port blocks (R289, R292, R293): masters of a port that no longer takes PTP, or in another domain, are forgotten; with
PTP disabled on both ports device time runs free. -/
def ptpApply (s : State) (p : List Nat) : State :=
  let takes := fun n => nbit (recField p (32 * n + 3) 1) 2 && (n == 0 || recField p 32 1 == 1)
  let x := s.ptp
  let heard := x.heard.filter fun m => takes m.port
  let y : PtpX := if x.master.any (fun m => takes m.port) then { x with heard := heard } else { heard := heard }
  let s : State := { s with ptp := y }
  if takes 0 || takes 1 then s else s.wr TIME_STATUS_STATE 0

/-- PLATFORM: channels, archives and control ports (R288, R289, R411). A new DDR4 layout empties the archives, new channels the
mirror. Disabling port B waits for DONE (R71). -/
def platformApply (s : State) : State :=
  let p := platform s
  let old := s.ddrLayout
  let s := (List.range 4).foldl (fun t c => t.wr (DDR_STATUS_CAPACITY c) (if (fittedIn p).contains c then chanGib p c else 0)) s
  let s := s.wr PRESENCE_DDR (fitMask s)
  let s : State := { s with archMib := recField p 100 4 }
  let s : State := if old = ddrLayoutOf p then s else { streamsClose s (fun t i => t.rd (STREAM_STATUS_SRC i) == 3) with archEntries := [], archive := [], ddrLayout := ddrLayoutOf p }
  let s : State := if old.take 32 = (ddrLayoutOf p).take 32 then s else { s with mirror := [] }
  let s := ptpApply (archShow s) p
  let s := (List.range 2).foldl (fun t n => t.wrs [(CP_CTRL_RATE_CAP n, recField p (32 * n + 1) 1), (CP_STATUS_JUMBO n, recField p (32 * n + 2) 1)]) s
  if recField p 32 1 = 1 ∧ !s.on PRESENCE_PORT_B then cpRestart (s.wr PRESENCE_PORT_B 1) 1 else s

/-- POWER: the registers that take their reset values from it (R71, R346). -/
def powerApply (s : State) : State :=
  let p := powerRec s
  let s := s.wrs [(FM_BUDGET_CHIP_BUDGET, recField p 0 2), (TS_THROTTLE_THROTTLE, recField p 4 2), (TS_THROTTLE_ALERT, recField p 6 2),
    (TS_HYST_HYST, recField p 8 1), (FM_EFFORT_GUARD, recField p 10 1), (FM_EFFORT_RAISE, recField p 11 1)]
  let s := (List.range 4).foldl (fun t c => t.wr (FM_RAIL_PCAP c) (recField p 9 1)) s
  if nbit (recField p 12 1) 0 then s else (List.range 8).foldl (fun t c => t.wr (railMarginF c) 0) s

/-- A whole word that a record gives a register: its fields take it, its reserved bits read 0 (R21). -/
def recReg (s : State) (a v : Nat) : State :=
  match descOf a with
  | some (d, _) => s.setReg a (d.flds.foldl (fun w f => fieldSet w f.lo f.width (fieldGet (BitVec.ofNat 32 v) f.lo f.width)) 0)
  | none => s

/-- TALLY_MAP, or what holds without it (R421). -/
def tallyApply (s : State) : State :=
  let d := (s.planRecs 9).headD []
  let n := recField d 1 1
  let s := (List.range 16).foldl (fun t i =>
    if i < n then recReg (recReg t (TALLY_FILTER0 i) (recField d (12 + 8 * i) 4)) (TALLY_FILTER1 i) (recField d (16 + 8 * i) 4)
    else (t.setReg (TALLY_FILTER0 i) 0).setReg (TALLY_FILTER1 i) 0) s
  if d = [] then
    ((s.setReg TALLY_CLASS_ACT_LO 0x55555555).setReg TALLY_CLASS_ACT_HI 0x55555555).wr TALLY_CTRL_POLICY (bit (archKeeps s != 0))
  else
    (recReg (recReg s TALLY_CLASS_ACT_LO (recField d 4 4)) TALLY_CLASS_ACT_HI (recField d 8 4)).wr
      TALLY_CTRL_POLICY (recField d 0 1)

/-- ASSAY: SIGS_OK; a record without a set for this device is logged (R59, R394). -/
def assayApply (s : State) : State :=
  let s := s.wr ASSAY_CTRL_SIGS_OK (bit (assaySet s).isSome)
  if s.planRecs 8 ≠ [] ∧ (assaySet s).isNone then logEvent s { code := 0x0445 } else s

/-! ## Ports (R55, R70 step 5) -/

/-- A PORT record in the port table. -/
def portCfg (s : State) (d : List Nat) : State :=
  let n := recField d 0 1
  s.wrs [(PORT_CFG_VALID n, 1), (PORT_CFG_FACE n, recField d 2 1), (PORT_CFG_TYPE n, recField d 1 1), (PORT_CFG_FIRST_K n, recField d 3 1),
    (PORT_CFG_HOST_IF n, recField d 7 1), (PORT_CFG_SEAL_POLICY n, recField d 6 1), (PORT_CFG_FIRST_H n, recField d 4 2)]

/-- A host lane that belongs to no port: its domain is off. -/
def hostAbsent (s : State) (h : Nat) : State :=
  let p := fun a => decide (hostAt h ≤ a) && decide (a < hostAt h + 0x100)
  let s := (s.dropRegs p).dropCtrs p
  { s with injects := tabDrop p s.injects, hostPcs := tabSet [] s.hostPcs h [] }

/-- A port that no longer exists. -/
def portAbsent (s : State) (n : Nat) : State :=
  let p := fun a => decide (portAt n ≤ a) && decide (a < portAt n + 0x40)
  { (s.dropRegs p).dropCtrs p with episodes := tabSet none s.episodes n none }

/-- Host groups with at least one lane in a port (R56, R189). -/
def groupsMask (ps : List (List Nat)) : Nat :=
  ((List.range 32).map fun g => if ps.any (fun d => (portHostIn d).any fun h => h / 8 == g) then 2 ^ g else 0).sum

/-- Host lanes of ports start their stages, while the chip runs (R191, R333). -/
def portsStart (s : State) (ps : List (List Nat)) : State :=
  ps.foldl (fun t d =>
    portEval (if t.rd FM_CHIP_STATUS_STATE = 0 then (portHostIn d).foldl hostStage1 t else t) (recField d 0 1)) s

/-- The port table from `old` to `new`; ports of the faces `fs` start over, others keep their traffic. -/
def portsApply (s : State) (old new : List (List Nat)) (fs : List Nat) : State :=
  let moved := fun (other : List (List Nat)) (d : List Nat) => fs.contains (recField d 2 1) || !other.contains d
  let ups := new.filter (moved old)
  let s := (old.filter (moved new)).foldl (fun t d => ((portHostIn d).foldl hostOff t).setReg (PORT_CFG (recField d 0 1)) 0) s
  let lanes := new.flatMap portHostIn
  let s := ((old.flatMap portHostIn).filter fun h => !lanes.contains h).foldl hostAbsent s
  let s := ((old.map fun d => recField d 0 1).filter fun n => !(new.map fun d => recField d 0 1).contains n).foldl portAbsent s
  let s := ups.foldl portCfg s
  portsStart (s.wr GROUPS_PRESENT (groupsMask new)) ups

/-! ## Faces (R54, R70 step 4, R73) -/

/-- Steps 3 to 5 of R73: rotations and BIST end, ports go down, capture ends, the face goes to SLEEP. -/
def faceDown (s : State) (f : Nat) : State :=
  let s := assayAbandon s f 5 3
  let s := (portsOfFace s f).foldl (fun t n => (portHostLanes t n).foldl hostOff t) s
  toSleep (capEnd s f 15) f

/-- Addresses of a face's range and of its tap. -/
def inFace (f a : Nat) : Bool :=
  (decide (faceAt f 0 ≤ a) && decide (a < faceAt f 0 + 0x100000)) || (decide (0x700000 + f * 0x1000 ≤ a) && decide (a < 0x701000 + f * 0x1000))

/-- Everything of a face returns to its reset values but OPT_LIM, the map generation, what its engine was last sent, and Assay's
records (R89, R447); its arrays are cleared (R399). -/
def faceClear (s : State) (f : Nat) : State :=
  let a := s.reg (OPT_LIM_A f)
  let b := s.reg (OPT_LIM_B f)
  let gen := s.rd (LANE_MAP_AUX_GEN f)
  let res := s.rd (OPT_STATUS_RESULT f)
  let ps := portsOfFace s f
  let s := (((s.dropRegs (inFace f)).dropCtrs (inFace f)).setReg (OPT_LIM_A f) a |>.setReg (OPT_LIM_B f) b).wr (LANE_MAP_AUX_GEN f) gen
  let s := if res = stBusy then s.wr (OPT_STATUS_RESULT f) stBusy else s
  let s := memClear s fun x i _ => [1, 5, 6, 10].contains x && i == f
  let x := s.face f
  let own := fun k => k / 9 == f
  let s : State := { s with
    injects := tabDrop (inFace f) s.injects
    gens := tabDrop (inFace f) s.gens
    pats := tabDrop (inFace f) s.pats
    txds := tabDrop own s.txds
    ports := tabDrop ps.contains s.ports
    lanes := tabDrop own s.lanes
    rxds := tabDrop own s.rxds
    seams := tabDrop own s.seams
    shapes := tabDrop own s.shapes
    episodes := tabDrop ps.contains s.episodes }
  let s := s.setFace f { fsb := x.fsb, lastCmd := x.lastCmd, sent := x.sent, obsShed := x.obsShed, assayDir := x.assayDir, assayTurn := x.assayTurn,
                         assaySkip := x.assaySkip, ageAt := x.ageAt }
  (s.calQ.filter fun i => i.f == f && i.p != 9).foldl (fun t i => t.wrs [(CAL_STATUS_STATE f i.p, 1), (CAL_STATUS_KIND f i.p, i.kind)]) s

/-- OBSERVE: the tap's reset values and the standing capture (R254). -/
def observeApply (s : State) (f : Nat) : State :=
  match s.obsRec f with
  | none => s
  | some d =>
    let s := (recReg (recReg s (TAP_CFG f) (recField d 4 4)) (TAP_NCO f) (recField d 8 4)).wrs
      [(TAP_CTRL_RUN f, recField d 1 1 / 2), (TAP_GDELAY_GDELAY f, tapGdelay (recField d 4 4 / 2 ^ 19 % 32))]
    let s := (List.range 64).foldl (fun t i => t.wr (TAP_COEF_H f 0 i) (recField d (12 + 2 * i) 2)) s
    let c := recField d 2 1
    if c < 4 then
      let s := s.setFace f { s.face f with standing := true }
      if s.rd (CAP_STATUS_STATE c) = 0 then
        recReg (recReg (recReg (recReg s (CAP_CFG c) (recField d 140 4)) (CAP_REGION c) (recField d 144 4)) (CAP_TRIG c) (recField d 148 4))
          (CAP_TRIG_ARG c) (recField d 152 4)
      else s
    else s

/-- The registers that take their reset values from the FACE record (R54); HOLD_FACES makes the target SLEEP (R438). -/
def faceRegs (s : State) (f : Nat) (hold : Bool) : State :=
  let d := s.faceRec f
  (List.range 9).foldl (fun t p => t.wrs [(LANE_ACQ_CTRL_MODE_EN f p, recField d 2 1), (LANE_EFFORT_CAP f p, recField d 3 1)])
    (s.wr (OPT_CTRL_TARGET f) (if hold then 1 else recField d 1 1))

/-- The substitution of R73 step 6: the lowest position on a lane sealed without one moves to p8, when p8 is free. -/
def faceSubstitute (s : State) (f : Nat) : State :=
  match (List.range 8).find? fun k => nbit (facePositions s f) k && decide (posLane s f k < 9) && laneSealed s f (posLane s f k) with
  | some k =>
    if laneSealed s f 8 || (posOf s f 8).isSome then s
    else faceMapReset (sealBurn s { kind := 5, face := f, index := posLane s f k, sub := k, reason := 3 }) f
  | none => s

/-- The whole lane map of a face (R88, R167): datapath of each lane in both directions, lane of each position, transmit relief. -/
def faceMaps (s : State) (f : Nat) : List Nat :=
  (List.range 9).map (laneDp s f) ++ (List.range 9).map (txLaneDp s f) ++ (List.range 8).map (posLane s f) ++ [s.rd (LANE_MAP_TX_AUX_TX_RELIEF f)]

/-- The lowest lane whose entries of the map differ, p8 where none does: the lane that the event of R89 names when a face starts over
(notes/assumptions/65.md). -/
def movedLane (s t : State) (f : Nat) : Nat :=
  ((List.range 9).find? fun p => laneDp s f p != laneDp t f p || txLaneDp s f p != txLaneDp t f p || posOf s f p != posOf t f p).getD 8

/-- A face that was there and starts over has changed its map, or lost its last spare, where its registers say so (R43, R89, R167). -/
def mapRestart (old s : State) (f : Nat) : State :=
  let s := if faceMaps old f = faceMaps s f then s else mapChanged s f (movedLane old s f)
  if old.on (RELIEF_STATE_RELIEF_OK f) && !s.on (RELIEF_STATE_RELIEF_OK f) then logEvent s { code := 0x1042, kind := 4, index := f } else s

/-- Step 6 of R73 on a face in SLEEP: its records in the order of R70. A face that the running plan held (`had`) is on R73's path: its
position on a lane sealed without a substitution moves to p8 (R12), and its maps change where they differ. -/
def faceFresh (s : State) (f : Nat) (hold had : Bool) : State :=
  let old := s
  let s := hewerFresh (hewerLoad (faceClear s f) f) f
  let s := faceRegs s f hold
  let s := if s.otp.lock then limitsShow s f else s
  let s := faceMapReset (observeApply s f) f
  let s := if had then mapRestart old (faceSubstitute s f) f else s
  dpRoles (sliceSealsShow s f) f

/-- A face that the new plan does not hold: none of its domains exist (R54); its arrays and its Hewer's lose their contents. -/
def faceAbsent (s : State) (f : Nat) : State :=
  let s := memClear (faceClear s f) fun a i _ => (a == 3 || a == 4) && i == f
  let s : State := { s with
    hewers := tabSet {} s.hewers f {}
    faces := tabSet {} s.faces f {}
    calQ := s.calQ.filter fun x => x.f != f
    assayQ := s.assayQ.filter fun x => x.f != f }
  ((assayIdle s f).wr (LANE_MAP_AUX_GEN f) 0).wr (FM_FACE_BUDGET_BUDGET f) 0

/-! ## REG_INIT (R60) -/

/-- Writes pairs in order as an owner client; under HOLD_FACES a write to OPT_CTRL leaves TARGET (R438). -/
def initWrites (s : State) (hold : Bool) (ps : List (Nat × Nat)) : State :=
  ps.foldl (fun t p =>
    let own := (List.range 16).find? fun f => OPT_CTRL f == p.1
    let v : Word := match own with
      | some f => if hold then fieldSet (BitVec.ofNat 32 p.2) 29 3 (t.rd (OPT_CTRL_TARGET f)) else BitVec.ofNat 32 p.2
      | none => BitVec.ofNat 32 p.2
    let (t, st) := busWrite t .direct p.1 v
    if st = stOk then t else logEvent t { code := 0x0143, a0 := p.1, a1 := st }) s

/-- REG_INIT of a record list. -/
def initOf (rs : List PRec) : List (Nat × Nat) := initPairs ((payloads rs 14).headD [])

/-! ## The whole plan (R70, R71) -/

/-- PLAN_STATUS, PLAN_COUNTER and PLAN_ID of the running plan. -/
def planShow (s : State) : State :=
  match s.plan with
  | some p => s.wrs [(PLAN_STATUS_SOURCE, p.source), (PLAN_STATUS_STATE, 4), (PLAN_COUNTER_RUNNING, p.counter), (PLAN_ID_LO_ID, p.id),
      (PLAN_ID_HI_ID, p.id / 2 ^ 32), (PRESENCE_PLAN, 1)]
  | none => s

/-- MICROCODE of H16 and H17. -/
def chipCode (rs : List PRec) : List (List Nat) := (payloads rs 6).filter fun d => decide (16 ≤ recField d 0 1)

/-- Records scoped to a face. -/
def faceRecs (rs : List PRec) (f : Nat) : List PRec := rs.filter fun r => r.face == some f

/-- Faces of a record list. -/
def planFaces (rs : List PRec) : List Nat := (List.range 16).filter (facesIn rs).contains

/-- Faces that a new plan starts over (R71): all where none ran, else those whose records differ. The same records in another order
count as a difference (DESIGN CHOICE, notes/assumptions/64.md). -/
def planRedo (run : Bool) (old new : List PRec) : List Nat :=
  (planFaces new).filter fun f => !run || !(planFaces old).contains f || faceRecs old f != faceRecs new f

/-- Faces that a new plan no longer holds. -/
def planGone (old new : List PRec) : List Nat := (planFaces old).filter fun f => !(planFaces new).contains f

/-- The new plan restarts H16 and H17, for which every face goes to SLEEP (R71). -/
def codeChange (run : Bool) (old new : List PRec) : Bool := run && chipCode old != chipCode new

/-- A plan load waits while a started sealing handshake is active on a face that it takes down (R31, R234). -/
def planWaits (s : State) (p : Plan) : Bool :=
  let old := runningRecs s
  let down := if codeChange s.plan.isSome old p.recs then planFaces old
    else (planFaces old).filter fun f => (planRedo s.plan.isSome old p.recs).contains f || (planGone old p.recs).contains f
  down.any fun f => s.rd (SEAL_STATUS_HS_STATE f) != 0

/-- Steps 1 to 7 of R70, keeping what R71 keeps: the state, and the faces that step 8 starts. -/
def planSteps (s : State) (p : Plan) (hold : Bool) : State × List Nat :=
  let run := s.plan.isSome
  let old := runningRecs s
  let new := p.recs
  let differs := fun ty => !run || payloads old ty != payloads new ty
  let code := codeChange run old new
  let had := planFaces old
  let have_ := planFaces new
  let redo := planRedo run old new
  let gone := planGone old new
  -- faces that change leave their traffic under the plan that ran
  let s := ((had.filter redo.contains) ++ gone).foldl faceDown s
  let s := if code then had.foldl (fun t f => toSleep (assayAbandon t f 5 3) f) (surveyStop s) else s
  let s : State := { s with plan := some p }
  let s := s.wr PRESENCE_FACES ((have_.map fun f => 2 ^ f).sum)
  -- 1: PLATFORM, POWER
  let s := if differs 3 then platformApply s else s
  let s := if differs 4 then powerApply s else s
  -- 2: TALLY_MAP, REGIONS (TRUSTED_KEYS and KEPT_BANKS are read from the plan)
  let s := if differs 9 then tallyApply s else s
  let s := if differs 3 || differs 13 then regionsApply s else s
  -- 3: H16 and H17
  let s := if !run || code then [16, 17].foldl (fun t n => hewerFresh (hewerLoad t n) n) s else s
  -- 4: faces
  let s := gone.foldl faceAbsent s
  let s := redo.foldl (fun t f => (faceFresh t f hold (had.contains f)).wr (FM_FACE_BUDGET_BUDGET f) (recField (faceIn new f) 6 2)) s
  -- 5: ports
  let s := redo.foldl (fun t f => dpRoles t f) (portsApply s (payloads old 2) (payloads new 2) (redo ++ gone))
  -- 6: MADC_SEQ and ASSAY
  let s := if differs 7 then seqLoad s else s
  let s := if differs 8 then assayApply s else s
  -- 7: REG_INIT
  let touched := redo ++ gone
  let pairs := if differs 14 then initOf new else (initOf new).filter fun x => touched.any fun f => inFace f x.1
  let s := initWrites (accRearm s) hold pairs
  (foremanApply (planShow (ddrEval s)), if code then have_ else redo)

/-- Sessions whose key TRUSTED_KEYS no longer lists, and that no owner slot holds, will end (R71). -/
def keysRemoved (s : State) (old : List PRec) : State :=
  let was := (trustedKeys old).map Prod.fst
  let now := (trustedKeys (runningRecs s)).map Prod.fst
  { s with sessions := s.sessions.map fun x =>
      if x.authed && was.contains x.key && !now.contains x.key && !ownerKey s.otp x.key then { x with doomed := true } else x }

/-- Applies a checked plan (R70): its steps, then every face that it starts (step 8), and the event. -/
def planApply (s : State) (p : Plan) (hold : Bool) : State :=
  let old := runningRecs s
  let (s, fs) := planSteps s p hold
  let s := (fs.foldl optWalk (keysRemoved s old)).wr RST_STATUS_STAGE 9
  logEvent { s with checked := none, booting := false } { code := 0x0140, a0 := p.id, a1 := p.id / 2 ^ 32 }

/-- What TRUSTED_KEYS and PLATFORM end after the operation's DONE is sent (R71): sessions of removed keys, and port B. -/
def planAfter (s : State) : State :=
  let s := sessionsEnd s Session.doomed
  if portBlock s 1 0 1 = 1 ∨ !s.on PRESENCE_PORT_B then s
  else
    let s := (sessionsEnd s fun x => x.port == 1).wr PRESENCE_PORT_B 0
    let s := s.dropRegs fun a => decide (CP_CTRL 1 ≤ a) && decide (a < CP_CTRL 1 + 0x100)
    { s with cpTry := tabSet 0 s.cpTry 1 0 }

/-! ## One face (R73, R441) -/

/-- Steps 3 to 7 of R73 on the running plan. -/
def faceReset (s : State) (f : Nat) : State :=
  if !facePresent s f then s
  else
    let s := faceFresh (faceDown s f) f false true
    let ps := (s.planRecs 2).filter fun d => recField d 2 1 == f
    let s := initWrites (accRearm (dpRoles s f)) false ((initOf (runningRecs s)).filter fun x => inFace f x.1)
    optWalk (foremanApply (portsStart s ps)) f

/-- FACE_REPLAN's steps 3 to 7: the image becomes the running plan, and only face `f` changes (R73). -/
def faceReplan (s : State) (p : Plan) (f : Nat) : State :=
  let old := runningRecs s
  let had := facePresent s f
  let s := if had then faceDown s f else s
  let s : State := { s with plan := some p }
  let here := (facesIn p.recs).contains f
  let s := s.wr PRESENCE_FACES (nbitSet (s.rd PRESENCE_FACES) f here)
  let s := if here then (faceFresh s f false had).wr (FM_FACE_BUDGET_BUDGET f) (recField (faceIn p.recs f) 6 2) else if had then faceAbsent s f else s
  let s := portsApply s (payloads old 2) (payloads p.recs 2) [f]
  let s := if here then dpRoles s f else s
  let s := initWrites (accRearm s) false ((initOf p.recs).filter fun x => inFace f x.1)
  let s := foremanApply (planShow (copyWrite s))
  let s := if here then optWalk s f else s
  logEvent { s with checked := none } { code := 0x0146, kind := 4, index := f, a0 := p.id, a1 := p.id / 2 ^ 32 }

/-- FACE_REPLAN's scope (R73): the images differ only in records scoped to `f`; records of optional types are scoped to no face (R48,
R49). Records of one type keep their order (notes/assumptions/64.md). -/
def scopeOk (old new : List PRec) (f : Nat) : Bool :=
  let chip := fun (rs : List PRec) => rs.filter fun r => r.face == none
  let opt := fun (rs : List PRec) => (chip rs).filter fun r => decide (15 ≤ r.ty)
  (List.range 16).all (fun g => g == f || faceRecs old g == faceRecs new g) &&
    ((List.range 15).all fun ty => payloads (chip old) ty == payloads (chip new) ty) && opt old == opt new

end Sys2Proof.Machine
end

