-- ==== Sys2Proof/Machine/Reset.lean ====
section
/-!
DEFINITION. Sys2Proof/Machine/Reset.lean: power-on, the five resets and what each keeps (R436-R448), start-up and the boot load (R66,
R444), the Canary (R360), reference clocks (R458), DEEP and its wake (R335-R341, R446), and what a register access leaves to
run after it.
-/
namespace Sys2Proof.Machine
open Sys2Proof

/-! ## Flash slots (R63, R64) -/

/-- `n` stored values from key `a` on in a list of cells with rising keys; `d` where none is listed. -/
def cellRun (d : Nat) : Nat → Nat → List Host.Cell → List Nat
  | 0, _, _ => []
  | n + 1, a, [] => d :: cellRun d n (a + 1) []
  | n + 1, a, (k, b) :: r => if k = a then b.toNat :: cellRun d n (a + 1) r else d :: cellRun d n (a + 1) ((k, b) :: r)

/-- `n` flash bytes from byte `a`. -/
def flashBytes (s : State) (a n : Nat) : List Nat := cellRun 0xFF n a (s.flash.filter fun c => decide (a ≤ c.1) && decide (c.1 < a + n))

/-- First byte of a slot, and of its commit record (R63). -/
def slotBase (slot : Nat) : Nat := slot * 0x1000000
def commitBase (slot : Nat) : Nat := slotBase slot + 0xFFF000

/-- A slot's valid commit record as (IMAGE_LEN, DIGEST, COUNTER) (R64). -/
def slotCommit (s : State) (slot : Nat) : Option (Nat × Nat × Nat) :=
  let d := flashBytes s (commitBase slot) 64
  if d.take 4 = [0x5A, 0x43, 0x4D, 0x54] ∧ recField d 60 4 = crc32 (d.take 60) ∧ recField d 4 4 ≤ imageMax then
    some (recField d 4 4, beNat ((d.drop 8).take 48), recField d 56 4)
  else none

/-- SLOT_A_VALID and SLOT_B_VALID (R64). -/
def slotsShow (s : State) : State :=
  s.wrs [(PLAN_STATUS_SLOT_A_VALID, bit (slotCommit s 0).isSome), (PLAN_STATUS_SLOT_B_VALID, bit (slotCommit s 1).isSome)]

/-- The image in a valid slot, as `checkImage` takes it. -/
def slotImage (s : State) (slot held : Nat) : List Nat :=
  let len := leNat (flashBytes s (slotBase slot + 28) 4)
  flashBytes s (slotBase slot) (if len ≤ held then len else 64)

/-- A load fails (R61): LAST_ERROR, and one event with the reason and PLAN_ID. -/
def planFailed (s : State) (reason id : Nat) : State :=
  logEvent (s.wr PLAN_STATUS_LAST_ERROR reason) { code := 0x0141, a0 := reason, a1 := id, a2 := id / 2 ^ 32 }

/-- An image has passed: its optional types are logged (R48), and it waits to be applied. -/
def planPassed (s : State) (p : Plan) : State :=
  { (optionalTypes p.recs).foldl (fun t ty => logEvent t { code := 0x0142, a0 := ty }) s with checked := some p }

/-! ## What a reset keeps (R447) -/

def keepRegs (s t : State) (as : List Nat) : State := as.foldl (fun t a => t.setReg a (s.reg a)) t
def keepFlds (s t : State) (fs : List Fld) : State := fs.foldl (fun t f => t.wr f (s.rd f)) t

/-- Everything at reset but flash and OTP, in which a burn under way stays uncommitted (R361, R443). -/
def resetBase (s : State) : State :=
  { State.reset with pending := s.pending, freeCtr := s.freeCtr, flash := s.flash, otp := (burnsStop s false).otp, ddrEpoch := s.ddrEpoch + 1 }

/-- BOARD_STATUS shows the reference clocks; the chip PLLs take REFCLK_B where it is there (R458). -/
def clockShow (s : State) : State :=
  s.wrs [(BOARD_STATUS_REFCLK_A_OK, bit !s.refALost), (BOARD_STATUS_REFCLK_B_OK, bit !s.refBLost), (BOARD_STATUS_CHIP_ON_XTAL, bit s.refBLost)]

/-- The urgent frame has left on the sidebands of some faces, and then they fall silent (R178, R187, R437, R439). -/
def urgentSent (fs : List Nat) (s : State) : State :=
  fs.foldl (fun t f => t.setFace f { t.face f with lastCmd := fsbCommand ⟨2, 15, 3, 0⟩ }) s

/-- A cold reset (R436, R437): the always-on items of R447 stay; the vault's clear is counted (R315). -/
def coldReset (s : State) : State :=
  let t : State := { resetBase s with time := s.time, mono := s.mono, refALost := s.refALost, refBLost := s.refBLost }
  let t := keepFlds s t [TIME_STATUS_STEPS, WAKE_SRC_WAKES, FUSE_STATUS_VPP_OK, VAULT_STATUS_CLEARS]
  urgentSent (List.range 16) (clockShow ((t.incMod VAULT_STATUS_CLEARS).wr RST_STATUS_LAST 1))

/-- VDD_AON falls (R360, R447): nothing volatile is left, the Canary's latch included. -/
def powerLoss (s : State) : State := { resetBase s with powered := false }

/-- Step 4 of R444 for the vault: IDENT_OK, or one event when its self-test fails (R315). -/
def vaultLoad (s : State) (ok : Bool) : State := if ok then s.wr VAULT_STATUS_IDENT_OK 1 else logEvent s { code := 0x0642 }

/-- Rows that the retirements in effect name (R409). -/
def rowsRetired (s : State) : List RowSeal :=
  (sealsInEffect s).filterMap fun r => if r.kind = 6 then some ⟨r.face, r.index, r.sub⟩ else none

/-- Steps 2 to 5 of R444, as far as they do not end on their own: straps, OTP, vault, self-calibration, port A, the loader. -/
def startUp (s : State) (strap : Nat) (vaultOk : Bool) : State :=
  let s : State := { s with started := true, rowSeals := rowsRetired s }
  let s := otpShow (s.wr FUSE_STATUS_STRAP strap)
  let s := slotsShow ((List.range 16).foldl limitsShow s)
  let s := cpRestart (vaultLoad s vaultOk) 0
  (clockShow s).wrs [(MADC_CTRL_SELFCAL, 1), (RST_STATUS_STAGE, 5)]

/-! ## The boot load (R66, R67) -/

/-- Slots that the loader tries, in order (R66, R438). -/
def bootSlots (s : State) : List Nat :=
  let ok := fun n => (slotCommit s n).isSome
  let ctr := fun n => ((slotCommit s n).map fun c => c.2.2).getD 0
  match s.rd FUSE_STATUS_STRAP % 4 with
  | 0 => (if ctr 0 < ctr 1 then [1, 0] else [0, 1]).filter ok
  | 1 => [0].filter ok
  | 2 => [1].filter ok
  | _ => []

/-- Tries slots until one passes (R66). -/
def bootTry (s : State) : List Nat → State
  | [] => { s.wrs [(PLAN_STATUS_STATE, 0), (PLAN_STATUS_SOURCE, 0)] with booting := false }
  | n :: ns =>
    match slotCommit s n with
    | none => bootTry s ns
    | some (len, dig, _) =>
      let img := slotImage s n len
      match checkImage s.otp (s.rd ⟨REV_ID, 0, 32⟩) img len (some dig) (fun _ => true) (n + 1) with
      | .error r => bootTry { planFailed s r (recField img 16 8) with bootTries := s.bootTries + 1 } ns
      | .ok p => planPassed (s.wrs [(PLAN_STATUS_STATE, 3), (RST_STATUS_STAGE, 6)]) p

/-- Does HOLD_FACES keep faces in SLEEP (R438)? -/
def holdFaces (s : State) : Bool := nbit (s.rd FUSE_STATUS_STRAP) 3

/-- The boot load's plan is applied (R62, R66, R440). -/
def bootApply (s : State) (p : Plan) : State :=
  let s := planApply s p (holdFaces s)
  s.wrs [(PLAN_STATUS_FALLBACK, bit (s.bootTries != 0)), (PLAN_STATUS_LAST_ERROR, if s.bootTries = 0 then 0 else s.rd PLAN_STATUS_LAST_ERROR)]

/-! ## Warm reset (R439, R440) -/

/-- Registers that a warm reset keeps whole. -/
def warmRegs : List Nat :=
  [WAKE_EN, WAKE_TIMER, WAKE_CODE_LO, WAKE_CODE_HI, HEAD_SEQ, BASE_SEQ, TALLY_LOST_A, TALLY_LOST_B, MADC_GAIN, MADC_OFFSET, FUSE_STATUS] ++
    (List.range 16).flatMap fun f => [OPT_LIM_A f, OPT_LIM_B f]

/-- Fields that it keeps. -/
def warmFlds : List Fld :=
  [TALLY_STATUS_FULL, TIME_STATUS_STEPS, VAULT_STATUS_CLEARS, WAKE_SRC_WAKES, MADC_STATUS_CAL_DONE, RST_STATUS_WARMS] ++
    (List.range 8).flatMap (fun c => [railMarginF c, railLimitF c]) ++ (List.range 34).flatMap fun n => [TS_FAILED n, TS_FAIL_CAUSE n]

/-- What both a warm reset and DEEP keep beside registers. Messages that the ports hold leave before the ports fall silent. -/
def keptBase (s : State) : State :=
  { State.reset with
    pending := s.pending
    freeCtr := s.freeCtr
    flash := s.flash
    otp := s.otp
    volatileSeals := s.volatileSeals
    rowSeals := s.rowSeals
    time := s.time
    mono := s.mono
    started := true
    sessionCount := s.sessionCount
    handleCount := s.handleCount
    streamCount := s.streamCount
    tx := s.tx
    gap := s.gap
    archNext := s.archNext
    archive := s.archive
    mirror := s.mirror
    setAge := s.setAge
    archEntries := s.archEntries
    archId := s.archId
    ddrLayout := s.ddrLayout
    ddrTrain := s.ddrTrain
    planCopyOk := s.planCopyOk
    ddrEpoch := s.ddrEpoch
    refALost := s.refALost
    refBLost := s.refBLost
    bytes := s.bytes
    tags := s.tags }

/-- Volatile retirements burn again when VPP_OK reads 1 (R359, R443). -/
def vppBurn (s : State) : State :=
  if s.on FUSE_STATUS_VPP_OK then
    let n := 255 - (s.otp.seals.length + sealsQueued s)
    otpShow { s with burnQ := s.burnQ ++ (s.volatileSeals.take n).map Burn.seal, volatileSeals := s.volatileSeals.drop n }
  else s

/-- One set from the mirror in DDR4, unless a word of it cannot be read (R379, R412). -/
def mirrorLoad (s : State) (e : Nat) : State :=
  let q := e / 5
  let i := e % 5
  let (s, words, ok) := ddrRead s (mirrorByte q i) 520
  let (s, hdr, ok') := ddrRead s (mirrorByte q i + 0x300) 4
  if ok && ok' then memWriteRun (s.setReg (SET_HDR q i) (BitVec.ofNat 32 (leNat hdr))) 9 0 65 (8 * setWord q i 0) words
  else { s with mirror := s.mirror.filter fun x => x != e }

/-- Survey's sets from the mirror (R379, R439 step 4). -/
def mirrorRestore (s : State) : State :=
  let t := s.mirror.foldl mirrorLoad s
  { t with setAge := t.setAge.filter fun e => t.mirror.contains e.1 }

/-- What the re-apply reads (R440): the image, what its source holds, and the digest that it must have; none when nothing can be read. -/
def reapplyImage (s : State) (p : Plan) : State × Option (List Nat × Nat × Nat) :=
  if s.rd PRESENCE_DDR ≠ 0 then
    if s.planCopyOk then
      let (s, img, ok) := ddrRead s 0 p.image.length
      (s, if ok then some (img, img.length, sha384 p.image) else none)
    else (s, none)
  else if p.source = 1 ∨ p.source = 2 then
    match slotCommit s (p.source - 1) with
    | some (len, dig, _) => (s, some (slotImage s (p.source - 1) len, len, dig))
    | none => (s, none)
  else (s, none)

/-- The loader goes to the slots of R66 after a re-apply that failed (R440). -/
def bootAgain (s : State) (reason id : Nat) : State := { planFailed s reason id with booting := true, bootTries := 1 }

/-- Step 5 (R440): the image is checked as R61 says. -/
def reapply (s : State) (p : Plan) (img : Option (List Nat × Nat × Nat)) : State :=
  match img with
  | none => bootAgain s 15 p.id
  | some (b, held, dig) =>
    match checkImage s.otp (s.rd ⟨REV_ID, 0, 32⟩) b held (some dig) (fun _ => true) p.source with
    | .error r => bootAgain s r p.id
    | .ok q => { planApply { planPassed s q with booting := true } q (holdFaces s) with bootTries := 0 }

/-- A warm reset (R439): light out, everything of step 2 ends, logic resets, and the plan that ran is applied again. -/
def warmReset (s : State) (c : WarmCause) : State :=
  let last := match c with | .rstCtrl _ => 2 | .h17Trap => 3 | .restore => 4
  let cause := match c with | .h17Trap => s.rd (HW_STATUS_CAUSE 17) | _ => 0
  let ident := s.rd VAULT_STATUS_IDENT_OK
  let s := (List.range 16).foldl (fun t f => if facePresent t f then toSleep t f else t) s
  let s := thawEff (vaultClear (burnsStop s false))
  let plan := s.plan
  let (s, img) := match plan with
    | some p => reapplyImage s p
    | none => (s, none)
  let s := memClear s fun a _ _ => a != 7 && !isDdr a
  let t := keepFlds s (keepRegs s (keptBase s) warmRegs) warmFlds
  let t := (t.incMod RST_STATUS_WARMS).wrs [(RST_STATUS_LAST, last), (RST_STATUS_H17_CAUSE, cause), (RST_STATUS_STAGE, 5), (VAULT_STATUS_IDENT_OK, ident)]
  let t := urgentSent ((List.range 16).filter (facePresent s)) t
  let t := cpRestart (clockShow (slotsShow (otpShow (mirrorRestore t)))) 0
  let t := match plan with
    | some p => reapply t p img
    | none => t
  vppBurn t

/-! ## Face and datapath reset (R441, R442) -/

/-- A receive datapath (R442). -/
def rxdReset (s : State) (f d : Nat) : State :=
  let lane := s.rd (RXD_STATUS_LANE f d)
  let role := s.rd (RXD_STATUS_ROLE f d)
  let s := if s.on (RXD_PRBS_CTRL_CHK_EN f d) then patEff s (.line (Fin.ofNat 16 f) (Fin.ofNat 9 d)) true false else s
  let s := rxdClearMem ((rxdRegsReset s f d lane role).dropCtrs (inRxd f d)) f d
  let s := if role = 1 ∧ lane < 9 then s.wr (TR_STATUS_STEER f d) 1 else s
  match servedLane s f d with
  | some p => if role = 1 then restartEff s f p else s
  | none => s

/-- A transmit datapath (R442): its registers, its shaping sets and the set in use. -/
def txdReset (s : State) (f d : Nat) : State :=
  let st := s.reg (TXD_STATUS f d)
  let s := if s.on (TXD_PRBS_CTRL_GEN_EN f d) then patEff s (.line (Fin.ofNat 16 f) (Fin.ofNat 9 d)) false false else s
  let s := txdClearMem ((s.dropRegs (inTxd f d)).dropCtrs (inTxd f d)) f d
  { (s.setReg (TXD_STATUS f d) st).wr (TXD_STATUS_APPLY_COUNT f d) 0 with
    shapes := tabSet {} s.shapes (9 * f + d) {}
    txds := tabSet {} s.txds (9 * f + d) {}
    gens := tabDrop (inTxd f d) s.gens
    injects := tabDrop (inTxd f d) s.injects }

/-- The datapaths of two masks. -/
def dpsReset (s : State) (f rx tx : Nat) : State :=
  let s := (List.range 9).foldl (fun t d => if nbit rx d then rxdReset t f d else t) s
  portsEval ((List.range 9).foldl (fun t d => if nbit tx d then txdReset t f d else t) s) (portsOfFace s f)

/-- FACE_RST.FACE runs once no handshake is active (R441, R448); FACE reads 0 from then on. -/
def faceRstRun (s : State) (f : Nat) : State :=
  if s.rd (SEAL_STATUS_HS_STATE f) ≠ 0 then s else (faceReset s f).wr (FACE_RST_FACE f) 0

/-! ## DEEP (R335-R341, R446) -/

/-- Banks of KEPT_BANKS as (class, index) (R338). -/
def keptBanks (s : State) : List (Nat × Nat) := banksIn ((s.planRecs 12).headD [])

/-- Where a bank lies: (array, copy, first byte, bytes) (R338). -/
def bankSpans (b : Nat × Nat) : List (Nat × Nat × Nat × Nat) :=
  match b.1 with
  | 1 => [(3, b.2, 0, 0x10000)]
  | 2 => [(4, b.2, 0, 0x20000)]
  | 3 => ((List.range 9).map fun d => (5, b.2, 4096 * d, 4 * 644)) ++ [(6, b.2, 0, 0x2400)]
  | _ => [(7, 0, 0, 0x80000)]

/-- Does a bank hold byte `b` of an array's copy? -/
def bankHolds (k : Nat × Nat) (a i b : Nat) : Bool :=
  (bankSpans k).any fun (x, j, o, n) => x == a && j == i && decide (o ≤ b) && decide (b < o + n)

/-- A bank's bytes in order. -/
def bankBytes (s : State) (k : Nat × Nat) : List Nat :=
  (bankSpans k).flatMap fun (a, i, o, n) =>
    cellRun 0 n (memKey a i o) (s.bytes.filter fun c => decide (memKey a i o ≤ c.1) && decide (c.1 < memKey a i o + n))

/-- The address of byte `n` of a bank. -/
def bankAddr : List (Nat × Nat × Nat × Nat) → Nat → Option (Nat × Nat × Nat)
  | [], _ => none
  | (a, i, o, len) :: r, n => if n < len then some (a, i, o + n) else bankAddr r (n - len)

/-- The state with the memory of `old` where `p` holds, and its own elsewhere. -/
def memTake (s old : State) (p : Nat → Nat → Nat → Bool) : State :=
  let split := fun k => (k / 2 ^ 48, k / 2 ^ 40 % 256, k % 2 ^ 40)
  let byte := fun (e : Host.Cell) => let (a, i, b) := split e.1; p a i b
  let word := fun (e : Nat × Option WordTag) => let (a, i, w) := split e.1; p a i (w * memWidth a)
  { s with
    bytes := (old.bytes.filter byte).foldl (fun t e => tabSet 0 t e.1 e.2) (s.bytes.filter fun e => !byte e)
    tags := (old.tags.filter word).foldl (fun t e => tabSet none t e.1 e.2) (s.tags.filter fun e => !word e) }

/-- The Tally store without its records (R338, R447). -/
def tallyDrop (s : State) : State := ((tallyClearEff s).setReg TALLY_LOST_A 0).setReg TALLY_LOST_B 0

/-- The steps of R335. A coefficient group that is kept keeps what it held before its face went to SLEEP (R447). -/
def deepEnter (s : State) : State :=
  let banks := keptBanks s
  let old := s
  let s := (List.range 16).foldl (fun t f => if facePresent t f then toSleep (assayAbandon t f 6 3) f else t) s
  let s := surveyStop (capDiscardAll (vaultClear s))
  let s := if banks.contains (4, 0) then s else tallyDrop s
  let s := memTake s old fun a i b => (a == 5 || a == 6) && banks.any fun k => bankHolds k a i b
  let s := memClear s fun a i w => !(isDdr a || a == 9 || banks.any fun k => bankHolds k a i (w * memWidth a))
  let s : State := { s with ops := [], chipTo := 0, keptCrc := banks.zipIdx.foldl (fun t e => tabSet 0 t e.2 (crc32 (bankBytes s e.1))) [] }
  s.wrs ([(FM_CHIP_STATUS_STATE, 2), (FM_CHIP_STATUS_TRANSIT, 0), (CP_STATUS_RATE 0, 3)] ++ (ddrFitted s).map fun c => (DDR_STATUS_SELF_REFRESH c, 1))

/-- Registers that DEEP keeps whole (R337, R447): those of the always-on domain among them. -/
def deepRegs (s : State) : List Nat :=
  [WAKE_EN, WAKE_TIMER, WAKE_CODE_LO, WAKE_CODE_HI, WAKE_SRC, RST_STATUS, FUSE_STATUS, HEAD_SEQ, BASE_SEQ, TALLY_LOST_A, TALLY_LOST_B, MADC_GAIN,
    MADC_OFFSET, FM_BUDGET, FM_EFFORT, TS_THROTTLE, TS_HYST, TIME_STATUS, BOARD_STATUS, PLAN_STATUS, PLAN_COUNTER] ++
    (List.range 4).flatMap (fun c => [FM_RAIL c, FM_FACE_RAIL c]) ++
    ((List.range 16).filter (facePresent s)).flatMap (fun f =>
      [FM_FACE_BUDGET f, OPT_CTRL f, LANE_MAP_RX f, LANE_MAP_AUX f, POS_MAP f, LANE_MAP_TX f, LANE_MAP_TX_AUX f, RELIEF_STATE f]) ++
    (List.range 144).flatMap fun q => (List.range 5).map fun i => SET_HDR q i

/-- Fields that it keeps. -/
def deepFlds (s : State) : List Fld :=
  [TALLY_STATUS_FULL, TALLY_STATUS_FROZEN, VAULT_STATUS_CLEARS, MADC_STATUS_CAL_DONE] ++
    (List.range 34).flatMap (fun n => [TS_FAILED n, TS_FAIL_CAUSE n]) ++
    ((List.range 16).filter (facePresent s)).flatMap fun f => (List.range 9).map fun p => LANE_EFFORT_CAP f p

/-- Step 3 of R336 in the order of R446, then steps 4 to 6; `bad` are the places of KEPT_BANKS whose check failed. -/
def wakeRestore (s : State) (p : Plan) (bad : List Nat) : State :=
  let banks := keptBanks s
  let lost := bad.filterMap fun i => banks[i]?
  let good := banks.filter fun k => !lost.contains k
  let s := if lost.contains (4, 0) then tallyDrop s else s
  let keep := fun a i b => isDdr a || a == 9 || good.any fun k => bankHolds k a i b
  let (t, fs) := planSteps (keepFlds s { keptBase s with frozenLost := s.frozenLost, rails := s.rails, burnQ := s.burnQ } [TALLY_STATUS_FROZEN]) p false
  let t := keepFlds s (keepRegs s t (deepRegs s)) (deepFlds s)
  let t := otpShow (slotsShow (memTake t s keep))
  let t := fs.foldl dpRoles t
  let t := cpRestart ({ t with booting := false }.wrs [(VAULT_STATUS_IDENT_OK, 1)]) 0
  let t := bad.foldl (fun t i =>
    let f := if i < 32 then WAKE_RETAIN_FAIL_LO_FAIL else WAKE_RETAIN_FAIL_HI_FAIL
    let t := logEvent (t.wr f (nbitSet (t.rd f) (i % 32) true)) { code := 0x0248, a0 := i }
    match bankSpans (banks.getD i (4, 0)) with
    | (a, j, o, _) :: _ => ownerNotice t a j (o / memWidth a)
    | [] => t) t
  let t := thawEff (logEvent t { code := 0x0247, a0 := s.rd WAKE_SRC_LAST })
  fs.foldl optWalk (foremanApply t)

/-- A wake source fires (R336): its registers, and the bytes of the banks that `flips` changed in DEEP. -/
def wakeBegin (s : State) (code : Nat) (flips : List (Fin 64 × BitVec 24 × BitVec 8)) : State :=
  let banks := keptBanks s
  let s := (s.wrs [(WAKE_SRC_LAST, code), (WAKE_SRC_PEND, nbitSet (s.rd WAKE_SRC_PEND) (code - 1) true)]).incMod WAKE_SRC_WAKES
  let s := flips.foldl (fun (t : State) e =>
    match banks[e.1.val]? with
    | some k => match bankAddr (bankSpans k) e.2.1.toNat with
      | some (a, i, b) => t.setByte a i b (t.byte a i b ^^^ e.2.2)
      | none => t
    | none => t) s
  s.wr FM_CHIP_STATUS_STATE 0

/-- A wake (R336, R341): the kept banks are checked first, and a plan copy that cannot be restored takes a warm reset (R339). -/
def wake (s : State) (code : Nat) (flips : List (Fin 64 × BitVec 24 × BitVec 8)) : State :=
  let s := wakeBegin s code flips
  match s.plan with
  | none => s
  | some p =>
    let banks := keptBanks s
    let (s, img) := reapplyImage s p
    if (img.map fun x => x.1) = some p.image then
      wakeRestore s p ((List.range banks.length).filter fun i => crc32 (bankBytes s (banks.getD i (4, 0))) != tabGet 0 s.keptCrc i)
    else warmReset s .restore

/-- In DEEP, with the source enabled (R340). -/
def inDeep (s : State) (src : Nat) : Bool :=
  s.powered && !s.canary && s.started && s.rd FM_CHIP_STATUS_STATE == 2 && (src == 3 || nbit (s.rd WAKE_EN_EN) src)

/-! ## What runs after a register access -/

/-- One action left by an access (R31; notes/assumptions/78.md). -/
def runDeferred (s : State) : Deferred → State
  | .warm c => warmReset s c
  | .face f => faceRstRun s f
  | .step n => hStep s n
  | .dps f rx tx => dpsReset s f rx tx
  | .deep => if 2 ≤ s.chipTo ∧ s.rd FM_CHIP_STATUS_STATE ≠ 2 ∧ handshakes s = false then deepEnter s else s

/-- Every action that accesses left, in their order, and those that these leave in turn. -/
def settleN : Nat → State → State
  | 0, s => { s with defer := [] }
  | k + 1, s =>
    match s.defer with
    | [] => s
    | d :: r => settleN k (runDeferred { s with defer := r } d)

def settle (s : State) : State := settleN 64 s

/-- A register write as a command of its own (notes/assumptions/30.md): it carries every privilege, `busStatus` holds its status, and
what it leaves runs after it. -/
def directWrite (s : State) (a v : Nat) : State :=
  let (t, st) := busWrite { s with actor := 3, defer := [] } .direct a (BitVec.ofNat 32 v)
  { settle { t with busStatus := st } with actor := 7 }

end Sys2Proof.Machine
end

