-- ==== Sys2Proof/Machine/HewerRows.lean ====
section
/-!
DEFINITION. Sys2Proof/Machine/HewerRows.lean: the commands of the Hewers: each instruction of R281 as Hewer `n` executes it, and what their
timers, watchdogs, interrupts, mailboxes and overlay engines do (R258-R287).
-/
namespace Sys2Proof.Machine
open Sys2Proof

/-! ## Instructions -/

/-- Hewer `n` can execute an instruction: it runs, and no overlay copy covers its PC (R281, R285). -/
def hewerMay (s : State) (n : Nat) : Bool := s.alive && s.rd (HW_STATUS_STATE n) == 1 && !ovlCovers s n (s.rd (HW_STATUS_PC n))

/-- Hewer `n` executes one instruction at its PC, with what the instruction's accesses leave to run (R286, R439). -/
def hewerOp (s : State) (n : Nat) (i : HInstr) : State := guardS (hewerMay s n) s fun s => settle (hRun s.calm n i)

/-- An instruction word that R281 reserves traps ILLEGAL (R278). -/
def hewerIllegal (s : State) (n : Nat) : State := guardS (hewerMay s n) s fun s => settle (hTrap s.calm n tIllegal (s.rd (HW_STATUS_PC n)))

/-- ADD (R281). -/
def execAdd (n : Fin 18) (d : Fin 64) (u : Fin 64) (v : Fin 64) (s : State) : Out := .next (hewerOp s n.val (.alu .add false d u v))

/-- SUB (R281). -/
def execSub (n : Fin 18) (d : Fin 64) (u : Fin 64) (v : Fin 64) (s : State) : Out := .next (hewerOp s n.val (.alu .sub false d u v))

/-- AND (R281). -/
def execAnd (n : Fin 18) (d : Fin 64) (u : Fin 64) (v : Fin 64) (s : State) : Out := .next (hewerOp s n.val (.alu .and false d u v))

/-- OR (R281). -/
def execOr (n : Fin 18) (d : Fin 64) (u : Fin 64) (v : Fin 64) (s : State) : Out := .next (hewerOp s n.val (.alu .or false d u v))

/-- XOR (R281). -/
def execXor (n : Fin 18) (d : Fin 64) (u : Fin 64) (v : Fin 64) (s : State) : Out := .next (hewerOp s n.val (.alu .xor false d u v))

/-- SHL (R281). -/
def execShl (n : Fin 18) (d : Fin 64) (u : Fin 64) (v : Fin 64) (s : State) : Out := .next (hewerOp s n.val (.alu .shl false d u v))

/-- SHR (R281). -/
def execShr (n : Fin 18) (d : Fin 64) (u : Fin 64) (v : Fin 64) (s : State) : Out := .next (hewerOp s n.val (.alu .shr false d u v))

/-- SRA (R281). -/
def execSra (n : Fin 18) (d : Fin 64) (u : Fin 64) (v : Fin 64) (s : State) : Out := .next (hewerOp s n.val (.alu .sra false d u v))

/-- MIN (R281). -/
def execMin (n : Fin 18) (d : Fin 64) (u : Fin 64) (v : Fin 64) (s : State) : Out := .next (hewerOp s n.val (.alu .min false d u v))

/-- MAX (R281). -/
def execMax (n : Fin 18) (d : Fin 64) (u : Fin 64) (v : Fin 64) (s : State) : Out := .next (hewerOp s n.val (.alu .max false d u v))

/-- ADD16X2 (R267). -/
def execAdd16x2 (n : Fin 18) (half : Bool) (sat : Bool) (d : Fin 64) (u : Fin 64) (v : Fin 64) (s : State) : Out := .next (hewerOp s n.val (.alu (.add16 half) sat d u v))

/-- SUB16X2 (R267). -/
def execSub16x2 (n : Fin 18) (half : Bool) (sat : Bool) (d : Fin 64) (u : Fin 64) (v : Fin 64) (s : State) : Out := .next (hewerOp s n.val (.alu (.sub16 half) sat d u v))

/-- CONJ (R281). -/
def execConj (n : Fin 18) (d : Fin 64) (u : Fin 64) (s : State) : Out := .next (hewerOp s n.val (.alu .conj false d u 0))

/-- SWAPH (R281). -/
def execSwaph (n : Fin 18) (d : Fin 64) (u : Fin 64) (s : State) : Out := .next (hewerOp s n.val (.alu .swaph false d u 0))

/-- ADDI (R281). -/
def execAddi (n : Fin 18) (d : Fin 64) (u : Fin 64) (imm : BitVec 12) (s : State) : Out := .next (hewerOp s n.val (.addi d u imm))

/-- MOVI (R281). -/
def execMovi (n : Fin 18) (d : Fin 64) (imm : BitVec 18) (s : State) : Out := .next (hewerOp s n.val (.movi d imm))

/-- MOVHI (R281). -/
def execMovhi (n : Fin 18) (d : Fin 64) (imm : BitVec 18) (s : State) : Out := .next (hewerOp s n.val (.movhi d imm))

/-- CMP (R281). -/
def execCmp (n : Fin 18) (u : Fin 64) (v : Fin 64) (s : State) : Out := .next (hewerOp s n.val (.cmp u v))

/-- EXP (R268). -/
def execExp (n : Fin 18) (d : Fin 64) (u : Fin 64) (s : State) : Out := .next (hewerOp s n.val (.exp d u))

/-- EXPM (R268). -/
def execExpm (n : Fin 18) (d : Fin 64) (u : Fin 64) (v : Fin 64) (s : State) : Out := .next (hewerOp s n.val (.expm d u v))

/-- HIST (R269). -/
def execHist (n : Fin 18) (sat : Bool) (d : Fin 64) (u : Fin 64) (v : Fin 64) (s : State) : Out := .next (hewerOp s n.val (.hist sat d u v))

/-- MFS (R262). -/
def execMfs (n : Fin 18) (d : Fin 64) (idx : BitVec 12) (s : State) : Out := .next (hewerOp s n.val (.mfs d idx))

/-- MTS (R262). -/
def execMts (n : Fin 18) (u : Fin 64) (idx : BitVec 12) (s : State) : Out := .next (hewerOp s n.val (.mts u idx))

/-- MAC2 (R281). -/
def execMac2 (n : Fin 18) (sat : Bool) (a : Fin 4) (u : Fin 64) (v : Fin 64) (neg : Bool) (s : State) : Out := .next (hewerOp s n.val (.mac .mac2 sat a u v 0 neg))

/-- CMAC (R264). -/
def execCmac (n : Fin 18) (sat : Bool) (a : Fin 4) (u : Fin 64) (v : Fin 64) (neg : Bool) (s : State) : Out := .next (hewerOp s n.val (.mac .cmac sat a u v 0 neg))

/-- CMACJ (R264). -/
def execCmacj (n : Fin 18) (sat : Bool) (a : Fin 4) (u : Fin 64) (v : Fin 64) (neg : Bool) (s : State) : Out := .next (hewerOp s n.val (.mac .cmacj sat a u v 0 neg))

/-- CMADD (R264). -/
def execCmadd (n : Fin 18) (sat : Bool) (a : Fin 4) (u : Fin 64) (v : Fin 64) (w : Fin 64) (neg : Bool) (s : State) : Out := .next (hewerOp s n.val (.mac .cmadd sat a u v w neg))

/-- CMADDJ (R264). -/
def execCmaddj (n : Fin 18) (sat : Bool) (a : Fin 4) (u : Fin 64) (v : Fin 64) (w : Fin 64) (neg : Bool) (s : State) : Out := .next (hewerOp s n.val (.mac .cmaddj sat a u v w neg))

/-- ASET (R281). -/
def execAset (n : Fin 18) (a : Fin 4) (u : Fin 64) (s : State) : Out := .next (hewerOp s n.val (.aset a u))

/-- ACLR (R281). -/
def execAclr (n : Fin 18) (a : Fin 4) (s : State) : Out := .next (hewerOp s n.val (.aclr a))

/-- ASHR (R281). -/
def execAshr (n : Fin 18) (sat : Bool) (a : Fin 4) (sh : BitVec 6) (s : State) : Out := .next (hewerOp s n.val (.ashr sat a sh))

/-- EXTR (R266). -/
def execExtr (n : Fin 18) (sat : Bool) (d : Fin 64) (a : Fin 4) (sh : BitVec 6) (s : State) : Out := .next (hewerOp s n.val (.extr sat d a sh))

/-- NORM (R268). -/
def execNorm (n : Fin 18) (d : Fin 64) (a : Fin 4) (s : State) : Out := .next (hewerOp s n.val (.norm d a))

/-- LDW (R270). -/
def execLdw (n : Fin 18) (d : Fin 64) (p : Fin 8) (upd : Fin 4) (off : BitVec 13) (s : State) : Out := .next (hewerOp s n.val (.load .w d p upd off))

/-- LDD (R270): a 64-bit access names an even register, and an odd one is ILLEGAL (notes/assumptions/29.md). -/
def execLdd (n : Fin 18) (d : Fin 64) (p : Fin 8) (upd : Fin 4) (off : BitVec 13) (s : State) : Out := .next (if d.val % 2 = 1 then hewerIllegal s n.val else hewerOp s n.val (.load .d d p upd off))

/-- LDH (R270). -/
def execLdh (n : Fin 18) (d : Fin 64) (p : Fin 8) (upd : Fin 4) (off : BitVec 13) (s : State) : Out := .next (hewerOp s n.val (.load .h d p upd off))

/-- LDB (R270). -/
def execLdb (n : Fin 18) (d : Fin 64) (p : Fin 8) (upd : Fin 4) (off : BitVec 13) (s : State) : Out := .next (hewerOp s n.val (.load .b d p upd off))

/-- STW (R270). -/
def execStw (n : Fin 18) (d : Fin 64) (p : Fin 8) (upd : Fin 4) (off : BitVec 13) (s : State) : Out := .next (hewerOp s n.val (.store .w d p upd off))

/-- STD (R270): a 64-bit access names an even register, and an odd one is ILLEGAL (notes/assumptions/29.md). -/
def execStd (n : Fin 18) (d : Fin 64) (p : Fin 8) (upd : Fin 4) (off : BitVec 13) (s : State) : Out := .next (if d.val % 2 = 1 then hewerIllegal s n.val else hewerOp s n.val (.store .d d p upd off))

/-- STH (R270). -/
def execSth (n : Fin 18) (d : Fin 64) (p : Fin 8) (upd : Fin 4) (off : BitVec 13) (s : State) : Out := .next (hewerOp s n.val (.store .h d p upd off))

/-- STB (R270). -/
def execStb (n : Fin 18) (d : Fin 64) (p : Fin 8) (upd : Fin 4) (off : BitVec 13) (s : State) : Out := .next (hewerOp s n.val (.store .b d p upd off))

/-- SETP (R271): selectors 0-23 name P0-P7, M0-M7, K0-K7; the rest is ILLEGAL (notes/assumptions/29.md). -/
def execSetp (n : Fin 18) (sel : Fin 64) (u : Fin 64) (s : State) : Out := .next (if h : sel.val < 24 then hewerOp s n.val (.setp ⟨sel.val, h⟩ u) else hewerIllegal s n.val)

/-- GETP (R281): selectors 0-23 name P0-P7, M0-M7, K0-K7; the rest is ILLEGAL (notes/assumptions/29.md). -/
def execGetp (n : Fin 18) (d : Fin 64) (sel : Fin 64) (s : State) : Out := .next (if h : sel.val < 24 then hewerOp s n.val (.getp d ⟨sel.val, h⟩) else hewerIllegal s n.val)

/-- PADDI (R281). -/
def execPaddi (n : Fin 18) (p : Fin 8) (imm : BitVec 12) (s : State) : Out := .next (hewerOp s n.val (.paddi p imm))

/-- BR (R281). -/
def execBr (n : Fin 18) (off : BitVec 24) (s : State) : Out := .next (hewerOp s n.val (.br off))

/-- BCC (R281): conditions 0-5; the rest is ILLEGAL. -/
def execBcc (n : Fin 18) (c : Fin 16) (off : BitVec 20) (s : State) : Out := .next (if h : c.val < 6 then hewerOp s n.val (.bcc ⟨c.val, h⟩ off) else hewerIllegal s n.val)

/-- CALL (R281). -/
def execCall (n : Fin 18) (off : BitVec 24) (s : State) : Out := .next (hewerOp s n.val (.call off))

/-- JR (R281). -/
def execJr (n : Fin 18) (u : Fin 64) (s : State) : Out := .next (hewerOp s n.val (.jr u))

/-- LOOP (R272). -/
def execLoop (n : Fin 18) (l : Fin 2) (u : Fin 64) (off : BitVec 16) (s : State) : Out := .next (hewerOp s n.val (.loop false l u off))

/-- LOOPR (R273). -/
def execLoopr (n : Fin 18) (l : Fin 2) (u : Fin 64) (off : BitVec 16) (s : State) : Out := .next (hewerOp s n.val (.loop true l u off))

/-- RETI (R277). -/
def execReti (n : Fin 18) (s : State) : Out := .next (hewerOp s n.val .reti)

/-- NOP (R281). -/
def execNop (n : Fin 18) (s : State) : Out := .next (hewerOp s n.val .nop)

/-- WAIT (R281). -/
def execWait (n : Fin 18) (s : State) : Out := .next (hewerOp s n.val .wait)

/-- EI (R281). -/
def execEi (n : Fin 18) (s : State) : Out := .next (hewerOp s n.val .ei)

/-- DI (R281). -/
def execDi (n : Fin 18) (s : State) : Out := .next (hewerOp s n.val .di)

/-- SYNC (R281). -/
def execSync (n : Fin 18) (s : State) : Out := .next (hewerOp s n.val .sync)

/-- TRAP (R278). -/
def execTrap (n : Fin 18) (s : State) : Out := .next (hewerOp s n.val .trap)

/-- BKPT (R278). -/
def execBkpt (n : Fin 18) (s : State) : Out := .next (hewerOp s n.val .bkpt)

/-! ## Beside the instructions -/

/-- R260: the oldest posted write's status. -/
def execPostedWriteStatus (n : Fin 18) (s : State) : Out := .next (guardS s.alive s fun s => postedReturn s n.val)

/-- R277: the first unmasked pending source, while IE is 1. -/
def execInterruptEntry (n : Fin 18) (s : State) : Out :=
  .next (guardS (hewerMay s n.val && nbit (s.hw n.val).hsr hsrIE) s fun s =>
    match irqFirst s n.val with
    | some i => irqEnter s n.val i
    | none => s)

/-- R276: source 1, while the timer has a period. -/
def execHwTimer (n : Fin 18) (s : State) : Out :=
  .next (guardS (s.alive && s.rd (HW_STATUS_STATE n.val) != 0 && s.reg (HW_TIMER n.val) != 0) s fun s => raiseIrq s n.val 1)

/-- R284: source 0 at half the period. -/
def execWatchdogWarning (n : Fin 18) (s : State) : Out :=
  .next (guardS (s.alive && hewerRuns s n.val && s.rd (HW_WDOG_PERIOD n.val) != 0 && !(s.hw n.val).warned) s fun s =>
    raiseIrq (s.setHw n.val { s.hw n.val with warned := true }) n.val 0)

/-- R284: the trap at the full period; H17's is followed by a warm reset. -/
def execWatchdog (n : Fin 18) (s : State) : Out :=
  .next (guardS (s.alive && hewerRuns s n.val && s.rd (HW_WDOG_PERIOD n.val) != 0) s fun s =>
    settle (hTrap s.calm n.val tWatchdog (s.rd (HW_STATUS_PC n.val))))

/-- R284: the write of HW_WDOG.KICK. -/
def execKick (n : Fin 18) (s : State) : Out := .next (guardS s.alive s fun s => directWrite s (HW_WDOG n.val) (actionValue s (HW_WDOG n.val) 15))

/-- R286: the write of HW_CTRL.RUN. -/
def execHewerRun (n : Fin 18) (run : Bool) (s : State) : Out := .next (guardS s.alive s fun s => directWrite s (HW_CTRL n.val) (bit run * 2 ^ 31))

/-- R286: the write of HW_CTRL.RESET, RUN kept. -/
def execHewerReset (n : Fin 18) (s : State) : Out :=
  .next (guardS s.alive s fun s => directWrite s (HW_CTRL n.val) (actionValue s (HW_CTRL n.val) 30))

/-- R286: the write of HW_CTRL.STEP, RUN kept. -/
def execHewerStep (n : Fin 18) (s : State) : Out :=
  .next (guardS s.alive s fun s => directWrite s (HW_CTRL n.val) (actionValue s (HW_CTRL n.val) 29))

/-- R276: the write of HW_MBOX_IN. -/
def execHwMboxIn (n : Fin 18) (value : Word) (s : State) : Out := .next (guardS s.alive s fun s => directWrite s (HW_MBOX_IN n.val) value.toNat)

/-- R258: the write of program word `w`. -/
def execProgramMemoryWrite (n : Fin 18) (w : Fin 16384) (value : Word) (s : State) : Out :=
  .next (guardS s.alive s fun s => directWrite s (0x4000000 + n.val * 0x100000 + 4 * w.val) value.toNat)

/-- R285: the write of HW_OVL_CTRL with START; `out` is DIR. -/
def execOverlayStart (n : Fin 18) (out : Bool) (len : BitVec 17) (s : State) : Out :=
  .next (guardS s.alive s fun s => directWrite s (HW_OVL_CTRL n.val) (2 ^ 31 + bit out * 2 ^ 30 + len.toNat))

/-- R285. -/
def execOverlayDone (n : Fin 18) (s : State) : Out :=
  .next (guardS (s.alive && s.on (HW_OVL_CTRL_START n.val)) s fun s => settle (ovlDone s.calm n.val))

/-- R283: firmware's write of HW_ADAPT.ACK through the near window. -/
def execAck (f : Fin 16) (s : State) : Out :=
  .next (guardS (hewerMay s f.val) s fun s => settle (hNearWrite s.calm f.val (HW_ADAPT f.val) (2 ^ 30)))

/-- R284: 10 ms after H16's trap. -/
def execH16Restart (s : State) : Out :=
  .next (guardS (s.alive && s.rd (HW_STATUS_STATE 16) == 4) s fun s => hewerReset (logEvent s { code := 0x0941, kind := 5, index := 16 }) 16)

end Sys2Proof.Machine
end

