-- ==== Sys2Proof/Machine/Gcm.lean ====
section
/-!
DEFINITION. Sys2Proof/Machine/Gcm.lean: AES-256-GCM (R297), as FIPS 197 and NIST SP 800-38D define it, over lists of bytes.
-/
namespace Sys2Proof.Machine
open Sys2Proof

/-! ## AES-256 -/

/-- Twice a byte in GF(2^8). -/
def gfDouble (a : Nat) : Nat := if a < 128 then 2 * a else Nat.xor (2 * a % 256) 0x1B

/-- Product in GF(2^8), over the low `n` bits of `b`. -/
def gcmMul : Nat → Nat → Nat → Nat
  | 0, _, _ => 0
  | n + 1, a, b => Nat.xor (if b % 2 = 1 then a else 0) (gcmMul n (gfDouble a) (b / 2))

/-- a^(2^(n+1) − 2) in GF(2^8): the inverse for n = 7, and 0 for 0. -/
def gfInvStep : Nat → Nat → Nat
  | 0, _ => 1
  | n + 1, a =>
    let q := gcmMul 8 a a
    gcmMul 8 q (gfInvStep n q)

/-- A byte turned left by `k` bits. -/
def rotByte (k a : Nat) : Nat := a * 2 ^ k % 256 + a / 2 ^ (8 - k)

/-- SubBytes of one byte. -/
def aesSub (a : Nat) : Nat :=
  let b := gfInvStep 7 a
  [rotByte 1 b, rotByte 2 b, rotByte 3 b, rotByte 4 b, 0x63].foldl Nat.xor b

/-- XOR of two lists of bytes. -/
def xorBytes (a b : List Nat) : List Nat := List.zipWith Nat.xor a b

/-- The next word of the key schedule: word `i` from the eight before it, newest first. -/
def aesNextWord (i rcon : Nat) (ws : List (List Nat)) : List Nat :=
  let t := ws.headD []
  let t := if i % 8 = 0 then xorBytes ((t.drop 1 ++ t.take 1).map aesSub) [rcon, 0, 0, 0]
    else if i % 8 = 4 then t.map aesSub
    else t
  xorBytes (ws.getD 7 []) t

/-- `n` more words of the key schedule, newest first. -/
def aesWords : Nat → Nat → Nat → List (List Nat) → List (List Nat)
  | 0, _, _, ws => ws
  | n + 1, i, rcon, ws => aesWords n (i + 1) (if i % 8 = 0 then gfDouble rcon else rcon) (aesNextWord i rcon ws :: ws)

/-- The fifteen round keys of a 32-byte key. -/
def aesKeys (key : List Nat) : List (List Nat) :=
  let ws := (aesWords 52 8 1 ((List.range 8).map fun j => (key.drop (4 * j)).take 4).reverse).reverse
  (List.range 15).map fun r => ((ws.drop (4 * r)).take 4).flatten

/-- ShiftRows: byte r + 4c of the state, in column order. -/
def aesShift (s : List Nat) : List Nat := (List.range 16).map fun j => s.getD ((j + 4 * (j % 4)) % 16) 0

/-- MixColumns of one column. -/
def aesMixColumn (c : List Nat) : List Nat :=
  (List.range 4).map fun i =>
    let x := fun k => c.getD ((i + k) % 4) 0
    [Nat.xor (gfDouble (x 1)) (x 1), x 2, x 3].foldl Nat.xor (gfDouble (x 0))

def aesMix (s : List Nat) : List Nat := (List.range 4).flatMap fun j => aesMixColumn ((s.drop (4 * j)).take 4)

/-- The rounds that remain: the last one has no MixColumns. -/
def aesRounds : List (List Nat) → List Nat → List Nat
  | [], s => s
  | [k], s => xorBytes (aesShift (s.map aesSub)) k
  | k :: ks, s => aesRounds ks (xorBytes (aesMix (aesShift (s.map aesSub))) k)

/-- One block under round keys. -/
def aesBlock (keys : List (List Nat)) (block : List Nat) : List Nat := aesRounds (keys.drop 1) (xorBytes block (keys.headD []))

/-! ## GCM -/

/-- Product in GF(2^128): `n` bits of `x` from its most significant on, `v` shifted along. -/
def ghashMul : Nat → Nat → Nat → Nat
  | 0, _, _ => 0
  | n + 1, x, v => Nat.xor (if x / 2 ^ n % 2 = 1 then v else 0) (ghashMul n x (if v % 2 = 1 then Nat.xor (v / 2) (0xE1 * 2 ^ 120) else v / 2))

/-- Bytes in blocks of 16, the last one filled with zeros. -/
def blocks16 (b : List Nat) : List (List Nat) :=
  (List.range (ceilDiv b.length 16)).map fun j => (b ++ List.replicate 15 0).drop (16 * j) |>.take 16

/-- GHASH of additional data and ciphertext under H. -/
def ghash (h : Nat) (aad cipher : List Nat) : Nat :=
  let lens := aad.length * 8 * 2 ^ 64 + cipher.length * 8
  ((blocks16 aad ++ blocks16 cipher).map beNat ++ [lens]).foldl (fun y x => ghashMul 128 (Nat.xor y x) h) 0

/-- Counter block `i` for a 12-byte nonce. -/
def gcmCounter (nonce : List Nat) (i : Nat) : List Nat := nonce ++ (leBytes 4 i).reverse

/-- Encrypts or decrypts. -/
def gcmCrypt (key nonce text : List Nat) : List Nat :=
  let ks := aesKeys key
  xorBytes text ((List.range (ceilDiv text.length 16)).flatMap fun j => aesBlock ks (gcmCounter nonce (j + 2)))

/-- The 16-byte tag over additional data and ciphertext. -/
def gcmTag (key nonce aad cipher : List Nat) : List Nat :=
  let ks := aesKeys key
  let y := ghash (beNat (aesBlock ks (List.replicate 16 0))) aad cipher
  xorBytes (leBytes 16 y).reverse (aesBlock ks (gcmCounter nonce 1))

end Sys2Proof.Machine
end

