-- ==== Sys2Proof/Machine/Zcp.lean ====
section
/-!
DEFINITION. Sys2Proof/Machine/Zcp.lean: how the part handles a ZCP message (R295-R310), session set-up (R300-R306), register requests
(R308, R309), SNAP, TALLY_FREEZE and TALLY_THAW (R427, R431), arming and streams (R246, R252), and how sessions end (R305).
-/
namespace Sys2Proof.Machine
open Sys2Proof

/-! ## Requests and replies (R296-R299) -/

/-- A port answers: the part runs and the port exists (R288). -/
def portAlive (s : State) (n : Nat) : Bool := s.alive && portExists s n

/-- The reply to a request that names no session of this port (R305): unprotected, AUTH_FAIL, LENGTH 0. -/
def replyUnknown (s : State) (r : Req) (op : Nat) : State :=
  let m : Msg := { port := r.port.val, session := r.session.toNat, seq := r.seq.toNat, ver := 256 * r.major.toNat + r.minor.toNat, op := op,
                   flags := 1, status := stAuthFail, words := [], bare := true }
  s.send m

/-! ## Messages on the wire (R295-R297, R308) -/

/-- A message's header (R296). -/
def headerBytes (ver op flags session seq len status : Nat) : List Nat :=
  [0x5A, 0x43, 0x50, 0x31, ver / 256 % 256, ver % 256, op, flags] ++ leBytes 8 session ++ leBytes 8 seq ++ leBytes 4 len ++ [status, 0, 0, 0]

/-- The datagram that a message of the device is (R295, R297): header, ciphertext and tag under the session's outgoing key and SALT. HELLO's
reply and the reply of R305 are not protected. -/
def msgDatagram (s : State) (m : Msg) : List Nat :=
  let text := m.words.flatMap fun w => leBytes 4 w.toNat
  let h := headerBytes m.ver m.op m.flags m.session m.seq text.length m.status
  match s.session m.session with
  | some x =>
    if m.bare then h ++ text
    else
      let nonce := x.saltOut ++ leBytes 8 m.seq
      let c := gcmCrypt x.keyOut nonce text
      h ++ c ++ gcmTag x.keyOut nonce h c
  | none => h ++ text

/-- Request payloads (R308, R309): READ, WRITE, the blocks, a handle, one byte, and STREAM_OPEN. -/
def payRead (a : BitVec 32) : List Nat := leBytes 4 a.toNat
def payWrite (a v : BitVec 32) : List Nat := leBytes 4 a.toNat ++ leBytes 4 v.toNat
def payReadBlock (a : BitVec 32) (n : Nat) : List Nat := leBytes 4 a.toNat ++ leBytes 2 n ++ [0, 0]
def payWriteBlock (a : BitVec 32) (vs : List Word) : List Nat := payReadBlock a vs.length ++ vs.flatMap fun v => leBytes 4 v.toNat
def payHandle (h : BitVec 16) : List Nat := leBytes 2 h.toNat ++ [0, 0]
def payByte (b : BitVec 8) : List Nat := [b.toNat, 0, 0, 0]
def payStream (src index : BitVec 8) (consume : Bool) (credit : BitVec 16) : List Nat :=
  [src.toNat, index.toNat, bit consume, 0] ++ leBytes 2 credit.toNat ++ [0, 0]

/-- ARGS of OP_START (R312). -/
def OpKind.args : OpKind → List Nat
  | .calibrate f lanes kind => [f] ++ leBytes 2 lanes ++ [kind]
  | .assayRun f dps => [f] ++ leBytes 2 dps
  | .scrubFull t => [t]
  | .captureDrain c => [c]
  | .planLoad src => [src]
  | .flashWrite slot _ => [slot]
  | .ddrTest chans pattern => [chans, pattern]
  | .burnFloor v => [1, v]
  | .burnLimits => [2]
  | .burnKey slot digest => [3, slot] ++ (leBytes 48 digest).reverse
  | .burnRevoke slot => [4, slot]
  | .faceReplan f src => [f, src]

/-- Payload of OP_START (R312): FLAGS bit 0 is FORCE. -/
def payOp (k : OpKind) : List Nat :=
  [k.code, match k with | .flashWrite _ force => bit force | _ => 0, 0, 0] ++ k.args

/-- Does a request's tag verify under its session's incoming key and SALT (R297)? -/
def tagOk (x : Session) (r : Req) (op : Nat) (payload : List Nat) : Bool :=
  match r.tag with
  | .verdict ok => ok
  | .bytes t =>
    let nonce := x.saltIn ++ leBytes 8 r.seq.toNat
    let h := headerBytes (256 * r.major.toNat + r.minor.toNat) op 0 r.session.toNat r.seq.toNat payload.length 0
    gcmTag x.keyIn nonce h (gcmCrypt x.keyIn nonce payload) == (leBytes 16 t.toNat).reverse

/-- Sends a session's reply and keeps it among its last 64 (R298); a session that has ended gets none. -/
def reply (s : State) (r : Req) (op st : Nat) (ws : List Word) : State :=
  match s.session r.session.toNat with
  | none => s
  | some x =>
    let m : Msg := { port := x.port, session := x.id, seq := r.seq.toNat, ver := x.ver, op := op, flags := 1, status := st, words := ws }
    (s.sessUpd x.id fun y => { y with cache := (m :: y.cache).take 64, sent := max y.sent m.seq }).send m

/-- A message whose tag does not verify (R297): counted, and the sixteenth in a row ends the session. -/
def tagFailed (s : State) (x : Session) : State :=
  let s := (s.incSat (CP_ERRS_BAD_TAG x.port)).sessUpd x.id fun y => { y with badTags := y.badTags + 1 }
  if 16 ≤ x.badTags + 1 then sessionEnd s x.id else s

/-- What a request meets before it is executed: everything that R297-R299 settle is in the state given back, or the session with
which it executes. -/
inductive Intake where
  | settled (s : State)
  | go (s : State) (x : Session)

/-- R297-R299, R305, R306, in that order. -/
def intake (s : State) (r : Req) (op : Nat) (payload : List Nat) : Intake :=
  match s.session r.session.toNat with
  | none => .settled (replyUnknown s r op)
  | some x =>
    if x.port ≠ r.port.val then .settled (replyUnknown s r op)
    else if !tagOk x r op payload then .settled (tagFailed s x)
    else
      let s := s.sessUpd x.id fun y => { y with badTags := 0 }
      match x.cache.find? fun m => m.seq == r.seq.toNat with
      | some m => .settled (s.send m)
      | none =>
        if r.executing.contains r.seq then .settled s
        else if r.seq.toNat ≤ x.high then .settled (s.incSat (CP_ERRS_STALE x.port))
        else
          let s := pcCount (s.sessUpd x.id fun y => { y with high := r.seq.toNat }) (66 + x.port) 2 15 1
          if 16 ≤ r.executing.length then .settled (reply (s.incSat (CP_ERRS_OVERFLOW x.port)) r op stBusy [])
          else if 256 * r.major.toNat + r.minor.toNat ≠ x.ver then .settled (reply s r op stBadVersion [])
          else .go s x

/-- Versions that take an opcode or operation (R306, R307). -/
inductive Since where
  | v2 | v30 | v31
  deriving DecidableEq, Repr

def Since.takes (v : Since) (ver : Nat) : Bool :=
  match v with
  | .v2 => true
  | .v30 => decide (768 ≤ ver)
  | .v31 => decide (769 ≤ ver)

/-- What a request's execution gives: the state, STATUS and the reply's payload. -/
abbrev Served := State × Nat × List Word

/-- What the boot load (R67), the version (R306, R307) and the privilege (R304, R308) refuse. -/
def gate (s : State) (x : Session) (op : Nat) (since : Since) (least : Nat) : Nat :=
  if s.booting && op != 0x10 then stBusy
  else if !since.takes x.ver then stBadVersion
  else if x.priv < least then stNoAccess
  else stOk

/-- Sends what a request gave, and what its accesses leave runs after it. -/
def answer (r : Req) (op : Nat) (out : Served) : State := { settle (reply out.1 r op out.2.1 out.2.2) with actor := 7 }

/-- Executes a request other than AUTH (R302: AUTH_FAIL before AUTH, and the session ends). -/
def zcp (s : State) (r : Req) (op : Nat) (payload : List Nat) (since : Since) (least : Nat) (body : State → Session → Served) : State :=
  if !portAlive s r.port.val then s
  else match intake (received s r.port.val (48 + payload.length)) r op payload with
  | .settled t => t
  | .go s x =>
    if !x.authed then sessionEnd (reply s r op stAuthFail []) x.id
    else if gate s x op since least ≠ stOk then reply s r op (gate s x op since least) []
    else answer r op (body { s with actor := x.priv, defer := [] } x)

/-! ## HELLO and AUTH (R300-R306) -/

/-- Free words, one free value each. -/
def takeFree (s : State) : Nat → State × List Word
  | 0 => (s, [])
  | n + 1 => let (t, ws) := takeFree s.tookFree n; (t, BitVec.ofNat 32 s.freeVal :: ws)

/-- The version that R306 chooses, as 256 * major + minor. -/
def chooseVersion (lo hi : Nat) : Option Nat :=
  if lo ≤ 769 ∧ 769 ≤ hi then some 769
  else if lo ≤ 768 ∧ 768 ≤ hi then some 768
  else if 512 ≤ min hi 767 ∧ lo ≤ min hi 767 then some (min hi 767)
  else none

/-- Bytes as 32-bit words, little-endian, as messages hold them (R296). -/
def bytesWords : Nat → List Nat → List Word
  | 0, _ => []
  | n + 1, b => BitVec.ofNat 32 (leNat (b.take 4)) :: bytesWords n (b.drop 4)

/-- What a HELLO offers (R300): CLIENT_NONCE and CLIENT_EPH. -/
structure HelloIn where
  /-- MIN and MAX as 256 * major + minor -/
  lo : Nat
  hi : Nat
  /-- 32 bytes -/
  nonce : List Nat
  /-- 97 bytes -/
  eph : List Nat

/-- The HELLO request payload (R300): 140 bytes. -/
def helloRequest (h : HelloIn) : List Nat :=
  [h.lo / 256, h.lo % 256, h.hi / 256, h.hi % 256, 0, 0, 0, 0] ++ h.nonce ++ h.eph ++ [0, 0, 0]

/-- A signature's r and s as 96 bytes. -/
def sigBytes (r : Nat × Nat) : List Nat := (leBytes 48 r.1).reverse ++ (leBytes 48 r.2).reverse

/-- The HELLO reply payload (R300): 456 bytes. The device's nonce, keys and MFG_SIG are free values; HELLO_SIG is made of them. -/
def helloPayload (s : State) (h : HelloIn) (ver : Nat) (nonce : List Nat) (n : Nat) : List Nat :=
  let regs := fun (a : Nat) => leBytes 4 (s.reg a).toNat
  let body := [ver / 256, ver % 256, 0, 0] ++ regs CHIP_ID ++ regs REV_ID ++ regs SERIAL_LO ++ regs SERIAL_HI ++ [0, 0, 0, 0] ++ nonce ++
    pubOf (Config.ephemeralKey n) ++ List.replicate 7 0 ++ pubOf Config.identKey ++ List.replicate 7 0 ++
    (List.range 96).map fun i => (Config.mfgSig i).toNat
  body ++ sigBytes (ecdsaSign Config.identKey (Config.signSecret n) (sha384 (helloRequest h ++ body)))

/-- The 72 bytes of R301. A CLIENT_EPH that is no point of the curve has no shared secret; the spec says nothing of it, and a free value
stands for it (notes/assumptions/74.md). -/
def sessionKeys (h : HelloIn) (nonce : List Nat) (n : Nat) : List Nat :=
  let secret := (ecdhSecret (Config.ephemeralKey n) h.eph).getD (leBytes 48 (Config.ephemeralKey n))
  hkdf384 secret (h.nonce ++ nonce) [0x7A, 0x63, 0x70, 0x33, 0x20, 0x6B, 0x65, 0x79, 0x73] 72

/-- A message outside sessions: HELLO's reply. -/
def helloReply (s : State) (port id ver st : Nat) (ws : List Word) : State :=
  let m : Msg := { port := port, session := id, seq := 0, ver := ver, op := 1, flags := 1, status := st, words := ws, bare := true }
  s.send m

/-- R300, R301, R305, R306, R315, R397: `id` is the identifier that the device gives, nonzero and not in use. -/
def helloEff (s : State) (port id : Nat) (h : HelloIn) : State :=
  let s := pcCount (received s port (32 + (helloRequest h).length)) (66 + port) 2 15 1
  if !s.on VAULT_STATUS_IDENT_OK || s.on FUSE_STATUS_MFG_MODE then helloReply s port 0 0 stAuthFail []
  else match chooseVersion h.lo h.hi with
  | none => helloReply s port 0 0x301 stBadVersion [BitVec.ofNat 32 (3 + 256 + 2 * 2 ^ 16)]
  | some ver =>
    if 32 ≤ s.sessions.length then helloReply s port 0 ver stBusy []
    else
      let n := s.freeCtr
      let (s, ws) := takeFree s 8
      let nonce := ws.flatMap fun w => leBytes 4 w.toNat
      let payload := helloPayload s h ver nonce n
      let keys := sessionKeys h nonce n
      let x : Session := { id := id, port := port, ver := ver, num := s.sessionCount % 4096, keyIn := keys.take 32,
                           keyOut := (keys.drop 32).take 32, saltIn := (keys.drop 64).take 4, saltOut := (keys.drop 68).take 4,
                           hello := helloRequest h ++ payload }
      helloReply { s with sessions := s.sessions ++ [x], sessionCount := s.sessionCount + 1 } port id ver stOk (bytesWords 114 payload)

/-- R300. -/
def execHello (n : Fin 2) (id : BitVec 64) (minMajor minMinor maxMajor maxMinor : BitVec 8) (nonce eph : List (BitVec 8)) (s : State) : Out :=
  formed (helloWellFormed nonce eph) (guardS (portAlive s n.val && id != 0 && (s.session id.toNat).isNone) s fun s =>
    helloEff s n.val id.toNat { lo := 256 * minMajor.toNat + minMinor.toNat, hi := 256 * maxMajor.toNat + maxMinor.toNat,
                                nonce := nonce.map BitVec.toNat, eph := eph.map BitVec.toNat })

/-- Payload of AUTH (R302); zeros for a SIG whose bytes are not given. -/
def payAuth (pub : List (BitVec 8)) (sig : ClientSig) : List Nat :=
  pub.map BitVec.toNat ++ List.replicate 7 0 ++ (match sig with | .bytes b => b.map BitVec.toNat | .verdict _ => List.replicate 96 0)

/-- The privilege that a key gets (R302): owner slots first, then TRUSTED_KEYS. -/
def keyPriv (s : State) (dig : Nat) : Option Nat :=
  if ownerKey s.otp dig then some 3 else ((trustedKeys (runningRecs s)).find? fun k => k.1 == dig).map Prod.snd

/-- Does SIG verify (R302): over the HELLO payloads, then PUBKEY? -/
def clientSigOk (x : Session) (pub : List Nat) : ClientSig → Bool
  | .bytes b =>
    let v := b.map BitVec.toNat
    ecdsaVerify pub (sha384 (x.hello ++ pub)) (beNat (v.take 48)) (beNat (v.drop 48))
  | .verdict ok => ok

/-- AUTH of a session (R302): `pub` is PUBKEY. -/
def authEff (s : State) (r : Req) (x : Session) (pub : List Nat) (sig : ClientSig) : State :=
  if x.authed then reply s r 2 stRange []
  else
    let dig := sha384 pub
    match if clientSigOk x pub sig then keyPriv s dig else none with
    | some p => reply (s.sessUpd x.id fun y => { y with authed := true, priv := p, key := dig }) r 2 stOk [BitVec.ofNat 32 p]
    | none => sessionEnd (reply s r 2 stAuthFail []) x.id

/-- R302. -/
def execAuth (r : Req) (pub : List (BitVec 8)) (sig : ClientSig) (s : State) : Out :=
  formed (authWellFormed pub sig) (guardS (portAlive s r.port.val) s fun s =>
    match intake (received s r.port.val (48 + (payAuth pub sig).length)) r 2 (payAuth pub sig) with
    | .settled t => t
    | .go s x => authEff s r x (pub.map BitVec.toNat) sig)

/-! ## Register requests (R308, R309, R323) -/

/-- Reads of `n` words in order, up to the first nonzero status (R309). -/
def readWords (s : State) (id a : Nat) : Nat → List Word → State × Nat × List Word
  | 0, acc => (s, stOk, acc.reverse)
  | n + 1, acc =>
    let (s, w, st) := busRead s (.session id) a
    if st ≠ stOk then (s, st, acc.reverse) else readWords s id (a + 4) n (w :: acc)

/-- A block read; one of two words at a multiple of 8 leaves the latch of the LO word (R329). -/
def readBlock (s : State) (id a n : Nat) : State × Nat × List Word :=
  let (t, st, ws) := readWords s id a n []
  if n = 2 ∧ a % 8 = 0 ∧ pairLo? a = some a ∧ st = stOk then
    (setLatches t (.session id) (latchPut (latchesOf t (.session id)) a (ws.getD 1 0)), st, ws)
  else (t, st, ws)

/-- Writes in order, up to the first nonzero status: the state, the status and the words done (R309); all of a block that starts at
PLAN_STAGE_DATA go there (R68). -/
def writeWords (s : State) (id a done : Nat) : List Word → State × Nat × Nat
  | [] => (s, stOk, done)
  | w :: ws =>
    let (s, st) := busWrite s (.session id) a w
    if st ≠ stOk then (s, st, done) else writeWords s id (if a = PLAN_STAGE_DATA then a else a + 4) (done + 1) ws

/-- COUNT of a block request is 1 to 256, and in a 2.x session at most 64 (R307, R309). -/
def countOk (x : Session) (n : Nat) : Bool := decide (1 ≤ n) && decide (n ≤ (if x.ver < 768 then 64 else 256))

/-- R308. -/
def execRead (r : Req) (addr : BitVec 32) (s : State) : Out :=
  .next (zcp s r 0x10 (payRead addr) .v2 0 fun s x =>
    let (s, w, st) := busRead s (.session x.id) addr.toNat
    (s, st, [w]))

/-- R326. -/
def execWrite (r : Req) (addr : BitVec 32) (value : Word) (s : State) : Out :=
  .next (zcp s r 0x11 (payWrite addr value) .v2 0 fun s x =>
    let (s, st) := busWrite s (.session x.id) addr.toNat value
    (s, st, []))

/-- R309. -/
def execReadBlock (r : Req) (addr : BitVec 32) (count : BitVec 16) (s : State) : Out :=
  .next (zcp s r 0x12 (payReadBlock addr count.toNat) .v2 0 fun s x =>
    if countOk x count.toNat then
      let (s, st, ws) := readBlock s x.id addr.toNat count.toNat
      (s, st, BitVec.ofNat 32 ws.length :: ws)
    else (s, stRange, [0]))

/-- R309; a payload over 1,032 bytes is dropped and counted (R295). -/
def execWriteBlock (r : Req) (addr : BitVec 32) (values : List Word) (s : State) : Out :=
  .next (if 256 < values.length then guardS (portAlive s r.port.val) s fun s => s.incSat (CP_ERRS_MALFORMED r.port.val)
    else zcp s r 0x13 (payWriteBlock addr values) .v2 0 fun s x =>
      if countOk x values.length then
        let (s, st, done) := writeWords s x.id addr.toNat 0 values
        (s, st, [BitVec.ofNat 32 done])
      else (s, stRange, [0]))

/-- A READ, or a WRITE of a value, that its target does not answer in 2 us (R323): refused as ever by the checks of R319; else TIMEOUT,
the word 0, one event, and a write that `landed` in the crossing FIFO still takes effect. -/
def execAccessTimeout (r : Req) (addr : BitVec 32) (value : Option Word) (landed : Bool) (s : State) : Out :=
  .next (zcp s r (if value.isSome then 0x11 else 0x10) (match value with | some v => payWrite addr v | none => payRead addr) .v2 0 fun s x =>
    let a := addr.toNat
    let (st, dom) := accessCheck (accRearm s) (.session x.id) a value.isSome
    let ws := if value.isSome then [] else [0]
    if st ≠ stOk then (accessFailed (accRearm s) (.session x.id) a st dom, st, ws)
    else
      let s := match value with
        | some v => if landed then (busWrite s (.session x.id) a v).1 else s
        | none => s
      (logEvent (accessFailed s (.session x.id) a stTimeout 0) { code := 0x0145, kind := 6, index := x.num, a0 := a }, stTimeout, ws))

/-! ## SNAP and Tally (R427, R431) -/

/-- R431. -/
def execSnap (r : Req) (s : State) : Out :=
  .next (zcp s r 0x30 [] .v2 0 fun s _ =>
    let (t, st) := snapEff s
    (t, st, if st = stOk then [BitVec.ofNat 32 s.time, BitVec.ofNat 32 (s.time / 2 ^ 32)] else []))

/-- R427. -/
def execTallyFreeze (r : Req) (s : State) : Out := .next (zcp s r 0x31 [] .v2 1 fun s _ => (freezeEff s, stOk, []))

/-- R427. -/
def execTallyThaw (r : Req) (s : State) : Out := .next (zcp s r 0x32 [] .v2 1 fun s _ => (thawEff s, stOk, []))

/-! ## Arming and streams (R246, R252) -/

/-- R246, R308: bits 4 to 7 of MASK name no channel. -/
def execCaptureArm (r : Req) (mask : BitVec 8) (s : State) : Out :=
  .next (zcp s r 0x40 (payByte mask) .v30 1 fun s _ =>
    if 16 ≤ mask.toNat then (s, stRange, [])
    else
      let (s, st) := armEff s (bitsOf 4 mask.toNat)
      (s, st, []))

/-- The source of a new stream (R252, R308): the status that refuses it, or OK. -/
def streamSource (s : State) (x : Session) (src index : Nat) : Nat :=
  match src with
  | 1 =>
    if 16 ≤ index ∨ !tapExists s index then stRange
    else
      let limit := liveLimit (cpRate (s.rd (CP_STATUS_RATE x.port)))
      if limit < tapCost s index then stRange
      else if limit < liveSum s x.port + tapCost s index then stBusy
      else stOk
  | 2 => if 4 ≤ index then stRange else if s.rd (CAP_STATUS_STATE index) = 3 then stOk else if s.rd (CAP_STATUS_STATE index) = 4 then stBusy else stRange
  | 3 => if s.archEntries.any fun e => e.id == index then stOk else stRange
  | _ => stRange

/-- Opens stream `i` (R252, R253): a channel reads READING; SRC, INDEX, LIVE, PORT and CREDIT show it. -/
def streamOpen (s : State) (x : Session) (i src index : Nat) (consume : Bool) (credit : Nat) : State :=
  let s := if src = 2 then s.wr (CAP_STATUS_STATE index) 4 else s
  let s := s.wrs [(STREAM_STATUS_OPEN i, 1), (STREAM_STATUS_SRC i, src), (STREAM_STATUS_INDEX i, if src = 3 then 0 else index),
    (STREAM_STATUS_LIVE i, bit (src == 1)), (STREAM_STATUS_PORT i, x.port), (STREAM_STATUS_CREDIT i, credit)]
  { s.setStream i { session := x.id, order := s.streamCount, consume := consume, arch := if src = 3 then index else 0 } with
    streamCount := s.streamCount + 1 }

/-- R252, R306, R308: only a port whose MTU is 9,000 bytes takes streams; 3.0 has no archive entries. -/
def execStreamOpen (r : Req) (src index : BitVec 8) (consume : Bool) (credit : BitVec 16) (s : State) : Out :=
  .next (zcp s r 0x41 (payStream src index consume credit) (if src = 3 then .v31 else .v30) 0 fun s x =>
    if !portJumbo s x.port then (s, stRange, [])
    else
      let st := streamSource s x src.toNat index.toNat
      if st ≠ stOk then (s, st, [])
      else match findIdx? (fun i => !s.on (STREAM_STATUS_OPEN i)) 32 with
      | some i => (streamOpen s x i src.toNat index.toNat consume credit.toNat, stOk, [BitVec.ofNat 32 i])
      | none => (s, stBusy, []))

/-- R252, R308: the opening session, or ADMIN. -/
def execStreamClose (r : Req) (stream : BitVec 8) (s : State) : Out :=
  .next (zcp s r 0x42 (payByte stream) .v30 0 fun s x =>
    let i := stream.toNat
    if 32 ≤ i ∨ !s.on (STREAM_STATUS_OPEN i) then (s, stRange, [])
    else if (s.stream i).session ≠ x.id ∧ x.priv < 2 then (s, stNoAccess, [])
    else (streamClose s i, stOk, []))

/-! ## Sessions end (R305) -/

/-- R305: 60 s without a valid message. -/
def execSessionTimeout (session : BitVec 64) (s : State) : Out := .next (guardS s.alive s fun s => sessionEnd s session.toNat)

end Sys2Proof.Machine
end

