-- ==== Sys2Proof/Machine/OpRun.lean ====
section
/-!
DEFINITION. Sys2Proof/Machine/OpRun.lean: OP_START of every long operation (R312, R313), and how one runs: its turn, its phases, suspend,
resume, cancel and end (R65, R68, R69, R72-R74, R251, R311-R314, R370, R395, R405, R414).
-/
namespace Sys2Proof.Machine
open Sys2Proof

/-! ## OP_START (R312, R313) -/

/-- A handle not in use (notes/assumptions/6.md). -/
def freshHandle (s : State) : Nat :=
  (((List.range 65).map fun k => (s.handleCount + k) % 65535 + 1).find? fun h => (s.op h).isNone).getD 0

/-- PLAN_LOAD and FACE_REPLAN in any state but a terminal one (R72). -/
def planOps (s : State) : List LongOp := s.ops.filter fun o => !o.state.terminal && (o.kind.code == 5 || o.kind.code == 9)

/-- Whether ARGS are in range, and what else refuses the operation (R51, R53, R65, R72, R181, R395, R414). What a burn needs of the OTP is
tested here alone, against the records that are burned by now (DESIGN CHOICE: the spec names OP_START; notes/assumptions/75.md). -/
def startStatus (s : State) : OpKind → Nat
  | .calibrate f lanes kind =>
    if 16 ≤ f ∨ !facePresent s f ∨ 512 ≤ lanes ∨ kind = 0 ∨ 4 < kind then stRange else stOk
  | .assayRun f dps =>
    if 16 ≤ f ∨ !facePresent s f ∨ dps / 512 % 32 ≠ 0 ∨ dps / 2 ^ 14 = 0 ∨ !s.on ASSAY_CTRL_SIGS_OK then stRange else stOk
  | .scrubFull target => if 4 ≤ target then stRange else stOk
  | .captureDrain c => if 4 ≤ c then stRange else if ddrTestMask s ≠ 0 then stBusy else stOk
  | .planLoad source => if source = 0 ∨ 3 < source then stRange else if planOps s = [] then stOk else stBusy
  | .flashWrite slot force =>
    if slot = 0 ∨ 2 < slot then stRange
    else if (slotCommit s (2 - slot)).isNone && !force then stRange
    else stOk
  | .ddrTest chans pattern => if 16 ≤ chans ∨ 2 < pattern ∨ (bitsOf 4 chans).any (fun c => !(ddrFitted s).contains c) then stRange else stOk
  | .burnFloor v =>
    if s.rd PLAN_COUNTER_RUNNING < v ∨ v < s.otp.floor ∨ 128 - s.otp.floors.length < v - s.otp.floor then stRange else stOk
  | .burnLimits =>
    if s.otp.lock then stLimit else if (List.range 16).any (fun f => facePresent s f && decide (4 ≤ s.otp.limitPlaces f)) then stRange else stOk
  | .burnKey slot _ => if 4 ≤ slot ∨ (s.otp.digest slot).isSome ∨ nbit s.otp.revoked slot ∨ 2 ≤ s.otp.keyPlaces slot then stRange else stOk
  | .burnRevoke slot => if 4 ≤ slot ∨ nbit s.otp.revoked slot then stRange else stOk
  | .faceReplan f source =>
    if 16 ≤ f ∨ source = 0 ∨ 3 < source then stRange
    else if (planOps s).any fun o => match o.kind with | .faceReplan g _ => g == f | _ => false then stBusy
    else stOk

/-- OP_START of a session: bare (R67, R312), the 65th handle (R313), ARGS, and a new handle in QUEUED (R311). -/
def opStart (s : State) (x : Session) (k : OpKind) : Served :=
  if s.plan.isNone && !(k.code == 5 || k.code == 6 || k.code == 8) then (s, stDomainOff, [])
  else if 64 ≤ s.ops.length then (s, stBusy, [])
  else if startStatus s k ≠ stOk then (s, startStatus s k, [])
  else
    let h := freshHandle s
    ({ s with ops := s.ops ++ [{ handle := h, kind := k, session := x.id, priv := x.priv }], handleCount := h }, stOk, [BitVec.ofNat 32 h])

/-- The request OP_START. -/
def opRequest (s : State) (r : Req) (since : Since) (least : Nat) (k : OpKind) : State := zcp s r 0x20 (payOp k) since least fun s x => opStart s x k

/-- R370. -/
def execCalibrate (r : Req) (face : BitVec 8) (lanes : BitVec 16) (kind : BitVec 8) (s : State) : Out :=
  .next (opRequest s r .v2 1 (.calibrate face.toNat lanes.toNat kind.toNat))

/-- R395. -/
def execAssayRun (r : Req) (face : BitVec 8) (datapaths : BitVec 16) (s : State) : Out :=
  .next (opRequest s r .v30 1 (.assayRun face.toNat datapaths.toNat))

/-- R405. -/
def execScrubFull (r : Req) (target : BitVec 8) (s : State) : Out := .next (opRequest s r .v2 1 (.scrubFull target.toNat))

/-- R251. -/
def execCaptureDrain (r : Req) (channel : BitVec 8) (s : State) : Out := .next (opRequest s r .v30 1 (.captureDrain channel.toNat))

/-- R69. -/
def execPlanLoad (r : Req) (source : BitVec 8) (s : State) : Out := .next (opRequest s r .v2 2 (.planLoad source.toNat))

/-- R65. -/
def execFlashWrite (r : Req) (slot : BitVec 8) (force : Bool) (s : State) : Out := .next (opRequest s r .v30 2 (.flashWrite slot.toNat force))

/-- R414. -/
def execDdrTest (r : Req) (channels pattern : BitVec 8) (s : State) : Out :=
  .next (opRequest s r .v2 2 (.ddrTest channels.toNat pattern.toNat))

/-- R53. -/
def execPlanFloorBurn (r : Req) (value : BitVec 8) (s : State) : Out := .next (opRequest s r .v30 3 (.burnFloor value.toNat))

/-- R181. -/
def execLimitsBurn (r : Req) (s : State) : Out := .next (opRequest s r .v30 3 .burnLimits)

/-- R51. -/
def execKeyWrite (r : Req) (slot : BitVec 8) (digest : BitVec 384) (s : State) : Out :=
  .next (opRequest s r .v30 3 (.burnKey slot.toNat digest.toNat))

/-- R51. -/
def execKeyRevoke (r : Req) (slot : BitVec 8) (s : State) : Out := .next (opRequest s r .v30 3 (.burnRevoke slot.toNat))

/-- R73. -/
def execFaceReplan (r : Req) (face source : BitVec 8) (s : State) : Out := .next (opRequest s r .v30 2 (.faceReplan face.toNat source.toNat))

/-! ## Flash and staging (R63-R65, R68) -/

/-- Flash with `n` bytes from `a` on erased. -/
def flashErase (s : State) (a n : Nat) : State := { s with flash := s.flash.filter fun c => !(decide (a ≤ c.1) && decide (c.1 < a + n)) }

/-- Erased flash programmed with bytes from `a` on; 0xFF leaves a byte erased. -/
def flashPut (s : State) (a : Nat) (bs : List Nat) : State :=
  let s := flashErase s a bs.length
  let cells : List Host.Cell := (bs.zipIdx.filter fun e => e.1 % 256 != 255).map fun e => (a + e.2, BitVec.ofNat 8 e.1)
  { s with flash := (s.flash.filter fun c => decide (c.1 < a)) ++ cells ++ s.flash.filter fun c => decide (a ≤ c.1) }

/-- The first `n` bytes of the staging area. -/
def stageGet (s : State) (n : Nat) : State × List Nat :=
  let (s, ws) := (List.range (ceilDiv n 8)).foldl (fun (acc : State × List (List Nat)) w =>
    let (t, v, _) := memReadWord acc.1 2 0 w
    (t, leBytes 8 v :: acc.2)) (s, [])
  (s, ws.reverse.flatten.take n)

/-- Writes bytes to the staging area from word `w` on. -/
def stagePut (s : State) : Nat → Nat → List Nat → State
  | 0, _, _ => s
  | _, _, [] => s
  | k + 1, w, bs => stagePut (memWriteWord s 2 0 w (leNat (bs.take 8))) k (w + 1) (bs.drop 8)

/-- IMAGE_LEN of the header at staging offset 0 (R68). -/
def stageLen (s : State) : State × Nat :=
  let (s, bs) := stageGet s 32
  (s, recField bs 28 4)

/-- The staged image, as `checkImage` takes it: IMAGE_LEN bytes, or the header when the area holds fewer. -/
def stageImage (s : State) : State × List Nat :=
  let (s, n) := stageLen s
  stageGet s (if n ≤ 2 ^ 24 then n else 64)

/-- How an operation takes the claim as it leaves QUEUED (R68): from staging it takes over a claim of register writes, from flash the area
must be unclaimed. -/
def claimFor (s : State) (h : Nat) (staging : Bool) : State × Nat :=
  match s.claim with
  | none => if staging then (s, stRange) else (claimTake s (some h), stOk)
  | some none => if staging then (claimTake s (some h), stOk) else (s, stBusy)
  | some (some _) => (s, stBusy)

/-! ## The turn of a queued operation (R311, R313) -/

/-- Operations of one queue: each OP by itself, plan operations together (R72, R313). -/
def sameQueue (a b : LongOp) : Bool :=
  let q := fun (o : LongOp) => if o.kind.code = 9 then 5 else o.kind.code
  q a == q b

/-- Holds its place in the queue: at work, or suspended after it had begun (R313). -/
def holdsTurn (o : LongOp) : Bool := opActive o || (o.state == .suspended && !o.fromQueue)

/-- It is this operation's turn: nothing of its queue holds it, and no earlier one is QUEUED. -/
def isTurn (s : State) (o : LongOp) : Bool :=
  o.state == .queued && !(s.ops.any fun x => sameQueue x o && holdsTurn x) &&
    ((s.ops.find? fun x => sameQueue x o && x.state == .queued) == some o)

/-- PLAN_STATUS of the loader at rest. -/
def planRest (s : State) : State := s.wrs [(PLAN_STATUS_STATE, if s.plan.isSome then 4 else 0), (PLAN_STATUS_REPLAN_FACE, 0x1F)]

/-- A plan operation ends (R69, R73): the loader is at rest, DETAIL is LAST_ERROR. -/
def planOpEnd (s : State) (h : Nat) (st : OpState) (result : Nat) : State :=
  opEnd (planRest s) h st result (s.rd PLAN_STATUS_LAST_ERROR)

/-- A plan operation's turn (R68, R69, R73): its claim, the phase that it enters, and what it reads. A slot whose commit record is not
valid ends it; no image is read then, and the failure event carries PLAN_ID 0 (DESIGN CHOICE, notes/assumptions/63.md). -/
def planBegin (s : State) (o : LongOp) (source : Nat) (face : Option Nat) : State :=
  let (s, st) := claimFor s o.handle (source == 3)
  if st ≠ stOk then planOpEnd s o.handle .failed st
  else
    let show_ := fun (t : State) (phase : Nat) => match face with
      | some f => t.wrs [(PLAN_STATUS_STATE, 5), (PLAN_STATUS_REPLAN_FACE, f)]
      | none => t.wr PLAN_STATUS_STATE phase
    if source = 3 then (show_ s 2).opUpd o.handle fun x => { x with step := 1 }
    else match slotCommit s (source - 1) with
      | none => planOpEnd (planFailed s 15 0) o.handle .failed stBadPlan
      | some (len, _, _) =>
        let img := slotImage s (source - 1) len
        stagePut (show_ s 1) img.length 0 img

/-- FLASH_WRITE's turn (R65, R68): the claim, the length, and step 1. -/
def flashBegin (s : State) (o : LongOp) (slot : Nat) : State :=
  let (s, st) := claimFor s o.handle true
  if st ≠ stOk then opEnd s o.handle .failed st 0
  else
    let (s, n) := stageLen s
    if n < 272 ∨ imageMax < n then opEnd s o.handle .failed stRange 0
    else slotsShow (flashErase s (commitBase (slot - 1)) 4096)

/-- DDR_TEST's start (R414): the archives are emptied, the overlay area is undefined, the channels' counts are cleared. -/
def ddrTestBegin (s : State) (chans : Nat) : State :=
  let s := streamsClose s fun t i => t.rd (STREAM_STATUS_SRC i) == 3
  let n := (ddrFitted s).length
  let s := memClear s fun a _ w => isDdr a && decide (32 * 2 ^ 17 / n ≤ w)
  let s := archShow { s with archive := [], archEntries := [], ddrEpoch := s.ddrEpoch + 1 }
  let s := (bitsOf 4 chans).foldl (fun t c => t.wr (DDR_TEST_ERRS_ERRS c) 0) s
  logEvent s { code := 0x0548, a0 := chans }

/-- What an operation does as it enters RUNNING. A burn is not tested against the OTP again (notes/assumptions/75.md). -/
def opBegin (s : State) (o : LongOp) : State :=
  match o.kind with
  | .calibrate f lanes kind =>
    let ps := if kind = 4 then [9] else bitsOf 9 lanes
    ps.foldl (fun t p =>
      let t := calPut t { f := f, p := p, kind := kind, op := o.handle }
      let p := if p = 9 then 0 else p
      if t.rd (CAL_STATUS_STATE f p) = 0 then t.wrs [(CAL_STATUS_STATE f p, 1), (CAL_STATUS_KIND f p, kind)] else t) s
  | .assayRun f dps =>
    let items := (if nbit dps 14 then (bitsOf 9 dps).map fun d => (0, d) else []) ++ (if nbit dps 15 then (bitsOf 9 dps).map fun d => (1, d) else [])
    items.foldl (fun t e => assayPut t { f := f, dir := e.1, dp := e.2, op := o.handle }) s
  | .scrubFull _ => s
  | .captureDrain c =>
    if s.rd (CAP_STATUS_STATE c) = 3 ∧ archFits s (s.cap c) then s else opEnd s o.handle .failed stRange 0
  | .planLoad source => planBegin s o source none
  | .faceReplan f source => planBegin s o source (some f)
  | .flashWrite slot _ => flashBegin s o slot
  | .ddrTest chans _ => ddrTestBegin s chans
  | _ =>
    if s.on FUSE_STATUS_VPP_OK then
      let bs := burnsOf s o.handle o.kind
      { s.opUpd o.handle (fun x => { x with step := bs.length }) with burnQ := s.burnQ ++ bs }
    else opEnd s o.handle .failed stDomainOff 0

/-- R313, R314: START_TIME, and the operation's beginning. -/
def execOperationDequeued (h : BitVec 16) (s : State) : Out :=
  .next (guardS s.alive s fun s =>
    match s.op h.toNat with
    | none => s
    | some o =>
      if isTurn s o then
        let s := { s with actor := o.priv, defer := [] }.opUpd o.handle fun x => { x with state := .running, start := s.time, fromQueue := false }
        { settle (opBegin s { o with state := .running }) with actor := 7 }
      else s)

/-! ## Suspend, resume and cancel (R311, R69, R74, R312) -/

/-- May the operation suspend in the phase it is in (R69, R74, R312)? -/
def suspendable (o : LongOp) : Bool :=
  match o.kind with
  | .planLoad _ => o.step == 0
  | .faceReplan _ _ => decide (o.step < 2)
  | .burnFloor _ | .burnLimits | .burnKey .. | .burnRevoke _ => false
  | _ => true

/-- Does it refuse cancel now (R69, R74)? -/
def refusesCancel (o : LongOp) : Bool :=
  match o.kind with
  | .planLoad _ | .faceReplan _ _ => decide (2 ≤ o.step)
  | _ => false

/-- An item of the operation runs. -/
def opAtWork (s : State) (h : Nat) : Bool := (s.calQ.any fun x => x.op == h && x.running) || s.assayQ.any fun x => x.op == h && x.running

/-- What is left of an operation that is cancelled (R312, R375, R381, R395): its items go, the run of a lane is discarded, a BIST slice
ends after its re-initialisation, waiting burns are dropped, and the loader is at rest. -/
def opDiscard (s : State) (o : LongOp) : State :=
  let h := o.handle
  let mine := s.calQ.filter fun x => x.op == h
  let s := (mine.filter fun x => x.running && x.p != 9).foldl (fun t x => calRunEnd t x.f x.p (t.rd (CAL_STATUS_RESULT x.f x.p))) s
  let s : State := { s with calQ := s.calQ.filter fun x => x.op != h }
  let s := mine.foldl (fun t x =>
    let p := if x.p = 9 then 0 else x.p
    if calBusy t x.f x.p then t else t.wr (CAL_STATUS_STATE x.f p) 0) s
  let s := (s.assayQ.filter fun x => x.op == h && x.running).foldl (fun t x => if t.rd (AS_FACE_STATUS_PHASE x.f) = 5 then bistRelease t x.f else t) s
  let s : State := { s with assayQ := s.assayQ.filter fun x => x.op != h, burnQ := s.burnQ.filter fun b => b.handle != some h }
  match o.kind with
  | .planLoad _ | .faceReplan _ _ => if o.state = .queued ∨ o.fromQueue then s else planRest s
  | _ => s

/-- The operation becomes CANCELLED. -/
def opCancelled (s : State) (o : LongOp) : State :=
  let detail := if o.kind.code = 5 ∨ o.kind.code = 9 then s.rd PLAN_STATUS_LAST_ERROR else o.detail
  opEndAt (opDiscard s o) o.handle .cancelled 0 detail (opProgress s o)

/-- A command on a handle (R308, R311): unknown handles and terminal ones are RANGE; else the starting session or ADMIN. -/
def onHandle (s : State) (x : Session) (h : Nat) (f : State → LongOp → State × Nat) : Served :=
  match s.op h with
  | none => (s, stRange, [])
  | some o =>
    if o.session ≠ x.id ∧ x.priv < 2 then (s, stNoAccess, [])
    else if o.state.terminal then (s, stRange, [])
    else
      let (s, st) := f s o
      (s, st, [])

/-- OP_SUSPEND (R311). -/
def suspendEff (s : State) (o : LongOp) : State × Nat :=
  match o.state with
  | .queued => (s.opUpd o.handle fun x => { x with state := .suspended, fromQueue := true }, stOk)
  | .running => if suspendable o then (s.opUpd o.handle fun x => { x with state := .suspending }, stOk) else (s, stNotSusp)
  | .cancelling => (s, stNotSusp)
  | _ => (s, stOk)

/-- OP_RESUME (R311, R313): RUNNING, or QUEUED at the head of its queue. -/
def resumeEff (s : State) (o : LongOp) : State × Nat :=
  if o.state ≠ .suspended then (s, stRange)
  else if o.fromQueue then
    let o' := { o with state := .queued, fromQueue := false }
    let rest := s.ops.filter fun x => x.handle != o.handle
    let other := fun (x : LongOp) => !sameQueue x o || x.state != .queued
    ({ s with ops := rest.takeWhile other ++ o' :: rest.dropWhile other }, stOk)
  else (s.opUpd o.handle fun x => { x with state := .running }, stOk)

/-- OP_CANCEL (R311): at once while QUEUED or SUSPENDED, else at the next point; a rotation of ASSAY_RUN is abandoned at once (R388, R395). -/
def cancelEff (s : State) (o : LongOp) : State × Nat :=
  match o.state with
  | .queued | .suspended => (opCancelled s o, stOk)
  | .running | .suspending =>
    if refusesCancel o then (s, stBusy)
    else
      let s := s.opUpd o.handle fun x => { x with state := .cancelling }
      let fs := ((s.assayQ.filter fun x => x.op == o.handle && x.running).map AssayItem.f).dedup
      (fs.foldl (fun t f => rotationAbandon t f 11 3) s, stOk)
  | _ => (s, stOk)

def execOpSuspend (r : Req) (h : BitVec 16) (s : State) : Out := .next (zcp s r 0x21 (payHandle h) .v31 0 fun s x => onHandle s x h.toNat suspendEff)
def execOpResume (r : Req) (h : BitVec 16) (s : State) : Out := .next (zcp s r 0x22 (payHandle h) .v31 0 fun s x => onHandle s x h.toNat resumeEff)
def execOpCancel (r : Req) (h : BitVec 16) (s : State) : Out := .next (zcp s r 0x23 (payHandle h) .v2 0 fun s x => onHandle s x h.toNat cancelEff)

/-- R313, R314: a terminal handle is freed when it has been read. -/
def execOpStatus (r : Req) (h : BitVec 16) (s : State) : Out :=
  .next (zcp s r 0x24 (payHandle h) .v2 0 fun s _ =>
    match s.op h.toNat with
    | none => (s, stRange, [])
    | some o =>
      let ws := opStatusWords { o with progress := opProgress s o }
      (if o.state.terminal then { s with ops := s.ops.filter fun x => x.handle != o.handle } else s, stOk, ws))

/-- R313: 600 s after it ended. -/
def execHandleExpiry (h : BitVec 16) (s : State) : Out :=
  .next (guardS (s.alive && (s.op h.toNat).any fun o => o.state.terminal) s fun s => { s with ops := s.ops.filter fun x => x.handle != h.toNat })

/-- R311, R312, R395: the safe suspend point; `progress` is how far the work has come, where the part's state does not count it. -/
def execOperationSuspended (h progress : BitVec 16) (s : State) : Out :=
  .next (guardS s.alive s fun s =>
    match s.op h.toNat with
    | none => s
    | some o =>
      if o.state = .suspending ∧ !opAtWork s o.handle then
        let measured := match o.kind with
          | .captureDrain _ | .planLoad _ | .flashWrite _ _ | .ddrTest _ _ | .faceReplan _ _ => true
          | _ => false
        s.opUpd o.handle fun x => { x with state := .suspended, progress := if measured then min 0xFFFE progress.toNat else x.progress }
      else s)

/-! ## The end (R311) -/

/-- PLAN_LOAD's checks end (R61, R69). A slot is taken to hold as many bytes as its commit record's IMAGE_LEN says, the staging area
2^24 (DESIGN CHOICE: R61 does not say how many a slot holds; notes/assumptions/63.md). -/
def planChecks (s : State) (o : LongOp) (source : Nat) (face : Option Nat) : State :=
  let (s, img) := stageImage s
  let commit := if source = 3 then none else slotCommit s (source - 1)
  let held := match commit with
    | some (len, _, _) => len
    | none => if source = 3 then 2 ^ 24 else 0
  let digest := commit.map fun c => c.2.1
  let fail := fun (t : State) (e : Nat) => planOpEnd (planFailed t e (recField img 16 8)) o.handle .failed stBadPlan
  let scope := fun rs => match face with
    | some f => scopeOk (runningRecs s) rs f
    | none => true
  match checkImage s.otp (s.rd ⟨REV_ID, 0, 32⟩) img held digest scope source with
  | .error e => fail s e
  | .ok p =>
    match face with
    | none => ((planPassed s p).wr PLAN_STATUS_STATE 3).opUpd o.handle fun x => { x with step := 2 }
    | some f => (assayAbandon (planPassed s p) f 5 3).opUpd o.handle fun x => { x with step := 2 }

/-- A plan operation's phase ends: the flash has been read, the checks are done, or the image is applied; a handshake that has started
on a face that goes down finishes first (R31, R69, R73, R234). -/
def planPhase (s : State) (o : LongOp) (source : Nat) (face : Option Nat) : State :=
  match o.step with
  | 0 => (if face.isNone then s.wr PLAN_STATUS_STATE 2 else s).opUpd o.handle fun x => { x with step := 1 }
  | 1 => planChecks s o source face
  | 2 =>
    match s.checked, face with
    | some p, none => if planWaits s p then s else planAfter (planOpEnd ((planApply s p false).wr PLAN_STATUS_LAST_ERROR 0) o.handle .done 0)
    | some p, some f =>
      if s.rd (SEAL_STATUS_HS_STATE f) = 0 then planOpEnd ((faceReplan s p f).wr PLAN_STATUS_LAST_ERROR 0) o.handle .done 0 else s
    | none, _ => s
  | _ => planAfter (planOpEnd (s.wr PLAN_STATUS_LAST_ERROR 0) o.handle .done 0)

/-- The image in staging goes to a slot (R64, R65); a compare that fails leaves the slot invalid, with a RESULT that is not OK. -/
def flashFinish (s : State) (o : LongOp) (slot : Nat) (same : Bool) : State :=
  let (s, n) := stageLen s
  let (s, img) := stageGet s n
  let s := flashPut (flashErase s (slotBase (slot - 1)) (ceilDiv n 65536 * 65536)) (slotBase (slot - 1)) img
  if same then
    let d := [0x5A, 0x43, 0x4D, 0x54] ++ leBytes 4 n ++ (leBytes 48 (sha384 img)).reverse ++ leBytes 4 (recField img 24 4)
    opEnd (slotsShow (flashPut s (commitBase (slot - 1)) (d ++ leBytes 4 (crc32 d)))) o.handle .done 0 0
  else opEnd (slotsShow s.tookFree) o.handle .failed (s.freeVal % 12 + 1) 0

/-- DDR_TEST's result (R414): what it found, each as channel, word, kind (0 mismatch, 1 CE, 2 UE) and syndrome. The KIND of a mismatch,
and how a test with errors ends, are not stated: free values; TIMEOUT is never used. -/
def ddrTestFinish (s : State) (o : LongOp) (chans : Nat) (errs : List (Fin 4 × BitVec 32 × Fin 3 × BitVec 8)) : State :=
  let s := (errs.filter fun e => nbit chans e.1.val).foldl (fun t e =>
    let kind := match e.2.2.1 with | 0 => t.freeVal % 4 | 1 => 1 | _ => 2
    (memErr t.tookFree kind 3 (16 + e.1.val) 0 e.2.1.toNat e.2.2.2.toNat).incSat (DDR_TEST_ERRS_ERRS e.1.val)) s
  if (bitsOf 4 chans).all fun c => s.rd (DDR_TEST_ERRS_ERRS c) == 0 then opEnd s o.handle .done 0 0
  else
    let v := s.freeVal % 11 + 1
    opEnd s.tookFree o.handle (if nbit s.freeVal 63 then .done else .failed) (if v < 10 then v else v + 1) 0

/-- The end of an operation in RUNNING, by its OP; work that its items still hold goes on. -/
def opFinish (s : State) (o : LongOp) (same : Bool) (errs : List (Fin 4 × BitVec 32 × Fin 3 × BitVec 8)) : State :=
  match o.kind with
  | .calibrate .. => if s.calQ.any fun x => x.op == o.handle then s else opEnd s o.handle .done 0 0
  | .assayRun .. =>
    if s.assayQ.any fun x => x.op == o.handle then s else opEnd s o.handle .done (if o.failed then stLimit else stOk) (min 255 o.detail)
  | .scrubFull _ => if integShedChip s then s else opEnd (scrubFullQuantum s o (2 ^ 40) (2 ^ 40)) o.handle .done 0 0
  | .captureDrain c =>
    if (s.face (s.rd (CAP_CFG_FACE c))).obsShed then s
    else if s.rd (CAP_STATUS_STATE c) = 3 ∧ archFits s (s.cap c) then opEnd (archAdd s c) o.handle .done 0 0
    else opEnd s o.handle .failed stRange 0
  | .planLoad source => planPhase s o source none
  | .faceReplan f source => planPhase s o source (some f)
  | .flashWrite slot _ => flashFinish s o slot same
  | .ddrTest chans _ => ddrTestFinish s o chans errs
  | _ => if s.burnQ.any fun b => b.handle == some o.handle then s else opEnd s o.handle .done 0 0

/-- R311: `same` is whether FLASH_WRITE's read-back compares (R65), `errs` what DDR_TEST
found (R414). A cancelled operation ends once nothing of it is at work. -/
def execOperationEnd (h : BitVec 16) (same : Bool) (errs : List (Fin 4 × BitVec 32 × Fin 3 × BitVec 8)) (s : State) : Out :=
  .next (guardS s.alive s fun s =>
    match s.op h.toNat with
    | none => s
    | some o =>
      let s : State := { s with actor := o.priv, defer := [] }
      let s := match o.state with
        | .running => opFinish s o same errs
        | .cancelling =>
          if s.burnQ.any fun b => b.handle == some o.handle then s else opCancelled s o
        | _ => s
      { settle s with actor := 7 })

/-! ## The burn under way -/

/-- R466, R51, R53, R181, R359: the record in front commits; once the LIMITS_LOCK fuse is burned every face shows the OTP's limits, which are
in force at once (R179, R187). -/
def execOtpRecordBurned (s : State) : Out :=
  .next (guardS (s.alive && s.on FUSE_STATUS_VPP_OK) s fun s =>
    let t := burnDone s
    if t.otp.lock && !s.otp.lock then (List.range 16).foldl (fun u f => limitsChanged (limitsShow u f) f) t else t)

end Sys2Proof.Machine
end

