-- ==== Sys2Proof/Machine/Ports.lean ====
section
/-!
DEFINITION. Sys2Proof/Machine/Ports.lean: bring-up of the control ports (R288), PAUSE (R291), what they answer beside ZCP (R290, R316) and
IEEE 1588 (R292-R294).
-/
namespace Sys2Proof.Machine
open Sys2Proof

/-! ## Bring-up (R288, R317) -/

/-- A try of 500 ms ends without link: the next lower rate, or RATE_CAP again after the lowest. -/
def execControlPortRateTry (n : Fin 2) (s : State) : Out :=
  let t := tabGet 0 s.cpTry n.val
  .next (guardS (portAlive s n.val && t != 0 && !s.on (CP_STATUS_LINK n.val)) s fun s =>
    { s with cpTry := tabSet 0 s.cpTry n.val (if 4 ≤ t then s.rd (CP_CTRL_RATE_CAP n.val) + 1 else t + 1) })

/-- The link comes up at the rate being tried; live streams close until the rest fit (R252). -/
def execControlPortLinkUp (n : Fin 2) (s : State) : Out :=
  let t := tabGet 0 s.cpTry n.val
  .next (guardS (portAlive s n.val && t != 0 && !s.on (CP_STATUS_LINK n.val)) s fun s =>
    let s := s.wrs [(CP_STATUS_LINK n.val, 1), (CP_STATUS_RATE n.val, t - 1)]
    liveFit { s with cpTry := tabSet 0 s.cpTry n.val 0 } n.val (cpRate (t - 1)) 32)

/-- The link is lost: bring-up restarts; sessions persist. -/
def execControlPortLinkLoss (n : Fin 2) (s : State) : Out :=
  .next (guardS (portAlive s n.val && s.on (CP_STATUS_LINK n.val)) s fun s => cpRestart s n.val)

/-! ## PAUSE (R291) -/

/-- A PAUSE frame holds transmit for its time; a time of zero ends the hold, as in IEEE 802.3 Annex 31B. -/
def execPause (n : Fin 2) (quanta : BitVec 16) (s : State) : Out :=
  .next (guardS (portAlive s n.val && s.on (CP_STATUS_LINK n.val)) s fun s => s.wr (CP_STATUS_PAUSED n.val) (bit (quanta != 0)))

def execPauseEnd (n : Fin 2) (s : State) : Out := .next (guardS (portAlive s n.val) s fun s => s.wr (CP_STATUS_PAUSED n.val) 0)

/-! ## Addresses and what is answered (R290) -/

/-- A port's MAC address. -/
def portMac (s : State) (n : Nat) : Nat := ((s.reg MAC_BASE_LO).toNat + s.rd MAC_BASE_HI_MAC_HI * 2 ^ 32 + n) % 2 ^ 48

/-- The link-local address: fe80::/64 with the EUI-64 of the MAC address (RFC 4291). -/
def linkLocal (s : State) (n : Nat) : Nat :=
  let m := portMac s n
  0xFE80 * 2 ^ 112 + Nat.xor (m / 2 ^ 24) 0x020000 * 2 ^ 40 + 0xFFFE * 2 ^ 24 + m % 2 ^ 24

/-- Bytes of a port block, first byte most significant. -/
def portBytes (s : State) (n off len : Nat) : Nat := beNat ((List.range len).map fun j => portBlock s n (off + j) 1)

/-- Is an address the port's own (R289, R290)? -/
def ownAddr (s : State) (n : Nat) (v6 : Bool) (a : Nat) : Bool :=
  if v6 then a == linkLocal s n || (nbit (portBlock s n 3 1) 0 && a == portBytes s n 16 16)
  else nbit (portBlock s n 3 1) 1 && a == portBytes s n 8 4

/-- Every other frame is dropped and counted (R290). -/
def dropFrame (s : State) (n : Nat) : State := if s.alive then s.incSat (CP_ERRS_MALFORMED n) else s

/-- An answer outside ZCP: `op` 0x100 ARP, 0x101 neighbour advertisement, 0x102 echo reply. -/
def answerFrame (s : State) (n op : Nat) (ws : List Word) : State :=
  s.send { port := n, session := 0, seq := 0, ver := 0, op := op, flags := 1, status := 0, words := ws }

/-- A value as `n` 32-bit words, least significant first. -/
def wordsLe (n a : Nat) : List Word := (List.range n).map fun j => BitVec.ofNat 32 (a / 2 ^ (32 * j))

/-- The port answers address queries: also port A while the chip is in DEEP (R316). -/
def queryAlive (s : State) (n : Nat) : Bool := portAlive s n || (n == 0 && s.powered && !s.canary && s.started && s.rd FM_CHIP_STATUS_STATE == 2)

def addrQuery (s : State) (n op : Nat) (v6 : Bool) (a : Nat) : State :=
  guardS (queryAlive s n) s fun s =>
    let s := if s.alive then received s n (if v6 then 32 else 28) else s
    if ownAddr s n v6 a then answerFrame s n op (wordsLe 2 (portMac s n) ++ wordsLe (if v6 then 4 else 1) a) else dropFrame s n

def execArp (n : Fin 2) (addr : BitVec 32) (s : State) : Out := .next (addrQuery s n.val 0x100 false addr.toNat)
def execNeighbourSolicitation (n : Fin 2) (addr : BitVec 128) (s : State) : Out := .next (addrQuery s n.val 0x101 true addr.toNat)

def execIcmpEcho (n : Fin 2) (v6 : Bool) (addr : BitVec 128) (data : List Word) (s : State) : Out :=
  .next (guardS (portAlive s n.val) s fun s =>
    let s := received s n.val (8 + 4 * data.length)
    if ownAddr s n.val v6 addr.toNat then answerFrame s n.val 0x102 data else dropFrame s n.val)

def execMalformed (n : Fin 2) (s : State) : Out := .next (guardS (portAlive s n.val) s fun s => dropFrame s n.val)

/-! ## IEEE 1588 (R292, R293) -/

/-- Port `n` receives PTP in this domain (R289, R292). -/
def ptpTakes (s : State) (n : Nat) (domain : BitVec 8) : Bool := nbit (portBlock s n 3 1) 2 && portBlock s n 6 1 == domain.toNat

/-- A PTP message of `len` bytes (R429; notes/assumptions/35.md): dropped and counted where the port does not receive it (R290). -/
def ptpMsg (s : State) (n len : Nat) (domain : BitVec 8) (f : State → State) : State :=
  guardS (portAlive s n) s fun s => if ptpTakes s n domain then f (received s n len) else dropFrame s n

/-- Does the message come from the chosen master? -/
def fromMaster (s : State) (n : Nat) (id : BitVec 80) : Bool := s.ptp.master.any fun m => m.port == n && m.id == id.toNat

/-- The best master of those heard: the lowest rank, the first heard of equals. -/
def bestMaster : List PtpMaster → Option PtpMaster
  | [] => none
  | m :: r => match bestMaster r with
    | some b => if b.rank < m.rank then some b else some m
    | none => some m

/-- An offset is measured from a Sync that left the master at `t1` and arrived at `t2` (R293): device time steps, or slews the offset off.
-/
def ptpOffset (s : State) (t1 t2 : Nat) : State :=
  let x := s.ptp
  let raw : Int := (t2 : Int) - t1
  let off := raw - x.delay
  let big := if 1000 < off.natAbs then x.big + 1 else 0
  let s := s.wr TIME_STATUS_OFFSET (twos 16 (clampI (-32767) 32767 off))
  let s := if x.fresh then s.wr TIME_STATUS_STATE 1 else s
  if x.fresh || decide (3 ≤ big) then
    let old := s.time
    let y := { x with fresh := false, big := 0, near := false, arrival := none, raw := some (raw - off), slew := 0 }
    let s : State := { s.incMod TIME_STATUS_STEPS with time := (((s.time : Int) - off) % (2 ^ 64 : Nat)).toNat, ptp := y }
    logEvent s { code := 0x0640, a0 := old, a1 := old / 2 ^ 32 }
  else { s with ptp := { x with big := big, near := decide (off.natAbs ≤ 100), arrival := none, raw := some raw, slew := off } }

/-- R292, R293: `origin` is the Sync's timestamp, which a two-step master gives in its Follow_Up. -/
def execPtpSync (n : Fin 2) (domain : BitVec 8) (id : BitVec 80) (twoStep : Bool) (origin : BitVec 64) (s : State) : Out :=
  .next (ptpMsg s n.val 44 domain fun s =>
    if fromMaster s n.val id then
      if twoStep then { s with ptp := { s.ptp with arrival := some s.time } } else ptpOffset s origin.toNat s.time
    else s)

/-- R292. -/
def execPtpFollowUp (n : Fin 2) (domain : BitVec 8) (id : BitVec 80) (origin : BitVec 64) (s : State) : Out :=
  .next (ptpMsg s n.val 44 domain fun s =>
    if fromMaster s n.val id then
      match s.ptp.arrival with
      | some t => ptpOffset s origin.toNat t
      | none => s
    else s)

/-- R292: `sent` is when the Delay_Req left, `received` when the master had it; the mean of both directions is the path's delay. -/
def execPtpDelayResp (n : Fin 2) (domain : BitVec 8) (id : BitVec 80) (sent received : BitVec 64) (s : State) : Out :=
  .next (ptpMsg s n.val 54 domain fun s =>
    if fromMaster s n.val id then
      match s.ptp.raw with
      | some raw => { s with ptp := { s.ptp with delay := (raw + ((received.toNat : Int) - sent.toNat)) / 2 } }
      | none => s
    else s)

/-- R292, R293: the best of the masters heard is chosen; a new one ends LOCKED and HOLDOVER. -/
def execPtpAnnounce (n : Fin 2) (domain : BitVec 8) (id : BitVec 80) (rank : BitVec 176) (s : State) : Out :=
  .next (ptpMsg s n.val 64 domain fun s =>
    let x := s.ptp
    let m : PtpMaster := { port := n.val, id := id.toNat, rank := rank.toNat }
    let heard := (x.heard.filter fun y => !(y.port == m.port && y.id == m.id)) ++ [m]
    match bestMaster heard with
    | none => s
    | some b =>
      if x.master.any fun y => y.port == b.port && y.id == b.id then { s with ptp := { x with heard := heard, master := some b } }
      else
        let s := s.wrs [(TIME_STATUS_PORT, b.port), (TIME_STATUS_STATE, if s.rd TIME_STATUS_STATE = 0 then 0 else 1)]
        { s with ptp := { heard := heard, master := some b, fresh := true } })

/-- R293: no Announce of the master in its announceReceiptTimeout. -/
def execPtpAnnounceTimeout (s : State) : Out :=
  .next (guardS s.alive s fun s =>
    match s.ptp.master with
    | some m =>
      { s.wr TIME_STATUS_STATE 3 with ptp := { heard := s.ptp.heard.filter fun y => !(y.port == m.port && y.id == m.id) } }
    | none => s)

/-- R293: offsets have stayed within 100 ns for 10 s. -/
def execTimeLocked (s : State) : Out :=
  .next (guardS (s.alive && s.rd TIME_STATUS_STATE == 1 && s.ptp.near && s.ptp.master.isSome) s fun s => s.wr TIME_STATUS_STATE 2)

end Sys2Proof.Machine
end

