-- ==== Sys2Proof/Machine/RegRows.lean ====
section
/-!
DEFINITION. Sys2Proof/Machine/RegRows.lean: register writes and reads that have a row of their own. Each is the access as a client with every
privilege makes it (notes/assumptions/30.md): its checks, its effect and its status, which `busStatus` holds. A row that names one
action writes the value that keeps the register's other fields (R325).
-/
namespace Sys2Proof.Machine
open Sys2Proof

/-- The access, while core logic runs. -/
def regWriteOut (s : State) (a v : Nat) : Out := .next (guardS s.alive s fun s => directWrite s a v)

/-- Pattern register of a place: the generator's or the checker's (R206, R207). -/
def patReg (w : PatAt) (chk : Bool) : Nat :=
  match w with
  | .host h => HL_PRBS_CTRL h.val
  | .line f d => if chk then RXD_PRBS_CTRL f.val d.val else TXD_PRBS_CTRL f.val d.val

/-- Word `w` of a temperature set: its slice words, then its header (R379). -/
def setAddr (q i w : Nat) : Nat := if w < 130 then 0x201000 + q * 0x1400 + i * 0x400 + 4 * w else SET_HDR q i

/-- PLAN_STAGE_DATA (R68). -/
def execPlanStageData (value : Word) (s : State) : Out := regWriteOut s (PLAN_STAGE_DATA) value.toNat

/-- PLAN_STAGE_PTR (R68). -/
def execPlanStagePtr (ptr : BitVec 24) (s : State) : Out := regWriteOut s (PLAN_STAGE_PTR) ptr.toNat

/-- PLAN_STAGE_RELEASE (R68). -/
def execPlanStageRelease (s : State) : Out := regWriteOut s (PLAN_STAGE_PTR) (2 ^ 31 + s.rd PLAN_STAGE_PTR_PTR)

/-- EQ_CONV_DONE (R118). -/
def execEqConvDone (f : Fin 16) (d : Fin 9) (s : State) : Out := regWriteOut s (EQ_CONV f.val d.val) (actionValue s (EQ_CONV f.val d.val) 31)

/-- EQ_CONV_FAIL (R118). -/
def execEqConvFail (f : Fin 16) (d : Fin 9) (s : State) : Out := regWriteOut s (EQ_CONV f.val d.val) (actionValue s (EQ_CONV f.val d.val) 30)

/-- RESTART (R99). -/
def execRestart (f : Fin 16) (p : Fin 9) (s : State) : Out := regWriteOut s (LANE_ACQ_CTRL f.val p.val) (actionValue s (LANE_ACQ_CTRL f.val p.val) 31)

/-- MODE_EN (R98): the whole register value. -/
def execModeEn (f : Fin 16) (p : Fin 9) (value : Word) (s : State) : Out := regWriteOut s (LANE_ACQ_CTRL f.val p.val) value.toNat

/-- SWAP_EQ (R113). -/
def execSwapEq (f : Fin 16) (d : Fin 9) (s : State) : Out := regWriteOut s (EQ_BANK_CTRL f.val d.val) (actionValue s (EQ_BANK_CTRL f.val d.val) 31)

/-- SWAP_MLSE (R113). -/
def execSwapMlse (f : Fin 16) (d : Fin 9) (s : State) : Out := regWriteOut s (EQ_BANK_CTRL f.val d.val) (actionValue s (EQ_BANK_CTRL f.val d.val) 30)

/-- GRADIENT_RELEASE (R117). -/
def execGradientRelease (f : Fin 16) (d : Fin 9) (s : State) : Out := regWriteOut s (GRAD_CTRL f.val d.val) (actionValue s (GRAD_CTRL f.val d.val) 31)

/-- EQ_EXP_RANGE_RESTART (R110). -/
def execEqExpRangeRestart (f : Fin 16) (d : Fin 9) (s : State) : Out := regWriteOut s (EQ_EXP_RANGE f.val d.val) (actionValue s (EQ_EXP_RANGE f.val d.val) 0)

/-- LANE_EFFORT_CAP (R129). -/
def execLaneEffortCap (f : Fin 16) (p : Fin 9) (cap : Fin 4) (s : State) : Out := regWriteOut s (LANE_EFFORT f.val p.val) (cap.val * 2 ^ 18)

/-- CNT_CTRL_CLEAR (R157). -/
def execCntCtrlClear (f : Fin 16) (d : Fin 9) (s : State) : Out := regWriteOut s (CNT_CTRL f.val d.val) (actionValue s (CNT_CTRL f.val d.val) 31)

/-- TXD_APPLY (R165). -/
def execTxdApply (f : Fin 16) (d : Fin 9) (s : State) : Out := regWriteOut s (TXD_CTRL f.val d.val) (actionValue s (TXD_CTRL f.val d.val) 31)

/-- OPT_TARGET (R171), TX_LANE_EN kept. -/
def execOptTarget (f : Fin 16) (target : Fin 8) (s : State) : Out := regWriteOut s (OPT_CTRL f.val) (fieldSet (s.reg (OPT_CTRL f.val)) 29 3 target.val).toNat

/-- OPT_LANE_A_WRITE (R468). -/
def execOptLaneAWrite (f : Fin 16) (p : Fin 9) (value : Word) (s : State) : Out := regWriteOut s (OPT_LANE_A f.val p.val) value.toNat

/-- OPT_LIM_WRITE (R179). -/
def execOptLimWrite (f : Fin 16) (b : Bool) (value : Word) (s : State) : Out := regWriteOut s (if b then OPT_LIM_B f.val else OPT_LIM_A f.val) value.toNat

/-- HL_RESTART (R191). -/
def execHlRestart (h : Fin 256) (s : State) : Out := regWriteOut s (HL_CTRL h.val) (actionValue s (HL_CTRL h.val) 31)

/-- ADMIN_UP (R202). -/
def execAdminUp (n : Fin 128) (up : Bool) (s : State) : Out := regWriteOut s (PORT_CTRL n.val) (bit up * 2 ^ 31)

/-- PORT_RESTART (R191). -/
def execPortRestart (n : Fin 128) (s : State) : Out := regWriteOut s (PORT_CTRL n.val) (actionValue s (PORT_CTRL n.val) 30)

/-- PORT_COUNTER_CLEAR (R205). -/
def execPortCounterClear (n : Fin 128) (s : State) : Out := regWriteOut s (PORT_CTRL n.val) (actionValue s (PORT_CTRL n.val) 29)

/-- GEN_EN (R209), the other fields kept. -/
def execGenEn (at_ : PatAt) (chk : Bool) (en : Bool) (s : State) : Out := regWriteOut s (patReg at_ chk) (fieldSet (BitVec.ofNat 32 (actionValue s (patReg at_ chk) 0 - 1)) (if chk then 23 else 31) 1 (bit en)).toNat

/-- INJECT (R207). -/
def execInject (at_ : PatAt) (s : State) : Out := regWriteOut s (patReg at_ false) (actionValue s (patReg at_ false) 29)

/-- PRBS_CLEAR (R207). -/
def execPrbsClear (at_ : PatAt) (s : State) : Out := regWriteOut s (patReg at_ true) (actionValue s (patReg at_ true) 21)

/-- RETRAIN (R218). -/
def execRetrain (f : Fin 16) (k : Fin 8) (s : State) : Out := regWriteOut s (SEAM_CTRL f.val k.val) (actionValue s (SEAM_CTRL f.val k.val) 31)

/-- SEAM_COUNTER_CLEAR (R224). -/
def execSeamCounterClear (f : Fin 16) (k : Fin 8) (s : State) : Out := regWriteOut s (SEAM_CTRL f.val k.val) (actionValue s (SEAM_CTRL f.val k.val) 28)

/-- RUN (R235). -/
def execRun (f : Fin 16) (run : Bool) (s : State) : Out := regWriteOut s (TAP_CTRL f.val) (bit run * 2 ^ 31)

/-- TAP_SWAP (R240). -/
def execTapSwap (f : Fin 16) (s : State) : Out := regWriteOut s (TAP_CTRL f.val) (actionValue s (TAP_CTRL f.val) 30)

/-- TAP_RESTART (R239). -/
def execTapRestart (f : Fin 16) (s : State) : Out := regWriteOut s (TAP_CTRL f.val) (actionValue s (TAP_CTRL f.val) 28)

/-- TAP_COEF (R240). -/
def execTapCoef (f : Fin 16) (b : Fin 2) (i : Fin 64) (value : BitVec 16) (s : State) : Out := regWriteOut s (TAP_COEF f.val b.val i.val) value.toNat

/-- ARM (R246). -/
def execArm (c : Fin 4) (s : State) : Out := regWriteOut s (CAP_CTRL c.val) (2 ^ 31)

/-- FORCE (R247). -/
def execForce (c : Fin 4) (s : State) : Out := regWriteOut s (CAP_CTRL c.val) (2 ^ 30)

/-- STOP (R250). -/
def execStop (c : Fin 4) (s : State) : Out := regWriteOut s (CAP_CTRL c.val) (2 ^ 29)

/-- DISCARD (R250). -/
def execDiscard (c : Fin 4) (s : State) : Out := regWriteOut s (CAP_CTRL c.val) (2 ^ 28)

/-- STREAM_CREDIT (R253). -/
def execStreamCredit (i : Fin 32) (add : BitVec 16) (s : State) : Out := regWriteOut s (STREAM_CREDIT i.val) add.toNat

/-- DROP_OLDEST (R251). -/
def execDropOldest (s : State) : Out := regWriteOut s (ARCH_CTRL) (2 ^ 31)

/-- CP_RESTART (R288). -/
def execCpRestart (n : Fin 2) (s : State) : Out := regWriteOut s (CP_CTRL n.val) (actionValue s (CP_CTRL n.val) 31)

/-- CP_ERRS_CLEAR (R290). -/
def execCpErrsClear (n : Fin 2) (s : State) : Out := regWriteOut s (CP_CTRL n.val) (actionValue s (CP_CTRL n.val) 30)

/-- MADC_DIRECT (R366). -/
def execMadcDirect (ch : BitVec 7) (s : State) : Out := regWriteOut s (MADC_CHSEL) (2 ^ 31 + ch.toNat)

/-- SELFCAL (R365). -/
def execSelfcal (s : State) : Out := regWriteOut s (MADC_CTRL) (actionValue s (MADC_CTRL) 31)

/-- SURVEY_SET_WRITE (R379): slice words 0-129, then the header. -/
def execSurveySetWrite (q : Fin 144) (i : Fin 5) (w : Fin 131) (value : Word) (s : State) : Out := regWriteOut s (setAddr q.val i.val w.val) value.toNat

/-- MEM_FLIP (R403). -/
def execMemFlip (value : Word) (s : State) : Out := regWriteOut s (MEM_FLIP_CTRL) value.toNat

/-- REGION_CLEAR (R413). -/
def execRegionClear (n : Fin 256) (s : State) : Out := regWriteOut s (MEM_REGION0 n.val) (actionValue s (MEM_REGION0 n.val) 11)

/-- TALLY_CLEAR (R424). -/
def execTallyClear (s : State) : Out := regWriteOut s (TALLY_CTRL) (actionValue s (TALLY_CTRL) 31)

/-- TALLY_ARCH_SEL (R425). -/
def execTallyArchSel (value : Word) (s : State) : Out := regWriteOut s (TALLY_ARCH_SEL) value.toNat

/-- HS_RESTART (R434). -/
def execHsRestart (n : Fin 18) (s : State) : Out := regWriteOut s (HS_CTRL n.val) (actionValue s (HS_CTRL n.val) 30)

/-- REGISTER_WRITE (R325). -/
def execRegisterWrite (addr : BitVec 32) (value : Word) (s : State) : Out := regWriteOut s (addr.toNat) value.toNat

/-- COEFFICIENT_BANK_WRITE (R111, R112, R124): word `k` of a coefficient bank, or of a detector table, which has 64. -/
def execCoefficientBankWrite (f : Fin 16) (d : Fin 9) (table : Bool) (b : Fin 2) (k : Fin 258) (value : Word) (s : State) : Out :=
  if table ∧ 64 ≤ k.val then .next s
  else regWriteOut s (rxdAt f.val d.val + (if table then 0x2000 + b.val * 0x100 else 0x1000 + b.val * 0x800) + 4 * k.val) value.toNat

/-- CAPTURE_CONFIG_WRITE (R248): CAP_CFG, CAP_REGION, CAP_TRIG, CAP_TRIG_ARG or CAP_TRIG_TIME_HI. -/
def execCaptureConfigWrite (c : Fin 4) (which : Fin 5) (value : Word) (s : State) : Out :=
  regWriteOut s (match which with | 0 => CAP_CFG c.val | 1 => CAP_REGION c.val | 2 => CAP_TRIG c.val | 3 => CAP_TRIG_ARG c.val | _ => CAP_TRIG_TIME_HI c.val)
    value.toNat

/-! ## Reads -/

/-- A read by a session that exists. -/
def sessionRead (s : State) (id a : Nat) : State :=
  match s.session id with
  | some x =>
    let (t, _, st) := busRead { s with actor := x.priv } (.session id) a
    { t with actor := 7, busStatus := st }
  | none => s

/-- COUNTER_LO_READ (R328): the read of the LO word of a counter or of another value of two words. -/
def execCounterLoRead (session : BitVec 64) (addr : BitVec 32) (s : State) : Out :=
  .next (guardS (s.alive && pairLo? addr.toNat == some addr.toNat) s fun s => sessionRead s session.toNat addr.toNat)

/-- SNAP_HI_READ (R432). -/
def execSnapHiRead (session : BitVec 64) (s : State) : Out := .next (guardS s.alive s fun s => sessionRead s session.toNat SNAP_HI)

end Sys2Proof.Machine
end

