-- ==== Sys2Proof/Machine/ResetRows.lean ====
section
/-!
DEFINITION. Sys2Proof/Machine/ResetRows.lean: the commands of start-up, reset, the Canary, clocks, chip states and wake (R33, R66, R70, R333,
R335-R341, R360, R410, R436-R448, R456, R458).
-/
namespace Sys2Proof.Machine
open Sys2Proof

/-- R436: VDD_AON rises and PGOOD_IN follows. -/
def execPowerOn (s : State) : Out := .next (resetBase s)

/-- R437, R448: no effect while the Canary is latched. -/
def execResetNLow (s : State) : Out := .next (guardS (s.powered && !s.canary) s coldReset)

/-- R456: PGOOD_IN low acts as RESET_N low. -/
def execPgoodInLow (s : State) : Out := .next (guardS (s.powered && !s.canary) s coldReset)

/-- R444, steps 2 to 5. -/
def execStartUp (strap : BitVec 8) (vaultOk : Bool) (s : State) : Out :=
  .next (guardS (s.powered && !s.canary && !s.started) s fun s => startUp s strap.toNat vaultOk)

/-- R410: the channels that passed training. -/
def execDdrTrainingDone (pass : BitVec 4) (s : State) : Out :=
  .next (guardS (s.alive && s.ddrTrain.isNone) s fun s => ddrEval { s with ddrTrain := some pass.toNat })

/-- R66, R67. -/
def execBootLoad (s : State) : Out := .next (guardS (s.alive && s.booting && s.checked.isNone) s fun s => bootTry s (bootSlots s))

/-- R70: the image that passed its checks, of the boot load or of a PLAN_LOAD that is applying; a started handshake on a face that goes
down comes first (R31, R234). -/
def execPlanApply (s : State) : Out :=
  .next (guardS s.alive s fun s =>
    match s.checked with
    | none => s
    | some p =>
      if s.booting then settle (bootApply s.calm p)
      else
        match s.ops.find? fun o => o.kind.code == 5 && o.state == .running && o.step == 2 with
        | some o => if planWaits s p then s else { settle ((planApply { s with actor := o.priv, defer := [] } p false).opUpd o.handle fun x => { x with step := 3 }) with actor := 7 }
        | none => s)

/-- R439: the write of RST_CTRL, an H17 trap, or a failed restore. -/
def execWarmReset (why : WarmCause) (s : State) : Out :=
  .next (guardS s.alive s fun s =>
    match why with
    | .rstCtrl v => directWrite s RST_CTRL v.toNat
    | .h17Trap => settle (warmReset s.calm .h17Trap)
    | .restore => settle (warmReset s.calm .restore))

/-- R441: a face reset that waited for a handshake runs; else the write of FACE_RST.FACE. -/
def execFaceReset (f : Fin 16) (s : State) : Out :=
  .next (guardS s.alive s fun s =>
    if s.on (FACE_RST_FACE f.val) then { settle (faceRstRun s.calm f.val) with actor := 7 } else directWrite s (FACE_RST f.val) (2 ^ 31))

/-- R442: the write of FACE_RST.RX_DP and TX_DP. -/
def execDatapathReset (f : Fin 16) (rx tx : BitVec 9) (s : State) : Out :=
  .next (guardS s.alive s fun s => directWrite s (FACE_RST f.val) (rx.toNat * 2 ^ 18 + tx.toNat * 2 ^ 9))

/-- R360, R361: every domain but always-on goes off, whose registers stay. -/
def canaryTrip (s : State) : State :=
  let t : State := { resetBase s with time := s.time, mono := s.mono, refALost := s.refALost, refBLost := s.refBLost, canary := true }
  let t := keepRegs s t [WAKE_EN, WAKE_TIMER, WAKE_CODE_LO, WAKE_CODE_HI, WAKE_SRC, RST_STATUS, FUSE_STATUS]
  urgentSent (List.range 16) ((keepFlds s t [TIME_STATUS_STEPS, VAULT_STATUS_CLEARS]).incMod VAULT_STATUS_CLEARS)

def execCanaryTrip (s : State) : Out := .next (guardS (s.powered && !s.canary) s canaryTrip)

/-- R360: VDD_AON is lost. -/
def execPowerLoss (s : State) : Out := .next (powerLoss s)

/-- Host lanes of every port return to stage 1 (R191). -/
def hostLanesStage1 (s : State) (p : Nat → Bool) : State :=
  (List.range 256).foldl (fun t h => if p h && (portOfHost t h).isSome && t.rd FM_CHIP_STATUS_STATE == 0 then hostStage1 t h else t) s

/-- R458: `b` is REFCLK_B. -/
def execRefclkLoss (b : Bool) (s : State) : Out :=
  .next (guardS (s.powered && !s.canary) s fun s =>
    if b then { s.wrs [(BOARD_STATUS_REFCLK_B_OK, 0), (BOARD_STATUS_CHIP_ON_XTAL, 1)] with refBLost := true }
    else
      let s : State := { s.wr BOARD_STATUS_REFCLK_A_OK 0 with refALost := true }
      if s.alive then hostLanesStage1 (optWalkAll s) fun _ => true else s)

/-- R458: REFCLK_B serves the chip PLLs again from the next reset on. -/
def execRefclkRestored (b : Bool) (s : State) : Out :=
  .next (guardS (s.powered && !s.canary) s fun s =>
    if b then { s.wr BOARD_STATUS_REFCLK_B_OK 1 with refBLost := false }
    else
      let s : State := { s.wr BOARD_STATUS_REFCLK_A_OK 1 with refALost := false }
      if s.alive then optWalkAll s else s)

/-- R33: the event's code is not in R419: a free value (notes/assumptions/34.md). Faces go to SLEEP and host lanes to stage 1, and stay
there until a reset. -/
def execDieToDieFault (e : Fin 4) (s : State) : Out :=
  .next (guardS s.alive s fun s =>
    if nbit s.d2d e.val then s
    else
      let code := s.freeVal % 2 ^ 16
      let s := logEvent { s.tookFree with d2d := nbitSet s.d2d e.val true } { code := code, a0 := e.val }
      hostLanesStage1 (optWalkAll s) fun h => h / 64 == e.val)

/-! ## Chip states (R333-R335) -/

def execChipRun (s : State) : Out := .next (guardS s.alive s fun s => directWrite s FM_CHIP_CTRL 0)
def execChipStandby (s : State) : Out := .next (guardS s.alive s fun s => directWrite s FM_CHIP_CTRL (2 ^ 30))
def execChipDeep (s : State) : Out := .next (guardS s.alive s fun s => directWrite s FM_CHIP_CTRL (2 ^ 31))

/-- R345, R347, R349-R351, R371, R405: a tick of Foreman, and entry to DEEP where it waited for a handshake's end. -/
def execSchedulerTick (s : State) : Out :=
  .next (guardS (s.alive && s.plan.isSome && hewerRuns s 17) s fun s => settle (schedulerTick s.calm))

/-! ## Wake sources (R316, R340) -/

/-- R316: magic, zeros, SERIAL and WAKE_CODE. -/
def execWakeFrame (payload : List (BitVec 8)) (flips : List (Fin 64 × BitVec 24 × BitVec 8)) (s : State) : Out :=
  let d := payload.map BitVec.toNat
  .next (guardS (inDeep s 0 && d.length == 24 && d.take 4 == [0x5A, 0x57, 0x41, 0x4B] && zeros d 4 4 &&
      recField d 8 8 == (s.reg SERIAL_LO).toNat + (s.reg SERIAL_HI).toNat * 2 ^ 32 &&
      recField d 16 8 == (s.reg WAKE_CODE_LO).toNat + (s.reg WAKE_CODE_HI).toNat * 2 ^ 32) s fun s => settle <| wake s.calm 1 flips)

def execWakeN (flips : List (Fin 64 × BitVec 24 × BitVec 8)) (s : State) : Out := .next (guardS (inDeep s 1) s fun s => settle <| wake s.calm 2 flips)

/-- R340: WAKE_TIMER 0 disables it. -/
def execAonTimer (flips : List (Fin 64 × BitVec 24 × BitVec 8)) (s : State) : Out :=
  .next (guardS (inDeep s 2 && s.reg WAKE_TIMER != 0) s fun s => settle <| wake s.calm 3 flips)

/-- R340: TS32 converts in DEEP; a reading in 1/8 degree at or above WAKE_TEMP wakes the chip, and cannot be disabled. -/
def execThermalAlert (value : Int) (flips : List (Fin 64 × BitVec 24 × BitVec 8)) (s : State) : Out :=
  .next (guardS (inDeep s 3 && decide (sext 16 (s.rd WAKE_EN_WAKE_TEMP) ≤ value)) s fun s => settle <| wake (s.calm.wr (TS_VALUE 32) (twos 16 value)) 4 flips)

/-- R340: any change of a grant. -/
def execElsGrantChange (b : Fin 4) (low : Bool) (flips : List (Fin 64 × BitVec 24 × BitVec 8)) (s : State) : Out :=
  .next (guardS (inDeep s 4 && s.on (ELS_BANK_GNT b.val) != low) s fun s => settle <| wake (s.calm.wr (ELS_BANK_GNT b.val) (bit low)) 5 flips)

end Sys2Proof.Machine
end

