-- ==== Sys2Proof/Machine/Dispatch.lean ====
section
/-!
DEFINITION. Sys2Proof/Machine/Dispatch.lean: which meaning each command has.
-/
namespace Sys2Proof.Machine
open Sys2Proof

def exec (i : Instr) (s : State) : Host.Outcome State Fault Refusal :=
  match i with
  | .powerOn => Sys2Proof.Machine.execPowerOn s
  | .resetNLow => Sys2Proof.Machine.execResetNLow s
  | .pgoodInLow => Sys2Proof.Machine.execPgoodInLow s
  | .startUp strap vaultOk => Sys2Proof.Machine.execStartUp strap vaultOk s
  | .ddrTrainingDone pass => Sys2Proof.Machine.execDdrTrainingDone pass s
  | .bootLoad => Sys2Proof.Machine.execBootLoad s
  | .planApply => Sys2Proof.Machine.execPlanApply s
  | .warmReset why => Sys2Proof.Machine.execWarmReset why s
  | .faceReset f => Sys2Proof.Machine.execFaceReset f s
  | .datapathReset f rx tx => Sys2Proof.Machine.execDatapathReset f rx tx s
  | .canaryTrip => Sys2Proof.Machine.execCanaryTrip s
  | .refclkLoss b => Sys2Proof.Machine.execRefclkLoss b s
  | .refclkRestored b => Sys2Proof.Machine.execRefclkRestored b s
  | .dieToDieFault e => Sys2Proof.Machine.execDieToDieFault e s
  | .vppOtpApplied => Sys2Proof.Machine.execVppOtpApplied s
  | .vppOtpRemoved => Sys2Proof.Machine.execVppOtpRemoved s
  | .otpRecordBurned => Sys2Proof.Machine.execOtpRecordBurned s
  | .planLoad r source => Sys2Proof.Machine.execPlanLoad r source s
  | .faceReplan r face source => Sys2Proof.Machine.execFaceReplan r face source s
  | .flashWrite r slot force => Sys2Proof.Machine.execFlashWrite r slot force s
  | .planFloorBurn r value => Sys2Proof.Machine.execPlanFloorBurn r value s
  | .limitsBurn r => Sys2Proof.Machine.execLimitsBurn r s
  | .keyWrite r slot digest => Sys2Proof.Machine.execKeyWrite r slot digest s
  | .keyRevoke r slot => Sys2Proof.Machine.execKeyRevoke r slot s
  | .calibrate r face lanes kind => Sys2Proof.Machine.execCalibrate r face lanes kind s
  | .assayRun r face datapaths => Sys2Proof.Machine.execAssayRun r face datapaths s
  | .scrubFull r target => Sys2Proof.Machine.execScrubFull r target s
  | .captureDrain r channel => Sys2Proof.Machine.execCaptureDrain r channel s
  | .ddrTest r channels pattern => Sys2Proof.Machine.execDdrTest r channels pattern s
  | .operationDequeued h => Sys2Proof.Machine.execOperationDequeued h s
  | .operationSuspended h progress => Sys2Proof.Machine.execOperationSuspended h progress s
  | .operationEnd h same errs => Sys2Proof.Machine.execOperationEnd h same errs s
  | .handleExpiry h => Sys2Proof.Machine.execHandleExpiry h s
  | .planStageData value => Sys2Proof.Machine.execPlanStageData value s
  | .planStagePtr ptr => Sys2Proof.Machine.execPlanStagePtr ptr s
  | .planStageRelease => Sys2Proof.Machine.execPlanStageRelease s
  | .signalDetect f p => Sys2Proof.Machine.execSignalDetect f p s
  | .settleDone f p gain => Sys2Proof.Machine.execSettleDone f p gain s
  | .settleLimit f p gain => Sys2Proof.Machine.execSettleLimit f p gain s
  | .searchDwell f p tones => Sys2Proof.Machine.execSearchDwell f p tones s
  | .retuneDone f p => Sys2Proof.Machine.execRetuneDone f p s
  | .retuneLimit f p => Sys2Proof.Machine.execRetuneLimit f p s
  | .eqConvDone f d => Sys2Proof.Machine.execEqConvDone f d s
  | .eqConvFail f d => Sys2Proof.Machine.execEqConvFail f d s
  | .convergeLimit f p => Sys2Proof.Machine.execConvergeLimit f p s
  | .verifyWindow f p v => Sys2Proof.Machine.execVerifyWindow f p v s
  | .acqTimeout f p => Sys2Proof.Machine.execAcqTimeout f p s
  | .relockRestartEnd f p => Sys2Proof.Machine.execRelockRestartEnd f p s
  | .relockLimit f p => Sys2Proof.Machine.execRelockLimit f p s
  | .powerBlock f p sumSq n gain => Sys2Proof.Machine.execPowerBlock f p sumSq n gain s
  | .los f p => Sys2Proof.Machine.execLos f p s
  | .clipWindow f p clipped samples => Sys2Proof.Machine.execClipWindow f p clipped samples s
  | .decFail f p => Sys2Proof.Machine.execDecFail f p s
  | .amLoss f p => Sys2Proof.Machine.execAmLoss f p s
  | .timingLoss f p interp freq phase => Sys2Proof.Machine.execTimingLoss f p interp freq phase s
  | .restart f p => Sys2Proof.Machine.execRestart f p s
  | .modeEn f p value => Sys2Proof.Machine.execModeEn f p value s
  | .handoverCompareDone f p mean rms => Sys2Proof.Machine.execHandoverCompareDone f p mean rms s
  | .coefficientBankWrite f d table b k value => Sys2Proof.Machine.execCoefficientBankWrite f d table b k value s
  | .swapEq f d => Sys2Proof.Machine.execSwapEq f d s
  | .swapMlse f d => Sys2Proof.Machine.execSwapMlse f d s
  | .swapApply f d => Sys2Proof.Machine.execSwapApply f d s
  | .bankUe f d bin => Sys2Proof.Machine.execBankUe f d bin s
  | .gradientLatch f d => Sys2Proof.Machine.execGradientLatch f d s
  | .gradientRelease f d => Sys2Proof.Machine.execGradientRelease f d s
  | .eqExpRangeRestart f d => Sys2Proof.Machine.execEqExpRangeRestart f d s
  | .laneEffortCap f p cap => Sys2Proof.Machine.execLaneEffortCap f p cap s
  | .effortSwitch f p => Sys2Proof.Machine.execEffortSwitch f p s
  | .qualityWindow f d q => Sys2Proof.Machine.execQualityWindow f d q s
  | .innerCodeword f d word => Sys2Proof.Machine.execInnerCodeword f d word s
  | .outerCodeword at_ w => Sys2Proof.Machine.execOuterCodeword at_ w s
  | .alignmentMarker f p errors inverted m => Sys2Proof.Machine.execAlignmentMarker f p errors inverted m s
  | .cntCtrlClear f d => Sys2Proof.Machine.execCntCtrlClear f d s
  | .counterWrap f d c => Sys2Proof.Machine.execCounterWrap f d c s
  | .txdApply f d => Sys2Proof.Machine.execTxdApply f d s
  | .shapingSetApplied f d syms => Sys2Proof.Machine.execShapingSetApplied f d syms s
  | .optTarget f target => Sys2Proof.Machine.execOptTarget f target s
  | .sleepToStandby f => Sys2Proof.Machine.execSleepToStandby f s
  | .standbyToSynth f => Sys2Proof.Machine.execStandbyToSynth f s
  | .synthToReceive f => Sys2Proof.Machine.execSynthToReceive f s
  | .rampStep f lane => Sys2Proof.Machine.execRampStep f lane s
  | .targetLockTimeout f => Sys2Proof.Machine.execTargetLockTimeout f s
  | .eyeSafetyCheck f p raw => Sys2Proof.Machine.execEyeSafetyCheck f p raw s
  | .eyeCheckStale f p => Sys2Proof.Machine.execEyeCheckStale f p s
  | .sidebandExchange f reply => Sys2Proof.Machine.execSidebandExchange f reply s
  | .engineStatusPoll f reply => Sys2Proof.Machine.execEngineStatusPoll f reply s
  | .optLaneAWrite f p value => Sys2Proof.Machine.execOptLaneAWrite f p value s
  | .optLimWrite f b value => Sys2Proof.Machine.execOptLimWrite f b value s
  | .elsGrant b => Sys2Proof.Machine.execElsGrant b s
  | .elsGrantTimeout b => Sys2Proof.Machine.execElsGrantTimeout b s
  | .elsGrantLost b => Sys2Proof.Machine.execElsGrantLost b s
  | .elsRelease b => Sys2Proof.Machine.execElsRelease b s
  | .hostSignalDetect h => Sys2Proof.Machine.execHostSignalDetect h s
  | .cdrLock h => Sys2Proof.Machine.execCdrLock h s
  | .polarity h inverted => Sys2Proof.Machine.execPolarity h inverted s
  | .linkTrainingDone h taps => Sys2Proof.Machine.execLinkTrainingDone h taps s
  | .hostMarkerLock h pcs m => Sys2Proof.Machine.execHostMarkerLock h pcs m s
  | .deskew n skews => Sys2Proof.Machine.execDeskew n skews s
  | .hostStageTimeout h => Sys2Proof.Machine.execHostStageTimeout h s
  | .hostLaneLoss h why => Sys2Proof.Machine.execHostLaneLoss h why s
  | .hlRestart h => Sys2Proof.Machine.execHlRestart h s
  | .adminUp n up => Sys2Proof.Machine.execAdminUp n up s
  | .portRestart n => Sys2Proof.Machine.execPortRestart n s
  | .portCounterClear n => Sys2Proof.Machine.execPortCounterClear n s
  | .genEn at_ chk en => Sys2Proof.Machine.execGenEn at_ chk en s
  | .inject at_ => Sys2Proof.Machine.execInject at_ s
  | .prbsClear at_ => Sys2Proof.Machine.execPrbsClear at_ s
  | .prbsSync at_ syms => Sys2Proof.Machine.execPrbsSync at_ syms s
  | .prbsSyncLoss at_ syms => Sys2Proof.Machine.execPrbsSyncLoss at_ syms s
  | .seamFrame f p idx => Sys2Proof.Machine.execSeamFrame f p idx s
  | .seamTrainTimeout f p => Sys2Proof.Machine.execSeamTrainTimeout f p s
  | .seamRetrainTimer f p => Sys2Proof.Machine.execSeamRetrainTimer f p s
  | .retrain f k => Sys2Proof.Machine.execRetrain f k s
  | .seamCounterClear f k => Sys2Proof.Machine.execSeamCounterClear f k s
  | .replayRetry n => Sys2Proof.Machine.execReplayRetry n s
  | .permanentFault f p cond => Sys2Proof.Machine.execPermanentFault f p cond s
  | .lanePermanentFault f p cond => Sys2Proof.Machine.execLanePermanentFault f p cond s
  | .p8Ready f skew => Sys2Proof.Machine.execP8Ready f skew s
  | .sealSwitch f => Sys2Proof.Machine.execSealSwitch f s
  | .sealCommit f => Sys2Proof.Machine.execSealCommit f s
  | .sealHandshakeTimeout f => Sys2Proof.Machine.execSealHandshakeTimeout f s
  | .sealRepropose f => Sys2Proof.Machine.execSealRepropose f s
  | .run f run => Sys2Proof.Machine.execRun f run s
  | .tapSwap f => Sys2Proof.Machine.execTapSwap f s
  | .tapSwapApply f => Sys2Proof.Machine.execTapSwapApply f s
  | .tapRestart f => Sys2Proof.Machine.execTapRestart f s
  | .tapCoef f b idx value => Sys2Proof.Machine.execTapCoef f b idx value s
  | .tapBlock f b => Sys2Proof.Machine.execTapBlock f b s
  | .captureArm r mask => Sys2Proof.Machine.execCaptureArm r mask s
  | .arm c => Sys2Proof.Machine.execArm c s
  | .force c => Sys2Proof.Machine.execForce c s
  | .stop c => Sys2Proof.Machine.execStop c s
  | .discard c => Sys2Proof.Machine.execDiscard c s
  | .captureConfigWrite c which value => Sys2Proof.Machine.execCaptureConfigWrite c which value s
  | .captureTrigger c time pos shortPre => Sys2Proof.Machine.execCaptureTrigger c time pos shortPre s
  | .captureFull c wrapped end_ data => Sys2Proof.Machine.execCaptureFull c wrapped end_ data s
  | .streamOpen r src index consume credit => Sys2Proof.Machine.execStreamOpen r src index consume credit s
  | .streamClose r stream => Sys2Proof.Machine.execStreamClose r stream s
  | .streamCredit idx add => Sys2Proof.Machine.execStreamCredit idx add s
  | .streamBlockSend idx b => Sys2Proof.Machine.execStreamBlockSend idx b s
  | .streamTimeout idx => Sys2Proof.Machine.execStreamTimeout idx s
  | .dropOldest => Sys2Proof.Machine.execDropOldest s
  | .add n d u v => Sys2Proof.Machine.execAdd n d u v s
  | .sub n d u v => Sys2Proof.Machine.execSub n d u v s
  | .and n d u v => Sys2Proof.Machine.execAnd n d u v s
  | .or n d u v => Sys2Proof.Machine.execOr n d u v s
  | .xor n d u v => Sys2Proof.Machine.execXor n d u v s
  | .shl n d u v => Sys2Proof.Machine.execShl n d u v s
  | .shr n d u v => Sys2Proof.Machine.execShr n d u v s
  | .sra n d u v => Sys2Proof.Machine.execSra n d u v s
  | .min n d u v => Sys2Proof.Machine.execMin n d u v s
  | .max n d u v => Sys2Proof.Machine.execMax n d u v s
  | .add16x2 n half sat d u v => Sys2Proof.Machine.execAdd16x2 n half sat d u v s
  | .sub16x2 n half sat d u v => Sys2Proof.Machine.execSub16x2 n half sat d u v s
  | .conj n d u => Sys2Proof.Machine.execConj n d u s
  | .swaph n d u => Sys2Proof.Machine.execSwaph n d u s
  | .addi n d u imm => Sys2Proof.Machine.execAddi n d u imm s
  | .movi n d imm => Sys2Proof.Machine.execMovi n d imm s
  | .movhi n d imm => Sys2Proof.Machine.execMovhi n d imm s
  | .cmp n u v => Sys2Proof.Machine.execCmp n u v s
  | .exp n d u => Sys2Proof.Machine.execExp n d u s
  | .expm n d u v => Sys2Proof.Machine.execExpm n d u v s
  | .hist n sat d u v => Sys2Proof.Machine.execHist n sat d u v s
  | .mfs n d idx => Sys2Proof.Machine.execMfs n d idx s
  | .mts n u idx => Sys2Proof.Machine.execMts n u idx s
  | .mac2 n sat a u v neg => Sys2Proof.Machine.execMac2 n sat a u v neg s
  | .cmac n sat a u v neg => Sys2Proof.Machine.execCmac n sat a u v neg s
  | .cmacj n sat a u v neg => Sys2Proof.Machine.execCmacj n sat a u v neg s
  | .cmadd n sat a u v w neg => Sys2Proof.Machine.execCmadd n sat a u v w neg s
  | .cmaddj n sat a u v w neg => Sys2Proof.Machine.execCmaddj n sat a u v w neg s
  | .aset n a u => Sys2Proof.Machine.execAset n a u s
  | .aclr n a => Sys2Proof.Machine.execAclr n a s
  | .ashr n sat a sh => Sys2Proof.Machine.execAshr n sat a sh s
  | .extr n sat d a sh => Sys2Proof.Machine.execExtr n sat d a sh s
  | .norm n d a => Sys2Proof.Machine.execNorm n d a s
  | .ldw n d p upd off => Sys2Proof.Machine.execLdw n d p upd off s
  | .ldd n d p upd off => Sys2Proof.Machine.execLdd n d p upd off s
  | .ldh n d p upd off => Sys2Proof.Machine.execLdh n d p upd off s
  | .ldb n d p upd off => Sys2Proof.Machine.execLdb n d p upd off s
  | .stw n d p upd off => Sys2Proof.Machine.execStw n d p upd off s
  | .std n d p upd off => Sys2Proof.Machine.execStd n d p upd off s
  | .sth n d p upd off => Sys2Proof.Machine.execSth n d p upd off s
  | .stb n d p upd off => Sys2Proof.Machine.execStb n d p upd off s
  | .setp n sel u => Sys2Proof.Machine.execSetp n sel u s
  | .getp n d sel => Sys2Proof.Machine.execGetp n d sel s
  | .paddi n p imm => Sys2Proof.Machine.execPaddi n p imm s
  | .br n off => Sys2Proof.Machine.execBr n off s
  | .bcc n c off => Sys2Proof.Machine.execBcc n c off s
  | .call n off => Sys2Proof.Machine.execCall n off s
  | .jr n u => Sys2Proof.Machine.execJr n u s
  | .loop n l u off => Sys2Proof.Machine.execLoop n l u off s
  | .loopr n l u off => Sys2Proof.Machine.execLoopr n l u off s
  | .reti n => Sys2Proof.Machine.execReti n s
  | .nop n => Sys2Proof.Machine.execNop n s
  | .wait n => Sys2Proof.Machine.execWait n s
  | .ei n => Sys2Proof.Machine.execEi n s
  | .di n => Sys2Proof.Machine.execDi n s
  | .sync n => Sys2Proof.Machine.execSync n s
  | .trap n => Sys2Proof.Machine.execTrap n s
  | .bkpt n => Sys2Proof.Machine.execBkpt n s
  | .postedWriteStatus n => Sys2Proof.Machine.execPostedWriteStatus n s
  | .interruptEntry n => Sys2Proof.Machine.execInterruptEntry n s
  | .hwTimer n => Sys2Proof.Machine.execHwTimer n s
  | .watchdogWarning n => Sys2Proof.Machine.execWatchdogWarning n s
  | .watchdog n => Sys2Proof.Machine.execWatchdog n s
  | .kick n => Sys2Proof.Machine.execKick n s
  | .hewerRun n run => Sys2Proof.Machine.execHewerRun n run s
  | .hewerReset n => Sys2Proof.Machine.execHewerReset n s
  | .hewerStep n => Sys2Proof.Machine.execHewerStep n s
  | .hwMboxIn n value => Sys2Proof.Machine.execHwMboxIn n value s
  | .programMemoryWrite n w value => Sys2Proof.Machine.execProgramMemoryWrite n w value s
  | .overlayStart n out len => Sys2Proof.Machine.execOverlayStart n out len s
  | .overlayDone n => Sys2Proof.Machine.execOverlayDone n s
  | .ack f => Sys2Proof.Machine.execAck f s
  | .adaptAckTimeout f => Sys2Proof.Machine.execAdaptAckTimeout f s
  | .h16Restart => Sys2Proof.Machine.execH16Restart s
  | .controlPortRateTry n => Sys2Proof.Machine.execControlPortRateTry n s
  | .cpRestart n => Sys2Proof.Machine.execCpRestart n s
  | .cpErrsClear n => Sys2Proof.Machine.execCpErrsClear n s
  | .pause n quanta => Sys2Proof.Machine.execPause n quanta s
  | .arp n addr => Sys2Proof.Machine.execArp n addr s
  | .neighbourSolicitation n addr => Sys2Proof.Machine.execNeighbourSolicitation n addr s
  | .icmpEcho n v6 addr data => Sys2Proof.Machine.execIcmpEcho n v6 addr data s
  | .malformed n => Sys2Proof.Machine.execMalformed n s
  | .ptpSync n domain id twoStep origin => Sys2Proof.Machine.execPtpSync n domain id twoStep origin s
  | .ptpFollowUp n domain id origin => Sys2Proof.Machine.execPtpFollowUp n domain id origin s
  | .ptpDelayResp n domain id sent received => Sys2Proof.Machine.execPtpDelayResp n domain id sent received s
  | .ptpAnnounce n domain id rank => Sys2Proof.Machine.execPtpAnnounce n domain id rank s
  | .ptpAnnounceTimeout => Sys2Proof.Machine.execPtpAnnounceTimeout s
  | .timeLocked => Sys2Proof.Machine.execTimeLocked s
  | .hello n id minMajor minMinor maxMajor maxMinor nonce eph => Sys2Proof.Machine.execHello n id minMajor minMinor maxMajor maxMinor nonce eph s
  | .auth r pub sig => Sys2Proof.Machine.execAuth r pub sig s
  | .read r addr => Sys2Proof.Machine.execRead r addr s
  | .write r addr value => Sys2Proof.Machine.execWrite r addr value s
  | .readBlock r addr count => Sys2Proof.Machine.execReadBlock r addr count s
  | .writeBlock r addr values => Sys2Proof.Machine.execWriteBlock r addr values s
  | .opSuspend r h => Sys2Proof.Machine.execOpSuspend r h s
  | .opResume r h => Sys2Proof.Machine.execOpResume r h s
  | .opCancel r h => Sys2Proof.Machine.execOpCancel r h s
  | .opStatus r h => Sys2Proof.Machine.execOpStatus r h s
  | .snap r => Sys2Proof.Machine.execSnap r s
  | .snapDone => Sys2Proof.Machine.execSnapDone s
  | .tallyFreeze r => Sys2Proof.Machine.execTallyFreeze r s
  | .tallyThaw r => Sys2Proof.Machine.execTallyThaw r s
  | .freezeTimeout => Sys2Proof.Machine.execFreezeTimeout s
  | .sessionTimeout session => Sys2Proof.Machine.execSessionTimeout session s
  | .accessTimeout r addr value landed => Sys2Proof.Machine.execAccessTimeout r addr value landed s
  | .counterLoRead session addr => Sys2Proof.Machine.execCounterLoRead session addr s
  | .registerWrite addr value => Sys2Proof.Machine.execRegisterWrite addr value s
  | .wakeFrame payload flips => Sys2Proof.Machine.execWakeFrame payload flips s
  | .wakeN flips => Sys2Proof.Machine.execWakeN flips s
  | .aonTimer flips => Sys2Proof.Machine.execAonTimer flips s
  | .thermalAlert value flips => Sys2Proof.Machine.execThermalAlert value flips s
  | .elsGrantChange b low flips => Sys2Proof.Machine.execElsGrantChange b low flips s
  | .chipRun => Sys2Proof.Machine.execChipRun s
  | .chipStandby => Sys2Proof.Machine.execChipStandby s
  | .chipDeep => Sys2Proof.Machine.execChipDeep s
  | .schedulerTick => Sys2Proof.Machine.execSchedulerTick s
  | .integrityWait f tx d => Sys2Proof.Machine.execIntegrityWait f tx d s
  | .sensorConversion n value => Sys2Proof.Machine.execSensorConversion n value s
  | .throttleAction scope => Sys2Proof.Machine.execThrottleAction scope s
  | .throttleRelease scope => Sys2Proof.Machine.execThrottleRelease scope s
  | .sensorFailure n cause => Sys2Proof.Machine.execSensorFailure n cause s
  | .railConfirm c nak ulinear raw => Sys2Proof.Machine.execRailConfirm c nak ulinear raw s
  | .railRetry c => Sys2Proof.Machine.execRailRetry c s
  | .ageingMeasurement n freq below => Sys2Proof.Machine.execAgeingMeasurement n freq below s
  | .madcConversion raw => Sys2Proof.Machine.execMadcConversion raw s
  | .madcDirect ch => Sys2Proof.Machine.execMadcDirect ch s
  | .selfcal => Sys2Proof.Machine.execSelfcal s
  | .selfcalDone gain offset => Sys2Proof.Machine.execSelfcalDone gain offset s
  | .madcSequencePass => Sys2Proof.Machine.execMadcSequencePass s
  | .sliceMeasurement f p off gain skew bw => Sys2Proof.Machine.execSliceMeasurement f p off gain skew bw s
  | .calRequeue f p => Sys2Proof.Machine.execCalRequeue f p s
  | .facePll f => Sys2Proof.Machine.execFacePll f s
  | .facePllTimeout f => Sys2Proof.Machine.execFacePllTimeout f s
  | .surveySetWrite q idx w value => Sys2Proof.Machine.execSurveySetWrite q idx w value s
  | .assayQueue f => Sys2Proof.Machine.execAssayQueue f s
  | .rotationShadowEnd f => Sys2Proof.Machine.execRotationShadowEnd f s
  | .rotationMatch f => Sys2Proof.Machine.execRotationMatch f s
  | .rotationSwitch f => Sys2Proof.Machine.execRotationSwitch f s
  | .matchTimeout f => Sys2Proof.Machine.execMatchTimeout f s
  | .assayRetry f => Sys2Proof.Machine.execAssayRetry f s
  | .bistSliceDone f misr => Sys2Proof.Machine.execBistSliceDone f misr s
  | .memFlip value => Sys2Proof.Machine.execMemFlip value s
  | .regionClear n => Sys2Proof.Machine.execRegionClear n s
  | .tallyArchiveCopy => Sys2Proof.Machine.execTallyArchiveCopy s
  | .tallyClear => Sys2Proof.Machine.execTallyClear s
  | .tallyArchSel value => Sys2Proof.Machine.execTallyArchSel value s
  | .snapHiRead session => Sys2Proof.Machine.execSnapHiRead session s
  | .pcOvf b idx => Sys2Proof.Machine.execPcOvf b idx s
  | .bwWindow n h2l l2h => Sys2Proof.Machine.execBwWindow n h2l l2h s
  | .hsRestart n => Sys2Proof.Machine.execHsRestart n s
  | .controlPortLinkUp n => Sys2Proof.Machine.execControlPortLinkUp n s
  | .controlPortLinkLoss n => Sys2Proof.Machine.execControlPortLinkLoss n s
  | .powerLoss => Sys2Proof.Machine.execPowerLoss s
  | .facePllDone f => Sys2Proof.Machine.execFacePllDone f s
  | .pauseEnd n => Sys2Proof.Machine.execPauseEnd n s
  | .elsGrantWithdrawn b => Sys2Proof.Machine.execElsGrantWithdrawn b s

end Sys2Proof.Machine
end

