-- ==== Sys2Proof/Machine/Tick.lean ====
section
/-!
DEFINITION. Sys2Proof/Machine/Tick.lean: what happens while no command waits: device time goes on, and each control port sends one
message that it holds (notes/assumptions/35.md).
-/
namespace Sys2Proof.Machine
open Sys2Proof

/-- Takes the first message that `p` picks out of a list. -/
def takeMsg (p : Msg → Bool) : List Msg → Option (Msg × List Msg)
  | [] => none
  | m :: r =>
    if p m then some (m, r)
    else match takeMsg p r with
      | some (x, r') => some (x, m :: r')
      | none => none

/-- What port `n` sends next: replies and notices ahead of stream messages, oldest first (R291). -/
def nextMsg (n : Nat) (tx : List Msg) : Option (Msg × List Msg) :=
  match takeMsg (fun m => m.port == n && m.flags != 4) tx with
  | some r => some r
  | none => takeMsg (fun m => m.port == n) tx

/-- May port `n` send (R288, R291)? -/
def portSends (s : State) (n : Nat) : Bool := s.on (CP_STATUS_LINK n) && !s.on (CP_STATUS_PAUSED n)

/-- The message is read from the transmit buffer (R291): does it leave? A frame with an uncorrectable word is discarded (R412, kind 8); a
word that took a flip on its way in is corrected or found bad here (R401, R403). -/
def sendRead (s : State) (n : Nat) (m : Msg) : State × Bool :=
  match m.flip with
  | none => (s, true)
  | some (w, t) => tagRead s 8 n w t

/-- Port `n` sends a message; its bytes are counted (R429, selector 0 of a control port's block). -/
def sendOne (s : State) (n : Nat) : State :=
  match nextMsg n s.tx with
  | some (m, r) =>
    if portSends s n then
      let (t, leaves) := sendRead { s with tx := r } n m
      if leaves then pcCount t (66 + n) 0 15 (msgBytes m) else t
    else s
  | none => s

/-- How far device time goes in one nanosecond of the crystal (R293): one, and in a slew none or two once in 5,000, which is 200 ppm; it
runs at the crystal's rate in FREE. -/
def timeStep (s : State) : Nat :=
  if s.rd TIME_STATUS_STATE = 0 ∨ s.ptp.slew = 0 ∨ s.mono % 5000 ≠ 0 then 1 else if 0 < s.ptp.slew then 0 else 2

/-- One nanosecond without a command (R16, R293; notes/assumptions/79.md). -/
def tick (s : State) : State :=
  if s.powered then
    let n := timeStep s
    let s : State := { s with
      time := (s.time + n) % 2 ^ 64, mono := s.mono + 1, ptp := { s.ptp with slew := s.ptp.slew + ((n : Int) - 1) } }
    if s.alive then sendOne (sendOne s 0) 1 else s
  else s

end Sys2Proof.Machine
end

