-- ==== Sys2Proof/Laws/State.lean ====
section
/-!
SUPPORT. Sys2Proof/Laws/State.lean: what each update of State leaves alone, one lemma for each field and update, so that no proof unfolds a
record update.
-/
namespace Sys2Proof.Machine
open Sys2Proof

/-! ## setReg -/

@[simp] theorem State.setReg_pending (s : State) (a : Nat) (w : Word) : (s.setReg a w).pending = s.pending := rfl
@[simp] theorem State.setReg_ctrs (s : State) (a : Nat) (w : Word) : (s.setReg a w).ctrs = s.ctrs := rfl
@[simp] theorem State.setReg_shadows (s : State) (a : Nat) (w : Word) : (s.setReg a w).shadows = s.shadows := rfl
@[simp] theorem State.setReg_snapGens (s : State) (a : Nat) (w : Word) : (s.setReg a w).snapGens = s.snapGens := rfl
@[simp] theorem State.setReg_bytes (s : State) (a : Nat) (w : Word) : (s.setReg a w).bytes = s.bytes := rfl
@[simp] theorem State.setReg_tags (s : State) (a : Nat) (w : Word) : (s.setReg a w).tags = s.tags := rfl
@[simp] theorem State.setReg_flash (s : State) (a : Nat) (w : Word) : (s.setReg a w).flash = s.flash := rfl
@[simp] theorem State.setReg_time (s : State) (a : Nat) (w : Word) : (s.setReg a w).time = s.time := rfl
@[simp] theorem State.setReg_mono (s : State) (a : Nat) (w : Word) : (s.setReg a w).mono = s.mono := rfl
@[simp] theorem State.setReg_freeCtr (s : State) (a : Nat) (w : Word) : (s.setReg a w).freeCtr = s.freeCtr := rfl
@[simp] theorem State.setReg_powered (s : State) (a : Nat) (w : Word) : (s.setReg a w).powered = s.powered := rfl
@[simp] theorem State.setReg_canary (s : State) (a : Nat) (w : Word) : (s.setReg a w).canary = s.canary := rfl
@[simp] theorem State.setReg_started (s : State) (a : Nat) (w : Word) : (s.setReg a w).started = s.started := rfl
@[simp] theorem State.setReg_sessions (s : State) (a : Nat) (w : Word) : (s.setReg a w).sessions = s.sessions := rfl
@[simp] theorem State.setReg_sessionCount (s : State) (a : Nat) (w : Word) : (s.setReg a w).sessionCount = s.sessionCount := rfl
@[simp] theorem State.setReg_ops (s : State) (a : Nat) (w : Word) : (s.setReg a w).ops = s.ops := rfl
@[simp] theorem State.setReg_handleCount (s : State) (a : Nat) (w : Word) : (s.setReg a w).handleCount = s.handleCount := rfl
@[simp] theorem State.setReg_tx (s : State) (a : Nat) (w : Word) : (s.setReg a w).tx = s.tx := rfl
@[simp] theorem State.setReg_accLog (s : State) (a : Nat) (w : Word) : (s.setReg a w).accLog = s.accLog := rfl
@[simp] theorem State.setReg_busStatus (s : State) (a : Nat) (w : Word) : (s.setReg a w).busStatus = s.busStatus := rfl
@[simp] theorem State.setReg_gap (s : State) (a : Nat) (w : Word) : (s.setReg a w).gap = s.gap := rfl
@[simp] theorem State.setReg_frozenLost (s : State) (a : Nat) (w : Word) : (s.setReg a w).frozenLost = s.frozenLost := rfl
@[simp] theorem State.setReg_archNext (s : State) (a : Nat) (w : Word) : (s.setReg a w).archNext = s.archNext := rfl
@[simp] theorem State.setReg_archive (s : State) (a : Nat) (w : Word) : (s.setReg a w).archive = s.archive := rfl
@[simp] theorem State.setReg_regions (s : State) (a : Nat) (w : Word) : (s.setReg a w).regions = s.regions := rfl
@[simp] theorem State.setReg_rowSeals (s : State) (a : Nat) (w : Word) : (s.setReg a w).rowSeals = s.rowSeals := rfl
@[simp] theorem State.setReg_scrubAt (s : State) (a : Nat) (w : Word) : (s.setReg a w).scrubAt = s.scrubAt := rfl
@[simp] theorem State.setReg_ddrScrub (s : State) (a : Nat) (w : Word) : (s.setReg a w).ddrScrub = s.ddrScrub := rfl
@[simp] theorem State.setReg_wasUe (s : State) (a : Nat) (w : Word) : (s.setReg a w).wasUe = s.wasUe := rfl
@[simp] theorem State.setReg_rxds (s : State) (a : Nat) (w : Word) : (s.setReg a w).rxds = s.rxds := rfl
@[simp] theorem State.setReg_planCopyOk (s : State) (a : Nat) (w : Word) : (s.setReg a w).planCopyOk = s.planCopyOk := rfl
@[simp] theorem State.setReg_lanes (s : State) (a : Nat) (w : Word) : (s.setReg a w).lanes = s.lanes := rfl
@[simp] theorem State.setReg_calQ (s : State) (a : Nat) (w : Word) : (s.setReg a w).calQ = s.calQ := rfl
@[simp] theorem State.setReg_assayQ (s : State) (a : Nat) (w : Word) : (s.setReg a w).assayQ = s.assayQ := rfl
@[simp] theorem State.setReg_defer (s : State) (a : Nat) (w : Word) : (s.setReg a w).defer = s.defer := rfl
@[simp] theorem State.setReg_plan (s : State) (a : Nat) (w : Word) : (s.setReg a w).plan = s.plan := rfl
@[simp] theorem State.setReg_seams (s : State) (a : Nat) (w : Word) : (s.setReg a w).seams = s.seams := rfl
@[simp] theorem State.setReg_faces (s : State) (a : Nat) (w : Word) : (s.setReg a w).faces = s.faces := rfl
@[simp] theorem State.setReg_caps (s : State) (a : Nat) (w : Word) : (s.setReg a w).caps = s.caps := rfl
@[simp] theorem State.setReg_archEntries (s : State) (a : Nat) (w : Word) : (s.setReg a w).archEntries = s.archEntries := rfl
@[simp] theorem State.setReg_archId (s : State) (a : Nat) (w : Word) : (s.setReg a w).archId = s.archId := rfl
@[simp] theorem State.setReg_archMib (s : State) (a : Nat) (w : Word) : (s.setReg a w).archMib = s.archMib := rfl
@[simp] theorem State.setReg_streams (s : State) (a : Nat) (w : Word) : (s.setReg a w).streams = s.streams := rfl
@[simp] theorem State.setReg_streamCount (s : State) (a : Nat) (w : Word) : (s.setReg a w).streamCount = s.streamCount := rfl
@[simp] theorem State.setReg_claim (s : State) (a : Nat) (w : Word) : (s.setReg a w).claim = s.claim := rfl
@[simp] theorem State.setReg_rails (s : State) (a : Nat) (w : Word) : (s.setReg a w).rails = s.rails := rfl
@[simp] theorem State.setReg_refALost (s : State) (a : Nat) (w : Word) : (s.setReg a w).refALost = s.refALost := rfl
@[simp] theorem State.setReg_refBLost (s : State) (a : Nat) (w : Word) : (s.setReg a w).refBLost = s.refBLost := rfl
@[simp] theorem State.setReg_shapes (s : State) (a : Nat) (w : Word) : (s.setReg a w).shapes = s.shapes := rfl
@[simp] theorem State.setReg_otp (s : State) (a : Nat) (w : Word) : (s.setReg a w).otp = s.otp := rfl
@[simp] theorem State.setReg_burnQ (s : State) (a : Nat) (w : Word) : (s.setReg a w).burnQ = s.burnQ := rfl
@[simp] theorem State.setReg_volatileSeals (s : State) (a : Nat) (w : Word) : (s.setReg a w).volatileSeals = s.volatileSeals := rfl
@[simp] theorem State.setReg_episodes (s : State) (a : Nat) (w : Word) : (s.setReg a w).episodes = s.episodes := rfl
@[simp] theorem State.setReg_hsBuf (s : State) (a : Nat) (w : Word) : (s.setReg a w).hsBuf = s.hsBuf := rfl
@[simp] theorem State.setReg_hsCount (s : State) (a : Nat) (w : Word) : (s.setReg a w).hsCount = s.hsCount := rfl
@[simp] theorem State.setReg_hostPcs (s : State) (a : Nat) (w : Word) : (s.setReg a w).hostPcs = s.hostPcs := rfl
@[simp] theorem State.setReg_injects (s : State) (a : Nat) (w : Word) : (s.setReg a w).injects = s.injects := rfl
@[simp] theorem State.setReg_budgetShed (s : State) (a : Nat) (w : Word) : (s.setReg a w).budgetShed = s.budgetShed := rfl
@[simp] theorem State.setReg_throttleShed (s : State) (a : Nat) (w : Word) : (s.setReg a w).throttleShed = s.throttleShed := rfl
@[simp] theorem State.setReg_ticks (s : State) (a : Nat) (w : Word) : (s.setReg a w).ticks = s.ticks := rfl
@[simp] theorem State.setReg_chipTo (s : State) (a : Nat) (w : Word) : (s.setReg a w).chipTo = s.chipTo := rfl
@[simp] theorem State.setReg_setAge (s : State) (a : Nat) (w : Word) : (s.setReg a w).setAge = s.setAge := rfl
@[simp] theorem State.setReg_mirror (s : State) (a : Nat) (w : Word) : (s.setReg a w).mirror = s.mirror := rfl
@[simp] theorem State.setReg_madcAcc (s : State) (a : Nat) (w : Word) : (s.setReg a w).madcAcc = s.madcAcc := rfl
@[simp] theorem State.setReg_seqLen (s : State) (a : Nat) (w : Word) : (s.setReg a w).seqLen = s.seqLen := rfl
@[simp] theorem State.setReg_seqPending (s : State) (a : Nat) (w : Word) : (s.setReg a w).seqPending = s.seqPending := rfl
@[simp] theorem State.setReg_hewers (s : State) (a : Nat) (w : Word) : (s.setReg a w).hewers = s.hewers := rfl
@[simp] theorem State.setReg_actor (s : State) (a : Nat) (w : Word) : (s.setReg a w).actor = s.actor := rfl
@[simp] theorem State.setReg_booting (s : State) (a : Nat) (w : Word) : (s.setReg a w).booting = s.booting := rfl
@[simp] theorem State.setReg_checked (s : State) (a : Nat) (w : Word) : (s.setReg a w).checked = s.checked := rfl
@[simp] theorem State.setReg_bootTries (s : State) (a : Nat) (w : Word) : (s.setReg a w).bootTries = s.bootTries := rfl
@[simp] theorem State.setReg_ddrLayout (s : State) (a : Nat) (w : Word) : (s.setReg a w).ddrLayout = s.ddrLayout := rfl
@[simp] theorem State.setReg_d2d (s : State) (a : Nat) (w : Word) : (s.setReg a w).d2d = s.d2d := rfl
@[simp] theorem State.setReg_ddrTrain (s : State) (a : Nat) (w : Word) : (s.setReg a w).ddrTrain = s.ddrTrain := rfl
@[simp] theorem State.setReg_keptCrc (s : State) (a : Nat) (w : Word) : (s.setReg a w).keptCrc = s.keptCrc := rfl
@[simp] theorem State.setReg_cpTry (s : State) (a : Nat) (w : Word) : (s.setReg a w).cpTry = s.cpTry := rfl
@[simp] theorem State.setReg_ptp (s : State) (a : Nat) (w : Word) : (s.setReg a w).ptp = s.ptp := rfl
@[simp] theorem State.setReg_ddrEpoch (s : State) (a : Nat) (w : Word) : (s.setReg a w).ddrEpoch = s.ddrEpoch := rfl
@[simp] theorem State.setReg_txds (s : State) (a : Nat) (w : Word) : (s.setReg a w).txds = s.txds := rfl
@[simp] theorem State.setReg_pats (s : State) (a : Nat) (w : Word) : (s.setReg a w).pats = s.pats := rfl
@[simp] theorem State.setReg_gens (s : State) (a : Nat) (w : Word) : (s.setReg a w).gens = s.gens := rfl
@[simp] theorem State.setReg_ports (s : State) (a : Nat) (w : Word) : (s.setReg a w).ports = s.ports := rfl
@[simp] theorem State.setReg_hostTx (s : State) (a : Nat) (w : Word) : (s.setReg a w).hostTx = s.hostTx := rfl
@[simp] theorem State.setReg_hostTaps (s : State) (a : Nat) (w : Word) : (s.setReg a w).hostTaps = s.hostTaps := rfl

/-! ## wr -/

@[simp] theorem State.wr_pending (s : State) (f : Fld) (v : Nat) : (s.wr f v).pending = s.pending := rfl
@[simp] theorem State.wr_ctrs (s : State) (f : Fld) (v : Nat) : (s.wr f v).ctrs = s.ctrs := rfl
@[simp] theorem State.wr_shadows (s : State) (f : Fld) (v : Nat) : (s.wr f v).shadows = s.shadows := rfl
@[simp] theorem State.wr_snapGens (s : State) (f : Fld) (v : Nat) : (s.wr f v).snapGens = s.snapGens := rfl
@[simp] theorem State.wr_bytes (s : State) (f : Fld) (v : Nat) : (s.wr f v).bytes = s.bytes := rfl
@[simp] theorem State.wr_tags (s : State) (f : Fld) (v : Nat) : (s.wr f v).tags = s.tags := rfl
@[simp] theorem State.wr_flash (s : State) (f : Fld) (v : Nat) : (s.wr f v).flash = s.flash := rfl
@[simp] theorem State.wr_time (s : State) (f : Fld) (v : Nat) : (s.wr f v).time = s.time := rfl
@[simp] theorem State.wr_mono (s : State) (f : Fld) (v : Nat) : (s.wr f v).mono = s.mono := rfl
@[simp] theorem State.wr_freeCtr (s : State) (f : Fld) (v : Nat) : (s.wr f v).freeCtr = s.freeCtr := rfl
@[simp] theorem State.wr_powered (s : State) (f : Fld) (v : Nat) : (s.wr f v).powered = s.powered := rfl
@[simp] theorem State.wr_canary (s : State) (f : Fld) (v : Nat) : (s.wr f v).canary = s.canary := rfl
@[simp] theorem State.wr_started (s : State) (f : Fld) (v : Nat) : (s.wr f v).started = s.started := rfl
@[simp] theorem State.wr_sessions (s : State) (f : Fld) (v : Nat) : (s.wr f v).sessions = s.sessions := rfl
@[simp] theorem State.wr_sessionCount (s : State) (f : Fld) (v : Nat) : (s.wr f v).sessionCount = s.sessionCount := rfl
@[simp] theorem State.wr_ops (s : State) (f : Fld) (v : Nat) : (s.wr f v).ops = s.ops := rfl
@[simp] theorem State.wr_handleCount (s : State) (f : Fld) (v : Nat) : (s.wr f v).handleCount = s.handleCount := rfl
@[simp] theorem State.wr_tx (s : State) (f : Fld) (v : Nat) : (s.wr f v).tx = s.tx := rfl
@[simp] theorem State.wr_accLog (s : State) (f : Fld) (v : Nat) : (s.wr f v).accLog = s.accLog := rfl
@[simp] theorem State.wr_busStatus (s : State) (f : Fld) (v : Nat) : (s.wr f v).busStatus = s.busStatus := rfl
@[simp] theorem State.wr_gap (s : State) (f : Fld) (v : Nat) : (s.wr f v).gap = s.gap := rfl
@[simp] theorem State.wr_frozenLost (s : State) (f : Fld) (v : Nat) : (s.wr f v).frozenLost = s.frozenLost := rfl
@[simp] theorem State.wr_archNext (s : State) (f : Fld) (v : Nat) : (s.wr f v).archNext = s.archNext := rfl
@[simp] theorem State.wr_archive (s : State) (f : Fld) (v : Nat) : (s.wr f v).archive = s.archive := rfl
@[simp] theorem State.wr_regions (s : State) (f : Fld) (v : Nat) : (s.wr f v).regions = s.regions := rfl
@[simp] theorem State.wr_rowSeals (s : State) (f : Fld) (v : Nat) : (s.wr f v).rowSeals = s.rowSeals := rfl
@[simp] theorem State.wr_scrubAt (s : State) (f : Fld) (v : Nat) : (s.wr f v).scrubAt = s.scrubAt := rfl
@[simp] theorem State.wr_ddrScrub (s : State) (f : Fld) (v : Nat) : (s.wr f v).ddrScrub = s.ddrScrub := rfl
@[simp] theorem State.wr_wasUe (s : State) (f : Fld) (v : Nat) : (s.wr f v).wasUe = s.wasUe := rfl
@[simp] theorem State.wr_rxds (s : State) (f : Fld) (v : Nat) : (s.wr f v).rxds = s.rxds := rfl
@[simp] theorem State.wr_planCopyOk (s : State) (f : Fld) (v : Nat) : (s.wr f v).planCopyOk = s.planCopyOk := rfl
@[simp] theorem State.wr_lanes (s : State) (f : Fld) (v : Nat) : (s.wr f v).lanes = s.lanes := rfl
@[simp] theorem State.wr_calQ (s : State) (f : Fld) (v : Nat) : (s.wr f v).calQ = s.calQ := rfl
@[simp] theorem State.wr_assayQ (s : State) (f : Fld) (v : Nat) : (s.wr f v).assayQ = s.assayQ := rfl
@[simp] theorem State.wr_defer (s : State) (f : Fld) (v : Nat) : (s.wr f v).defer = s.defer := rfl
@[simp] theorem State.wr_plan (s : State) (f : Fld) (v : Nat) : (s.wr f v).plan = s.plan := rfl
@[simp] theorem State.wr_seams (s : State) (f : Fld) (v : Nat) : (s.wr f v).seams = s.seams := rfl
@[simp] theorem State.wr_faces (s : State) (f : Fld) (v : Nat) : (s.wr f v).faces = s.faces := rfl
@[simp] theorem State.wr_caps (s : State) (f : Fld) (v : Nat) : (s.wr f v).caps = s.caps := rfl
@[simp] theorem State.wr_archEntries (s : State) (f : Fld) (v : Nat) : (s.wr f v).archEntries = s.archEntries := rfl
@[simp] theorem State.wr_archId (s : State) (f : Fld) (v : Nat) : (s.wr f v).archId = s.archId := rfl
@[simp] theorem State.wr_archMib (s : State) (f : Fld) (v : Nat) : (s.wr f v).archMib = s.archMib := rfl
@[simp] theorem State.wr_streams (s : State) (f : Fld) (v : Nat) : (s.wr f v).streams = s.streams := rfl
@[simp] theorem State.wr_streamCount (s : State) (f : Fld) (v : Nat) : (s.wr f v).streamCount = s.streamCount := rfl
@[simp] theorem State.wr_claim (s : State) (f : Fld) (v : Nat) : (s.wr f v).claim = s.claim := rfl
@[simp] theorem State.wr_rails (s : State) (f : Fld) (v : Nat) : (s.wr f v).rails = s.rails := rfl
@[simp] theorem State.wr_refALost (s : State) (f : Fld) (v : Nat) : (s.wr f v).refALost = s.refALost := rfl
@[simp] theorem State.wr_refBLost (s : State) (f : Fld) (v : Nat) : (s.wr f v).refBLost = s.refBLost := rfl
@[simp] theorem State.wr_shapes (s : State) (f : Fld) (v : Nat) : (s.wr f v).shapes = s.shapes := rfl
@[simp] theorem State.wr_otp (s : State) (f : Fld) (v : Nat) : (s.wr f v).otp = s.otp := rfl
@[simp] theorem State.wr_burnQ (s : State) (f : Fld) (v : Nat) : (s.wr f v).burnQ = s.burnQ := rfl
@[simp] theorem State.wr_volatileSeals (s : State) (f : Fld) (v : Nat) : (s.wr f v).volatileSeals = s.volatileSeals := rfl
@[simp] theorem State.wr_episodes (s : State) (f : Fld) (v : Nat) : (s.wr f v).episodes = s.episodes := rfl
@[simp] theorem State.wr_hsBuf (s : State) (f : Fld) (v : Nat) : (s.wr f v).hsBuf = s.hsBuf := rfl
@[simp] theorem State.wr_hsCount (s : State) (f : Fld) (v : Nat) : (s.wr f v).hsCount = s.hsCount := rfl
@[simp] theorem State.wr_hostPcs (s : State) (f : Fld) (v : Nat) : (s.wr f v).hostPcs = s.hostPcs := rfl
@[simp] theorem State.wr_injects (s : State) (f : Fld) (v : Nat) : (s.wr f v).injects = s.injects := rfl
@[simp] theorem State.wr_budgetShed (s : State) (f : Fld) (v : Nat) : (s.wr f v).budgetShed = s.budgetShed := rfl
@[simp] theorem State.wr_throttleShed (s : State) (f : Fld) (v : Nat) : (s.wr f v).throttleShed = s.throttleShed := rfl
@[simp] theorem State.wr_ticks (s : State) (f : Fld) (v : Nat) : (s.wr f v).ticks = s.ticks := rfl
@[simp] theorem State.wr_chipTo (s : State) (f : Fld) (v : Nat) : (s.wr f v).chipTo = s.chipTo := rfl
@[simp] theorem State.wr_setAge (s : State) (f : Fld) (v : Nat) : (s.wr f v).setAge = s.setAge := rfl
@[simp] theorem State.wr_mirror (s : State) (f : Fld) (v : Nat) : (s.wr f v).mirror = s.mirror := rfl
@[simp] theorem State.wr_madcAcc (s : State) (f : Fld) (v : Nat) : (s.wr f v).madcAcc = s.madcAcc := rfl
@[simp] theorem State.wr_seqLen (s : State) (f : Fld) (v : Nat) : (s.wr f v).seqLen = s.seqLen := rfl
@[simp] theorem State.wr_seqPending (s : State) (f : Fld) (v : Nat) : (s.wr f v).seqPending = s.seqPending := rfl
@[simp] theorem State.wr_hewers (s : State) (f : Fld) (v : Nat) : (s.wr f v).hewers = s.hewers := rfl
@[simp] theorem State.wr_actor (s : State) (f : Fld) (v : Nat) : (s.wr f v).actor = s.actor := rfl
@[simp] theorem State.wr_booting (s : State) (f : Fld) (v : Nat) : (s.wr f v).booting = s.booting := rfl
@[simp] theorem State.wr_checked (s : State) (f : Fld) (v : Nat) : (s.wr f v).checked = s.checked := rfl
@[simp] theorem State.wr_bootTries (s : State) (f : Fld) (v : Nat) : (s.wr f v).bootTries = s.bootTries := rfl
@[simp] theorem State.wr_ddrLayout (s : State) (f : Fld) (v : Nat) : (s.wr f v).ddrLayout = s.ddrLayout := rfl
@[simp] theorem State.wr_d2d (s : State) (f : Fld) (v : Nat) : (s.wr f v).d2d = s.d2d := rfl
@[simp] theorem State.wr_ddrTrain (s : State) (f : Fld) (v : Nat) : (s.wr f v).ddrTrain = s.ddrTrain := rfl
@[simp] theorem State.wr_keptCrc (s : State) (f : Fld) (v : Nat) : (s.wr f v).keptCrc = s.keptCrc := rfl
@[simp] theorem State.wr_cpTry (s : State) (f : Fld) (v : Nat) : (s.wr f v).cpTry = s.cpTry := rfl
@[simp] theorem State.wr_ptp (s : State) (f : Fld) (v : Nat) : (s.wr f v).ptp = s.ptp := rfl
@[simp] theorem State.wr_ddrEpoch (s : State) (f : Fld) (v : Nat) : (s.wr f v).ddrEpoch = s.ddrEpoch := rfl
@[simp] theorem State.wr_txds (s : State) (f : Fld) (v : Nat) : (s.wr f v).txds = s.txds := rfl
@[simp] theorem State.wr_pats (s : State) (f : Fld) (v : Nat) : (s.wr f v).pats = s.pats := rfl
@[simp] theorem State.wr_gens (s : State) (f : Fld) (v : Nat) : (s.wr f v).gens = s.gens := rfl
@[simp] theorem State.wr_ports (s : State) (f : Fld) (v : Nat) : (s.wr f v).ports = s.ports := rfl
@[simp] theorem State.wr_hostTx (s : State) (f : Fld) (v : Nat) : (s.wr f v).hostTx = s.hostTx := rfl
@[simp] theorem State.wr_hostTaps (s : State) (f : Fld) (v : Nat) : (s.wr f v).hostTaps = s.hostTaps := rfl

/-! ## incSat -/

@[simp] theorem State.incSat_pending (s : State) (f : Fld) : (s.incSat f).pending = s.pending := rfl
@[simp] theorem State.incSat_ctrs (s : State) (f : Fld) : (s.incSat f).ctrs = s.ctrs := rfl
@[simp] theorem State.incSat_shadows (s : State) (f : Fld) : (s.incSat f).shadows = s.shadows := rfl
@[simp] theorem State.incSat_snapGens (s : State) (f : Fld) : (s.incSat f).snapGens = s.snapGens := rfl
@[simp] theorem State.incSat_bytes (s : State) (f : Fld) : (s.incSat f).bytes = s.bytes := rfl
@[simp] theorem State.incSat_tags (s : State) (f : Fld) : (s.incSat f).tags = s.tags := rfl
@[simp] theorem State.incSat_flash (s : State) (f : Fld) : (s.incSat f).flash = s.flash := rfl
@[simp] theorem State.incSat_time (s : State) (f : Fld) : (s.incSat f).time = s.time := rfl
@[simp] theorem State.incSat_mono (s : State) (f : Fld) : (s.incSat f).mono = s.mono := rfl
@[simp] theorem State.incSat_freeCtr (s : State) (f : Fld) : (s.incSat f).freeCtr = s.freeCtr := rfl
@[simp] theorem State.incSat_powered (s : State) (f : Fld) : (s.incSat f).powered = s.powered := rfl
@[simp] theorem State.incSat_canary (s : State) (f : Fld) : (s.incSat f).canary = s.canary := rfl
@[simp] theorem State.incSat_started (s : State) (f : Fld) : (s.incSat f).started = s.started := rfl
@[simp] theorem State.incSat_sessions (s : State) (f : Fld) : (s.incSat f).sessions = s.sessions := rfl
@[simp] theorem State.incSat_sessionCount (s : State) (f : Fld) : (s.incSat f).sessionCount = s.sessionCount := rfl
@[simp] theorem State.incSat_ops (s : State) (f : Fld) : (s.incSat f).ops = s.ops := rfl
@[simp] theorem State.incSat_handleCount (s : State) (f : Fld) : (s.incSat f).handleCount = s.handleCount := rfl
@[simp] theorem State.incSat_tx (s : State) (f : Fld) : (s.incSat f).tx = s.tx := rfl
@[simp] theorem State.incSat_accLog (s : State) (f : Fld) : (s.incSat f).accLog = s.accLog := rfl
@[simp] theorem State.incSat_busStatus (s : State) (f : Fld) : (s.incSat f).busStatus = s.busStatus := rfl
@[simp] theorem State.incSat_gap (s : State) (f : Fld) : (s.incSat f).gap = s.gap := rfl
@[simp] theorem State.incSat_frozenLost (s : State) (f : Fld) : (s.incSat f).frozenLost = s.frozenLost := rfl
@[simp] theorem State.incSat_archNext (s : State) (f : Fld) : (s.incSat f).archNext = s.archNext := rfl
@[simp] theorem State.incSat_archive (s : State) (f : Fld) : (s.incSat f).archive = s.archive := rfl
@[simp] theorem State.incSat_regions (s : State) (f : Fld) : (s.incSat f).regions = s.regions := rfl
@[simp] theorem State.incSat_rowSeals (s : State) (f : Fld) : (s.incSat f).rowSeals = s.rowSeals := rfl
@[simp] theorem State.incSat_scrubAt (s : State) (f : Fld) : (s.incSat f).scrubAt = s.scrubAt := rfl
@[simp] theorem State.incSat_ddrScrub (s : State) (f : Fld) : (s.incSat f).ddrScrub = s.ddrScrub := rfl
@[simp] theorem State.incSat_wasUe (s : State) (f : Fld) : (s.incSat f).wasUe = s.wasUe := rfl
@[simp] theorem State.incSat_rxds (s : State) (f : Fld) : (s.incSat f).rxds = s.rxds := rfl
@[simp] theorem State.incSat_planCopyOk (s : State) (f : Fld) : (s.incSat f).planCopyOk = s.planCopyOk := rfl
@[simp] theorem State.incSat_lanes (s : State) (f : Fld) : (s.incSat f).lanes = s.lanes := rfl
@[simp] theorem State.incSat_calQ (s : State) (f : Fld) : (s.incSat f).calQ = s.calQ := rfl
@[simp] theorem State.incSat_assayQ (s : State) (f : Fld) : (s.incSat f).assayQ = s.assayQ := rfl
@[simp] theorem State.incSat_defer (s : State) (f : Fld) : (s.incSat f).defer = s.defer := rfl
@[simp] theorem State.incSat_plan (s : State) (f : Fld) : (s.incSat f).plan = s.plan := rfl
@[simp] theorem State.incSat_seams (s : State) (f : Fld) : (s.incSat f).seams = s.seams := rfl
@[simp] theorem State.incSat_faces (s : State) (f : Fld) : (s.incSat f).faces = s.faces := rfl
@[simp] theorem State.incSat_caps (s : State) (f : Fld) : (s.incSat f).caps = s.caps := rfl
@[simp] theorem State.incSat_archEntries (s : State) (f : Fld) : (s.incSat f).archEntries = s.archEntries := rfl
@[simp] theorem State.incSat_archId (s : State) (f : Fld) : (s.incSat f).archId = s.archId := rfl
@[simp] theorem State.incSat_archMib (s : State) (f : Fld) : (s.incSat f).archMib = s.archMib := rfl
@[simp] theorem State.incSat_streams (s : State) (f : Fld) : (s.incSat f).streams = s.streams := rfl
@[simp] theorem State.incSat_streamCount (s : State) (f : Fld) : (s.incSat f).streamCount = s.streamCount := rfl
@[simp] theorem State.incSat_claim (s : State) (f : Fld) : (s.incSat f).claim = s.claim := rfl
@[simp] theorem State.incSat_rails (s : State) (f : Fld) : (s.incSat f).rails = s.rails := rfl
@[simp] theorem State.incSat_refALost (s : State) (f : Fld) : (s.incSat f).refALost = s.refALost := rfl
@[simp] theorem State.incSat_refBLost (s : State) (f : Fld) : (s.incSat f).refBLost = s.refBLost := rfl
@[simp] theorem State.incSat_shapes (s : State) (f : Fld) : (s.incSat f).shapes = s.shapes := rfl
@[simp] theorem State.incSat_otp (s : State) (f : Fld) : (s.incSat f).otp = s.otp := rfl
@[simp] theorem State.incSat_burnQ (s : State) (f : Fld) : (s.incSat f).burnQ = s.burnQ := rfl
@[simp] theorem State.incSat_volatileSeals (s : State) (f : Fld) : (s.incSat f).volatileSeals = s.volatileSeals := rfl
@[simp] theorem State.incSat_episodes (s : State) (f : Fld) : (s.incSat f).episodes = s.episodes := rfl
@[simp] theorem State.incSat_hsBuf (s : State) (f : Fld) : (s.incSat f).hsBuf = s.hsBuf := rfl
@[simp] theorem State.incSat_hsCount (s : State) (f : Fld) : (s.incSat f).hsCount = s.hsCount := rfl
@[simp] theorem State.incSat_hostPcs (s : State) (f : Fld) : (s.incSat f).hostPcs = s.hostPcs := rfl
@[simp] theorem State.incSat_injects (s : State) (f : Fld) : (s.incSat f).injects = s.injects := rfl
@[simp] theorem State.incSat_budgetShed (s : State) (f : Fld) : (s.incSat f).budgetShed = s.budgetShed := rfl
@[simp] theorem State.incSat_throttleShed (s : State) (f : Fld) : (s.incSat f).throttleShed = s.throttleShed := rfl
@[simp] theorem State.incSat_ticks (s : State) (f : Fld) : (s.incSat f).ticks = s.ticks := rfl
@[simp] theorem State.incSat_chipTo (s : State) (f : Fld) : (s.incSat f).chipTo = s.chipTo := rfl
@[simp] theorem State.incSat_setAge (s : State) (f : Fld) : (s.incSat f).setAge = s.setAge := rfl
@[simp] theorem State.incSat_mirror (s : State) (f : Fld) : (s.incSat f).mirror = s.mirror := rfl
@[simp] theorem State.incSat_madcAcc (s : State) (f : Fld) : (s.incSat f).madcAcc = s.madcAcc := rfl
@[simp] theorem State.incSat_seqLen (s : State) (f : Fld) : (s.incSat f).seqLen = s.seqLen := rfl
@[simp] theorem State.incSat_seqPending (s : State) (f : Fld) : (s.incSat f).seqPending = s.seqPending := rfl
@[simp] theorem State.incSat_hewers (s : State) (f : Fld) : (s.incSat f).hewers = s.hewers := rfl
@[simp] theorem State.incSat_actor (s : State) (f : Fld) : (s.incSat f).actor = s.actor := rfl
@[simp] theorem State.incSat_booting (s : State) (f : Fld) : (s.incSat f).booting = s.booting := rfl
@[simp] theorem State.incSat_checked (s : State) (f : Fld) : (s.incSat f).checked = s.checked := rfl
@[simp] theorem State.incSat_bootTries (s : State) (f : Fld) : (s.incSat f).bootTries = s.bootTries := rfl
@[simp] theorem State.incSat_ddrLayout (s : State) (f : Fld) : (s.incSat f).ddrLayout = s.ddrLayout := rfl
@[simp] theorem State.incSat_d2d (s : State) (f : Fld) : (s.incSat f).d2d = s.d2d := rfl
@[simp] theorem State.incSat_ddrTrain (s : State) (f : Fld) : (s.incSat f).ddrTrain = s.ddrTrain := rfl
@[simp] theorem State.incSat_keptCrc (s : State) (f : Fld) : (s.incSat f).keptCrc = s.keptCrc := rfl
@[simp] theorem State.incSat_cpTry (s : State) (f : Fld) : (s.incSat f).cpTry = s.cpTry := rfl
@[simp] theorem State.incSat_ptp (s : State) (f : Fld) : (s.incSat f).ptp = s.ptp := rfl
@[simp] theorem State.incSat_ddrEpoch (s : State) (f : Fld) : (s.incSat f).ddrEpoch = s.ddrEpoch := rfl
@[simp] theorem State.incSat_txds (s : State) (f : Fld) : (s.incSat f).txds = s.txds := rfl
@[simp] theorem State.incSat_pats (s : State) (f : Fld) : (s.incSat f).pats = s.pats := rfl
@[simp] theorem State.incSat_gens (s : State) (f : Fld) : (s.incSat f).gens = s.gens := rfl
@[simp] theorem State.incSat_ports (s : State) (f : Fld) : (s.incSat f).ports = s.ports := rfl
@[simp] theorem State.incSat_hostTx (s : State) (f : Fld) : (s.incSat f).hostTx = s.hostTx := rfl
@[simp] theorem State.incSat_hostTaps (s : State) (f : Fld) : (s.incSat f).hostTaps = s.hostTaps := rfl

/-! ## incMod -/

@[simp] theorem State.incMod_pending (s : State) (f : Fld) : (s.incMod f).pending = s.pending := rfl
@[simp] theorem State.incMod_ctrs (s : State) (f : Fld) : (s.incMod f).ctrs = s.ctrs := rfl
@[simp] theorem State.incMod_shadows (s : State) (f : Fld) : (s.incMod f).shadows = s.shadows := rfl
@[simp] theorem State.incMod_snapGens (s : State) (f : Fld) : (s.incMod f).snapGens = s.snapGens := rfl
@[simp] theorem State.incMod_bytes (s : State) (f : Fld) : (s.incMod f).bytes = s.bytes := rfl
@[simp] theorem State.incMod_tags (s : State) (f : Fld) : (s.incMod f).tags = s.tags := rfl
@[simp] theorem State.incMod_flash (s : State) (f : Fld) : (s.incMod f).flash = s.flash := rfl
@[simp] theorem State.incMod_time (s : State) (f : Fld) : (s.incMod f).time = s.time := rfl
@[simp] theorem State.incMod_mono (s : State) (f : Fld) : (s.incMod f).mono = s.mono := rfl
@[simp] theorem State.incMod_freeCtr (s : State) (f : Fld) : (s.incMod f).freeCtr = s.freeCtr := rfl
@[simp] theorem State.incMod_powered (s : State) (f : Fld) : (s.incMod f).powered = s.powered := rfl
@[simp] theorem State.incMod_canary (s : State) (f : Fld) : (s.incMod f).canary = s.canary := rfl
@[simp] theorem State.incMod_started (s : State) (f : Fld) : (s.incMod f).started = s.started := rfl
@[simp] theorem State.incMod_sessions (s : State) (f : Fld) : (s.incMod f).sessions = s.sessions := rfl
@[simp] theorem State.incMod_sessionCount (s : State) (f : Fld) : (s.incMod f).sessionCount = s.sessionCount := rfl
@[simp] theorem State.incMod_ops (s : State) (f : Fld) : (s.incMod f).ops = s.ops := rfl
@[simp] theorem State.incMod_handleCount (s : State) (f : Fld) : (s.incMod f).handleCount = s.handleCount := rfl
@[simp] theorem State.incMod_tx (s : State) (f : Fld) : (s.incMod f).tx = s.tx := rfl
@[simp] theorem State.incMod_accLog (s : State) (f : Fld) : (s.incMod f).accLog = s.accLog := rfl
@[simp] theorem State.incMod_busStatus (s : State) (f : Fld) : (s.incMod f).busStatus = s.busStatus := rfl
@[simp] theorem State.incMod_gap (s : State) (f : Fld) : (s.incMod f).gap = s.gap := rfl
@[simp] theorem State.incMod_frozenLost (s : State) (f : Fld) : (s.incMod f).frozenLost = s.frozenLost := rfl
@[simp] theorem State.incMod_archNext (s : State) (f : Fld) : (s.incMod f).archNext = s.archNext := rfl
@[simp] theorem State.incMod_archive (s : State) (f : Fld) : (s.incMod f).archive = s.archive := rfl
@[simp] theorem State.incMod_regions (s : State) (f : Fld) : (s.incMod f).regions = s.regions := rfl
@[simp] theorem State.incMod_rowSeals (s : State) (f : Fld) : (s.incMod f).rowSeals = s.rowSeals := rfl
@[simp] theorem State.incMod_scrubAt (s : State) (f : Fld) : (s.incMod f).scrubAt = s.scrubAt := rfl
@[simp] theorem State.incMod_ddrScrub (s : State) (f : Fld) : (s.incMod f).ddrScrub = s.ddrScrub := rfl
@[simp] theorem State.incMod_wasUe (s : State) (f : Fld) : (s.incMod f).wasUe = s.wasUe := rfl
@[simp] theorem State.incMod_rxds (s : State) (f : Fld) : (s.incMod f).rxds = s.rxds := rfl
@[simp] theorem State.incMod_planCopyOk (s : State) (f : Fld) : (s.incMod f).planCopyOk = s.planCopyOk := rfl
@[simp] theorem State.incMod_lanes (s : State) (f : Fld) : (s.incMod f).lanes = s.lanes := rfl
@[simp] theorem State.incMod_calQ (s : State) (f : Fld) : (s.incMod f).calQ = s.calQ := rfl
@[simp] theorem State.incMod_assayQ (s : State) (f : Fld) : (s.incMod f).assayQ = s.assayQ := rfl
@[simp] theorem State.incMod_defer (s : State) (f : Fld) : (s.incMod f).defer = s.defer := rfl
@[simp] theorem State.incMod_plan (s : State) (f : Fld) : (s.incMod f).plan = s.plan := rfl
@[simp] theorem State.incMod_seams (s : State) (f : Fld) : (s.incMod f).seams = s.seams := rfl
@[simp] theorem State.incMod_faces (s : State) (f : Fld) : (s.incMod f).faces = s.faces := rfl
@[simp] theorem State.incMod_caps (s : State) (f : Fld) : (s.incMod f).caps = s.caps := rfl
@[simp] theorem State.incMod_archEntries (s : State) (f : Fld) : (s.incMod f).archEntries = s.archEntries := rfl
@[simp] theorem State.incMod_archId (s : State) (f : Fld) : (s.incMod f).archId = s.archId := rfl
@[simp] theorem State.incMod_archMib (s : State) (f : Fld) : (s.incMod f).archMib = s.archMib := rfl
@[simp] theorem State.incMod_streams (s : State) (f : Fld) : (s.incMod f).streams = s.streams := rfl
@[simp] theorem State.incMod_streamCount (s : State) (f : Fld) : (s.incMod f).streamCount = s.streamCount := rfl
@[simp] theorem State.incMod_claim (s : State) (f : Fld) : (s.incMod f).claim = s.claim := rfl
@[simp] theorem State.incMod_rails (s : State) (f : Fld) : (s.incMod f).rails = s.rails := rfl
@[simp] theorem State.incMod_refALost (s : State) (f : Fld) : (s.incMod f).refALost = s.refALost := rfl
@[simp] theorem State.incMod_refBLost (s : State) (f : Fld) : (s.incMod f).refBLost = s.refBLost := rfl
@[simp] theorem State.incMod_shapes (s : State) (f : Fld) : (s.incMod f).shapes = s.shapes := rfl
@[simp] theorem State.incMod_otp (s : State) (f : Fld) : (s.incMod f).otp = s.otp := rfl
@[simp] theorem State.incMod_burnQ (s : State) (f : Fld) : (s.incMod f).burnQ = s.burnQ := rfl
@[simp] theorem State.incMod_volatileSeals (s : State) (f : Fld) : (s.incMod f).volatileSeals = s.volatileSeals := rfl
@[simp] theorem State.incMod_episodes (s : State) (f : Fld) : (s.incMod f).episodes = s.episodes := rfl
@[simp] theorem State.incMod_hsBuf (s : State) (f : Fld) : (s.incMod f).hsBuf = s.hsBuf := rfl
@[simp] theorem State.incMod_hsCount (s : State) (f : Fld) : (s.incMod f).hsCount = s.hsCount := rfl
@[simp] theorem State.incMod_hostPcs (s : State) (f : Fld) : (s.incMod f).hostPcs = s.hostPcs := rfl
@[simp] theorem State.incMod_injects (s : State) (f : Fld) : (s.incMod f).injects = s.injects := rfl
@[simp] theorem State.incMod_budgetShed (s : State) (f : Fld) : (s.incMod f).budgetShed = s.budgetShed := rfl
@[simp] theorem State.incMod_throttleShed (s : State) (f : Fld) : (s.incMod f).throttleShed = s.throttleShed := rfl
@[simp] theorem State.incMod_ticks (s : State) (f : Fld) : (s.incMod f).ticks = s.ticks := rfl
@[simp] theorem State.incMod_chipTo (s : State) (f : Fld) : (s.incMod f).chipTo = s.chipTo := rfl
@[simp] theorem State.incMod_setAge (s : State) (f : Fld) : (s.incMod f).setAge = s.setAge := rfl
@[simp] theorem State.incMod_mirror (s : State) (f : Fld) : (s.incMod f).mirror = s.mirror := rfl
@[simp] theorem State.incMod_madcAcc (s : State) (f : Fld) : (s.incMod f).madcAcc = s.madcAcc := rfl
@[simp] theorem State.incMod_seqLen (s : State) (f : Fld) : (s.incMod f).seqLen = s.seqLen := rfl
@[simp] theorem State.incMod_seqPending (s : State) (f : Fld) : (s.incMod f).seqPending = s.seqPending := rfl
@[simp] theorem State.incMod_hewers (s : State) (f : Fld) : (s.incMod f).hewers = s.hewers := rfl
@[simp] theorem State.incMod_actor (s : State) (f : Fld) : (s.incMod f).actor = s.actor := rfl
@[simp] theorem State.incMod_booting (s : State) (f : Fld) : (s.incMod f).booting = s.booting := rfl
@[simp] theorem State.incMod_checked (s : State) (f : Fld) : (s.incMod f).checked = s.checked := rfl
@[simp] theorem State.incMod_bootTries (s : State) (f : Fld) : (s.incMod f).bootTries = s.bootTries := rfl
@[simp] theorem State.incMod_ddrLayout (s : State) (f : Fld) : (s.incMod f).ddrLayout = s.ddrLayout := rfl
@[simp] theorem State.incMod_d2d (s : State) (f : Fld) : (s.incMod f).d2d = s.d2d := rfl
@[simp] theorem State.incMod_ddrTrain (s : State) (f : Fld) : (s.incMod f).ddrTrain = s.ddrTrain := rfl
@[simp] theorem State.incMod_keptCrc (s : State) (f : Fld) : (s.incMod f).keptCrc = s.keptCrc := rfl
@[simp] theorem State.incMod_cpTry (s : State) (f : Fld) : (s.incMod f).cpTry = s.cpTry := rfl
@[simp] theorem State.incMod_ptp (s : State) (f : Fld) : (s.incMod f).ptp = s.ptp := rfl
@[simp] theorem State.incMod_ddrEpoch (s : State) (f : Fld) : (s.incMod f).ddrEpoch = s.ddrEpoch := rfl
@[simp] theorem State.incMod_txds (s : State) (f : Fld) : (s.incMod f).txds = s.txds := rfl
@[simp] theorem State.incMod_pats (s : State) (f : Fld) : (s.incMod f).pats = s.pats := rfl
@[simp] theorem State.incMod_gens (s : State) (f : Fld) : (s.incMod f).gens = s.gens := rfl
@[simp] theorem State.incMod_ports (s : State) (f : Fld) : (s.incMod f).ports = s.ports := rfl
@[simp] theorem State.incMod_hostTx (s : State) (f : Fld) : (s.incMod f).hostTx = s.hostTx := rfl
@[simp] theorem State.incMod_hostTaps (s : State) (f : Fld) : (s.incMod f).hostTaps = s.hostTaps := rfl

/-! ## setCtr -/

@[simp] theorem State.setCtr_pending (s : State) (a v : Nat) : (s.setCtr a v).pending = s.pending := rfl
@[simp] theorem State.setCtr_regs (s : State) (a v : Nat) : (s.setCtr a v).regs = s.regs := rfl
@[simp] theorem State.setCtr_shadows (s : State) (a v : Nat) : (s.setCtr a v).shadows = s.shadows := rfl
@[simp] theorem State.setCtr_snapGens (s : State) (a v : Nat) : (s.setCtr a v).snapGens = s.snapGens := rfl
@[simp] theorem State.setCtr_bytes (s : State) (a v : Nat) : (s.setCtr a v).bytes = s.bytes := rfl
@[simp] theorem State.setCtr_tags (s : State) (a v : Nat) : (s.setCtr a v).tags = s.tags := rfl
@[simp] theorem State.setCtr_flash (s : State) (a v : Nat) : (s.setCtr a v).flash = s.flash := rfl
@[simp] theorem State.setCtr_time (s : State) (a v : Nat) : (s.setCtr a v).time = s.time := rfl
@[simp] theorem State.setCtr_mono (s : State) (a v : Nat) : (s.setCtr a v).mono = s.mono := rfl
@[simp] theorem State.setCtr_freeCtr (s : State) (a v : Nat) : (s.setCtr a v).freeCtr = s.freeCtr := rfl
@[simp] theorem State.setCtr_powered (s : State) (a v : Nat) : (s.setCtr a v).powered = s.powered := rfl
@[simp] theorem State.setCtr_canary (s : State) (a v : Nat) : (s.setCtr a v).canary = s.canary := rfl
@[simp] theorem State.setCtr_started (s : State) (a v : Nat) : (s.setCtr a v).started = s.started := rfl
@[simp] theorem State.setCtr_sessions (s : State) (a v : Nat) : (s.setCtr a v).sessions = s.sessions := rfl
@[simp] theorem State.setCtr_sessionCount (s : State) (a v : Nat) : (s.setCtr a v).sessionCount = s.sessionCount := rfl
@[simp] theorem State.setCtr_ops (s : State) (a v : Nat) : (s.setCtr a v).ops = s.ops := rfl
@[simp] theorem State.setCtr_handleCount (s : State) (a v : Nat) : (s.setCtr a v).handleCount = s.handleCount := rfl
@[simp] theorem State.setCtr_tx (s : State) (a v : Nat) : (s.setCtr a v).tx = s.tx := rfl
@[simp] theorem State.setCtr_accLog (s : State) (a v : Nat) : (s.setCtr a v).accLog = s.accLog := rfl
@[simp] theorem State.setCtr_busStatus (s : State) (a v : Nat) : (s.setCtr a v).busStatus = s.busStatus := rfl
@[simp] theorem State.setCtr_gap (s : State) (a v : Nat) : (s.setCtr a v).gap = s.gap := rfl
@[simp] theorem State.setCtr_frozenLost (s : State) (a v : Nat) : (s.setCtr a v).frozenLost = s.frozenLost := rfl
@[simp] theorem State.setCtr_archNext (s : State) (a v : Nat) : (s.setCtr a v).archNext = s.archNext := rfl
@[simp] theorem State.setCtr_archive (s : State) (a v : Nat) : (s.setCtr a v).archive = s.archive := rfl
@[simp] theorem State.setCtr_regions (s : State) (a v : Nat) : (s.setCtr a v).regions = s.regions := rfl
@[simp] theorem State.setCtr_rowSeals (s : State) (a v : Nat) : (s.setCtr a v).rowSeals = s.rowSeals := rfl
@[simp] theorem State.setCtr_scrubAt (s : State) (a v : Nat) : (s.setCtr a v).scrubAt = s.scrubAt := rfl
@[simp] theorem State.setCtr_ddrScrub (s : State) (a v : Nat) : (s.setCtr a v).ddrScrub = s.ddrScrub := rfl
@[simp] theorem State.setCtr_wasUe (s : State) (a v : Nat) : (s.setCtr a v).wasUe = s.wasUe := rfl
@[simp] theorem State.setCtr_rxds (s : State) (a v : Nat) : (s.setCtr a v).rxds = s.rxds := rfl
@[simp] theorem State.setCtr_planCopyOk (s : State) (a v : Nat) : (s.setCtr a v).planCopyOk = s.planCopyOk := rfl
@[simp] theorem State.setCtr_lanes (s : State) (a v : Nat) : (s.setCtr a v).lanes = s.lanes := rfl
@[simp] theorem State.setCtr_calQ (s : State) (a v : Nat) : (s.setCtr a v).calQ = s.calQ := rfl
@[simp] theorem State.setCtr_assayQ (s : State) (a v : Nat) : (s.setCtr a v).assayQ = s.assayQ := rfl
@[simp] theorem State.setCtr_defer (s : State) (a v : Nat) : (s.setCtr a v).defer = s.defer := rfl
@[simp] theorem State.setCtr_plan (s : State) (a v : Nat) : (s.setCtr a v).plan = s.plan := rfl
@[simp] theorem State.setCtr_seams (s : State) (a v : Nat) : (s.setCtr a v).seams = s.seams := rfl
@[simp] theorem State.setCtr_faces (s : State) (a v : Nat) : (s.setCtr a v).faces = s.faces := rfl
@[simp] theorem State.setCtr_caps (s : State) (a v : Nat) : (s.setCtr a v).caps = s.caps := rfl
@[simp] theorem State.setCtr_archEntries (s : State) (a v : Nat) : (s.setCtr a v).archEntries = s.archEntries := rfl
@[simp] theorem State.setCtr_archId (s : State) (a v : Nat) : (s.setCtr a v).archId = s.archId := rfl
@[simp] theorem State.setCtr_archMib (s : State) (a v : Nat) : (s.setCtr a v).archMib = s.archMib := rfl
@[simp] theorem State.setCtr_streams (s : State) (a v : Nat) : (s.setCtr a v).streams = s.streams := rfl
@[simp] theorem State.setCtr_streamCount (s : State) (a v : Nat) : (s.setCtr a v).streamCount = s.streamCount := rfl
@[simp] theorem State.setCtr_claim (s : State) (a v : Nat) : (s.setCtr a v).claim = s.claim := rfl
@[simp] theorem State.setCtr_rails (s : State) (a v : Nat) : (s.setCtr a v).rails = s.rails := rfl
@[simp] theorem State.setCtr_refALost (s : State) (a v : Nat) : (s.setCtr a v).refALost = s.refALost := rfl
@[simp] theorem State.setCtr_refBLost (s : State) (a v : Nat) : (s.setCtr a v).refBLost = s.refBLost := rfl
@[simp] theorem State.setCtr_shapes (s : State) (a v : Nat) : (s.setCtr a v).shapes = s.shapes := rfl
@[simp] theorem State.setCtr_otp (s : State) (a v : Nat) : (s.setCtr a v).otp = s.otp := rfl
@[simp] theorem State.setCtr_burnQ (s : State) (a v : Nat) : (s.setCtr a v).burnQ = s.burnQ := rfl
@[simp] theorem State.setCtr_volatileSeals (s : State) (a v : Nat) : (s.setCtr a v).volatileSeals = s.volatileSeals := rfl
@[simp] theorem State.setCtr_episodes (s : State) (a v : Nat) : (s.setCtr a v).episodes = s.episodes := rfl
@[simp] theorem State.setCtr_hsBuf (s : State) (a v : Nat) : (s.setCtr a v).hsBuf = s.hsBuf := rfl
@[simp] theorem State.setCtr_hsCount (s : State) (a v : Nat) : (s.setCtr a v).hsCount = s.hsCount := rfl
@[simp] theorem State.setCtr_hostPcs (s : State) (a v : Nat) : (s.setCtr a v).hostPcs = s.hostPcs := rfl
@[simp] theorem State.setCtr_injects (s : State) (a v : Nat) : (s.setCtr a v).injects = s.injects := rfl
@[simp] theorem State.setCtr_budgetShed (s : State) (a v : Nat) : (s.setCtr a v).budgetShed = s.budgetShed := rfl
@[simp] theorem State.setCtr_throttleShed (s : State) (a v : Nat) : (s.setCtr a v).throttleShed = s.throttleShed := rfl
@[simp] theorem State.setCtr_ticks (s : State) (a v : Nat) : (s.setCtr a v).ticks = s.ticks := rfl
@[simp] theorem State.setCtr_chipTo (s : State) (a v : Nat) : (s.setCtr a v).chipTo = s.chipTo := rfl
@[simp] theorem State.setCtr_setAge (s : State) (a v : Nat) : (s.setCtr a v).setAge = s.setAge := rfl
@[simp] theorem State.setCtr_mirror (s : State) (a v : Nat) : (s.setCtr a v).mirror = s.mirror := rfl
@[simp] theorem State.setCtr_madcAcc (s : State) (a v : Nat) : (s.setCtr a v).madcAcc = s.madcAcc := rfl
@[simp] theorem State.setCtr_seqLen (s : State) (a v : Nat) : (s.setCtr a v).seqLen = s.seqLen := rfl
@[simp] theorem State.setCtr_seqPending (s : State) (a v : Nat) : (s.setCtr a v).seqPending = s.seqPending := rfl
@[simp] theorem State.setCtr_hewers (s : State) (a v : Nat) : (s.setCtr a v).hewers = s.hewers := rfl
@[simp] theorem State.setCtr_actor (s : State) (a v : Nat) : (s.setCtr a v).actor = s.actor := rfl
@[simp] theorem State.setCtr_booting (s : State) (a v : Nat) : (s.setCtr a v).booting = s.booting := rfl
@[simp] theorem State.setCtr_checked (s : State) (a v : Nat) : (s.setCtr a v).checked = s.checked := rfl
@[simp] theorem State.setCtr_bootTries (s : State) (a v : Nat) : (s.setCtr a v).bootTries = s.bootTries := rfl
@[simp] theorem State.setCtr_ddrLayout (s : State) (a v : Nat) : (s.setCtr a v).ddrLayout = s.ddrLayout := rfl
@[simp] theorem State.setCtr_d2d (s : State) (a v : Nat) : (s.setCtr a v).d2d = s.d2d := rfl
@[simp] theorem State.setCtr_ddrTrain (s : State) (a v : Nat) : (s.setCtr a v).ddrTrain = s.ddrTrain := rfl
@[simp] theorem State.setCtr_keptCrc (s : State) (a v : Nat) : (s.setCtr a v).keptCrc = s.keptCrc := rfl
@[simp] theorem State.setCtr_cpTry (s : State) (a v : Nat) : (s.setCtr a v).cpTry = s.cpTry := rfl
@[simp] theorem State.setCtr_ptp (s : State) (a v : Nat) : (s.setCtr a v).ptp = s.ptp := rfl
@[simp] theorem State.setCtr_ddrEpoch (s : State) (a v : Nat) : (s.setCtr a v).ddrEpoch = s.ddrEpoch := rfl
@[simp] theorem State.setCtr_txds (s : State) (a v : Nat) : (s.setCtr a v).txds = s.txds := rfl
@[simp] theorem State.setCtr_pats (s : State) (a v : Nat) : (s.setCtr a v).pats = s.pats := rfl
@[simp] theorem State.setCtr_gens (s : State) (a v : Nat) : (s.setCtr a v).gens = s.gens := rfl
@[simp] theorem State.setCtr_ports (s : State) (a v : Nat) : (s.setCtr a v).ports = s.ports := rfl
@[simp] theorem State.setCtr_hostTx (s : State) (a v : Nat) : (s.setCtr a v).hostTx = s.hostTx := rfl
@[simp] theorem State.setCtr_hostTaps (s : State) (a v : Nat) : (s.setCtr a v).hostTaps = s.hostTaps := rfl

/-! ## addCtr -/

@[simp] theorem State.addCtr_pending (s : State) (a n : Nat) : (s.addCtr a n).pending = s.pending := rfl
@[simp] theorem State.addCtr_regs (s : State) (a n : Nat) : (s.addCtr a n).regs = s.regs := rfl
@[simp] theorem State.addCtr_shadows (s : State) (a n : Nat) : (s.addCtr a n).shadows = s.shadows := rfl
@[simp] theorem State.addCtr_snapGens (s : State) (a n : Nat) : (s.addCtr a n).snapGens = s.snapGens := rfl
@[simp] theorem State.addCtr_bytes (s : State) (a n : Nat) : (s.addCtr a n).bytes = s.bytes := rfl
@[simp] theorem State.addCtr_tags (s : State) (a n : Nat) : (s.addCtr a n).tags = s.tags := rfl
@[simp] theorem State.addCtr_flash (s : State) (a n : Nat) : (s.addCtr a n).flash = s.flash := rfl
@[simp] theorem State.addCtr_time (s : State) (a n : Nat) : (s.addCtr a n).time = s.time := rfl
@[simp] theorem State.addCtr_mono (s : State) (a n : Nat) : (s.addCtr a n).mono = s.mono := rfl
@[simp] theorem State.addCtr_freeCtr (s : State) (a n : Nat) : (s.addCtr a n).freeCtr = s.freeCtr := rfl
@[simp] theorem State.addCtr_powered (s : State) (a n : Nat) : (s.addCtr a n).powered = s.powered := rfl
@[simp] theorem State.addCtr_canary (s : State) (a n : Nat) : (s.addCtr a n).canary = s.canary := rfl
@[simp] theorem State.addCtr_started (s : State) (a n : Nat) : (s.addCtr a n).started = s.started := rfl
@[simp] theorem State.addCtr_sessions (s : State) (a n : Nat) : (s.addCtr a n).sessions = s.sessions := rfl
@[simp] theorem State.addCtr_sessionCount (s : State) (a n : Nat) : (s.addCtr a n).sessionCount = s.sessionCount := rfl
@[simp] theorem State.addCtr_ops (s : State) (a n : Nat) : (s.addCtr a n).ops = s.ops := rfl
@[simp] theorem State.addCtr_handleCount (s : State) (a n : Nat) : (s.addCtr a n).handleCount = s.handleCount := rfl
@[simp] theorem State.addCtr_tx (s : State) (a n : Nat) : (s.addCtr a n).tx = s.tx := rfl
@[simp] theorem State.addCtr_accLog (s : State) (a n : Nat) : (s.addCtr a n).accLog = s.accLog := rfl
@[simp] theorem State.addCtr_busStatus (s : State) (a n : Nat) : (s.addCtr a n).busStatus = s.busStatus := rfl
@[simp] theorem State.addCtr_gap (s : State) (a n : Nat) : (s.addCtr a n).gap = s.gap := rfl
@[simp] theorem State.addCtr_frozenLost (s : State) (a n : Nat) : (s.addCtr a n).frozenLost = s.frozenLost := rfl
@[simp] theorem State.addCtr_archNext (s : State) (a n : Nat) : (s.addCtr a n).archNext = s.archNext := rfl
@[simp] theorem State.addCtr_archive (s : State) (a n : Nat) : (s.addCtr a n).archive = s.archive := rfl
@[simp] theorem State.addCtr_regions (s : State) (a n : Nat) : (s.addCtr a n).regions = s.regions := rfl
@[simp] theorem State.addCtr_rowSeals (s : State) (a n : Nat) : (s.addCtr a n).rowSeals = s.rowSeals := rfl
@[simp] theorem State.addCtr_scrubAt (s : State) (a n : Nat) : (s.addCtr a n).scrubAt = s.scrubAt := rfl
@[simp] theorem State.addCtr_ddrScrub (s : State) (a n : Nat) : (s.addCtr a n).ddrScrub = s.ddrScrub := rfl
@[simp] theorem State.addCtr_wasUe (s : State) (a n : Nat) : (s.addCtr a n).wasUe = s.wasUe := rfl
@[simp] theorem State.addCtr_rxds (s : State) (a n : Nat) : (s.addCtr a n).rxds = s.rxds := rfl
@[simp] theorem State.addCtr_planCopyOk (s : State) (a n : Nat) : (s.addCtr a n).planCopyOk = s.planCopyOk := rfl
@[simp] theorem State.addCtr_lanes (s : State) (a n : Nat) : (s.addCtr a n).lanes = s.lanes := rfl
@[simp] theorem State.addCtr_calQ (s : State) (a n : Nat) : (s.addCtr a n).calQ = s.calQ := rfl
@[simp] theorem State.addCtr_assayQ (s : State) (a n : Nat) : (s.addCtr a n).assayQ = s.assayQ := rfl
@[simp] theorem State.addCtr_defer (s : State) (a n : Nat) : (s.addCtr a n).defer = s.defer := rfl
@[simp] theorem State.addCtr_plan (s : State) (a n : Nat) : (s.addCtr a n).plan = s.plan := rfl
@[simp] theorem State.addCtr_seams (s : State) (a n : Nat) : (s.addCtr a n).seams = s.seams := rfl
@[simp] theorem State.addCtr_faces (s : State) (a n : Nat) : (s.addCtr a n).faces = s.faces := rfl
@[simp] theorem State.addCtr_caps (s : State) (a n : Nat) : (s.addCtr a n).caps = s.caps := rfl
@[simp] theorem State.addCtr_archEntries (s : State) (a n : Nat) : (s.addCtr a n).archEntries = s.archEntries := rfl
@[simp] theorem State.addCtr_archId (s : State) (a n : Nat) : (s.addCtr a n).archId = s.archId := rfl
@[simp] theorem State.addCtr_archMib (s : State) (a n : Nat) : (s.addCtr a n).archMib = s.archMib := rfl
@[simp] theorem State.addCtr_streams (s : State) (a n : Nat) : (s.addCtr a n).streams = s.streams := rfl
@[simp] theorem State.addCtr_streamCount (s : State) (a n : Nat) : (s.addCtr a n).streamCount = s.streamCount := rfl
@[simp] theorem State.addCtr_claim (s : State) (a n : Nat) : (s.addCtr a n).claim = s.claim := rfl
@[simp] theorem State.addCtr_rails (s : State) (a n : Nat) : (s.addCtr a n).rails = s.rails := rfl
@[simp] theorem State.addCtr_refALost (s : State) (a n : Nat) : (s.addCtr a n).refALost = s.refALost := rfl
@[simp] theorem State.addCtr_refBLost (s : State) (a n : Nat) : (s.addCtr a n).refBLost = s.refBLost := rfl
@[simp] theorem State.addCtr_shapes (s : State) (a n : Nat) : (s.addCtr a n).shapes = s.shapes := rfl
@[simp] theorem State.addCtr_otp (s : State) (a n : Nat) : (s.addCtr a n).otp = s.otp := rfl
@[simp] theorem State.addCtr_burnQ (s : State) (a n : Nat) : (s.addCtr a n).burnQ = s.burnQ := rfl
@[simp] theorem State.addCtr_volatileSeals (s : State) (a n : Nat) : (s.addCtr a n).volatileSeals = s.volatileSeals := rfl
@[simp] theorem State.addCtr_episodes (s : State) (a n : Nat) : (s.addCtr a n).episodes = s.episodes := rfl
@[simp] theorem State.addCtr_hsBuf (s : State) (a n : Nat) : (s.addCtr a n).hsBuf = s.hsBuf := rfl
@[simp] theorem State.addCtr_hsCount (s : State) (a n : Nat) : (s.addCtr a n).hsCount = s.hsCount := rfl
@[simp] theorem State.addCtr_hostPcs (s : State) (a n : Nat) : (s.addCtr a n).hostPcs = s.hostPcs := rfl
@[simp] theorem State.addCtr_injects (s : State) (a n : Nat) : (s.addCtr a n).injects = s.injects := rfl
@[simp] theorem State.addCtr_budgetShed (s : State) (a n : Nat) : (s.addCtr a n).budgetShed = s.budgetShed := rfl
@[simp] theorem State.addCtr_throttleShed (s : State) (a n : Nat) : (s.addCtr a n).throttleShed = s.throttleShed := rfl
@[simp] theorem State.addCtr_ticks (s : State) (a n : Nat) : (s.addCtr a n).ticks = s.ticks := rfl
@[simp] theorem State.addCtr_chipTo (s : State) (a n : Nat) : (s.addCtr a n).chipTo = s.chipTo := rfl
@[simp] theorem State.addCtr_setAge (s : State) (a n : Nat) : (s.addCtr a n).setAge = s.setAge := rfl
@[simp] theorem State.addCtr_mirror (s : State) (a n : Nat) : (s.addCtr a n).mirror = s.mirror := rfl
@[simp] theorem State.addCtr_madcAcc (s : State) (a n : Nat) : (s.addCtr a n).madcAcc = s.madcAcc := rfl
@[simp] theorem State.addCtr_seqLen (s : State) (a n : Nat) : (s.addCtr a n).seqLen = s.seqLen := rfl
@[simp] theorem State.addCtr_seqPending (s : State) (a n : Nat) : (s.addCtr a n).seqPending = s.seqPending := rfl
@[simp] theorem State.addCtr_hewers (s : State) (a n : Nat) : (s.addCtr a n).hewers = s.hewers := rfl
@[simp] theorem State.addCtr_actor (s : State) (a n : Nat) : (s.addCtr a n).actor = s.actor := rfl
@[simp] theorem State.addCtr_booting (s : State) (a n : Nat) : (s.addCtr a n).booting = s.booting := rfl
@[simp] theorem State.addCtr_checked (s : State) (a n : Nat) : (s.addCtr a n).checked = s.checked := rfl
@[simp] theorem State.addCtr_bootTries (s : State) (a n : Nat) : (s.addCtr a n).bootTries = s.bootTries := rfl
@[simp] theorem State.addCtr_ddrLayout (s : State) (a n : Nat) : (s.addCtr a n).ddrLayout = s.ddrLayout := rfl
@[simp] theorem State.addCtr_d2d (s : State) (a n : Nat) : (s.addCtr a n).d2d = s.d2d := rfl
@[simp] theorem State.addCtr_ddrTrain (s : State) (a n : Nat) : (s.addCtr a n).ddrTrain = s.ddrTrain := rfl
@[simp] theorem State.addCtr_keptCrc (s : State) (a n : Nat) : (s.addCtr a n).keptCrc = s.keptCrc := rfl
@[simp] theorem State.addCtr_cpTry (s : State) (a n : Nat) : (s.addCtr a n).cpTry = s.cpTry := rfl
@[simp] theorem State.addCtr_ptp (s : State) (a n : Nat) : (s.addCtr a n).ptp = s.ptp := rfl
@[simp] theorem State.addCtr_ddrEpoch (s : State) (a n : Nat) : (s.addCtr a n).ddrEpoch = s.ddrEpoch := rfl
@[simp] theorem State.addCtr_txds (s : State) (a n : Nat) : (s.addCtr a n).txds = s.txds := rfl
@[simp] theorem State.addCtr_pats (s : State) (a n : Nat) : (s.addCtr a n).pats = s.pats := rfl
@[simp] theorem State.addCtr_gens (s : State) (a n : Nat) : (s.addCtr a n).gens = s.gens := rfl
@[simp] theorem State.addCtr_ports (s : State) (a n : Nat) : (s.addCtr a n).ports = s.ports := rfl
@[simp] theorem State.addCtr_hostTx (s : State) (a n : Nat) : (s.addCtr a n).hostTx = s.hostTx := rfl
@[simp] theorem State.addCtr_hostTaps (s : State) (a n : Nat) : (s.addCtr a n).hostTaps = s.hostTaps := rfl

/-! ## setByte -/

@[simp] theorem State.setByte_pending (s : State) (a i b : Nat) (v : Byte) : (s.setByte a i b v).pending = s.pending := rfl
@[simp] theorem State.setByte_regs (s : State) (a i b : Nat) (v : Byte) : (s.setByte a i b v).regs = s.regs := rfl
@[simp] theorem State.setByte_ctrs (s : State) (a i b : Nat) (v : Byte) : (s.setByte a i b v).ctrs = s.ctrs := rfl
@[simp] theorem State.setByte_shadows (s : State) (a i b : Nat) (v : Byte) : (s.setByte a i b v).shadows = s.shadows := rfl
@[simp] theorem State.setByte_snapGens (s : State) (a i b : Nat) (v : Byte) : (s.setByte a i b v).snapGens = s.snapGens := rfl
@[simp] theorem State.setByte_tags (s : State) (a i b : Nat) (v : Byte) : (s.setByte a i b v).tags = s.tags := rfl
@[simp] theorem State.setByte_flash (s : State) (a i b : Nat) (v : Byte) : (s.setByte a i b v).flash = s.flash := rfl
@[simp] theorem State.setByte_time (s : State) (a i b : Nat) (v : Byte) : (s.setByte a i b v).time = s.time := rfl
@[simp] theorem State.setByte_mono (s : State) (a i b : Nat) (v : Byte) : (s.setByte a i b v).mono = s.mono := rfl
@[simp] theorem State.setByte_freeCtr (s : State) (a i b : Nat) (v : Byte) : (s.setByte a i b v).freeCtr = s.freeCtr := rfl
@[simp] theorem State.setByte_powered (s : State) (a i b : Nat) (v : Byte) : (s.setByte a i b v).powered = s.powered := rfl
@[simp] theorem State.setByte_canary (s : State) (a i b : Nat) (v : Byte) : (s.setByte a i b v).canary = s.canary := rfl
@[simp] theorem State.setByte_started (s : State) (a i b : Nat) (v : Byte) : (s.setByte a i b v).started = s.started := rfl
@[simp] theorem State.setByte_sessions (s : State) (a i b : Nat) (v : Byte) : (s.setByte a i b v).sessions = s.sessions := rfl
@[simp] theorem State.setByte_sessionCount (s : State) (a i b : Nat) (v : Byte) : (s.setByte a i b v).sessionCount = s.sessionCount := rfl
@[simp] theorem State.setByte_ops (s : State) (a i b : Nat) (v : Byte) : (s.setByte a i b v).ops = s.ops := rfl
@[simp] theorem State.setByte_handleCount (s : State) (a i b : Nat) (v : Byte) : (s.setByte a i b v).handleCount = s.handleCount := rfl
@[simp] theorem State.setByte_tx (s : State) (a i b : Nat) (v : Byte) : (s.setByte a i b v).tx = s.tx := rfl
@[simp] theorem State.setByte_accLog (s : State) (a i b : Nat) (v : Byte) : (s.setByte a i b v).accLog = s.accLog := rfl
@[simp] theorem State.setByte_busStatus (s : State) (a i b : Nat) (v : Byte) : (s.setByte a i b v).busStatus = s.busStatus := rfl
@[simp] theorem State.setByte_gap (s : State) (a i b : Nat) (v : Byte) : (s.setByte a i b v).gap = s.gap := rfl
@[simp] theorem State.setByte_frozenLost (s : State) (a i b : Nat) (v : Byte) : (s.setByte a i b v).frozenLost = s.frozenLost := rfl
@[simp] theorem State.setByte_archNext (s : State) (a i b : Nat) (v : Byte) : (s.setByte a i b v).archNext = s.archNext := rfl
@[simp] theorem State.setByte_archive (s : State) (a i b : Nat) (v : Byte) : (s.setByte a i b v).archive = s.archive := rfl
@[simp] theorem State.setByte_regions (s : State) (a i b : Nat) (v : Byte) : (s.setByte a i b v).regions = s.regions := rfl
@[simp] theorem State.setByte_rowSeals (s : State) (a i b : Nat) (v : Byte) : (s.setByte a i b v).rowSeals = s.rowSeals := rfl
@[simp] theorem State.setByte_scrubAt (s : State) (a i b : Nat) (v : Byte) : (s.setByte a i b v).scrubAt = s.scrubAt := rfl
@[simp] theorem State.setByte_ddrScrub (s : State) (a i b : Nat) (v : Byte) : (s.setByte a i b v).ddrScrub = s.ddrScrub := rfl
@[simp] theorem State.setByte_wasUe (s : State) (a i b : Nat) (v : Byte) : (s.setByte a i b v).wasUe = s.wasUe := rfl
@[simp] theorem State.setByte_rxds (s : State) (a i b : Nat) (v : Byte) : (s.setByte a i b v).rxds = s.rxds := rfl
@[simp] theorem State.setByte_planCopyOk (s : State) (a i b : Nat) (v : Byte) : (s.setByte a i b v).planCopyOk = s.planCopyOk := rfl
@[simp] theorem State.setByte_lanes (s : State) (a i b : Nat) (v : Byte) : (s.setByte a i b v).lanes = s.lanes := rfl
@[simp] theorem State.setByte_calQ (s : State) (a i b : Nat) (v : Byte) : (s.setByte a i b v).calQ = s.calQ := rfl
@[simp] theorem State.setByte_assayQ (s : State) (a i b : Nat) (v : Byte) : (s.setByte a i b v).assayQ = s.assayQ := rfl
@[simp] theorem State.setByte_defer (s : State) (a i b : Nat) (v : Byte) : (s.setByte a i b v).defer = s.defer := rfl
@[simp] theorem State.setByte_plan (s : State) (a i b : Nat) (v : Byte) : (s.setByte a i b v).plan = s.plan := rfl
@[simp] theorem State.setByte_seams (s : State) (a i b : Nat) (v : Byte) : (s.setByte a i b v).seams = s.seams := rfl
@[simp] theorem State.setByte_faces (s : State) (a i b : Nat) (v : Byte) : (s.setByte a i b v).faces = s.faces := rfl
@[simp] theorem State.setByte_caps (s : State) (a i b : Nat) (v : Byte) : (s.setByte a i b v).caps = s.caps := rfl
@[simp] theorem State.setByte_archEntries (s : State) (a i b : Nat) (v : Byte) : (s.setByte a i b v).archEntries = s.archEntries := rfl
@[simp] theorem State.setByte_archId (s : State) (a i b : Nat) (v : Byte) : (s.setByte a i b v).archId = s.archId := rfl
@[simp] theorem State.setByte_archMib (s : State) (a i b : Nat) (v : Byte) : (s.setByte a i b v).archMib = s.archMib := rfl
@[simp] theorem State.setByte_streams (s : State) (a i b : Nat) (v : Byte) : (s.setByte a i b v).streams = s.streams := rfl
@[simp] theorem State.setByte_streamCount (s : State) (a i b : Nat) (v : Byte) : (s.setByte a i b v).streamCount = s.streamCount := rfl
@[simp] theorem State.setByte_claim (s : State) (a i b : Nat) (v : Byte) : (s.setByte a i b v).claim = s.claim := rfl
@[simp] theorem State.setByte_rails (s : State) (a i b : Nat) (v : Byte) : (s.setByte a i b v).rails = s.rails := rfl
@[simp] theorem State.setByte_refALost (s : State) (a i b : Nat) (v : Byte) : (s.setByte a i b v).refALost = s.refALost := rfl
@[simp] theorem State.setByte_refBLost (s : State) (a i b : Nat) (v : Byte) : (s.setByte a i b v).refBLost = s.refBLost := rfl
@[simp] theorem State.setByte_shapes (s : State) (a i b : Nat) (v : Byte) : (s.setByte a i b v).shapes = s.shapes := rfl
@[simp] theorem State.setByte_otp (s : State) (a i b : Nat) (v : Byte) : (s.setByte a i b v).otp = s.otp := rfl
@[simp] theorem State.setByte_burnQ (s : State) (a i b : Nat) (v : Byte) : (s.setByte a i b v).burnQ = s.burnQ := rfl
@[simp] theorem State.setByte_volatileSeals (s : State) (a i b : Nat) (v : Byte) : (s.setByte a i b v).volatileSeals = s.volatileSeals := rfl
@[simp] theorem State.setByte_episodes (s : State) (a i b : Nat) (v : Byte) : (s.setByte a i b v).episodes = s.episodes := rfl
@[simp] theorem State.setByte_hsBuf (s : State) (a i b : Nat) (v : Byte) : (s.setByte a i b v).hsBuf = s.hsBuf := rfl
@[simp] theorem State.setByte_hsCount (s : State) (a i b : Nat) (v : Byte) : (s.setByte a i b v).hsCount = s.hsCount := rfl
@[simp] theorem State.setByte_hostPcs (s : State) (a i b : Nat) (v : Byte) : (s.setByte a i b v).hostPcs = s.hostPcs := rfl
@[simp] theorem State.setByte_injects (s : State) (a i b : Nat) (v : Byte) : (s.setByte a i b v).injects = s.injects := rfl
@[simp] theorem State.setByte_budgetShed (s : State) (a i b : Nat) (v : Byte) : (s.setByte a i b v).budgetShed = s.budgetShed := rfl
@[simp] theorem State.setByte_throttleShed (s : State) (a i b : Nat) (v : Byte) : (s.setByte a i b v).throttleShed = s.throttleShed := rfl
@[simp] theorem State.setByte_ticks (s : State) (a i b : Nat) (v : Byte) : (s.setByte a i b v).ticks = s.ticks := rfl
@[simp] theorem State.setByte_chipTo (s : State) (a i b : Nat) (v : Byte) : (s.setByte a i b v).chipTo = s.chipTo := rfl
@[simp] theorem State.setByte_setAge (s : State) (a i b : Nat) (v : Byte) : (s.setByte a i b v).setAge = s.setAge := rfl
@[simp] theorem State.setByte_mirror (s : State) (a i b : Nat) (v : Byte) : (s.setByte a i b v).mirror = s.mirror := rfl
@[simp] theorem State.setByte_madcAcc (s : State) (a i b : Nat) (v : Byte) : (s.setByte a i b v).madcAcc = s.madcAcc := rfl
@[simp] theorem State.setByte_seqLen (s : State) (a i b : Nat) (v : Byte) : (s.setByte a i b v).seqLen = s.seqLen := rfl
@[simp] theorem State.setByte_seqPending (s : State) (a i b : Nat) (v : Byte) : (s.setByte a i b v).seqPending = s.seqPending := rfl
@[simp] theorem State.setByte_hewers (s : State) (a i b : Nat) (v : Byte) : (s.setByte a i b v).hewers = s.hewers := rfl
@[simp] theorem State.setByte_actor (s : State) (a i b : Nat) (v : Byte) : (s.setByte a i b v).actor = s.actor := rfl
@[simp] theorem State.setByte_booting (s : State) (a i b : Nat) (v : Byte) : (s.setByte a i b v).booting = s.booting := rfl
@[simp] theorem State.setByte_checked (s : State) (a i b : Nat) (v : Byte) : (s.setByte a i b v).checked = s.checked := rfl
@[simp] theorem State.setByte_bootTries (s : State) (a i b : Nat) (v : Byte) : (s.setByte a i b v).bootTries = s.bootTries := rfl
@[simp] theorem State.setByte_ddrLayout (s : State) (a i b : Nat) (v : Byte) : (s.setByte a i b v).ddrLayout = s.ddrLayout := rfl
@[simp] theorem State.setByte_d2d (s : State) (a i b : Nat) (v : Byte) : (s.setByte a i b v).d2d = s.d2d := rfl
@[simp] theorem State.setByte_ddrTrain (s : State) (a i b : Nat) (v : Byte) : (s.setByte a i b v).ddrTrain = s.ddrTrain := rfl
@[simp] theorem State.setByte_keptCrc (s : State) (a i b : Nat) (v : Byte) : (s.setByte a i b v).keptCrc = s.keptCrc := rfl
@[simp] theorem State.setByte_cpTry (s : State) (a i b : Nat) (v : Byte) : (s.setByte a i b v).cpTry = s.cpTry := rfl
@[simp] theorem State.setByte_ptp (s : State) (a i b : Nat) (v : Byte) : (s.setByte a i b v).ptp = s.ptp := rfl
@[simp] theorem State.setByte_ddrEpoch (s : State) (a i b : Nat) (v : Byte) : (s.setByte a i b v).ddrEpoch = s.ddrEpoch := rfl
@[simp] theorem State.setByte_txds (s : State) (a i b : Nat) (v : Byte) : (s.setByte a i b v).txds = s.txds := rfl
@[simp] theorem State.setByte_pats (s : State) (a i b : Nat) (v : Byte) : (s.setByte a i b v).pats = s.pats := rfl
@[simp] theorem State.setByte_gens (s : State) (a i b : Nat) (v : Byte) : (s.setByte a i b v).gens = s.gens := rfl
@[simp] theorem State.setByte_ports (s : State) (a i b : Nat) (v : Byte) : (s.setByte a i b v).ports = s.ports := rfl
@[simp] theorem State.setByte_hostTx (s : State) (a i b : Nat) (v : Byte) : (s.setByte a i b v).hostTx = s.hostTx := rfl
@[simp] theorem State.setByte_hostTaps (s : State) (a i b : Nat) (v : Byte) : (s.setByte a i b v).hostTaps = s.hostTaps := rfl

/-! ## setTag -/

@[simp] theorem State.setTag_pending (s : State) (a i w : Nat) (x : Option WordTag) : (s.setTag a i w x).pending = s.pending := rfl
@[simp] theorem State.setTag_regs (s : State) (a i w : Nat) (x : Option WordTag) : (s.setTag a i w x).regs = s.regs := rfl
@[simp] theorem State.setTag_ctrs (s : State) (a i w : Nat) (x : Option WordTag) : (s.setTag a i w x).ctrs = s.ctrs := rfl
@[simp] theorem State.setTag_shadows (s : State) (a i w : Nat) (x : Option WordTag) : (s.setTag a i w x).shadows = s.shadows := rfl
@[simp] theorem State.setTag_snapGens (s : State) (a i w : Nat) (x : Option WordTag) : (s.setTag a i w x).snapGens = s.snapGens := rfl
@[simp] theorem State.setTag_bytes (s : State) (a i w : Nat) (x : Option WordTag) : (s.setTag a i w x).bytes = s.bytes := rfl
@[simp] theorem State.setTag_flash (s : State) (a i w : Nat) (x : Option WordTag) : (s.setTag a i w x).flash = s.flash := rfl
@[simp] theorem State.setTag_time (s : State) (a i w : Nat) (x : Option WordTag) : (s.setTag a i w x).time = s.time := rfl
@[simp] theorem State.setTag_mono (s : State) (a i w : Nat) (x : Option WordTag) : (s.setTag a i w x).mono = s.mono := rfl
@[simp] theorem State.setTag_freeCtr (s : State) (a i w : Nat) (x : Option WordTag) : (s.setTag a i w x).freeCtr = s.freeCtr := rfl
@[simp] theorem State.setTag_powered (s : State) (a i w : Nat) (x : Option WordTag) : (s.setTag a i w x).powered = s.powered := rfl
@[simp] theorem State.setTag_canary (s : State) (a i w : Nat) (x : Option WordTag) : (s.setTag a i w x).canary = s.canary := rfl
@[simp] theorem State.setTag_started (s : State) (a i w : Nat) (x : Option WordTag) : (s.setTag a i w x).started = s.started := rfl
@[simp] theorem State.setTag_sessions (s : State) (a i w : Nat) (x : Option WordTag) : (s.setTag a i w x).sessions = s.sessions := rfl
@[simp] theorem State.setTag_sessionCount (s : State) (a i w : Nat) (x : Option WordTag) : (s.setTag a i w x).sessionCount = s.sessionCount := rfl
@[simp] theorem State.setTag_ops (s : State) (a i w : Nat) (x : Option WordTag) : (s.setTag a i w x).ops = s.ops := rfl
@[simp] theorem State.setTag_handleCount (s : State) (a i w : Nat) (x : Option WordTag) : (s.setTag a i w x).handleCount = s.handleCount := rfl
@[simp] theorem State.setTag_tx (s : State) (a i w : Nat) (x : Option WordTag) : (s.setTag a i w x).tx = s.tx := rfl
@[simp] theorem State.setTag_accLog (s : State) (a i w : Nat) (x : Option WordTag) : (s.setTag a i w x).accLog = s.accLog := rfl
@[simp] theorem State.setTag_busStatus (s : State) (a i w : Nat) (x : Option WordTag) : (s.setTag a i w x).busStatus = s.busStatus := rfl
@[simp] theorem State.setTag_gap (s : State) (a i w : Nat) (x : Option WordTag) : (s.setTag a i w x).gap = s.gap := rfl
@[simp] theorem State.setTag_frozenLost (s : State) (a i w : Nat) (x : Option WordTag) : (s.setTag a i w x).frozenLost = s.frozenLost := rfl
@[simp] theorem State.setTag_archNext (s : State) (a i w : Nat) (x : Option WordTag) : (s.setTag a i w x).archNext = s.archNext := rfl
@[simp] theorem State.setTag_archive (s : State) (a i w : Nat) (x : Option WordTag) : (s.setTag a i w x).archive = s.archive := rfl
@[simp] theorem State.setTag_regions (s : State) (a i w : Nat) (x : Option WordTag) : (s.setTag a i w x).regions = s.regions := rfl
@[simp] theorem State.setTag_rowSeals (s : State) (a i w : Nat) (x : Option WordTag) : (s.setTag a i w x).rowSeals = s.rowSeals := rfl
@[simp] theorem State.setTag_scrubAt (s : State) (a i w : Nat) (x : Option WordTag) : (s.setTag a i w x).scrubAt = s.scrubAt := rfl
@[simp] theorem State.setTag_ddrScrub (s : State) (a i w : Nat) (x : Option WordTag) : (s.setTag a i w x).ddrScrub = s.ddrScrub := rfl
@[simp] theorem State.setTag_wasUe (s : State) (a i w : Nat) (x : Option WordTag) : (s.setTag a i w x).wasUe = s.wasUe := rfl
@[simp] theorem State.setTag_rxds (s : State) (a i w : Nat) (x : Option WordTag) : (s.setTag a i w x).rxds = s.rxds := rfl
@[simp] theorem State.setTag_planCopyOk (s : State) (a i w : Nat) (x : Option WordTag) : (s.setTag a i w x).planCopyOk = s.planCopyOk := rfl
@[simp] theorem State.setTag_lanes (s : State) (a i w : Nat) (x : Option WordTag) : (s.setTag a i w x).lanes = s.lanes := rfl
@[simp] theorem State.setTag_calQ (s : State) (a i w : Nat) (x : Option WordTag) : (s.setTag a i w x).calQ = s.calQ := rfl
@[simp] theorem State.setTag_assayQ (s : State) (a i w : Nat) (x : Option WordTag) : (s.setTag a i w x).assayQ = s.assayQ := rfl
@[simp] theorem State.setTag_defer (s : State) (a i w : Nat) (x : Option WordTag) : (s.setTag a i w x).defer = s.defer := rfl
@[simp] theorem State.setTag_plan (s : State) (a i w : Nat) (x : Option WordTag) : (s.setTag a i w x).plan = s.plan := rfl
@[simp] theorem State.setTag_seams (s : State) (a i w : Nat) (x : Option WordTag) : (s.setTag a i w x).seams = s.seams := rfl
@[simp] theorem State.setTag_faces (s : State) (a i w : Nat) (x : Option WordTag) : (s.setTag a i w x).faces = s.faces := rfl
@[simp] theorem State.setTag_caps (s : State) (a i w : Nat) (x : Option WordTag) : (s.setTag a i w x).caps = s.caps := rfl
@[simp] theorem State.setTag_archEntries (s : State) (a i w : Nat) (x : Option WordTag) : (s.setTag a i w x).archEntries = s.archEntries := rfl
@[simp] theorem State.setTag_archId (s : State) (a i w : Nat) (x : Option WordTag) : (s.setTag a i w x).archId = s.archId := rfl
@[simp] theorem State.setTag_archMib (s : State) (a i w : Nat) (x : Option WordTag) : (s.setTag a i w x).archMib = s.archMib := rfl
@[simp] theorem State.setTag_streams (s : State) (a i w : Nat) (x : Option WordTag) : (s.setTag a i w x).streams = s.streams := rfl
@[simp] theorem State.setTag_streamCount (s : State) (a i w : Nat) (x : Option WordTag) : (s.setTag a i w x).streamCount = s.streamCount := rfl
@[simp] theorem State.setTag_claim (s : State) (a i w : Nat) (x : Option WordTag) : (s.setTag a i w x).claim = s.claim := rfl
@[simp] theorem State.setTag_rails (s : State) (a i w : Nat) (x : Option WordTag) : (s.setTag a i w x).rails = s.rails := rfl
@[simp] theorem State.setTag_refALost (s : State) (a i w : Nat) (x : Option WordTag) : (s.setTag a i w x).refALost = s.refALost := rfl
@[simp] theorem State.setTag_refBLost (s : State) (a i w : Nat) (x : Option WordTag) : (s.setTag a i w x).refBLost = s.refBLost := rfl
@[simp] theorem State.setTag_shapes (s : State) (a i w : Nat) (x : Option WordTag) : (s.setTag a i w x).shapes = s.shapes := rfl
@[simp] theorem State.setTag_otp (s : State) (a i w : Nat) (x : Option WordTag) : (s.setTag a i w x).otp = s.otp := rfl
@[simp] theorem State.setTag_burnQ (s : State) (a i w : Nat) (x : Option WordTag) : (s.setTag a i w x).burnQ = s.burnQ := rfl
@[simp] theorem State.setTag_volatileSeals (s : State) (a i w : Nat) (x : Option WordTag) : (s.setTag a i w x).volatileSeals = s.volatileSeals := rfl
@[simp] theorem State.setTag_episodes (s : State) (a i w : Nat) (x : Option WordTag) : (s.setTag a i w x).episodes = s.episodes := rfl
@[simp] theorem State.setTag_hsBuf (s : State) (a i w : Nat) (x : Option WordTag) : (s.setTag a i w x).hsBuf = s.hsBuf := rfl
@[simp] theorem State.setTag_hsCount (s : State) (a i w : Nat) (x : Option WordTag) : (s.setTag a i w x).hsCount = s.hsCount := rfl
@[simp] theorem State.setTag_hostPcs (s : State) (a i w : Nat) (x : Option WordTag) : (s.setTag a i w x).hostPcs = s.hostPcs := rfl
@[simp] theorem State.setTag_injects (s : State) (a i w : Nat) (x : Option WordTag) : (s.setTag a i w x).injects = s.injects := rfl
@[simp] theorem State.setTag_budgetShed (s : State) (a i w : Nat) (x : Option WordTag) : (s.setTag a i w x).budgetShed = s.budgetShed := rfl
@[simp] theorem State.setTag_throttleShed (s : State) (a i w : Nat) (x : Option WordTag) : (s.setTag a i w x).throttleShed = s.throttleShed := rfl
@[simp] theorem State.setTag_ticks (s : State) (a i w : Nat) (x : Option WordTag) : (s.setTag a i w x).ticks = s.ticks := rfl
@[simp] theorem State.setTag_chipTo (s : State) (a i w : Nat) (x : Option WordTag) : (s.setTag a i w x).chipTo = s.chipTo := rfl
@[simp] theorem State.setTag_setAge (s : State) (a i w : Nat) (x : Option WordTag) : (s.setTag a i w x).setAge = s.setAge := rfl
@[simp] theorem State.setTag_mirror (s : State) (a i w : Nat) (x : Option WordTag) : (s.setTag a i w x).mirror = s.mirror := rfl
@[simp] theorem State.setTag_madcAcc (s : State) (a i w : Nat) (x : Option WordTag) : (s.setTag a i w x).madcAcc = s.madcAcc := rfl
@[simp] theorem State.setTag_seqLen (s : State) (a i w : Nat) (x : Option WordTag) : (s.setTag a i w x).seqLen = s.seqLen := rfl
@[simp] theorem State.setTag_seqPending (s : State) (a i w : Nat) (x : Option WordTag) : (s.setTag a i w x).seqPending = s.seqPending := rfl
@[simp] theorem State.setTag_hewers (s : State) (a i w : Nat) (x : Option WordTag) : (s.setTag a i w x).hewers = s.hewers := rfl
@[simp] theorem State.setTag_actor (s : State) (a i w : Nat) (x : Option WordTag) : (s.setTag a i w x).actor = s.actor := rfl
@[simp] theorem State.setTag_booting (s : State) (a i w : Nat) (x : Option WordTag) : (s.setTag a i w x).booting = s.booting := rfl
@[simp] theorem State.setTag_checked (s : State) (a i w : Nat) (x : Option WordTag) : (s.setTag a i w x).checked = s.checked := rfl
@[simp] theorem State.setTag_bootTries (s : State) (a i w : Nat) (x : Option WordTag) : (s.setTag a i w x).bootTries = s.bootTries := rfl
@[simp] theorem State.setTag_ddrLayout (s : State) (a i w : Nat) (x : Option WordTag) : (s.setTag a i w x).ddrLayout = s.ddrLayout := rfl
@[simp] theorem State.setTag_d2d (s : State) (a i w : Nat) (x : Option WordTag) : (s.setTag a i w x).d2d = s.d2d := rfl
@[simp] theorem State.setTag_ddrTrain (s : State) (a i w : Nat) (x : Option WordTag) : (s.setTag a i w x).ddrTrain = s.ddrTrain := rfl
@[simp] theorem State.setTag_keptCrc (s : State) (a i w : Nat) (x : Option WordTag) : (s.setTag a i w x).keptCrc = s.keptCrc := rfl
@[simp] theorem State.setTag_cpTry (s : State) (a i w : Nat) (x : Option WordTag) : (s.setTag a i w x).cpTry = s.cpTry := rfl
@[simp] theorem State.setTag_ptp (s : State) (a i w : Nat) (x : Option WordTag) : (s.setTag a i w x).ptp = s.ptp := rfl
@[simp] theorem State.setTag_ddrEpoch (s : State) (a i w : Nat) (x : Option WordTag) : (s.setTag a i w x).ddrEpoch = s.ddrEpoch := rfl
@[simp] theorem State.setTag_txds (s : State) (a i w : Nat) (x : Option WordTag) : (s.setTag a i w x).txds = s.txds := rfl
@[simp] theorem State.setTag_pats (s : State) (a i w : Nat) (x : Option WordTag) : (s.setTag a i w x).pats = s.pats := rfl
@[simp] theorem State.setTag_gens (s : State) (a i w : Nat) (x : Option WordTag) : (s.setTag a i w x).gens = s.gens := rfl
@[simp] theorem State.setTag_ports (s : State) (a i w : Nat) (x : Option WordTag) : (s.setTag a i w x).ports = s.ports := rfl
@[simp] theorem State.setTag_hostTx (s : State) (a i w : Nat) (x : Option WordTag) : (s.setTag a i w x).hostTx = s.hostTx := rfl
@[simp] theorem State.setTag_hostTaps (s : State) (a i w : Nat) (x : Option WordTag) : (s.setTag a i w x).hostTaps = s.hostTaps := rfl

/-! ## tookFree -/

@[simp] theorem State.tookFree_pending (s : State) : (s.tookFree).pending = s.pending := rfl
@[simp] theorem State.tookFree_regs (s : State) : (s.tookFree).regs = s.regs := rfl
@[simp] theorem State.tookFree_ctrs (s : State) : (s.tookFree).ctrs = s.ctrs := rfl
@[simp] theorem State.tookFree_shadows (s : State) : (s.tookFree).shadows = s.shadows := rfl
@[simp] theorem State.tookFree_snapGens (s : State) : (s.tookFree).snapGens = s.snapGens := rfl
@[simp] theorem State.tookFree_bytes (s : State) : (s.tookFree).bytes = s.bytes := rfl
@[simp] theorem State.tookFree_tags (s : State) : (s.tookFree).tags = s.tags := rfl
@[simp] theorem State.tookFree_flash (s : State) : (s.tookFree).flash = s.flash := rfl
@[simp] theorem State.tookFree_time (s : State) : (s.tookFree).time = s.time := rfl
@[simp] theorem State.tookFree_mono (s : State) : (s.tookFree).mono = s.mono := rfl
@[simp] theorem State.tookFree_powered (s : State) : (s.tookFree).powered = s.powered := rfl
@[simp] theorem State.tookFree_canary (s : State) : (s.tookFree).canary = s.canary := rfl
@[simp] theorem State.tookFree_started (s : State) : (s.tookFree).started = s.started := rfl
@[simp] theorem State.tookFree_sessions (s : State) : (s.tookFree).sessions = s.sessions := rfl
@[simp] theorem State.tookFree_sessionCount (s : State) : (s.tookFree).sessionCount = s.sessionCount := rfl
@[simp] theorem State.tookFree_ops (s : State) : (s.tookFree).ops = s.ops := rfl
@[simp] theorem State.tookFree_handleCount (s : State) : (s.tookFree).handleCount = s.handleCount := rfl
@[simp] theorem State.tookFree_tx (s : State) : (s.tookFree).tx = s.tx := rfl
@[simp] theorem State.tookFree_accLog (s : State) : (s.tookFree).accLog = s.accLog := rfl
@[simp] theorem State.tookFree_busStatus (s : State) : (s.tookFree).busStatus = s.busStatus := rfl
@[simp] theorem State.tookFree_gap (s : State) : (s.tookFree).gap = s.gap := rfl
@[simp] theorem State.tookFree_frozenLost (s : State) : (s.tookFree).frozenLost = s.frozenLost := rfl
@[simp] theorem State.tookFree_archNext (s : State) : (s.tookFree).archNext = s.archNext := rfl
@[simp] theorem State.tookFree_archive (s : State) : (s.tookFree).archive = s.archive := rfl
@[simp] theorem State.tookFree_regions (s : State) : (s.tookFree).regions = s.regions := rfl
@[simp] theorem State.tookFree_rowSeals (s : State) : (s.tookFree).rowSeals = s.rowSeals := rfl
@[simp] theorem State.tookFree_scrubAt (s : State) : (s.tookFree).scrubAt = s.scrubAt := rfl
@[simp] theorem State.tookFree_ddrScrub (s : State) : (s.tookFree).ddrScrub = s.ddrScrub := rfl
@[simp] theorem State.tookFree_wasUe (s : State) : (s.tookFree).wasUe = s.wasUe := rfl
@[simp] theorem State.tookFree_rxds (s : State) : (s.tookFree).rxds = s.rxds := rfl
@[simp] theorem State.tookFree_planCopyOk (s : State) : (s.tookFree).planCopyOk = s.planCopyOk := rfl
@[simp] theorem State.tookFree_lanes (s : State) : (s.tookFree).lanes = s.lanes := rfl
@[simp] theorem State.tookFree_calQ (s : State) : (s.tookFree).calQ = s.calQ := rfl
@[simp] theorem State.tookFree_assayQ (s : State) : (s.tookFree).assayQ = s.assayQ := rfl
@[simp] theorem State.tookFree_defer (s : State) : (s.tookFree).defer = s.defer := rfl
@[simp] theorem State.tookFree_plan (s : State) : (s.tookFree).plan = s.plan := rfl
@[simp] theorem State.tookFree_seams (s : State) : (s.tookFree).seams = s.seams := rfl
@[simp] theorem State.tookFree_faces (s : State) : (s.tookFree).faces = s.faces := rfl
@[simp] theorem State.tookFree_caps (s : State) : (s.tookFree).caps = s.caps := rfl
@[simp] theorem State.tookFree_archEntries (s : State) : (s.tookFree).archEntries = s.archEntries := rfl
@[simp] theorem State.tookFree_archId (s : State) : (s.tookFree).archId = s.archId := rfl
@[simp] theorem State.tookFree_archMib (s : State) : (s.tookFree).archMib = s.archMib := rfl
@[simp] theorem State.tookFree_streams (s : State) : (s.tookFree).streams = s.streams := rfl
@[simp] theorem State.tookFree_streamCount (s : State) : (s.tookFree).streamCount = s.streamCount := rfl
@[simp] theorem State.tookFree_claim (s : State) : (s.tookFree).claim = s.claim := rfl
@[simp] theorem State.tookFree_rails (s : State) : (s.tookFree).rails = s.rails := rfl
@[simp] theorem State.tookFree_refALost (s : State) : (s.tookFree).refALost = s.refALost := rfl
@[simp] theorem State.tookFree_refBLost (s : State) : (s.tookFree).refBLost = s.refBLost := rfl
@[simp] theorem State.tookFree_shapes (s : State) : (s.tookFree).shapes = s.shapes := rfl
@[simp] theorem State.tookFree_otp (s : State) : (s.tookFree).otp = s.otp := rfl
@[simp] theorem State.tookFree_burnQ (s : State) : (s.tookFree).burnQ = s.burnQ := rfl
@[simp] theorem State.tookFree_volatileSeals (s : State) : (s.tookFree).volatileSeals = s.volatileSeals := rfl
@[simp] theorem State.tookFree_episodes (s : State) : (s.tookFree).episodes = s.episodes := rfl
@[simp] theorem State.tookFree_hsBuf (s : State) : (s.tookFree).hsBuf = s.hsBuf := rfl
@[simp] theorem State.tookFree_hsCount (s : State) : (s.tookFree).hsCount = s.hsCount := rfl
@[simp] theorem State.tookFree_hostPcs (s : State) : (s.tookFree).hostPcs = s.hostPcs := rfl
@[simp] theorem State.tookFree_injects (s : State) : (s.tookFree).injects = s.injects := rfl
@[simp] theorem State.tookFree_budgetShed (s : State) : (s.tookFree).budgetShed = s.budgetShed := rfl
@[simp] theorem State.tookFree_throttleShed (s : State) : (s.tookFree).throttleShed = s.throttleShed := rfl
@[simp] theorem State.tookFree_ticks (s : State) : (s.tookFree).ticks = s.ticks := rfl
@[simp] theorem State.tookFree_chipTo (s : State) : (s.tookFree).chipTo = s.chipTo := rfl
@[simp] theorem State.tookFree_setAge (s : State) : (s.tookFree).setAge = s.setAge := rfl
@[simp] theorem State.tookFree_mirror (s : State) : (s.tookFree).mirror = s.mirror := rfl
@[simp] theorem State.tookFree_madcAcc (s : State) : (s.tookFree).madcAcc = s.madcAcc := rfl
@[simp] theorem State.tookFree_seqLen (s : State) : (s.tookFree).seqLen = s.seqLen := rfl
@[simp] theorem State.tookFree_seqPending (s : State) : (s.tookFree).seqPending = s.seqPending := rfl
@[simp] theorem State.tookFree_hewers (s : State) : (s.tookFree).hewers = s.hewers := rfl
@[simp] theorem State.tookFree_actor (s : State) : (s.tookFree).actor = s.actor := rfl
@[simp] theorem State.tookFree_booting (s : State) : (s.tookFree).booting = s.booting := rfl
@[simp] theorem State.tookFree_checked (s : State) : (s.tookFree).checked = s.checked := rfl
@[simp] theorem State.tookFree_bootTries (s : State) : (s.tookFree).bootTries = s.bootTries := rfl
@[simp] theorem State.tookFree_ddrLayout (s : State) : (s.tookFree).ddrLayout = s.ddrLayout := rfl
@[simp] theorem State.tookFree_d2d (s : State) : (s.tookFree).d2d = s.d2d := rfl
@[simp] theorem State.tookFree_ddrTrain (s : State) : (s.tookFree).ddrTrain = s.ddrTrain := rfl
@[simp] theorem State.tookFree_keptCrc (s : State) : (s.tookFree).keptCrc = s.keptCrc := rfl
@[simp] theorem State.tookFree_cpTry (s : State) : (s.tookFree).cpTry = s.cpTry := rfl
@[simp] theorem State.tookFree_ptp (s : State) : (s.tookFree).ptp = s.ptp := rfl
@[simp] theorem State.tookFree_ddrEpoch (s : State) : (s.tookFree).ddrEpoch = s.ddrEpoch := rfl
@[simp] theorem State.tookFree_txds (s : State) : (s.tookFree).txds = s.txds := rfl
@[simp] theorem State.tookFree_pats (s : State) : (s.tookFree).pats = s.pats := rfl
@[simp] theorem State.tookFree_gens (s : State) : (s.tookFree).gens = s.gens := rfl
@[simp] theorem State.tookFree_ports (s : State) : (s.tookFree).ports = s.ports := rfl
@[simp] theorem State.tookFree_hostTx (s : State) : (s.tookFree).hostTx = s.hostTx := rfl
@[simp] theorem State.tookFree_hostTaps (s : State) : (s.tookFree).hostTaps = s.hostTaps := rfl

/-! ## calm -/

@[simp] theorem State.calm_pending (s : State) : (s.calm).pending = s.pending := rfl
@[simp] theorem State.calm_regs (s : State) : (s.calm).regs = s.regs := rfl
@[simp] theorem State.calm_ctrs (s : State) : (s.calm).ctrs = s.ctrs := rfl
@[simp] theorem State.calm_shadows (s : State) : (s.calm).shadows = s.shadows := rfl
@[simp] theorem State.calm_snapGens (s : State) : (s.calm).snapGens = s.snapGens := rfl
@[simp] theorem State.calm_bytes (s : State) : (s.calm).bytes = s.bytes := rfl
@[simp] theorem State.calm_tags (s : State) : (s.calm).tags = s.tags := rfl
@[simp] theorem State.calm_flash (s : State) : (s.calm).flash = s.flash := rfl
@[simp] theorem State.calm_time (s : State) : (s.calm).time = s.time := rfl
@[simp] theorem State.calm_mono (s : State) : (s.calm).mono = s.mono := rfl
@[simp] theorem State.calm_freeCtr (s : State) : (s.calm).freeCtr = s.freeCtr := rfl
@[simp] theorem State.calm_powered (s : State) : (s.calm).powered = s.powered := rfl
@[simp] theorem State.calm_canary (s : State) : (s.calm).canary = s.canary := rfl
@[simp] theorem State.calm_started (s : State) : (s.calm).started = s.started := rfl
@[simp] theorem State.calm_sessions (s : State) : (s.calm).sessions = s.sessions := rfl
@[simp] theorem State.calm_sessionCount (s : State) : (s.calm).sessionCount = s.sessionCount := rfl
@[simp] theorem State.calm_ops (s : State) : (s.calm).ops = s.ops := rfl
@[simp] theorem State.calm_handleCount (s : State) : (s.calm).handleCount = s.handleCount := rfl
@[simp] theorem State.calm_tx (s : State) : (s.calm).tx = s.tx := rfl
@[simp] theorem State.calm_accLog (s : State) : (s.calm).accLog = s.accLog := rfl
@[simp] theorem State.calm_busStatus (s : State) : (s.calm).busStatus = s.busStatus := rfl
@[simp] theorem State.calm_gap (s : State) : (s.calm).gap = s.gap := rfl
@[simp] theorem State.calm_frozenLost (s : State) : (s.calm).frozenLost = s.frozenLost := rfl
@[simp] theorem State.calm_archNext (s : State) : (s.calm).archNext = s.archNext := rfl
@[simp] theorem State.calm_archive (s : State) : (s.calm).archive = s.archive := rfl
@[simp] theorem State.calm_regions (s : State) : (s.calm).regions = s.regions := rfl
@[simp] theorem State.calm_rowSeals (s : State) : (s.calm).rowSeals = s.rowSeals := rfl
@[simp] theorem State.calm_scrubAt (s : State) : (s.calm).scrubAt = s.scrubAt := rfl
@[simp] theorem State.calm_ddrScrub (s : State) : (s.calm).ddrScrub = s.ddrScrub := rfl
@[simp] theorem State.calm_wasUe (s : State) : (s.calm).wasUe = s.wasUe := rfl
@[simp] theorem State.calm_rxds (s : State) : (s.calm).rxds = s.rxds := rfl
@[simp] theorem State.calm_planCopyOk (s : State) : (s.calm).planCopyOk = s.planCopyOk := rfl
@[simp] theorem State.calm_lanes (s : State) : (s.calm).lanes = s.lanes := rfl
@[simp] theorem State.calm_calQ (s : State) : (s.calm).calQ = s.calQ := rfl
@[simp] theorem State.calm_assayQ (s : State) : (s.calm).assayQ = s.assayQ := rfl
@[simp] theorem State.calm_plan (s : State) : (s.calm).plan = s.plan := rfl
@[simp] theorem State.calm_seams (s : State) : (s.calm).seams = s.seams := rfl
@[simp] theorem State.calm_faces (s : State) : (s.calm).faces = s.faces := rfl
@[simp] theorem State.calm_caps (s : State) : (s.calm).caps = s.caps := rfl
@[simp] theorem State.calm_archEntries (s : State) : (s.calm).archEntries = s.archEntries := rfl
@[simp] theorem State.calm_archId (s : State) : (s.calm).archId = s.archId := rfl
@[simp] theorem State.calm_archMib (s : State) : (s.calm).archMib = s.archMib := rfl
@[simp] theorem State.calm_streams (s : State) : (s.calm).streams = s.streams := rfl
@[simp] theorem State.calm_streamCount (s : State) : (s.calm).streamCount = s.streamCount := rfl
@[simp] theorem State.calm_claim (s : State) : (s.calm).claim = s.claim := rfl
@[simp] theorem State.calm_rails (s : State) : (s.calm).rails = s.rails := rfl
@[simp] theorem State.calm_refALost (s : State) : (s.calm).refALost = s.refALost := rfl
@[simp] theorem State.calm_refBLost (s : State) : (s.calm).refBLost = s.refBLost := rfl
@[simp] theorem State.calm_shapes (s : State) : (s.calm).shapes = s.shapes := rfl
@[simp] theorem State.calm_otp (s : State) : (s.calm).otp = s.otp := rfl
@[simp] theorem State.calm_burnQ (s : State) : (s.calm).burnQ = s.burnQ := rfl
@[simp] theorem State.calm_volatileSeals (s : State) : (s.calm).volatileSeals = s.volatileSeals := rfl
@[simp] theorem State.calm_episodes (s : State) : (s.calm).episodes = s.episodes := rfl
@[simp] theorem State.calm_hsBuf (s : State) : (s.calm).hsBuf = s.hsBuf := rfl
@[simp] theorem State.calm_hsCount (s : State) : (s.calm).hsCount = s.hsCount := rfl
@[simp] theorem State.calm_hostPcs (s : State) : (s.calm).hostPcs = s.hostPcs := rfl
@[simp] theorem State.calm_injects (s : State) : (s.calm).injects = s.injects := rfl
@[simp] theorem State.calm_budgetShed (s : State) : (s.calm).budgetShed = s.budgetShed := rfl
@[simp] theorem State.calm_throttleShed (s : State) : (s.calm).throttleShed = s.throttleShed := rfl
@[simp] theorem State.calm_ticks (s : State) : (s.calm).ticks = s.ticks := rfl
@[simp] theorem State.calm_chipTo (s : State) : (s.calm).chipTo = s.chipTo := rfl
@[simp] theorem State.calm_setAge (s : State) : (s.calm).setAge = s.setAge := rfl
@[simp] theorem State.calm_mirror (s : State) : (s.calm).mirror = s.mirror := rfl
@[simp] theorem State.calm_madcAcc (s : State) : (s.calm).madcAcc = s.madcAcc := rfl
@[simp] theorem State.calm_seqLen (s : State) : (s.calm).seqLen = s.seqLen := rfl
@[simp] theorem State.calm_seqPending (s : State) : (s.calm).seqPending = s.seqPending := rfl
@[simp] theorem State.calm_hewers (s : State) : (s.calm).hewers = s.hewers := rfl
@[simp] theorem State.calm_actor (s : State) : (s.calm).actor = s.actor := rfl
@[simp] theorem State.calm_booting (s : State) : (s.calm).booting = s.booting := rfl
@[simp] theorem State.calm_checked (s : State) : (s.calm).checked = s.checked := rfl
@[simp] theorem State.calm_bootTries (s : State) : (s.calm).bootTries = s.bootTries := rfl
@[simp] theorem State.calm_ddrLayout (s : State) : (s.calm).ddrLayout = s.ddrLayout := rfl
@[simp] theorem State.calm_d2d (s : State) : (s.calm).d2d = s.d2d := rfl
@[simp] theorem State.calm_ddrTrain (s : State) : (s.calm).ddrTrain = s.ddrTrain := rfl
@[simp] theorem State.calm_keptCrc (s : State) : (s.calm).keptCrc = s.keptCrc := rfl
@[simp] theorem State.calm_cpTry (s : State) : (s.calm).cpTry = s.cpTry := rfl
@[simp] theorem State.calm_ptp (s : State) : (s.calm).ptp = s.ptp := rfl
@[simp] theorem State.calm_ddrEpoch (s : State) : (s.calm).ddrEpoch = s.ddrEpoch := rfl
@[simp] theorem State.calm_txds (s : State) : (s.calm).txds = s.txds := rfl
@[simp] theorem State.calm_pats (s : State) : (s.calm).pats = s.pats := rfl
@[simp] theorem State.calm_gens (s : State) : (s.calm).gens = s.gens := rfl
@[simp] theorem State.calm_ports (s : State) : (s.calm).ports = s.ports := rfl
@[simp] theorem State.calm_hostTx (s : State) : (s.calm).hostTx = s.hostTx := rfl
@[simp] theorem State.calm_hostTaps (s : State) : (s.calm).hostTaps = s.hostTaps := rfl

/-! ## setRxd -/

@[simp] theorem State.setRxd_pending (s : State) (f d : Nat) (x : RxdX) : (s.setRxd f d x).pending = s.pending := rfl
@[simp] theorem State.setRxd_regs (s : State) (f d : Nat) (x : RxdX) : (s.setRxd f d x).regs = s.regs := rfl
@[simp] theorem State.setRxd_ctrs (s : State) (f d : Nat) (x : RxdX) : (s.setRxd f d x).ctrs = s.ctrs := rfl
@[simp] theorem State.setRxd_shadows (s : State) (f d : Nat) (x : RxdX) : (s.setRxd f d x).shadows = s.shadows := rfl
@[simp] theorem State.setRxd_snapGens (s : State) (f d : Nat) (x : RxdX) : (s.setRxd f d x).snapGens = s.snapGens := rfl
@[simp] theorem State.setRxd_bytes (s : State) (f d : Nat) (x : RxdX) : (s.setRxd f d x).bytes = s.bytes := rfl
@[simp] theorem State.setRxd_tags (s : State) (f d : Nat) (x : RxdX) : (s.setRxd f d x).tags = s.tags := rfl
@[simp] theorem State.setRxd_flash (s : State) (f d : Nat) (x : RxdX) : (s.setRxd f d x).flash = s.flash := rfl
@[simp] theorem State.setRxd_time (s : State) (f d : Nat) (x : RxdX) : (s.setRxd f d x).time = s.time := rfl
@[simp] theorem State.setRxd_mono (s : State) (f d : Nat) (x : RxdX) : (s.setRxd f d x).mono = s.mono := rfl
@[simp] theorem State.setRxd_freeCtr (s : State) (f d : Nat) (x : RxdX) : (s.setRxd f d x).freeCtr = s.freeCtr := rfl
@[simp] theorem State.setRxd_powered (s : State) (f d : Nat) (x : RxdX) : (s.setRxd f d x).powered = s.powered := rfl
@[simp] theorem State.setRxd_canary (s : State) (f d : Nat) (x : RxdX) : (s.setRxd f d x).canary = s.canary := rfl
@[simp] theorem State.setRxd_started (s : State) (f d : Nat) (x : RxdX) : (s.setRxd f d x).started = s.started := rfl
@[simp] theorem State.setRxd_sessions (s : State) (f d : Nat) (x : RxdX) : (s.setRxd f d x).sessions = s.sessions := rfl
@[simp] theorem State.setRxd_sessionCount (s : State) (f d : Nat) (x : RxdX) : (s.setRxd f d x).sessionCount = s.sessionCount := rfl
@[simp] theorem State.setRxd_ops (s : State) (f d : Nat) (x : RxdX) : (s.setRxd f d x).ops = s.ops := rfl
@[simp] theorem State.setRxd_handleCount (s : State) (f d : Nat) (x : RxdX) : (s.setRxd f d x).handleCount = s.handleCount := rfl
@[simp] theorem State.setRxd_tx (s : State) (f d : Nat) (x : RxdX) : (s.setRxd f d x).tx = s.tx := rfl
@[simp] theorem State.setRxd_accLog (s : State) (f d : Nat) (x : RxdX) : (s.setRxd f d x).accLog = s.accLog := rfl
@[simp] theorem State.setRxd_busStatus (s : State) (f d : Nat) (x : RxdX) : (s.setRxd f d x).busStatus = s.busStatus := rfl
@[simp] theorem State.setRxd_gap (s : State) (f d : Nat) (x : RxdX) : (s.setRxd f d x).gap = s.gap := rfl
@[simp] theorem State.setRxd_frozenLost (s : State) (f d : Nat) (x : RxdX) : (s.setRxd f d x).frozenLost = s.frozenLost := rfl
@[simp] theorem State.setRxd_archNext (s : State) (f d : Nat) (x : RxdX) : (s.setRxd f d x).archNext = s.archNext := rfl
@[simp] theorem State.setRxd_archive (s : State) (f d : Nat) (x : RxdX) : (s.setRxd f d x).archive = s.archive := rfl
@[simp] theorem State.setRxd_regions (s : State) (f d : Nat) (x : RxdX) : (s.setRxd f d x).regions = s.regions := rfl
@[simp] theorem State.setRxd_rowSeals (s : State) (f d : Nat) (x : RxdX) : (s.setRxd f d x).rowSeals = s.rowSeals := rfl
@[simp] theorem State.setRxd_scrubAt (s : State) (f d : Nat) (x : RxdX) : (s.setRxd f d x).scrubAt = s.scrubAt := rfl
@[simp] theorem State.setRxd_ddrScrub (s : State) (f d : Nat) (x : RxdX) : (s.setRxd f d x).ddrScrub = s.ddrScrub := rfl
@[simp] theorem State.setRxd_wasUe (s : State) (f d : Nat) (x : RxdX) : (s.setRxd f d x).wasUe = s.wasUe := rfl
@[simp] theorem State.setRxd_planCopyOk (s : State) (f d : Nat) (x : RxdX) : (s.setRxd f d x).planCopyOk = s.planCopyOk := rfl
@[simp] theorem State.setRxd_lanes (s : State) (f d : Nat) (x : RxdX) : (s.setRxd f d x).lanes = s.lanes := rfl
@[simp] theorem State.setRxd_calQ (s : State) (f d : Nat) (x : RxdX) : (s.setRxd f d x).calQ = s.calQ := rfl
@[simp] theorem State.setRxd_assayQ (s : State) (f d : Nat) (x : RxdX) : (s.setRxd f d x).assayQ = s.assayQ := rfl
@[simp] theorem State.setRxd_defer (s : State) (f d : Nat) (x : RxdX) : (s.setRxd f d x).defer = s.defer := rfl
@[simp] theorem State.setRxd_plan (s : State) (f d : Nat) (x : RxdX) : (s.setRxd f d x).plan = s.plan := rfl
@[simp] theorem State.setRxd_seams (s : State) (f d : Nat) (x : RxdX) : (s.setRxd f d x).seams = s.seams := rfl
@[simp] theorem State.setRxd_faces (s : State) (f d : Nat) (x : RxdX) : (s.setRxd f d x).faces = s.faces := rfl
@[simp] theorem State.setRxd_caps (s : State) (f d : Nat) (x : RxdX) : (s.setRxd f d x).caps = s.caps := rfl
@[simp] theorem State.setRxd_archEntries (s : State) (f d : Nat) (x : RxdX) : (s.setRxd f d x).archEntries = s.archEntries := rfl
@[simp] theorem State.setRxd_archId (s : State) (f d : Nat) (x : RxdX) : (s.setRxd f d x).archId = s.archId := rfl
@[simp] theorem State.setRxd_archMib (s : State) (f d : Nat) (x : RxdX) : (s.setRxd f d x).archMib = s.archMib := rfl
@[simp] theorem State.setRxd_streams (s : State) (f d : Nat) (x : RxdX) : (s.setRxd f d x).streams = s.streams := rfl
@[simp] theorem State.setRxd_streamCount (s : State) (f d : Nat) (x : RxdX) : (s.setRxd f d x).streamCount = s.streamCount := rfl
@[simp] theorem State.setRxd_claim (s : State) (f d : Nat) (x : RxdX) : (s.setRxd f d x).claim = s.claim := rfl
@[simp] theorem State.setRxd_rails (s : State) (f d : Nat) (x : RxdX) : (s.setRxd f d x).rails = s.rails := rfl
@[simp] theorem State.setRxd_refALost (s : State) (f d : Nat) (x : RxdX) : (s.setRxd f d x).refALost = s.refALost := rfl
@[simp] theorem State.setRxd_refBLost (s : State) (f d : Nat) (x : RxdX) : (s.setRxd f d x).refBLost = s.refBLost := rfl
@[simp] theorem State.setRxd_shapes (s : State) (f d : Nat) (x : RxdX) : (s.setRxd f d x).shapes = s.shapes := rfl
@[simp] theorem State.setRxd_otp (s : State) (f d : Nat) (x : RxdX) : (s.setRxd f d x).otp = s.otp := rfl
@[simp] theorem State.setRxd_burnQ (s : State) (f d : Nat) (x : RxdX) : (s.setRxd f d x).burnQ = s.burnQ := rfl
@[simp] theorem State.setRxd_volatileSeals (s : State) (f d : Nat) (x : RxdX) : (s.setRxd f d x).volatileSeals = s.volatileSeals := rfl
@[simp] theorem State.setRxd_episodes (s : State) (f d : Nat) (x : RxdX) : (s.setRxd f d x).episodes = s.episodes := rfl
@[simp] theorem State.setRxd_hsBuf (s : State) (f d : Nat) (x : RxdX) : (s.setRxd f d x).hsBuf = s.hsBuf := rfl
@[simp] theorem State.setRxd_hsCount (s : State) (f d : Nat) (x : RxdX) : (s.setRxd f d x).hsCount = s.hsCount := rfl
@[simp] theorem State.setRxd_hostPcs (s : State) (f d : Nat) (x : RxdX) : (s.setRxd f d x).hostPcs = s.hostPcs := rfl
@[simp] theorem State.setRxd_injects (s : State) (f d : Nat) (x : RxdX) : (s.setRxd f d x).injects = s.injects := rfl
@[simp] theorem State.setRxd_budgetShed (s : State) (f d : Nat) (x : RxdX) : (s.setRxd f d x).budgetShed = s.budgetShed := rfl
@[simp] theorem State.setRxd_throttleShed (s : State) (f d : Nat) (x : RxdX) : (s.setRxd f d x).throttleShed = s.throttleShed := rfl
@[simp] theorem State.setRxd_ticks (s : State) (f d : Nat) (x : RxdX) : (s.setRxd f d x).ticks = s.ticks := rfl
@[simp] theorem State.setRxd_chipTo (s : State) (f d : Nat) (x : RxdX) : (s.setRxd f d x).chipTo = s.chipTo := rfl
@[simp] theorem State.setRxd_setAge (s : State) (f d : Nat) (x : RxdX) : (s.setRxd f d x).setAge = s.setAge := rfl
@[simp] theorem State.setRxd_mirror (s : State) (f d : Nat) (x : RxdX) : (s.setRxd f d x).mirror = s.mirror := rfl
@[simp] theorem State.setRxd_madcAcc (s : State) (f d : Nat) (x : RxdX) : (s.setRxd f d x).madcAcc = s.madcAcc := rfl
@[simp] theorem State.setRxd_seqLen (s : State) (f d : Nat) (x : RxdX) : (s.setRxd f d x).seqLen = s.seqLen := rfl
@[simp] theorem State.setRxd_seqPending (s : State) (f d : Nat) (x : RxdX) : (s.setRxd f d x).seqPending = s.seqPending := rfl
@[simp] theorem State.setRxd_hewers (s : State) (f d : Nat) (x : RxdX) : (s.setRxd f d x).hewers = s.hewers := rfl
@[simp] theorem State.setRxd_actor (s : State) (f d : Nat) (x : RxdX) : (s.setRxd f d x).actor = s.actor := rfl
@[simp] theorem State.setRxd_booting (s : State) (f d : Nat) (x : RxdX) : (s.setRxd f d x).booting = s.booting := rfl
@[simp] theorem State.setRxd_checked (s : State) (f d : Nat) (x : RxdX) : (s.setRxd f d x).checked = s.checked := rfl
@[simp] theorem State.setRxd_bootTries (s : State) (f d : Nat) (x : RxdX) : (s.setRxd f d x).bootTries = s.bootTries := rfl
@[simp] theorem State.setRxd_ddrLayout (s : State) (f d : Nat) (x : RxdX) : (s.setRxd f d x).ddrLayout = s.ddrLayout := rfl
@[simp] theorem State.setRxd_d2d (s : State) (f d : Nat) (x : RxdX) : (s.setRxd f d x).d2d = s.d2d := rfl
@[simp] theorem State.setRxd_ddrTrain (s : State) (f d : Nat) (x : RxdX) : (s.setRxd f d x).ddrTrain = s.ddrTrain := rfl
@[simp] theorem State.setRxd_keptCrc (s : State) (f d : Nat) (x : RxdX) : (s.setRxd f d x).keptCrc = s.keptCrc := rfl
@[simp] theorem State.setRxd_cpTry (s : State) (f d : Nat) (x : RxdX) : (s.setRxd f d x).cpTry = s.cpTry := rfl
@[simp] theorem State.setRxd_ptp (s : State) (f d : Nat) (x : RxdX) : (s.setRxd f d x).ptp = s.ptp := rfl
@[simp] theorem State.setRxd_ddrEpoch (s : State) (f d : Nat) (x : RxdX) : (s.setRxd f d x).ddrEpoch = s.ddrEpoch := rfl
@[simp] theorem State.setRxd_txds (s : State) (f d : Nat) (x : RxdX) : (s.setRxd f d x).txds = s.txds := rfl
@[simp] theorem State.setRxd_pats (s : State) (f d : Nat) (x : RxdX) : (s.setRxd f d x).pats = s.pats := rfl
@[simp] theorem State.setRxd_gens (s : State) (f d : Nat) (x : RxdX) : (s.setRxd f d x).gens = s.gens := rfl
@[simp] theorem State.setRxd_ports (s : State) (f d : Nat) (x : RxdX) : (s.setRxd f d x).ports = s.ports := rfl
@[simp] theorem State.setRxd_hostTx (s : State) (f d : Nat) (x : RxdX) : (s.setRxd f d x).hostTx = s.hostTx := rfl
@[simp] theorem State.setRxd_hostTaps (s : State) (f d : Nat) (x : RxdX) : (s.setRxd f d x).hostTaps = s.hostTaps := rfl

/-! ## setLane -/

@[simp] theorem State.setLane_pending (s : State) (f p : Nat) (x : LaneX) : (s.setLane f p x).pending = s.pending := rfl
@[simp] theorem State.setLane_regs (s : State) (f p : Nat) (x : LaneX) : (s.setLane f p x).regs = s.regs := rfl
@[simp] theorem State.setLane_ctrs (s : State) (f p : Nat) (x : LaneX) : (s.setLane f p x).ctrs = s.ctrs := rfl
@[simp] theorem State.setLane_shadows (s : State) (f p : Nat) (x : LaneX) : (s.setLane f p x).shadows = s.shadows := rfl
@[simp] theorem State.setLane_snapGens (s : State) (f p : Nat) (x : LaneX) : (s.setLane f p x).snapGens = s.snapGens := rfl
@[simp] theorem State.setLane_bytes (s : State) (f p : Nat) (x : LaneX) : (s.setLane f p x).bytes = s.bytes := rfl
@[simp] theorem State.setLane_tags (s : State) (f p : Nat) (x : LaneX) : (s.setLane f p x).tags = s.tags := rfl
@[simp] theorem State.setLane_flash (s : State) (f p : Nat) (x : LaneX) : (s.setLane f p x).flash = s.flash := rfl
@[simp] theorem State.setLane_time (s : State) (f p : Nat) (x : LaneX) : (s.setLane f p x).time = s.time := rfl
@[simp] theorem State.setLane_mono (s : State) (f p : Nat) (x : LaneX) : (s.setLane f p x).mono = s.mono := rfl
@[simp] theorem State.setLane_freeCtr (s : State) (f p : Nat) (x : LaneX) : (s.setLane f p x).freeCtr = s.freeCtr := rfl
@[simp] theorem State.setLane_powered (s : State) (f p : Nat) (x : LaneX) : (s.setLane f p x).powered = s.powered := rfl
@[simp] theorem State.setLane_canary (s : State) (f p : Nat) (x : LaneX) : (s.setLane f p x).canary = s.canary := rfl
@[simp] theorem State.setLane_started (s : State) (f p : Nat) (x : LaneX) : (s.setLane f p x).started = s.started := rfl
@[simp] theorem State.setLane_sessions (s : State) (f p : Nat) (x : LaneX) : (s.setLane f p x).sessions = s.sessions := rfl
@[simp] theorem State.setLane_sessionCount (s : State) (f p : Nat) (x : LaneX) : (s.setLane f p x).sessionCount = s.sessionCount := rfl
@[simp] theorem State.setLane_ops (s : State) (f p : Nat) (x : LaneX) : (s.setLane f p x).ops = s.ops := rfl
@[simp] theorem State.setLane_handleCount (s : State) (f p : Nat) (x : LaneX) : (s.setLane f p x).handleCount = s.handleCount := rfl
@[simp] theorem State.setLane_tx (s : State) (f p : Nat) (x : LaneX) : (s.setLane f p x).tx = s.tx := rfl
@[simp] theorem State.setLane_accLog (s : State) (f p : Nat) (x : LaneX) : (s.setLane f p x).accLog = s.accLog := rfl
@[simp] theorem State.setLane_busStatus (s : State) (f p : Nat) (x : LaneX) : (s.setLane f p x).busStatus = s.busStatus := rfl
@[simp] theorem State.setLane_gap (s : State) (f p : Nat) (x : LaneX) : (s.setLane f p x).gap = s.gap := rfl
@[simp] theorem State.setLane_frozenLost (s : State) (f p : Nat) (x : LaneX) : (s.setLane f p x).frozenLost = s.frozenLost := rfl
@[simp] theorem State.setLane_archNext (s : State) (f p : Nat) (x : LaneX) : (s.setLane f p x).archNext = s.archNext := rfl
@[simp] theorem State.setLane_archive (s : State) (f p : Nat) (x : LaneX) : (s.setLane f p x).archive = s.archive := rfl
@[simp] theorem State.setLane_regions (s : State) (f p : Nat) (x : LaneX) : (s.setLane f p x).regions = s.regions := rfl
@[simp] theorem State.setLane_rowSeals (s : State) (f p : Nat) (x : LaneX) : (s.setLane f p x).rowSeals = s.rowSeals := rfl
@[simp] theorem State.setLane_scrubAt (s : State) (f p : Nat) (x : LaneX) : (s.setLane f p x).scrubAt = s.scrubAt := rfl
@[simp] theorem State.setLane_ddrScrub (s : State) (f p : Nat) (x : LaneX) : (s.setLane f p x).ddrScrub = s.ddrScrub := rfl
@[simp] theorem State.setLane_wasUe (s : State) (f p : Nat) (x : LaneX) : (s.setLane f p x).wasUe = s.wasUe := rfl
@[simp] theorem State.setLane_rxds (s : State) (f p : Nat) (x : LaneX) : (s.setLane f p x).rxds = s.rxds := rfl
@[simp] theorem State.setLane_planCopyOk (s : State) (f p : Nat) (x : LaneX) : (s.setLane f p x).planCopyOk = s.planCopyOk := rfl
@[simp] theorem State.setLane_calQ (s : State) (f p : Nat) (x : LaneX) : (s.setLane f p x).calQ = s.calQ := rfl
@[simp] theorem State.setLane_assayQ (s : State) (f p : Nat) (x : LaneX) : (s.setLane f p x).assayQ = s.assayQ := rfl
@[simp] theorem State.setLane_defer (s : State) (f p : Nat) (x : LaneX) : (s.setLane f p x).defer = s.defer := rfl
@[simp] theorem State.setLane_plan (s : State) (f p : Nat) (x : LaneX) : (s.setLane f p x).plan = s.plan := rfl
@[simp] theorem State.setLane_seams (s : State) (f p : Nat) (x : LaneX) : (s.setLane f p x).seams = s.seams := rfl
@[simp] theorem State.setLane_faces (s : State) (f p : Nat) (x : LaneX) : (s.setLane f p x).faces = s.faces := rfl
@[simp] theorem State.setLane_caps (s : State) (f p : Nat) (x : LaneX) : (s.setLane f p x).caps = s.caps := rfl
@[simp] theorem State.setLane_archEntries (s : State) (f p : Nat) (x : LaneX) : (s.setLane f p x).archEntries = s.archEntries := rfl
@[simp] theorem State.setLane_archId (s : State) (f p : Nat) (x : LaneX) : (s.setLane f p x).archId = s.archId := rfl
@[simp] theorem State.setLane_archMib (s : State) (f p : Nat) (x : LaneX) : (s.setLane f p x).archMib = s.archMib := rfl
@[simp] theorem State.setLane_streams (s : State) (f p : Nat) (x : LaneX) : (s.setLane f p x).streams = s.streams := rfl
@[simp] theorem State.setLane_streamCount (s : State) (f p : Nat) (x : LaneX) : (s.setLane f p x).streamCount = s.streamCount := rfl
@[simp] theorem State.setLane_claim (s : State) (f p : Nat) (x : LaneX) : (s.setLane f p x).claim = s.claim := rfl
@[simp] theorem State.setLane_rails (s : State) (f p : Nat) (x : LaneX) : (s.setLane f p x).rails = s.rails := rfl
@[simp] theorem State.setLane_refALost (s : State) (f p : Nat) (x : LaneX) : (s.setLane f p x).refALost = s.refALost := rfl
@[simp] theorem State.setLane_refBLost (s : State) (f p : Nat) (x : LaneX) : (s.setLane f p x).refBLost = s.refBLost := rfl
@[simp] theorem State.setLane_shapes (s : State) (f p : Nat) (x : LaneX) : (s.setLane f p x).shapes = s.shapes := rfl
@[simp] theorem State.setLane_otp (s : State) (f p : Nat) (x : LaneX) : (s.setLane f p x).otp = s.otp := rfl
@[simp] theorem State.setLane_burnQ (s : State) (f p : Nat) (x : LaneX) : (s.setLane f p x).burnQ = s.burnQ := rfl
@[simp] theorem State.setLane_volatileSeals (s : State) (f p : Nat) (x : LaneX) : (s.setLane f p x).volatileSeals = s.volatileSeals := rfl
@[simp] theorem State.setLane_episodes (s : State) (f p : Nat) (x : LaneX) : (s.setLane f p x).episodes = s.episodes := rfl
@[simp] theorem State.setLane_hsBuf (s : State) (f p : Nat) (x : LaneX) : (s.setLane f p x).hsBuf = s.hsBuf := rfl
@[simp] theorem State.setLane_hsCount (s : State) (f p : Nat) (x : LaneX) : (s.setLane f p x).hsCount = s.hsCount := rfl
@[simp] theorem State.setLane_hostPcs (s : State) (f p : Nat) (x : LaneX) : (s.setLane f p x).hostPcs = s.hostPcs := rfl
@[simp] theorem State.setLane_injects (s : State) (f p : Nat) (x : LaneX) : (s.setLane f p x).injects = s.injects := rfl
@[simp] theorem State.setLane_budgetShed (s : State) (f p : Nat) (x : LaneX) : (s.setLane f p x).budgetShed = s.budgetShed := rfl
@[simp] theorem State.setLane_throttleShed (s : State) (f p : Nat) (x : LaneX) : (s.setLane f p x).throttleShed = s.throttleShed := rfl
@[simp] theorem State.setLane_ticks (s : State) (f p : Nat) (x : LaneX) : (s.setLane f p x).ticks = s.ticks := rfl
@[simp] theorem State.setLane_chipTo (s : State) (f p : Nat) (x : LaneX) : (s.setLane f p x).chipTo = s.chipTo := rfl
@[simp] theorem State.setLane_setAge (s : State) (f p : Nat) (x : LaneX) : (s.setLane f p x).setAge = s.setAge := rfl
@[simp] theorem State.setLane_mirror (s : State) (f p : Nat) (x : LaneX) : (s.setLane f p x).mirror = s.mirror := rfl
@[simp] theorem State.setLane_madcAcc (s : State) (f p : Nat) (x : LaneX) : (s.setLane f p x).madcAcc = s.madcAcc := rfl
@[simp] theorem State.setLane_seqLen (s : State) (f p : Nat) (x : LaneX) : (s.setLane f p x).seqLen = s.seqLen := rfl
@[simp] theorem State.setLane_seqPending (s : State) (f p : Nat) (x : LaneX) : (s.setLane f p x).seqPending = s.seqPending := rfl
@[simp] theorem State.setLane_hewers (s : State) (f p : Nat) (x : LaneX) : (s.setLane f p x).hewers = s.hewers := rfl
@[simp] theorem State.setLane_actor (s : State) (f p : Nat) (x : LaneX) : (s.setLane f p x).actor = s.actor := rfl
@[simp] theorem State.setLane_booting (s : State) (f p : Nat) (x : LaneX) : (s.setLane f p x).booting = s.booting := rfl
@[simp] theorem State.setLane_checked (s : State) (f p : Nat) (x : LaneX) : (s.setLane f p x).checked = s.checked := rfl
@[simp] theorem State.setLane_bootTries (s : State) (f p : Nat) (x : LaneX) : (s.setLane f p x).bootTries = s.bootTries := rfl
@[simp] theorem State.setLane_ddrLayout (s : State) (f p : Nat) (x : LaneX) : (s.setLane f p x).ddrLayout = s.ddrLayout := rfl
@[simp] theorem State.setLane_d2d (s : State) (f p : Nat) (x : LaneX) : (s.setLane f p x).d2d = s.d2d := rfl
@[simp] theorem State.setLane_ddrTrain (s : State) (f p : Nat) (x : LaneX) : (s.setLane f p x).ddrTrain = s.ddrTrain := rfl
@[simp] theorem State.setLane_keptCrc (s : State) (f p : Nat) (x : LaneX) : (s.setLane f p x).keptCrc = s.keptCrc := rfl
@[simp] theorem State.setLane_cpTry (s : State) (f p : Nat) (x : LaneX) : (s.setLane f p x).cpTry = s.cpTry := rfl
@[simp] theorem State.setLane_ptp (s : State) (f p : Nat) (x : LaneX) : (s.setLane f p x).ptp = s.ptp := rfl
@[simp] theorem State.setLane_ddrEpoch (s : State) (f p : Nat) (x : LaneX) : (s.setLane f p x).ddrEpoch = s.ddrEpoch := rfl
@[simp] theorem State.setLane_txds (s : State) (f p : Nat) (x : LaneX) : (s.setLane f p x).txds = s.txds := rfl
@[simp] theorem State.setLane_pats (s : State) (f p : Nat) (x : LaneX) : (s.setLane f p x).pats = s.pats := rfl
@[simp] theorem State.setLane_gens (s : State) (f p : Nat) (x : LaneX) : (s.setLane f p x).gens = s.gens := rfl
@[simp] theorem State.setLane_ports (s : State) (f p : Nat) (x : LaneX) : (s.setLane f p x).ports = s.ports := rfl
@[simp] theorem State.setLane_hostTx (s : State) (f p : Nat) (x : LaneX) : (s.setLane f p x).hostTx = s.hostTx := rfl
@[simp] theorem State.setLane_hostTaps (s : State) (f p : Nat) (x : LaneX) : (s.setLane f p x).hostTaps = s.hostTaps := rfl

/-! ## setSeam -/

@[simp] theorem State.setSeam_pending (s : State) (f p : Nat) (x : SeamX) : (s.setSeam f p x).pending = s.pending := rfl
@[simp] theorem State.setSeam_regs (s : State) (f p : Nat) (x : SeamX) : (s.setSeam f p x).regs = s.regs := rfl
@[simp] theorem State.setSeam_ctrs (s : State) (f p : Nat) (x : SeamX) : (s.setSeam f p x).ctrs = s.ctrs := rfl
@[simp] theorem State.setSeam_shadows (s : State) (f p : Nat) (x : SeamX) : (s.setSeam f p x).shadows = s.shadows := rfl
@[simp] theorem State.setSeam_snapGens (s : State) (f p : Nat) (x : SeamX) : (s.setSeam f p x).snapGens = s.snapGens := rfl
@[simp] theorem State.setSeam_bytes (s : State) (f p : Nat) (x : SeamX) : (s.setSeam f p x).bytes = s.bytes := rfl
@[simp] theorem State.setSeam_tags (s : State) (f p : Nat) (x : SeamX) : (s.setSeam f p x).tags = s.tags := rfl
@[simp] theorem State.setSeam_flash (s : State) (f p : Nat) (x : SeamX) : (s.setSeam f p x).flash = s.flash := rfl
@[simp] theorem State.setSeam_time (s : State) (f p : Nat) (x : SeamX) : (s.setSeam f p x).time = s.time := rfl
@[simp] theorem State.setSeam_mono (s : State) (f p : Nat) (x : SeamX) : (s.setSeam f p x).mono = s.mono := rfl
@[simp] theorem State.setSeam_freeCtr (s : State) (f p : Nat) (x : SeamX) : (s.setSeam f p x).freeCtr = s.freeCtr := rfl
@[simp] theorem State.setSeam_powered (s : State) (f p : Nat) (x : SeamX) : (s.setSeam f p x).powered = s.powered := rfl
@[simp] theorem State.setSeam_canary (s : State) (f p : Nat) (x : SeamX) : (s.setSeam f p x).canary = s.canary := rfl
@[simp] theorem State.setSeam_started (s : State) (f p : Nat) (x : SeamX) : (s.setSeam f p x).started = s.started := rfl
@[simp] theorem State.setSeam_sessions (s : State) (f p : Nat) (x : SeamX) : (s.setSeam f p x).sessions = s.sessions := rfl
@[simp] theorem State.setSeam_sessionCount (s : State) (f p : Nat) (x : SeamX) : (s.setSeam f p x).sessionCount = s.sessionCount := rfl
@[simp] theorem State.setSeam_ops (s : State) (f p : Nat) (x : SeamX) : (s.setSeam f p x).ops = s.ops := rfl
@[simp] theorem State.setSeam_handleCount (s : State) (f p : Nat) (x : SeamX) : (s.setSeam f p x).handleCount = s.handleCount := rfl
@[simp] theorem State.setSeam_tx (s : State) (f p : Nat) (x : SeamX) : (s.setSeam f p x).tx = s.tx := rfl
@[simp] theorem State.setSeam_accLog (s : State) (f p : Nat) (x : SeamX) : (s.setSeam f p x).accLog = s.accLog := rfl
@[simp] theorem State.setSeam_busStatus (s : State) (f p : Nat) (x : SeamX) : (s.setSeam f p x).busStatus = s.busStatus := rfl
@[simp] theorem State.setSeam_gap (s : State) (f p : Nat) (x : SeamX) : (s.setSeam f p x).gap = s.gap := rfl
@[simp] theorem State.setSeam_frozenLost (s : State) (f p : Nat) (x : SeamX) : (s.setSeam f p x).frozenLost = s.frozenLost := rfl
@[simp] theorem State.setSeam_archNext (s : State) (f p : Nat) (x : SeamX) : (s.setSeam f p x).archNext = s.archNext := rfl
@[simp] theorem State.setSeam_archive (s : State) (f p : Nat) (x : SeamX) : (s.setSeam f p x).archive = s.archive := rfl
@[simp] theorem State.setSeam_regions (s : State) (f p : Nat) (x : SeamX) : (s.setSeam f p x).regions = s.regions := rfl
@[simp] theorem State.setSeam_rowSeals (s : State) (f p : Nat) (x : SeamX) : (s.setSeam f p x).rowSeals = s.rowSeals := rfl
@[simp] theorem State.setSeam_scrubAt (s : State) (f p : Nat) (x : SeamX) : (s.setSeam f p x).scrubAt = s.scrubAt := rfl
@[simp] theorem State.setSeam_ddrScrub (s : State) (f p : Nat) (x : SeamX) : (s.setSeam f p x).ddrScrub = s.ddrScrub := rfl
@[simp] theorem State.setSeam_wasUe (s : State) (f p : Nat) (x : SeamX) : (s.setSeam f p x).wasUe = s.wasUe := rfl
@[simp] theorem State.setSeam_rxds (s : State) (f p : Nat) (x : SeamX) : (s.setSeam f p x).rxds = s.rxds := rfl
@[simp] theorem State.setSeam_planCopyOk (s : State) (f p : Nat) (x : SeamX) : (s.setSeam f p x).planCopyOk = s.planCopyOk := rfl
@[simp] theorem State.setSeam_lanes (s : State) (f p : Nat) (x : SeamX) : (s.setSeam f p x).lanes = s.lanes := rfl
@[simp] theorem State.setSeam_calQ (s : State) (f p : Nat) (x : SeamX) : (s.setSeam f p x).calQ = s.calQ := rfl
@[simp] theorem State.setSeam_assayQ (s : State) (f p : Nat) (x : SeamX) : (s.setSeam f p x).assayQ = s.assayQ := rfl
@[simp] theorem State.setSeam_defer (s : State) (f p : Nat) (x : SeamX) : (s.setSeam f p x).defer = s.defer := rfl
@[simp] theorem State.setSeam_plan (s : State) (f p : Nat) (x : SeamX) : (s.setSeam f p x).plan = s.plan := rfl
@[simp] theorem State.setSeam_faces (s : State) (f p : Nat) (x : SeamX) : (s.setSeam f p x).faces = s.faces := rfl
@[simp] theorem State.setSeam_caps (s : State) (f p : Nat) (x : SeamX) : (s.setSeam f p x).caps = s.caps := rfl
@[simp] theorem State.setSeam_archEntries (s : State) (f p : Nat) (x : SeamX) : (s.setSeam f p x).archEntries = s.archEntries := rfl
@[simp] theorem State.setSeam_archId (s : State) (f p : Nat) (x : SeamX) : (s.setSeam f p x).archId = s.archId := rfl
@[simp] theorem State.setSeam_archMib (s : State) (f p : Nat) (x : SeamX) : (s.setSeam f p x).archMib = s.archMib := rfl
@[simp] theorem State.setSeam_streams (s : State) (f p : Nat) (x : SeamX) : (s.setSeam f p x).streams = s.streams := rfl
@[simp] theorem State.setSeam_streamCount (s : State) (f p : Nat) (x : SeamX) : (s.setSeam f p x).streamCount = s.streamCount := rfl
@[simp] theorem State.setSeam_claim (s : State) (f p : Nat) (x : SeamX) : (s.setSeam f p x).claim = s.claim := rfl
@[simp] theorem State.setSeam_rails (s : State) (f p : Nat) (x : SeamX) : (s.setSeam f p x).rails = s.rails := rfl
@[simp] theorem State.setSeam_refALost (s : State) (f p : Nat) (x : SeamX) : (s.setSeam f p x).refALost = s.refALost := rfl
@[simp] theorem State.setSeam_refBLost (s : State) (f p : Nat) (x : SeamX) : (s.setSeam f p x).refBLost = s.refBLost := rfl
@[simp] theorem State.setSeam_shapes (s : State) (f p : Nat) (x : SeamX) : (s.setSeam f p x).shapes = s.shapes := rfl
@[simp] theorem State.setSeam_otp (s : State) (f p : Nat) (x : SeamX) : (s.setSeam f p x).otp = s.otp := rfl
@[simp] theorem State.setSeam_burnQ (s : State) (f p : Nat) (x : SeamX) : (s.setSeam f p x).burnQ = s.burnQ := rfl
@[simp] theorem State.setSeam_volatileSeals (s : State) (f p : Nat) (x : SeamX) : (s.setSeam f p x).volatileSeals = s.volatileSeals := rfl
@[simp] theorem State.setSeam_episodes (s : State) (f p : Nat) (x : SeamX) : (s.setSeam f p x).episodes = s.episodes := rfl
@[simp] theorem State.setSeam_hsBuf (s : State) (f p : Nat) (x : SeamX) : (s.setSeam f p x).hsBuf = s.hsBuf := rfl
@[simp] theorem State.setSeam_hsCount (s : State) (f p : Nat) (x : SeamX) : (s.setSeam f p x).hsCount = s.hsCount := rfl
@[simp] theorem State.setSeam_hostPcs (s : State) (f p : Nat) (x : SeamX) : (s.setSeam f p x).hostPcs = s.hostPcs := rfl
@[simp] theorem State.setSeam_injects (s : State) (f p : Nat) (x : SeamX) : (s.setSeam f p x).injects = s.injects := rfl
@[simp] theorem State.setSeam_budgetShed (s : State) (f p : Nat) (x : SeamX) : (s.setSeam f p x).budgetShed = s.budgetShed := rfl
@[simp] theorem State.setSeam_throttleShed (s : State) (f p : Nat) (x : SeamX) : (s.setSeam f p x).throttleShed = s.throttleShed := rfl
@[simp] theorem State.setSeam_ticks (s : State) (f p : Nat) (x : SeamX) : (s.setSeam f p x).ticks = s.ticks := rfl
@[simp] theorem State.setSeam_chipTo (s : State) (f p : Nat) (x : SeamX) : (s.setSeam f p x).chipTo = s.chipTo := rfl
@[simp] theorem State.setSeam_setAge (s : State) (f p : Nat) (x : SeamX) : (s.setSeam f p x).setAge = s.setAge := rfl
@[simp] theorem State.setSeam_mirror (s : State) (f p : Nat) (x : SeamX) : (s.setSeam f p x).mirror = s.mirror := rfl
@[simp] theorem State.setSeam_madcAcc (s : State) (f p : Nat) (x : SeamX) : (s.setSeam f p x).madcAcc = s.madcAcc := rfl
@[simp] theorem State.setSeam_seqLen (s : State) (f p : Nat) (x : SeamX) : (s.setSeam f p x).seqLen = s.seqLen := rfl
@[simp] theorem State.setSeam_seqPending (s : State) (f p : Nat) (x : SeamX) : (s.setSeam f p x).seqPending = s.seqPending := rfl
@[simp] theorem State.setSeam_hewers (s : State) (f p : Nat) (x : SeamX) : (s.setSeam f p x).hewers = s.hewers := rfl
@[simp] theorem State.setSeam_actor (s : State) (f p : Nat) (x : SeamX) : (s.setSeam f p x).actor = s.actor := rfl
@[simp] theorem State.setSeam_booting (s : State) (f p : Nat) (x : SeamX) : (s.setSeam f p x).booting = s.booting := rfl
@[simp] theorem State.setSeam_checked (s : State) (f p : Nat) (x : SeamX) : (s.setSeam f p x).checked = s.checked := rfl
@[simp] theorem State.setSeam_bootTries (s : State) (f p : Nat) (x : SeamX) : (s.setSeam f p x).bootTries = s.bootTries := rfl
@[simp] theorem State.setSeam_ddrLayout (s : State) (f p : Nat) (x : SeamX) : (s.setSeam f p x).ddrLayout = s.ddrLayout := rfl
@[simp] theorem State.setSeam_d2d (s : State) (f p : Nat) (x : SeamX) : (s.setSeam f p x).d2d = s.d2d := rfl
@[simp] theorem State.setSeam_ddrTrain (s : State) (f p : Nat) (x : SeamX) : (s.setSeam f p x).ddrTrain = s.ddrTrain := rfl
@[simp] theorem State.setSeam_keptCrc (s : State) (f p : Nat) (x : SeamX) : (s.setSeam f p x).keptCrc = s.keptCrc := rfl
@[simp] theorem State.setSeam_cpTry (s : State) (f p : Nat) (x : SeamX) : (s.setSeam f p x).cpTry = s.cpTry := rfl
@[simp] theorem State.setSeam_ptp (s : State) (f p : Nat) (x : SeamX) : (s.setSeam f p x).ptp = s.ptp := rfl
@[simp] theorem State.setSeam_ddrEpoch (s : State) (f p : Nat) (x : SeamX) : (s.setSeam f p x).ddrEpoch = s.ddrEpoch := rfl
@[simp] theorem State.setSeam_txds (s : State) (f p : Nat) (x : SeamX) : (s.setSeam f p x).txds = s.txds := rfl
@[simp] theorem State.setSeam_pats (s : State) (f p : Nat) (x : SeamX) : (s.setSeam f p x).pats = s.pats := rfl
@[simp] theorem State.setSeam_gens (s : State) (f p : Nat) (x : SeamX) : (s.setSeam f p x).gens = s.gens := rfl
@[simp] theorem State.setSeam_ports (s : State) (f p : Nat) (x : SeamX) : (s.setSeam f p x).ports = s.ports := rfl
@[simp] theorem State.setSeam_hostTx (s : State) (f p : Nat) (x : SeamX) : (s.setSeam f p x).hostTx = s.hostTx := rfl
@[simp] theorem State.setSeam_hostTaps (s : State) (f p : Nat) (x : SeamX) : (s.setSeam f p x).hostTaps = s.hostTaps := rfl

/-! ## setFace -/

@[simp] theorem State.setFace_pending (s : State) (f : Nat) (x : FaceX) : (s.setFace f x).pending = s.pending := rfl
@[simp] theorem State.setFace_regs (s : State) (f : Nat) (x : FaceX) : (s.setFace f x).regs = s.regs := rfl
@[simp] theorem State.setFace_ctrs (s : State) (f : Nat) (x : FaceX) : (s.setFace f x).ctrs = s.ctrs := rfl
@[simp] theorem State.setFace_shadows (s : State) (f : Nat) (x : FaceX) : (s.setFace f x).shadows = s.shadows := rfl
@[simp] theorem State.setFace_snapGens (s : State) (f : Nat) (x : FaceX) : (s.setFace f x).snapGens = s.snapGens := rfl
@[simp] theorem State.setFace_bytes (s : State) (f : Nat) (x : FaceX) : (s.setFace f x).bytes = s.bytes := rfl
@[simp] theorem State.setFace_tags (s : State) (f : Nat) (x : FaceX) : (s.setFace f x).tags = s.tags := rfl
@[simp] theorem State.setFace_flash (s : State) (f : Nat) (x : FaceX) : (s.setFace f x).flash = s.flash := rfl
@[simp] theorem State.setFace_time (s : State) (f : Nat) (x : FaceX) : (s.setFace f x).time = s.time := rfl
@[simp] theorem State.setFace_mono (s : State) (f : Nat) (x : FaceX) : (s.setFace f x).mono = s.mono := rfl
@[simp] theorem State.setFace_freeCtr (s : State) (f : Nat) (x : FaceX) : (s.setFace f x).freeCtr = s.freeCtr := rfl
@[simp] theorem State.setFace_powered (s : State) (f : Nat) (x : FaceX) : (s.setFace f x).powered = s.powered := rfl
@[simp] theorem State.setFace_canary (s : State) (f : Nat) (x : FaceX) : (s.setFace f x).canary = s.canary := rfl
@[simp] theorem State.setFace_started (s : State) (f : Nat) (x : FaceX) : (s.setFace f x).started = s.started := rfl
@[simp] theorem State.setFace_sessions (s : State) (f : Nat) (x : FaceX) : (s.setFace f x).sessions = s.sessions := rfl
@[simp] theorem State.setFace_sessionCount (s : State) (f : Nat) (x : FaceX) : (s.setFace f x).sessionCount = s.sessionCount := rfl
@[simp] theorem State.setFace_ops (s : State) (f : Nat) (x : FaceX) : (s.setFace f x).ops = s.ops := rfl
@[simp] theorem State.setFace_handleCount (s : State) (f : Nat) (x : FaceX) : (s.setFace f x).handleCount = s.handleCount := rfl
@[simp] theorem State.setFace_tx (s : State) (f : Nat) (x : FaceX) : (s.setFace f x).tx = s.tx := rfl
@[simp] theorem State.setFace_accLog (s : State) (f : Nat) (x : FaceX) : (s.setFace f x).accLog = s.accLog := rfl
@[simp] theorem State.setFace_busStatus (s : State) (f : Nat) (x : FaceX) : (s.setFace f x).busStatus = s.busStatus := rfl
@[simp] theorem State.setFace_gap (s : State) (f : Nat) (x : FaceX) : (s.setFace f x).gap = s.gap := rfl
@[simp] theorem State.setFace_frozenLost (s : State) (f : Nat) (x : FaceX) : (s.setFace f x).frozenLost = s.frozenLost := rfl
@[simp] theorem State.setFace_archNext (s : State) (f : Nat) (x : FaceX) : (s.setFace f x).archNext = s.archNext := rfl
@[simp] theorem State.setFace_archive (s : State) (f : Nat) (x : FaceX) : (s.setFace f x).archive = s.archive := rfl
@[simp] theorem State.setFace_regions (s : State) (f : Nat) (x : FaceX) : (s.setFace f x).regions = s.regions := rfl
@[simp] theorem State.setFace_rowSeals (s : State) (f : Nat) (x : FaceX) : (s.setFace f x).rowSeals = s.rowSeals := rfl
@[simp] theorem State.setFace_scrubAt (s : State) (f : Nat) (x : FaceX) : (s.setFace f x).scrubAt = s.scrubAt := rfl
@[simp] theorem State.setFace_ddrScrub (s : State) (f : Nat) (x : FaceX) : (s.setFace f x).ddrScrub = s.ddrScrub := rfl
@[simp] theorem State.setFace_wasUe (s : State) (f : Nat) (x : FaceX) : (s.setFace f x).wasUe = s.wasUe := rfl
@[simp] theorem State.setFace_rxds (s : State) (f : Nat) (x : FaceX) : (s.setFace f x).rxds = s.rxds := rfl
@[simp] theorem State.setFace_planCopyOk (s : State) (f : Nat) (x : FaceX) : (s.setFace f x).planCopyOk = s.planCopyOk := rfl
@[simp] theorem State.setFace_lanes (s : State) (f : Nat) (x : FaceX) : (s.setFace f x).lanes = s.lanes := rfl
@[simp] theorem State.setFace_calQ (s : State) (f : Nat) (x : FaceX) : (s.setFace f x).calQ = s.calQ := rfl
@[simp] theorem State.setFace_assayQ (s : State) (f : Nat) (x : FaceX) : (s.setFace f x).assayQ = s.assayQ := rfl
@[simp] theorem State.setFace_defer (s : State) (f : Nat) (x : FaceX) : (s.setFace f x).defer = s.defer := rfl
@[simp] theorem State.setFace_plan (s : State) (f : Nat) (x : FaceX) : (s.setFace f x).plan = s.plan := rfl
@[simp] theorem State.setFace_seams (s : State) (f : Nat) (x : FaceX) : (s.setFace f x).seams = s.seams := rfl
@[simp] theorem State.setFace_caps (s : State) (f : Nat) (x : FaceX) : (s.setFace f x).caps = s.caps := rfl
@[simp] theorem State.setFace_archEntries (s : State) (f : Nat) (x : FaceX) : (s.setFace f x).archEntries = s.archEntries := rfl
@[simp] theorem State.setFace_archId (s : State) (f : Nat) (x : FaceX) : (s.setFace f x).archId = s.archId := rfl
@[simp] theorem State.setFace_archMib (s : State) (f : Nat) (x : FaceX) : (s.setFace f x).archMib = s.archMib := rfl
@[simp] theorem State.setFace_streams (s : State) (f : Nat) (x : FaceX) : (s.setFace f x).streams = s.streams := rfl
@[simp] theorem State.setFace_streamCount (s : State) (f : Nat) (x : FaceX) : (s.setFace f x).streamCount = s.streamCount := rfl
@[simp] theorem State.setFace_claim (s : State) (f : Nat) (x : FaceX) : (s.setFace f x).claim = s.claim := rfl
@[simp] theorem State.setFace_rails (s : State) (f : Nat) (x : FaceX) : (s.setFace f x).rails = s.rails := rfl
@[simp] theorem State.setFace_refALost (s : State) (f : Nat) (x : FaceX) : (s.setFace f x).refALost = s.refALost := rfl
@[simp] theorem State.setFace_refBLost (s : State) (f : Nat) (x : FaceX) : (s.setFace f x).refBLost = s.refBLost := rfl
@[simp] theorem State.setFace_shapes (s : State) (f : Nat) (x : FaceX) : (s.setFace f x).shapes = s.shapes := rfl
@[simp] theorem State.setFace_otp (s : State) (f : Nat) (x : FaceX) : (s.setFace f x).otp = s.otp := rfl
@[simp] theorem State.setFace_burnQ (s : State) (f : Nat) (x : FaceX) : (s.setFace f x).burnQ = s.burnQ := rfl
@[simp] theorem State.setFace_volatileSeals (s : State) (f : Nat) (x : FaceX) : (s.setFace f x).volatileSeals = s.volatileSeals := rfl
@[simp] theorem State.setFace_episodes (s : State) (f : Nat) (x : FaceX) : (s.setFace f x).episodes = s.episodes := rfl
@[simp] theorem State.setFace_hsBuf (s : State) (f : Nat) (x : FaceX) : (s.setFace f x).hsBuf = s.hsBuf := rfl
@[simp] theorem State.setFace_hsCount (s : State) (f : Nat) (x : FaceX) : (s.setFace f x).hsCount = s.hsCount := rfl
@[simp] theorem State.setFace_hostPcs (s : State) (f : Nat) (x : FaceX) : (s.setFace f x).hostPcs = s.hostPcs := rfl
@[simp] theorem State.setFace_injects (s : State) (f : Nat) (x : FaceX) : (s.setFace f x).injects = s.injects := rfl
@[simp] theorem State.setFace_budgetShed (s : State) (f : Nat) (x : FaceX) : (s.setFace f x).budgetShed = s.budgetShed := rfl
@[simp] theorem State.setFace_throttleShed (s : State) (f : Nat) (x : FaceX) : (s.setFace f x).throttleShed = s.throttleShed := rfl
@[simp] theorem State.setFace_ticks (s : State) (f : Nat) (x : FaceX) : (s.setFace f x).ticks = s.ticks := rfl
@[simp] theorem State.setFace_chipTo (s : State) (f : Nat) (x : FaceX) : (s.setFace f x).chipTo = s.chipTo := rfl
@[simp] theorem State.setFace_setAge (s : State) (f : Nat) (x : FaceX) : (s.setFace f x).setAge = s.setAge := rfl
@[simp] theorem State.setFace_mirror (s : State) (f : Nat) (x : FaceX) : (s.setFace f x).mirror = s.mirror := rfl
@[simp] theorem State.setFace_madcAcc (s : State) (f : Nat) (x : FaceX) : (s.setFace f x).madcAcc = s.madcAcc := rfl
@[simp] theorem State.setFace_seqLen (s : State) (f : Nat) (x : FaceX) : (s.setFace f x).seqLen = s.seqLen := rfl
@[simp] theorem State.setFace_seqPending (s : State) (f : Nat) (x : FaceX) : (s.setFace f x).seqPending = s.seqPending := rfl
@[simp] theorem State.setFace_hewers (s : State) (f : Nat) (x : FaceX) : (s.setFace f x).hewers = s.hewers := rfl
@[simp] theorem State.setFace_actor (s : State) (f : Nat) (x : FaceX) : (s.setFace f x).actor = s.actor := rfl
@[simp] theorem State.setFace_booting (s : State) (f : Nat) (x : FaceX) : (s.setFace f x).booting = s.booting := rfl
@[simp] theorem State.setFace_checked (s : State) (f : Nat) (x : FaceX) : (s.setFace f x).checked = s.checked := rfl
@[simp] theorem State.setFace_bootTries (s : State) (f : Nat) (x : FaceX) : (s.setFace f x).bootTries = s.bootTries := rfl
@[simp] theorem State.setFace_ddrLayout (s : State) (f : Nat) (x : FaceX) : (s.setFace f x).ddrLayout = s.ddrLayout := rfl
@[simp] theorem State.setFace_d2d (s : State) (f : Nat) (x : FaceX) : (s.setFace f x).d2d = s.d2d := rfl
@[simp] theorem State.setFace_ddrTrain (s : State) (f : Nat) (x : FaceX) : (s.setFace f x).ddrTrain = s.ddrTrain := rfl
@[simp] theorem State.setFace_keptCrc (s : State) (f : Nat) (x : FaceX) : (s.setFace f x).keptCrc = s.keptCrc := rfl
@[simp] theorem State.setFace_cpTry (s : State) (f : Nat) (x : FaceX) : (s.setFace f x).cpTry = s.cpTry := rfl
@[simp] theorem State.setFace_ptp (s : State) (f : Nat) (x : FaceX) : (s.setFace f x).ptp = s.ptp := rfl
@[simp] theorem State.setFace_ddrEpoch (s : State) (f : Nat) (x : FaceX) : (s.setFace f x).ddrEpoch = s.ddrEpoch := rfl
@[simp] theorem State.setFace_txds (s : State) (f : Nat) (x : FaceX) : (s.setFace f x).txds = s.txds := rfl
@[simp] theorem State.setFace_pats (s : State) (f : Nat) (x : FaceX) : (s.setFace f x).pats = s.pats := rfl
@[simp] theorem State.setFace_gens (s : State) (f : Nat) (x : FaceX) : (s.setFace f x).gens = s.gens := rfl
@[simp] theorem State.setFace_ports (s : State) (f : Nat) (x : FaceX) : (s.setFace f x).ports = s.ports := rfl
@[simp] theorem State.setFace_hostTx (s : State) (f : Nat) (x : FaceX) : (s.setFace f x).hostTx = s.hostTx := rfl
@[simp] theorem State.setFace_hostTaps (s : State) (f : Nat) (x : FaceX) : (s.setFace f x).hostTaps = s.hostTaps := rfl

/-! ## setHw -/

@[simp] theorem State.setHw_pending (s : State) (n : Nat) (x : HewerX) : (s.setHw n x).pending = s.pending := rfl
@[simp] theorem State.setHw_regs (s : State) (n : Nat) (x : HewerX) : (s.setHw n x).regs = s.regs := rfl
@[simp] theorem State.setHw_ctrs (s : State) (n : Nat) (x : HewerX) : (s.setHw n x).ctrs = s.ctrs := rfl
@[simp] theorem State.setHw_shadows (s : State) (n : Nat) (x : HewerX) : (s.setHw n x).shadows = s.shadows := rfl
@[simp] theorem State.setHw_snapGens (s : State) (n : Nat) (x : HewerX) : (s.setHw n x).snapGens = s.snapGens := rfl
@[simp] theorem State.setHw_bytes (s : State) (n : Nat) (x : HewerX) : (s.setHw n x).bytes = s.bytes := rfl
@[simp] theorem State.setHw_tags (s : State) (n : Nat) (x : HewerX) : (s.setHw n x).tags = s.tags := rfl
@[simp] theorem State.setHw_flash (s : State) (n : Nat) (x : HewerX) : (s.setHw n x).flash = s.flash := rfl
@[simp] theorem State.setHw_time (s : State) (n : Nat) (x : HewerX) : (s.setHw n x).time = s.time := rfl
@[simp] theorem State.setHw_mono (s : State) (n : Nat) (x : HewerX) : (s.setHw n x).mono = s.mono := rfl
@[simp] theorem State.setHw_freeCtr (s : State) (n : Nat) (x : HewerX) : (s.setHw n x).freeCtr = s.freeCtr := rfl
@[simp] theorem State.setHw_powered (s : State) (n : Nat) (x : HewerX) : (s.setHw n x).powered = s.powered := rfl
@[simp] theorem State.setHw_canary (s : State) (n : Nat) (x : HewerX) : (s.setHw n x).canary = s.canary := rfl
@[simp] theorem State.setHw_started (s : State) (n : Nat) (x : HewerX) : (s.setHw n x).started = s.started := rfl
@[simp] theorem State.setHw_sessions (s : State) (n : Nat) (x : HewerX) : (s.setHw n x).sessions = s.sessions := rfl
@[simp] theorem State.setHw_sessionCount (s : State) (n : Nat) (x : HewerX) : (s.setHw n x).sessionCount = s.sessionCount := rfl
@[simp] theorem State.setHw_ops (s : State) (n : Nat) (x : HewerX) : (s.setHw n x).ops = s.ops := rfl
@[simp] theorem State.setHw_handleCount (s : State) (n : Nat) (x : HewerX) : (s.setHw n x).handleCount = s.handleCount := rfl
@[simp] theorem State.setHw_tx (s : State) (n : Nat) (x : HewerX) : (s.setHw n x).tx = s.tx := rfl
@[simp] theorem State.setHw_accLog (s : State) (n : Nat) (x : HewerX) : (s.setHw n x).accLog = s.accLog := rfl
@[simp] theorem State.setHw_busStatus (s : State) (n : Nat) (x : HewerX) : (s.setHw n x).busStatus = s.busStatus := rfl
@[simp] theorem State.setHw_gap (s : State) (n : Nat) (x : HewerX) : (s.setHw n x).gap = s.gap := rfl
@[simp] theorem State.setHw_frozenLost (s : State) (n : Nat) (x : HewerX) : (s.setHw n x).frozenLost = s.frozenLost := rfl
@[simp] theorem State.setHw_archNext (s : State) (n : Nat) (x : HewerX) : (s.setHw n x).archNext = s.archNext := rfl
@[simp] theorem State.setHw_archive (s : State) (n : Nat) (x : HewerX) : (s.setHw n x).archive = s.archive := rfl
@[simp] theorem State.setHw_regions (s : State) (n : Nat) (x : HewerX) : (s.setHw n x).regions = s.regions := rfl
@[simp] theorem State.setHw_rowSeals (s : State) (n : Nat) (x : HewerX) : (s.setHw n x).rowSeals = s.rowSeals := rfl
@[simp] theorem State.setHw_scrubAt (s : State) (n : Nat) (x : HewerX) : (s.setHw n x).scrubAt = s.scrubAt := rfl
@[simp] theorem State.setHw_ddrScrub (s : State) (n : Nat) (x : HewerX) : (s.setHw n x).ddrScrub = s.ddrScrub := rfl
@[simp] theorem State.setHw_wasUe (s : State) (n : Nat) (x : HewerX) : (s.setHw n x).wasUe = s.wasUe := rfl
@[simp] theorem State.setHw_rxds (s : State) (n : Nat) (x : HewerX) : (s.setHw n x).rxds = s.rxds := rfl
@[simp] theorem State.setHw_planCopyOk (s : State) (n : Nat) (x : HewerX) : (s.setHw n x).planCopyOk = s.planCopyOk := rfl
@[simp] theorem State.setHw_lanes (s : State) (n : Nat) (x : HewerX) : (s.setHw n x).lanes = s.lanes := rfl
@[simp] theorem State.setHw_calQ (s : State) (n : Nat) (x : HewerX) : (s.setHw n x).calQ = s.calQ := rfl
@[simp] theorem State.setHw_assayQ (s : State) (n : Nat) (x : HewerX) : (s.setHw n x).assayQ = s.assayQ := rfl
@[simp] theorem State.setHw_defer (s : State) (n : Nat) (x : HewerX) : (s.setHw n x).defer = s.defer := rfl
@[simp] theorem State.setHw_plan (s : State) (n : Nat) (x : HewerX) : (s.setHw n x).plan = s.plan := rfl
@[simp] theorem State.setHw_seams (s : State) (n : Nat) (x : HewerX) : (s.setHw n x).seams = s.seams := rfl
@[simp] theorem State.setHw_faces (s : State) (n : Nat) (x : HewerX) : (s.setHw n x).faces = s.faces := rfl
@[simp] theorem State.setHw_caps (s : State) (n : Nat) (x : HewerX) : (s.setHw n x).caps = s.caps := rfl
@[simp] theorem State.setHw_archEntries (s : State) (n : Nat) (x : HewerX) : (s.setHw n x).archEntries = s.archEntries := rfl
@[simp] theorem State.setHw_archId (s : State) (n : Nat) (x : HewerX) : (s.setHw n x).archId = s.archId := rfl
@[simp] theorem State.setHw_archMib (s : State) (n : Nat) (x : HewerX) : (s.setHw n x).archMib = s.archMib := rfl
@[simp] theorem State.setHw_streams (s : State) (n : Nat) (x : HewerX) : (s.setHw n x).streams = s.streams := rfl
@[simp] theorem State.setHw_streamCount (s : State) (n : Nat) (x : HewerX) : (s.setHw n x).streamCount = s.streamCount := rfl
@[simp] theorem State.setHw_claim (s : State) (n : Nat) (x : HewerX) : (s.setHw n x).claim = s.claim := rfl
@[simp] theorem State.setHw_rails (s : State) (n : Nat) (x : HewerX) : (s.setHw n x).rails = s.rails := rfl
@[simp] theorem State.setHw_refALost (s : State) (n : Nat) (x : HewerX) : (s.setHw n x).refALost = s.refALost := rfl
@[simp] theorem State.setHw_refBLost (s : State) (n : Nat) (x : HewerX) : (s.setHw n x).refBLost = s.refBLost := rfl
@[simp] theorem State.setHw_shapes (s : State) (n : Nat) (x : HewerX) : (s.setHw n x).shapes = s.shapes := rfl
@[simp] theorem State.setHw_otp (s : State) (n : Nat) (x : HewerX) : (s.setHw n x).otp = s.otp := rfl
@[simp] theorem State.setHw_burnQ (s : State) (n : Nat) (x : HewerX) : (s.setHw n x).burnQ = s.burnQ := rfl
@[simp] theorem State.setHw_volatileSeals (s : State) (n : Nat) (x : HewerX) : (s.setHw n x).volatileSeals = s.volatileSeals := rfl
@[simp] theorem State.setHw_episodes (s : State) (n : Nat) (x : HewerX) : (s.setHw n x).episodes = s.episodes := rfl
@[simp] theorem State.setHw_hsBuf (s : State) (n : Nat) (x : HewerX) : (s.setHw n x).hsBuf = s.hsBuf := rfl
@[simp] theorem State.setHw_hsCount (s : State) (n : Nat) (x : HewerX) : (s.setHw n x).hsCount = s.hsCount := rfl
@[simp] theorem State.setHw_hostPcs (s : State) (n : Nat) (x : HewerX) : (s.setHw n x).hostPcs = s.hostPcs := rfl
@[simp] theorem State.setHw_injects (s : State) (n : Nat) (x : HewerX) : (s.setHw n x).injects = s.injects := rfl
@[simp] theorem State.setHw_budgetShed (s : State) (n : Nat) (x : HewerX) : (s.setHw n x).budgetShed = s.budgetShed := rfl
@[simp] theorem State.setHw_throttleShed (s : State) (n : Nat) (x : HewerX) : (s.setHw n x).throttleShed = s.throttleShed := rfl
@[simp] theorem State.setHw_ticks (s : State) (n : Nat) (x : HewerX) : (s.setHw n x).ticks = s.ticks := rfl
@[simp] theorem State.setHw_chipTo (s : State) (n : Nat) (x : HewerX) : (s.setHw n x).chipTo = s.chipTo := rfl
@[simp] theorem State.setHw_setAge (s : State) (n : Nat) (x : HewerX) : (s.setHw n x).setAge = s.setAge := rfl
@[simp] theorem State.setHw_mirror (s : State) (n : Nat) (x : HewerX) : (s.setHw n x).mirror = s.mirror := rfl
@[simp] theorem State.setHw_madcAcc (s : State) (n : Nat) (x : HewerX) : (s.setHw n x).madcAcc = s.madcAcc := rfl
@[simp] theorem State.setHw_seqLen (s : State) (n : Nat) (x : HewerX) : (s.setHw n x).seqLen = s.seqLen := rfl
@[simp] theorem State.setHw_seqPending (s : State) (n : Nat) (x : HewerX) : (s.setHw n x).seqPending = s.seqPending := rfl
@[simp] theorem State.setHw_actor (s : State) (n : Nat) (x : HewerX) : (s.setHw n x).actor = s.actor := rfl
@[simp] theorem State.setHw_booting (s : State) (n : Nat) (x : HewerX) : (s.setHw n x).booting = s.booting := rfl
@[simp] theorem State.setHw_checked (s : State) (n : Nat) (x : HewerX) : (s.setHw n x).checked = s.checked := rfl
@[simp] theorem State.setHw_bootTries (s : State) (n : Nat) (x : HewerX) : (s.setHw n x).bootTries = s.bootTries := rfl
@[simp] theorem State.setHw_ddrLayout (s : State) (n : Nat) (x : HewerX) : (s.setHw n x).ddrLayout = s.ddrLayout := rfl
@[simp] theorem State.setHw_d2d (s : State) (n : Nat) (x : HewerX) : (s.setHw n x).d2d = s.d2d := rfl
@[simp] theorem State.setHw_ddrTrain (s : State) (n : Nat) (x : HewerX) : (s.setHw n x).ddrTrain = s.ddrTrain := rfl
@[simp] theorem State.setHw_keptCrc (s : State) (n : Nat) (x : HewerX) : (s.setHw n x).keptCrc = s.keptCrc := rfl
@[simp] theorem State.setHw_cpTry (s : State) (n : Nat) (x : HewerX) : (s.setHw n x).cpTry = s.cpTry := rfl
@[simp] theorem State.setHw_ptp (s : State) (n : Nat) (x : HewerX) : (s.setHw n x).ptp = s.ptp := rfl
@[simp] theorem State.setHw_ddrEpoch (s : State) (n : Nat) (x : HewerX) : (s.setHw n x).ddrEpoch = s.ddrEpoch := rfl
@[simp] theorem State.setHw_txds (s : State) (n : Nat) (x : HewerX) : (s.setHw n x).txds = s.txds := rfl
@[simp] theorem State.setHw_pats (s : State) (n : Nat) (x : HewerX) : (s.setHw n x).pats = s.pats := rfl
@[simp] theorem State.setHw_gens (s : State) (n : Nat) (x : HewerX) : (s.setHw n x).gens = s.gens := rfl
@[simp] theorem State.setHw_ports (s : State) (n : Nat) (x : HewerX) : (s.setHw n x).ports = s.ports := rfl
@[simp] theorem State.setHw_hostTx (s : State) (n : Nat) (x : HewerX) : (s.setHw n x).hostTx = s.hostTx := rfl
@[simp] theorem State.setHw_hostTaps (s : State) (n : Nat) (x : HewerX) : (s.setHw n x).hostTaps = s.hostTaps := rfl

/-! ## setRail -/

@[simp] theorem State.setRail_pending (s : State) (c : Nat) (x : RailX) : (s.setRail c x).pending = s.pending := rfl
@[simp] theorem State.setRail_regs (s : State) (c : Nat) (x : RailX) : (s.setRail c x).regs = s.regs := rfl
@[simp] theorem State.setRail_ctrs (s : State) (c : Nat) (x : RailX) : (s.setRail c x).ctrs = s.ctrs := rfl
@[simp] theorem State.setRail_shadows (s : State) (c : Nat) (x : RailX) : (s.setRail c x).shadows = s.shadows := rfl
@[simp] theorem State.setRail_snapGens (s : State) (c : Nat) (x : RailX) : (s.setRail c x).snapGens = s.snapGens := rfl
@[simp] theorem State.setRail_bytes (s : State) (c : Nat) (x : RailX) : (s.setRail c x).bytes = s.bytes := rfl
@[simp] theorem State.setRail_tags (s : State) (c : Nat) (x : RailX) : (s.setRail c x).tags = s.tags := rfl
@[simp] theorem State.setRail_flash (s : State) (c : Nat) (x : RailX) : (s.setRail c x).flash = s.flash := rfl
@[simp] theorem State.setRail_time (s : State) (c : Nat) (x : RailX) : (s.setRail c x).time = s.time := rfl
@[simp] theorem State.setRail_mono (s : State) (c : Nat) (x : RailX) : (s.setRail c x).mono = s.mono := rfl
@[simp] theorem State.setRail_freeCtr (s : State) (c : Nat) (x : RailX) : (s.setRail c x).freeCtr = s.freeCtr := rfl
@[simp] theorem State.setRail_powered (s : State) (c : Nat) (x : RailX) : (s.setRail c x).powered = s.powered := rfl
@[simp] theorem State.setRail_canary (s : State) (c : Nat) (x : RailX) : (s.setRail c x).canary = s.canary := rfl
@[simp] theorem State.setRail_started (s : State) (c : Nat) (x : RailX) : (s.setRail c x).started = s.started := rfl
@[simp] theorem State.setRail_sessions (s : State) (c : Nat) (x : RailX) : (s.setRail c x).sessions = s.sessions := rfl
@[simp] theorem State.setRail_sessionCount (s : State) (c : Nat) (x : RailX) : (s.setRail c x).sessionCount = s.sessionCount := rfl
@[simp] theorem State.setRail_ops (s : State) (c : Nat) (x : RailX) : (s.setRail c x).ops = s.ops := rfl
@[simp] theorem State.setRail_handleCount (s : State) (c : Nat) (x : RailX) : (s.setRail c x).handleCount = s.handleCount := rfl
@[simp] theorem State.setRail_tx (s : State) (c : Nat) (x : RailX) : (s.setRail c x).tx = s.tx := rfl
@[simp] theorem State.setRail_accLog (s : State) (c : Nat) (x : RailX) : (s.setRail c x).accLog = s.accLog := rfl
@[simp] theorem State.setRail_busStatus (s : State) (c : Nat) (x : RailX) : (s.setRail c x).busStatus = s.busStatus := rfl
@[simp] theorem State.setRail_gap (s : State) (c : Nat) (x : RailX) : (s.setRail c x).gap = s.gap := rfl
@[simp] theorem State.setRail_frozenLost (s : State) (c : Nat) (x : RailX) : (s.setRail c x).frozenLost = s.frozenLost := rfl
@[simp] theorem State.setRail_archNext (s : State) (c : Nat) (x : RailX) : (s.setRail c x).archNext = s.archNext := rfl
@[simp] theorem State.setRail_archive (s : State) (c : Nat) (x : RailX) : (s.setRail c x).archive = s.archive := rfl
@[simp] theorem State.setRail_regions (s : State) (c : Nat) (x : RailX) : (s.setRail c x).regions = s.regions := rfl
@[simp] theorem State.setRail_rowSeals (s : State) (c : Nat) (x : RailX) : (s.setRail c x).rowSeals = s.rowSeals := rfl
@[simp] theorem State.setRail_scrubAt (s : State) (c : Nat) (x : RailX) : (s.setRail c x).scrubAt = s.scrubAt := rfl
@[simp] theorem State.setRail_ddrScrub (s : State) (c : Nat) (x : RailX) : (s.setRail c x).ddrScrub = s.ddrScrub := rfl
@[simp] theorem State.setRail_wasUe (s : State) (c : Nat) (x : RailX) : (s.setRail c x).wasUe = s.wasUe := rfl
@[simp] theorem State.setRail_rxds (s : State) (c : Nat) (x : RailX) : (s.setRail c x).rxds = s.rxds := rfl
@[simp] theorem State.setRail_planCopyOk (s : State) (c : Nat) (x : RailX) : (s.setRail c x).planCopyOk = s.planCopyOk := rfl
@[simp] theorem State.setRail_lanes (s : State) (c : Nat) (x : RailX) : (s.setRail c x).lanes = s.lanes := rfl
@[simp] theorem State.setRail_calQ (s : State) (c : Nat) (x : RailX) : (s.setRail c x).calQ = s.calQ := rfl
@[simp] theorem State.setRail_assayQ (s : State) (c : Nat) (x : RailX) : (s.setRail c x).assayQ = s.assayQ := rfl
@[simp] theorem State.setRail_defer (s : State) (c : Nat) (x : RailX) : (s.setRail c x).defer = s.defer := rfl
@[simp] theorem State.setRail_plan (s : State) (c : Nat) (x : RailX) : (s.setRail c x).plan = s.plan := rfl
@[simp] theorem State.setRail_seams (s : State) (c : Nat) (x : RailX) : (s.setRail c x).seams = s.seams := rfl
@[simp] theorem State.setRail_faces (s : State) (c : Nat) (x : RailX) : (s.setRail c x).faces = s.faces := rfl
@[simp] theorem State.setRail_caps (s : State) (c : Nat) (x : RailX) : (s.setRail c x).caps = s.caps := rfl
@[simp] theorem State.setRail_archEntries (s : State) (c : Nat) (x : RailX) : (s.setRail c x).archEntries = s.archEntries := rfl
@[simp] theorem State.setRail_archId (s : State) (c : Nat) (x : RailX) : (s.setRail c x).archId = s.archId := rfl
@[simp] theorem State.setRail_archMib (s : State) (c : Nat) (x : RailX) : (s.setRail c x).archMib = s.archMib := rfl
@[simp] theorem State.setRail_streams (s : State) (c : Nat) (x : RailX) : (s.setRail c x).streams = s.streams := rfl
@[simp] theorem State.setRail_streamCount (s : State) (c : Nat) (x : RailX) : (s.setRail c x).streamCount = s.streamCount := rfl
@[simp] theorem State.setRail_claim (s : State) (c : Nat) (x : RailX) : (s.setRail c x).claim = s.claim := rfl
@[simp] theorem State.setRail_refALost (s : State) (c : Nat) (x : RailX) : (s.setRail c x).refALost = s.refALost := rfl
@[simp] theorem State.setRail_refBLost (s : State) (c : Nat) (x : RailX) : (s.setRail c x).refBLost = s.refBLost := rfl
@[simp] theorem State.setRail_shapes (s : State) (c : Nat) (x : RailX) : (s.setRail c x).shapes = s.shapes := rfl
@[simp] theorem State.setRail_otp (s : State) (c : Nat) (x : RailX) : (s.setRail c x).otp = s.otp := rfl
@[simp] theorem State.setRail_burnQ (s : State) (c : Nat) (x : RailX) : (s.setRail c x).burnQ = s.burnQ := rfl
@[simp] theorem State.setRail_volatileSeals (s : State) (c : Nat) (x : RailX) : (s.setRail c x).volatileSeals = s.volatileSeals := rfl
@[simp] theorem State.setRail_episodes (s : State) (c : Nat) (x : RailX) : (s.setRail c x).episodes = s.episodes := rfl
@[simp] theorem State.setRail_hsBuf (s : State) (c : Nat) (x : RailX) : (s.setRail c x).hsBuf = s.hsBuf := rfl
@[simp] theorem State.setRail_hsCount (s : State) (c : Nat) (x : RailX) : (s.setRail c x).hsCount = s.hsCount := rfl
@[simp] theorem State.setRail_hostPcs (s : State) (c : Nat) (x : RailX) : (s.setRail c x).hostPcs = s.hostPcs := rfl
@[simp] theorem State.setRail_injects (s : State) (c : Nat) (x : RailX) : (s.setRail c x).injects = s.injects := rfl
@[simp] theorem State.setRail_budgetShed (s : State) (c : Nat) (x : RailX) : (s.setRail c x).budgetShed = s.budgetShed := rfl
@[simp] theorem State.setRail_throttleShed (s : State) (c : Nat) (x : RailX) : (s.setRail c x).throttleShed = s.throttleShed := rfl
@[simp] theorem State.setRail_ticks (s : State) (c : Nat) (x : RailX) : (s.setRail c x).ticks = s.ticks := rfl
@[simp] theorem State.setRail_chipTo (s : State) (c : Nat) (x : RailX) : (s.setRail c x).chipTo = s.chipTo := rfl
@[simp] theorem State.setRail_setAge (s : State) (c : Nat) (x : RailX) : (s.setRail c x).setAge = s.setAge := rfl
@[simp] theorem State.setRail_mirror (s : State) (c : Nat) (x : RailX) : (s.setRail c x).mirror = s.mirror := rfl
@[simp] theorem State.setRail_madcAcc (s : State) (c : Nat) (x : RailX) : (s.setRail c x).madcAcc = s.madcAcc := rfl
@[simp] theorem State.setRail_seqLen (s : State) (c : Nat) (x : RailX) : (s.setRail c x).seqLen = s.seqLen := rfl
@[simp] theorem State.setRail_seqPending (s : State) (c : Nat) (x : RailX) : (s.setRail c x).seqPending = s.seqPending := rfl
@[simp] theorem State.setRail_hewers (s : State) (c : Nat) (x : RailX) : (s.setRail c x).hewers = s.hewers := rfl
@[simp] theorem State.setRail_actor (s : State) (c : Nat) (x : RailX) : (s.setRail c x).actor = s.actor := rfl
@[simp] theorem State.setRail_booting (s : State) (c : Nat) (x : RailX) : (s.setRail c x).booting = s.booting := rfl
@[simp] theorem State.setRail_checked (s : State) (c : Nat) (x : RailX) : (s.setRail c x).checked = s.checked := rfl
@[simp] theorem State.setRail_bootTries (s : State) (c : Nat) (x : RailX) : (s.setRail c x).bootTries = s.bootTries := rfl
@[simp] theorem State.setRail_ddrLayout (s : State) (c : Nat) (x : RailX) : (s.setRail c x).ddrLayout = s.ddrLayout := rfl
@[simp] theorem State.setRail_d2d (s : State) (c : Nat) (x : RailX) : (s.setRail c x).d2d = s.d2d := rfl
@[simp] theorem State.setRail_ddrTrain (s : State) (c : Nat) (x : RailX) : (s.setRail c x).ddrTrain = s.ddrTrain := rfl
@[simp] theorem State.setRail_keptCrc (s : State) (c : Nat) (x : RailX) : (s.setRail c x).keptCrc = s.keptCrc := rfl
@[simp] theorem State.setRail_cpTry (s : State) (c : Nat) (x : RailX) : (s.setRail c x).cpTry = s.cpTry := rfl
@[simp] theorem State.setRail_ptp (s : State) (c : Nat) (x : RailX) : (s.setRail c x).ptp = s.ptp := rfl
@[simp] theorem State.setRail_ddrEpoch (s : State) (c : Nat) (x : RailX) : (s.setRail c x).ddrEpoch = s.ddrEpoch := rfl
@[simp] theorem State.setRail_txds (s : State) (c : Nat) (x : RailX) : (s.setRail c x).txds = s.txds := rfl
@[simp] theorem State.setRail_pats (s : State) (c : Nat) (x : RailX) : (s.setRail c x).pats = s.pats := rfl
@[simp] theorem State.setRail_gens (s : State) (c : Nat) (x : RailX) : (s.setRail c x).gens = s.gens := rfl
@[simp] theorem State.setRail_ports (s : State) (c : Nat) (x : RailX) : (s.setRail c x).ports = s.ports := rfl
@[simp] theorem State.setRail_hostTx (s : State) (c : Nat) (x : RailX) : (s.setRail c x).hostTx = s.hostTx := rfl
@[simp] theorem State.setRail_hostTaps (s : State) (c : Nat) (x : RailX) : (s.setRail c x).hostTaps = s.hostTaps := rfl

/-! ## setShape -/

@[simp] theorem State.setShape_pending (s : State) (f d : Nat) (x : ShapeSet) : (s.setShape f d x).pending = s.pending := rfl
@[simp] theorem State.setShape_regs (s : State) (f d : Nat) (x : ShapeSet) : (s.setShape f d x).regs = s.regs := rfl
@[simp] theorem State.setShape_ctrs (s : State) (f d : Nat) (x : ShapeSet) : (s.setShape f d x).ctrs = s.ctrs := rfl
@[simp] theorem State.setShape_shadows (s : State) (f d : Nat) (x : ShapeSet) : (s.setShape f d x).shadows = s.shadows := rfl
@[simp] theorem State.setShape_snapGens (s : State) (f d : Nat) (x : ShapeSet) : (s.setShape f d x).snapGens = s.snapGens := rfl
@[simp] theorem State.setShape_bytes (s : State) (f d : Nat) (x : ShapeSet) : (s.setShape f d x).bytes = s.bytes := rfl
@[simp] theorem State.setShape_tags (s : State) (f d : Nat) (x : ShapeSet) : (s.setShape f d x).tags = s.tags := rfl
@[simp] theorem State.setShape_flash (s : State) (f d : Nat) (x : ShapeSet) : (s.setShape f d x).flash = s.flash := rfl
@[simp] theorem State.setShape_time (s : State) (f d : Nat) (x : ShapeSet) : (s.setShape f d x).time = s.time := rfl
@[simp] theorem State.setShape_mono (s : State) (f d : Nat) (x : ShapeSet) : (s.setShape f d x).mono = s.mono := rfl
@[simp] theorem State.setShape_freeCtr (s : State) (f d : Nat) (x : ShapeSet) : (s.setShape f d x).freeCtr = s.freeCtr := rfl
@[simp] theorem State.setShape_powered (s : State) (f d : Nat) (x : ShapeSet) : (s.setShape f d x).powered = s.powered := rfl
@[simp] theorem State.setShape_canary (s : State) (f d : Nat) (x : ShapeSet) : (s.setShape f d x).canary = s.canary := rfl
@[simp] theorem State.setShape_started (s : State) (f d : Nat) (x : ShapeSet) : (s.setShape f d x).started = s.started := rfl
@[simp] theorem State.setShape_sessions (s : State) (f d : Nat) (x : ShapeSet) : (s.setShape f d x).sessions = s.sessions := rfl
@[simp] theorem State.setShape_sessionCount (s : State) (f d : Nat) (x : ShapeSet) : (s.setShape f d x).sessionCount = s.sessionCount := rfl
@[simp] theorem State.setShape_ops (s : State) (f d : Nat) (x : ShapeSet) : (s.setShape f d x).ops = s.ops := rfl
@[simp] theorem State.setShape_handleCount (s : State) (f d : Nat) (x : ShapeSet) : (s.setShape f d x).handleCount = s.handleCount := rfl
@[simp] theorem State.setShape_tx (s : State) (f d : Nat) (x : ShapeSet) : (s.setShape f d x).tx = s.tx := rfl
@[simp] theorem State.setShape_accLog (s : State) (f d : Nat) (x : ShapeSet) : (s.setShape f d x).accLog = s.accLog := rfl
@[simp] theorem State.setShape_busStatus (s : State) (f d : Nat) (x : ShapeSet) : (s.setShape f d x).busStatus = s.busStatus := rfl
@[simp] theorem State.setShape_gap (s : State) (f d : Nat) (x : ShapeSet) : (s.setShape f d x).gap = s.gap := rfl
@[simp] theorem State.setShape_frozenLost (s : State) (f d : Nat) (x : ShapeSet) : (s.setShape f d x).frozenLost = s.frozenLost := rfl
@[simp] theorem State.setShape_archNext (s : State) (f d : Nat) (x : ShapeSet) : (s.setShape f d x).archNext = s.archNext := rfl
@[simp] theorem State.setShape_archive (s : State) (f d : Nat) (x : ShapeSet) : (s.setShape f d x).archive = s.archive := rfl
@[simp] theorem State.setShape_regions (s : State) (f d : Nat) (x : ShapeSet) : (s.setShape f d x).regions = s.regions := rfl
@[simp] theorem State.setShape_rowSeals (s : State) (f d : Nat) (x : ShapeSet) : (s.setShape f d x).rowSeals = s.rowSeals := rfl
@[simp] theorem State.setShape_scrubAt (s : State) (f d : Nat) (x : ShapeSet) : (s.setShape f d x).scrubAt = s.scrubAt := rfl
@[simp] theorem State.setShape_ddrScrub (s : State) (f d : Nat) (x : ShapeSet) : (s.setShape f d x).ddrScrub = s.ddrScrub := rfl
@[simp] theorem State.setShape_wasUe (s : State) (f d : Nat) (x : ShapeSet) : (s.setShape f d x).wasUe = s.wasUe := rfl
@[simp] theorem State.setShape_rxds (s : State) (f d : Nat) (x : ShapeSet) : (s.setShape f d x).rxds = s.rxds := rfl
@[simp] theorem State.setShape_planCopyOk (s : State) (f d : Nat) (x : ShapeSet) : (s.setShape f d x).planCopyOk = s.planCopyOk := rfl
@[simp] theorem State.setShape_lanes (s : State) (f d : Nat) (x : ShapeSet) : (s.setShape f d x).lanes = s.lanes := rfl
@[simp] theorem State.setShape_calQ (s : State) (f d : Nat) (x : ShapeSet) : (s.setShape f d x).calQ = s.calQ := rfl
@[simp] theorem State.setShape_assayQ (s : State) (f d : Nat) (x : ShapeSet) : (s.setShape f d x).assayQ = s.assayQ := rfl
@[simp] theorem State.setShape_defer (s : State) (f d : Nat) (x : ShapeSet) : (s.setShape f d x).defer = s.defer := rfl
@[simp] theorem State.setShape_plan (s : State) (f d : Nat) (x : ShapeSet) : (s.setShape f d x).plan = s.plan := rfl
@[simp] theorem State.setShape_seams (s : State) (f d : Nat) (x : ShapeSet) : (s.setShape f d x).seams = s.seams := rfl
@[simp] theorem State.setShape_faces (s : State) (f d : Nat) (x : ShapeSet) : (s.setShape f d x).faces = s.faces := rfl
@[simp] theorem State.setShape_caps (s : State) (f d : Nat) (x : ShapeSet) : (s.setShape f d x).caps = s.caps := rfl
@[simp] theorem State.setShape_archEntries (s : State) (f d : Nat) (x : ShapeSet) : (s.setShape f d x).archEntries = s.archEntries := rfl
@[simp] theorem State.setShape_archId (s : State) (f d : Nat) (x : ShapeSet) : (s.setShape f d x).archId = s.archId := rfl
@[simp] theorem State.setShape_archMib (s : State) (f d : Nat) (x : ShapeSet) : (s.setShape f d x).archMib = s.archMib := rfl
@[simp] theorem State.setShape_streams (s : State) (f d : Nat) (x : ShapeSet) : (s.setShape f d x).streams = s.streams := rfl
@[simp] theorem State.setShape_streamCount (s : State) (f d : Nat) (x : ShapeSet) : (s.setShape f d x).streamCount = s.streamCount := rfl
@[simp] theorem State.setShape_claim (s : State) (f d : Nat) (x : ShapeSet) : (s.setShape f d x).claim = s.claim := rfl
@[simp] theorem State.setShape_rails (s : State) (f d : Nat) (x : ShapeSet) : (s.setShape f d x).rails = s.rails := rfl
@[simp] theorem State.setShape_refALost (s : State) (f d : Nat) (x : ShapeSet) : (s.setShape f d x).refALost = s.refALost := rfl
@[simp] theorem State.setShape_refBLost (s : State) (f d : Nat) (x : ShapeSet) : (s.setShape f d x).refBLost = s.refBLost := rfl
@[simp] theorem State.setShape_otp (s : State) (f d : Nat) (x : ShapeSet) : (s.setShape f d x).otp = s.otp := rfl
@[simp] theorem State.setShape_burnQ (s : State) (f d : Nat) (x : ShapeSet) : (s.setShape f d x).burnQ = s.burnQ := rfl
@[simp] theorem State.setShape_volatileSeals (s : State) (f d : Nat) (x : ShapeSet) : (s.setShape f d x).volatileSeals = s.volatileSeals := rfl
@[simp] theorem State.setShape_episodes (s : State) (f d : Nat) (x : ShapeSet) : (s.setShape f d x).episodes = s.episodes := rfl
@[simp] theorem State.setShape_hsBuf (s : State) (f d : Nat) (x : ShapeSet) : (s.setShape f d x).hsBuf = s.hsBuf := rfl
@[simp] theorem State.setShape_hsCount (s : State) (f d : Nat) (x : ShapeSet) : (s.setShape f d x).hsCount = s.hsCount := rfl
@[simp] theorem State.setShape_hostPcs (s : State) (f d : Nat) (x : ShapeSet) : (s.setShape f d x).hostPcs = s.hostPcs := rfl
@[simp] theorem State.setShape_injects (s : State) (f d : Nat) (x : ShapeSet) : (s.setShape f d x).injects = s.injects := rfl
@[simp] theorem State.setShape_budgetShed (s : State) (f d : Nat) (x : ShapeSet) : (s.setShape f d x).budgetShed = s.budgetShed := rfl
@[simp] theorem State.setShape_throttleShed (s : State) (f d : Nat) (x : ShapeSet) : (s.setShape f d x).throttleShed = s.throttleShed := rfl
@[simp] theorem State.setShape_ticks (s : State) (f d : Nat) (x : ShapeSet) : (s.setShape f d x).ticks = s.ticks := rfl
@[simp] theorem State.setShape_chipTo (s : State) (f d : Nat) (x : ShapeSet) : (s.setShape f d x).chipTo = s.chipTo := rfl
@[simp] theorem State.setShape_setAge (s : State) (f d : Nat) (x : ShapeSet) : (s.setShape f d x).setAge = s.setAge := rfl
@[simp] theorem State.setShape_mirror (s : State) (f d : Nat) (x : ShapeSet) : (s.setShape f d x).mirror = s.mirror := rfl
@[simp] theorem State.setShape_madcAcc (s : State) (f d : Nat) (x : ShapeSet) : (s.setShape f d x).madcAcc = s.madcAcc := rfl
@[simp] theorem State.setShape_seqLen (s : State) (f d : Nat) (x : ShapeSet) : (s.setShape f d x).seqLen = s.seqLen := rfl
@[simp] theorem State.setShape_seqPending (s : State) (f d : Nat) (x : ShapeSet) : (s.setShape f d x).seqPending = s.seqPending := rfl
@[simp] theorem State.setShape_hewers (s : State) (f d : Nat) (x : ShapeSet) : (s.setShape f d x).hewers = s.hewers := rfl
@[simp] theorem State.setShape_actor (s : State) (f d : Nat) (x : ShapeSet) : (s.setShape f d x).actor = s.actor := rfl
@[simp] theorem State.setShape_booting (s : State) (f d : Nat) (x : ShapeSet) : (s.setShape f d x).booting = s.booting := rfl
@[simp] theorem State.setShape_checked (s : State) (f d : Nat) (x : ShapeSet) : (s.setShape f d x).checked = s.checked := rfl
@[simp] theorem State.setShape_bootTries (s : State) (f d : Nat) (x : ShapeSet) : (s.setShape f d x).bootTries = s.bootTries := rfl
@[simp] theorem State.setShape_ddrLayout (s : State) (f d : Nat) (x : ShapeSet) : (s.setShape f d x).ddrLayout = s.ddrLayout := rfl
@[simp] theorem State.setShape_d2d (s : State) (f d : Nat) (x : ShapeSet) : (s.setShape f d x).d2d = s.d2d := rfl
@[simp] theorem State.setShape_ddrTrain (s : State) (f d : Nat) (x : ShapeSet) : (s.setShape f d x).ddrTrain = s.ddrTrain := rfl
@[simp] theorem State.setShape_keptCrc (s : State) (f d : Nat) (x : ShapeSet) : (s.setShape f d x).keptCrc = s.keptCrc := rfl
@[simp] theorem State.setShape_cpTry (s : State) (f d : Nat) (x : ShapeSet) : (s.setShape f d x).cpTry = s.cpTry := rfl
@[simp] theorem State.setShape_ptp (s : State) (f d : Nat) (x : ShapeSet) : (s.setShape f d x).ptp = s.ptp := rfl
@[simp] theorem State.setShape_ddrEpoch (s : State) (f d : Nat) (x : ShapeSet) : (s.setShape f d x).ddrEpoch = s.ddrEpoch := rfl
@[simp] theorem State.setShape_txds (s : State) (f d : Nat) (x : ShapeSet) : (s.setShape f d x).txds = s.txds := rfl
@[simp] theorem State.setShape_pats (s : State) (f d : Nat) (x : ShapeSet) : (s.setShape f d x).pats = s.pats := rfl
@[simp] theorem State.setShape_gens (s : State) (f d : Nat) (x : ShapeSet) : (s.setShape f d x).gens = s.gens := rfl
@[simp] theorem State.setShape_ports (s : State) (f d : Nat) (x : ShapeSet) : (s.setShape f d x).ports = s.ports := rfl
@[simp] theorem State.setShape_hostTx (s : State) (f d : Nat) (x : ShapeSet) : (s.setShape f d x).hostTx = s.hostTx := rfl
@[simp] theorem State.setShape_hostTaps (s : State) (f d : Nat) (x : ShapeSet) : (s.setShape f d x).hostTaps = s.hostTaps := rfl

/-! ## setCap -/

@[simp] theorem State.setCap_pending (s : State) (c : Nat) (x : ObsRec) : (s.setCap c x).pending = s.pending := rfl
@[simp] theorem State.setCap_regs (s : State) (c : Nat) (x : ObsRec) : (s.setCap c x).regs = s.regs := rfl
@[simp] theorem State.setCap_ctrs (s : State) (c : Nat) (x : ObsRec) : (s.setCap c x).ctrs = s.ctrs := rfl
@[simp] theorem State.setCap_shadows (s : State) (c : Nat) (x : ObsRec) : (s.setCap c x).shadows = s.shadows := rfl
@[simp] theorem State.setCap_snapGens (s : State) (c : Nat) (x : ObsRec) : (s.setCap c x).snapGens = s.snapGens := rfl
@[simp] theorem State.setCap_bytes (s : State) (c : Nat) (x : ObsRec) : (s.setCap c x).bytes = s.bytes := rfl
@[simp] theorem State.setCap_tags (s : State) (c : Nat) (x : ObsRec) : (s.setCap c x).tags = s.tags := rfl
@[simp] theorem State.setCap_flash (s : State) (c : Nat) (x : ObsRec) : (s.setCap c x).flash = s.flash := rfl
@[simp] theorem State.setCap_time (s : State) (c : Nat) (x : ObsRec) : (s.setCap c x).time = s.time := rfl
@[simp] theorem State.setCap_mono (s : State) (c : Nat) (x : ObsRec) : (s.setCap c x).mono = s.mono := rfl
@[simp] theorem State.setCap_freeCtr (s : State) (c : Nat) (x : ObsRec) : (s.setCap c x).freeCtr = s.freeCtr := rfl
@[simp] theorem State.setCap_powered (s : State) (c : Nat) (x : ObsRec) : (s.setCap c x).powered = s.powered := rfl
@[simp] theorem State.setCap_canary (s : State) (c : Nat) (x : ObsRec) : (s.setCap c x).canary = s.canary := rfl
@[simp] theorem State.setCap_started (s : State) (c : Nat) (x : ObsRec) : (s.setCap c x).started = s.started := rfl
@[simp] theorem State.setCap_sessions (s : State) (c : Nat) (x : ObsRec) : (s.setCap c x).sessions = s.sessions := rfl
@[simp] theorem State.setCap_sessionCount (s : State) (c : Nat) (x : ObsRec) : (s.setCap c x).sessionCount = s.sessionCount := rfl
@[simp] theorem State.setCap_ops (s : State) (c : Nat) (x : ObsRec) : (s.setCap c x).ops = s.ops := rfl
@[simp] theorem State.setCap_handleCount (s : State) (c : Nat) (x : ObsRec) : (s.setCap c x).handleCount = s.handleCount := rfl
@[simp] theorem State.setCap_tx (s : State) (c : Nat) (x : ObsRec) : (s.setCap c x).tx = s.tx := rfl
@[simp] theorem State.setCap_accLog (s : State) (c : Nat) (x : ObsRec) : (s.setCap c x).accLog = s.accLog := rfl
@[simp] theorem State.setCap_busStatus (s : State) (c : Nat) (x : ObsRec) : (s.setCap c x).busStatus = s.busStatus := rfl
@[simp] theorem State.setCap_gap (s : State) (c : Nat) (x : ObsRec) : (s.setCap c x).gap = s.gap := rfl
@[simp] theorem State.setCap_frozenLost (s : State) (c : Nat) (x : ObsRec) : (s.setCap c x).frozenLost = s.frozenLost := rfl
@[simp] theorem State.setCap_archNext (s : State) (c : Nat) (x : ObsRec) : (s.setCap c x).archNext = s.archNext := rfl
@[simp] theorem State.setCap_archive (s : State) (c : Nat) (x : ObsRec) : (s.setCap c x).archive = s.archive := rfl
@[simp] theorem State.setCap_regions (s : State) (c : Nat) (x : ObsRec) : (s.setCap c x).regions = s.regions := rfl
@[simp] theorem State.setCap_rowSeals (s : State) (c : Nat) (x : ObsRec) : (s.setCap c x).rowSeals = s.rowSeals := rfl
@[simp] theorem State.setCap_scrubAt (s : State) (c : Nat) (x : ObsRec) : (s.setCap c x).scrubAt = s.scrubAt := rfl
@[simp] theorem State.setCap_ddrScrub (s : State) (c : Nat) (x : ObsRec) : (s.setCap c x).ddrScrub = s.ddrScrub := rfl
@[simp] theorem State.setCap_wasUe (s : State) (c : Nat) (x : ObsRec) : (s.setCap c x).wasUe = s.wasUe := rfl
@[simp] theorem State.setCap_rxds (s : State) (c : Nat) (x : ObsRec) : (s.setCap c x).rxds = s.rxds := rfl
@[simp] theorem State.setCap_planCopyOk (s : State) (c : Nat) (x : ObsRec) : (s.setCap c x).planCopyOk = s.planCopyOk := rfl
@[simp] theorem State.setCap_lanes (s : State) (c : Nat) (x : ObsRec) : (s.setCap c x).lanes = s.lanes := rfl
@[simp] theorem State.setCap_calQ (s : State) (c : Nat) (x : ObsRec) : (s.setCap c x).calQ = s.calQ := rfl
@[simp] theorem State.setCap_assayQ (s : State) (c : Nat) (x : ObsRec) : (s.setCap c x).assayQ = s.assayQ := rfl
@[simp] theorem State.setCap_defer (s : State) (c : Nat) (x : ObsRec) : (s.setCap c x).defer = s.defer := rfl
@[simp] theorem State.setCap_plan (s : State) (c : Nat) (x : ObsRec) : (s.setCap c x).plan = s.plan := rfl
@[simp] theorem State.setCap_seams (s : State) (c : Nat) (x : ObsRec) : (s.setCap c x).seams = s.seams := rfl
@[simp] theorem State.setCap_faces (s : State) (c : Nat) (x : ObsRec) : (s.setCap c x).faces = s.faces := rfl
@[simp] theorem State.setCap_archEntries (s : State) (c : Nat) (x : ObsRec) : (s.setCap c x).archEntries = s.archEntries := rfl
@[simp] theorem State.setCap_archId (s : State) (c : Nat) (x : ObsRec) : (s.setCap c x).archId = s.archId := rfl
@[simp] theorem State.setCap_archMib (s : State) (c : Nat) (x : ObsRec) : (s.setCap c x).archMib = s.archMib := rfl
@[simp] theorem State.setCap_streams (s : State) (c : Nat) (x : ObsRec) : (s.setCap c x).streams = s.streams := rfl
@[simp] theorem State.setCap_streamCount (s : State) (c : Nat) (x : ObsRec) : (s.setCap c x).streamCount = s.streamCount := rfl
@[simp] theorem State.setCap_claim (s : State) (c : Nat) (x : ObsRec) : (s.setCap c x).claim = s.claim := rfl
@[simp] theorem State.setCap_rails (s : State) (c : Nat) (x : ObsRec) : (s.setCap c x).rails = s.rails := rfl
@[simp] theorem State.setCap_refALost (s : State) (c : Nat) (x : ObsRec) : (s.setCap c x).refALost = s.refALost := rfl
@[simp] theorem State.setCap_refBLost (s : State) (c : Nat) (x : ObsRec) : (s.setCap c x).refBLost = s.refBLost := rfl
@[simp] theorem State.setCap_shapes (s : State) (c : Nat) (x : ObsRec) : (s.setCap c x).shapes = s.shapes := rfl
@[simp] theorem State.setCap_otp (s : State) (c : Nat) (x : ObsRec) : (s.setCap c x).otp = s.otp := rfl
@[simp] theorem State.setCap_burnQ (s : State) (c : Nat) (x : ObsRec) : (s.setCap c x).burnQ = s.burnQ := rfl
@[simp] theorem State.setCap_volatileSeals (s : State) (c : Nat) (x : ObsRec) : (s.setCap c x).volatileSeals = s.volatileSeals := rfl
@[simp] theorem State.setCap_episodes (s : State) (c : Nat) (x : ObsRec) : (s.setCap c x).episodes = s.episodes := rfl
@[simp] theorem State.setCap_hsBuf (s : State) (c : Nat) (x : ObsRec) : (s.setCap c x).hsBuf = s.hsBuf := rfl
@[simp] theorem State.setCap_hsCount (s : State) (c : Nat) (x : ObsRec) : (s.setCap c x).hsCount = s.hsCount := rfl
@[simp] theorem State.setCap_hostPcs (s : State) (c : Nat) (x : ObsRec) : (s.setCap c x).hostPcs = s.hostPcs := rfl
@[simp] theorem State.setCap_injects (s : State) (c : Nat) (x : ObsRec) : (s.setCap c x).injects = s.injects := rfl
@[simp] theorem State.setCap_budgetShed (s : State) (c : Nat) (x : ObsRec) : (s.setCap c x).budgetShed = s.budgetShed := rfl
@[simp] theorem State.setCap_throttleShed (s : State) (c : Nat) (x : ObsRec) : (s.setCap c x).throttleShed = s.throttleShed := rfl
@[simp] theorem State.setCap_ticks (s : State) (c : Nat) (x : ObsRec) : (s.setCap c x).ticks = s.ticks := rfl
@[simp] theorem State.setCap_chipTo (s : State) (c : Nat) (x : ObsRec) : (s.setCap c x).chipTo = s.chipTo := rfl
@[simp] theorem State.setCap_setAge (s : State) (c : Nat) (x : ObsRec) : (s.setCap c x).setAge = s.setAge := rfl
@[simp] theorem State.setCap_mirror (s : State) (c : Nat) (x : ObsRec) : (s.setCap c x).mirror = s.mirror := rfl
@[simp] theorem State.setCap_madcAcc (s : State) (c : Nat) (x : ObsRec) : (s.setCap c x).madcAcc = s.madcAcc := rfl
@[simp] theorem State.setCap_seqLen (s : State) (c : Nat) (x : ObsRec) : (s.setCap c x).seqLen = s.seqLen := rfl
@[simp] theorem State.setCap_seqPending (s : State) (c : Nat) (x : ObsRec) : (s.setCap c x).seqPending = s.seqPending := rfl
@[simp] theorem State.setCap_hewers (s : State) (c : Nat) (x : ObsRec) : (s.setCap c x).hewers = s.hewers := rfl
@[simp] theorem State.setCap_actor (s : State) (c : Nat) (x : ObsRec) : (s.setCap c x).actor = s.actor := rfl
@[simp] theorem State.setCap_booting (s : State) (c : Nat) (x : ObsRec) : (s.setCap c x).booting = s.booting := rfl
@[simp] theorem State.setCap_checked (s : State) (c : Nat) (x : ObsRec) : (s.setCap c x).checked = s.checked := rfl
@[simp] theorem State.setCap_bootTries (s : State) (c : Nat) (x : ObsRec) : (s.setCap c x).bootTries = s.bootTries := rfl
@[simp] theorem State.setCap_ddrLayout (s : State) (c : Nat) (x : ObsRec) : (s.setCap c x).ddrLayout = s.ddrLayout := rfl
@[simp] theorem State.setCap_d2d (s : State) (c : Nat) (x : ObsRec) : (s.setCap c x).d2d = s.d2d := rfl
@[simp] theorem State.setCap_ddrTrain (s : State) (c : Nat) (x : ObsRec) : (s.setCap c x).ddrTrain = s.ddrTrain := rfl
@[simp] theorem State.setCap_keptCrc (s : State) (c : Nat) (x : ObsRec) : (s.setCap c x).keptCrc = s.keptCrc := rfl
@[simp] theorem State.setCap_cpTry (s : State) (c : Nat) (x : ObsRec) : (s.setCap c x).cpTry = s.cpTry := rfl
@[simp] theorem State.setCap_ptp (s : State) (c : Nat) (x : ObsRec) : (s.setCap c x).ptp = s.ptp := rfl
@[simp] theorem State.setCap_ddrEpoch (s : State) (c : Nat) (x : ObsRec) : (s.setCap c x).ddrEpoch = s.ddrEpoch := rfl
@[simp] theorem State.setCap_txds (s : State) (c : Nat) (x : ObsRec) : (s.setCap c x).txds = s.txds := rfl
@[simp] theorem State.setCap_pats (s : State) (c : Nat) (x : ObsRec) : (s.setCap c x).pats = s.pats := rfl
@[simp] theorem State.setCap_gens (s : State) (c : Nat) (x : ObsRec) : (s.setCap c x).gens = s.gens := rfl
@[simp] theorem State.setCap_ports (s : State) (c : Nat) (x : ObsRec) : (s.setCap c x).ports = s.ports := rfl
@[simp] theorem State.setCap_hostTx (s : State) (c : Nat) (x : ObsRec) : (s.setCap c x).hostTx = s.hostTx := rfl
@[simp] theorem State.setCap_hostTaps (s : State) (c : Nat) (x : ObsRec) : (s.setCap c x).hostTaps = s.hostTaps := rfl

/-! ## wrs -/

@[simp] theorem State.wrs_pending (s : State) (l : List (Fld × Nat)) : (s.wrs l).pending = s.pending := by
  induction l generalizing s with
  | nil => rfl
  | cons e l ih => exact ih _
@[simp] theorem State.wrs_ctrs (s : State) (l : List (Fld × Nat)) : (s.wrs l).ctrs = s.ctrs := by
  induction l generalizing s with
  | nil => rfl
  | cons e l ih => exact ih _
@[simp] theorem State.wrs_shadows (s : State) (l : List (Fld × Nat)) : (s.wrs l).shadows = s.shadows := by
  induction l generalizing s with
  | nil => rfl
  | cons e l ih => exact ih _
@[simp] theorem State.wrs_snapGens (s : State) (l : List (Fld × Nat)) : (s.wrs l).snapGens = s.snapGens := by
  induction l generalizing s with
  | nil => rfl
  | cons e l ih => exact ih _
@[simp] theorem State.wrs_bytes (s : State) (l : List (Fld × Nat)) : (s.wrs l).bytes = s.bytes := by
  induction l generalizing s with
  | nil => rfl
  | cons e l ih => exact ih _
@[simp] theorem State.wrs_tags (s : State) (l : List (Fld × Nat)) : (s.wrs l).tags = s.tags := by
  induction l generalizing s with
  | nil => rfl
  | cons e l ih => exact ih _
@[simp] theorem State.wrs_flash (s : State) (l : List (Fld × Nat)) : (s.wrs l).flash = s.flash := by
  induction l generalizing s with
  | nil => rfl
  | cons e l ih => exact ih _
@[simp] theorem State.wrs_time (s : State) (l : List (Fld × Nat)) : (s.wrs l).time = s.time := by
  induction l generalizing s with
  | nil => rfl
  | cons e l ih => exact ih _
@[simp] theorem State.wrs_mono (s : State) (l : List (Fld × Nat)) : (s.wrs l).mono = s.mono := by
  induction l generalizing s with
  | nil => rfl
  | cons e l ih => exact ih _
@[simp] theorem State.wrs_freeCtr (s : State) (l : List (Fld × Nat)) : (s.wrs l).freeCtr = s.freeCtr := by
  induction l generalizing s with
  | nil => rfl
  | cons e l ih => exact ih _
@[simp] theorem State.wrs_powered (s : State) (l : List (Fld × Nat)) : (s.wrs l).powered = s.powered := by
  induction l generalizing s with
  | nil => rfl
  | cons e l ih => exact ih _
@[simp] theorem State.wrs_canary (s : State) (l : List (Fld × Nat)) : (s.wrs l).canary = s.canary := by
  induction l generalizing s with
  | nil => rfl
  | cons e l ih => exact ih _
@[simp] theorem State.wrs_started (s : State) (l : List (Fld × Nat)) : (s.wrs l).started = s.started := by
  induction l generalizing s with
  | nil => rfl
  | cons e l ih => exact ih _
@[simp] theorem State.wrs_sessions (s : State) (l : List (Fld × Nat)) : (s.wrs l).sessions = s.sessions := by
  induction l generalizing s with
  | nil => rfl
  | cons e l ih => exact ih _
@[simp] theorem State.wrs_sessionCount (s : State) (l : List (Fld × Nat)) : (s.wrs l).sessionCount = s.sessionCount := by
  induction l generalizing s with
  | nil => rfl
  | cons e l ih => exact ih _
@[simp] theorem State.wrs_ops (s : State) (l : List (Fld × Nat)) : (s.wrs l).ops = s.ops := by
  induction l generalizing s with
  | nil => rfl
  | cons e l ih => exact ih _
@[simp] theorem State.wrs_handleCount (s : State) (l : List (Fld × Nat)) : (s.wrs l).handleCount = s.handleCount := by
  induction l generalizing s with
  | nil => rfl
  | cons e l ih => exact ih _
@[simp] theorem State.wrs_tx (s : State) (l : List (Fld × Nat)) : (s.wrs l).tx = s.tx := by
  induction l generalizing s with
  | nil => rfl
  | cons e l ih => exact ih _
@[simp] theorem State.wrs_accLog (s : State) (l : List (Fld × Nat)) : (s.wrs l).accLog = s.accLog := by
  induction l generalizing s with
  | nil => rfl
  | cons e l ih => exact ih _
@[simp] theorem State.wrs_busStatus (s : State) (l : List (Fld × Nat)) : (s.wrs l).busStatus = s.busStatus := by
  induction l generalizing s with
  | nil => rfl
  | cons e l ih => exact ih _
@[simp] theorem State.wrs_gap (s : State) (l : List (Fld × Nat)) : (s.wrs l).gap = s.gap := by
  induction l generalizing s with
  | nil => rfl
  | cons e l ih => exact ih _
@[simp] theorem State.wrs_frozenLost (s : State) (l : List (Fld × Nat)) : (s.wrs l).frozenLost = s.frozenLost := by
  induction l generalizing s with
  | nil => rfl
  | cons e l ih => exact ih _
@[simp] theorem State.wrs_archNext (s : State) (l : List (Fld × Nat)) : (s.wrs l).archNext = s.archNext := by
  induction l generalizing s with
  | nil => rfl
  | cons e l ih => exact ih _
@[simp] theorem State.wrs_archive (s : State) (l : List (Fld × Nat)) : (s.wrs l).archive = s.archive := by
  induction l generalizing s with
  | nil => rfl
  | cons e l ih => exact ih _
@[simp] theorem State.wrs_regions (s : State) (l : List (Fld × Nat)) : (s.wrs l).regions = s.regions := by
  induction l generalizing s with
  | nil => rfl
  | cons e l ih => exact ih _
@[simp] theorem State.wrs_rowSeals (s : State) (l : List (Fld × Nat)) : (s.wrs l).rowSeals = s.rowSeals := by
  induction l generalizing s with
  | nil => rfl
  | cons e l ih => exact ih _
@[simp] theorem State.wrs_scrubAt (s : State) (l : List (Fld × Nat)) : (s.wrs l).scrubAt = s.scrubAt := by
  induction l generalizing s with
  | nil => rfl
  | cons e l ih => exact ih _
@[simp] theorem State.wrs_ddrScrub (s : State) (l : List (Fld × Nat)) : (s.wrs l).ddrScrub = s.ddrScrub := by
  induction l generalizing s with
  | nil => rfl
  | cons e l ih => exact ih _
@[simp] theorem State.wrs_wasUe (s : State) (l : List (Fld × Nat)) : (s.wrs l).wasUe = s.wasUe := by
  induction l generalizing s with
  | nil => rfl
  | cons e l ih => exact ih _
@[simp] theorem State.wrs_rxds (s : State) (l : List (Fld × Nat)) : (s.wrs l).rxds = s.rxds := by
  induction l generalizing s with
  | nil => rfl
  | cons e l ih => exact ih _
@[simp] theorem State.wrs_planCopyOk (s : State) (l : List (Fld × Nat)) : (s.wrs l).planCopyOk = s.planCopyOk := by
  induction l generalizing s with
  | nil => rfl
  | cons e l ih => exact ih _
@[simp] theorem State.wrs_lanes (s : State) (l : List (Fld × Nat)) : (s.wrs l).lanes = s.lanes := by
  induction l generalizing s with
  | nil => rfl
  | cons e l ih => exact ih _
@[simp] theorem State.wrs_calQ (s : State) (l : List (Fld × Nat)) : (s.wrs l).calQ = s.calQ := by
  induction l generalizing s with
  | nil => rfl
  | cons e l ih => exact ih _
@[simp] theorem State.wrs_assayQ (s : State) (l : List (Fld × Nat)) : (s.wrs l).assayQ = s.assayQ := by
  induction l generalizing s with
  | nil => rfl
  | cons e l ih => exact ih _
@[simp] theorem State.wrs_defer (s : State) (l : List (Fld × Nat)) : (s.wrs l).defer = s.defer := by
  induction l generalizing s with
  | nil => rfl
  | cons e l ih => exact ih _
@[simp] theorem State.wrs_plan (s : State) (l : List (Fld × Nat)) : (s.wrs l).plan = s.plan := by
  induction l generalizing s with
  | nil => rfl
  | cons e l ih => exact ih _
@[simp] theorem State.wrs_seams (s : State) (l : List (Fld × Nat)) : (s.wrs l).seams = s.seams := by
  induction l generalizing s with
  | nil => rfl
  | cons e l ih => exact ih _
@[simp] theorem State.wrs_faces (s : State) (l : List (Fld × Nat)) : (s.wrs l).faces = s.faces := by
  induction l generalizing s with
  | nil => rfl
  | cons e l ih => exact ih _
@[simp] theorem State.wrs_caps (s : State) (l : List (Fld × Nat)) : (s.wrs l).caps = s.caps := by
  induction l generalizing s with
  | nil => rfl
  | cons e l ih => exact ih _
@[simp] theorem State.wrs_archEntries (s : State) (l : List (Fld × Nat)) : (s.wrs l).archEntries = s.archEntries := by
  induction l generalizing s with
  | nil => rfl
  | cons e l ih => exact ih _
@[simp] theorem State.wrs_archId (s : State) (l : List (Fld × Nat)) : (s.wrs l).archId = s.archId := by
  induction l generalizing s with
  | nil => rfl
  | cons e l ih => exact ih _
@[simp] theorem State.wrs_archMib (s : State) (l : List (Fld × Nat)) : (s.wrs l).archMib = s.archMib := by
  induction l generalizing s with
  | nil => rfl
  | cons e l ih => exact ih _
@[simp] theorem State.wrs_streams (s : State) (l : List (Fld × Nat)) : (s.wrs l).streams = s.streams := by
  induction l generalizing s with
  | nil => rfl
  | cons e l ih => exact ih _
@[simp] theorem State.wrs_streamCount (s : State) (l : List (Fld × Nat)) : (s.wrs l).streamCount = s.streamCount := by
  induction l generalizing s with
  | nil => rfl
  | cons e l ih => exact ih _
@[simp] theorem State.wrs_claim (s : State) (l : List (Fld × Nat)) : (s.wrs l).claim = s.claim := by
  induction l generalizing s with
  | nil => rfl
  | cons e l ih => exact ih _
@[simp] theorem State.wrs_rails (s : State) (l : List (Fld × Nat)) : (s.wrs l).rails = s.rails := by
  induction l generalizing s with
  | nil => rfl
  | cons e l ih => exact ih _
@[simp] theorem State.wrs_refALost (s : State) (l : List (Fld × Nat)) : (s.wrs l).refALost = s.refALost := by
  induction l generalizing s with
  | nil => rfl
  | cons e l ih => exact ih _
@[simp] theorem State.wrs_refBLost (s : State) (l : List (Fld × Nat)) : (s.wrs l).refBLost = s.refBLost := by
  induction l generalizing s with
  | nil => rfl
  | cons e l ih => exact ih _
@[simp] theorem State.wrs_shapes (s : State) (l : List (Fld × Nat)) : (s.wrs l).shapes = s.shapes := by
  induction l generalizing s with
  | nil => rfl
  | cons e l ih => exact ih _
@[simp] theorem State.wrs_otp (s : State) (l : List (Fld × Nat)) : (s.wrs l).otp = s.otp := by
  induction l generalizing s with
  | nil => rfl
  | cons e l ih => exact ih _
@[simp] theorem State.wrs_burnQ (s : State) (l : List (Fld × Nat)) : (s.wrs l).burnQ = s.burnQ := by
  induction l generalizing s with
  | nil => rfl
  | cons e l ih => exact ih _
@[simp] theorem State.wrs_volatileSeals (s : State) (l : List (Fld × Nat)) : (s.wrs l).volatileSeals = s.volatileSeals := by
  induction l generalizing s with
  | nil => rfl
  | cons e l ih => exact ih _
@[simp] theorem State.wrs_episodes (s : State) (l : List (Fld × Nat)) : (s.wrs l).episodes = s.episodes := by
  induction l generalizing s with
  | nil => rfl
  | cons e l ih => exact ih _
@[simp] theorem State.wrs_hsBuf (s : State) (l : List (Fld × Nat)) : (s.wrs l).hsBuf = s.hsBuf := by
  induction l generalizing s with
  | nil => rfl
  | cons e l ih => exact ih _
@[simp] theorem State.wrs_hsCount (s : State) (l : List (Fld × Nat)) : (s.wrs l).hsCount = s.hsCount := by
  induction l generalizing s with
  | nil => rfl
  | cons e l ih => exact ih _
@[simp] theorem State.wrs_hostPcs (s : State) (l : List (Fld × Nat)) : (s.wrs l).hostPcs = s.hostPcs := by
  induction l generalizing s with
  | nil => rfl
  | cons e l ih => exact ih _
@[simp] theorem State.wrs_injects (s : State) (l : List (Fld × Nat)) : (s.wrs l).injects = s.injects := by
  induction l generalizing s with
  | nil => rfl
  | cons e l ih => exact ih _
@[simp] theorem State.wrs_budgetShed (s : State) (l : List (Fld × Nat)) : (s.wrs l).budgetShed = s.budgetShed := by
  induction l generalizing s with
  | nil => rfl
  | cons e l ih => exact ih _
@[simp] theorem State.wrs_throttleShed (s : State) (l : List (Fld × Nat)) : (s.wrs l).throttleShed = s.throttleShed := by
  induction l generalizing s with
  | nil => rfl
  | cons e l ih => exact ih _
@[simp] theorem State.wrs_ticks (s : State) (l : List (Fld × Nat)) : (s.wrs l).ticks = s.ticks := by
  induction l generalizing s with
  | nil => rfl
  | cons e l ih => exact ih _
@[simp] theorem State.wrs_chipTo (s : State) (l : List (Fld × Nat)) : (s.wrs l).chipTo = s.chipTo := by
  induction l generalizing s with
  | nil => rfl
  | cons e l ih => exact ih _
@[simp] theorem State.wrs_setAge (s : State) (l : List (Fld × Nat)) : (s.wrs l).setAge = s.setAge := by
  induction l generalizing s with
  | nil => rfl
  | cons e l ih => exact ih _
@[simp] theorem State.wrs_mirror (s : State) (l : List (Fld × Nat)) : (s.wrs l).mirror = s.mirror := by
  induction l generalizing s with
  | nil => rfl
  | cons e l ih => exact ih _
@[simp] theorem State.wrs_madcAcc (s : State) (l : List (Fld × Nat)) : (s.wrs l).madcAcc = s.madcAcc := by
  induction l generalizing s with
  | nil => rfl
  | cons e l ih => exact ih _
@[simp] theorem State.wrs_seqLen (s : State) (l : List (Fld × Nat)) : (s.wrs l).seqLen = s.seqLen := by
  induction l generalizing s with
  | nil => rfl
  | cons e l ih => exact ih _
@[simp] theorem State.wrs_seqPending (s : State) (l : List (Fld × Nat)) : (s.wrs l).seqPending = s.seqPending := by
  induction l generalizing s with
  | nil => rfl
  | cons e l ih => exact ih _
@[simp] theorem State.wrs_hewers (s : State) (l : List (Fld × Nat)) : (s.wrs l).hewers = s.hewers := by
  induction l generalizing s with
  | nil => rfl
  | cons e l ih => exact ih _
@[simp] theorem State.wrs_actor (s : State) (l : List (Fld × Nat)) : (s.wrs l).actor = s.actor := by
  induction l generalizing s with
  | nil => rfl
  | cons e l ih => exact ih _
@[simp] theorem State.wrs_booting (s : State) (l : List (Fld × Nat)) : (s.wrs l).booting = s.booting := by
  induction l generalizing s with
  | nil => rfl
  | cons e l ih => exact ih _
@[simp] theorem State.wrs_checked (s : State) (l : List (Fld × Nat)) : (s.wrs l).checked = s.checked := by
  induction l generalizing s with
  | nil => rfl
  | cons e l ih => exact ih _
@[simp] theorem State.wrs_bootTries (s : State) (l : List (Fld × Nat)) : (s.wrs l).bootTries = s.bootTries := by
  induction l generalizing s with
  | nil => rfl
  | cons e l ih => exact ih _
@[simp] theorem State.wrs_ddrLayout (s : State) (l : List (Fld × Nat)) : (s.wrs l).ddrLayout = s.ddrLayout := by
  induction l generalizing s with
  | nil => rfl
  | cons e l ih => exact ih _
@[simp] theorem State.wrs_d2d (s : State) (l : List (Fld × Nat)) : (s.wrs l).d2d = s.d2d := by
  induction l generalizing s with
  | nil => rfl
  | cons e l ih => exact ih _
@[simp] theorem State.wrs_ddrTrain (s : State) (l : List (Fld × Nat)) : (s.wrs l).ddrTrain = s.ddrTrain := by
  induction l generalizing s with
  | nil => rfl
  | cons e l ih => exact ih _
@[simp] theorem State.wrs_keptCrc (s : State) (l : List (Fld × Nat)) : (s.wrs l).keptCrc = s.keptCrc := by
  induction l generalizing s with
  | nil => rfl
  | cons e l ih => exact ih _
@[simp] theorem State.wrs_cpTry (s : State) (l : List (Fld × Nat)) : (s.wrs l).cpTry = s.cpTry := by
  induction l generalizing s with
  | nil => rfl
  | cons e l ih => exact ih _
@[simp] theorem State.wrs_ptp (s : State) (l : List (Fld × Nat)) : (s.wrs l).ptp = s.ptp := by
  induction l generalizing s with
  | nil => rfl
  | cons e l ih => exact ih _
@[simp] theorem State.wrs_ddrEpoch (s : State) (l : List (Fld × Nat)) : (s.wrs l).ddrEpoch = s.ddrEpoch := by
  induction l generalizing s with
  | nil => rfl
  | cons e l ih => exact ih _
@[simp] theorem State.wrs_txds (s : State) (l : List (Fld × Nat)) : (s.wrs l).txds = s.txds := by
  induction l generalizing s with
  | nil => rfl
  | cons e l ih => exact ih _
@[simp] theorem State.wrs_pats (s : State) (l : List (Fld × Nat)) : (s.wrs l).pats = s.pats := by
  induction l generalizing s with
  | nil => rfl
  | cons e l ih => exact ih _
@[simp] theorem State.wrs_gens (s : State) (l : List (Fld × Nat)) : (s.wrs l).gens = s.gens := by
  induction l generalizing s with
  | nil => rfl
  | cons e l ih => exact ih _
@[simp] theorem State.wrs_ports (s : State) (l : List (Fld × Nat)) : (s.wrs l).ports = s.ports := by
  induction l generalizing s with
  | nil => rfl
  | cons e l ih => exact ih _
@[simp] theorem State.wrs_hostTx (s : State) (l : List (Fld × Nat)) : (s.wrs l).hostTx = s.hostTx := by
  induction l generalizing s with
  | nil => rfl
  | cons e l ih => exact ih _
@[simp] theorem State.wrs_hostTaps (s : State) (l : List (Fld × Nat)) : (s.wrs l).hostTaps = s.hostTaps := by
  induction l generalizing s with
  | nil => rfl
  | cons e l ih => exact ih _

end Sys2Proof.Machine
end

