-- ==== Sys2Proof/Laws/Access.lean ====
section
/-!
SUPPORT. Sys2Proof/Laws/Access.lean: what each update of State leaves alone, seen through the named reads.
-/
namespace Sys2Proof.Machine
open Sys2Proof

/-! ## reg -/

@[simp] theorem State.reg_setCtr (s : State) (a v : Nat) (a0 : Nat) : (s.setCtr a v).reg a0 = s.reg a0 := rfl
@[simp] theorem State.reg_addCtr (s : State) (a n : Nat) (a0 : Nat) : (s.addCtr a n).reg a0 = s.reg a0 := rfl
@[simp] theorem State.reg_setByte (s : State) (a i b : Nat) (v : Byte) (a0 : Nat) : (s.setByte a i b v).reg a0 = s.reg a0 := rfl
@[simp] theorem State.reg_setTag (s : State) (a i w : Nat) (x : Option WordTag) (a0 : Nat) : (s.setTag a i w x).reg a0 = s.reg a0 := rfl
@[simp] theorem State.reg_tookFree (s : State) (a0 : Nat) : (s.tookFree).reg a0 = s.reg a0 := rfl
@[simp] theorem State.reg_calm (s : State) (a0 : Nat) : (s.calm).reg a0 = s.reg a0 := rfl
@[simp] theorem State.reg_setRxd (s : State) (f d : Nat) (x : RxdX) (a0 : Nat) : (s.setRxd f d x).reg a0 = s.reg a0 := rfl
@[simp] theorem State.reg_setLane (s : State) (f p : Nat) (x : LaneX) (a0 : Nat) : (s.setLane f p x).reg a0 = s.reg a0 := rfl
@[simp] theorem State.reg_setSeam (s : State) (f p : Nat) (x : SeamX) (a0 : Nat) : (s.setSeam f p x).reg a0 = s.reg a0 := rfl
@[simp] theorem State.reg_setFace (s : State) (f : Nat) (x : FaceX) (a0 : Nat) : (s.setFace f x).reg a0 = s.reg a0 := rfl
@[simp] theorem State.reg_setHw (s : State) (n : Nat) (x : HewerX) (a0 : Nat) : (s.setHw n x).reg a0 = s.reg a0 := rfl
@[simp] theorem State.reg_setRail (s : State) (c : Nat) (x : RailX) (a0 : Nat) : (s.setRail c x).reg a0 = s.reg a0 := rfl
@[simp] theorem State.reg_setShape (s : State) (f d : Nat) (x : ShapeSet) (a0 : Nat) : (s.setShape f d x).reg a0 = s.reg a0 := rfl
@[simp] theorem State.reg_setCap (s : State) (c : Nat) (x : ObsRec) (a0 : Nat) : (s.setCap c x).reg a0 = s.reg a0 := rfl

/-! ## rd -/

@[simp] theorem State.rd_setCtr (s : State) (a v : Nat) (f0 : Fld) : (s.setCtr a v).rd f0 = s.rd f0 := rfl
@[simp] theorem State.rd_addCtr (s : State) (a n : Nat) (f0 : Fld) : (s.addCtr a n).rd f0 = s.rd f0 := rfl
@[simp] theorem State.rd_setByte (s : State) (a i b : Nat) (v : Byte) (f0 : Fld) : (s.setByte a i b v).rd f0 = s.rd f0 := rfl
@[simp] theorem State.rd_setTag (s : State) (a i w : Nat) (x : Option WordTag) (f0 : Fld) : (s.setTag a i w x).rd f0 = s.rd f0 := rfl
@[simp] theorem State.rd_tookFree (s : State) (f0 : Fld) : (s.tookFree).rd f0 = s.rd f0 := rfl
@[simp] theorem State.rd_calm (s : State) (f0 : Fld) : (s.calm).rd f0 = s.rd f0 := rfl
@[simp] theorem State.rd_setRxd (s : State) (f d : Nat) (x : RxdX) (f0 : Fld) : (s.setRxd f d x).rd f0 = s.rd f0 := rfl
@[simp] theorem State.rd_setLane (s : State) (f p : Nat) (x : LaneX) (f0 : Fld) : (s.setLane f p x).rd f0 = s.rd f0 := rfl
@[simp] theorem State.rd_setSeam (s : State) (f p : Nat) (x : SeamX) (f0 : Fld) : (s.setSeam f p x).rd f0 = s.rd f0 := rfl
@[simp] theorem State.rd_setFace (s : State) (f : Nat) (x : FaceX) (f0 : Fld) : (s.setFace f x).rd f0 = s.rd f0 := rfl
@[simp] theorem State.rd_setHw (s : State) (n : Nat) (x : HewerX) (f0 : Fld) : (s.setHw n x).rd f0 = s.rd f0 := rfl
@[simp] theorem State.rd_setRail (s : State) (c : Nat) (x : RailX) (f0 : Fld) : (s.setRail c x).rd f0 = s.rd f0 := rfl
@[simp] theorem State.rd_setShape (s : State) (f d : Nat) (x : ShapeSet) (f0 : Fld) : (s.setShape f d x).rd f0 = s.rd f0 := rfl
@[simp] theorem State.rd_setCap (s : State) (c : Nat) (x : ObsRec) (f0 : Fld) : (s.setCap c x).rd f0 = s.rd f0 := rfl

/-! ## on -/

@[simp] theorem State.on_setCtr (s : State) (a v : Nat) (f0 : Fld) : (s.setCtr a v).on f0 = s.on f0 := rfl
@[simp] theorem State.on_addCtr (s : State) (a n : Nat) (f0 : Fld) : (s.addCtr a n).on f0 = s.on f0 := rfl
@[simp] theorem State.on_setByte (s : State) (a i b : Nat) (v : Byte) (f0 : Fld) : (s.setByte a i b v).on f0 = s.on f0 := rfl
@[simp] theorem State.on_setTag (s : State) (a i w : Nat) (x : Option WordTag) (f0 : Fld) : (s.setTag a i w x).on f0 = s.on f0 := rfl
@[simp] theorem State.on_tookFree (s : State) (f0 : Fld) : (s.tookFree).on f0 = s.on f0 := rfl
@[simp] theorem State.on_calm (s : State) (f0 : Fld) : (s.calm).on f0 = s.on f0 := rfl
@[simp] theorem State.on_setRxd (s : State) (f d : Nat) (x : RxdX) (f0 : Fld) : (s.setRxd f d x).on f0 = s.on f0 := rfl
@[simp] theorem State.on_setLane (s : State) (f p : Nat) (x : LaneX) (f0 : Fld) : (s.setLane f p x).on f0 = s.on f0 := rfl
@[simp] theorem State.on_setSeam (s : State) (f p : Nat) (x : SeamX) (f0 : Fld) : (s.setSeam f p x).on f0 = s.on f0 := rfl
@[simp] theorem State.on_setFace (s : State) (f : Nat) (x : FaceX) (f0 : Fld) : (s.setFace f x).on f0 = s.on f0 := rfl
@[simp] theorem State.on_setHw (s : State) (n : Nat) (x : HewerX) (f0 : Fld) : (s.setHw n x).on f0 = s.on f0 := rfl
@[simp] theorem State.on_setRail (s : State) (c : Nat) (x : RailX) (f0 : Fld) : (s.setRail c x).on f0 = s.on f0 := rfl
@[simp] theorem State.on_setShape (s : State) (f d : Nat) (x : ShapeSet) (f0 : Fld) : (s.setShape f d x).on f0 = s.on f0 := rfl
@[simp] theorem State.on_setCap (s : State) (c : Nat) (x : ObsRec) (f0 : Fld) : (s.setCap c x).on f0 = s.on f0 := rfl

/-! ## ctr -/

@[simp] theorem State.ctr_setReg (s : State) (a : Nat) (w : Word) (a0 : Nat) : (s.setReg a w).ctr a0 = s.ctr a0 := rfl
@[simp] theorem State.ctr_wr (s : State) (f : Fld) (v : Nat) (a0 : Nat) : (s.wr f v).ctr a0 = s.ctr a0 := rfl
@[simp] theorem State.ctr_incSat (s : State) (f : Fld) (a0 : Nat) : (s.incSat f).ctr a0 = s.ctr a0 := rfl
@[simp] theorem State.ctr_incMod (s : State) (f : Fld) (a0 : Nat) : (s.incMod f).ctr a0 = s.ctr a0 := rfl
@[simp] theorem State.ctr_setByte (s : State) (a i b : Nat) (v : Byte) (a0 : Nat) : (s.setByte a i b v).ctr a0 = s.ctr a0 := rfl
@[simp] theorem State.ctr_setTag (s : State) (a i w : Nat) (x : Option WordTag) (a0 : Nat) : (s.setTag a i w x).ctr a0 = s.ctr a0 := rfl
@[simp] theorem State.ctr_tookFree (s : State) (a0 : Nat) : (s.tookFree).ctr a0 = s.ctr a0 := rfl
@[simp] theorem State.ctr_calm (s : State) (a0 : Nat) : (s.calm).ctr a0 = s.ctr a0 := rfl
@[simp] theorem State.ctr_setRxd (s : State) (f d : Nat) (x : RxdX) (a0 : Nat) : (s.setRxd f d x).ctr a0 = s.ctr a0 := rfl
@[simp] theorem State.ctr_setLane (s : State) (f p : Nat) (x : LaneX) (a0 : Nat) : (s.setLane f p x).ctr a0 = s.ctr a0 := rfl
@[simp] theorem State.ctr_setSeam (s : State) (f p : Nat) (x : SeamX) (a0 : Nat) : (s.setSeam f p x).ctr a0 = s.ctr a0 := rfl
@[simp] theorem State.ctr_setFace (s : State) (f : Nat) (x : FaceX) (a0 : Nat) : (s.setFace f x).ctr a0 = s.ctr a0 := rfl
@[simp] theorem State.ctr_setHw (s : State) (n : Nat) (x : HewerX) (a0 : Nat) : (s.setHw n x).ctr a0 = s.ctr a0 := rfl
@[simp] theorem State.ctr_setRail (s : State) (c : Nat) (x : RailX) (a0 : Nat) : (s.setRail c x).ctr a0 = s.ctr a0 := rfl
@[simp] theorem State.ctr_setShape (s : State) (f d : Nat) (x : ShapeSet) (a0 : Nat) : (s.setShape f d x).ctr a0 = s.ctr a0 := rfl
@[simp] theorem State.ctr_setCap (s : State) (c : Nat) (x : ObsRec) (a0 : Nat) : (s.setCap c x).ctr a0 = s.ctr a0 := rfl
@[simp] theorem State.ctr_wrs (s : State) (l : List (Fld × Nat)) (a0 : Nat) : (s.wrs l).ctr a0 = s.ctr a0 := by
  unfold State.ctr; rw [State.wrs_ctrs]

/-! ## byte -/

@[simp] theorem State.byte_setReg (s : State) (a : Nat) (w : Word) (a' i' b' : Nat) : (s.setReg a w).byte a' i' b' = s.byte a' i' b' := rfl
@[simp] theorem State.byte_wr (s : State) (f : Fld) (v : Nat) (a' i' b' : Nat) : (s.wr f v).byte a' i' b' = s.byte a' i' b' := rfl
@[simp] theorem State.byte_incSat (s : State) (f : Fld) (a' i' b' : Nat) : (s.incSat f).byte a' i' b' = s.byte a' i' b' := rfl
@[simp] theorem State.byte_incMod (s : State) (f : Fld) (a' i' b' : Nat) : (s.incMod f).byte a' i' b' = s.byte a' i' b' := rfl
@[simp] theorem State.byte_setCtr (s : State) (a v : Nat) (a' i' b' : Nat) : (s.setCtr a v).byte a' i' b' = s.byte a' i' b' := rfl
@[simp] theorem State.byte_addCtr (s : State) (a n : Nat) (a' i' b' : Nat) : (s.addCtr a n).byte a' i' b' = s.byte a' i' b' := rfl
@[simp] theorem State.byte_setTag (s : State) (a i w : Nat) (x : Option WordTag) (a' i' b' : Nat) : (s.setTag a i w x).byte a' i' b' = s.byte a' i' b' := rfl
@[simp] theorem State.byte_tookFree (s : State) (a' i' b' : Nat) : (s.tookFree).byte a' i' b' = s.byte a' i' b' := rfl
@[simp] theorem State.byte_calm (s : State) (a' i' b' : Nat) : (s.calm).byte a' i' b' = s.byte a' i' b' := rfl
@[simp] theorem State.byte_setRxd (s : State) (f d : Nat) (x : RxdX) (a' i' b' : Nat) : (s.setRxd f d x).byte a' i' b' = s.byte a' i' b' := rfl
@[simp] theorem State.byte_setLane (s : State) (f p : Nat) (x : LaneX) (a' i' b' : Nat) : (s.setLane f p x).byte a' i' b' = s.byte a' i' b' := rfl
@[simp] theorem State.byte_setSeam (s : State) (f p : Nat) (x : SeamX) (a' i' b' : Nat) : (s.setSeam f p x).byte a' i' b' = s.byte a' i' b' := rfl
@[simp] theorem State.byte_setFace (s : State) (f : Nat) (x : FaceX) (a' i' b' : Nat) : (s.setFace f x).byte a' i' b' = s.byte a' i' b' := rfl
@[simp] theorem State.byte_setHw (s : State) (n : Nat) (x : HewerX) (a' i' b' : Nat) : (s.setHw n x).byte a' i' b' = s.byte a' i' b' := rfl
@[simp] theorem State.byte_setRail (s : State) (c : Nat) (x : RailX) (a' i' b' : Nat) : (s.setRail c x).byte a' i' b' = s.byte a' i' b' := rfl
@[simp] theorem State.byte_setShape (s : State) (f d : Nat) (x : ShapeSet) (a' i' b' : Nat) : (s.setShape f d x).byte a' i' b' = s.byte a' i' b' := rfl
@[simp] theorem State.byte_setCap (s : State) (c : Nat) (x : ObsRec) (a' i' b' : Nat) : (s.setCap c x).byte a' i' b' = s.byte a' i' b' := rfl
@[simp] theorem State.byte_wrs (s : State) (l : List (Fld × Nat)) (a' i' b' : Nat) : (s.wrs l).byte a' i' b' = s.byte a' i' b' := by
  unfold State.byte; rw [State.wrs_bytes]

/-! ## tag -/

@[simp] theorem State.tag_setReg (s : State) (a : Nat) (w : Word) (a' i' w' : Nat) : (s.setReg a w).tag a' i' w' = s.tag a' i' w' := rfl
@[simp] theorem State.tag_wr (s : State) (f : Fld) (v : Nat) (a' i' w' : Nat) : (s.wr f v).tag a' i' w' = s.tag a' i' w' := rfl
@[simp] theorem State.tag_incSat (s : State) (f : Fld) (a' i' w' : Nat) : (s.incSat f).tag a' i' w' = s.tag a' i' w' := rfl
@[simp] theorem State.tag_incMod (s : State) (f : Fld) (a' i' w' : Nat) : (s.incMod f).tag a' i' w' = s.tag a' i' w' := rfl
@[simp] theorem State.tag_setCtr (s : State) (a v : Nat) (a' i' w' : Nat) : (s.setCtr a v).tag a' i' w' = s.tag a' i' w' := rfl
@[simp] theorem State.tag_addCtr (s : State) (a n : Nat) (a' i' w' : Nat) : (s.addCtr a n).tag a' i' w' = s.tag a' i' w' := rfl
@[simp] theorem State.tag_setByte (s : State) (a i b : Nat) (v : Byte) (a' i' w' : Nat) : (s.setByte a i b v).tag a' i' w' = s.tag a' i' w' := rfl
@[simp] theorem State.tag_tookFree (s : State) (a' i' w' : Nat) : (s.tookFree).tag a' i' w' = s.tag a' i' w' := rfl
@[simp] theorem State.tag_calm (s : State) (a' i' w' : Nat) : (s.calm).tag a' i' w' = s.tag a' i' w' := rfl
@[simp] theorem State.tag_setRxd (s : State) (f d : Nat) (x : RxdX) (a' i' w' : Nat) : (s.setRxd f d x).tag a' i' w' = s.tag a' i' w' := rfl
@[simp] theorem State.tag_setLane (s : State) (f p : Nat) (x : LaneX) (a' i' w' : Nat) : (s.setLane f p x).tag a' i' w' = s.tag a' i' w' := rfl
@[simp] theorem State.tag_setSeam (s : State) (f p : Nat) (x : SeamX) (a' i' w' : Nat) : (s.setSeam f p x).tag a' i' w' = s.tag a' i' w' := rfl
@[simp] theorem State.tag_setFace (s : State) (f : Nat) (x : FaceX) (a' i' w' : Nat) : (s.setFace f x).tag a' i' w' = s.tag a' i' w' := rfl
@[simp] theorem State.tag_setHw (s : State) (n : Nat) (x : HewerX) (a' i' w' : Nat) : (s.setHw n x).tag a' i' w' = s.tag a' i' w' := rfl
@[simp] theorem State.tag_setRail (s : State) (c : Nat) (x : RailX) (a' i' w' : Nat) : (s.setRail c x).tag a' i' w' = s.tag a' i' w' := rfl
@[simp] theorem State.tag_setShape (s : State) (f d : Nat) (x : ShapeSet) (a' i' w' : Nat) : (s.setShape f d x).tag a' i' w' = s.tag a' i' w' := rfl
@[simp] theorem State.tag_setCap (s : State) (c : Nat) (x : ObsRec) (a' i' w' : Nat) : (s.setCap c x).tag a' i' w' = s.tag a' i' w' := rfl
@[simp] theorem State.tag_wrs (s : State) (l : List (Fld × Nat)) (a' i' w' : Nat) : (s.wrs l).tag a' i' w' = s.tag a' i' w' := by
  unfold State.tag; rw [State.wrs_tags]

/-! ## rxd -/

@[simp] theorem State.rxd_setReg (s : State) (a : Nat) (w : Word) (f' d' : Nat) : (s.setReg a w).rxd f' d' = s.rxd f' d' := rfl
@[simp] theorem State.rxd_wr (s : State) (f : Fld) (v : Nat) (f' d' : Nat) : (s.wr f v).rxd f' d' = s.rxd f' d' := rfl
@[simp] theorem State.rxd_incSat (s : State) (f : Fld) (f' d' : Nat) : (s.incSat f).rxd f' d' = s.rxd f' d' := rfl
@[simp] theorem State.rxd_incMod (s : State) (f : Fld) (f' d' : Nat) : (s.incMod f).rxd f' d' = s.rxd f' d' := rfl
@[simp] theorem State.rxd_setCtr (s : State) (a v : Nat) (f' d' : Nat) : (s.setCtr a v).rxd f' d' = s.rxd f' d' := rfl
@[simp] theorem State.rxd_addCtr (s : State) (a n : Nat) (f' d' : Nat) : (s.addCtr a n).rxd f' d' = s.rxd f' d' := rfl
@[simp] theorem State.rxd_setByte (s : State) (a i b : Nat) (v : Byte) (f' d' : Nat) : (s.setByte a i b v).rxd f' d' = s.rxd f' d' := rfl
@[simp] theorem State.rxd_setTag (s : State) (a i w : Nat) (x : Option WordTag) (f' d' : Nat) : (s.setTag a i w x).rxd f' d' = s.rxd f' d' := rfl
@[simp] theorem State.rxd_tookFree (s : State) (f' d' : Nat) : (s.tookFree).rxd f' d' = s.rxd f' d' := rfl
@[simp] theorem State.rxd_calm (s : State) (f' d' : Nat) : (s.calm).rxd f' d' = s.rxd f' d' := rfl
@[simp] theorem State.rxd_setLane (s : State) (f p : Nat) (x : LaneX) (f' d' : Nat) : (s.setLane f p x).rxd f' d' = s.rxd f' d' := rfl
@[simp] theorem State.rxd_setSeam (s : State) (f p : Nat) (x : SeamX) (f' d' : Nat) : (s.setSeam f p x).rxd f' d' = s.rxd f' d' := rfl
@[simp] theorem State.rxd_setFace (s : State) (f : Nat) (x : FaceX) (f' d' : Nat) : (s.setFace f x).rxd f' d' = s.rxd f' d' := rfl
@[simp] theorem State.rxd_setHw (s : State) (n : Nat) (x : HewerX) (f' d' : Nat) : (s.setHw n x).rxd f' d' = s.rxd f' d' := rfl
@[simp] theorem State.rxd_setRail (s : State) (c : Nat) (x : RailX) (f' d' : Nat) : (s.setRail c x).rxd f' d' = s.rxd f' d' := rfl
@[simp] theorem State.rxd_setShape (s : State) (f d : Nat) (x : ShapeSet) (f' d' : Nat) : (s.setShape f d x).rxd f' d' = s.rxd f' d' := rfl
@[simp] theorem State.rxd_setCap (s : State) (c : Nat) (x : ObsRec) (f' d' : Nat) : (s.setCap c x).rxd f' d' = s.rxd f' d' := rfl
@[simp] theorem State.rxd_wrs (s : State) (l : List (Fld × Nat)) (f' d' : Nat) : (s.wrs l).rxd f' d' = s.rxd f' d' := by
  unfold State.rxd; rw [State.wrs_rxds]

/-! ## lane -/

@[simp] theorem State.lane_setReg (s : State) (a : Nat) (w : Word) (f' p' : Nat) : (s.setReg a w).lane f' p' = s.lane f' p' := rfl
@[simp] theorem State.lane_wr (s : State) (f : Fld) (v : Nat) (f' p' : Nat) : (s.wr f v).lane f' p' = s.lane f' p' := rfl
@[simp] theorem State.lane_incSat (s : State) (f : Fld) (f' p' : Nat) : (s.incSat f).lane f' p' = s.lane f' p' := rfl
@[simp] theorem State.lane_incMod (s : State) (f : Fld) (f' p' : Nat) : (s.incMod f).lane f' p' = s.lane f' p' := rfl
@[simp] theorem State.lane_setCtr (s : State) (a v : Nat) (f' p' : Nat) : (s.setCtr a v).lane f' p' = s.lane f' p' := rfl
@[simp] theorem State.lane_addCtr (s : State) (a n : Nat) (f' p' : Nat) : (s.addCtr a n).lane f' p' = s.lane f' p' := rfl
@[simp] theorem State.lane_setByte (s : State) (a i b : Nat) (v : Byte) (f' p' : Nat) : (s.setByte a i b v).lane f' p' = s.lane f' p' := rfl
@[simp] theorem State.lane_setTag (s : State) (a i w : Nat) (x : Option WordTag) (f' p' : Nat) : (s.setTag a i w x).lane f' p' = s.lane f' p' := rfl
@[simp] theorem State.lane_tookFree (s : State) (f' p' : Nat) : (s.tookFree).lane f' p' = s.lane f' p' := rfl
@[simp] theorem State.lane_calm (s : State) (f' p' : Nat) : (s.calm).lane f' p' = s.lane f' p' := rfl
@[simp] theorem State.lane_setRxd (s : State) (f d : Nat) (x : RxdX) (f' p' : Nat) : (s.setRxd f d x).lane f' p' = s.lane f' p' := rfl
@[simp] theorem State.lane_setSeam (s : State) (f p : Nat) (x : SeamX) (f' p' : Nat) : (s.setSeam f p x).lane f' p' = s.lane f' p' := rfl
@[simp] theorem State.lane_setFace (s : State) (f : Nat) (x : FaceX) (f' p' : Nat) : (s.setFace f x).lane f' p' = s.lane f' p' := rfl
@[simp] theorem State.lane_setHw (s : State) (n : Nat) (x : HewerX) (f' p' : Nat) : (s.setHw n x).lane f' p' = s.lane f' p' := rfl
@[simp] theorem State.lane_setRail (s : State) (c : Nat) (x : RailX) (f' p' : Nat) : (s.setRail c x).lane f' p' = s.lane f' p' := rfl
@[simp] theorem State.lane_setShape (s : State) (f d : Nat) (x : ShapeSet) (f' p' : Nat) : (s.setShape f d x).lane f' p' = s.lane f' p' := rfl
@[simp] theorem State.lane_setCap (s : State) (c : Nat) (x : ObsRec) (f' p' : Nat) : (s.setCap c x).lane f' p' = s.lane f' p' := rfl
@[simp] theorem State.lane_wrs (s : State) (l : List (Fld × Nat)) (f' p' : Nat) : (s.wrs l).lane f' p' = s.lane f' p' := by
  unfold State.lane; rw [State.wrs_lanes]

/-! ## seam -/

@[simp] theorem State.seam_setReg (s : State) (a : Nat) (w : Word) (f' p' : Nat) : (s.setReg a w).seam f' p' = s.seam f' p' := rfl
@[simp] theorem State.seam_wr (s : State) (f : Fld) (v : Nat) (f' p' : Nat) : (s.wr f v).seam f' p' = s.seam f' p' := rfl
@[simp] theorem State.seam_incSat (s : State) (f : Fld) (f' p' : Nat) : (s.incSat f).seam f' p' = s.seam f' p' := rfl
@[simp] theorem State.seam_incMod (s : State) (f : Fld) (f' p' : Nat) : (s.incMod f).seam f' p' = s.seam f' p' := rfl
@[simp] theorem State.seam_setCtr (s : State) (a v : Nat) (f' p' : Nat) : (s.setCtr a v).seam f' p' = s.seam f' p' := rfl
@[simp] theorem State.seam_addCtr (s : State) (a n : Nat) (f' p' : Nat) : (s.addCtr a n).seam f' p' = s.seam f' p' := rfl
@[simp] theorem State.seam_setByte (s : State) (a i b : Nat) (v : Byte) (f' p' : Nat) : (s.setByte a i b v).seam f' p' = s.seam f' p' := rfl
@[simp] theorem State.seam_setTag (s : State) (a i w : Nat) (x : Option WordTag) (f' p' : Nat) : (s.setTag a i w x).seam f' p' = s.seam f' p' := rfl
@[simp] theorem State.seam_tookFree (s : State) (f' p' : Nat) : (s.tookFree).seam f' p' = s.seam f' p' := rfl
@[simp] theorem State.seam_calm (s : State) (f' p' : Nat) : (s.calm).seam f' p' = s.seam f' p' := rfl
@[simp] theorem State.seam_setRxd (s : State) (f d : Nat) (x : RxdX) (f' p' : Nat) : (s.setRxd f d x).seam f' p' = s.seam f' p' := rfl
@[simp] theorem State.seam_setLane (s : State) (f p : Nat) (x : LaneX) (f' p' : Nat) : (s.setLane f p x).seam f' p' = s.seam f' p' := rfl
@[simp] theorem State.seam_setFace (s : State) (f : Nat) (x : FaceX) (f' p' : Nat) : (s.setFace f x).seam f' p' = s.seam f' p' := rfl
@[simp] theorem State.seam_setHw (s : State) (n : Nat) (x : HewerX) (f' p' : Nat) : (s.setHw n x).seam f' p' = s.seam f' p' := rfl
@[simp] theorem State.seam_setRail (s : State) (c : Nat) (x : RailX) (f' p' : Nat) : (s.setRail c x).seam f' p' = s.seam f' p' := rfl
@[simp] theorem State.seam_setShape (s : State) (f d : Nat) (x : ShapeSet) (f' p' : Nat) : (s.setShape f d x).seam f' p' = s.seam f' p' := rfl
@[simp] theorem State.seam_setCap (s : State) (c : Nat) (x : ObsRec) (f' p' : Nat) : (s.setCap c x).seam f' p' = s.seam f' p' := rfl
@[simp] theorem State.seam_wrs (s : State) (l : List (Fld × Nat)) (f' p' : Nat) : (s.wrs l).seam f' p' = s.seam f' p' := by
  unfold State.seam; rw [State.wrs_seams]

/-! ## face -/

@[simp] theorem State.face_setReg (s : State) (a : Nat) (w : Word) (f' : Nat) : (s.setReg a w).face f' = s.face f' := rfl
@[simp] theorem State.face_wr (s : State) (f : Fld) (v : Nat) (f' : Nat) : (s.wr f v).face f' = s.face f' := rfl
@[simp] theorem State.face_incSat (s : State) (f : Fld) (f' : Nat) : (s.incSat f).face f' = s.face f' := rfl
@[simp] theorem State.face_incMod (s : State) (f : Fld) (f' : Nat) : (s.incMod f).face f' = s.face f' := rfl
@[simp] theorem State.face_setCtr (s : State) (a v : Nat) (f' : Nat) : (s.setCtr a v).face f' = s.face f' := rfl
@[simp] theorem State.face_addCtr (s : State) (a n : Nat) (f' : Nat) : (s.addCtr a n).face f' = s.face f' := rfl
@[simp] theorem State.face_setByte (s : State) (a i b : Nat) (v : Byte) (f' : Nat) : (s.setByte a i b v).face f' = s.face f' := rfl
@[simp] theorem State.face_setTag (s : State) (a i w : Nat) (x : Option WordTag) (f' : Nat) : (s.setTag a i w x).face f' = s.face f' := rfl
@[simp] theorem State.face_tookFree (s : State) (f' : Nat) : (s.tookFree).face f' = s.face f' := rfl
@[simp] theorem State.face_calm (s : State) (f' : Nat) : (s.calm).face f' = s.face f' := rfl
@[simp] theorem State.face_setRxd (s : State) (f d : Nat) (x : RxdX) (f' : Nat) : (s.setRxd f d x).face f' = s.face f' := rfl
@[simp] theorem State.face_setLane (s : State) (f p : Nat) (x : LaneX) (f' : Nat) : (s.setLane f p x).face f' = s.face f' := rfl
@[simp] theorem State.face_setSeam (s : State) (f p : Nat) (x : SeamX) (f' : Nat) : (s.setSeam f p x).face f' = s.face f' := rfl
@[simp] theorem State.face_setHw (s : State) (n : Nat) (x : HewerX) (f' : Nat) : (s.setHw n x).face f' = s.face f' := rfl
@[simp] theorem State.face_setRail (s : State) (c : Nat) (x : RailX) (f' : Nat) : (s.setRail c x).face f' = s.face f' := rfl
@[simp] theorem State.face_setShape (s : State) (f d : Nat) (x : ShapeSet) (f' : Nat) : (s.setShape f d x).face f' = s.face f' := rfl
@[simp] theorem State.face_setCap (s : State) (c : Nat) (x : ObsRec) (f' : Nat) : (s.setCap c x).face f' = s.face f' := rfl
@[simp] theorem State.face_wrs (s : State) (l : List (Fld × Nat)) (f' : Nat) : (s.wrs l).face f' = s.face f' := by
  unfold State.face; rw [State.wrs_faces]

/-! ## hw -/

@[simp] theorem State.hw_setReg (s : State) (a : Nat) (w : Word) (n' : Nat) : (s.setReg a w).hw n' = s.hw n' := rfl
@[simp] theorem State.hw_wr (s : State) (f : Fld) (v : Nat) (n' : Nat) : (s.wr f v).hw n' = s.hw n' := rfl
@[simp] theorem State.hw_incSat (s : State) (f : Fld) (n' : Nat) : (s.incSat f).hw n' = s.hw n' := rfl
@[simp] theorem State.hw_incMod (s : State) (f : Fld) (n' : Nat) : (s.incMod f).hw n' = s.hw n' := rfl
@[simp] theorem State.hw_setCtr (s : State) (a v : Nat) (n' : Nat) : (s.setCtr a v).hw n' = s.hw n' := rfl
@[simp] theorem State.hw_addCtr (s : State) (a n : Nat) (n' : Nat) : (s.addCtr a n).hw n' = s.hw n' := rfl
@[simp] theorem State.hw_setByte (s : State) (a i b : Nat) (v : Byte) (n' : Nat) : (s.setByte a i b v).hw n' = s.hw n' := rfl
@[simp] theorem State.hw_setTag (s : State) (a i w : Nat) (x : Option WordTag) (n' : Nat) : (s.setTag a i w x).hw n' = s.hw n' := rfl
@[simp] theorem State.hw_tookFree (s : State) (n' : Nat) : (s.tookFree).hw n' = s.hw n' := rfl
@[simp] theorem State.hw_calm (s : State) (n' : Nat) : (s.calm).hw n' = s.hw n' := rfl
@[simp] theorem State.hw_setRxd (s : State) (f d : Nat) (x : RxdX) (n' : Nat) : (s.setRxd f d x).hw n' = s.hw n' := rfl
@[simp] theorem State.hw_setLane (s : State) (f p : Nat) (x : LaneX) (n' : Nat) : (s.setLane f p x).hw n' = s.hw n' := rfl
@[simp] theorem State.hw_setSeam (s : State) (f p : Nat) (x : SeamX) (n' : Nat) : (s.setSeam f p x).hw n' = s.hw n' := rfl
@[simp] theorem State.hw_setFace (s : State) (f : Nat) (x : FaceX) (n' : Nat) : (s.setFace f x).hw n' = s.hw n' := rfl
@[simp] theorem State.hw_setRail (s : State) (c : Nat) (x : RailX) (n' : Nat) : (s.setRail c x).hw n' = s.hw n' := rfl
@[simp] theorem State.hw_setShape (s : State) (f d : Nat) (x : ShapeSet) (n' : Nat) : (s.setShape f d x).hw n' = s.hw n' := rfl
@[simp] theorem State.hw_setCap (s : State) (c : Nat) (x : ObsRec) (n' : Nat) : (s.setCap c x).hw n' = s.hw n' := rfl
@[simp] theorem State.hw_wrs (s : State) (l : List (Fld × Nat)) (n' : Nat) : (s.wrs l).hw n' = s.hw n' := by
  unfold State.hw; rw [State.wrs_hewers]

/-! ## rail -/

@[simp] theorem State.rail_setReg (s : State) (a : Nat) (w : Word) (c' : Nat) : (s.setReg a w).rail c' = s.rail c' := rfl
@[simp] theorem State.rail_wr (s : State) (f : Fld) (v : Nat) (c' : Nat) : (s.wr f v).rail c' = s.rail c' := rfl
@[simp] theorem State.rail_incSat (s : State) (f : Fld) (c' : Nat) : (s.incSat f).rail c' = s.rail c' := rfl
@[simp] theorem State.rail_incMod (s : State) (f : Fld) (c' : Nat) : (s.incMod f).rail c' = s.rail c' := rfl
@[simp] theorem State.rail_setCtr (s : State) (a v : Nat) (c' : Nat) : (s.setCtr a v).rail c' = s.rail c' := rfl
@[simp] theorem State.rail_addCtr (s : State) (a n : Nat) (c' : Nat) : (s.addCtr a n).rail c' = s.rail c' := rfl
@[simp] theorem State.rail_setByte (s : State) (a i b : Nat) (v : Byte) (c' : Nat) : (s.setByte a i b v).rail c' = s.rail c' := rfl
@[simp] theorem State.rail_setTag (s : State) (a i w : Nat) (x : Option WordTag) (c' : Nat) : (s.setTag a i w x).rail c' = s.rail c' := rfl
@[simp] theorem State.rail_tookFree (s : State) (c' : Nat) : (s.tookFree).rail c' = s.rail c' := rfl
@[simp] theorem State.rail_calm (s : State) (c' : Nat) : (s.calm).rail c' = s.rail c' := rfl
@[simp] theorem State.rail_setRxd (s : State) (f d : Nat) (x : RxdX) (c' : Nat) : (s.setRxd f d x).rail c' = s.rail c' := rfl
@[simp] theorem State.rail_setLane (s : State) (f p : Nat) (x : LaneX) (c' : Nat) : (s.setLane f p x).rail c' = s.rail c' := rfl
@[simp] theorem State.rail_setSeam (s : State) (f p : Nat) (x : SeamX) (c' : Nat) : (s.setSeam f p x).rail c' = s.rail c' := rfl
@[simp] theorem State.rail_setFace (s : State) (f : Nat) (x : FaceX) (c' : Nat) : (s.setFace f x).rail c' = s.rail c' := rfl
@[simp] theorem State.rail_setHw (s : State) (n : Nat) (x : HewerX) (c' : Nat) : (s.setHw n x).rail c' = s.rail c' := rfl
@[simp] theorem State.rail_setShape (s : State) (f d : Nat) (x : ShapeSet) (c' : Nat) : (s.setShape f d x).rail c' = s.rail c' := rfl
@[simp] theorem State.rail_setCap (s : State) (c : Nat) (x : ObsRec) (c' : Nat) : (s.setCap c x).rail c' = s.rail c' := rfl
@[simp] theorem State.rail_wrs (s : State) (l : List (Fld × Nat)) (c' : Nat) : (s.wrs l).rail c' = s.rail c' := by
  unfold State.rail; rw [State.wrs_rails]

/-! ## shape -/

@[simp] theorem State.shape_setReg (s : State) (a : Nat) (w : Word) (f' d' : Nat) : (s.setReg a w).shape f' d' = s.shape f' d' := rfl
@[simp] theorem State.shape_wr (s : State) (f : Fld) (v : Nat) (f' d' : Nat) : (s.wr f v).shape f' d' = s.shape f' d' := rfl
@[simp] theorem State.shape_incSat (s : State) (f : Fld) (f' d' : Nat) : (s.incSat f).shape f' d' = s.shape f' d' := rfl
@[simp] theorem State.shape_incMod (s : State) (f : Fld) (f' d' : Nat) : (s.incMod f).shape f' d' = s.shape f' d' := rfl
@[simp] theorem State.shape_setCtr (s : State) (a v : Nat) (f' d' : Nat) : (s.setCtr a v).shape f' d' = s.shape f' d' := rfl
@[simp] theorem State.shape_addCtr (s : State) (a n : Nat) (f' d' : Nat) : (s.addCtr a n).shape f' d' = s.shape f' d' := rfl
@[simp] theorem State.shape_setByte (s : State) (a i b : Nat) (v : Byte) (f' d' : Nat) : (s.setByte a i b v).shape f' d' = s.shape f' d' := rfl
@[simp] theorem State.shape_setTag (s : State) (a i w : Nat) (x : Option WordTag) (f' d' : Nat) : (s.setTag a i w x).shape f' d' = s.shape f' d' := rfl
@[simp] theorem State.shape_tookFree (s : State) (f' d' : Nat) : (s.tookFree).shape f' d' = s.shape f' d' := rfl
@[simp] theorem State.shape_calm (s : State) (f' d' : Nat) : (s.calm).shape f' d' = s.shape f' d' := rfl
@[simp] theorem State.shape_setRxd (s : State) (f d : Nat) (x : RxdX) (f' d' : Nat) : (s.setRxd f d x).shape f' d' = s.shape f' d' := rfl
@[simp] theorem State.shape_setLane (s : State) (f p : Nat) (x : LaneX) (f' d' : Nat) : (s.setLane f p x).shape f' d' = s.shape f' d' := rfl
@[simp] theorem State.shape_setSeam (s : State) (f p : Nat) (x : SeamX) (f' d' : Nat) : (s.setSeam f p x).shape f' d' = s.shape f' d' := rfl
@[simp] theorem State.shape_setFace (s : State) (f : Nat) (x : FaceX) (f' d' : Nat) : (s.setFace f x).shape f' d' = s.shape f' d' := rfl
@[simp] theorem State.shape_setHw (s : State) (n : Nat) (x : HewerX) (f' d' : Nat) : (s.setHw n x).shape f' d' = s.shape f' d' := rfl
@[simp] theorem State.shape_setRail (s : State) (c : Nat) (x : RailX) (f' d' : Nat) : (s.setRail c x).shape f' d' = s.shape f' d' := rfl
@[simp] theorem State.shape_setCap (s : State) (c : Nat) (x : ObsRec) (f' d' : Nat) : (s.setCap c x).shape f' d' = s.shape f' d' := rfl
@[simp] theorem State.shape_wrs (s : State) (l : List (Fld × Nat)) (f' d' : Nat) : (s.wrs l).shape f' d' = s.shape f' d' := by
  unfold State.shape; rw [State.wrs_shapes]

/-! ## cap -/

@[simp] theorem State.cap_setReg (s : State) (a : Nat) (w : Word) (c' : Nat) : (s.setReg a w).cap c' = s.cap c' := rfl
@[simp] theorem State.cap_wr (s : State) (f : Fld) (v : Nat) (c' : Nat) : (s.wr f v).cap c' = s.cap c' := rfl
@[simp] theorem State.cap_incSat (s : State) (f : Fld) (c' : Nat) : (s.incSat f).cap c' = s.cap c' := rfl
@[simp] theorem State.cap_incMod (s : State) (f : Fld) (c' : Nat) : (s.incMod f).cap c' = s.cap c' := rfl
@[simp] theorem State.cap_setCtr (s : State) (a v : Nat) (c' : Nat) : (s.setCtr a v).cap c' = s.cap c' := rfl
@[simp] theorem State.cap_addCtr (s : State) (a n : Nat) (c' : Nat) : (s.addCtr a n).cap c' = s.cap c' := rfl
@[simp] theorem State.cap_setByte (s : State) (a i b : Nat) (v : Byte) (c' : Nat) : (s.setByte a i b v).cap c' = s.cap c' := rfl
@[simp] theorem State.cap_setTag (s : State) (a i w : Nat) (x : Option WordTag) (c' : Nat) : (s.setTag a i w x).cap c' = s.cap c' := rfl
@[simp] theorem State.cap_tookFree (s : State) (c' : Nat) : (s.tookFree).cap c' = s.cap c' := rfl
@[simp] theorem State.cap_calm (s : State) (c' : Nat) : (s.calm).cap c' = s.cap c' := rfl
@[simp] theorem State.cap_setRxd (s : State) (f d : Nat) (x : RxdX) (c' : Nat) : (s.setRxd f d x).cap c' = s.cap c' := rfl
@[simp] theorem State.cap_setLane (s : State) (f p : Nat) (x : LaneX) (c' : Nat) : (s.setLane f p x).cap c' = s.cap c' := rfl
@[simp] theorem State.cap_setSeam (s : State) (f p : Nat) (x : SeamX) (c' : Nat) : (s.setSeam f p x).cap c' = s.cap c' := rfl
@[simp] theorem State.cap_setFace (s : State) (f : Nat) (x : FaceX) (c' : Nat) : (s.setFace f x).cap c' = s.cap c' := rfl
@[simp] theorem State.cap_setHw (s : State) (n : Nat) (x : HewerX) (c' : Nat) : (s.setHw n x).cap c' = s.cap c' := rfl
@[simp] theorem State.cap_setRail (s : State) (c : Nat) (x : RailX) (c' : Nat) : (s.setRail c x).cap c' = s.cap c' := rfl
@[simp] theorem State.cap_setShape (s : State) (f d : Nat) (x : ShapeSet) (c' : Nat) : (s.setShape f d x).cap c' = s.cap c' := rfl
@[simp] theorem State.cap_wrs (s : State) (l : List (Fld × Nat)) (c' : Nat) : (s.wrs l).cap c' = s.cap c' := by
  unfold State.cap; rw [State.wrs_caps]

end Sys2Proof.Machine
end

