-- ==== Sys2Proof/Laws/Bits.lean ====
section
/-!
SUPPORT. Sys2Proof/Laws/Bits.lean: reading a bit field after writing it or a disjoint one.
-/
namespace Sys2Proof.Laws
open Sys2Proof Sys2Proof.Machine

theorem fieldSet_toNat (w : Word) (lo n v : Nat) (h : lo + n ≤ 32) :
    (fieldSet w lo n v).toNat =
      w.toNat / 2 ^ (lo + n) * 2 ^ (lo + n) + v % 2 ^ n * 2 ^ lo + w.toNat % 2 ^ lo := by
  have hw := w.isLt
  have h1 : v % 2 ^ n < 2 ^ n := Nat.mod_lt _ (by positivity)
  have h2 : w.toNat % 2 ^ lo < 2 ^ lo := Nat.mod_lt _ (by positivity)
  have h3 : v % 2 ^ n * 2 ^ lo + w.toNat % 2 ^ lo < 2 ^ (lo + n) := by
    rw [pow_add]; nlinarith [Nat.mul_le_mul_right (2 ^ lo) (Nat.succ_le_of_lt h1)]
  have h4 : w.toNat / 2 ^ (lo + n) < 2 ^ (32 - (lo + n)) := by
    rw [Nat.div_lt_iff_lt_mul (by positivity), ← pow_add]
    rwa [Nat.sub_add_cancel h]
  have h5 : 2 ^ (32 - (lo + n)) * 2 ^ (lo + n) = 2 ^ 32 := by
    rw [← pow_add, Nat.sub_add_cancel h]
  unfold fieldSet
  rw [BitVec.toNat_ofNat, Nat.mod_eq_of_lt]
  have : (w.toNat / 2 ^ (lo + n) + 1) * 2 ^ (lo + n) ≤ 2 ^ 32 := by
    rw [← h5]; exact Nat.mul_le_mul_right _ h4
  rw [add_mul, one_mul] at this
  omega

theorem fieldGet_set_same (w : Word) (lo n v : Nat) (h : lo + n ≤ 32) :
    fieldGet (fieldSet w lo n v) lo n = v % 2 ^ n := by
  have h2 : w.toNat % 2 ^ lo < 2 ^ lo := Nat.mod_lt _ (by positivity)
  have h1 : v % 2 ^ n < 2 ^ n := Nat.mod_lt _ (by positivity)
  unfold fieldGet
  rw [fieldSet_toNat w lo n v h, pow_add]
  have e : w.toNat / (2 ^ lo * 2 ^ n) * (2 ^ lo * 2 ^ n) + v % 2 ^ n * 2 ^ lo + w.toNat % 2 ^ lo
      = w.toNat % 2 ^ lo + 2 ^ lo * (w.toNat / (2 ^ lo * 2 ^ n) * 2 ^ n + v % 2 ^ n) := by ring
  rw [e, Nat.add_mul_div_left _ _ (by positivity), Nat.div_eq_of_lt h2, zero_add,
    Nat.mul_comm, Nat.mul_add_mod, Nat.mod_mod]

theorem fieldSet_testBit (w : Word) (lo n v : Nat) (h : lo + n ≤ 32) (i : Nat) :
    (fieldSet w lo n v).toNat.testBit i =
      if lo ≤ i ∧ i < lo + n then v.testBit (i - lo) else w.toNat.testBit i := by
  rw [fieldSet_toNat w lo n v h]
  have h2 : w.toNat % 2 ^ lo < 2 ^ lo := Nat.mod_lt _ (by positivity)
  have h1 : v % 2 ^ n < 2 ^ n := Nat.mod_lt _ (by positivity)
  have h3 : v % 2 ^ n * 2 ^ lo + w.toNat % 2 ^ lo < 2 ^ (lo + n) := by
    rw [pow_add]; nlinarith [Nat.mul_le_mul_right (2 ^ lo) (Nat.succ_le_of_lt h1)]
  rw [add_assoc, Nat.mul_comm (w.toNat / _), Nat.testBit_two_pow_mul_add _ h3]
  by_cases hi : i < lo + n
  · simp only [hi, if_true, and_true]
    rw [Nat.mul_comm (v % _), Nat.testBit_two_pow_mul_add _ h2]
    by_cases hl : i < lo
    · have : ¬ lo ≤ i := by omega
      simp [hl, this, Nat.testBit_mod_two_pow]
    · have h4 : lo ≤ i := by omega
      have h5 : i - lo < n := by omega
      simp [hl, h4, Nat.testBit_mod_two_pow, h5]
  · simp only [hi, if_false, and_false]
    rw [Nat.testBit_div_two_pow]
    congr 1; omega

/-- A field disjoint from the one written keeps its value. -/
theorem fieldGet_set_other (w : Word) (lo n v lo' n' : Nat) (h : lo + n ≤ 32)
    (hd : lo' + n' ≤ lo ∨ lo + n ≤ lo') :
    fieldGet (fieldSet w lo n v) lo' n' = fieldGet w lo' n' := by
  unfold fieldGet
  apply Nat.eq_of_testBit_eq
  intro i
  simp only [Nat.testBit_mod_two_pow, Nat.testBit_div_two_pow]
  by_cases hi : i < n'
  · rw [fieldSet_testBit w lo n v h]
    have : ¬ (lo ≤ i + lo' ∧ i + lo' < lo + n) := by omega
    simp [hi, this]
  · simp [hi]

end Sys2Proof.Laws
end

