-- ==== Sys2Proof/Laws/Tab.lean ====
section
/-!
SUPPORT. Sys2Proof/Laws/Tab.lean: the laws of sparse tables: a read after a write at the same key gives the value written,
a write leaves every other key alone, and every operation keeps the canonical form.
-/
namespace Sys2Proof.Laws
open Sys2Proof Sys2Proof.Machine

variable {α : Type}

theorem tabGet_del_same (d : α) (t : Tab α) (k : Nat) : tabGet d (tabDel t k) k = d := by
  induction t with
  | nil => rfl
  | cons e t ih =>
    by_cases h : e.1 = k
    · simpa [tabDel, h] using ih
    · have h' : (e.1 != k) = true := by simpa using h
      simp only [tabDel, List.filter_cons, h', if_true] at ih ⊢
      simpa [tabGet, h] using ih

theorem tabGet_del_other (d : α) (t : Tab α) {k j : Nat} (h : j ≠ k) :
    tabGet d (tabDel t k) j = tabGet d t j := by
  induction t with
  | nil => rfl
  | cons e t ih =>
    by_cases hk : e.1 = k
    · have : e.1 ≠ j := fun he => h (he.symm.trans hk)
      simp only [tabDel, List.filter_cons, hk, bne_self_eq_false, Bool.false_eq_true, if_false] at ih ⊢
      simpa [tabGet, this, tabDel] using ih
    · have h' : (e.1 != k) = true := by simpa using hk
      simp only [tabDel, List.filter_cons, h', if_true] at ih ⊢
      by_cases hj : e.1 = j <;> simp [tabGet, hj, ih]

theorem tabGet_ins_same (d : α) (t : Tab α) (k : Nat) (v : α) (h : ∀ e ∈ t, e.1 ≠ k) :
    tabGet d (tabIns k v t) k = v := by
  induction t with
  | nil => simp [tabIns, tabGet]
  | cons e t ih =>
    obtain ⟨k', v'⟩ := e
    by_cases hk : k < k'
    · simp [tabIns, hk, tabGet]
    · have hne : k' ≠ k := h (k', v') (List.mem_cons_self ..)
      simp [tabIns, hk, tabGet, hne]
      exact ih fun e he => h e (List.mem_cons_of_mem _ he)

theorem tabGet_ins_other (d : α) (t : Tab α) {k j : Nat} (v : α) (h : j ≠ k) :
    tabGet d (tabIns k v t) j = tabGet d t j := by
  induction t with
  | nil => simp [tabIns, tabGet, h.symm]
  | cons e t ih =>
    obtain ⟨k', v'⟩ := e
    by_cases hk : k < k'
    · simp [tabIns, hk, tabGet, h.symm]
    · simp only [tabIns, hk, if_false, tabGet, ih]

theorem tabDel_keys (t : Tab α) (k : Nat) : ∀ e ∈ tabDel t k, e.1 ≠ k := by
  intro e he
  simpa using (List.mem_filter.mp he).2

@[simp] theorem tabGet_set_same [DecidableEq α] (d : α) (t : Tab α) (k : Nat) (v : α) :
    tabGet d (tabSet d t k v) k = v := by
  unfold tabSet
  split
  · rename_i h; rw [h]; exact tabGet_del_same d t k
  · exact tabGet_ins_same d _ k v (tabDel_keys t k)

theorem tabGet_set_other [DecidableEq α] (d e : α) (t : Tab α) {k j : Nat} (v : α) (h : j ≠ k) :
    tabGet d (tabSet e t k v) j = tabGet d t j := by
  unfold tabSet
  split
  · exact tabGet_del_other d t h
  · rw [tabGet_ins_other d _ v h, tabGet_del_other d t h]

theorem tabGet_drop (d : α) (t : Tab α) (p : Nat → Bool) (k : Nat) :
    tabGet d (tabDrop p t) k = if p k then d else tabGet d t k := by
  induction t with
  | nil => simp [tabDrop, tabGet]
  | cons e t ih =>
    obtain ⟨k', v'⟩ := e
    by_cases hp : p k' <;> by_cases hk : k' = k
    · subst hk; simp [tabDrop, hp] at ih ⊢; exact ih
    · simp [tabDrop, hp, tabGet, hk] at ih ⊢; exact ih
    · subst hk; simp [tabDrop, hp, tabGet]
    · simp [tabDrop, hp, tabGet, hk] at ih ⊢; exact ih

/-! ## The canonical form -/

theorem tabSorted_cons {k : Nat} {v : α} {t : Tab α} :
    tabSorted ((k, v) :: t) = true ↔ (∀ e ∈ t, k < e.1) ∧ tabSorted t = true := by
  induction t generalizing k v with
  | nil => simp [tabSorted]
  | cons e t ih =>
    obtain ⟨k', v'⟩ := e
    simp only [tabSorted, Bool.and_eq_true, decide_eq_true_eq]
    constructor
    · rintro ⟨h1, h2⟩
      refine ⟨fun e he => ?_, h2⟩
      rcases List.mem_cons.mp he with rfl | he
      · exact h1
      · exact h1.trans ((ih.mp h2).1 e he)
    · rintro ⟨h1, h2⟩
      exact ⟨h1 _ (List.mem_cons_self ..), h2⟩

theorem tabSorted_filter {t : Tab α} (p : Nat × α → Bool) (h : tabSorted t = true) :
    tabSorted (t.filter p) = true := by
  induction t with
  | nil => rfl
  | cons e t ih =>
    obtain ⟨k, v⟩ := e
    obtain ⟨h1, h2⟩ := tabSorted_cons.mp h
    by_cases hp : p (k, v)
    · rw [List.filter_cons_of_pos hp]
      exact tabSorted_cons.mpr ⟨fun e he => h1 e (List.mem_filter.mp he).1, ih h2⟩
    · rw [List.filter_cons_of_neg hp]; exact ih h2

theorem tabIns_mem {k : Nat} {v : α} {t : Tab α} {e : Nat × α} :
    e ∈ tabIns k v t ↔ e = (k, v) ∨ e ∈ t := by
  induction t with
  | nil => simp [tabIns]
  | cons f t ih =>
    obtain ⟨k', v'⟩ := f
    by_cases hk : k < k'
    · simp [tabIns, hk]
    · simp [tabIns, hk, ih]; tauto

theorem tabSorted_ins {k : Nat} {v : α} {t : Tab α} (h : tabSorted t = true) (hk : ∀ e ∈ t, e.1 ≠ k) :
    tabSorted (tabIns k v t) = true := by
  induction t with
  | nil => rfl
  | cons e t ih =>
    obtain ⟨k', v'⟩ := e
    obtain ⟨h1, h2⟩ := tabSorted_cons.mp h
    by_cases hlt : k < k'
    · simp only [tabIns, hlt, if_true]
      refine tabSorted_cons.mpr ⟨fun e he => ?_, h⟩
      rcases List.mem_cons.mp he with rfl | he
      · exact hlt
      · exact hlt.trans (h1 e he)
    · simp only [tabIns, hlt, if_false]
      refine tabSorted_cons.mpr ⟨fun e he => ?_, ih h2 fun e he => hk e (List.mem_cons_of_mem _ he)⟩
      rcases tabIns_mem.mp he with rfl | he
      · have := hk (k', v') (List.mem_cons_self ..)
        simp only at this ⊢; omega
      · exact h1 e he

theorem tabWf_filter [DecidableEq α] {d : Nat → α} {t : Tab α} (p : Nat × α → Bool) (h : tabWf d t = true) :
    tabWf d (t.filter p) = true := by
  simp only [tabWf, Bool.and_eq_true, List.all_eq_true, decide_eq_true_eq] at h ⊢
  exact ⟨tabSorted_filter p h.1, fun e he => h.2 e (List.mem_filter.mp he).1⟩

/-- A write keeps the canonical form. -/
theorem tabWf_set [DecidableEq α] {d : Nat → α} {t : Tab α} (k : Nat) (v : α) (h : tabWf d t = true) :
    tabWf d (tabSet (d k) t k v) = true := by
  have hd : tabWf d (tabDel t k) = true := tabWf_filter _ h
  unfold tabSet
  split
  · exact hd
  · rename_i hv
    simp only [tabWf, Bool.and_eq_true, List.all_eq_true, decide_eq_true_eq] at hd ⊢
    refine ⟨tabSorted_ins hd.1 (tabDel_keys t k), fun e he => ?_⟩
    rcases tabIns_mem.mp he with rfl | he
    · exact hv
    · exact hd.2 e he

/-- Dropping keys keeps the canonical form. -/
theorem tabWf_drop [DecidableEq α] {d : Nat → α} {t : Tab α} (p : Nat → Bool) (h : tabWf d t = true) :
    tabWf d (tabDrop p t) = true := tabWf_filter _ h

end Sys2Proof.Laws
end

