-- ==== Sys2Proof/Laws/Ops.lean ====
section
/-!
SUPPORT. Sys2Proof/Laws/Ops.lean: what the shared operations do, said once: reads after writes of registers, fields, counters and per-unit
records; flags; guarded effects.
-/
namespace Sys2Proof.Machine
open Sys2Proof Sys2Proof.Laws

/-! ## Registers -/

@[simp] theorem State.reg_setReg_same (s : State) (a : Nat) (w : Word) : (s.setReg a w).reg a = w := by
  simp [State.reg, State.setReg]

theorem State.reg_setReg_other (s : State) {a b : Nat} (w : Word) (h : b ≠ a) : (s.setReg a w).reg b = s.reg b := by
  simp only [State.reg, State.setReg]
  exact tabGet_set_other _ _ _ _ h

theorem State.reg_setReg (s : State) (a b : Nat) (w : Word) : (s.setReg a w).reg b = if b = a then w else s.reg b := by
  by_cases h : b = a
  · subst h; simp
  · simp [h, State.reg_setReg_other _ _ h]

theorem State.reg_wr_other (s : State) (f : Fld) (v : Nat) {b : Nat} (h : b ≠ f.addr) : (s.wr f v).reg b = s.reg b :=
  State.reg_setReg_other _ _ h

@[simp] theorem State.reg_wr_same (s : State) (f : Fld) (v : Nat) :
    (s.wr f v).reg f.addr = fieldSet (s.reg f.addr) f.lo f.width v := State.reg_setReg_same _ _ _

/-- A field reads as it was written, within its width. -/
theorem State.rd_wr_same (s : State) (f : Fld) (v : Nat) (h : f.lo + f.width ≤ 32) : (s.wr f v).rd f = v % 2 ^ f.width := by
  simp [State.rd, fieldGet_set_same _ _ _ _ h]

/-- A field of another register is left alone. -/
theorem State.rd_wr_addr (s : State) (f g : Fld) (v : Nat) (h : g.addr ≠ f.addr) : (s.wr f v).rd g = s.rd g := by
  simp [State.rd, State.reg_wr_other _ _ _ h]

/-- A field apart in the same register is left alone. -/
theorem State.rd_wr_apart (s : State) (f g : Fld) (v : Nat) (hf : f.lo + f.width ≤ 32)
    (h : f.addr = g.addr → g.lo + g.width ≤ f.lo ∨ f.lo + f.width ≤ g.lo) : (s.wr f v).rd g = s.rd g := by
  by_cases ha : g.addr = f.addr
  · have h' := h ha.symm
    simp only [State.rd, ha, State.reg_wr_same]
    exact fieldGet_set_other _ _ _ _ _ _ hf h'
  · exact State.rd_wr_addr _ _ _ _ ha

theorem State.on_wr_same (s : State) (f : Fld) (v : Nat) (h : f.lo + f.width ≤ 32) : (s.wr f v).on f = (v % 2 ^ f.width == 1) := by
  simp [State.on, State.rd_wr_same _ _ _ h]

theorem State.on_wr_addr (s : State) (f g : Fld) (v : Nat) (h : g.addr ≠ f.addr) : (s.wr f v).on g = s.on g := by
  simp [State.on, State.rd_wr_addr _ _ _ _ h]

theorem State.on_wr_apart (s : State) (f g : Fld) (v : Nat) (hf : f.lo + f.width ≤ 32)
    (h : f.addr = g.addr → g.lo + g.width ≤ f.lo ∨ f.lo + f.width ≤ g.lo) : (s.wr f v).on g = s.on g := by
  simp [State.on, State.rd_wr_apart _ _ _ _ hf h]

theorem State.rd_lt (s : State) (f : Fld) : s.rd f < 2 ^ f.width := Nat.mod_lt _ (Nat.two_pow_pos _)

@[simp] theorem State.wrs_nil (s : State) : s.wrs [] = s := rfl
@[simp] theorem State.wrs_cons (s : State) (f : Fld) (v : Nat) (l : List (Fld × Nat)) : s.wrs ((f, v) :: l) = (s.wr f v).wrs l := rfl

/-- Several fields leave every other register alone. -/
theorem State.reg_wrs_other (s : State) (l : List (Fld × Nat)) {b : Nat} (h : ∀ e ∈ l, b ≠ e.1.addr) : (s.wrs l).reg b = s.reg b := by
  induction l generalizing s with
  | nil => rfl
  | cons e l ih =>
    have h1 : b ≠ e.1.addr := h e (by simp)
    have h2 : ∀ x ∈ l, b ≠ x.1.addr := fun x hx => h x (by simp [hx])
    calc (s.wrs (e :: l)).reg b = ((s.wr e.1 e.2).wrs l).reg b := rfl
      _ = (s.wr e.1 e.2).reg b := ih _ h2
      _ = s.reg b := State.reg_wr_other _ _ _ h1

/-- A register reads its Reset column once its entries are dropped. -/
theorem State.reg_dropRegs (s : State) (p : Nat → Bool) (a : Nat) : (s.dropRegs p).reg a = if p a then resetWord a else s.reg a := by
  simp only [State.reg, State.dropRegs]
  exact tabGet_drop _ _ _ _

/-! ## Counters and per-unit records -/

@[simp] theorem State.ctr_setCtr_same (s : State) (a v : Nat) : (s.setCtr a v).ctr a = v % 2 ^ 48 := by
  simp [State.ctr, State.setCtr]

theorem State.ctr_setCtr_other (s : State) {a b : Nat} (v : Nat) (h : b ≠ a) : (s.setCtr a v).ctr b = s.ctr b := by
  simp only [State.ctr, State.setCtr]
  exact tabGet_set_other _ _ _ _ h

@[simp] theorem State.ctr_addCtr_same (s : State) (a n : Nat) : (s.addCtr a n).ctr a = (s.ctr a + n) % 2 ^ 48 := State.ctr_setCtr_same _ _ _

theorem State.ctr_addCtr_other (s : State) {a b : Nat} (n : Nat) (h : b ≠ a) : (s.addCtr a n).ctr b = s.ctr b :=
  State.ctr_setCtr_other _ _ h

@[simp] theorem State.face_setFace_same (s : State) (f : Nat) (x : FaceX) : (s.setFace f x).face f = x := by
  simp [State.face, State.setFace]

theorem State.face_setFace_other (s : State) {f g : Nat} (x : FaceX) (h : g ≠ f) : (s.setFace f x).face g = s.face g := by
  simp only [State.face, State.setFace]
  exact tabGet_set_other _ _ _ _ h

@[simp] theorem State.hw_setHw_same (s : State) (n : Nat) (x : HewerX) : (s.setHw n x).hw n = x := by simp [State.hw, State.setHw]

theorem State.hw_setHw_other (s : State) {n m : Nat} (x : HewerX) (h : m ≠ n) : (s.setHw n x).hw m = s.hw m := by
  simp only [State.hw, State.setHw]
  exact tabGet_set_other _ _ _ _ h

@[simp] theorem State.lane_setLane_same (s : State) (f p : Nat) (x : LaneX) : (s.setLane f p x).lane f p = x := by
  simp [State.lane, State.setLane]

@[simp] theorem State.seam_setSeam_same (s : State) (f p : Nat) (x : SeamX) : (s.setSeam f p x).seam f p = x := by
  simp [State.seam, State.setSeam]

@[simp] theorem State.rxd_setRxd_same (s : State) (f d : Nat) (x : RxdX) : (s.setRxd f d x).rxd f d = x := by
  simp [State.rxd, State.setRxd]

@[simp] theorem State.rail_setRail_same (s : State) (c : Nat) (x : RailX) : (s.setRail c x).rail c = x := by
  simp [State.rail, State.setRail]

@[simp] theorem State.cap_setCap_same (s : State) (c : Nat) (x : ObsRec) : (s.setCap c x).cap c = x := by simp [State.cap, State.setCap]

/-! ## Guards and flags -/

@[simp] theorem guardS_true (s : State) (f : State → State) : guardS true s f = f s := rfl
@[simp] theorem guardS_false (s : State) (f : State → State) : guardS false s f = s := rfl

theorem State.on_iff (s : State) (f : Fld) : s.on f = true ↔ s.rd f = 1 := by simp [State.on]

/-- A tripped Canary, a part without power or one that start-up has not reached runs no core logic. -/
theorem alive_of (s : State) (h : s.alive = true) : s.powered = true ∧ s.canary = false ∧ s.started = true := by
  unfold State.alive at h
  simp only [Bool.and_eq_true, Bool.not_eq_true'] at h
  exact ⟨h.1.1.1, h.1.1.2, h.1.2⟩

theorem alive_canary (s : State) (h : s.canary = true) : s.alive = false := by simp [State.alive, h]

theorem alive_unpowered (s : State) (h : s.powered = false) : s.alive = false := by simp [State.alive, h]

end Sys2Proof.Machine
end

