-- ==== Sys2Proof/Safety.lean ====
section
/-!
DEFINITION. Sys2Proof/Safety.lean: the words in which the statements speak: a command that completes with a fact about the next state, the
registers, counters and bytes that a command leaves alone, and the register blocks of the address map (R318, R320).
-/
namespace Sys2Proof.Machine
open Sys2Proof

/-- Command `i` answers a next state from `s`, and `P` holds of it. -/
def Completes (i : Instr) (s : State) (P : State → Prop) : Prop := ∃ t, exec i s = .next t ∧ P t

/-- Every register whose address is not in `p` reads as before. -/
def RegsKept (p : Nat → Bool) (s t : State) : Prop := ∀ a, p a = false → t.reg a = s.reg a

/-- Every register and every 48-bit counter (R328) whose address is not in `p` reads as before. -/
def WordsKept (p : Nat → Bool) (s t : State) : Prop := ∀ a, p a = false → t.reg a = s.reg a ∧ t.ctr a = s.ctr a

/-- Every byte of on-chip memory and DDR4 whose ARRAY, INDEX and place are not in `p` reads as before. -/
def BytesKept (p : Nat → Nat → Nat → Bool) (s t : State) : Prop :=
  ∀ a i b, i < 256 → b < 2 ^ 40 → p a i b = false → t.byte a i b = s.byte a i b

/-- The Tally store, array 0x07 (R398, R417). -/
def inStore (a _i _b : Nat) : Bool := a == 7

/-- Nothing but registers, counters, Tally records, notices, messages and free values changed: what an instruction of a family may
change besides its own registers, said of the whole state. -/
def RestKept (s t : State) : Prop :=
  t.flash = s.flash ∧ t.time = s.time ∧ t.mono = s.mono ∧ t.powered = s.powered ∧ t.canary = s.canary ∧ t.started = s.started ∧
    t.plan = s.plan ∧ t.ops = s.ops ∧ t.otp = s.otp ∧ t.pending = s.pending ∧ t.sessions.length = s.sessions.length

/-- The registers that an event may write whatever caused it: HEAD_SEQ, TALLY_STATUS, TALLY_LOST, the armed flip that the stored
record takes, and the status, trigger stamp and position of the capture channels (R247, R403, R417, R424). -/
def eventReg (a : Nat) : Bool :=
  a == HEAD_SEQ || a == TALLY_STATUS || a == TALLY_LOST_A || a == TALLY_LOST_B || a == MEM_FLIP_CTRL ||
    (List.range 4).any fun c => a == CAP_STATUS c || a == CAP_TRIG_STAMP_LO c || a == CAP_TRIG_STAMP_HI c || a == CAP_TRIG_POS c

/-- The same, and the performance counters and overflow words of the counter blocks (R428, R430). -/
def countReg (a : Nat) : Bool := eventReg a || (List.range 73).any fun b => a == PC_OVF b || (List.range 8).any fun i => a == PC_COUNT b i


/-- The address lies in the port table (R318). -/
def inPorts (a : Nat) : Bool := decide (0x03000000 ≤ a) && decide (a < 0x03002000)

/-- The address lies in Hewer `n`'s control block (R318, R320). -/
def inHewer (n a : Nat) : Bool := decide (hwAt n ≤ a) && decide (a < hwAt n + 0x1000)

/-- The address lies in a host lane's block (R318). -/
def inHost (h a : Nat) : Bool := decide (hostAt h ≤ a) && decide (a < hostAt h + 0x100)

/-- The address lies in the named range. -/
def inRange (lo hi a : Nat) : Bool := decide (lo ≤ a) && decide (a < hi)

/-- An access reaches its block: the part runs, the word exists, its domains answer (R319), and no BIST slice hides it (R391). -/
def Reaches (s : State) (a : Nat) : Prop := s.alive = true ∧ domStatus s a = (stOk, 0) ∧ bistHides s a = false

/-- A request of session `x` that R297 to R308 let through to its execution: known session and port, good tag, a new SEQUENCE, room
among the sixteen, the session's version, AUTH done, the boot load over, and a version and privilege that take it. -/
def Accepted (s : State) (r : Req) (x : Session) (op : Nat) (payload : List Nat) (least : Nat) (since : Since) : Prop :=
  portAlive s r.port.val = true ∧ s.session r.session.toNat = some x ∧ x.port = r.port.val ∧ tagOk x r op payload = true ∧
    (∀ m ∈ x.cache, m.seq ≠ r.seq.toNat) ∧ r.seq ∉ r.executing ∧ r.executing.length < 16 ∧ x.high < r.seq.toNat ∧
    256 * r.major.toNat + r.minor.toNat = x.ver ∧ x.authed = true ∧ (s.booting = true → op = 0x10) ∧ since.takes x.ver = true ∧ least ≤ x.priv

/-- Among the messages sent from `s` to `t` is the reply to the request, with this STATUS and payload. -/
def Answered (s t : State) (r : Req) (op st : Nat) (ws : List Word) : Prop :=
  ∃ a b, ∃ m : Msg, t.tx = s.tx ++ a ++ m :: b ∧ m.session = r.session.toNat ∧ m.seq = r.seq.toNat ∧ m.op = op ∧ m.flags = 1 ∧ m.status = st ∧
    m.words = ws

/-- From `s` to `t` the session's request began one long operation in QUEUED, under a handle that was not in use, and the reply carries it
(R311). -/
def Begun (s t : State) (r : Req) (x : Session) (k : OpKind) : Prop :=
  ∃ h, 1 ≤ h ∧ h ≤ 65535 ∧ s.op h = none ∧ t.ops = s.ops ++ [{ handle := h, kind := k, session := x.id, priv := x.priv }] ∧
    Answered s t r 0x20 stOk [BitVec.ofNat 32 h]

/-- The request was refused with this STATUS, and no operation began (R311). -/
def NotBegun (s t : State) (r : Req) (st : Nat) : Prop := t.ops = s.ops ∧ Answered s t r 0x20 st []

/-- The request about operation `h` was answered with this STATUS, and the operation is in this state afterwards (R313). -/
def OpShows (s t : State) (r : Req) (h : BitVec 16) (op st : Nat) (v : Option OpState) : Prop :=
  Answered s t r op st [] ∧ (t.op h.toNat).map LongOp.state = v

/-- Operation `o` ended in this state, with its RESULT, the time and PROGRESS, and the session that started it was told (R311). -/
def OpEnded (s t : State) (h : BitVec 16) (o : LongOp) (st : OpState) (result progress : Nat) : Prop :=
  (∃ e, t.op h.toNat = some e ∧ e.state = st ∧ e.result = result ∧ e.finish = s.time ∧ e.progress = progress) ∧
    ∀ y, s.sessions.find? (fun y => y.id == o.session) = some y → ∃ m ∈ t.tx, m.session = y.id ∧ m.flags = 2 ∧ m.op = 0x24

/-- The AGC gain that a lane has once the AGC, where it runs, has taken `g` (R85, R86). -/
def gainNow (s : State) (f p g : Nat) : Nat := if s.on (LANE_AGC_FROZEN f p) then s.rd (LANE_AGC_GAIN f p) else g

/-- Hewer `n` is about to execute the instruction at `pc`: it runs, no overlay copy covers `pc`, and no active loop ends there (R272, R285). -/
def HewerAt (s : State) (n pc : Nat) : Prop := hewerMay s n = true ∧ s.rd (HW_STATUS_PC n) = pc ∧ atLoopEnd (s.hw n) pc = false

/-- Command `c` leaves Hewer `n` running with the internal registers `x`, one more cycle counted, and its PC at `pc`. -/
def Retires (c : Instr) (s : State) (n : Nat) (x : HewerX) (pc : Nat) : Prop :=
  Completes c s fun t => t.hw n = { x with cycles := (x.cycles + 1) % 2 ^ 32 } ∧ t.rd (HW_STATUS_PC n) = pc % 2 ^ 16 ∧ t.rd (HW_STATUS_STATE n) = 1

/-- Command `c` traps Hewer `n`: TRAPPED with the cause and the address of the instruction, its internal registers as they were (R278). -/
def Traps (c : Instr) (s : State) (n cause : Nat) : Prop :=
  Completes c s fun t => t.rd (HW_STATUS_STATE n) = 4 ∧ t.rd (HW_STATUS_CAUSE n) = cause ∧ t.rd (HW_STATUS_PC n) = s.rd (HW_STATUS_PC n) ∧
    t.hw n = s.hw n

/-- What the working state names exists (R5, R76, R77, R230, R370, R371): slices, sets, faces and lanes of Survey's items, of the values that
lanes hold before a commit or keep for a return, and of CALIBRATE operations; and the position of a handshake to be proposed again. -/
def NamesWf (s : State) : Prop :=
  (∀ x ∈ s.calQ, x.f < 16 ∧ x.p ≤ 9 ∧ x.slice ≤ 64 ∧ x.set < 5 ∧ ∀ e ∈ x.staging, e.1 ≤ 64) ∧
    (∀ e ∈ s.lanes, (∀ a ∈ e.2.accepted, a.1 ≤ 64) ∧ ∀ r, e.2.revert = some r → r.1 < 5 ∧ ∀ a ∈ r.2.2.1, a.1 ≤ 64) ∧
    (∀ e ∈ s.faces, ∀ k, e.2.hs.again = some k → k < 8) ∧
    ∀ o ∈ s.ops, ∀ f lanes kind, o.kind = .calibrate f lanes kind → f < 16

end Sys2Proof.Machine
end

