-- ==== Sys2Proof/Laws/Bus.lean ====
section
/-!
SUPPORT. Sys2Proof/Laws/Bus.lean: what a register write that reaches its block does, said once: the direct agent leaves no diagnostics, and a
write that passes its checks is the block's own effect, its status in `busStatus`, and what it leaves to run after it.
-/
namespace Sys2Proof.Machine
open Sys2Proof Sys2Proof.Laws

/-- Nothing waits: nothing runs. -/
theorem settle_nil (s : State) (h : s.defer = []) : settle s = s := by
  unfold settle
  cases s
  simp only at h
  subst h
  rfl

/-- One action waits. -/
theorem settle_one (s : State) (d : Deferred) (h : s.defer = [d]) (hn : (runDeferred { s with defer := [] } d).defer = []) :
    settle s = runDeferred { s with defer := [] } d := by
  have e : settle s = settleN 63 (runDeferred { s with defer := [] } d) := by
    cases s
    simp only at h
    subst h
    rfl
  rw [e]
  generalize runDeferred { s with defer := [] } d = u at hn
  cases u
  simp only at hn
  subst hn
  rfl

/-- Re-arming changes nothing but the log of R322. -/
theorem accRearm_rest (s : State) : accRearm s = { s with accLog := (accRearm s).accLog } := by
  unfold accRearm
  split <;> rfl

@[simp] theorem accRearm_reg (s : State) (a : Nat) : (accRearm s).reg a = s.reg a := by rw [accRearm_rest]; rfl
@[simp] theorem accRearm_rd (s : State) (f : Fld) : (accRearm s).rd f = s.rd f := by rw [accRearm_rest]; rfl
@[simp] theorem accRearm_on (s : State) (f : Fld) : (accRearm s).on f = s.on f := by rw [accRearm_rest]; rfl
@[simp] theorem accRearm_defer (s : State) : (accRearm s).defer = s.defer := by rw [accRearm_rest]

theorem domStatus_accLog (s : State) (l : List (Nat × Nat)) (a : Nat) : domStatus { s with accLog := l } a = domStatus s a := rfl
theorem domStatus_actor (s : State) (n : Nat) (l : List Deferred) (a : Nat) : domStatus { s with actor := n, defer := l } a = domStatus s a := rfl

/-- A failed write of a command of its own leaves nothing but its status. -/
theorem accessFailed_direct (s : State) (a st dom : Nat) : accessFailed s .direct a st dom = s := by
  unfold accessFailed
  simp only [agentKey]
  split <;> rfl

/-- A word whose domains answer lies in some domain. -/
theorem domsOf_isNone (s : State) (a : Nat) (h : domStatus s a = (stOk, 0)) : (domsOf a).isNone = false := by
  unfold domStatus at h
  split at h
  · simp [stRange, stOk] at h
  · rename_i h1; rw [h1]; rfl

/-- The state in which a register-write command finds the part. -/
def directStart (s : State) : State := accRearm { s with actor := 3, defer := [] }

/-- A register write that reaches its block: the block's effect, its status, and what it leaves to run after it. -/
theorem directWrite_reaches (s : State) (a v : Nat) (h : domStatus s a = (stOk, 0)) (h4 : a % 4 = 0) (hm : ∀ n, hwCtrlOf a = some n → n < 16) :
    directWrite s a v =
      { settle { (blockWrite (directStart s) .direct a (BitVec.ofNat 32 v).toNat).1 with
          busStatus := (blockWrite (directStart s) .direct a (BitVec.ofNat 32 v).toNat).2 } with actor := 7 } := by
  have hd : domStatus (directStart s) a = (stOk, 0) := by
    unfold directStart
    rw [accRearm_rest, domStatus_accLog, domStatus_actor, h]
  have hc : accessCheck (directStart s) .direct a true = (stOk, 0) := by
    have hle : ∀ b : Bool, (if a < 1048576 then 2 else if b = true then 2 else 1) ≤ 3 := by
      intro b; split
      · omega
      · split <;> omega
    unfold accessCheck
    simp only [h4, ne_eq, not_true_eq_false, if_false, domsOf_isNone _ _ hd, Bool.false_eq_true, Bool.true_and]
    have : mayWrite (directStart s) .direct a = true := by
      unfold mayWrite
      cases hn : hwCtrlOf a with
      | none => exact decide_eq_true (hle _)
      | some n =>
        have := hm n hn
        simp [this, agentPriv]
    rw [this]
    simpa using hd
  have hb : busWrite { s with actor := 3, defer := [] } .direct a (BitVec.ofNat 32 v) =
      blockWrite (directStart s) .direct a (BitVec.ofNat 32 v).toNat := by
    unfold busWrite
    change (let (st, dom) := accessCheck (directStart s) .direct a true
      if st ≠ stOk then (accessFailed (directStart s) .direct a st dom, st)
      else
        let (u, st) := blockWrite (directStart s) .direct a (BitVec.ofNat 32 v).toNat
        if st ≠ stOk then (accessFailed u .direct a st 0, st) else (u, stOk)) = _
    rw [hc]
    simp only [ne_eq, not_true_eq_false, if_false, accessFailed_direct]
    split
    · rfl
    · rename_i hst
      simp only [Decidable.not_not] at hst
      rw [← hst]
  unfold directWrite
  rw [hb]

/-- A register-write row that reaches its block. -/
theorem regWriteOut_reaches (s : State) (a v : Nat) (h : Reaches s a) (h4 : a % 4 = 0) (hm : ∀ n, hwCtrlOf a = some n → n < 16) :
    regWriteOut s a v = .next
      { settle { (blockWrite (directStart s) .direct a (BitVec.ofNat 32 v).toNat).1 with
          busStatus := (blockWrite (directStart s) .direct a (BitVec.ofNat 32 v).toNat).2 } with actor := 7 } := by
  unfold regWriteOut
  rw [h.1, guardS_true, directWrite_reaches s a v h.2.1 h4 hm]

end Sys2Proof.Machine
end

