-- ==== Sys2Proof/Laws/Events.lean ====
section
/-!
SUPPORT. Sys2Proof/Laws/Events.lean: everything that logging an event, counting in a performance counter and raising a Hewer's interrupt can do,
said once, so that no proof unfolds them.
-/
namespace Sys2Proof.Machine
open Sys2Proof Sys2Proof.Laws

/-- What events and counts may change: registers in `p`, counters, the Tally store, the state of Tally, notices and free values. -/
structure Quiet (p : Nat → Bool) (s t : State) : Prop where
  rest : t = { s with
    regs := t.regs, ctrs := t.ctrs, bytes := t.bytes, tags := t.tags, gap := t.gap, frozenLost := t.frozenLost, archNext := t.archNext,
    sessions := t.sessions, tx := t.tx, freeCtr := t.freeCtr }
  regs : ∀ a, p a = false → t.reg a = s.reg a
  ctrs : ∀ a, p a = false → t.ctr a = s.ctr a
  bytes : BytesKept inStore s t
  tags : ∀ a i w, i < 256 → w < 2 ^ 40 → a ≠ 7 → t.tag a i w = s.tag a i w
  count : t.sessions.length = s.sessions.length
  tx : ∃ more, t.tx = s.tx ++ more

theorem Quiet.refl (p : Nat → Bool) (s : State) : Quiet p s s :=
  ⟨rfl, fun _ _ => rfl, fun _ _ => rfl, fun _ _ _ _ _ _ => rfl, fun _ _ _ _ _ _ => rfl, rfl, ⟨[], by simp⟩⟩

theorem Quiet.trans {p : Nat → Bool} {s t u : State} (h : Quiet p s t) (k : Quiet p t u) : Quiet p s u where
  rest := by have a := k.rest; have b := h.rest; rw [b] at a; exact a
  regs a ha := (k.regs a ha).trans (h.regs a ha)
  ctrs a ha := (k.ctrs a ha).trans (h.ctrs a ha)
  bytes a i b hi hb ha := (k.bytes a i b hi hb ha).trans (h.bytes a i b hi hb ha)
  tags a i w hi hw ha := (k.tags a i w hi hw ha).trans (h.tags a i w hi hw ha)
  count := k.count.trans h.count
  tx := by
    obtain ⟨x, hx⟩ := h.tx; obtain ⟨y, hy⟩ := k.tx
    exact ⟨x ++ y, by rw [hy, hx, List.append_assoc]⟩

theorem Quiet.mono {p q : Nat → Bool} {s t : State} (h : Quiet p s t) (hpq : ∀ a, q a = false → p a = false) : Quiet q s t :=
  { h with regs := fun a ha => h.regs a (hpq a ha), ctrs := fun a ha => h.ctrs a (hpq a ha) }

theorem Quiet.foldl {α : Type} {p : Nat → Bool} (g : State → α → State) (h : ∀ s x, Quiet p s (g s x)) (l : List α) (s : State) :
    Quiet p s (l.foldl g s) := by
  induction l generalizing s with
  | nil => exact Quiet.refl p s
  | cons x l ih => exact (h s x).trans (ih _)

theorem Quiet.foldl_mem {α : Type} {p : Nat → Bool} (g : State → α → State) (l : List α) (h : ∀ s, ∀ x ∈ l, Quiet p s (g s x)) (s : State) :
    Quiet p s (l.foldl g s) := by
  induction l generalizing s with
  | nil => exact Quiet.refl p s
  | cons x l ih => exact (h s x (by simp)).trans (ih (fun s y hy => h s y (by simp [hy])) _)

theorem Quiet.words {p : Nat → Bool} {s t : State} (h : Quiet p s t) : WordsKept p s t := fun a ha => ⟨h.regs a ha, h.ctrs a ha⟩

theorem Quiet.rd {p : Nat → Bool} {s t : State} (h : Quiet p s t) (f : Fld) (hf : p f.addr = false) : t.rd f = s.rd f := by
  simp [State.rd, h.regs _ hf]

theorem Quiet.on {p : Nat → Bool} {s t : State} (h : Quiet p s t) (f : Fld) (hf : p f.addr = false) : t.on f = s.on f := by
  simp [State.on, h.rd f hf]

/-! ## Single writes -/

theorem quiet_setReg (p : Nat → Bool) (s : State) (a : Nat) (w : Word) (h : p a = true) : Quiet p s (s.setReg a w) where
  rest := rfl
  regs b hb := State.reg_setReg_other _ _ fun e => by rw [e, h] at hb; cases hb
  ctrs _ _ := rfl
  bytes _ _ _ _ _ _ := rfl
  tags _ _ _ _ _ _ := rfl
  count := rfl
  tx := ⟨[], by simp⟩

theorem quiet_wr (p : Nat → Bool) (s : State) (f : Fld) (v : Nat) (h : p f.addr = true) : Quiet p s (s.wr f v) := quiet_setReg p s _ _ h

theorem quiet_incSat (p : Nat → Bool) (s : State) (f : Fld) (h : p f.addr = true) : Quiet p s (s.incSat f) := quiet_wr p s f _ h

theorem quiet_wrs (p : Nat → Bool) (s : State) (l : List (Fld × Nat)) (h : ∀ e ∈ l, p e.1.addr = true) : Quiet p s (s.wrs l) := by
  induction l generalizing s with
  | nil => exact Quiet.refl p s
  | cons e l ih =>
    exact (quiet_wr p s e.1 e.2 (h e (by simp))).trans (ih _ fun x hx => h x (by simp [hx]))

/-- Changes of what no register, byte or valid bit shows. -/
theorem quiet_plain (p : Nat → Bool) (s t : State)
    (h : t = { s with
      gap := t.gap, frozenLost := t.frozenLost, archNext := t.archNext, sessions := t.sessions, tx := t.tx, freeCtr := t.freeCtr })
    (hc : t.sessions.length = s.sessions.length) (hx : ∃ more, t.tx = s.tx ++ more) : Quiet p s t where
  rest := by rw [h]
  regs a _ := by rw [h]; rfl
  ctrs a _ := by rw [h]; rfl
  bytes a i b _ _ _ := by rw [h]; rfl
  tags a i w _ _ _ := by rw [h]; rfl
  count := hc
  tx := hx

theorem quiet_gap (p : Nat → Bool) (s : State) (b : Bool) : Quiet p s { s with gap := b } := quiet_plain p s _ rfl rfl ⟨[], by simp⟩
theorem quiet_frozenLost (p : Nat → Bool) (s : State) (n : Nat) : Quiet p s { s with frozenLost := n } := quiet_plain p s _ rfl rfl ⟨[], by simp⟩
theorem quiet_archNext (p : Nat → Bool) (s : State) (n : Nat) : Quiet p s { s with archNext := n } := quiet_plain p s _ rfl rfl ⟨[], by simp⟩

theorem quiet_setCtr (p : Nat → Bool) (s : State) (a v : Nat) (h : p a = true) : Quiet p s (s.setCtr a v) where
  rest := rfl
  regs _ _ := rfl
  ctrs b hb := tabGet_set_other _ _ _ _ fun e => by rw [e, h] at hb; cases hb
  bytes _ _ _ _ _ _ := rfl
  tags _ _ _ _ _ _ := rfl
  count := rfl
  tx := ⟨[], by simp⟩

theorem quiet_addCtr (p : Nat → Bool) (s : State) (a n : Nat) (h : p a = true) : Quiet p s (s.addCtr a n) := quiet_setCtr p s a _ h

theorem quiet_tookFree (p : Nat → Bool) (s : State) : Quiet p s s.tookFree := quiet_plain p s _ rfl rfl ⟨[], by simp⟩

/-! ## The Tally store -/

theorem memKey_inj {a i b a' i' b' : Nat} (hi : i < 256) (hb : b < 2 ^ 40) (hi' : i' < 256) (hb' : b' < 2 ^ 40)
    (h : memKey a i b = memKey a' i' b') : a = a' ∧ i = i' ∧ b = b' := by
  unfold memKey at h
  omega

theorem quiet_setByte (p : Nat → Bool) (s : State) (b : Nat) (v : Byte) (hb : b < 2 ^ 40) : Quiet p s (s.setByte 7 0 b v) where
  rest := rfl
  regs _ _ := rfl
  ctrs _ _ := rfl
  bytes a i c hi hc ha := by
    simp only [State.byte, State.setByte]
    refine tabGet_set_other _ _ _ _ fun e => ?_
    have := (memKey_inj hi hc (by decide) hb e).1
    simp [inStore, this] at ha
  tags _ _ _ _ _ _ := rfl
  count := rfl
  tx := ⟨[], by simp⟩

theorem quiet_setBytes (p : Nat → Bool) (l : List Nat) (s : State) (b : Nat) (hb : b + l.length ≤ 2 ^ 40) :
    Quiet p s (s.setBytes 7 0 b l) := by
  induction l generalizing s b with
  | nil => exact Quiet.refl p s
  | cons v l ih =>
    simp only [List.length_cons] at hb
    exact (quiet_setByte p s b _ (by omega)).trans (ih _ _ (by omega))

theorem quiet_setTag (p : Nat → Bool) (s : State) (w : Nat) (t : Option WordTag) (hw : w < 2 ^ 40) : Quiet p s (s.setTag 7 0 w t) where
  rest := rfl
  regs _ _ := rfl
  ctrs _ _ := rfl
  bytes _ _ _ _ _ _ := rfl
  tags a i c hi hc ha := by
    simp only [State.tag, State.setTag]
    exact tabGet_set_other _ _ _ _ fun e => ha (memKey_inj hi hc (by decide) hw e).1
  count := rfl
  tx := ⟨[], by simp⟩

theorem length_leBytes (n v : Nat) : (leBytes n v).length = n := by
  induction n generalizing v with
  | zero => rfl
  | succ n ih => simp [leBytes, ih]

theorem quiet_useFlip (p : Nat → Bool) (s : State) (a i w : Nat) (h : p MEM_FLIP_CTRL = true) : Quiet p s (useFlip s a i w) := by
  unfold useFlip
  split
  · exact quiet_wr p s _ _ h
  · exact Quiet.refl p s

theorem quiet_memPutWord (p : Nat → Bool) (s : State) (w d : Nat) (h : p MEM_FLIP_CTRL = true) (hw : w < 2 ^ 36) :
    Quiet p s (memPutWord s 7 0 w d) := by
  unfold memPutWord
  have hm : memWidth 7 = 8 := rfl
  refine ((quiet_useFlip p s 7 0 w h).trans (quiet_setBytes p _ _ _ ?_)).trans (quiet_setTag p _ _ _ (by omega))
  rw [length_leBytes, hm]; omega

theorem quiet_memPutWords (p : Nat → Bool) (l : List Nat) (s : State) (w : Nat) (h : p MEM_FLIP_CTRL = true) (hw : w + l.length ≤ 2 ^ 36) :
    Quiet p s (memPutWords s 7 0 w l) := by
  induction l generalizing s w with
  | nil => exact Quiet.refl p s
  | cons d l ih =>
    simp only [List.length_cons] at hw
    exact (quiet_memPutWord p s w d h (by omega)).trans (ih _ _ (by omega))

/-! ## Events -/

theorem useFlip_tx (s : State) (a i w : Nat) : (useFlip s a i w).tx = s.tx := by
  rw [useFlip]
  by_cases h : flipHits s a i w = true
  · rw [if_pos h]; exact State.wr_tx s _ _
  · rw [if_neg h]

theorem quiet_put (p : Nat → Bool) (s : State) (m : Msg) : Quiet p s { s with tx := s.tx ++ [m] } := quiet_plain p s _ rfl rfl ⟨[m], rfl⟩

/-- All that sending a message can do: a message more, and an armed flip of the transmit buffer taken. -/
theorem quiet_send (p : Nat → Bool) (s : State) (m : Msg) (h : p MEM_FLIP_CTRL = true) : Quiet p s (s.send m) := by
  unfold State.send
  split
  · dsimp only
    split
    · rename_i x _
      have hq := (quiet_tookFree p s).trans (quiet_useFlip p s.tookFree 8 m.port x h)
      have ht : (useFlip s.tookFree 8 m.port x).tx = s.tx := useFlip_tx s.tookFree 8 m.port x
      generalize useFlip s.tookFree 8 m.port x = u at hq ht
      rw [← ht]
      exact hq.trans (quiet_put p u _)
    · exact (quiet_tookFree p s).trans (quiet_put p _ m)
  · exact quiet_put p s m

theorem quiet_sendNotices (s : State) (ws : List Nat) : Quiet eventReg s (sendNotices s ws) := by
  unfold sendNotices
  refine Quiet.trans ?_ (Quiet.foldl _ (fun t m => quiet_send eventReg t m rfl) _ _)
  exact quiet_plain eventReg s _ rfl (by simp) ⟨[], by simp⟩

theorem quiet_storeRecord (s : State) (e : Ev) (n : Bool) : Quiet eventReg s (storeRecord s e n) := by
  unfold storeRecord
  have h1 : Quiet eventReg s (memPutWords s 7 0 (4 * (s.rd HEAD_SEQ_SEQ % 16384))
      (pairWords (recordWords e (s.rd HEAD_SEQ_SEQ) s.time (bit n + 2 * bit s.gap)))) :=
    quiet_memPutWords eventReg _ _ _ rfl (by simp [recordWords, pairWords]; omega)
  dsimp only
  exact (h1.trans (quiet_wr eventReg _ HEAD_SEQ_SEQ (s.rd HEAD_SEQ_SEQ + 1) rfl)).trans (quiet_gap _ _ false)

theorem quiet_storeOwn (s : State) (e : Ev) : Quiet eventReg s (storeOwn s e) := by
  unfold storeOwn
  dsimp only
  split
  · exact (quiet_storeRecord s e _).trans (quiet_sendNotices _ _)
  · exact quiet_storeRecord s e _

theorem quiet_archiveLoss (s : State) : Quiet eventReg s (archiveLoss s) := by
  unfold archiveLoss
  dsimp only
  split
  · refine Quiet.trans ?_ (quiet_storeOwn _ _)
    exact (quiet_archNext eventReg s _).trans (quiet_incSat eventReg _ TALLY_LOST_B_ARCH rfl)
  · exact Quiet.refl _ s

theorem quiet_loseEvent (s : State) (f : Fld) (h : eventReg f.addr = true) : Quiet eventReg s (loseEvent s f) :=
  (quiet_incSat eventReg s f h).trans (quiet_gap _ _ true)

theorem quiet_storeEvent (s : State) (e : Ev) (n : Bool) : Quiet eventReg s (storeEvent s e n) := by
  unfold storeEvent
  split
  · exact (quiet_loseEvent s TALLY_LOST_B_FROZEN rfl).trans (quiet_frozenLost _ _ _)
  · split
    · exact quiet_loseEvent s TALLY_LOST_A_FULL rfl
    · split
      · exact ((quiet_storeOwn s _).trans (quiet_wr eventReg _ TALLY_STATUS_FULL 1 rfl)).trans (quiet_loseEvent _ TALLY_LOST_A_FULL rfl)
      · exact quiet_storeRecord s e n

theorem eventReg_cap (c : Nat) (h : c < 4) (a : Nat)
    (ha : a = CAP_STATUS c ∨ a = CAP_TRIG_STAMP_LO c ∨ a = CAP_TRIG_STAMP_HI c ∨ a = CAP_TRIG_POS c) : eventReg a = true := by
  simp only [eventReg, Bool.or_eq_true, List.any_eq_true, List.mem_range, beq_iff_eq]
  exact .inr ⟨c, h, by tauto⟩

theorem quiet_capFireOne (s : State) (c time pos : Nat) (short : Bool) (h : c < 4) : Quiet eventReg s (capFireOne s c time pos short) := by
  unfold capFireOne
  split
  · refine quiet_wrs _ _ _ fun e he => ?_
    simp only [List.mem_cons, List.not_mem_nil, or_false] at he
    rcases he with rfl | rfl | rfl | rfl | rfl <;> exact eventReg_cap c h _ (by simp)
  · exact Quiet.refl _ s

theorem quiet_capFire (s : State) (c time pos : Nat) (short : Bool) : Quiet eventReg s (capFire s c time pos short) := by
  unfold capFire
  split
  · dsimp only
    generalize s.on (CAP_CFG_GROUP c) = g
    generalize hl : List.range 4 = l
    have hm : ∀ x ∈ l, x < 4 := fun x hx => by rw [← hl] at hx; exact List.mem_range.mp hx
    clear hl
    suffices ∀ t, Quiet eventReg s t → Quiet eventReg s (l.foldl (fun t j =>
        if (j == c || (g && s.on (CAP_CFG_GROUP j))) = true then capFireOne t j time pos short else t) t) from this s (Quiet.refl _ s)
    induction l with
    | nil => exact fun t ht => ht
    | cons x l ih =>
      intro t ht
      refine ih (fun y hy => hm y (by simp [hy])) _ ?_
      dsimp only
      split
      · exact ht.trans (quiet_capFireOne _ _ _ _ _ (hm x (by simp)))
      · exact ht
  · exact Quiet.refl _ s

theorem quiet_capOnEvent (s : State) (code : Nat) : Quiet eventReg s (capOnEvent s code) := by
  unfold capOnEvent
  refine Quiet.foldl _ (fun t c => ?_) _ _
  dsimp only
  split
  · exact (quiet_tookFree _ t).trans (quiet_capFire _ _ _ _ _)
  · exact Quiet.refl _ t

theorem quiet_recordEvent (s : State) (e : Ev) (n : Bool) : Quiet eventReg s (recordEvent s e n) := by
  unfold recordEvent
  split
  · exact (quiet_storeEvent s e _).trans (quiet_sendNotices _ _)
  · exact quiet_storeEvent s e _

theorem quiet_tallyEvent (s : State) (e : Ev) : Quiet eventReg s (tallyEvent s e) := by
  unfold tallyEvent
  split
  · exact Quiet.refl _ s
  · split
    · exact (quiet_archiveLoss s).trans (quiet_recordEvent _ _ _)
    · exact quiet_recordEvent _ _ _

/-- Everything that logging an event can do. -/
theorem quiet_logEvent (s : State) (e : Ev) : Quiet eventReg s (logEvent s e) :=
  (quiet_capOnEvent s e.code).trans (quiet_tallyEvent _ _)

theorem quiet_stickyEvent (p : Nat → Bool) (s : State) (f : Fld) (e : Ev) (hp : ∀ a, p a = false → eventReg a = false) (hf : p f.addr = true) :
    Quiet p s (stickyEvent s f e) := by
  unfold stickyEvent
  split
  · exact Quiet.refl _ s
  · exact (quiet_wr p s f 1 hf).trans ((quiet_logEvent _ _).mono hp)

/-! ## Counts and interrupts -/

theorem countReg_event (a : Nat) (h : countReg a = false) : eventReg a = false := by
  simp only [countReg, Bool.or_eq_false_iff] at h; exact h.1

theorem countReg_ovf (b : Nat) (h : b < 73) : countReg (PC_OVF b) = true := by
  simp only [countReg, Bool.or_eq_true, List.any_eq_true, List.mem_range, beq_iff_eq]
  exact .inr ⟨b, h, Or.inl rfl⟩

theorem countReg_count (b i : Nat) (hb : b < 73) (hi : i < 8) : countReg (PC_COUNT b i) = true := by
  simp only [countReg, Bool.or_eq_true, List.any_eq_true, List.mem_range, beq_iff_eq]
  exact .inr ⟨b, hb, .inr ⟨i, hi, rfl⟩⟩

theorem quiet_pcAdd (s : State) (b i n : Nat) (hb : b < 73) (hi : i < 8) : Quiet countReg s (pcAdd s b i n) := by
  unfold pcAdd
  dsimp only
  have h1 : Quiet countReg s (s.addCtr (PC_COUNT b i) n) := quiet_addCtr _ _ _ _ (countReg_count b i hb hi)
  split
  · have h2 := h1.trans (quiet_wr countReg _ (PC_OVF_OVF b) (nbitSet ((s.addCtr (PC_COUNT b i) n).rd (PC_OVF_OVF b)) i true) (countReg_ovf b hb))
    split
    · exact h2.trans ((quiet_logEvent _ _).mono countReg_event)
    · exact h2
  · exact h1

/-- Everything that a performance count can do. -/
theorem quiet_pcCount (s : State) (b ev lane n : Nat) (hb : b < 73) : Quiet countReg s (pcCount s b ev lane n) := by
  unfold pcCount
  refine Quiet.foldl_mem _ _ (fun t i hi => ?_) _
  split
  · exact quiet_pcAdd t b i n hb (List.mem_range.mp hi)
  · exact Quiet.refl _ t

/-- Raising an interrupt sets its pending bit, wakes a waiting Hewer, and changes no other register. -/
theorem raiseIrq_reg (s : State) (n i a : Nat) (h1 : a ≠ (HW_IRQ n)) (h2 : a ≠ HW_STATUS n) : (raiseIrq s n i).reg a = s.reg a := by
  unfold raiseIrq hewerWake
  split
  · rw [State.reg_wr_other _ _ _ h2, State.reg_wr_other _ _ _ h1]
  · rw [State.reg_wr_other _ _ _ h1]

theorem raiseIrq_quiet (p : Nat → Bool) (s : State) (n i : Nat) (h1 : p (HW_IRQ n) = true) (h2 : p (HW_STATUS n) = true) :
    Quiet p s (raiseIrq s n i) := by
  unfold raiseIrq hewerWake
  have h := quiet_wr p s (HW_IRQ_PEND n) (nbitSet (s.rd (HW_IRQ_PEND n)) i true) h1
  split
  · exact h.trans (quiet_wr p _ (HW_STATUS_STATE n) 1 h2)
  · exact h

/-! ## The fields of the state that events leave alone -/

@[simp] theorem logEvent_pending (s : State) (e : Ev) : (logEvent s e).pending = s.pending := by rw [(quiet_logEvent s e).rest]
@[simp] theorem logEvent_shadows (s : State) (e : Ev) : (logEvent s e).shadows = s.shadows := by rw [(quiet_logEvent s e).rest]
@[simp] theorem logEvent_snapGens (s : State) (e : Ev) : (logEvent s e).snapGens = s.snapGens := by rw [(quiet_logEvent s e).rest]
@[simp] theorem logEvent_flash (s : State) (e : Ev) : (logEvent s e).flash = s.flash := by rw [(quiet_logEvent s e).rest]
@[simp] theorem logEvent_time (s : State) (e : Ev) : (logEvent s e).time = s.time := by rw [(quiet_logEvent s e).rest]
@[simp] theorem logEvent_mono (s : State) (e : Ev) : (logEvent s e).mono = s.mono := by rw [(quiet_logEvent s e).rest]
@[simp] theorem logEvent_powered (s : State) (e : Ev) : (logEvent s e).powered = s.powered := by rw [(quiet_logEvent s e).rest]
@[simp] theorem logEvent_canary (s : State) (e : Ev) : (logEvent s e).canary = s.canary := by rw [(quiet_logEvent s e).rest]
@[simp] theorem logEvent_started (s : State) (e : Ev) : (logEvent s e).started = s.started := by rw [(quiet_logEvent s e).rest]
@[simp] theorem logEvent_sessionCount (s : State) (e : Ev) : (logEvent s e).sessionCount = s.sessionCount := by rw [(quiet_logEvent s e).rest]
@[simp] theorem logEvent_ops (s : State) (e : Ev) : (logEvent s e).ops = s.ops := by rw [(quiet_logEvent s e).rest]
@[simp] theorem logEvent_handleCount (s : State) (e : Ev) : (logEvent s e).handleCount = s.handleCount := by rw [(quiet_logEvent s e).rest]
@[simp] theorem logEvent_accLog (s : State) (e : Ev) : (logEvent s e).accLog = s.accLog := by rw [(quiet_logEvent s e).rest]
@[simp] theorem logEvent_busStatus (s : State) (e : Ev) : (logEvent s e).busStatus = s.busStatus := by rw [(quiet_logEvent s e).rest]
@[simp] theorem logEvent_archive (s : State) (e : Ev) : (logEvent s e).archive = s.archive := by rw [(quiet_logEvent s e).rest]
@[simp] theorem logEvent_regions (s : State) (e : Ev) : (logEvent s e).regions = s.regions := by rw [(quiet_logEvent s e).rest]
@[simp] theorem logEvent_rowSeals (s : State) (e : Ev) : (logEvent s e).rowSeals = s.rowSeals := by rw [(quiet_logEvent s e).rest]
@[simp] theorem logEvent_scrubAt (s : State) (e : Ev) : (logEvent s e).scrubAt = s.scrubAt := by rw [(quiet_logEvent s e).rest]
@[simp] theorem logEvent_ddrScrub (s : State) (e : Ev) : (logEvent s e).ddrScrub = s.ddrScrub := by rw [(quiet_logEvent s e).rest]
@[simp] theorem logEvent_wasUe (s : State) (e : Ev) : (logEvent s e).wasUe = s.wasUe := by rw [(quiet_logEvent s e).rest]
@[simp] theorem logEvent_rxds (s : State) (e : Ev) : (logEvent s e).rxds = s.rxds := by rw [(quiet_logEvent s e).rest]
@[simp] theorem logEvent_planCopyOk (s : State) (e : Ev) : (logEvent s e).planCopyOk = s.planCopyOk := by rw [(quiet_logEvent s e).rest]
@[simp] theorem logEvent_lanes (s : State) (e : Ev) : (logEvent s e).lanes = s.lanes := by rw [(quiet_logEvent s e).rest]
@[simp] theorem logEvent_calQ (s : State) (e : Ev) : (logEvent s e).calQ = s.calQ := by rw [(quiet_logEvent s e).rest]
@[simp] theorem logEvent_assayQ (s : State) (e : Ev) : (logEvent s e).assayQ = s.assayQ := by rw [(quiet_logEvent s e).rest]
@[simp] theorem logEvent_defer (s : State) (e : Ev) : (logEvent s e).defer = s.defer := by rw [(quiet_logEvent s e).rest]
@[simp] theorem logEvent_plan (s : State) (e : Ev) : (logEvent s e).plan = s.plan := by rw [(quiet_logEvent s e).rest]
@[simp] theorem logEvent_seams (s : State) (e : Ev) : (logEvent s e).seams = s.seams := by rw [(quiet_logEvent s e).rest]
@[simp] theorem logEvent_faces (s : State) (e : Ev) : (logEvent s e).faces = s.faces := by rw [(quiet_logEvent s e).rest]
@[simp] theorem logEvent_caps (s : State) (e : Ev) : (logEvent s e).caps = s.caps := by rw [(quiet_logEvent s e).rest]
@[simp] theorem logEvent_archEntries (s : State) (e : Ev) : (logEvent s e).archEntries = s.archEntries := by rw [(quiet_logEvent s e).rest]
@[simp] theorem logEvent_archId (s : State) (e : Ev) : (logEvent s e).archId = s.archId := by rw [(quiet_logEvent s e).rest]
@[simp] theorem logEvent_archMib (s : State) (e : Ev) : (logEvent s e).archMib = s.archMib := by rw [(quiet_logEvent s e).rest]
@[simp] theorem logEvent_streams (s : State) (e : Ev) : (logEvent s e).streams = s.streams := by rw [(quiet_logEvent s e).rest]
@[simp] theorem logEvent_streamCount (s : State) (e : Ev) : (logEvent s e).streamCount = s.streamCount := by rw [(quiet_logEvent s e).rest]
@[simp] theorem logEvent_claim (s : State) (e : Ev) : (logEvent s e).claim = s.claim := by rw [(quiet_logEvent s e).rest]
@[simp] theorem logEvent_rails (s : State) (e : Ev) : (logEvent s e).rails = s.rails := by rw [(quiet_logEvent s e).rest]
@[simp] theorem logEvent_refALost (s : State) (e : Ev) : (logEvent s e).refALost = s.refALost := by rw [(quiet_logEvent s e).rest]
@[simp] theorem logEvent_refBLost (s : State) (e : Ev) : (logEvent s e).refBLost = s.refBLost := by rw [(quiet_logEvent s e).rest]
@[simp] theorem logEvent_shapes (s : State) (e : Ev) : (logEvent s e).shapes = s.shapes := by rw [(quiet_logEvent s e).rest]
@[simp] theorem logEvent_otp (s : State) (e : Ev) : (logEvent s e).otp = s.otp := by rw [(quiet_logEvent s e).rest]
@[simp] theorem logEvent_burnQ (s : State) (e : Ev) : (logEvent s e).burnQ = s.burnQ := by rw [(quiet_logEvent s e).rest]
@[simp] theorem logEvent_volatileSeals (s : State) (e : Ev) : (logEvent s e).volatileSeals = s.volatileSeals := by rw [(quiet_logEvent s e).rest]
@[simp] theorem logEvent_episodes (s : State) (e : Ev) : (logEvent s e).episodes = s.episodes := by rw [(quiet_logEvent s e).rest]
@[simp] theorem logEvent_hsBuf (s : State) (e : Ev) : (logEvent s e).hsBuf = s.hsBuf := by rw [(quiet_logEvent s e).rest]
@[simp] theorem logEvent_hsCount (s : State) (e : Ev) : (logEvent s e).hsCount = s.hsCount := by rw [(quiet_logEvent s e).rest]
@[simp] theorem logEvent_hostPcs (s : State) (e : Ev) : (logEvent s e).hostPcs = s.hostPcs := by rw [(quiet_logEvent s e).rest]
@[simp] theorem logEvent_injects (s : State) (e : Ev) : (logEvent s e).injects = s.injects := by rw [(quiet_logEvent s e).rest]
@[simp] theorem logEvent_budgetShed (s : State) (e : Ev) : (logEvent s e).budgetShed = s.budgetShed := by rw [(quiet_logEvent s e).rest]
@[simp] theorem logEvent_throttleShed (s : State) (e : Ev) : (logEvent s e).throttleShed = s.throttleShed := by rw [(quiet_logEvent s e).rest]
@[simp] theorem logEvent_ticks (s : State) (e : Ev) : (logEvent s e).ticks = s.ticks := by rw [(quiet_logEvent s e).rest]
@[simp] theorem logEvent_setAge (s : State) (e : Ev) : (logEvent s e).setAge = s.setAge := by rw [(quiet_logEvent s e).rest]
@[simp] theorem logEvent_mirror (s : State) (e : Ev) : (logEvent s e).mirror = s.mirror := by rw [(quiet_logEvent s e).rest]
@[simp] theorem logEvent_madcAcc (s : State) (e : Ev) : (logEvent s e).madcAcc = s.madcAcc := by rw [(quiet_logEvent s e).rest]
@[simp] theorem logEvent_seqLen (s : State) (e : Ev) : (logEvent s e).seqLen = s.seqLen := by rw [(quiet_logEvent s e).rest]
@[simp] theorem logEvent_seqPending (s : State) (e : Ev) : (logEvent s e).seqPending = s.seqPending := by rw [(quiet_logEvent s e).rest]
@[simp] theorem logEvent_hewers (s : State) (e : Ev) : (logEvent s e).hewers = s.hewers := by rw [(quiet_logEvent s e).rest]
@[simp] theorem logEvent_actor (s : State) (e : Ev) : (logEvent s e).actor = s.actor := by rw [(quiet_logEvent s e).rest]
@[simp] theorem logEvent_booting (s : State) (e : Ev) : (logEvent s e).booting = s.booting := by rw [(quiet_logEvent s e).rest]
@[simp] theorem logEvent_checked (s : State) (e : Ev) : (logEvent s e).checked = s.checked := by rw [(quiet_logEvent s e).rest]
@[simp] theorem logEvent_bootTries (s : State) (e : Ev) : (logEvent s e).bootTries = s.bootTries := by rw [(quiet_logEvent s e).rest]
@[simp] theorem logEvent_ddrLayout (s : State) (e : Ev) : (logEvent s e).ddrLayout = s.ddrLayout := by rw [(quiet_logEvent s e).rest]
@[simp] theorem logEvent_d2d (s : State) (e : Ev) : (logEvent s e).d2d = s.d2d := by rw [(quiet_logEvent s e).rest]
@[simp] theorem logEvent_ddrTrain (s : State) (e : Ev) : (logEvent s e).ddrTrain = s.ddrTrain := by rw [(quiet_logEvent s e).rest]
@[simp] theorem logEvent_keptCrc (s : State) (e : Ev) : (logEvent s e).keptCrc = s.keptCrc := by rw [(quiet_logEvent s e).rest]
@[simp] theorem logEvent_cpTry (s : State) (e : Ev) : (logEvent s e).cpTry = s.cpTry := by rw [(quiet_logEvent s e).rest]
@[simp] theorem logEvent_ptp (s : State) (e : Ev) : (logEvent s e).ptp = s.ptp := by rw [(quiet_logEvent s e).rest]
@[simp] theorem logEvent_ddrEpoch (s : State) (e : Ev) : (logEvent s e).ddrEpoch = s.ddrEpoch := by rw [(quiet_logEvent s e).rest]

theorem logEvent_reg (s : State) (e : Ev) {a : Nat} (h : eventReg a = false) : (logEvent s e).reg a = s.reg a := (quiet_logEvent s e).regs a h
theorem logEvent_rd (s : State) (e : Ev) {f : Fld} (h : eventReg f.addr = false) : (logEvent s e).rd f = s.rd f := (quiet_logEvent s e).rd f h
theorem logEvent_on (s : State) (e : Ev) {f : Fld} (h : eventReg f.addr = false) : (logEvent s e).on f = s.on f := (quiet_logEvent s e).on f h

theorem pcCount_reg (s : State) {b : Nat} (ev lane n : Nat) (hb : b < 73) {a : Nat} (h : countReg a = false) : (pcCount s b ev lane n).reg a = s.reg a :=
  (quiet_pcCount s b ev lane n hb).regs a h
theorem pcCount_rd (s : State) {b : Nat} (ev lane n : Nat) (hb : b < 73) {f : Fld} (h : countReg f.addr = false) : (pcCount s b ev lane n).rd f = s.rd f :=
  (quiet_pcCount s b ev lane n hb).rd f h

end Sys2Proof.Machine
end

