-- ==== Sys2Proof/Laws/Mem.lean ====
section
/-!
SUPPORT. Sys2Proof/Laws/Mem.lean: reads after writes of memory bytes, and that every memory operation keeps the canonical form of memory.
-/
namespace Sys2Proof.Machine
open Sys2Proof Sys2Proof.Laws

/-! ## Reads after writes -/

@[simp] theorem State.byte_setByte_same (s : State) (a i b : Nat) (v : Byte) : (s.setByte a i b v).byte a i b = v := by
  simp [State.byte, State.setByte]

theorem State.byte_setByte_other (s : State) {a i b a' i' b' : Nat} (v : Byte) (h : memKey a' i' b' ≠ memKey a i b) :
    (s.setByte a i b v).byte a' i' b' = s.byte a' i' b' := by
  simp only [State.byte, State.setByte]
  exact tabGet_set_other _ _ _ _ h

@[simp] theorem State.tag_setTag_same (s : State) (a i w : Nat) (t : Option WordTag) : (s.setTag a i w t).tag a i w = t := by
  simp [State.tag, State.setTag]

theorem State.tag_setTag_other (s : State) {a i w a' i' w' : Nat} (t : Option WordTag) (h : memKey a' i' w' ≠ memKey a i w) :
    (s.setTag a i w t).tag a' i' w' = s.tag a' i' w' := by
  simp only [State.tag, State.setTag]
  exact tabGet_set_other _ _ _ _ h

/-! ## The canonical form -/

/-- `t`'s memory is in canonical form if `s`'s is. -/
def MemOk (s t : State) : Prop := Memory.wf s.bytes s.flash = true → Memory.wf t.bytes t.flash = true

theorem MemOk.refl (s : State) : MemOk s s := fun h => h
theorem MemOk.trans {s t u : State} (h : MemOk s t) (k : MemOk t u) : MemOk s u := fun x => k (h x)
theorem MemOk.of_eq {s t : State} (h : t.bytes = s.bytes) (k : t.flash = s.flash) : MemOk s t := fun x => by rw [h, k]; exact x

theorem MemOk.foldl {α : Type} (g : State → α → State) (h : ∀ s x, MemOk s (g s x)) (l : List α) (s : State) : MemOk s (l.foldl g s) := by
  induction l generalizing s with
  | nil => exact MemOk.refl s
  | cons x l ih => exact (h s x).trans (ih _)

theorem MemOk.ite {s t u : State} (c : Prop) [Decidable c] (h : MemOk s t) (k : MemOk s u) : MemOk s (if c then t else u) := by
  split
  · exact h
  · exact k

theorem MemOk.guardS {s : State} (c : Bool) (f : State → State) (h : MemOk s (f s)) : MemOk s (guardS c s f) := by
  cases c
  · exact MemOk.refl s
  · exact h

theorem memory_wf_iff (b f : List Host.Cell) : Memory.wf b f = true ↔ tabWf (fun _ => 0) b = true ∧ tabWf (fun _ => 0xFF) f = true := by
  simp [Memory.wf]

theorem memOk_wr (s : State) (f : Fld) (v : Nat) : MemOk s (s.wr f v) := MemOk.of_eq rfl rfl
theorem memOk_setReg (s : State) (a : Nat) (w : Word) : MemOk s (s.setReg a w) := MemOk.of_eq rfl rfl
theorem memOk_wrs (s : State) (l : List (Fld × Nat)) : MemOk s (s.wrs l) := by
  induction l generalizing s with
  | nil => exact MemOk.refl s
  | cons e l ih => exact (memOk_wr s e.1 e.2).trans (ih _)
theorem memOk_incSat (s : State) (f : Fld) : MemOk s (s.incSat f) := memOk_wr s f _
theorem memOk_incMod (s : State) (f : Fld) : MemOk s (s.incMod f) := memOk_wr s f _
theorem memOk_addCtr (s : State) (a n : Nat) : MemOk s (s.addCtr a n) := MemOk.of_eq rfl rfl
theorem memOk_tookFree (s : State) : MemOk s s.tookFree := MemOk.of_eq rfl rfl
theorem memOk_gap (s : State) (b : Bool) : MemOk s { s with gap := b } := MemOk.of_eq rfl rfl
theorem memOk_frozenLost (s : State) (n : Nat) : MemOk s { s with frozenLost := n } := MemOk.of_eq rfl rfl
theorem memOk_archNext (s : State) (n : Nat) : MemOk s { s with archNext := n } := MemOk.of_eq rfl rfl
theorem memOk_wasUe (s : State) (x : Tab Bool) : MemOk s { s with wasUe := x } := MemOk.of_eq rfl rfl
theorem memOk_tags (s : State) (x : Tab (Option WordTag)) (r : List RowSeal) : MemOk s { s with tags := x, rowSeals := r } := MemOk.of_eq rfl rfl
theorem memOk_setRxd (s : State) (f d : Nat) (r : RxdX) : MemOk s (s.setRxd f d r) := MemOk.of_eq rfl rfl
theorem memOk_mirror (s : State) (x : List Nat) : MemOk s { s with mirror := x } := MemOk.of_eq rfl rfl
theorem memOk_planCopyOk (s : State) (b : Bool) : MemOk s { s with planCopyOk := b } := MemOk.of_eq rfl rfl
theorem memOk_setTag (s : State) (a i w : Nat) (t : Option WordTag) : MemOk s (s.setTag a i w t) := MemOk.of_eq rfl rfl

theorem memOk_setByte (s : State) (a i b : Nat) (v : Byte) : MemOk s (s.setByte a i b v) := by
  intro h
  rw [memory_wf_iff] at h ⊢
  exact ⟨tabWf_set (d := fun _ => 0) _ _ h.1, h.2⟩

theorem memOk_setBytes (l : List Nat) (s : State) (a i b : Nat) : MemOk s (s.setBytes a i b l) := by
  induction l generalizing s b with
  | nil => exact MemOk.refl s
  | cons v l ih => exact (memOk_setByte s a i b _).trans (ih _ _)

theorem memOk_useFlip (s : State) (a i w : Nat) : MemOk s (useFlip s a i w) := MemOk.ite _ (memOk_wr s _ _) (MemOk.refl s)

theorem memOk_memPutWord (s : State) (a i w d : Nat) : MemOk s (memPutWord s a i w d) :=
  ((memOk_useFlip s a i w).trans (memOk_setBytes _ _ _ _ _)).trans (memOk_setTag _ _ _ _ _)

theorem memOk_memPutWords (l : List Nat) (s : State) (a i w : Nat) : MemOk s (memPutWords s a i w l) := by
  induction l generalizing s w with
  | nil => exact MemOk.refl s
  | cons d l ih => exact (memOk_memPutWord s a i w d).trans (ih _ _)

theorem memOk_memClear (s : State) (p : Nat → Nat → Nat → Bool) : MemOk s (memClear s p) := by
  intro h
  rw [memory_wf_iff] at h ⊢
  refine ⟨?_, h.2⟩
  simp only [memClear]
  exact tabWf_drop (d := fun _ => 0) _ h.1

/-! ## Events and counts -/

theorem memOk_send (s : State) (m : Msg) : MemOk s (s.send m) := by
  unfold State.send
  split
  · dsimp only
    split
    · exact ((memOk_tookFree s).trans (memOk_useFlip _ _ _ _)).trans (MemOk.of_eq rfl rfl)
    · exact MemOk.of_eq rfl rfl
  · exact MemOk.of_eq rfl rfl

theorem memOk_sendNotices (s : State) (ws : List Nat) : MemOk s (sendNotices s ws) := by
  unfold sendNotices
  refine MemOk.trans ?_ (MemOk.foldl _ (fun t m => memOk_send t m) _ _)
  exact MemOk.of_eq rfl rfl

theorem memOk_storeRecord (s : State) (e : Ev) (n : Bool) : MemOk s (storeRecord s e n) := by
  unfold storeRecord
  dsimp only
  exact ((memOk_memPutWords _ s 7 0 _).trans (memOk_wr _ _ _)).trans (memOk_gap _ _)

theorem memOk_storeOwn (s : State) (e : Ev) : MemOk s (storeOwn s e) := by
  unfold storeOwn
  dsimp only
  split
  · exact (memOk_storeRecord s e _).trans (memOk_sendNotices _ _)
  · exact memOk_storeRecord s e _

theorem memOk_loseEvent (s : State) (f : Fld) : MemOk s (loseEvent s f) := (memOk_incSat s f).trans (memOk_gap _ _)

theorem memOk_archiveLoss (s : State) : MemOk s (archiveLoss s) := by
  unfold archiveLoss
  dsimp only
  split
  · exact ((memOk_archNext s _).trans (memOk_incSat _ _)).trans (memOk_storeOwn _ _)
  · exact MemOk.refl s

theorem memOk_storeEvent (s : State) (e : Ev) (n : Bool) : MemOk s (storeEvent s e n) := by
  unfold storeEvent
  split
  · exact (memOk_loseEvent s _).trans (memOk_frozenLost _ _)
  · split
    · exact memOk_loseEvent s _
    · split
      · exact ((memOk_storeOwn s _).trans (memOk_wr _ _ _)).trans (memOk_loseEvent _ _)
      · exact memOk_storeRecord s e n

theorem memOk_recordEvent (s : State) (e : Ev) (n : Bool) : MemOk s (recordEvent s e n) := by
  unfold recordEvent
  split
  · exact (memOk_storeEvent s e _).trans (memOk_sendNotices _ _)
  · exact memOk_storeEvent s e _

theorem memOk_tallyEvent (s : State) (e : Ev) : MemOk s (tallyEvent s e) := by
  unfold tallyEvent
  split
  · exact MemOk.refl s
  · split
    · exact (memOk_archiveLoss s).trans (memOk_recordEvent _ _ _)
    · exact memOk_recordEvent _ _ _

theorem memOk_capFireOne (s : State) (c time pos : Nat) (short : Bool) : MemOk s (capFireOne s c time pos short) :=
  MemOk.ite _ (memOk_wrs s _) (MemOk.refl s)

theorem memOk_capFire (s : State) (c time pos : Nat) (short : Bool) : MemOk s (capFire s c time pos short) := by
  unfold capFire
  split
  · exact MemOk.foldl _ (fun t j => MemOk.ite _ (memOk_capFireOne t j time pos short) (MemOk.refl t)) _ _
  · exact MemOk.refl s

theorem memOk_capOnEvent (s : State) (code : Nat) : MemOk s (capOnEvent s code) := by
  unfold capOnEvent
  refine MemOk.foldl _ (fun t c => ?_) _ _
  dsimp only
  split
  · exact (memOk_tookFree t).trans (memOk_capFire _ _ _ _ _)
  · exact MemOk.refl t

/-- Logging an event keeps memory in its canonical form. -/
theorem memOk_logEvent (s : State) (e : Ev) : MemOk s (logEvent s e) := (memOk_capOnEvent s e.code).trans (memOk_tallyEvent _ _)

theorem memOk_stickyEvent (s : State) (f : Fld) (e : Ev) : MemOk s (stickyEvent s f e) :=
  MemOk.ite _ (MemOk.refl s) ((memOk_wr s f 1).trans (memOk_logEvent _ e))

theorem memOk_raiseIrq (s : State) (n i : Nat) : MemOk s (raiseIrq s n i) :=
  (memOk_wr s _ _).trans (MemOk.ite _ (memOk_wr _ _ _) (MemOk.refl _))

theorem memOk_pcAdd (s : State) (b i n : Nat) : MemOk s (pcAdd s b i n) := by
  unfold pcAdd
  dsimp only
  split
  · split
    · exact ((memOk_addCtr s _ _).trans (memOk_wr _ _ _)).trans (memOk_logEvent _ _)
    · exact (memOk_addCtr s _ _).trans (memOk_wr _ _ _)
  · exact memOk_addCtr s _ _

theorem memOk_pcCount (s : State) (b ev lane n : Nat) : MemOk s (pcCount s b ev lane n) := by
  unfold pcCount
  exact MemOk.foldl _ (fun t i => MemOk.ite _ (memOk_pcAdd t b i n) (MemOk.refl t)) _ _

/-! ## Reads, partial writes and owners -/

theorem memOk_bankUe (s : State) (f d bin : Nat) : MemOk s (bankUe s f d bin) := by
  unfold bankUe
  exact (memOk_setRxd s _ _ _).trans (memOk_wr _ _ _)

theorem memOk_surveyLost (s : State) (a w : Nat) : MemOk s (surveyLost s a w) := by
  unfold surveyLost
  dsimp only
  split
  · exact (memOk_wr s (SET_HDR_VALID (setOfWord w).1 (setOfWord w).2) 0).trans (memOk_mirror _ _)
  · split
    · split
      · exact memOk_mirror s _
      · exact MemOk.refl s
    · exact MemOk.refl s

theorem memOk_ownerAct (s : State) (a w : Nat) (r : Region) : MemOk s (ownerAct s a w r) := by
  unfold ownerAct
  split
  · split
    · split
      · exact memOk_bankUe s _ _ _
      · split
        · exact memOk_wr s _ _
        · exact MemOk.refl s
    · exact MemOk.refl s
  · exact memOk_surveyLost s _ _
  · exact memOk_planCopyOk s _
  · exact MemOk.refl s

theorem memOk_ownerNotice (s : State) (a i w : Nat) : MemOk s (ownerNotice s a i w) := by
  unfold ownerNotice
  split
  · exact memOk_logEvent s _
  · split
    · exact MemOk.refl s
    · dsimp only
      refine MemOk.trans ?_ (memOk_ownerAct _ _ _ _)
      split
      · exact ((memOk_logEvent s _).trans (memOk_incSat _ _)).trans (memOk_logEvent _ _)
      · exact (memOk_logEvent s _).trans (memOk_incSat _ _)

theorem memOk_ceEvent (s : State) (src a i w synd : Nat) : MemOk s (ceEvent s src a i w synd) := by
  unfold ceEvent memErr
  exact (((memOk_wrs s _).trans (memOk_incSat _ _)).trans (memOk_pcCount _ _ _ _ _)).trans (memOk_logEvent _ _)

theorem memOk_ueEvent (s : State) (src a i w synd : Nat) : MemOk s (ueEvent s src a i w synd) := by
  unfold ueEvent memErr
  exact (((memOk_wrs s _).trans (memOk_incSat _ _)).trans (memOk_pcCount _ _ _ _ _)).trans (memOk_logEvent _ _)

theorem memOk_memReadWord (s : State) (a i w : Nat) : MemOk s (memReadWord s a i w).1 := by
  unfold memReadWord
  split
  · exact MemOk.refl s
  · split
    · exact MemOk.refl s
    · exact (memOk_setTag s _ _ _ _).trans (memOk_ceEvent _ _ _ _ _ _)
    · split
      · exact MemOk.refl s
      · exact ((memOk_setTag s _ _ _ _).trans (memOk_ueEvent _ _ _ _ _ _)).trans (memOk_ownerNotice _ _ _ _)

theorem memOk_memMerge (u : State) (a i w o : Nat) (new : List Nat) : MemOk u (memMerge u a i w o new) := by
  unfold memMerge
  dsimp only
  split
  · exact memOk_memPutWord u _ _ _ _
  · split
    · exact memOk_memPutWord u _ _ _ _
    · exact (memOk_ceEvent u _ _ _ _ _).trans (memOk_memPutWord _ _ _ _ _)
    · split
      · exact (memOk_memPutWord u _ _ _ _).trans (memOk_setTag _ _ _ _ _)
      · exact (((memOk_memPutWord u _ _ _ _).trans (memOk_setTag _ _ _ _ _)).trans (memOk_ueEvent _ _ _ _ _ _)).trans
          (memOk_ownerNotice _ _ _ _)

theorem memOk_memPartial (s : State) (a i w o : Nat) (new : List Nat) : MemOk s (memPartial s a i w o new) :=
  (memOk_pcCount s _ _ _ _).trans (memOk_memMerge _ _ _ _ _ _)

theorem memOk_memWriteWord (s : State) (a i w d : Nat) : MemOk s (memWriteWord s a i w d) := by
  unfold memWriteWord
  dsimp only
  have h := memOk_memPutWord s a i w d
  generalize memPutWord s a i w d = u at h ⊢
  refine h.trans ?_
  split
  · split
    · exact memOk_wasUe u _
    · exact MemOk.refl u
  · exact MemOk.refl u

theorem memOk_memWriteIn (s : State) (a i b : Nat) (new : List Nat) : MemOk s (memWriteIn s a i b new) :=
  MemOk.ite _ (memOk_memWriteWord s _ _ _ _) (memOk_memPartial s _ _ _ _ _)

theorem memOk_memReadIn (s : State) (a i b n : Nat) : MemOk s (memReadIn s a i b n).1 := memOk_memReadWord s _ _ _

theorem memOk_memWriteRun (k : Nat) (s : State) (a i o : Nat) (bs : List Nat) : MemOk s (memWriteRun s a i k o bs) := by
  induction k generalizing s o bs with
  | zero => exact MemOk.refl s
  | succ k ih =>
    cases bs with
    | nil => exact MemOk.refl s
    | cons b bs =>
      simp only [memWriteRun]
      exact MemOk.ite _ ((memOk_memWriteIn s _ _ _ _).trans (ih _ _ _)) ((memOk_memWriteIn s _ _ _ _).trans (ih _ _ _))

theorem memOk_memReadRun (k : Nat) (s : State) (a i w : Nat) : MemOk s (memReadRun s a i w k).1 := by
  induction k generalizing s w with
  | zero => exact MemOk.refl s
  | succ k ih =>
    have h := memOk_memReadWord s a i w
    simp only [memReadRun]
    split
    · exact h
    · exact h.trans (ih _ _)

theorem memOk_hardError (s : State) (src a i w synd : Nat) : MemOk s (hardError s src a i w synd).1 := by
  have h := ((memOk_wrs s [(MEM_ERR_INFO_KIND, 3), (MEM_ERR_INFO_SOURCE, src), (MEM_ERR_INFO_ARRAY, a), (MEM_ERR_INFO_INDEX, i),
    (MEM_ERR_INFO_SYNDROME, synd), (MEM_ERR_ADDR_WORD, w)]).trans (memOk_incSat _ (MEM_ARRAY1_HARD a))).trans
    (memOk_logEvent _ { code := 0x0542, kind := 8, index := a, a0 := a * 256 + i, a1 := w })
  unfold hardError memErr
  dsimp only
  refine h.trans ?_
  clear h
  generalize logEvent _ _ = u
  split
  · exact MemOk.refl u
  · split
    · exact MemOk.refl u
    · split
      · exact (((memOk_tags u _ _).trans (memOk_wr _ _ _)).trans (memOk_incSat _ _)).trans (memOk_logEvent _ _)
      · exact memOk_logEvent u _

theorem memOk_scrubWord (s : State) (a i w : Nat) : MemOk s (scrubWord s a i w).1 := by
  unfold scrubWord
  split
  · exact MemOk.refl s
  · rename_i t _
    by_cases hp : t.poison = true
    · rw [if_pos hp]; exact MemOk.refl s
    · rw [if_neg hp]
      generalize eccOf a t = e
      obtain ⟨k, x⟩ := e
      cases k
      · exact memOk_wasUe s _
      · dsimp only
        split
        · exact memOk_hardError s _ _ _ _ _
        · exact (memOk_setTag s _ _ _ _).trans (memOk_ceEvent _ _ _ _ _ _)
      · have h := ((memOk_setTag s a i w (some { t with poison := true })).trans (memOk_ueEvent _ 2 a i w (syndromeOf a t))).trans
          (memOk_ownerNotice _ a i w)
        dsimp only
        split
        · exact h.trans (memOk_hardError _ _ _ _ _ _)
        · exact h

/-! ## Flash, and memory taken over from another state -/

theorem memOk_flashErase (s : State) (a n : Nat) : MemOk s (flashErase s a n) := by
  intro h
  rw [memory_wf_iff] at h ⊢
  exact ⟨h.1, tabWf_filter _ h.2⟩

theorem memOk_memTake (s old : State) (p : Nat → Nat → Nat → Bool) (h : Memory.wf s.bytes s.flash = true) :
    Memory.wf (memTake s old p).bytes (memTake s old p).flash = true := by
  rw [memory_wf_iff] at h ⊢
  refine ⟨?_, h.2⟩
  simp only [memTake]
  generalize old.bytes.filter _ = l
  have h0 : tabWf (fun _ => (0 : BitVec 8)) (s.bytes.filter fun e => !p (e.1 / 2 ^ 48) (e.1 / 2 ^ 40 % 256) (e.1 % 2 ^ 40)) = true := tabWf_filter _ h.1
  generalize (s.bytes.filter fun e => !p (e.1 / 2 ^ 48) (e.1 / 2 ^ 40 % 256) (e.1 % 2 ^ 40)) = m at h0 ⊢
  induction l generalizing m with
  | nil => exact h0
  | cons e l ih => exact ih _ (tabWf_set (d := fun _ => (0 : BitVec 8)) _ _ h0)

theorem tabSorted_append {α : Type} {l m : Tab α} (hl : tabSorted l = true) (hm : tabSorted m = true)
    (h : ∀ x ∈ l, ∀ y ∈ m, x.1 < y.1) : tabSorted (l ++ m) = true := by
  induction l with
  | nil => exact hm
  | cons e l ih =>
    obtain ⟨k, v⟩ := e
    obtain ⟨h1, h2⟩ := tabSorted_cons.mp hl
    refine tabSorted_cons.mpr ⟨fun y hy => ?_, ih h2 fun x hx => h x (by simp [hx])⟩
    rcases List.mem_append.mp hy with hy | hy
    · exact h1 y hy
    · exact h (k, v) (by simp) y hy

theorem tabSorted_zipIdx (l : List Nat) (a n : Nat) (g : Nat → Byte) (q : Nat × Nat → Bool) :
    tabSorted ((l.zipIdx n |>.filter q).map fun e => (a + e.2, g e.1)) = true ∧
      ∀ x ∈ (l.zipIdx n |>.filter q).map fun e => (a + e.2, g e.1), a + n ≤ x.1 ∧ x.1 < a + n + l.length := by
  induction l generalizing n with
  | nil => simp [tabSorted]
  | cons v l ih =>
    obtain ⟨h1, h2⟩ := ih (n + 1)
    by_cases hq : q (v, n) = true
    · rw [List.zipIdx_cons, List.filter_cons_of_pos hq, List.map_cons]
      refine ⟨tabSorted_cons.mpr ⟨fun e he => ?_, h1⟩, fun x hx => ?_⟩
      · have := (h2 e he).1; omega
      · rcases List.mem_cons.mp hx with rfl | hx
        · simp
        · have := h2 x hx; simp only [List.length_cons]; omega
    · rw [List.zipIdx_cons, List.filter_cons_of_neg hq]
      refine ⟨h1, fun x hx => ?_⟩
      have := h2 x hx; simp only [List.length_cons]; omega

theorem memOk_flashPut (s : State) (a : Nat) (bs : List Nat) : MemOk s (flashPut s a bs) := by
  intro h
  have he := memOk_flashErase s a bs.length h
  rw [memory_wf_iff] at he ⊢
  refine ⟨he.1, ?_⟩
  simp only [flashPut]
  have hin : ∀ x ∈ (flashErase s a bs.length).flash, x.1 < a ∨ a + bs.length ≤ x.1 := by
    intro x hx
    have := (List.mem_filter.mp hx).2
    simp only [Bool.not_eq_true', Bool.and_eq_false_iff, decide_eq_false_iff_not] at this
    omega
  generalize (flashErase s a bs.length).flash = fl at he hin ⊢
  have hz := tabSorted_zipIdx bs a 0 (BitVec.ofNat 8) fun e => e.1 % 256 != 255
  simp only [tabWf, Bool.and_eq_true, List.all_eq_true, decide_eq_true_eq] at he ⊢
  refine ⟨tabSorted_append (tabSorted_append (tabSorted_filter _ he.2.1) hz.1 ?_) (tabSorted_filter _ he.2.1) ?_, ?_⟩
  · intro x hx y hy
    have h1 := (List.mem_filter.mp hx).2
    have h2 := (hz.2 y hy).1
    simp only [decide_eq_true_eq] at h1
    omega
  · intro x hx y hy
    obtain ⟨hy1, hy2⟩ := List.mem_filter.mp hy
    simp only [decide_eq_true_eq] at hy2
    have hy3 := hin y hy1
    rcases List.mem_append.mp hx with hx | hx
    · have h1 := (List.mem_filter.mp hx).2
      simp only [decide_eq_true_eq] at h1
      omega
    · have := (hz.2 x hx).2
      omega
  · intro e hx
    rcases List.mem_append.mp hx with hx | hx
    · rcases List.mem_append.mp hx with hx | hx
      · exact he.2.2 e (List.mem_filter.mp hx).1
      · obtain ⟨v, hv, rfl⟩ := List.mem_map.mp hx
        have h1 := (List.mem_filter.mp hv).2
        simp only [bne_iff_ne, ne_eq] at h1
        intro hc
        apply h1
        have := congrArg BitVec.toNat hc
        simpa using this
    · exact he.2.2 e (List.mem_filter.mp hx).1

end Sys2Proof.Machine
end

