-- ==== Sys2Proof/Certificates/Slice0/Obligations.lean ====
section
/-!
DEFINITION. Sys2Proof/Certificates/Slice0/Obligations.lean: the statements about the model, one proposition each.
-/
open Sys2Proof Sys2Proof.Machine

/-- For every command c and state s, a step of s with c in front of its queue is exec of c on s with the rest of the queue. How commands queue is the
model's own (the block has no program of its own). (18_reset_persistence.md, 00_scope.md) -/
def Obligations.StepRunsTheFrontCommand : Prop :=
  ∀ (c : Instr) (rest : List Instr) (s : State),
    step { s with pending := c :: rest } = exec c { s with pending := rest }

/-- With an empty queue a step answers a next state. In a powered part the time since power-on goes on by 1 ns and device time by timeStep, 1 ns but in a
slew (notes/assumptions/79.md); every register stays but the memory system's error records (a message that leaves may meet an error), the eight-
counter blocks' overflow words and those that an event touches, and only messages leave a port's list. An unpowered part does not change. That a step
without a command is one nanosecond is the model's choice (notes/assumptions/35.md). (R16, R291, R293, 18_reset_persistence.md) -/
def Obligations.IdlePartKeepsTime : Prop :=
  ∀ s : State, s.pending = [] →
    (s.powered = false → step s = .next s) ∧
    (s.powered = true → ∃ t, step s = .next t ∧ t.time = (s.time + timeStep s) % 2 ^ 64 ∧ timeStep s ≤ 2 ∧
      (s.rd TIME_STATUS_STATE = 0 ∨ s.ptp.slew = 0 → t.time = (s.time + 1) % 2 ^ 64) ∧ t.mono = s.mono + 1 ∧
      RegsKept (fun a => inRange 0x500000 0x580000 a || countReg a) s t ∧ (∀ m ∈ t.tx, m ∈ s.tx ∨ m.flags = 2) ∧ t.sessions.length = s.sessions.length ∧ t.plan = s.plan)

/-- In the state after reset every register address reads its Reset column, every counter is 0, no memory word is valid and no byte is listed, the part is
powered with the Canary clear and start-up not yet run, device time is 0, and there is no session, long operation, plan, message, stream, rotation
item or command. Registers whose Reset column names the plan, OTP or a pin hold 0 there (the model's choice, notes/assumptions/2.md). (R22, R300,
R313, R399, R416, R436, 18_reset_persistence.md) -/
def Obligations.ResetHoldsTheReadColumn : Prop :=
  (∀ a, State.reset.reg a = resetWord a) ∧ (∀ a, State.reset.ctr a = 0) ∧ (∀ a i w, State.reset.tag a i w = none) ∧
    State.reset.bytes = [] ∧ State.reset.time = 0 ∧ State.reset.powered = true ∧ State.reset.canary = false ∧ State.reset.started = false ∧
    State.reset.sessions = [] ∧ State.reset.ops = [] ∧ State.reset.plan = none ∧ State.reset.tx = [] ∧ State.reset.pending = [] ∧
    (∀ f < 16, State.reset.rd (OPT_STATUS_STATE f) = 1) ∧ State.reset.rd PLAN_STATUS_STATE = 1 ∧ State.reset.rd PLAN_COUNTER_RUNNING = 0xFF ∧
    (∀ c < 4, State.reset.rd (CAP_STATUS_STATE c) = 0) ∧ State.reset.rd TIME_STATUS_OFFSET = 0x8000 ∧
    (∀ f < 16, ∀ p < 9, State.reset.rd (LANE_ACQ_STATUS_STATE f p) = 0 ∧ State.reset.rd (LANE_POWER_P_NOW f p) = 0x8000)

/-- The memory of the state after reset, on-chip and flash, is in the model's canonical form: addresses strictly rising, no entry equal to what an
unlisted byte reads as. Survey's items, the values that lanes hold before a commit and the CALIBRATE operations name only faces, lanes, slices and
sets that exist (NamesWf). (R19, R398, R399, R370, R371, 16_memory_integrity.md, 14_survey_calibration.md) -/
def Obligations.ResetIsCanonical : Prop := Memory.wf State.reset.bytes State.reset.flash = true ∧ NamesWf State.reset

/-- From every state whose on-chip memory, DDR4 and flash are in canonical form (addresses strictly rising, no entry equal to what an unlisted byte reads
as), a step that answers a next state leaves them so, whatever the command. (R398, R399, R402, R403, 16_memory_integrity.md, 18_reset_persistence.md) -/
def Obligations.MemoryStaysCanonical : Prop :=
  ∀ s t : State, Memory.wf s.bytes s.flash = true → step s = .next t → Memory.wf t.bytes t.flash = true

/-- From every state whose Survey items, values held before a commit or kept for a return, CALIBRATE operations and handshakes to be proposed again name
only faces 0 to 15, lanes 0 to 8 (9 for a FACE_PLL run), slices 0 to 64, sets 0 to 4 and positions 0 to 7, a step that answers a next state leaves
them so, whatever the command. (R5, R76, R77, R230, R370, R371, 14_survey_calibration.md) -/
def Obligations.StateNamesWhatExists : Prop :=
  ∀ s t : State, NamesWf s → step s = .next t → NamesWf t

/-- For every state of a powered part whose Canary is latched, and every command other than POWER_ON, POWER_LOSS, VPP_OTP_APPLIED and VPP_OTP_REMOVED
(pins that the always-on domain watches) and the three whose list operand is ill-formed, exec answers the same state: RESET_N and PGOOD_IN included.
For every state of a part without power, so does every well-formed command but POWER_ON and POWER_LOSS. (R360, R436, R444, R448,
13_foreman_power_thermal.md, 18_reset_persistence.md) -/
def Obligations.UnpoweredOrTrippedPartWaits : Prop :=
  ∀ (c : Instr) (s : State), c.wellFormed = true → c ≠ .powerOn → c ≠ .powerLoss →
    (s.powered = false → exec c s = .next s) ∧
    (s.powered = true → s.canary = true → c ≠ .vppOtpApplied → c ≠ .vppOtpRemoved → exec c s = .next s)

/-- A codeword of other than 256 or 128 soft values, a HELLO whose CLIENT_NONCE is not 32 or whose CLIENT_EPH is not 97 bytes, and an AUTH whose PUBKEY is
not 97 or whose SIG is not 96 bytes stop with the fault illFormed, and only those do: the lengths are those that R146, R150, R300 and R302 give. That
they stop is the model's choice: no such command exists. (R146, R150, R300, R302, 05_line_coding.md, 11_control_ports_zcp.md) -/
def Obligations.IllFormedListsStop : Prop :=
  ∀ (c : Instr) (s : State), (c.wellFormed = false → exec c s = .fault .illFormed) ∧
    (c.wellFormed = true → ∃ t, exec c s = .next t)

/-- POWER_ON returns registers, counters, memory, sessions, operations, plan, time and the Canary latch to reset and keeps flash. POWER_LOSS does the same
and leaves the part without power. RESET_N and PGOOD_IN low reset all but the always-on items: time goes on, LAST reads 1, flash is kept; with the
Canary latched they have no effect. START_UP of a part that is powered, not tripped and not started powers chip control, shows the straps and reaches
STAGE 5. DDR_TRAINING_DONE records the channels that passed, once. BOOT_LOAD with no valid slot ends bare (STATE 0, no plan); with a valid first slot
whose image passes every check, that image waits to be applied and STATE reads 3. PLAN_APPLY of a waiting boot image without REG_INIT makes it the
running plan and ends the boot load. (R66, R67, R69, R70, R360, R410, R436, R437, R444, R447, R448, 18_reset_persistence.md) -/
def Obligations.PowerStartUpAndBoot : Prop :=
  (∀ s : State,
    Completes .powerOn s (fun t => t.regs = [] ∧ t.ctrs = [] ∧ t.bytes = [] ∧ t.tags = [] ∧ t.sessions = [] ∧ t.ops = [] ∧ t.plan = none ∧
      t.time = 0 ∧ t.powered = true ∧ t.canary = false ∧ t.started = false ∧ t.flash = s.flash ∧ t.pending = s.pending) ∧
    Completes .powerLoss s (fun t => t.regs = [] ∧ t.bytes = [] ∧ t.sessions = [] ∧ t.plan = none ∧ t.powered = false ∧ t.canary = false ∧
      t.flash = s.flash) ∧
    (s.powered = true → s.canary = false →
      Completes .resetNLow s (fun t => t.rd RST_STATUS_LAST = 1 ∧ t.rd WAKE_SRC_LAST = 0 ∧ t.bytes = [] ∧ t.sessions = [] ∧ t.ops = [] ∧
        t.plan = none ∧ t.started = false ∧ t.time = s.time ∧ t.mono = s.mono ∧ t.flash = s.flash ∧ t.rd TIME_STATUS_STEPS = s.rd TIME_STATUS_STEPS ∧
        t.rd VAULT_STATUS_CLEARS = (s.rd VAULT_STATUS_CLEARS + 1) % 2 ^ VAULT_STATUS_CLEARS.width) ∧
      Completes .pgoodInLow s (fun t => t.rd RST_STATUS_LAST = 1 ∧ t.rd WAKE_SRC_LAST = 0 ∧ t.bytes = [] ∧ t.sessions = [] ∧ t.ops = [] ∧
        t.plan = none ∧ t.started = false ∧ t.time = s.time ∧ t.mono = s.mono ∧ t.flash = s.flash ∧ t.rd TIME_STATUS_STEPS = s.rd TIME_STATUS_STEPS ∧
        t.rd VAULT_STATUS_CLEARS = (s.rd VAULT_STATUS_CLEARS + 1) % 2 ^ VAULT_STATUS_CLEARS.width)) ∧
    (s.powered = true → s.canary = true → exec .resetNLow s = .next s ∧ exec .pgoodInLow s = .next s)) ∧
  (∀ (strap : BitVec 8) (ok : Bool) (s : State), s.powered = true → s.canary = false → s.started = false →
    Completes (.startUp strap ok) s (fun t => t.started = true ∧ t.rd RST_STATUS_STAGE = 5 ∧ t.rd FUSE_STATUS_STRAP = strap.toNat ∧
      t.rd MADC_CTRL_SELFCAL = 1 ∧ (ok = true → t.rd VAULT_STATUS_IDENT_OK = 1))) ∧
  (∀ (pass : BitVec 4) (s : State), s.alive = true → s.ddrTrain = none →
    Completes (.ddrTrainingDone pass) s (fun t => t.ddrTrain = some pass.toNat)) ∧
  (∀ s : State, s.alive = true → s.booting = true → s.checked = none →
    (bootSlots s = [] → Completes .bootLoad s (fun t => t.booting = false ∧ t.rd PLAN_STATUS_STATE = 0 ∧ t.plan = s.plan)) ∧
    (∀ n rest len dig ctr p, bootSlots s = n :: rest → slotCommit s n = some (len, dig, ctr) →
      checkImage s.otp (s.rd ⟨REV_ID, 0, 32⟩) (slotImage s n len) len (some dig) (fun _ => true) (n + 1) = .ok p →
      Completes .bootLoad s (fun t => t.checked = some p ∧ t.booting = true ∧ t.rd PLAN_STATUS_STATE = 3 ∧ t.rd RST_STATUS_STAGE = 6))) ∧
  (∀ (s : State) (p : Plan), s.alive = true → s.checked = some p → s.booting = true → s.plan = none → initOf p.recs = [] →
    Completes .planApply s (fun t => t.plan = some p ∧ t.checked = none ∧ t.booting = false))

/-- SIGNAL_DETECT leads from DETECT to SETTLE. SETTLE_DONE and SETTLE_LIMIT take the gain while the AGC runs and lead from SETTLE to SEARCH. A dwell with
candidates takes the first, with its mode and one attempt, into RETUNE; one without stays in SEARCH, and the fourth in a row leads to DETECT.
RETUNE_DONE leads to CONVERGE; RETUNE_LIMIT and CONVERGE_LIMIT take the next candidate, or SEARCH when none is left. ACQ_TIMEOUT sets its event bit
and moves nothing. The candidates of a dwell, in the order of R92, are the function `candidates`. (R85, R86, R91, R92, R94, R95, R98, R103,
03_receive_front.md) -/
def Obligations.LaneSearchSteps : Prop :=
  ∀ (f : Fin 16) (p : Fin 9) (g : BitVec 7) (tones : List Tone) (s : State),
    (acqIn s f p 1 = true → Completes (.signalDetect f p) s fun t => t.rd (LANE_ACQ_STATUS_STATE f p) = 2) ∧
    (acqIn s f p 2 = true →
      (Completes (.settleDone f p g) s fun t =>
        t.rd (LANE_ACQ_STATUS_STATE f p) = 3 ∧ (s.on (LANE_AGC_FROZEN f p) = false → t.rd (LANE_AGC_GAIN f p) = g.toNat)) ∧
      (Completes (.settleLimit f p g) s fun t =>
        t.rd (LANE_ACQ_STATUS_STATE f p) = 3 ∧ (s.on (LANE_AGC_FROZEN f p) = false → t.rd (LANE_AGC_GAIN f p) = g.toNat))) ∧
    (acqIn s f p 3 = true →
      (∀ c cs, candidates (s.lane f p).dwellModes tones = c :: cs → Completes (.searchDwell f p tones) s fun t =>
        t.rd (LANE_ACQ_STATUS_STATE f p) = 4 ∧ t.rd (LANE_ACQ_STATUS_MODE f p) = c.mode ∧
          t.rd (LANE_ACQ_STATUS_ATTEMPTS f p) = satInc (LANE_ACQ_STATUS_ATTEMPTS f p).width (s.rd (LANE_ACQ_STATUS_ATTEMPTS f p))) ∧
      (candidates (s.lane f p).dwellModes tones = [] → Completes (.searchDwell f p tones) s fun t =>
        t.rd (LANE_ACQ_STATUS_STATE f p) = if 3 ≤ (s.lane f p).emptyDwells then 1 else 3)) ∧
    (acqIn s f p 4 = true → Completes (.retuneDone f p) s fun t => t.rd (LANE_ACQ_STATUS_STATE f p) = 5) ∧
    (acqIn s f p 4 = true → Completes (.retuneLimit f p) s fun t =>
      t.rd (LANE_ACQ_STATUS_STATE f p) = if (s.lane f p).cands = [] then 3 else 4) ∧
    (acqIn s f p 5 = true → Completes (.convergeLimit f p) s fun t =>
      t.rd (LANE_ACQ_STATUS_STATE f p) = if (s.lane f p).cands = [] then 3 else 4) ∧
    (s.alive = true → s.rd (LANE_ACQ_STATUS_STATE f p) ≠ 0 → s.rd (LANE_ACQ_STATUS_STATE f p) ≠ 7 →
      Completes (.acqTimeout f p) s fun t => t.on (LANE_EVENTS_ACQ_TIMEOUT f p) = true ∧
        t.rd (LANE_ACQ_STATUS_STATE f p) = s.rd (LANE_ACQ_STATUS_STATE f p))

/-- A VERIFY window that passes the test of R93 (or of R208 in pattern mode) enters LOCKED with P_LOCK the power measured; one that fails in VERIFY counts
a false lock and takes the next candidate, in RELOCK it enters SETTLE. RELOCK_LIMIT enters SETTLE; RELOCK_RESTART_END stays in RELOCK and starts the
window. EQ_CONV.DONE ends CONVERGE into VERIFY and FAIL takes the next candidate, both through the datapath that serves the lane. The eighth marker in
a row at one phase with 2 or fewer bit errors declares AM lock in a window. (R87, R91, R93, R94, R95, R118, R143, R152, R208, 04_equalisation.md,
03_receive_front.md) -/
def Obligations.LaneVerifySteps : Prop :=
  ∀ (f : Fin 16) (p d : Fin 9) (v : Verify) (s : State),
    (acqIn s f p 6 = true ∨ (acqIn s f p 8 = true ∧ (s.lane f p).relockWindow = true) →
      ((patternMode s f p = true ∧ patTest v = true) ∨
        (patternMode s f p = false ∧ (windowAlign s f p v).isSome = true ∧ lockTest s f p v = true) →
        Completes (.verifyWindow f p v) s fun t => t.rd (LANE_ACQ_STATUS_STATE f p) = 7 ∧ t.on (LANE_ACQ_STATUS_LOCKED f p) = true ∧
          t.on (LANE_AGC_FROZEN f p) = true ∧ t.rd (LANE_POWER_P_LOCK f p) = s.rd (LANE_POWER_P_NOW f p) ∧ t.on (LANE_EVENTS_LOCK f p) = true) ∧
      ((patternMode s f p = true ∧ patTest v = false) ∨
        (patternMode s f p = false ∧ ((windowAlign s f p v).isSome = false ∨ lockTest s f p v = false)) →
        Completes (.verifyWindow f p v) s fun t => t.on (LANE_ACQ_STATUS_LOCKED f p) = false ∧
          t.rd (LANE_ACQ_STATUS_STATE f p) = (if s.rd (LANE_ACQ_STATUS_STATE f p) = 8 then 2 else if (s.lane f p).cands = [] then 3 else 4) ∧
          (s.rd (LANE_ACQ_STATUS_STATE f p) = 6 → t.rd (LANE_ACQ_STATUS_FALSE_LOCKS f p) =
            satInc (LANE_ACQ_STATUS_FALSE_LOCKS f p).width (s.rd (LANE_ACQ_STATUS_FALSE_LOCKS f p))))) ∧
    (acqIn s f p 8 = true → Completes (.relockLimit f p) s fun t => t.rd (LANE_ACQ_STATUS_STATE f p) = 2) ∧
    (acqIn s f p 8 = true → (s.lane f p).relockWindow = false → Completes (.relockRestartEnd f p) s fun t =>
      t.rd (LANE_ACQ_STATUS_STATE f p) = 8 ∧ (t.lane f p).relockWindow = true) ∧
    (Reaches s (EQ_CONV f d) → servedLane s f d = some p.val → s.rd (LANE_ACQ_STATUS_STATE f p) = 5 →
      (Completes (.eqConvDone f d) s fun t => t.rd (LANE_ACQ_STATUS_STATE f p) = 6 ∧ t.busStatus = stOk) ∧
      (Completes (.eqConvFail f d) s fun t => t.rd (LANE_ACQ_STATUS_STATE f p) = (if (s.lane f p).cands = [] then 3 else 4) ∧ t.busStatus = stOk)) ∧
    (acqIn s f p 6 = true → laneDp s f p < 9 → (s.lane f p).amRun = 7 → ∀ (e : Nat) (inv : Bool) (m : Marker), e ≤ 2 →
      (s.lane f p).amPhase = m.phase → Completes (.alignmentMarker f p e inv m) s fun t => t.on (CODE_STATUS_AM_LOCK f (laneDp s f p)) = true ∧ (t.lane f p).amRun = 8)

/-- In LOCKED, LOS and a RESTART enter DETECT; AM_LOSS (three markers missed in a row, or the command), DEC_FAIL and TIMING_LOSS enter RELOCK when
RELOCK_EN is set and the power lies within 1.0 dB of P_LOCK, else SETTLE; a power step with STEP_EN, a clip fraction above 1/8192 with CLIP_EN, and,
with no sealing handshake on the face, a MODE_EN that removes the locked mode enter SETTLE. LAST_LOSS is the cause and its event bit is set. RESTART
also acts in every state but OFF. Stated for lanes 0 to 7, and for p8 without a sealing handshake (which the loss would end, R230); modeEn is the
write of LANE_ACQ_CTRL. (R84, R86, R91, R96, R98, R99, R100, R101, R102, R103, R104, R121) -/
def Obligations.LaneLosses : Prop :=
  ∀ (f : Fin 16) (p : Fin 9) (s : State), (p = 8 → s.rd (SEAL_STATUS_HS_STATE f) = 0) →
    (acqIn s f p 7 = true →
      (Completes (.los f p) s fun t => t.rd (LANE_ACQ_STATUS_LAST_LOSS f p) = 1 ∧ t.rd (LANE_ACQ_STATUS_STATE f p) = 1 ∧
        t.on (LANE_EVENTS_LOS f p) = true ∧ t.rd (LANE_EFFORT_CURRENT f p) = 0 ∧ t.rd (LANE_CLIP_COUNT_CLIPS f p) = 0) ∧
      (Completes (.decFail f p) s fun t => t.rd (LANE_ACQ_STATUS_LAST_LOSS f p) = 3 ∧ t.on (LANE_EVENTS_DEC_FAIL f p) = true ∧
        t.rd (LANE_ACQ_STATUS_STATE f p) = if s.on (LANE_ACQ_CTRL_RELOCK_EN f p) ∧ powerNearLock s f p then 8 else 2) ∧
      (patternMode s f p = false → Completes (.amLoss f p) s fun t => t.rd (LANE_ACQ_STATUS_LAST_LOSS f p) = 2 ∧
        t.on (LANE_EVENTS_AM_LOSS f p) = true ∧
        t.rd (LANE_ACQ_STATUS_STATE f p) = if s.on (LANE_ACQ_CTRL_RELOCK_EN f p) ∧ powerNearLock s f p then 8 else 2) ∧
      (patternMode s f p = false → 2 ≤ (s.lane f p).amMisses → ∀ (e : Nat) (inv : Bool) (m : Marker), 2 < e ∨ (s.lane f p).amPhase ≠ m.phase →
        Completes (.alignmentMarker f p e inv m) s fun t =>
        t.rd (LANE_ACQ_STATUS_LAST_LOSS f p) = 2 ∧ t.on (LANE_EVENTS_AM_LOSS f p) = true) ∧
      (∀ interp freq phase, Completes (.timingLoss f p interp freq phase) s fun t =>
        t.rd (LANE_ACQ_STATUS_LAST_LOSS f p) = 6 ∧ t.on (LANE_EVENTS_TIMING f p) = true ∧
        t.rd (LANE_ACQ_STATUS_STATE f p) = if s.on (LANE_ACQ_CTRL_RELOCK_EN f p) ∧ powerNearLock s f p then 8 else 2) ∧
      (∀ (sumSq n : Nat) (gain : BitVec 7), s.on (LANE_ACQ_CTRL_STEP_EN f p) = true →
        powerStep (s.lane f p).blocks (clampI (-32767) 32767 (powerIn sumSq n (gainNow s f p gain.toNat))) = true →
        Completes (.powerBlock f p sumSq n gain) s fun t => t.rd (LANE_ACQ_STATUS_LAST_LOSS f p) = 4 ∧ t.rd (LANE_ACQ_STATUS_STATE f p) = 2 ∧
          t.on (LANE_EVENTS_STEP f p) = true) ∧
      (∀ clipped samples, s.on (LANE_ACQ_CTRL_CLIP_EN f p) = true → samples < clipped * 8192 →
        Completes (.clipWindow f p clipped samples) s fun t => t.rd (LANE_ACQ_STATUS_LAST_LOSS f p) = 5 ∧ t.rd (LANE_ACQ_STATUS_STATE f p) = 2 ∧
          t.on (LANE_EVENTS_CLIP f p) = true)) ∧
    (Reaches s (LANE_ACQ_CTRL f p) → s.rd (LANE_ACQ_STATUS_STATE f p) ≠ 0 → Nat.land (s.rd (LANE_ACQ_CTRL_MODE_EN f p)) (faceModes s f) ≠ 0 →
      Completes (.restart f p) s fun t => t.busStatus = stOk ∧ t.rd (LANE_ACQ_STATUS_LAST_LOSS f p) = 7 ∧ t.rd (LANE_ACQ_STATUS_STATE f p) = 1 ∧
        t.on (LANE_EVENTS_RESTART f p) = true ∧ t.on (LANE_ACQ_CTRL_RESTART f p) = false) ∧
    (∀ v : Word, Reaches s (LANE_ACQ_CTRL f p) →
      (Nat.land (v.toNat % 16) (faceModes s f) ≠ 0 → v.toNat < 2 ^ 31 → Completes (.modeEn f p v) s fun t => t.busStatus = stOk ∧
        t.rd (LANE_ACQ_CTRL_MODE_EN f p) = Nat.land (v.toNat % 16) (faceModes s f) ∧
        (s.rd (LANE_ACQ_STATUS_STATE f p) = 7 → Nat.land (v.toNat % 16) (faceModes s f) ≠ s.rd (LANE_ACQ_CTRL_MODE_EN f p) →
          nbit (Nat.land (v.toNat % 16) (faceModes s f)) (s.rd (LANE_ACQ_STATUS_MODE f p) - 1) = false → s.rd (SEAL_STATUS_HS_STATE f) = 0 →
          t.rd (LANE_ACQ_STATUS_LAST_LOSS f p) = 8 ∧ t.rd (LANE_ACQ_STATUS_STATE f p) = 2)) ∧
      (Nat.land (v.toNat % 16) (faceModes s f) = 0 → Completes (.modeEn f p v) s fun t => t.busStatus = stRange ∧ RegsKept (fun _ => false) s t))

/-- In every state but OFF, a power block of n samples shows the power of R87 from the sum of their squared codes and the gain in use (saturated to the
field) and a clip window adds its clipped samples to the count, saturating; without a loss and without a rotation of the lane the state of the engine
stays. In OFF neither changes anything. (R87, R100, R101, R104, 03_receive_front.md) -/
def Obligations.LaneMeasurements : Prop :=
  ∀ (f : Fin 16) (p : Fin 9) (sumSq n : Nat) (gain : BitVec 7) (clipped samples : Nat) (s : State), s.alive = true →
    (s.rd (LANE_ACQ_STATUS_STATE f p) = 0 → exec (.powerBlock f p sumSq n gain) s = .next s ∧ exec (.clipWindow f p clipped samples) s = .next s) ∧
    (s.rd (LANE_ACQ_STATUS_STATE f p) ≠ 0 → s.rd (LANE_ACQ_STATUS_STATE f p) ≠ 7 →
      (Completes (.powerBlock f p sumSq n gain) s fun t =>
        t.rd (LANE_POWER_P_NOW f p) = powerField (powerIn sumSq n (gainNow s f p gain.toNat)) ∧
        t.rd (LANE_ACQ_STATUS_STATE f p) = s.rd (LANE_ACQ_STATUS_STATE f p) ∧
        RegsKept (fun a => a == LANE_POWER f p || a == LANE_AGC f p) s t ∧ t.bytes = s.bytes ∧ t.ctrs = s.ctrs) ∧
      (Completes (.clipWindow f p clipped samples) s fun t =>
        t.rd (LANE_CLIP_COUNT_CLIPS f p) = satAdd 32 (s.rd (LANE_CLIP_COUNT_CLIPS f p)) clipped ∧
        RegsKept (fun a => a == LANE_CLIP_COUNT f p) s t ∧ t.bytes = s.bytes ∧ t.ctrs = s.ctrs))

/-- From every state whose working state names what exists (StateNamesWhatExists), a command of the acquisition engine on a lane that serves no sealing
handshake leaves every register outside the face, the port table, Survey, Assay and the records of events and counts as it was, and every byte outside
Tally's store and the face's receive banks; flash, OTP, the plan, operations, time and the queue stay. (R91, R99, R100, R101, R104,
03_receive_front.md) -/
def Obligations.LaneFrame : Prop :=
  ∀ (f : Fin 16) (p : Fin 9) (g : BitVec 7) (inv : Bool) (m : Marker) (a b : Nat) (tones : List Tone) (v : Verify) (s t : State),
    (p = 8 → s.rd (SEAL_STATUS_HS_STATE f) = 0) →
    NamesWf s → ∀ c ∈ [Instr.signalDetect f p, .settleDone f p g, .settleLimit f p g, .searchDwell f p tones, .retuneDone f p, .retuneLimit f p,
        .convergeLimit f p, .verifyWindow f p v, .acqTimeout f p, .relockRestartEnd f p, .relockLimit f p, .powerBlock f p a b g, .los f p,
        .clipWindow f p a b, .decFail f p, .amLoss f p, .alignmentMarker f p a inv m],
      exec c s = .next t →
        WordsKept (fun r => inFace f r || inPorts r || inRange 0x200000 0x400000 r || countReg r) s t ∧
        BytesKept (fun r i _ => r == 7 || (r == 5 && i == f.val)) s t ∧ RestKept s t

/-- A swap requested with none pending is pending and the write completes OK; one requested while another is pending is ignored with SWAP_OVERRUN. When
the pending swap takes effect, its ACTIVE bit toggles, its request reads 0 and SWAP_COUNT counts it. BANK_UE sets UE and zeroes the bin until the next
swap, which ends every zeroed bin. (R111, R113, R115, R325, 04_equalisation.md) -/
def Obligations.BankSwaps : Prop :=
  ∀ (f : Fin 16) (d : Fin 9) (s : State),
    (Reaches s (EQ_BANK_CTRL f d) →
      (swapPending s f d = false →
        (Completes (.swapEq f d) s fun t => t.busStatus = stOk ∧ t.on (EQ_BANK_CTRL_SWAP_EQ f d) = true ∧ t.on (EQ_BANK_CTRL_SWAP_MLSE f d) = false) ∧
        (Completes (.swapMlse f d) s fun t => t.busStatus = stOk ∧ t.on (EQ_BANK_CTRL_SWAP_MLSE f d) = true ∧ t.on (EQ_BANK_CTRL_SWAP_EQ f d) = false)) ∧
      (swapPending s f d = true → ∀ c ∈ [Instr.swapEq f d, .swapMlse f d], Completes c s fun t => t.on (EQ_BANK_CTRL_SWAP_OVERRUN f d) = true ∧
        t.rd (EQ_BANK_CTRL_SWAP_EQ f d) = s.rd (EQ_BANK_CTRL_SWAP_EQ f d) ∧ t.rd (EQ_BANK_CTRL_SWAP_MLSE f d) = s.rd (EQ_BANK_CTRL_SWAP_MLSE f d))) ∧
    (s.alive = true → s.on (EQ_BANK_CTRL_SWAP_EQ f d) = true → s.on (EQ_BANK_CTRL_SWAP_MLSE f d) = false →
      Completes (.swapApply f d) s fun t => t.rd (EQ_BANK_CTRL_ACTIVE_EQ f d) = 1 - s.rd (EQ_BANK_CTRL_ACTIVE_EQ f d) ∧
        t.on (EQ_BANK_CTRL_SWAP_EQ f d) = false ∧ t.rd (EQ_BANK_CTRL_ACTIVE_MLSE f d) = s.rd (EQ_BANK_CTRL_ACTIVE_MLSE f d) ∧
        t.rd (EQ_BANK_CTRL_SWAP_COUNT f d) = (s.rd (EQ_BANK_CTRL_SWAP_COUNT f d) + 1) % 2 ^ (EQ_BANK_CTRL_SWAP_COUNT f d).width ∧ (t.rxd f d).zeroBins = []) ∧
    (s.alive = true → s.on (EQ_BANK_CTRL_SWAP_MLSE f d) = true → s.on (EQ_BANK_CTRL_SWAP_EQ f d) = false →
      Completes (.swapApply f d) s fun t => t.rd (EQ_BANK_CTRL_ACTIVE_MLSE f d) = 1 - s.rd (EQ_BANK_CTRL_ACTIVE_MLSE f d) ∧
        t.on (EQ_BANK_CTRL_SWAP_MLSE f d) = false ∧ t.rd (EQ_BANK_CTRL_ACTIVE_EQ f d) = s.rd (EQ_BANK_CTRL_ACTIVE_EQ f d) ∧
        t.rd (EQ_BANK_CTRL_SWAP_COUNT f d) = (s.rd (EQ_BANK_CTRL_SWAP_COUNT f d) + 1) % 2 ^ (EQ_BANK_CTRL_SWAP_COUNT f d).width) ∧
    (rxdRuns s f d = true → ∀ bin, Completes (.bankUe f d bin) s fun t => t.on (EQ_BANK_CTRL_UE f d) = true ∧ bin.val ∈ (t.rxd f d).zeroBins)

/-- A write to a word of the inactive coefficient bank or detector table, with no swap pending, stores the word (header words keep TAG and E_C, table
words their 12 bits) and completes OK. A write to the active one, or while a swap is pending, changes no byte, sets ACTIVE_WR and completes with BUSY.
Word 64 and above of a table is no word of it and has no effect. (R111, R112, R124, R325, 04_equalisation.md) -/
def Obligations.BankWrites : Prop :=
  ∀ (f : Fin 16) (d : Fin 9) (table : Bool) (b : Fin 2) (k : Fin 258) (v : Word) (s : State), (table = true → k.val < 64) →
    Reaches s (rxdAt f d + (if table then 0x2000 + b.val * 0x100 else 0x1000 + b.val * 0x800) + 4 * k.val) →
    (bankActive s f d b table = false → swapPending s f d = false → Completes (.coefficientBankWrite f d table b k v) s fun t =>
      t.busStatus = stOk ∧ t.getBytes 5 f (4 * (if table then tableWord d b k else bankWord d b k)) 4 =
        leBytes 4 (if table then v.toNat % 2 ^ 12 else if k.val = 0 then v.toNat / 2 ^ 24 * 2 ^ 24 + v.toNat % 16 else v.toNat)) ∧
    (bankActive s f d b table = true ∨ swapPending s f d = true → Completes (.coefficientBankWrite f d table b k v) s fun t =>
      t.busStatus = stBusy ∧ t.on (EQ_BANK_CTRL_ACTIVE_WR f d) = true ∧ t.bytes = s.bytes)

/-- On a running datapath with ENABLE set, the gradient accumulated is latched into a free buffer: READY, a header with the next sequence number and E_G,
then its 257 bins (154 to 256 zero at E3). With READY set it is discarded with OVERRUN. Either way the next accumulation starts empty. The choice of
E_G is the model's (gradPack, notes/assumptions/68.md). Writing 1 to READY frees the buffer. A restart of the exponent range puts every field of
EQ_EXP_RANGE at its Reset column with RESTART reading 1. (R110, R117, R128, R20, 04_equalisation.md) -/
def Obligations.GradientBuffer : Prop :=
  ∀ (f : Fin 16) (d : Fin 9) (s : State),
    (rxdRuns s f d = true → s.on (GRAD_CTRL_ENABLE f d) = true →
      (s.on (GRAD_CTRL_READY f d) = false → Completes (.gradientLatch f d) s fun t => t.on (GRAD_CTRL_READY f d) = true ∧
        memRaw t 5 f (gradWord d 0) = ((s.rxd f d).gradSeq + 1) % 256 * 2 ^ 24 + (gradPack (s.rxd f d).dp.grad).1 ∧
        (∀ k < 257, memRaw t 5 f (gradWord d (k + 1)) =
          if rxdEffort s f d = 3 ∧ 154 ≤ k then 0 else ((gradPack (s.rxd f d).dp.grad).2.getD k 0).toNat) ∧
        (t.rxd f d).dp.grad = [] ∧ (t.rxd f d).dp.gradN = 0) ∧
      (s.on (GRAD_CTRL_READY f d) = true → Completes (.gradientLatch f d) s fun t => t.on (GRAD_CTRL_READY f d) = true ∧
        t.on (GRAD_CTRL_OVERRUN f d) = true ∧ (∀ w < 2 ^ 20, memRaw t 5 f w = memRaw s 5 f w) ∧
        (t.rxd f d).dp.grad = [] ∧ (t.rxd f d).dp.gradN = 0)) ∧
    (Reaches s (GRAD_CTRL f d) → 4 ≤ s.rd (GRAD_CTRL_LOG2_BLOCKS f d) → Completes (.gradientRelease f d) s fun t =>
      t.busStatus = stOk ∧ t.on (GRAD_CTRL_READY f d) = false ∧ t.rd (GRAD_CTRL_ENABLE f d) = s.rd (GRAD_CTRL_ENABLE f d)) ∧
    (Reaches s (EQ_EXP_RANGE f d) → Completes (.eqExpRangeRestart f d) s fun t => t.busStatus = stOk ∧ t.on (EQ_EXP_RANGE_RESTART f d) = true ∧
      t.rd (EQ_EXP_RANGE_SAT_COUNT f d) = 0 ∧ t.rd (EQ_EXP_RANGE_EF_MIN f d) = 31 ∧ t.rd (EQ_EXP_RANGE_EF_MAX f d) = 0)

/-- A CAP no deeper than the face's limit is set, and one below the present level is requested; a deeper CAP is RANGE and changes no register. In LOCKED a
pending level becomes the present one and CHANGES counts it. A quality window of a locked lane shows SNR from the window's sums, the margin at the
present level, the margin at the next deeper level (0x8000 at E3 or at the cap) and the mean of every level at which symbols were decided; windows are
counted. Sums without error or signal show a free value (notes/assumptions/68.md). (R96, R129, R131, R134, 04_equalisation.md) -/
def Obligations.EffortAndQuality : Prop :=
  ∀ (f : Fin 16) (p d : Fin 9) (s : State),
    (∀ cap : Fin 4, Reaches s (LANE_EFFORT f p) →
      (cap.val ≤ faceEffortLimit s f → Completes (.laneEffortCap f p cap) s fun t => t.busStatus = stOk ∧ t.rd (LANE_EFFORT_CAP f p) = cap.val ∧
        (cap.val < s.rd (LANE_EFFORT_CURRENT f p) → t.on (LANE_EFFORT_PEND f p) = true ∧ t.rd (LANE_EFFORT_PENDING f p) = cap.val)) ∧
      (faceEffortLimit s f < cap.val → Completes (.laneEffortCap f p cap) s fun t => t.busStatus = stRange ∧ RegsKept (fun _ => false) s t)) ∧
    (acqIn s f p 7 = true → s.on (LANE_EFFORT_PEND f p) = true → Completes (.effortSwitch f p) s fun t =>
      t.rd (LANE_EFFORT_CURRENT f p) = s.rd (LANE_EFFORT_PENDING f p) ∧ t.on (LANE_EFFORT_PEND f p) = false ∧
        t.rd (LANE_EFFORT_CHANGES f p) = (s.rd (LANE_EFFORT_CHANGES f p) + 1) % 2 ^ (LANE_EFFORT_CHANGES f p).width) ∧
    (rxdRuns s f d = true → acqIn s f (s.rd (RXD_STATUS_LANE f d)) 7 = true → ∀ q : QualSum,
      Completes (.qualityWindow f d q) s fun t => t.rd (QUAL_SNR_WINDOWS f d) = satInc 16 (s.rd (QUAL_SNR_WINDOWS f d)) ∧
        t.rd (QUAL_SNR_SNR_DET f d) = dbField (windowSnr s (windowSums s f d q)) ∧
        ((windowSums s f d q).t2 ≠ 0 → (windowSums s f d q).e2 ≠ 0 → t.rd (QUAL_SNR_SNR_DET f d) =
          dbField (log16 (windowSums s f d q).t2 (windowSums s f d q).e2)) ∧
        (∀ i < 4, ((windowSums s f d q).levels.getD i {}).n ≠ 0 → t.rd (QUAL_LEVEL_MEAN f d i) =
          twos 16 (levelMean ((windowSums s f d q).levels.getD i {}))) ∧
        t.rd (QUAL_MARGIN_MARGIN_NOW f d) =
          dbField (clampI (-32767) 32767 (windowSnr s (windowSums s f d q)) - snrReq (s.rd (LANE_ACQ_STATUS_MODE f (s.rd (RXD_STATUS_LANE f d)))) (rxdEffort s f d)) ∧
        (rxdEffort s f d = 3 ∨ s.rd (LANE_EFFORT_CAP f (s.rd (RXD_STATUS_LANE f d))) ≤ rxdEffort s f d → t.rd (QUAL_MARGIN_MARGIN_NEXT f d) = 0x8000))

/-- A well-formed inner codeword of a running datapath passes the stages (wordTaken); where no whole codeword has come, nothing more follows. On a
datapath in service with codeword alignment the codeword decoded counts in INNER_CW, a nonzero hard syndrome in INNER_HARD_NZ, corrected bits in
INNER_BITS_CORR and their place of the histogram, a failure in INNER_HIST_7. An outer codeword of a lane in L400 with AM lock counts in the place of
its corrected symbols and adds them to OUTER_SYM, an uncorrectable one counts in OUTER_HIST_16 and sets OUTER_UE. A counter at 2^48-1 wraps to 0 and
sets WRAPPED. CLEAR puts every counter of the datapath at 0. (R146, R150, R153, R156, R157, R160, 05_line_coding.md) -/
def Obligations.CodingCounters : Prop :=
  ∀ (f : Fin 16) (d : Fin 9) (s : State),
    (∀ word : InnerWord, word.wellFormed = true → rxdRuns s f d = true →
      (∀ u, wordTaken s f d word = (none, u) → exec (.innerCodeword f d word) s = .next u) ∧
      (∀ v u nz c, wordTaken s f d word = (some v, u) → codingOn u f d = true → innerDecode (rxdEffort u f d) v = (nz, c) →
        Completes (.innerCodeword f d word) s fun t => t.ctr (INNER_CW f d) = (u.ctr (INNER_CW f d) + 1) % 2 ^ 48 ∧
          t.ctr (INNER_HARD_NZ f d) % 2 ^ 48 = (u.ctr (INNER_HARD_NZ f d) + bit nz) % 2 ^ 48 ∧
          (∀ n, c = some n → t.ctr (INNER_BITS_CORR f d) = (u.ctr (INNER_BITS_CORR f d) + n) % 2 ^ 48 ∧
            t.ctr (INNER_HIST f d (min n 6)) = (u.ctr (INNER_HIST f d (min n 6)) + 1) % 2 ^ 48) ∧
          (c = none → t.ctr (INNER_HIST f d 7) = (u.ctr (INNER_HIST f d 7) + 1) % 2 ^ 48) ∧
          (u.rd (LANE_MAP_AUX_SHADOW_LANE f) ≠ u.rd (RXD_STATUS_LANE f d) →
            (t.rxd f d).dp.msg = (delivered (u.rd (RXD_STATUS_MODE f d)) (rxdEffort u f d) v).1))) ∧
    (∀ v : List (BitVec 6), v.length = 2 * modePeriod (s.rd (RXD_STATUS_MODE f d)) → wordTaken s f d (.soft v) = (some (v.map softVal), s)) ∧
    (codingOn s f d = true → s.on (CODE_STATUS_AM_LOCK f d) = true → s.rd (LANE_ACQ_STATUS_MODE f (s.rd (RXD_STATUS_LANE f d))) = 1 → ∀ w : OuterIn,
      Completes (.outerCodeword (.line f d) w) s fun t =>
        (∀ e y, rsDecode (word544 w.syms) = some (e, y) → e ≤ 15 ∧ t.ctr (OUTER_HIST f d e) = (s.ctr (OUTER_HIST f d e) + 1) % 2 ^ 48 ∧
          t.ctr (OUTER_SYM f d) = (s.ctr (OUTER_SYM f d) + e) % 2 ^ 48) ∧
        (rsDecode (word544 w.syms) = none → t.ctr (OUTER_HIST f d 16) = (s.ctr (OUTER_HIST f d 16) + 1) % 2 ^ 48 ∧
          (s.rd (LANE_MAP_AUX_SHADOW_LANE f) ≠ s.rd (RXD_STATUS_LANE f d) → t.on (CODE_STATUS_OUTER_UE f d) = true))) ∧
    (codingOn s f d = true → ∀ c : Fin 29, s.ctr (codingCtr f d c) = 2 ^ 48 - 1 → Completes (.counterWrap f d c) s fun t =>
      t.ctr (codingCtr f d c) = 0 ∧ t.on (CODE_STATUS_WRAPPED f d) = true) ∧
    (Reaches s (CNT_CTRL f d) → Completes (.cntCtrlClear f d) s fun t => t.busStatus = stOk ∧ ∀ c : Fin 29, t.ctr (codingCtr f d c) = 0)

/-- APPLY reads 1 from the write until the set takes effect; then the set in use is the one that the registers and words hold, APPLY reads 0, APPLY_COUNT
counts it and SAT_COUNT holds the clamped codes of the run given, saturating at 255. (R163, R164, R165, 06_transmit_optics.md) -/
def Obligations.TransmitShaping : Prop :=
  ∀ (f : Fin 16) (d : Fin 9) (s : State),
    (Reaches s (TXD_CTRL f d) → Completes (.txdApply f d) s fun t => t.busStatus = stOk ∧ t.on (TXD_CTRL_APPLY f d) = true ∧
      t.rd (TXD_CTRL_SCALE f d) = s.rd (TXD_CTRL_SCALE f d) ∧ t.shapes = s.shapes) ∧
    (s.alive = true → s.on (TXD_CTRL_APPLY f d) = true → ∀ syms : List (Fin 4), Completes (.shapingSetApplied f d syms) s fun t =>
      t.shape f d = pendingShape s f d ∧ t.on (TXD_CTRL_APPLY f d) = false ∧
        t.rd (TXD_STATUS_APPLY_COUNT f d) = (s.rd (TXD_STATUS_APPLY_COUNT f d) + 1) % 2 ^ (TXD_STATUS_APPLY_COUNT f d).width ∧
        t.rd (TXD_STATUS_SAT_COUNT f d) = min 255 (clampedCodes (pendingShape s f d) (s.on (TXD_CTRL_INVERT f d)) (syms.map Fin.val)))

/-- From every state whose working state names what exists (StateNamesWhatExists), these commands leave every register outside their face, Survey and
Assay, the memory system's error records and the records of events and counts as it was, and every byte outside Tally's store, the face's receive and
transmit banks, the calibration sets and DDR4, which mirrors them; flash, OTP, the plan, operations, time and the queue stay. (R111, R113, R117, R129,
R156, R165, 04_equalisation.md, 05_line_coding.md, 06_transmit_optics.md) -/
def Obligations.DatapathFrame : Prop :=
  ∀ (f : Fin 16) (p d : Fin 9) (table : Bool) (b : Fin 2) (k : Fin 258) (v : Word)
    (cap : Fin 4) (q : QualSum) (word : InnerWord) (n : Fin 29) (syms : List (Fin 4)) (s t : State),
    NamesWf s → ∀ c ∈ [Instr.swapEq f d, .swapMlse f d, .swapApply f d, .bankUe f d k, .coefficientBankWrite f d table b k v, .gradientLatch f d,
        .gradientRelease f d, .eqExpRangeRestart f d, .laneEffortCap f p cap, .effortSwitch f p, .qualityWindow f d q,
        .innerCodeword f d word, .counterWrap f d n, .cntCtrlClear f d, .txdApply f d, .shapingSetApplied f d syms],
      exec c s = .next t →
        WordsKept (fun r => inFace f r || inRange 0x200000 0x400000 r || inRange 0x500000 0x580000 r || countReg r) s t ∧
        BytesKept (fun r i _ => r == 7 || r == 9 || isDdr r || ((r == 5 || r == 6) && i == f.val)) s t ∧ RestKept s t

/-- A TARGET of 1 to 5 is set and completes OK; 0, 6 and 7 complete with RANGE, DUPLEX with EYE_TRIP set completes with LIMIT, both show in RESULT and
leave TARGET. With LIMITS_LOCK clear a limit register takes the value (a CLASS above 2 is RANGE, the model's reading); with it set it completes with
LIMIT and no register changes. A lane setting within the limits in force is taken; one above MAX_LASER_I or MAX_DRV_SWING completes with LIMIT and no
register changes. (R169, R171, R172, R180, R183, R187, R325, R20, 06_transmit_optics.md) -/
def Obligations.OpticalTargets : Prop :=
  ∀ (f : Fin 16) (s : State),
    (∀ v : Fin 8, Reaches s (OPT_CTRL f) →
      (v.val = 0 ∨ 5 < v.val → Completes (.optTarget f v) s fun t => t.busStatus = stRange ∧ t.rd (OPT_STATUS_RESULT f) = stRange ∧
        t.rd (OPT_CTRL_TARGET f) = s.rd (OPT_CTRL_TARGET f)) ∧
      (v.val = 5 → s.on (OPT_STATUS_EYE_TRIP f) = true → Completes (.optTarget f v) s fun t => t.busStatus = stLimit ∧
        t.rd (OPT_STATUS_RESULT f) = stLimit ∧ t.rd (OPT_CTRL_TARGET f) = s.rd (OPT_CTRL_TARGET f)) ∧
      (1 ≤ v.val → v.val ≤ 5 → (v.val = 5 → s.on (OPT_STATUS_EYE_TRIP f) = false) → Completes (.optTarget f v) s fun t =>
        t.busStatus = stOk ∧ t.rd (OPT_CTRL_TARGET f) = v.val ∧ t.rd (OPT_CTRL_TX_LANE_EN f) = s.rd (OPT_CTRL_TX_LANE_EN f))) ∧
    (∀ v : Word, Reaches s (OPT_LIM_A f) → Reaches s (OPT_LIM_B f) →
      (s.on FUSE_STATUS_LIMITS_LOCK = true → ∀ b, Completes (.optLimWrite f b v) s fun t => t.busStatus = stLimit ∧ RegsKept (fun _ => false) s t) ∧
      (s.on FUSE_STATUS_LIMITS_LOCK = false →
        (Completes (.optLimWrite f false v) s fun t => t.busStatus = stOk ∧ t.reg (OPT_LIM_A f) = v) ∧
        (v.toNat / 2 ^ 28 ≤ 2 → Completes (.optLimWrite f true v) s fun t => t.busStatus = stOk ∧
          t.rd (OPT_LIM_B_CLASS f) = v.toNat / 2 ^ 28 ∧ t.rd (OPT_LIM_B_MPD_RESP f) = v.toNat % 2 ^ 16) ∧
        (2 < v.toNat / 2 ^ 28 → Completes (.optLimWrite f true v) s fun t => t.busStatus = stRange ∧ RegsKept (fun _ => false) s t))) ∧
    (∀ (p : Fin 9) (v : Word), Reaches s (OPT_LANE_A f p) →
      (v.toNat / 2 ^ 24 ≤ maxLaserI s f → v.toNat / 2 ^ 16 % 256 ≤ maxSwing s f → Completes (.optLaneAWrite f p v) s fun t =>
        t.busStatus = stOk ∧ t.reg (OPT_LANE_A f p) = v ∧ RegsKept (fun a => a == OPT_LANE_A f p) s t) ∧
      (maxLaserI s f < v.toNat / 2 ^ 24 ∨ maxSwing s f < v.toNat / 2 ^ 16 % 256 → Completes (.optLaneAWrite f p v) s fun t =>
        t.busStatus = stLimit ∧ RegsKept (fun _ => false) s t))

/-- With a target in force above the present state, SLEEP_TO_STANDBY, STANDBY_TO_SYNTH and SYNTH_TO_RECEIVE enter the next state (the last only with the
PLL locked and the rail confirmed), STANDBY_TO_SYNTH with PLL_LOCK. A ramp step with every emitting lane checked moves the face to the next of eight
steps, none checked; after the eighth the face is in DUPLEX. A lane that ramps by itself does the same alone. A lock timeout of a pending target
answers TIMEOUT with TARGET SYNTH. (R169, R170, R172, R184, R371, R468, 06_transmit_optics.md) -/
def Obligations.OpticalSteps : Prop :=
  ∀ (f : Fin 16) (s : State), s.alive = true → facePresent s f = true →
    (optState s f = 1 → 1 < effTarget s f → Completes (.sleepToStandby f) s fun t => optState t f = 2) ∧
    (optState s f = 2 → 2 < effTarget s f → Completes (.standbyToSynth f) s fun t => optState t f = 3 ∧ t.on (OPT_STATUS_PLL_LOCK f) = true) ∧
    (optState s f = 3 → s.on (OPT_STATUS_PLL_LOCK f) = true → 3 < effTarget s f → railWaits s f 4 = false →
      Completes (.synthToReceive f) s fun t => optState t f = 4) ∧
    (optState s f = 4 → (∀ p < 9, nbit (s.face f).emit p = true → nbit (s.face f).checked p = true) →
      (1 ≤ s.rd (OPT_STATUS_RAMP_STEP f) → s.rd (OPT_STATUS_RAMP_STEP f) < 8 → Completes (.rampStep f none) s fun t =>
        t.rd (OPT_STATUS_RAMP_STEP f) = s.rd (OPT_STATUS_RAMP_STEP f) + 1 ∧ (t.face f).checked = 0 ∧ optState t f = 4) ∧
      (s.rd (OPT_STATUS_RAMP_STEP f) = 8 → effTarget s f = 5 → Completes (.rampStep f none) s fun t => optState t f = 5)) ∧
    (∀ p : Fin 9, tabGet 0 (s.face f).laneRamp p ≠ 0 → nbit (s.face f).checked p = true → Completes (.rampStep f (some p)) s fun t =>
      tabGet 0 (t.face f).laneRamp p = if tabGet 0 (s.face f).laneRamp p < 8 then tabGet 0 (s.face f).laneRamp p + 1 else 0) ∧
    (s.on (OPT_STATUS_PENDING f) = true → Completes (.targetLockTimeout f) s fun t => t.rd (OPT_STATUS_RESULT f) = stTimeout ∧
      t.rd (OPT_CTRL_TARGET f) = 3 ∧ t.on (OPT_STATUS_PENDING f) = false)

/-- A check of an emitting lane shows the launch power of the corrected code (none for code 0). A power above EYE_TRIP trips; so does a check that went
stale. A trip sets EYE_TRIP, a DUPLEX target becomes RECEIVE, and a face that ramped or was in DUPLEX is dark with no lane emitting, in RECEIVE where
neither the chip's state nor a fault bounds it lower. (R177, R182, R183, 06_transmit_optics.md) -/
def Obligations.EyeSafety : Prop :=
  ∀ (f : Fin 16) (p : Fin 9) (raw : BitVec 12) (s : State), s.alive = true → (s.face f).emit < 512 → nbit (s.face f).emit p = true →
    (s.on MADC_STATUS_CAL_DONE = true →
      (madcCode s raw.toNat = 0 → Completes (.eyeSafetyCheck f p raw) s fun t => t.rd (OPT_LANE_B_MPD_PWR f p) = 0x8000) ∧
      (madcCode s raw.toNat ≠ 0 → Completes (.eyeSafetyCheck f p raw) s fun t =>
        t.rd (OPT_LANE_B_MPD_PWR f p) = twos 16 (launchPower (madcCode s raw.toNat) (s.rd (OPT_LIM_B_MPD_RESP f))) ∧
        (eyeTripLevel s f * 10 < launchPower (madcCode s raw.toNat) (s.rd (OPT_LIM_B_MPD_RESP f)) →
          t.on (OPT_STATUS_EYE_TRIP f) = true ∧ t.rd (OPT_CTRL_TARGET f) ≠ 5 ∧ (faceLit s f = true → faceLit t f = false ∧ (t.face f).emit = 0 ∧
            (s.rd FM_CHIP_STATUS_STATE = 0 → 4 ≤ faultCeiling s f → optState t f = 4))))) ∧
    (Completes (.eyeCheckStale f p) s fun t => t.on (OPT_STATUS_EYE_TRIP f) = true ∧ t.rd (OPT_CTRL_TARGET f) ≠ 5 ∧
      (faceLit s f = true → faceLit t f = false ∧ (t.face f).emit = 0 ∧
        (s.rd FM_CHIP_STATUS_STATE = 0 → 4 ≤ faultCeiling s f → optState t f = 4)))

/-- With a frame waiting, an exchange of a present face counts in EXCHANGES. An acknowledged write leaves the queue, clears the failures in a row and is
noted as sent; a reply with a bad CRC counts in CRC_ERRS and a refusal in NAKS, and a failed frame stays. The fourth failure in a row sets FSB_FAULT,
empties the queue and takes the face to SLEEP. A poll counts an exchange, and, where no urgent frame goes first, a status with a bit of [1:0] set
trips the face. (R173, R174, R175, R176, R177, R178, 06_transmit_optics.md) -/
def Obligations.SidebandExchanges : Prop :=
  ∀ (f : Fin 16) (reply : Option (BitVec 33)) (s : State), s.alive = true → facePresent s f = true →
    (∀ x xs, (s.face f).fsb = x :: xs →
      (Completes (.sidebandExchange f reply) s fun t =>
        t.rd (FSB_STATS_EXCHANGES f) = (s.rd (FSB_STATS_EXCHANGES f) + 1) % 2 ^ (FSB_STATS_EXCHANGES f).width ∧
        (t.face f).lastCmd = fsbCommand x) ∧
      (∀ data, fsbParse reply = .ack data → x.ty = 0 → Completes (.sidebandExchange f reply) s fun t =>
        (t.face f).fsb = xs ∧ (t.face f).fsbFails = 0 ∧ tabGet 0 (t.face f).sent (x.reg * 16 + x.lane) = x.data) ∧
      ((s.face f).fsbFails < 3 → fsbParse reply = .badCrc → Completes (.sidebandExchange f reply) s fun t =>
        (t.face f).fsb = x :: xs ∧ (t.face f).fsbFails = (s.face f).fsbFails + 1 ∧
          t.rd (FSB_STATS_CRC_ERRS f) = satInc (FSB_STATS_CRC_ERRS f).width (s.rd (FSB_STATS_CRC_ERRS f))) ∧
      (3 ≤ (s.face f).fsbFails → fsbParse reply = .none → 1 ≤ optState s f → optState s f ≤ 5 →
        1 ≤ s.rd (OPT_CTRL_TARGET f) → Completes (.sidebandExchange f reply) s fun t =>
        t.on (OPT_STATUS_FSB_FAULT f) = true ∧ optState t f = 1)) ∧
    (optState s f ≠ 1 → ∀ data, fsbParse reply = .ack data → Completes (.engineStatusPoll f reply) s fun t =>
      t.rd (FSB_STATS_EXCHANGES f) = (s.rd (FSB_STATS_EXCHANGES f) + 1) % 2 ^ (FSB_STATS_EXCHANGES f).width ∧
      ((∀ y ys, (s.face f).fsb = y :: ys → y.ty ≠ 2) → data % 4 ≠ 0 → t.on (OPT_STATUS_EYE_TRIP f) = true))

/-- A grant shows in GNT. A timeout of a requested grant sets TIMEOUT, drops REQ, and each waiting face of the bank has TARGET RECEIVE and RESULT TIMEOUT.
A grant lost while a face of the bank is lit sets LOST, and every such face is in RECEIVE with ELS_LOST. REQ falls when no face of the bank is lit,
wants DUPLEX or has frames waiting that put its light out; a grant withdrawn then shows in GNT. (R185, R186, 06_transmit_optics.md) -/
def Obligations.LaserBanks : Prop :=
  ∀ (b : Fin 4) (s : State), s.alive = true →
    (Completes (.elsGrant b) s fun t => t.on (ELS_BANK_GNT b) = true) ∧
    (s.on (ELS_BANK_REQ b) = true → s.on (ELS_BANK_GNT b) = false → Completes (.elsGrantTimeout b) s fun t =>
      t.on (ELS_BANK_TIMEOUT b) = true ∧ t.on (ELS_BANK_REQ b) = false ∧ ∀ i < 4, s.on (OPT_STATUS_ELS_WAIT (4 * b + i)) = true →
        t.rd (OPT_CTRL_TARGET (4 * b + i)) = 4 ∧ t.rd (OPT_STATUS_RESULT (4 * b + i)) = stTimeout) ∧
    (s.on (ELS_BANK_GNT b) = true → (∃ i < 4, usesEls s (4 * b + i) = true ∧ faceLit s (4 * b + i) = true) →
      Completes (.elsGrantLost b) s fun t => t.on (ELS_BANK_GNT b) = false ∧ t.on (ELS_BANK_LOST b) = true ∧
        ∀ i < 4, usesEls s (4 * b + i) = true → faceLit s (4 * b + i) = true →
          optState t (4 * b + i) = 4 ∧ t.on (OPT_STATUS_ELS_LOST (4 * b + i)) = true) ∧
    (s.on (ELS_BANK_REQ b) = true →
      (∀ i < 4, usesEls s (4 * b + i) = true → faceLit s (4 * b + i) = false ∧ s.rd (OPT_CTRL_TARGET (4 * b + i)) ≠ 5 ∧
        darkening s (4 * b + i) = false) →
      Completes (.elsRelease b) s fun t => t.on (ELS_BANK_REQ b) = false ∧ RegsKept (fun a => a == ELS_BANK b) s t) ∧
    (s.on (ELS_BANK_GNT b) = true → (∀ i < 4, usesEls s (4 * b + i) = true → faceLit s (4 * b + i) = false) →
      Completes (.elsGrantWithdrawn b) s fun t => t.on (ELS_BANK_GNT b) = false)

/-- A signal moves stage 1 to 2 (unless REFCLK_A or the die is lost), CDR lock 2 to 3 (a forced polarity skips the search), polarity 3 to training in C2C
else to marker lock, training 4 to 5, marker lock of a G0 port to READY (8) (in the paired variant only with every PCS lane once, else back to 5 with
FAIL = ORDER), of another port sets AM_LOCK. Training leaves the taps that it ended with. A stage limit of stages 2 to 4 returns the lane to stage 1
with its sticky bit, TRAIN_FAIL also with FAIL = TRAIN of the port. A ready lane that loses signal or CDR returns to stage 1, one that loses markers
to stage 5, each with its bit. RESTART returns the lane to stage 1. (R191, R192, R193, R194, R196, R222, R458, 07_host_lanes_gearbox.md) -/
def Obligations.HostStages : Prop :=
  ∀ (h : Fin 256) (s : State), s.alive = true →
    (s.rd (HL_STATUS_STAGE h) = 1 → s.refALost = false → nbit s.d2d (h.val / 64) = false → Completes (.hostSignalDetect h) s fun t =>
      t.rd (HL_STATUS_STAGE h) = 2 ∧ t.on (HL_STATUS_SIG_DET h) = true ∧ RegsKept (fun a => a == HL_STATUS h) s t) ∧
    (s.rd (HL_STATUS_STAGE h) = 2 →
      (s.rd (HL_CTRL_POL_MODE h) = 0 → Completes (.cdrLock h) s fun t => t.rd (HL_STATUS_STAGE h) = 3 ∧ t.on (HL_STATUS_CDR_LOCK h) = true) ∧
      (s.rd (HL_CTRL_POL_MODE h) ≠ 0 → Completes (.cdrLock h) s fun t => t.rd (HL_STATUS_STAGE h) = (if hostC2c s h then 4 else 5) ∧
        t.on (HL_STATUS_CDR_LOCK h) = true ∧ t.on (HL_STATUS_RX_INVERTED h) = decide (s.rd (HL_CTRL_POL_MODE h) = 2))) ∧
    (s.rd (HL_STATUS_STAGE h) = 3 → ∀ inv, Completes (.polarity h inv) s fun t => t.on (HL_STATUS_RX_INVERTED h) = inv ∧
      t.rd (HL_STATUS_STAGE h) = (if hostC2c s h then 4 else 5) ∧ (hostC2c s h = true → t.rd (HL_STATUS_TRAIN h) = 1)) ∧
    (s.rd (HL_STATUS_STAGE h) = 4 → ∀ taps, Completes (.linkTrainingDone h taps) s fun t =>
      t.rd (HL_STATUS_STAGE h) = 5 ∧ t.rd (HL_STATUS_TRAIN h) = 2 ∧ tabGet (0, 1000, 0) t.hostTaps h = taps) ∧
    (s.rd (HL_STATUS_STAGE h) = 5 → ∀ n pcs m, portOfHost s h = some n →
      (s.rd (PORT_CFG_TYPE n) % 4 = 0 → portPaired (s.rd (PORT_CFG_TYPE n)) = false ∨
          (pcs.length = 8 ∧ ∀ i < 8, ((pcs.map BitVec.toNat).filter (· == i)).length = 1) → Completes (.hostMarkerLock h pcs m) s fun t =>
        t.rd (HL_STATUS_STAGE h) = 8 ∧ t.on (HL_STATUS_AM_LOCK h) = true ∧ t.on (HL_EVENTS_READY h) = true) ∧
      (s.rd (PORT_CFG_TYPE n) % 4 = 0 → portPaired (s.rd (PORT_CFG_TYPE n)) = true → pcs.length ≠ 8 → Completes (.hostMarkerLock h pcs m) s fun t =>
        t.rd (HL_STATUS_STAGE h) = 5 ∧ t.on (HL_STATUS_AM_LOCK h) = false ∧ t.rd (PORT_STATUS_FAIL n) = 2 ∧
          t.on (PORT_EVENTS_ORDER_FAIL n) = true) ∧
      (s.rd (PORT_CFG_TYPE n) % 4 ≠ 0 → (∃ g ∈ portHostLanes s n, g ≠ h.val ∧ s.on (HL_STATUS_AM_LOCK g) = false) →
        Completes (.hostMarkerLock h pcs m) s fun t => t.rd (HL_STATUS_STAGE h) = 5 ∧ t.on (HL_STATUS_AM_LOCK h) = true ∧
          tabGet [] t.hostPcs h = pcs.map BitVec.toNat)) ∧
    (2 ≤ s.rd (HL_STATUS_STAGE h) → s.rd (HL_STATUS_STAGE h) ≤ 4 → Completes (.hostStageTimeout h) s fun t => t.rd (HL_STATUS_STAGE h) = 1 ∧
      t.on (HL_STATUS_CDR_LOCK h) = false ∧ (s.rd (HL_STATUS_STAGE h) = 3 → t.on (HL_EVENTS_POL_FAIL h) = true) ∧
      (s.rd (HL_STATUS_STAGE h) = 4 → t.on (HL_EVENTS_TRAIN_FAIL h) = true ∧ ∀ n, portOfHost s h = some n → t.rd (PORT_STATUS_FAIL n) = 3)) ∧
    (s.rd (HL_STATUS_STAGE h) = 8 →
      (Completes (.hostLaneLoss h .signal) s fun t => t.rd (HL_STATUS_STAGE h) = 1 ∧ t.on (HL_EVENTS_LOS h) = true ∧ t.on (HL_STATUS_SIG_DET h) = false) ∧
      (Completes (.hostLaneLoss h .cdr) s fun t => t.rd (HL_STATUS_STAGE h) = 1 ∧ t.on (HL_EVENTS_CDR_LOSS h) = true) ∧
      (Completes (.hostLaneLoss h .marker) s fun t => t.rd (HL_STATUS_STAGE h) = 5 ∧ t.on (HL_EVENTS_AM_LOSS h) = true ∧
        t.on (HL_STATUS_AM_LOCK h) = false)) ∧
    (Reaches s (HL_CTRL h) → Completes (.hlRestart h) s fun t => t.busStatus = stOk ∧ t.rd (HL_STATUS_STAGE h) = 1 ∧
      t.on (HL_CTRL_RESTART h) = false ∧ t.on (HL_STATUS_AM_LOCK h) = false)

/-- Deskew of a port whose host lanes are all at stage 7 shows the largest skew in ns; within 180 ns (19,124 UI) every lane is ready, above it DESKEW_FAIL
is set and stages 6 and 7 repeat: with the lane order still right the lanes stay at stage 7 and FAIL reads DESKEW. ADMIN_UP 0 takes a valid port down
with FAIL = ADMIN; with 1 it is up when both sides are ready and no pattern runs. RESTART returns each host lane to stage 1, CLEAR clears the host
counters, and a codeword of a ready G1 to G3 port counts in them. (R191, R195, R196, R202, R205, 07_host_lanes_gearbox.md) -/
def Obligations.HostPorts : Prop :=
  ∀ (n : Fin 128) (s : State), s.alive = true → s.on (PORT_CFG_VALID n) = true →
    (∀ skews : List (BitVec 16), (∀ h ∈ portHostLanes s n, s.rd (HL_STATUS_STAGE h) = 7) → skews.length = (portHostLanes s n).length →
      Completes (.deskew n skews) s fun t =>
        t.rd (PORT_STATUS_MAX_SKEW n) = min 255 (((skews.map BitVec.toNat).foldl max 0 * 9412 + 500000) / 1000000) ∧
        ((∀ k ∈ skews, k.toNat ≤ 19124) → ∀ h ∈ portHostLanes s n, t.rd (HL_STATUS_STAGE h) = 8 ∧ t.on (HL_EVENTS_READY h) = true) ∧
        ((∃ k ∈ skews, 19124 < k.toNat) → t.on (PORT_EVENTS_DESKEW_FAIL n) = true ∧
          (orderOk s n = true → t.rd (PORT_STATUS_FAIL n) = 1 ∧ ∀ h ∈ portHostLanes s n, t.rd (HL_STATUS_STAGE h) = 7) ∧
          (orderOk s n = false → t.rd (PORT_STATUS_FAIL n) = 2 ∧ ∀ h ∈ portHostLanes s n, t.rd (HL_STATUS_STAGE h) = 5))) ∧
    (Reaches s (PORT_CTRL n) →
      (s.on (PORT_CTRL_ADMIN_UP n) = true → Completes (.adminUp n false) s fun t => t.busStatus = stOk ∧ t.on (PORT_CTRL_ADMIN_UP n) = false ∧
        t.on (PORT_STATUS_UP n) = false ∧ t.rd (PORT_STATUS_FAIL n) = 5) ∧
      (s.on (PORT_CTRL_ADMIN_UP n) = false → Completes (.adminUp n true) s fun t => t.busStatus = stOk ∧ t.on (PORT_CTRL_ADMIN_UP n) = true ∧
        t.on (PORT_STATUS_UP n) = ((portHostLanes s n).all (fun h => s.rd (HL_STATUS_STAGE h) == 8) &&
          (portPositions s n).all (posReady s n) && !patternOnPort s n)) ∧
      (Completes (.portRestart n) s fun t => t.busStatus = stOk ∧ ∀ h ∈ portHostLanes s n, t.rd (HL_STATUS_STAGE h) = 1) ∧
      (Completes (.portCounterClear n) s fun t => t.busStatus = stOk ∧ t.ctr (HOST_CW n) = 0 ∧ t.ctr (HOST_UE n) = 0 ∧ t.ctr (HOST_SYM n) = 0)) ∧
    (∀ o : OuterIn, s.on (PORT_STATUS_HOST_READY n) = true → s.rd (PORT_CFG_TYPE n) % 4 ≠ 0 → Completes (.outerCodeword (.host n) o) s fun t =>
      t.ctr (HOST_CW n) = (s.ctr (HOST_CW n) + 1) % 2 ^ 48 ∧ (rsDecode (word544 o.syms) = none → t.ctr (HOST_UE n) = (s.ctr (HOST_UE n) + 1) % 2 ^ 48) ∧
      ∀ e y, rsDecode (word544 o.syms) = some (e, y) → t.ctr (HOST_SYM n) = (s.ctr (HOST_SYM n) + e) % 2 ^ 48)

/-- Enabling a generator or checker on a lane of a port sets the enable, takes the port down and sets FAIL = PRBS; a checker starts unsynchronised.
Disabling the last facility of the port returns its host lanes to stage 1. INJECT of a running generator counts one inverted symbol. CLEAR clears BITS
and ERRS. PRBS_SYNC and PRBS_SYNC_LOSS feed symbols to an enabled checker and change no register but its status: a fresh checker that receives 160 or
more of a generator's symbols syncs after the register and 256 matching bits, not inverted (inverted where every symbol is), and counts the bits
behind without an error; in SYNC, 33 symbols with every bit wrong end SYNC at the 65th error, which RESYNCS, BITS and ERRS count. (R206, R207, R208,
R209, 07_host_lanes_gearbox.md) -/
def Obligations.PatternFacilities : Prop :=
  ∀ (h : Fin 256) (n : Nat) (s : State), portOfHost s h = some n → Reaches s (HL_PRBS_CTRL h) →
    (s.on (HL_PRBS_CTRL_GEN_EN h) = false → Completes (.genEn (.host h) false true) s fun t => t.busStatus = stOk ∧
      t.on (HL_PRBS_CTRL_GEN_EN h) = true ∧ t.on (PORT_STATUS_UP n) = false ∧ t.rd (PORT_STATUS_FAIL n) = 6) ∧
    (s.on (HL_PRBS_CTRL_CHK_EN h) = false → Completes (.genEn (.host h) true true) s fun t => t.busStatus = stOk ∧
      t.on (HL_PRBS_CTRL_CHK_EN h) = true ∧ t.on (HL_PRBS_STATUS_SYNC h) = false ∧ t.on (PORT_STATUS_UP n) = false ∧ t.rd (PORT_STATUS_FAIL n) = 6) ∧
    (s.on (HL_PRBS_CTRL_GEN_EN h) = true → patternOnPort (s.wr (HL_PRBS_CTRL_GEN_EN h) 0) n = false → Completes (.genEn (.host h) false false) s fun t =>
      t.on (HL_PRBS_CTRL_GEN_EN h) = false ∧ ∀ g ∈ portHostLanes s n, t.rd (HL_STATUS_STAGE g) = 1) ∧
    (s.on (HL_PRBS_CTRL_GEN_EN h) = true → Completes (.inject (.host h)) s fun t =>
      tabGet 0 t.injects (HL_PRBS_CTRL h) = tabGet 0 s.injects (HL_PRBS_CTRL h) + 1 ∧ RegsKept (fun a => a == HL_PRBS_CTRL h) s t) ∧
    (Completes (.prbsClear (.host h)) s fun t => t.ctr (HL_PRBS_BITS h) = 0 ∧ t.ctr (HL_PRBS_ERRS h) = 0 ∧ RegsKept (fun a => a == HL_PRBS_CTRL h) s t) ∧
    (∀ w : PatAt, s.on (patChk w) = true →
      (∀ syms, (Completes (.prbsSync w syms) s fun t => RegsKept (fun a => a == (patSync w).addr) s t ∧ t.bytes = s.bytes) ∧
        (Completes (.prbsSyncLoss w syms) s fun t => RegsKept (fun a => a == (patSync w).addr) s t ∧ t.bytes = s.bytes)) ∧
      (s.on (patSync w) = false → tabGet {} s.pats (patAddr w) = {} → (∀ l, patReceived s w l = l) →
        ∀ (reg : List Bool) (k : Nat) (turn : Bool) (syms : List (Fin 4)), 160 ≤ k →
          syms.map Fin.val = (prbsSymbols (s.on (patChk31 w)) k reg).1.map (fun i => if turn then 3 - i else i) →
          Completes (.prbsSync w syms) s fun t => t.on (patSync w) = true ∧ t.on (patInv w) = turn ∧ t.ctr (patErrs w) = s.ctr (patErrs w) % 2 ^ 48 ∧
            t.ctr (patBits w) = (s.ctr (patBits w) + (2 * k - prbsLen (s.on (patChk31 w)) - 256)) % 2 ^ 48) ∧
      (s.on (patSync w) = true → s.on (patInv w) = false → (tabGet {} s.pats (patAddr w)).n % 2 = 0 → (tabGet {} s.pats (patAddr w)).errsAt = [] →
        (∀ l, patReceived s w l = l) → ∀ syms : List (Fin 4),
          syms.map Fin.val = (prbsSymbols (s.on (patChk31 w)) 33 (tabGet {} s.pats (patAddr w)).reg).1.map (fun i => (i + 2) % 4) →
          Completes (.prbsSyncLoss w syms) s fun t => t.on (patSync w) = false ∧ t.ctr (patErrs w) = (s.ctr (patErrs w) + 65) % 2 ^ 48 ∧
            t.ctr (patBits w) = (s.ctr (patBits w) + 65) % 2 ^ 48 ∧ t.rd (patResyncs w) = (s.rd (patResyncs w) + 1) % 2 ^ (patResyncs w).width))

/-- From every state, these commands leave every register outside the host lanes' groups, the port table and the records of events and counts as it was
(and, for the pattern rows PRBS_SYNC and PRBS_SYNC_LOSS on a line lane, outside that datapath's pattern status and counts; for a codeword from the
host, outside the port's face and the memory system's error records), and every byte outside Tally's store; flash, OTP, the plan, operations, time and
the queue stay. (R191, R195, R196, R202, R205, R207, 07_host_lanes_gearbox.md) -/
def Obligations.HostFrame : Prop :=
  ∀ (h : Fin 256) (n : Fin 128) (inv : Bool) (pcs : List (BitVec 8)) (skews : List (BitVec 16)) (why : HostLoss) (o : OuterIn) (w : PatAt)
    (taps : Int × Int × Int) (m : Marker) (syms : List (Fin 4)) (s t : State),
    (∀ c ∈ [Instr.hostSignalDetect h, .cdrLock h, .polarity h inv, .linkTrainingDone h taps, .hostMarkerLock h pcs m, .deskew n skews,
        .hostStageTimeout h, .hostLaneLoss h why, .hlRestart h, .adminUp n inv, .portRestart n, .portCounterClear n, .prbsSync w syms,
        .prbsSyncLoss w syms],
      exec c s = .next t →
        WordsKept (fun r => inRange 0x2000000 0x2201000 r || inPorts r || countReg r || (match w with
            | .host _ => false
            | .line f d => r == RXD_PRBS_STATUS f.val d.val || r == RXD_PRBS_BITS f.val d.val || r == RXD_PRBS_ERRS f.val d.val)) s t ∧
          BytesKept inStore s t ∧ RestKept s t) ∧
    (exec (.outerCodeword (.host n) o) s = .next t →
      WordsKept (fun r => inFace (s.rd (PORT_CFG_FACE n)) r || inPorts r || inRange 0x500000 0x580000 r || countReg r) s t ∧ BytesKept inStore s t ∧ RestKept s t)

/-- On a lane that carries a position, with i the frame that arrives (the 64 sideband bits that its decoder delivered, where it holds as many, else the
command's): in the search a bad frame starts the run over, a fourth good frame at one phase ends it. A HELLO with SF_MAX 0 fails step 2; one with a
version in common takes the version, the token and the lead, equal tokens in version 2 draw a new one. READY from both sides ends training. A bad
frame counts in FRAME_ERRS. A step that runs out fails with its number; a failed lane, or RETRAIN, starts again when it is LOCKED in a paired mode.
CLEAR clears the five counters. (R213, R214, R216, R218, R219, R220, R224, 08_paired_link_retry.md) -/
def Obligations.SeamTraining : Prop :=
  ∀ (f : Fin 16) (p : Fin 9) (k : Nat) (i0 i : SeamIn) (s : State), s.alive = true → p.val ≠ 8 → posOf s f p = some k → (seamArrived s f p i0).1 = i →
    ((s.seam f p).state = 1 → frameGood i = false → Completes (.seamFrame f p i0) s fun t => (t.seam f p).state = 1 ∧ (t.seam f p).run = 0) ∧
    ((s.seam f p).state = 1 → frameGood i = true → fb i.bits.toNat 0 3 = 6 → (s.seam f p).run = 3 → (s.seam f p).phase = i.phase.val →
      fb i.bits.toNat 4 7 ≠ 2 → Completes (.seamFrame f p i0) s fun t => (t.seam f p).state = 2 ∧ t.rd (SEAM_STATUS_STATE f k) = 2) ∧
    (2 ≤ (s.seam f p).state → (s.seam f p).state ≤ 4 → frameGood i = false → Completes (.seamFrame f p i0) s fun t =>
      t.ctr (FRAME_ERRS f k) = (s.ctr (FRAME_ERRS f k) + 1) % 2 ^ 48 ∧ (t.seam f p).state = (s.seam f p).state) ∧
    ((s.seam f p).state = 2 → frameGood i = true → fb i.bits.toNat 4 7 = 2 → (fb i.bits.toNat 12 13 = 0 ∨ fb i.bits.toNat 12 13 = 2) →
      (fb i.bits.toNat 8 11 = 0 → Completes (.seamFrame f p i0) s fun t =>
        (t.seam f p).state = 5 ∧ t.rd (SEAM_STATUS_FAIL_REASON f k) = 2 ∧ t.on (SEAM_EVENTS_TRAIN_FAIL f k) = true) ∧
      (∀ sf, fb i.bits.toNat 8 11 ≠ 0 → sf = min (ownSfMax s f p) (min 2 (fb i.bits.toNat 8 11)) →
        (sf = 2 → fb i.bits.toNat 16 31 ≠ (s.face f).token) → Completes (.seamFrame f p i0) s fun t =>
        (t.seam f p).state = 3 ∧ (t.seam f p).sf = sf ∧ (t.seam f p).token = fb i.bits.toNat 16 31 ∧
          (t.seam f p).leader = (decide (sf = 2) && decide (fb i.bits.toNat 16 31 < (s.face f).token))) ∧
      (min (ownSfMax s f p) (min 2 (fb i.bits.toNat 8 11)) = 2 → fb i.bits.toNat 16 31 = (s.face f).token → Completes (.seamFrame f p i0) s fun t =>
        (t.face f).token = s.freeVal % 2 ^ 16)) ∧
    ((s.seam f p).state = 3 → (s.seam f p).measured = true → frameGood i = true → fb i.bits.toNat 4 7 = 2 → fb i.bits.toNat 12 13 = 2 →
      Completes (.seamFrame f p i0) s fun t => (t.seam f p).state = 4 ∧ t.rd (SEAM_STATUS_STATE f k) = 4 ∧ t.on (SEAM_EVENTS_READY f k) = true) ∧
    (1 ≤ (s.seam f p).state → (s.seam f p).state ≤ 3 → Completes (.seamTrainTimeout f p) s fun t => (t.seam f p).state = 5 ∧
      t.on (SEAM_EVENTS_TRAIN_FAIL f k) = true ∧
      t.rd (SEAM_STATUS_FAIL_REASON f k) = if (s.seam f p).measured then 4 else (s.seam f p).state) ∧
    (s.on (LANE_ACQ_STATUS_LOCKED f p) = true → s.on (LANE_ACQ_STATUS_MODE_MISMATCH f p) = false →
      (s.rd (LANE_ACQ_STATUS_MODE f p) = 2 ∨ s.rd (LANE_ACQ_STATUS_MODE f p) = 4) →
      ((s.seam f p).state = 5 → Completes (.seamRetrainTimer f p) s fun t => (t.seam f p).state = 1 ∧ t.rd (SEAM_STATUS_STATE f k) = 1) ∧
      (Reaches s (SEAM_CTRL f k) → 1 ≤ s.rd (SEAM_CTRL_RETRY_MAX f k) → ∀ j : Fin 8, j.val = k → Completes (.retrain f j) s fun t => t.busStatus = stOk ∧
        (t.seam f p).state = 1 ∧ t.rd (SEAM_STATUS_STATE f k) = 1)) ∧
    (Reaches s (SEAM_CTRL f k) → 1 ≤ s.rd (SEAM_CTRL_RETRY_MAX f k) → ∀ j : Fin 8, j.val = k → Completes (.seamCounterClear f j) s fun t =>
      t.busStatus = stOk ∧ t.ctr (REPLAYS f k) = 0 ∧ t.ctr (SERVED f k) = 0 ∧ t.ctr (LOST_FRAMES f k) = 0 ∧ t.ctr (EXHAUSTED f k) = 0 ∧
        t.ctr (FRAME_ERRS f k) = 0)

/-- With retry in force, the first uncorrectable pair of a paired port starts an episode: every lane of the port requests the pair (RQ_OUT, ATTEMPT 1),
and REPLAYS counts it. A request in a good DATA frame for a pair that the buffer holds starts the replay on every lane of the port and counts in
SERVED. A request not met in time is repeated with the next ATTEMPT; at RETRY_MAX the episode ends as exhausted. (R153, R223, R224, R225,
08_paired_link_retry.md) -/
def Obligations.SeamRetry : Prop :=
  ∀ (f : Fin 16) (s : State), s.alive = true →
    (∀ (d : Fin 9) (w : OuterIn) (p k n : Nat), s.rd (RXD_STATUS_LANE f d) = p → codingOn s f d = true → s.on (CODE_STATUS_AM_LOCK f d) = true →
      (s.rd (LANE_ACQ_STATUS_MODE f p) = 2 ∨ s.rd (LANE_ACQ_STATUS_MODE f p) = 4) → laneSealed s f p = false → posOf s f p = some k →
      portOf s f k = some n → s.rd (SEAM_STATUS_STATE f k) = 4 → s.on (SEAM_STATUS_RETRY_ON f k) = true → tabGet none s.episodes n = none →
      portPaired (s.rd (PORT_CFG_TYPE n)) = true → (s.seam f p).state = 4 → servesPos s f p k = true →
      s.rd (AS_FACE_STATUS_DP f) ≠ d → rsDecode (word544 w.syms) = none → Completes (.outerCodeword (.line f d) w) s fun t =>
        t.ctr (REPLAYS f k) = (s.ctr (REPLAYS f k) + 1) % 2 ^ 48 ∧ t.on (CODE_STATUS_OUTER_UE f d) = true ∧
        ∀ j ∈ portPositions s n, t.on (REPLAY_STATUS_RQ_OUT f j) = true ∧ t.rd (REPLAY_STATUS_ATTEMPT f j) = 1 ∧
          (w.frame = none → t.rd (REPLAY_STATUS_RQ_SEQ f j) = w.pair.toNat)) ∧
    (∀ (p : Fin 9) (k n : Nat) (i0 i : SeamIn), p.val ≠ 8 → (seamArrived s f p i0).1 = i → posOf s f p = some k → portOf s f k = some n → (s.seam f p).state = 4 → (s.seam f p).cap = true →
      frameGood i = true → fb i.bits.toNat 4 7 = 1 → fb i.bits.toNat 44 44 = 0 → fb i.bits.toNat 45 45 = 1 → fb i.bits.toNat 47 47 = 0 →
      (s.seam f p).served ≠ some (fb i.bits.toNat 32 43) → replayOk (seamSent (seamArrived s f p i0).2 f p i) n (fb i.bits.toNat 32 43) = true →
      Completes (.seamFrame f p i0) s fun t => ∀ j ∈ portPositions s n, t.on (REPLAY_STATUS_REPLAYING f j) = true ∧
        t.ctr (SERVED f j) = (s.ctr (SERVED f j) + 1) % 2 ^ 48) ∧
    (∀ (n : Fin 128) (e : Episode) (k : Nat), s.rd (PORT_CFG_FACE n) = f → tabGet none s.episodes n = some e → posOf s f e.lane = some k →
      (s.rd (REPLAY_STATUS_ATTEMPT f k) < s.rd (SEAM_CTRL_RETRY_MAX f k) → Completes (.replayRetry n) s fun t =>
        ∀ j ∈ portPositions s n, t.rd (REPLAY_STATUS_ATTEMPT f j) = s.rd (REPLAY_STATUS_ATTEMPT f k) + 1) ∧
      (s.rd (SEAM_CTRL_RETRY_MAX f k) ≤ s.rd (REPLAY_STATUS_ATTEMPT f k) → Completes (.replayRetry n) s fun t =>
        tabGet none t.episodes n = none ∧ t.ctr (EXHAUSTED f k) = (s.ctr (EXHAUSTED f k) + 1) % 2 ^ 48 ∧
        t.on (SEAM_EVENTS_EXHAUSTED f k) = true ∧ ∀ j ∈ portPositions s n, t.on (REPLAY_STATUS_RQ_OUT f j) = false))

/-- A permanent fault of a paired lane sets PERMANENT and starts a handshake for its position when relief is ready; without relief, and on an unpaired
lane, the port's policy seals the lane (FAIL = SEALED) or marks the position DEGRADED. p8 ready with one partner: STATE 3 and SKEW, or RESULT 7 when
the skew is above two pairs. After both switch, the commit moves the position to p8, seals the old lane and shows RESULT 1. A timeout ends the
handshake with RESULT 6. Proposing again starts the handshake anew. (R227, R228, R229, R230, R231, R232, R233, 08_paired_link_retry.md) -/
def Obligations.SealingHandshake : Prop :=
  ∀ (f : Fin 16) (s : State), s.alive = true →
    (∀ (p : Fin 9) (k n : Nat), faultPort s f p = some (k, n) →
      (∀ cond : Fin 5, faultHolds s f p cond = true → portPaired (s.rd (PORT_CFG_TYPE n)) = true → s.rd (SEAL_STATUS_HS_STATE f) = 0 →
        (reliefReady s f = true → p.val ≠ 8 → Completes (.permanentFault f p cond) s fun t => t.on (SEAM_EVENTS_PERMANENT f k) = true ∧
          t.rd (SEAL_STATUS_HS_STATE f) = 1 ∧ t.rd (SEAL_STATUS_HS_POS f) = k ∧ t.on (SEAL_STATUS_INITIATOR f) = true) ∧
        (reliefReady s f = false ∨ p.val = 8 → Completes (.permanentFault f p cond) s fun t => t.on (SEAM_EVENTS_PERMANENT f k) = true ∧
          if s.on (PORT_CFG_SEAL_POLICY n) then t.on (SEAM_STATUS_DEGRADED f k) = true
          else laneSealed t f p = true ∧ t.rd (PORT_STATUS_FAIL n) = 7)) ∧
      (∀ cond : Fin 4, faultHolds s f p (if cond.val = 0 then 0 else cond.val + 1) = true → portPaired (s.rd (PORT_CFG_TYPE n)) = false →
        (cond.val = 2 → s.rd (LANE_POWER_P_NOW f p) ≠ 0x8000 ∧ -544 ≤ sext 16 (s.rd (LANE_POWER_P_NOW f p)) ∧
          ∀ q < 9, q ≠ p.val → laneInUse s f q = true → laneSealed s f q = false → s.on (LANE_ACQ_STATUS_LOCKED f q) = true) →
        Completes (.lanePermanentFault f p cond) s fun t => t.on (SEAM_EVENTS_PERMANENT f k) = true ∧
          if s.on (PORT_CFG_SEAL_POLICY n) then t.on (SEAM_STATUS_DEGRADED f k) = true
          else laneSealed t f p = true ∧ t.rd (PORT_STATUS_FAIL n) = 7)) ∧
    (∀ skew : Int, (s.rd (SEAL_STATUS_HS_STATE f) = 1 ∨ s.rd (SEAL_STATUS_HS_STATE f) = 2) → (s.seam f 8).state = 4 →
      s.on (LANE_ACQ_STATUS_LOCKED f 8) = true → nbit (s.face f).emit 8 = true → tabGet 0 (s.face f).laneRamp 8 = 0 → onePartner s f = true →
      (s.seam f 8).pos = s.rd (SEAL_STATUS_HS_POS f) →
      (-51 ≤ skew → skew ≤ 51 → (s.face f).hs.peerReady = false → Completes (.p8Ready f skew) s fun t =>
        t.rd (SEAL_STATUS_HS_STATE f) = 3 ∧ t.rd (SEAL_STATUS_SKEW f) = twos 8 skew ∧ (t.face f).hs.ready = true) ∧
      (skew < -102 ∨ 102 < skew → Completes (.p8Ready f skew) s fun t => t.rd (SEAL_STATUS_HS_STATE f) = 0 ∧ t.rd (SEAL_STATUS_RESULT f) = 7)) ∧
    (s.rd (SEAL_STATUS_HS_STATE f) = 4 → (s.face f).hs.peerSwitch.isSome = true → Completes (.sealSwitch f) s fun t =>
      (t.face f).hs.switched = true ∧ RegsKept (fun _ => false) s t) ∧
    (s.rd (SEAL_STATUS_HS_STATE f) = 4 → (s.face f).hs.switched = true → posLane s f (s.rd (SEAL_STATUS_HS_POS f)) < 8 →
      Completes (.sealCommit f) s fun t => t.rd (SEAL_STATUS_HS_STATE f) = 0 ∧ t.rd (SEAL_STATUS_RESULT f) = 1 ∧
        posLane t f (s.rd (SEAL_STATUS_HS_POS f)) = 8 ∧ laneSealed t f (posLane s f (s.rd (SEAL_STATUS_HS_POS f))) = true) ∧
    (s.rd (SEAL_STATUS_HS_STATE f) ≠ 0 → Completes (.sealHandshakeTimeout f) s fun t =>
      t.rd (SEAL_STATUS_HS_STATE f) = 0 ∧ t.rd (SEAL_STATUS_RESULT f) = 6) ∧
    (∀ k < 8, s.rd (SEAL_STATUS_HS_STATE f) = 0 → (s.face f).hs.again = some k → posLane s f k < 8 → laneSealed s f (posLane s f k) = false →
      reliefReady s f = true → Completes (.sealRepropose f) s fun t =>
        t.rd (SEAL_STATUS_HS_STATE f) = 1 ∧ t.rd (SEAL_STATUS_HS_POS f) = k ∧ (t.face f).hs.again = none)

/-- From every state whose working state names what exists (StateNamesWhatExists), these commands leave every register and counter outside chip control,
Survey and Assay, the four faces of their laser bank, the capture unit, the memory system's error records, the port table and the records of events
and counts as it was, and every byte outside Tally's store and those faces' receive and transmit banks; flash, OTP, the plan, operations, time and the
queue stay. (R169, R173, R182, R185, R218, R224, R228, 06_transmit_optics.md, 08_paired_link_retry.md) -/
def Obligations.FaceFrame : Prop :=
  ∀ (f : Fin 16) (b : Fin 4) (p : Fin 9) (k j : Fin 8) (v : Word) (o : Bool) (lane : Option (Fin 9)) (raw : BitVec 12) (reply : Option (BitVec 33))
    (i : SeamIn) (n : Fin 128) (c5 : Fin 5) (c4 : Fin 4) (skew : Int) (s t : State), f.val / 4 = b.val →
    (s.rd (PORT_CFG_FACE n) = f) →
    NamesWf s → ∀ c ∈ [Instr.optTarget f j, .optLimWrite f o v, .optLaneAWrite f p v, .sleepToStandby f, .standbyToSynth f, .synthToReceive f, .rampStep f lane,
        .targetLockTimeout f, .eyeSafetyCheck f p raw, .eyeCheckStale f p, .sidebandExchange f reply, .engineStatusPoll f reply, .elsGrant b,
        .elsGrantTimeout b, .elsGrantLost b, .elsRelease b, .elsGrantWithdrawn b, .seamFrame f p i, .seamTrainTimeout f p, .seamRetrainTimer f p,
        .retrain f k, .seamCounterClear f k, .replayRetry n, .permanentFault f p c5, .lanePermanentFault f p c4, .p8Ready f skew, .sealSwitch f,
        .sealCommit f, .sealHandshakeTimeout f, .sealRepropose f],
      exec c s = .next t →
        WordsKept (fun r => inRange 0 0x400000 r || ((List.range 4).any fun i => inFace (4 * b.val + i) r) || inRange 0x710000 0x730008 r ||
          inRange 0x500000 0x580000 r || inPorts r || countReg r) s t ∧
        BytesKept (fun a i _ => a == 7 || ((a == 5 || a == 6) && i / 4 == b.val)) s t ∧ RestKept s t

/-- A warm reset of a part without a plan shows its cause in LAST (2 RST_CTRL, 3 H17 trap, 4 failed restore), counts in WARMS, ends sessions and
operations, and keeps time, flash and DDR4; with a plan of which no copy can be read it starts the boot load with reason 15. RST_CTRL with a wrong key
answers RANGE and does nothing, without WARM it answers OK. A face reset ends in SLEEP with every lane OFF and FACE 0, and waits for a handshake; a
datapath reset clears the datapath's array and restarts its lane, and is BUSY for one in a rotation or BIST. The Canary clears everything but time,
flash and the always-on domain. (R360, R439, R440, R441, R442, R447, R448, 18_reset_persistence.md) -/
def Obligations.WarmAndPartialResets : Prop :=
  (∀ (s : State), s.alive = true → s.plan = none →
    (∀ why : WarmCause, (∀ v, why = .rstCtrl v → v = 0x80005752) → Completes (.warmReset why) s fun t =>
      t.rd RST_STATUS_LAST = (match why with | .rstCtrl _ => 2 | .h17Trap => 3 | .restore => 4) ∧
      t.rd RST_STATUS_WARMS = (s.rd RST_STATUS_WARMS + 1) % 2 ^ RST_STATUS_WARMS.width ∧
      (why = .h17Trap → t.rd RST_STATUS_H17_CAUSE = s.rd (HW_STATUS_CAUSE 17)) ∧
      t.sessions = [] ∧ t.ops = [] ∧ t.time = s.time ∧ t.mono = s.mono ∧ t.flash = s.flash ∧ t.pending = s.pending ∧ t.started = true ∧
      ∀ a i b, 16 ≤ a → i < 256 → b < 2 ^ 40 → t.byte a i b = s.byte a i b)) ∧
  (∀ (s : State) (p : Plan), s.alive = true → s.plan = some p → s.rd PRESENCE_DDR = 0 → 3 ≤ p.source → Completes (.warmReset .restore) s fun t =>
    t.plan = none ∧ t.booting = true ∧ t.rd PLAN_STATUS_LAST_ERROR = 15 ∧ t.rd RST_STATUS_LAST = 4) ∧
  (∀ (s : State) (v : Word), s.alive = true → v.toNat % 2 ^ 16 ≠ 0x5752 → Completes (.warmReset (.rstCtrl v)) s fun t =>
    t.busStatus = (if 2 ^ 31 ≤ v.toNat then stRange else stOk) ∧ RegsKept (fun _ => false) s t ∧ t.sessions = s.sessions) ∧
  (∀ (f : Fin 16) (s : State), Reaches s (FACE_RST f) → facePresent s f = true →
    (s.checked = none → (∀ o ∈ s.ops, o.step ≠ 2) → initOf (runningRecs s) = [] → s.rd (SEAL_STATUS_HS_STATE f) = 0 → Completes (.faceReset f) s fun t =>
      t.on (FACE_RST_FACE f) = false ∧ optState t f = 1 ∧ t.plan = s.plan ∧ ∀ p < 9, t.rd (LANE_ACQ_STATUS_STATE f p) = 0) ∧
    (s.checked = none → (∀ o ∈ s.ops, o.step ≠ 2) → s.rd (SEAL_STATUS_HS_STATE f) ≠ 0 → Completes (.faceReset f) s fun t =>
      t.on (FACE_RST_FACE f) = true ∧ optState t f = optState s f) ∧
    (s.on (FACE_RST_FACE f) = false → ∀ rx tx : BitVec 9,
      (∀ d < 9, nbit rx.toNat d = true → s.rd (RXD_STATUS_ROLE f d) < 2 ∧ dpSealed s f d = false) →
      (∀ d < 9, nbit tx.toNat d = true → s.rd (TXD_STATUS_ROLE f d) < 2 ∧ txSealed s f d = false) →
      Completes (.datapathReset f rx tx) s fun t => t.busStatus = stOk ∧
        (∀ d < 9, nbit rx.toNat d = true → ∀ w < 1024, t.tag 5 f (1024 * d + w) = none) ∧
        (∀ d < 9, nbit tx.toNat d = true → ∀ w < 256, t.tag 6 f (256 * d + w) = none) ∧
        ∀ p < 9, laneDp s f p < 9 → (∀ q < 9, laneDp s f q = laneDp s f p → q = p) → nbit rx.toNat (laneDp s f p) = true →
          s.rd (RXD_STATUS_ROLE f (laneDp s f p)) = 1 → s.rd (LANE_ACQ_STATUS_STATE f p) = 7 →
          s.rd (AS_FACE_STATUS_PHASE f) = 0 → s.rd (SEAL_STATUS_HS_STATE f) = 0 →
          t.rd (LANE_ACQ_STATUS_STATE f p) = 1 ∧ t.rd (LANE_ACQ_STATUS_LAST_LOSS f p) = 7) ∧
    (∀ rx tx : BitVec 9, (∃ d < 9, nbit rx.toNat d = true ∧ (s.rd (RXD_STATUS_ROLE f d) = 2 ∨ s.rd (RXD_STATUS_ROLE f d) = 3)) →
      Completes (.datapathReset f rx tx) s fun t => t.busStatus = stBusy ∧ RegsKept (fun _ => false) s t)) ∧
  (∀ (s : State), s.powered = true → s.canary = false → Completes .canaryTrip s fun t => t.canary = true ∧ t.powered = true ∧ t.alive = false ∧
    t.sessions = [] ∧ t.bytes = [] ∧ t.ops = [] ∧ t.time = s.time ∧ t.mono = s.mono ∧ t.flash = s.flash ∧ t.reg RST_STATUS = s.reg RST_STATUS ∧
    t.reg WAKE_EN = s.reg WAKE_EN)

/-- RUN and STANDBY are taken and shown at once, but STANDBY waits while a sealing handshake runs, and a TARGET written meanwhile takes effect after it;
where nothing refuses it (DeepRefused) and no handshake runs, DEEP is entered with its sessions and operations ended. In DEEP each enabled wake source
whose condition holds returns the part to RUN with its code in LAST and counted in WAKES, when the plan copy reads back as the plan. Loss of a
reference clock shows in BOARD_STATUS; its return clears it, for REFCLK_B only at the next reset. A die-to-die fault is noted once for its engine.
(R31, R33, R332, R333, R335, R336, R340, R458, 13_foreman_power_thermal.md, 18_reset_persistence.md) -/
def Obligations.ChipStatesAndWake : Prop :=
  (∀ s : State, Reaches s FM_CHIP_CTRL →
    (s.rd FM_CHIP_STATUS_STATE ≤ 1 → s.chipTo = 0 →
      (Completes .chipRun s fun t => t.busStatus = stOk ∧ t.rd FM_CHIP_STATUS_STATE = 0 ∧ t.rd FM_CHIP_CTRL_TARGET = 0) ∧
      (handshakes s = false → Completes .chipStandby s fun t => t.busStatus = stOk ∧ t.rd FM_CHIP_STATUS_STATE = 1 ∧ t.rd FM_CHIP_CTRL_TARGET = 1) ∧
      (handshakes s = true → s.rd FM_CHIP_STATUS_STATE = 0 → Completes .chipStandby s fun t => t.busStatus = stOk ∧ t.rd FM_CHIP_STATUS_STATE = 0 ∧
        t.rd FM_CHIP_CTRL_TARGET = 1 ∧ t.rd FM_CHIP_STATUS_TRANSIT = 1 ∧ t.chipTo = 1)) ∧
    (s.chipTo = 1 → handshakes s = true → Completes .chipRun s fun t => t.busStatus = stOk ∧ t.rd FM_CHIP_CTRL_TARGET = 0 ∧
      t.rd FM_CHIP_STATUS_STATE = s.rd FM_CHIP_STATUS_STATE ∧ t.chipTo = 1) ∧
    ((∀ o ∈ s.ops, o.state.terminal = true) → planRestorable s = true → s.chipTo = 0 → handshakes s = false → Completes .chipDeep s fun t =>
      t.rd FM_CHIP_STATUS_STATE = 2 ∧ t.rd FM_CHIP_STATUS_TRANSIT = 0 ∧ t.sessions = [] ∧ t.ops = [] ∧ t.plan = s.plan ∧ t.flash = s.flash)) ∧
  (∀ (flips : List (Fin 64 × BitVec 24 × BitVec 8)) (s : State) (p : Plan), s.powered = true → s.canary = false → s.started = true →
    s.rd FM_CHIP_STATUS_STATE = 2 → s.plan = some p → initOf p.recs = [] →
    let Woken := fun (c : Instr) (code : Nat) (u : State) =>
      (reapplyImage (wakeBegin u code flips) p).2.map (fun x => x.1) = some p.image → Completes c s fun t =>
        t.rd FM_CHIP_STATUS_STATE = 0 ∧ t.rd WAKE_SRC_LAST = code ∧ t.rd WAKE_SRC_WAKES = (s.rd WAKE_SRC_WAKES + 1) % 2 ^ WAKE_SRC_WAKES.width ∧
          t.plan = some p
    (∀ payload : List (BitVec 8), nbit (s.rd WAKE_EN_EN) 0 = true → payload.length = 24 →
      (payload.map BitVec.toNat).take 8 = [0x5A, 0x57, 0x41, 0x4B, 0, 0, 0, 0] →
      recField (payload.map BitVec.toNat) 8 8 = (s.reg SERIAL_LO).toNat + (s.reg SERIAL_HI).toNat * 2 ^ 32 →
      recField (payload.map BitVec.toNat) 16 8 = (s.reg WAKE_CODE_LO).toNat + (s.reg WAKE_CODE_HI).toNat * 2 ^ 32 →
      Woken (.wakeFrame payload flips) 1 s.calm) ∧
    (nbit (s.rd WAKE_EN_EN) 1 = true → Woken (.wakeN flips) 2 s.calm) ∧
    (nbit (s.rd WAKE_EN_EN) 2 = true → s.reg WAKE_TIMER ≠ 0 → Woken (.aonTimer flips) 3 s.calm) ∧
    (∀ v : Int, sext 16 (s.rd WAKE_EN_WAKE_TEMP) ≤ v → Woken (.thermalAlert v flips) 4 (s.calm.wr (TS_VALUE 32) (twos 16 v))) ∧
    (∀ (b : Fin 4) (low : Bool), nbit (s.rd WAKE_EN_EN) 4 = true → s.on (ELS_BANK_GNT b) ≠ low →
      Woken (.elsGrantChange b low flips) 5 (s.calm.wr (ELS_BANK_GNT b) (bit low)))) ∧
  (∀ s : State, s.powered = true → s.canary = false →
    (Completes (.refclkLoss true) s fun t => t.on BOARD_STATUS_REFCLK_B_OK = false ∧ t.on BOARD_STATUS_CHIP_ON_XTAL = true ∧ t.refBLost = true) ∧
    (Completes (.refclkRestored true) s fun t => t.on BOARD_STATUS_REFCLK_B_OK = true ∧ t.refBLost = false ∧
      t.rd BOARD_STATUS_CHIP_ON_XTAL = s.rd BOARD_STATUS_CHIP_ON_XTAL) ∧
    (Completes (.refclkLoss false) s fun t => t.on BOARD_STATUS_REFCLK_A_OK = false ∧ t.refALost = true) ∧
    (Completes (.refclkRestored false) s fun t => t.on BOARD_STATUS_REFCLK_A_OK = true ∧ t.refALost = false)) ∧
  (∀ (e : Fin 4) (s : State), s.alive = true → nbit s.d2d e = false → Completes (.dieToDieFault e) s fun t => nbit t.d2d e = true ∧ t.plan = s.plan)

/-- A write of FM_CHIP_CTRL with TARGET = 2 completes with BUSY while any long operation is in a non-terminal state, and with RANGE when no copy of the
running plan can be restored, as when the plan came from staging and PRESENCE.DDR reads 0; where both hold, with one of the two. STATE does not change
when the write is refused, and in no other case is it refused: it then answers OK, and DEEP is entered unless a sealing handshake runs. (R334) -/
def Obligations.DeepRefused : Prop :=
  ∀ (s : State) (p : Plan), Reaches s FM_CHIP_CTRL → s.plan = some p →
    ((∃ o ∈ s.ops, o.state.terminal = false) → Completes .chipDeep s fun t => t.rd FM_CHIP_STATUS_STATE = s.rd FM_CHIP_STATUS_STATE ∧
      (t.busStatus = stBusy ∨ (planRestorable s = false ∧ t.busStatus = stRange))) ∧
    ((∀ o ∈ s.ops, o.state.terminal = true) → planRestorable s = false → Completes .chipDeep s fun t => t.busStatus = stRange ∧
      t.rd FM_CHIP_STATUS_STATE = s.rd FM_CHIP_STATUS_STATE) ∧
    ((∀ o ∈ s.ops, o.state.terminal = true) → planRestorable s = true → Completes .chipDeep s fun t => t.busStatus = stOk ∧
      (handshakes s = false → t.rd FM_CHIP_STATUS_STATE = 2)) ∧
    (p.source = 3 → s.rd PRESENCE_DDR = 0 → planRestorable s = false)

/-- With VPP_OTP applied VPP_OK reads 1 and volatile retirements are queued in order while places last. A record burned takes the front of the queue: a
retirement is committed at the next place, a floor increment, a limit record, a key or a revocation as the operation asked. When VPP_OTP goes, VPP_OK
reads 0, the queue empties, the record in front is spent without commitment, and queued retirements turn volatile. (R51, R53, R181, R359, R361, R456,
R466, 01_architecture.md, 19_electrical_package.md) -/
def Obligations.OtpProgramming : Prop :=
  ∀ s : State,
    (s.alive = true → Completes .vppOtpApplied s fun t => t.on FUSE_STATUS_VPP_OK = true ∧
      t.burnQ = s.burnQ ++ (s.volatileSeals.take (255 - (s.otp.seals.length + sealsQueued s))).map Burn.seal ∧
      t.volatileSeals = s.volatileSeals.drop (255 - (s.otp.seals.length + sealsQueued s)) ∧ t.otp = s.otp) ∧
    (s.alive = true → s.on FUSE_STATUS_VPP_OK = true → ∀ b bs, s.burnQ = b :: bs → Completes .otpRecordBurned s fun t =>
      (∀ r, b = .seal r → t.otp.seals = s.otp.seals ++ [(r, true)] ∧ t.burnQ = bs) ∧
      (∀ h, b = .floor h → t.otp.floors = s.otp.floors ++ [true]) ∧
      (∀ h f x y, b = .limits h f x y → t.otp.limits = s.otp.limits ++ [(f, x, y, true)]) ∧
      (∀ h, b = .lock h → t.otp.lock = true ∧ t.on FUSE_STATUS_LIMITS_LOCK = true) ∧
      (∀ h k d, b = .key h k d → t.otp.keys = s.otp.keys ++ [(k, d, true)]) ∧
      (∀ h, ∀ k < 4, b = .revoke h k → nbit t.otp.revoked k = true)) ∧
    (s.powered = true → Completes .vppOtpRemoved s fun t => t.on FUSE_STATUS_VPP_OK = false ∧ t.burnQ = [] ∧
      (∀ r bs, s.burnQ = .seal r :: bs → t.otp.seals = s.otp.seals ++ [(r, false)] ∧ r ∈ t.volatileSeals) ∧
      (s.burnQ = [] → t.otp = s.otp))

/-- An accepted OP_START whose arguments are in range, in a part that runs a plan (or for PLAN_LOAD, FLASH_WRITE and DDR_TEST in any), with fewer than 64
handles, adds one operation in QUEUED under a handle not in use, and the reply carries the handle. The argument ranges are those of each operation. A
bare part answers DOMAIN_OFF, a 65th handle BUSY. (R51, R53, R65, R69, R72, R73, R181, R311, R312, R313, R395, R414) -/
def Obligations.OperationStarts : Prop :=
  ∀ (r : Req) (x : Session) (s : State),
    (s.ops.length < 64 → s.plan.isSome = true →
      (∀ (f : Fin 16) (lanes : BitVec 16) (kind : BitVec 8), Accepted s r x 0x20 (payOp (.calibrate f lanes.toNat kind.toNat)) 1 .v2 → facePresent s f = true → lanes.toNat < 512 → 1 ≤ kind.toNat → kind.toNat ≤ 4 →
        Completes (.calibrate r (BitVec.ofNat 8 f) lanes kind) s fun t => Begun s t r x (.calibrate f lanes.toNat kind.toNat)) ∧
      (∀ (f : Fin 16) (dps : BitVec 16), Accepted s r x 0x20 (payOp (.assayRun f dps.toNat)) 1 .v30 → facePresent s f = true → dps.toNat / 512 % 32 = 0 → dps.toNat / 2 ^ 14 ≠ 0 →
        s.on ASSAY_CTRL_SIGS_OK = true → Completes (.assayRun r (BitVec.ofNat 8 f) dps) s fun t => Begun s t r x (.assayRun f dps.toNat)) ∧
      (∀ target : BitVec 8, Accepted s r x 0x20 (payOp (.scrubFull target.toNat)) 1 .v2 → target.toNat < 4 → Completes (.scrubFull r target) s fun t => Begun s t r x (.scrubFull target.toNat)) ∧
      (∀ c : BitVec 8, Accepted s r x 0x20 (payOp (.captureDrain c.toNat)) 1 .v30 → c.toNat < 4 → ddrTestMask s = 0 → Completes (.captureDrain r c) s fun t => Begun s t r x (.captureDrain c.toNat)) ∧
      (∀ v : BitVec 8, Accepted s r x 0x20 (payOp (.burnFloor v.toNat)) 3 .v30 → s.otp.floor ≤ v.toNat → v.toNat ≤ s.rd PLAN_COUNTER_RUNNING → v.toNat - s.otp.floor ≤ 128 - s.otp.floors.length →
        Completes (.planFloorBurn r v) s fun t => Begun s t r x (.burnFloor v.toNat)) ∧
      (Accepted s r x 0x20 (payOp .burnLimits) 3 .v30 → s.otp.lock = false → (∀ f < 16, facePresent s f = true → s.otp.limitPlaces f < 4) → Completes (.limitsBurn r) s fun t => Begun s t r x .burnLimits) ∧
      (∀ (slot : BitVec 8) (d : BitVec 384), Accepted s r x 0x20 (payOp (.burnKey slot.toNat d.toNat)) 3 .v30 → slot.toNat < 4 → s.otp.digest slot.toNat = none → nbit s.otp.revoked slot.toNat = false →
        s.otp.keyPlaces slot.toNat < 2 → Completes (.keyWrite r slot d) s fun t => Begun s t r x (.burnKey slot.toNat d.toNat)) ∧
      (∀ slot : BitVec 8, Accepted s r x 0x20 (payOp (.burnRevoke slot.toNat)) 3 .v30 → slot.toNat < 4 → nbit s.otp.revoked slot.toNat = false → Completes (.keyRevoke r slot) s fun t => Begun s t r x (.burnRevoke slot.toNat)) ∧
      (∀ (f : Fin 16) (src : BitVec 8), Accepted s r x 0x20 (payOp (.faceReplan f src.toNat)) 2 .v30 → 1 ≤ src.toNat → src.toNat ≤ 3 →
        (∀ o ∈ s.ops, o.state.terminal = false → ∀ src', o.kind ≠ .faceReplan f src') → Completes (.faceReplan r (BitVec.ofNat 8 f) src) s fun t => Begun s t r x (.faceReplan f src.toNat))) ∧
    (s.ops.length < 64 →
      (∀ src : BitVec 8, Accepted s r x 0x20 (payOp (.planLoad src.toNat)) 2 .v2 → 1 ≤ src.toNat → src.toNat ≤ 3 → planOps s = [] → Completes (.planLoad r src) s fun t => Begun s t r x (.planLoad src.toNat)) ∧
      (∀ (slot : BitVec 8) (force : Bool), Accepted s r x 0x20 (payOp (.flashWrite slot.toNat force)) 2 .v30 → 1 ≤ slot.toNat → slot.toNat ≤ 2 →
        ((slotCommit s (2 - slot.toNat)).isSome = true ∨ force = true) → Completes (.flashWrite r slot force) s fun t => Begun s t r x (.flashWrite slot.toNat force)) ∧
      (∀ chans pattern : BitVec 8, Accepted s r x 0x20 (payOp (.ddrTest chans.toNat pattern.toNat)) 2 .v2 → chans.toNat < 16 → pattern.toNat ≤ 2 → (∀ c < 4, nbit chans.toNat c = true → c ∈ ddrFitted s) →
        Completes (.ddrTest r chans pattern) s fun t => Begun s t r x (.ddrTest chans.toNat pattern.toNat))) ∧
    (∀ target : BitVec 8, Accepted s r x 0x20 (payOp (.scrubFull target.toNat)) 1 .v2 →
      (s.plan = none → Completes (.scrubFull r target) s fun t => NotBegun s t r stDomainOff) ∧
      (s.plan.isSome = true → 64 ≤ s.ops.length → Completes (.scrubFull r target) s fun t => NotBegun s t r stBusy) ∧
      (s.plan.isSome = true → s.ops.length < 64 → 4 ≤ target.toNat → Completes (.scrubFull r target) s fun t => NotBegun s t r stRange)) ∧
    (∀ src : BitVec 8, Accepted s r x 0x20 (payOp (.planLoad src.toNat)) 2 .v2 → s.ops.length < 64 → 1 ≤ src.toNat → src.toNat ≤ 3 → planOps s ≠ [] → Completes (.planLoad r src) s fun t => NotBegun s t r stBusy)

/-- For the session that started an operation, or ADMIN: a QUEUED operation suspends at once and resumes to QUEUED, a RUNNING one that can suspends at its
next point, a SUSPENDED one that had begun runs again; cancel ends a QUEUED or SUSPENDED operation as CANCELLED at once, a RUNNING one turns
CANCELLING, a plan being applied answers BUSY. OP_STATUS answers the six words and frees a terminal handle; 600 s after its end a handle is freed.
Another session without ADMIN gets NO_ACCESS, an unknown handle RANGE. (R74, R308, R311, R313, R314, 11_control_ports_zcp.md) -/
def Obligations.OperationCommands : Prop :=
  ∀ (r : Req) (x : Session) (h : BitVec 16) (s : State),
    (∀ o, s.op h.toNat = some o → (o.session = x.id ∨ 2 ≤ x.priv) →
      (Accepted s r x 0x21 (payHandle h) 0 .v31 →
        (o.state = .queued → Completes (.opSuspend r h) s fun t => OpShows s t r h 0x21 stOk (some .suspended)) ∧
        (o.state = .running → suspendable o = true → Completes (.opSuspend r h) s fun t => OpShows s t r h 0x21 stOk (some .suspending)) ∧
        (o.state = .running → suspendable o = false → Completes (.opSuspend r h) s fun t => OpShows s t r h 0x21 stNotSusp (some .running)) ∧
        (o.state.terminal = true → Completes (.opSuspend r h) s fun t => OpShows s t r h 0x21 stRange (some o.state))) ∧
      (Accepted s r x 0x22 (payHandle h) 0 .v31 →
        (o.state = .suspended → Completes (.opResume r h) s fun t => OpShows s t r h 0x22 stOk (some (if o.fromQueue then .queued else .running))) ∧
        (o.state = .running → Completes (.opResume r h) s fun t => OpShows s t r h 0x22 stRange (some .running))) ∧
      (Accepted s r x 0x23 (payHandle h) 0 .v2 →
        (o.state = .queued ∨ o.state = .suspended → Completes (.opCancel r h) s fun t => OpShows s t r h 0x23 stOk (some .cancelled)) ∧
        (o.state = .running → refusesCancel o = false → Completes (.opCancel r h) s fun t => OpShows s t r h 0x23 stOk (some .cancelling)) ∧
        (o.state = .running → refusesCancel o = true → Completes (.opCancel r h) s fun t => OpShows s t r h 0x23 stBusy (some .running)))) ∧
    (∀ o, s.op h.toNat = some o → o.session ≠ x.id → x.priv < 2 → Accepted s r x 0x23 (payHandle h) 0 .v2 → Completes (.opCancel r h) s fun t => OpShows s t r h 0x23 stNoAccess (some o.state)) ∧
    (s.op h.toNat = none → Accepted s r x 0x23 (payHandle h) 0 .v2 → Completes (.opCancel r h) s fun t => OpShows s t r h 0x23 stRange none) ∧
    (Accepted s r x 0x24 (payHandle h) 0 .v2 → ∀ o, s.op h.toNat = some o → Completes (.opStatus r h) s fun t =>
      Answered s t r 0x24 stOk (opStatusWords { o with progress := opProgress s o }) ∧ t.op h.toNat = if o.state.terminal then none else some o) ∧
    (s.alive = true → (∀ o, s.op h.toNat = some o → o.state.terminal = true) → s.op h.toNat ≠ none → Completes (.handleExpiry h) s fun t =>
      t.op h.toNat = none ∧ RegsKept (fun _ => false) s t)

/-- An operation in QUEUED whose turn it is turns RUNNING with START_TIME (SCRUB_FULL, CALIBRATE, ASSAY_RUN, and a burn with VPP_OTP, whose records are
queued); a burn without VPP_OTP ends FAILED with DOMAIN_OFF. A SUSPENDING one with none of its items at work is SUSPENDED. CALIBRATE without items
left ends DONE with PROGRESS 0xFFFF, ASSAY_RUN DONE with LIMIT when a slice failed, CAPTURE_DRAIN of a channel not FULL ends FAILED with RANGE, a burn
with nothing queued DONE; a CANCELLING one with no burn queued ends CANCELLED. The session that started it is told. (R311, R312, R313, R314, R370,
R395, R405, 11_control_ports_zcp.md) -/
def Obligations.OperationRuns : Prop :=
  ∀ (h : BitVec 16) (o : LongOp) (s : State), s.alive = true → s.op h.toNat = some o →
    (isTurn s o = true →
      (o.kind.code = 1 ∨ o.kind.code = 2 ∨ o.kind.code = 3 → Completes (.operationDequeued h) s fun t =>
        ∃ e, t.op h.toNat = some e ∧ e.state = .running ∧ e.start = s.time ∧ e.kind = o.kind) ∧
      (∀ slot d, o.kind = .burnKey slot d → o.step = 0 →
        (s.on FUSE_STATUS_VPP_OK = true → Completes (.operationDequeued h) s fun t => (t.op h.toNat).map LongOp.state = some .running ∧
          t.burnQ = s.burnQ ++ [.key h.toNat slot d]) ∧
        (s.on FUSE_STATUS_VPP_OK = false → Completes (.operationDequeued h) s fun t => OpEnded s t h o .failed stDomainOff 0))) ∧
    (o.state = .suspending → opAtWork s h.toNat = false → ∀ p, Completes (.operationSuspended h p) s fun t =>
      (t.op h.toNat).map LongOp.state = some .suspended) ∧
    (∀ same errs, o.state = .running →
      ((∃ f l k, o.kind = .calibrate f l k) → (∀ y ∈ s.calQ, y.op ≠ h.toNat) → Completes (.operationEnd h same errs) s fun t => OpEnded s t h o .done 0 0xFFFF) ∧
      ((∃ f d, o.kind = .assayRun f d) → (∀ y ∈ s.assayQ, y.op ≠ h.toNat) → Completes (.operationEnd h same errs) s fun t =>
        OpEnded s t h o .done (if o.failed then stLimit else stOk) 0xFFFF) ∧
      (∀ c, o.kind = .captureDrain c → (s.face (s.rd (CAP_CFG_FACE c))).obsShed = false → s.rd (CAP_STATUS_STATE c) ≠ 3 →
        Completes (.operationEnd h same errs) s fun t => OpEnded s t h o .failed stRange (opProgress s o)) ∧
      ((∃ slot d, o.kind = .burnKey slot d) → (∀ b ∈ s.burnQ, b.handle ≠ some h.toNat) → Completes (.operationEnd h same errs) s fun t =>
        OpEnded s t h o .done 0 0xFFFF)) ∧
    (∀ same errs, o.state = .cancelling → (∀ b ∈ s.burnQ, b.handle ≠ some h.toNat) → Completes (.operationEnd h same errs) s fun t =>
      (t.op h.toNat).map LongOp.state = some .cancelled)

/-- With the staging area not claimed by an operation, a write of PLAN_STAGE_DATA claims it, stores the word little-endian at PTR and moves PTR on by
four; a write of PLAN_STAGE_PTR claims it and sets PTR (bits [1:0] read 0); with RELEASE the claim ends. While an operation holds the claim both
answer BUSY and change nothing. (R20, R68, 02_plan_image.md) -/
def Obligations.PlanStaging : Prop :=
  ∀ (v : Word) (p : BitVec 24) (s : State), Reaches s PLAN_STAGE_DATA →
    ((∀ h, s.claim ≠ some (some h)) →
      (s.rd PLAN_STAGE_PTR_PTR % 4 = 0 → Completes (.planStageData v) s fun t => t.busStatus = stOk ∧ t.claim = some none ∧
        t.on PLAN_STAGE_PTR_CLAIMED = true ∧ t.rd PLAN_STAGE_PTR_PTR = (s.rd PLAN_STAGE_PTR_PTR + 4) % 2 ^ 24 ∧
        ∀ j < 4, t.byte 2 0 (s.rd PLAN_STAGE_PTR_PTR + j) = BitVec.ofNat 8 (v.toNat / 256 ^ j)) ∧
      (Completes (.planStagePtr p) s fun t => t.busStatus = stOk ∧ t.claim = some none ∧ t.rd PLAN_STAGE_PTR_PTR = p.toNat / 4 * 4) ∧
      (Completes .planStageRelease s fun t => t.busStatus = stOk ∧ t.claim = none ∧ t.on PLAN_STAGE_PTR_CLAIMED = false)) ∧
    (∀ h, s.claim = some (some h) → ∀ c ∈ [Instr.planStageData v, .planStagePtr p, .planStageRelease], Completes c s fun t =>
      t.busStatus = stBusy ∧ t.claim = s.claim ∧ RegsKept (fun _ => false) s t ∧ t.bytes = s.bytes)

/-- On a face with a tap: RUN turns the tap on (RUNNING with input, NO_INPUT without, SHED while observation is shed) or off; SWAP leaves a swap pending,
which taking effect exchanges the banks and clears; RESTART of a running tap stays pending until a block ends, when GEN counts and SAT_COUNT restarts
at 0; a coefficient write to the active bank, or to either while a swap is pending, answers BUSY and changes nothing. Samples go through the chain:
the values that saturate add to SAT_COUNT, and a complete block goes to the open live stream of the tap, which sends it as one message and spends a
credit, or without credit counts it in DROPS. (R235, R238, R239, R240, R244, R253, 09_spectral_tap_capture.md) -/
def Obligations.TapRows : Prop :=
  ∀ (f : Fin 16) (s : State), tapExists s f = true →
    (Reaches s (TAP_CTRL f) →
      (∀ run, Completes (.run f run) s fun t => t.busStatus = stOk ∧ t.on (TAP_CTRL_RUN f) = run ∧ t.rd (TAP_CTRL_ACTIVE f) = s.rd (TAP_CTRL_ACTIVE f) ∧
        (s.on (TAP_CTRL_RUN f) = !run → t.rd (TAP_STATUS_STATE f) =
          if run = false then 0 else if (s.face f).obsShed then 3 else if tapInput s f then 1 else 2)) ∧
      (Completes (.tapSwap f) s fun t => t.busStatus = stOk ∧ t.on (TAP_STATUS_SWAP_PEND f) = true ∧ t.rd (TAP_CTRL_ACTIVE f) = s.rd (TAP_CTRL_ACTIVE f) ∧
        t.on (TAP_CTRL_RUN f) = s.on (TAP_CTRL_RUN f)) ∧
      (s.rd (TAP_STATUS_STATE f) = 1 → Completes (.tapRestart f) s fun t => t.on (TAP_CTRL_RESTART f) = true ∧ (t.face f).tapRestart = true ∧
        t.rd (TAP_STATUS_GEN f) = s.rd (TAP_STATUS_GEN f)) ∧
      (s.rd (TAP_STATUS_STATE f) ≠ 1 → Completes (.tapRestart f) s fun t => t.busStatus = stOk ∧ RegsKept (fun _ => false) s t)) ∧
    (s.alive = true → s.on (TAP_STATUS_SWAP_PEND f) = true → (s.face f).tapRestart = false → Completes (.tapSwapApply f) s fun t =>
      t.rd (TAP_CTRL_ACTIVE f) = 1 - s.rd (TAP_CTRL_ACTIVE f) ∧ t.on (TAP_STATUS_SWAP_PEND f) = false ∧ t.on (TAP_CTRL_SWAP f) = false ∧
        t.rd (TAP_STATUS_STATE f) = s.rd (TAP_STATUS_STATE f) ∧ (t.face f).tapSwapAt = some (s.face f).tap.out.length) ∧
    (∀ (b : Fin 2) (i : Fin 64) (v : BitVec 16), Reaches s (TAP_COEF f b i) →
      (s.on (TAP_STATUS_SWAP_PEND f) = true ∨ s.rd (TAP_CTRL_ACTIVE f) = b → Completes (.tapCoef f b i v) s fun t =>
        t.busStatus = stBusy ∧ RegsKept (fun _ => false) s t) ∧
      (s.on (TAP_STATUS_SWAP_PEND f) = false → s.rd (TAP_CTRL_ACTIVE f) ≠ b → Completes (.tapCoef f b i v) s fun t =>
        t.busStatus = stOk ∧ t.rd (TAP_COEF_H f b i) = v.toNat ∧ RegsKept (fun a => a == TAP_COEF f b i) s t)) ∧
    (∀ b : TapIn, s.alive = true → s.rd (TAP_STATUS_STATE f) = 1 →
      let x := tapTake s f b.input
      let sat := min 255 (s.rd (TAP_STATUS_SAT_COUNT f) + (x.sats - (s.face f).tap.sats))
      (tapDone x = false → Completes (.tapBlock f b) s fun t => t.tx = s.tx ∧ (t.face f).tap = x ∧
        t.rd (TAP_STATUS_SAT_COUNT f) = sat ∧ t.rd (TAP_STATUS_GEN f) = s.rd (TAP_STATUS_GEN f)) ∧
      (tapDone x = true → (∀ i < 32, liveOn s i f = false) → Completes (.tapBlock f b) s fun t => t.tx = s.tx ∧ (t.face f).tapRestart = false ∧
        (t.face f).tap.out = [] ∧ t.rd (TAP_STATUS_SAT_COUNT f) = (if (s.face f).tapRestart then 0 else sat) ∧
        t.rd (TAP_STATUS_GEN f) = if (s.face f).tapRestart then (s.rd (TAP_STATUS_GEN f) + 1) % 256 else s.rd (TAP_STATUS_GEN f)) ∧
      (tapDone x = true → ∀ i < 32, liveOn s i f = true → (∀ j < 32, j ≠ i → liveOn s j f = false) →
        (s.rd (STREAM_STATUS_CREDIT i) ≠ 0 → txFull s (s.rd (STREAM_STATUS_PORT i)) = false → Completes (.tapBlock f b) s fun t =>
          t.rd (STREAM_STATUS_CREDIT i) = s.rd (STREAM_STATUS_CREDIT i) - 1 ∧ (t.stream i).seq = (s.stream i).seq + 1 ∧
          ∃ m ∈ t.tx, m.session = (s.stream i).session ∧ m.flags = 4 ∧
            m.words = obsWords i (tapBlockOf (s.setFace f { s.face f with tap := x }) f b) (s.stream i).seq
              ((s.time + 2 ^ 64 - b.age.toNat % 2 ^ 64) % 2 ^ 64) (s.stream i).gap) ∧
        (s.rd (STREAM_STATUS_CREDIT i) = 0 → Completes (.tapBlock f b) s fun t => t.tx = s.tx ∧ (t.stream i).gap = true ∧
          t.rd (STREAM_DROPS_DROPS i) = min (2 ^ 32 - 1) (s.rd (STREAM_DROPS_DROPS i) + 1))))

/-- A configuration value that the register defines is taken, an undefined one answers RANGE and changes nothing. Arming IDLE channels whose checks pass
makes them ARMED with cleared flags; a trigger time already past fires at once with that time; a claimed staging area answers BUSY. FORCE on an ARMED
channel stamps the time of the write and makes it TRIGGERED, elsewhere it does nothing. A burst, a power step or a time reached fires an ARMED channel
with its stamp and position. The written record makes it FULL with WRAPPED and END; STOP makes it FULL with TRUNC. DISCARD of FULL gives IDLE, of
READING BUSY. (R246, R247, R248, R249, R250, 09_spectral_tap_capture.md) -/
def Obligations.CaptureRows : Prop :=
  ∀ (c : Fin 4) (s : State),
    let tt := s.rd (CAP_TRIG_ARG_ARG c) + s.rd (CAP_TRIG_TIME_HI_TIME_HI c) * 2 ^ 32
    let Fired := fun (t : State) (time : Nat) => t.rd (CAP_STATUS_STATE c) = 2 ∧
      t.rd (CAP_TRIG_STAMP_LO_STAMP_LO c) = time % 2 ^ 32 ∧ t.rd (CAP_TRIG_STAMP_HI_STAMP_HI c) = time / 2 ^ 32 % 2 ^ 32
    let Unchanged := fun (i : Instr) (st : Nat) => Completes i s fun t => t.busStatus = st ∧ RegsKept (fun _ => false) s t
    (Reaches s (CAP_CTRL c) →
      (armStatus s [c.val] = stOk → s.rd (CAP_TRIG_TRIG_SRC c) ≠ 4 → Completes (.arm c) s fun t => t.busStatus = stOk ∧
        t.rd (CAP_STATUS_STATE c) = 1 ∧ t.on (CAP_STATUS_TRUNC c) = false ∧ t.on (CAP_STATUS_SHORT_PRE c) = false ∧ t.rd (CAP_STATUS_END c) = 0) ∧
      (armStatus s [c.val] = stOk → s.rd (CAP_TRIG_TRIG_SRC c) = 4 → tt ≤ s.time → Completes (.arm c) s fun t => Fired t tt) ∧
      (s.claim.isSome = true → Unchanged (.arm c) stBusy) ∧
      (s.rd (CAP_STATUS_STATE c) = 1 → Completes (.force c) s fun t => Fired t s.time) ∧
      (s.rd (CAP_STATUS_STATE c) ≠ 1 → Unchanged (.force c) stOk) ∧
      (s.rd (CAP_STATUS_STATE c) = 1 ∨ s.rd (CAP_STATUS_STATE c) = 2 → Completes (.stop c) s fun t =>
        t.rd (CAP_STATUS_STATE c) = 3 ∧ t.on (CAP_STATUS_TRUNC c) = true) ∧
      (s.rd (CAP_STATUS_STATE c) ≠ 1 → s.rd (CAP_STATUS_STATE c) ≠ 2 → Unchanged (.stop c) stOk) ∧
      (s.rd (CAP_STATUS_STATE c) = 3 → Completes (.discard c) s fun t => t.busStatus = stOk ∧ t.rd (CAP_STATUS_STATE c) = 0) ∧
      (s.rd (CAP_STATUS_STATE c) = 4 → Unchanged (.discard c) stBusy)) ∧
    (∀ (r : Req) (x : Session) (mask : BitVec 8), Accepted s r x 0x40 (payByte mask) 1 .v30 →
      (mask.toNat < 16 → armStatus s (bitsOf 4 mask.toNat) = stOk → (∀ d < 4, s.rd (CAP_TRIG_TRIG_SRC d) ≠ 4) → Completes (.captureArm r mask) s fun t =>
        Answered s t r 0x40 stOk [] ∧ ∀ d < 4, nbit mask.toNat d = true → t.rd (CAP_STATUS_STATE d) = 1) ∧
      (16 ≤ mask.toNat → Completes (.captureArm r mask) s fun t => Answered s t r 0x40 stRange [])) ∧
    (∀ v : Word,
      (Reaches s (CAP_CFG c) →
        (v.toNat / 2 ^ 29 ≤ 3 → v.toNat / 2 ^ 21 % 16 ≤ 8 → Completes (.captureConfigWrite c 0 v) s fun t => t.busStatus = stOk ∧
          (t.reg (CAP_CFG c)).toNat = v.toNat / 2 ^ 16 * 2 ^ 16 ∧ RegsKept (fun a => a == CAP_CFG c) s t) ∧
        (3 < v.toNat / 2 ^ 29 ∨ 8 < v.toNat / 2 ^ 21 % 16 → Unchanged (.captureConfigWrite c 0 v) stRange)) ∧
      (Reaches s (CAP_REGION c) →
        (1 ≤ v.toNat % 128 → v.toNat % 128 ≤ 64 → Completes (.captureConfigWrite c 1 v) s fun t => t.busStatus = stOk ∧
          t.rd (CAP_REGION_BASE c) = v.toNat / 2 ^ 8 % 64 ∧ t.rd (CAP_REGION_SIZE c) = v.toNat % 128) ∧
        (v.toNat % 128 = 0 ∨ 64 < v.toNat % 128 → Unchanged (.captureConfigWrite c 1 v) stRange)) ∧
      (Reaches s (CAP_TRIG c) →
        (v.toNat / 2 ^ 28 ≤ 4 → Completes (.captureConfigWrite c 2 v) s fun t => t.busStatus = stOk ∧ t.rd (CAP_TRIG_TRIG_SRC c) = v.toNat / 2 ^ 28) ∧
        (4 < v.toNat / 2 ^ 28 → Unchanged (.captureConfigWrite c 2 v) stRange)) ∧
      (Reaches s (CAP_TRIG_ARG c) → Completes (.captureConfigWrite c 3 v) s fun t => t.rd (CAP_TRIG_ARG_ARG c) = v.toNat) ∧
      (Reaches s (CAP_TRIG_TIME_HI c) → Completes (.captureConfigWrite c 4 v) s fun t => t.rd (CAP_TRIG_TIME_HI_TIME_HI c) = v.toNat)) ∧
    (s.alive = true →
      (∀ time pos short, s.rd (CAP_STATUS_STATE c) = 1 →
        (s.rd (CAP_TRIG_TRIG_SRC c) = 2 ∨ s.rd (CAP_TRIG_TRIG_SRC c) = 3 → Completes (.captureTrigger c time pos short) s fun t =>
          Fired t time.toNat ∧ t.on (CAP_STATUS_SHORT_PRE c) = short ∧ t.rd (CAP_TRIG_POS_POS c) = pos.toNat) ∧
        (s.rd (CAP_TRIG_TRIG_SRC c) = 4 → tt ≤ s.time → Completes (.captureTrigger c time pos short) s fun t => Fired t tt)) ∧
      (∀ wrapped e data, s.rd (CAP_STATUS_STATE c) = 2 → Completes (.captureFull c wrapped e data) s fun t => t.rd (CAP_STATUS_STATE c) = 3 ∧
        t.on (CAP_STATUS_WRAPPED c) = wrapped ∧ t.rd (CAP_STATUS_END c) = e.toNat ∧ t.on (CAP_STATUS_TRUNC c) = false ∧
        (t.cap c).size = if wrapped then s.rd (CAP_REGION_SIZE c) * 2 ^ 20 else e.toNat * 64))

/-- STREAM_OPEN on a port with 9,000-byte frames and a source that fits takes the lowest free stream and answers its number; a port without them answers
RANGE; a FULL channel turns READING. STREAM_CLOSE by its session or ADMIN closes it, another session gets NO_ACCESS. Credit adds up to 65,535 and
answers RANGE on a closed stream. A stored stream with credit sends the next block; with CONSUME the last block closes the stream, makes the channel
IDLE or frees the archive entry. Ten seconds without credit close a stored stream and a channel that it read is FULL again. DROP_OLDEST frees the
oldest entry. (R250, R251, R252, R253, R256, 09_spectral_tap_capture.md) -/
def Obligations.StreamRows : Prop :=
  ∀ (i : Fin 32) (s : State),
    (∀ (r : Req) (x : Session) (index : BitVec 8) (consume : Bool) (credit : BitVec 16), Accepted s r x 0x41 (payStream 2 index consume credit) 0 .v30 →
      (portJumbo s x.port = true → streamSource s x 2 index.toNat = stOk → s.on (STREAM_STATUS_OPEN i) = false →
        (∀ j < 32, j < i.val → s.on (STREAM_STATUS_OPEN j) = true) → Completes (.streamOpen r 2 index consume credit) s fun t =>
          Answered s t r 0x41 stOk [BitVec.ofNat 32 i] ∧ t.on (STREAM_STATUS_OPEN i) = true ∧ t.rd (STREAM_STATUS_SRC i) = 2 ∧
          t.rd (STREAM_STATUS_INDEX i) = index.toNat ∧ t.rd (STREAM_STATUS_CREDIT i) = credit.toNat ∧ t.rd (CAP_STATUS_STATE index.toNat) = 4 ∧
          (t.stream i).session = x.id) ∧
      (portJumbo s x.port = false → Completes (.streamOpen r 2 index consume credit) s fun t => Answered s t r 0x41 stRange [])) ∧
    (∀ (r : Req) (x : Session), Accepted s r x 0x42 (payByte (BitVec.ofNat 8 i)) 0 .v30 → s.on (STREAM_STATUS_OPEN i) = true →
      ((s.stream i).session = x.id ∨ 2 ≤ x.priv → Completes (.streamClose r (BitVec.ofNat 8 i)) s fun t =>
        Answered s t r 0x42 stOk [] ∧ t.on (STREAM_STATUS_OPEN i) = false) ∧
      ((s.stream i).session ≠ x.id → x.priv < 2 → Completes (.streamClose r (BitVec.ofNat 8 i)) s fun t =>
        Answered s t r 0x42 stNoAccess [] ∧ t.on (STREAM_STATUS_OPEN i) = true)) ∧
    (∀ add : BitVec 16, Reaches s (STREAM_CREDIT i) →
      (s.on (STREAM_STATUS_OPEN i) = true → Completes (.streamCredit i add) s fun t => t.busStatus = stOk ∧
        t.rd (STREAM_STATUS_CREDIT i) = min 65535 (s.rd (STREAM_STATUS_CREDIT i) + add.toNat) ∧ RegsKept (fun a => a == STREAM_STATUS i) s t) ∧
      (s.on (STREAM_STATUS_OPEN i) = false → Completes (.streamCredit i add) s fun t => t.busStatus = stRange ∧ RegsKept (fun _ => false) s t)) ∧
    (∀ (b : ObsIn) (rec : ObsRec) (words : Option (List (Option Nat))), s.alive = true → s.on (STREAM_STATUS_OPEN i) = true → s.rd (STREAM_STATUS_CREDIT i) ≠ 0 →
      s.on (CP_STATUS_PAUSED (s.rd (STREAM_STATUS_PORT i))) = false → txFull s (s.rd (STREAM_STATUS_PORT i)) = false →
      storedRec s i = some (rec, words) → (s.stream i).seq < rec.blocks → (s.face rec.info.face).obsShed = false →
        ((s.stream i).consume = false ∨ (s.stream i).seq + 1 < rec.blocks → Completes (.streamBlockSend i b) s fun t =>
          t.rd (STREAM_STATUS_CREDIT i) = s.rd (STREAM_STATUS_CREDIT i) - 1 ∧ t.on (STREAM_STATUS_OPEN i) = true ∧
          (t.stream i).seq = (s.stream i).seq + 1 ∧ ∃ m ∈ t.tx, m.session = (s.stream i).session ∧ m.flags = 4 ∧
            m.words = obsWords i (recBlock s rec words (s.stream i).seq b).2 (s.stream i).seq
              ((s.time + 2 ^ 64 - b.age.toNat % 2 ^ 64) % 2 ^ 64) (s.stream i).gap) ∧
        ((s.stream i).consume = true → (s.stream i).seq + 1 = rec.blocks →
          Completes (.streamBlockSend i b) s fun t => t.on (STREAM_STATUS_OPEN i) = false ∧
            (s.rd (STREAM_STATUS_SRC i) = 2 → t.rd (CAP_STATUS_STATE (s.rd (STREAM_STATUS_INDEX i))) = 0) ∧
            (s.rd (STREAM_STATUS_SRC i) = 3 → ∀ e ∈ t.archEntries, e.id ≠ (s.stream i).arch) ∧
            ∃ m ∈ t.tx, m.session = (s.stream i).session ∧ m.flags = 4)) ∧
    (s.alive = true → s.on (STREAM_STATUS_OPEN i) = true → s.on (STREAM_STATUS_LIVE i) = false → s.rd (STREAM_STATUS_CREDIT i) = 0 →
      Completes (.streamTimeout i) s fun t => t.on (STREAM_STATUS_OPEN i) = false ∧
        (s.rd (STREAM_STATUS_SRC i) = 2 → s.rd (CAP_STATUS_STATE (s.rd (STREAM_STATUS_INDEX i))) = 4 →
          t.rd (CAP_STATUS_STATE (s.rd (STREAM_STATUS_INDEX i))) = 3)) ∧
    (Reaches s ARCH_CTRL →
      (∀ e l, s.archEntries = e :: l → Completes .dropOldest s fun t => t.archEntries = s.archEntries.filter (fun y => y.id != e.id) ∧
        t.rd ARCH_STATUS_ENTRIES = t.archEntries.length % 256) ∧
      (s.archEntries = [] → Completes .dropOldest s fun t => t.busStatus = stOk ∧ RegsKept (fun _ => false) s t))

/-- From every state, these commands leave every register and counter outside the face's tap, the capture unit and the records of events and counts as it
was, and every byte outside Tally's store (a full channel fills the capture store too, and a stored block may meet memory errors); flash, OTP, the
plan, operations, time and the queue stay. (R235, R240, R246, R250, R251, R253, 09_spectral_tap_capture.md) -/
def Obligations.CaptureFrame : Prop :=
  ∀ (f : Fin 16) (run wrapped : Bool) (i : TapIn) (b : Fin 2) (k : Fin 64) (o : ObsIn) (data : List (BitVec 64)) (c : Fin 4) (w : Fin 5) (v : Word) (u : BitVec 16) (time : BitVec 64)
    (pos : BitVec 26) (e : BitVec 20) (n : Fin 32) (s t : State),
    (∀ x ∈ [Instr.run f run, .tapSwap f, .tapSwapApply f, .tapRestart f, .tapCoef f b k u, .tapBlock f i, .arm c, .force c, .stop c, .discard c,
        .captureConfigWrite c w v, .captureTrigger c time pos run, .captureFull c wrapped e data, .streamCredit n u, .streamTimeout n, .dropOldest],
      exec x s = .next t →
        WordsKept (fun r => inRange (0x700000 + f.val * 0x1000) (0x700000 + f.val * 0x1000 + 0x1000) r || inRange 0x710000 0x730008 r || countReg r) s t ∧
          BytesKept (fun a _ _ => a == 7 || (a == 2 && x == .captureFull c wrapped e data)) s t ∧ RestKept s t) ∧
    (exec (.streamBlockSend n o) s = .next t →
      WordsKept (fun r => inRange 0x500000 0x580000 r || inRange 0x710000 0x730008 r || countReg r) s t ∧ BytesKept inStore s t ∧ RestKept s t)

/-- A running Hewer that executes one of these instructions writes exactly the destination register (its next cycle counted and PC moved on by four; every
other register as it was): ADD, SUB, AND, OR, XOR, SHL, SHR, SRA, MIN, MAX, CONJ, SWAPH, ADDI, MOVI, MOVHI, EXP, EXPM and MFS; CMP writes Z, LT and
LTU alone; MTS writes the special register by its rules. CONJ of an imaginary half of -32,768 leaves that half open (notes/assumptions/4.md), CYCLES
is read with an open number of stall cycles (notes/assumptions/31.md). A register field names X0-X31, then W0-W31 as renamed by RRB. (R261, R262,
R267, R268, R273, R280, R281, 10_hewer_cores.md) -/
def Obligations.HewerAlu : Prop :=
  (∀ (x : HewerX) (r q : Nat) (v : Nat), r < 64 → q < 64 → hGet (hPut x x r v) q = if q = r then v % 2 ^ 32 else hGet x q) ∧
  (∀ (x : HewerX) (r : Nat), hGet x r = if r < 32 then tabGet 0 x.x r else tabGet 0 x.w ((r - 32 + x.rrb) % 32)) ∧
  ∀ (n : Fin 18) (pc : Nat) (s : State), HewerAt s n pc →
    let x := s.hw n
    let g := fun (r : Fin 64) => hGet x r
    let Writes := fun (c : Instr) (d : Fin 64) (v : Nat) => Retires c s n (hPut x x d v) (pc + 4)
    (∀ d u v : Fin 64,
      Writes (.add n d u v) d (g u + g v) ∧ Writes (.sub n d u v) d (g u + 2 ^ 32 - g v) ∧
      Writes (.and n d u v) d (Nat.land (g u) (g v)) ∧ Writes (.or n d u v) d (Nat.lor (g u) (g v)) ∧ Writes (.xor n d u v) d (Nat.xor (g u) (g v)) ∧
      Writes (.shl n d u v) d (g u * 2 ^ (g v % 32)) ∧ Writes (.shr n d u v) d (g u / 2 ^ (g v % 32)) ∧
      Writes (.sra n d u v) d (twos 32 (sext 32 (g u) / 2 ^ (g v % 32))) ∧
      Writes (.min n d u v) d (if sext 32 (g u) ≤ sext 32 (g v) then g u else g v) ∧
      Writes (.max n d u v) d (if sext 32 (g u) ≤ sext 32 (g v) then g v else g u) ∧
      Writes (.swaph n d u) d (g u / 2 ^ 16 + g u % 2 ^ 16 * 2 ^ 16) ∧
      (g u / 2 ^ 16 ≠ 0x8000 → Writes (.conj n d u) d (g u % 2 ^ 16 + twos 16 (-sext 16 (g u / 2 ^ 16)) * 2 ^ 16)) ∧
      (g u / 2 ^ 16 = 0x8000 → ∃ w, Writes (.conj n d u) d (g u % 2 ^ 16 + w % 2 ^ 16 * 2 ^ 16)) ∧
      Writes (.exp n d u) d (min (rsb 16 (g u % 2 ^ 16)) (rsb 16 (g u / 2 ^ 16))) ∧
      Writes (.expm n d u v) d
        (if sext 32 (g v) ≤ (min (rsb 16 (g u % 2 ^ 16)) (rsb 16 (g u / 2 ^ 16)) : Nat) then g v else min (rsb 16 (g u % 2 ^ 16)) (rsb 16 (g u / 2 ^ 16))) ∧
      Retires (.cmp n u v) s n
        { x with hsr := x.hsr / 8 * 8 + 4 * bit (g u == g v) + 2 * bit (decide (sext 32 (g u) < sext 32 (g v))) + bit (decide (g u < g v)) } (pc + 4)) ∧
    (∀ (d u : Fin 64) (imm : BitVec 12), Writes (.addi n d u imm) d (twos 32 ((g u : Int) + sext 12 imm.toNat))) ∧
    (∀ (d : Fin 64) (imm : BitVec 18), Writes (.movi n d imm) d (twos 32 (sext 18 imm.toNat)) ∧
      Writes (.movhi n d imm) d (imm.toNat % 2 ^ 16 * 2 ^ 16 + g d % 2 ^ 16)) ∧
    (∀ d : Fin 64,
      (∀ p ∈ [(0x00, x.hsr), (0x01, x.ipc), (0x02, x.ihsr), (0x03, x.rrb), (0x04, tabGet 0 x.lc 0), (0x05, tabGet 0 x.ls 0), (0x06, tabGet 0 x.le 0),
          (0x07, tabGet 0 x.lc 1), (0x08, tabGet 0 x.ls 1), (0x09, tabGet 0 x.le 1), (0x0B, x.timeHi)],
        Writes (.mfs n d (BitVec.ofNat 12 p.1)) d p.2) ∧
      Retires (.mfs n d 0x0A) s n (hPut x { x with timeHi := s.time / 2 ^ 32 % 2 ^ 32 } d s.time) (pc + 4) ∧
      (∃ c, c < 2 ^ 32 ∧ Retires (.mfs n d 0x0C) s n (hPut x { x with cycles := c } d c) (pc + 4)) ∧
      (∀ h < 8, Writes (.mfs n d (BitVec.ofNat 12 (0x20 + 2 * h))) d (twos 40 (tabGet 0 x.acc h)) ∧
        Writes (.mfs n d (BitVec.ofNat 12 (0x21 + 2 * h))) d (twos 32 (sext 8 (twos 40 (tabGet 0 x.acc h) / 2 ^ 32))))) ∧
    (∀ u : Fin 64, let v := g u
      (∀ p ∈ [(0x00, { x with hsr := Nat.land v 0x80000007 + Nat.land x.hsr (2 ^ 30) + Nat.land (Nat.land x.hsr v) 0xFC0 }),
          (0x01, { x with ipc := v % 2 ^ 16 }), (0x02, { x with ihsr := v % 2 ^ 32 }), (0x03, { x with rrb := v % 32 }), (0x0A, x), (0x0B, x), (0x0C, x),
          (0x04, { x with lc := tabSet 0 x.lc 0 (v % 2 ^ 16) }), (0x05, { x with ls := tabSet 0 x.ls 0 (v % 2 ^ 16) }),
          (0x06, { x with le := tabSet 0 x.le 0 (v % 2 ^ 16) }), (0x07, { x with lc := tabSet 0 x.lc 1 (v % 2 ^ 16) }),
          (0x08, { x with ls := tabSet 0 x.ls 1 (v % 2 ^ 16) }), (0x09, { x with le := tabSet 0 x.le 1 (v % 2 ^ 16) })],
        atLoopEnd p.2 pc = false → Retires (.mts n u (BitVec.ofNat 12 p.1)) s n p.2 (pc + 4)) ∧
      ∀ h < 8, let old := twos 40 (tabGet 0 x.acc h)
        Retires (.mts n u (BitVec.ofNat 12 (0x20 + 2 * h))) s n { x with acc := tabSet 0 x.acc h (sext 40 (old / 2 ^ 32 * 2 ^ 32 + v % 2 ^ 32)) } (pc + 4) ∧
        Retires (.mts n u (BitVec.ofNat 12 (0x21 + 2 * h))) s n { x with acc := tabSet 0 x.acc h (sext 40 (v % 2 ^ 8 * 2 ^ 32 + old % 2 ^ 32)) } (pc + 4))

/-- Each accumulator half is summed in 40 bits: a sum out of range clamps and sets AOV with S = 1, wraps and sets AOV and AWRAP with S = 0, the halves
judged separately, and nothing traps (MAC2, CMAC, CMACJ, CMADD, CMADDJ, ASET, ACLR, ASHR). EXTR and the packed ADD16X2 and SUB16X2 round to nearest
with ties to even, and saturate or wrap a half that does not fit, with SOV; the 32-bit ALU operations never touch the flags. HIST counts four samples
against three thresholds into bytes that saturate or wrap with SOV. NORM gives the smaller redundant-sign count less 8. (R265, R267, R269) -/
def Obligations.HewerArithmetic : Prop :=
  (∀ (v : Int) (k : Nat), let q := shiftRound v k
    2 * |v - q * 2 ^ k| ≤ 2 ^ k ∧ (0 < k → 2 * |v - q * 2 ^ k| = 2 ^ k → q % 2 = 0)) ∧
  ∀ (n : Fin 18) (pc : Nat) (s : State), HewerAt s n pc →
    let x := s.hw n
    let g := fun (r : Fin 64) => hGet x r
    let re := fun (r : Fin 64) => sext 16 (g r)
    let im := fun (r : Fin 64) => sext 16 (g r / 2 ^ 16)
    let ac := fun (h : Nat) => tabGet 0 x.acc h
    let Leaves40 := fun (v : Int) => decide (v < -(2 ^ 39)) || decide (2 ^ 39 ≤ v)
    let Sum := fun (sat : Bool) (v : Int) =>
      if Leaves40 v = false then v else if sat then (if v < 0 then -(2 ^ 39) else 2 ^ 39 - 1) else (v + 2 ^ 39) % 2 ^ 40 - 2 ^ 39
    let Acc := fun (sat : Bool) (a : Fin 4) (r i : Int) =>
      let out := Leaves40 r || Leaves40 i
      hFlag (hFlag { x with acc := tabSet 0 (tabSet 0 x.acc (2 * a.val) (Sum sat r)) (2 * a.val + 1) (Sum sat i) } 6 out) 7 (out && !sat)
    let Leaves16 := fun (v : Int) => decide (v < -32768) || decide (32767 < v)
    let Half := fun (sat : Bool) (v : Int) =>
      if Leaves16 v = false then v else if sat then (if v < 0 then -32768 else 32767) else (v + 32768) % 65536 - 32768
    let Packs := fun (c : Instr) (sat : Bool) (d : Fin 64) (r i : Int) =>
      Retires c s n (hFlag (hPut x x d (twos 16 (Half sat r) + twos 16 (Half sat i) * 2 ^ 16)) 8 (Leaves16 r || Leaves16 i)) (pc + 4)
    (∀ (sat neg : Bool) (a : Fin 4) (u v w : Fin 64), let k : Int := if neg then -1 else 1
      Retires (.mac2 n sat a u v neg) s n (Acc sat a (ac (2 * a) + k * (re u * re v)) (ac (2 * a + 1) + k * (im u * im v))) (pc + 4) ∧
      Retires (.cmac n sat a u v neg) s n (Acc sat a (ac (2 * a) + k * (re u * re v - im u * im v)) (ac (2 * a + 1) + k * (re u * im v + im u * re v))) (pc + 4) ∧
      Retires (.cmacj n sat a u v neg) s n (Acc sat a (ac (2 * a) + k * (re u * re v + im u * im v)) (ac (2 * a + 1) + k * (re u * im v - im u * re v))) (pc + 4) ∧
      Retires (.cmadd n sat a u v w neg) s n (Acc sat a (re w * 2 ^ 15 + k * (re u * re v - im u * im v)) (im w * 2 ^ 15 + k * (re u * im v + im u * re v))) (pc + 4) ∧
      Retires (.cmaddj n sat a u v w neg) s n (Acc sat a (re w * 2 ^ 15 + k * (re u * re v + im u * im v)) (im w * 2 ^ 15 + k * (re u * im v - im u * re v))) (pc + 4) ∧
      Retires (.aset n a u) s n (Acc false a (re u * 2 ^ 15) (im u * 2 ^ 15)) (pc + 4) ∧
      Retires (.aclr n a) s n (Acc false a 0 0) (pc + 4)) ∧
    (∀ (sat : Bool) (a : Fin 4) (d : Fin 64) (sh : BitVec 6), let k := sext 6 sh.toNat
      Retires (.ashr n sat a sh) s n (Acc sat a (shiftRound (ac (2 * a)) k) (shiftRound (ac (2 * a + 1)) k)) (pc + 4) ∧
      Packs (.extr n sat d a sh) sat d (shiftRound (ac (2 * a)) (15 + k)) (shiftRound (ac (2 * a + 1)) (15 + k)) ∧
      Retires (.norm n d a) s n
        (hPut x x d (twos 32 ((min (rsb 40 (twos 40 (ac (2 * a)))) (rsb 40 (twos 40 (ac (2 * a + 1)))) : Nat) - (8 : Int)))) (pc + 4)) ∧
    (∀ (half sat : Bool) (d u v : Fin 64), let k : Int := if half then 1 else 0
      Packs (.add16x2 n half sat d u v) sat d (shiftRound (re u + re v) k) (shiftRound (im u + im v) k) ∧
      Packs (.sub16x2 n half sat d u v) sat d (shiftRound (re u - re v) k) (shiftRound (im u - im v) k)) ∧
    (∀ d u v : Fin 64, ∀ c ∈ [Instr.add n d u v, .sub n d u v, .and n d u v, .or n d u v, .xor n d u v, .shl n d u v, .shr n d u v, .sra n d u v,
        .min n d u v, .max n d u v], Completes c s fun t => (t.hw n).hsr = x.hsr ∧ t.rd (HW_STATUS_STATE n) = 1) ∧
    (∀ (sat : Bool) (d u v : Fin 64),
      let t8 := fun (j : Nat) => sext 8 (g v / 2 ^ (8 * j))
      let level := fun (y : Int) => if y < t8 0 then 0 else if y < t8 1 then 1 else if y < t8 2 then 2 else 3
      let count := fun (j : Nat) => g d / 2 ^ (8 * j) % 256 + ((List.range 4).filter fun i => level (sext 8 (g u / 2 ^ (8 * i))) == j).length
      let out := fun (j : Nat) => if count j ≤ 255 then count j else if sat then 255 else count j % 256
      Retires (.hist n sat d u v) s n (hFlag (hPut x x d (out 0 + out 1 * 2 ^ 8 + out 2 * 2 ^ 16 + out 3 * 2 ^ 24)) 8
        (decide (255 < count 0) || decide (255 < count 1) || decide (255 < count 2) || decide (255 < count 3))) (pc + 4))

/-- A load or store of data memory uses the address and leaves the pointer that R270, R271 and R280 give; a load of sound words gives their bytes (16 and
8 bits sign-extended, 64 bits in d and d + 1), of a poisoned word zero with PSN; a store writes exactly its bytes. A misaligned address traps
MISALIGNED, one outside the data map DATA_RANGE, an odd register of a 64-bit access ILLEGAL (a model reading, notes/assumptions/29.md). A face Hewer's
far-window store completes with NO_ACCESS, BERR and the bus status; a near-window store is posted. SETP, GETP and PADDI act on the pointers; a linear
pointer moves as computed, a circular one stays in its buffer. (R259, R260, R270, R271, R278, R279, R280, R281, 10_hewer_cores.md) -/
def Obligations.HewerMemory : Prop :=
  (∀ (x : HewerX) (p : Nat) (v : Int),
    (hM x p = 0 → hFold x p v = (twos 32 v, 0)) ∧
    (hM x p ≠ 0 → hK x p + hM x p ≤ 2 ^ 32 → hK x p ≤ (hFold x p v).1 ∧ (hFold x p v).1 < hK x p + hM x p ∧ (v - (hFold x p v).1) % (hM x p : Int) = 0)) ∧
  ∀ (n : Fin 18) (pc : Nat) (s : State), HewerAt s n pc →
    let x := s.hw n
    let g := fun (r : Nat) => hGet x r
    (∀ (d : Fin 64) (p : Fin 8) (upd : Fin 4) (off : BitVec 13),
      let at_ := fun (k : Nat) => hAddr x p upd (sext 13 off.toNat) k
      let a := fun (k : Nat) => (at_ k).1
      let y := fun (k : Nat) => hAfter x p (at_ k)
      let Reads := fun (k : Nat) => a k % k = 0 ∧ a k < 0x20000 ∧ s.tag 4 n (a k / 8) = some {}
      let bytes := fun (k : Nat) => leNat ((List.range k).map fun i => (s.byte 4 n (a k + i)).toNat)
      let Stores := fun (c : Instr) (k v : Nat) => a k % k = 0 → a k < 0x20000 → s.tag 4 n (a k / 8) = some {} →
        Completes c s fun t => t.hw n = { y k with cycles := ((y k).cycles + 1) % 2 ^ 32 } ∧ t.rd (HW_STATUS_PC n) = (pc + 4) % 2 ^ 16 ∧
          (∀ i < k, (t.byte 4 n (a k + i)).toNat = v / 2 ^ (8 * i) % 256) ∧
          BytesKept (fun r i b => r == 7 || (r == 4 && i == n.val && decide (a k ≤ b) && decide (b < a k + k))) s t
      (upd ≠ 3 → nbit x.resized p = false → a 4 = (hFold x p (hP x p + sext 13 off.toNat)).1) ∧ (upd = 3 → nbit x.resized p = false → a 4 = hP x p) ∧
      (Reads 4 → Retires (.ldw n d p upd off) s n (hPut x (y 4) d (bytes 4)) (pc + 4)) ∧
      (Reads 2 → Retires (.ldh n d p upd off) s n (hPut x (y 2) d (twos 32 (sext 16 (bytes 2)))) (pc + 4)) ∧
      (Reads 1 → Retires (.ldb n d p upd off) s n (hPut x (y 1) d (twos 32 (sext 8 (bytes 1)))) (pc + 4)) ∧
      (d.val % 2 = 0 → Reads 8 → Retires (.ldd n d p upd off) s n (hPut x (hPut x (y 8) d (bytes 8 % 2 ^ 32)) (d + 1) (bytes 8 / 2 ^ 32)) (pc + 4)) ∧
      (∀ tg : WordTag, a 4 % 4 = 0 → a 4 < 0x20000 → s.tag 4 n (a 4 / 8) = some tg → (eccOf 4 tg).1 = .ue → tg.poison = true →
        Retires (.ldw n d p upd off) s n (hPut x (hAfter (hFlag x 10 true) p (at_ 4)) d 0) (pc + 4)) ∧
      Stores (.stw n d p upd off) 4 (g d) ∧ Stores (.sth n d p upd off) 2 (g d) ∧ Stores (.stb n d p upd off) 1 (g d) ∧
      (d.val % 2 = 0 → g d < 2 ^ 32 → Stores (.std n d p upd off) 8 (g d + g (d + 1) * 2 ^ 32)) ∧
      (n.val < 16 →
        (∀ e ∈ [(4, Instr.ldw n d p upd off), (2, .ldh n d p upd off), (4, .stw n d p upd off), (2, .sth n d p upd off)], a e.1 % e.1 ≠ 0 → Traps e.2 s n 2) ∧
        (∀ e ∈ [(4, Instr.ldw n d p upd off), (2, .ldh n d p upd off), (1, .ldb n d p upd off), (4, .stw n d p upd off), (2, .sth n d p upd off),
          (1, .stb n d p upd off)], a e.1 % e.1 = 0 → hPlace n (a e.1) = none → Traps e.2 s n 3) ∧
        (∀ c ∈ [Instr.ldd n d p upd off, .std n d p upd off], (d.val % 2 = 1 → Traps c s n 1) ∧ (d.val % 2 = 0 → a 8 % 8 ≠ 0 → Traps c s n 2)) ∧
        (a 4 % 4 = 0 → 0x40000000 ≤ a 4 → a 4 < 0x48000000 → (domsOf (a 4 - 0x40000000)).isSome = true → Completes (.stw n d p upd off) s fun t =>
          nbit (t.hw n).hsr 11 = true ∧ t.rd (HW_BUS_STATUS_CODE n) = stNoAccess ∧ t.rd (HW_BUS_ADDR_ADDR n) = a 4 - 0x40000000) ∧
        (a 4 = 0x1C0014 → Reaches s (HW_MBOX_OUT n) → Completes (.stw n d p upd off) s fun t =>
          t.rd (HW_MBOX_OUT_DATA n) = g d % 2 ^ 32 ∧ (t.hw n).posted = x.posted ++ [(stOk, HW_MBOX_OUT n)]))) ∧
    (∀ sel u : Fin 64,
      (sel.val < 24 → Retires (.setp n sel u) s n
        { x with ptr := tabSet 0 x.ptr sel (g u), resized := nbitSet x.resized (sel.val % 8) (decide (8 ≤ sel.val)) } (pc + 4)) ∧
      (sel.val < 24 → Retires (.getp n u sel) s n (hPut x x u (tabGet 0 x.ptr sel)) (pc + 4)) ∧
      (24 ≤ sel.val → n.val < 16 → Traps (.setp n sel u) s n 1 ∧ Traps (.getp n u sel) s n 1)) ∧
    (∀ (p : Fin 8) (imm : BitVec 12), let r := hFold x p ((hP x p : Int) + sext 12 imm.toNat)
      Retires (.paddi n p imm) s n (hFlag { x with ptr := tabSet 0 x.ptr p r.1 } 9 (decide (1 < r.2))) (pc + 4))

/-- BR, CALL, JR and a BCC whose condition holds go to their target (offsets count words from the next instruction, a model reading,
notes/assumptions/29.md), a BCC that does not hold goes on; CALL leaves the return address in X31. LOOP and LOOPR set LCn, LSn and LEn and enter the
body, or skip it with a count of 0; above 65,535 or on an active loop they trap LOOP. At LEn an iteration ends: with LCn above 1 execution returns to
LSn, with 1 it falls through; a LOOPR loop lowers RRB, so Wn is read as W(n+1). A branch at LEn traps LOOP. An interrupt saves PC and HSR, clears IE,
sets INT and takes the vector; RETI restores, sticky bits kept. WAIT waits unless a source is pending; EI and DI set and clear IE; SYNC completes
posted writes; TRAP and BKPT trap with their causes. (R272, R273, R276, R277, R278, R281, 10_hewer_cores.md) -/
def Obligations.HewerControl : Prop :=
  ∀ (n : Fin 18) (pc : Nat) (s : State), let x := s.hw n
    (HewerAt s n pc →
      let target := fun (off : Int) => twos 16 ((pc : Int) + 4 + 4 * off) / 4 * 4
      (∀ off : BitVec 24, Retires (.br n off) s n x (target (sext 24 off.toNat)) ∧
        Retires (.call n off) s n { x with x := tabSet 0 x.x 31 ((pc + 4) % 2 ^ 16) } (target (sext 24 off.toNat))) ∧
      (∀ (c : Fin 16) (off : BitVec 20),
        (∀ b, (c.val, b) ∈ [(0, nbit x.hsr 2), (1, !nbit x.hsr 2), (2, nbit x.hsr 1), (3, !nbit x.hsr 1), (4, nbit x.hsr 0), (5, !nbit x.hsr 0)] →
          Retires (.bcc n c off) s n x (if b then target (sext 20 off.toNat) else pc + 4)) ∧
        (6 ≤ c.val → n.val < 16 → Traps (.bcc n c off) s n 1)) ∧
      (∀ u : Fin 64, Retires (.jr n u) s n x (hGet x u % 2 ^ 16 / 4 * 4)) ∧
      (∀ (l : Fin 2) (u : Fin 64) (off : BitVec 16) (rot : Bool),
        let c := if rot then Instr.loopr n l u off else .loop n l u off
        let ls := (pc + 4) % 2 ^ 16
        let le := (pc + 4 + 4 * off.toNat) % 2 ^ 16
        (hGet x u ≤ 65535 → tabGet 0 x.lc l = 0 → tabGet 0 x.lc (1 - l.val) = 0 → Retires c s n
          { x with lc := tabSet 0 x.lc l (hGet x u), ls := tabSet 0 x.ls l ls, le := tabSet 0 x.le l le, rot := tabSet false x.rot l rot }
          (if hGet x u = 0 then le + 4 else ls)) ∧
        (n.val < 16 → 65535 < hGet x u ∨ tabGet 0 x.lc l ≠ 0 → Traps c s n 9)) ∧
      Retires (.reti n) s n { x with hsr := Nat.land x.ihsr 0xC0000007 + Nat.land (Nat.lor x.hsr x.ihsr) 0xFC0 } (x.ipc / 4 * 4) ∧
      Retires (.nop n) s n x (pc + 4) ∧
      Retires (.ei n) s n { x with hsr := nbitSet x.hsr 31 true } (pc + 4) ∧ Retires (.di n) s n { x with hsr := nbitSet x.hsr 31 false } (pc + 4) ∧
      (Nat.land (s.rd (HW_IRQ_PEND n)) (s.rd (HW_IRQ_MASK n)) ≠ 0 → Retires (.wait n) s n x (pc + 4)) ∧
      (Nat.land (s.rd (HW_IRQ_PEND n)) (s.rd (HW_IRQ_MASK n)) = 0 → Completes (.wait n) s fun t =>
        t.hw n = { x with cycles := (x.cycles + 1) % 2 ^ 32 } ∧ t.rd (HW_STATUS_STATE n) = 2 ∧ t.rd (HW_STATUS_PC n) = (pc + 4) % 2 ^ 16) ∧
      (Completes (.sync n) s fun t => (t.hw n).posted = [] ∧ t.rd (HW_STATUS_PC n) = (pc + 4) % 2 ^ 16 ∧
        nbit (t.hw n).hsr 11 = (nbit x.hsr 11 || x.posted.any fun e => e.1 != stOk)) ∧
      (n.val < 16 → Traps (.trap n) s n 6 ∧ Traps (.bkpt n) s n 7 ∧ ∀ d i, 0x0C < i → i < 0x20 ∨ 0x30 ≤ i → i < 2 ^ 12 →
        Traps (.mfs n d (BitVec.ofNat 12 i)) s n 1 ∧ Traps (.mts n d (BitVec.ofNat 12 i)) s n 1)) ∧
    (hewerMay s n = true → s.rd (HW_STATUS_PC n) = pc → loopEndsAt x 0 pc = true → loopEndsAt x 1 pc = false →
      Retires (.nop n) s n
        { x with lc := tabSet 0 x.lc 0 (tabGet 0 x.lc 0 - 1), rrb := if tabGet false x.rot 0 then (x.rrb + 31) % 32 else x.rrb }
        (if 1 < tabGet 0 x.lc 0 then tabGet 0 x.ls 0 else pc + 4) ∧
      (n.val < 16 → ∀ c ∈ [Instr.br n 5, .call n 5, .reti n, .jr n 1, .loop n 1 1 5, .loopr n 1 1 5, .bcc n 0 5], Traps c s n 9)) ∧
    (∀ (y : HewerX) (r : Nat), r < 31 → y.rrb < 32 → hGet { y with rrb := (y.rrb + 31) % 32 } (33 + r) = hGet y (32 + r)) ∧
    (hewerMay s n = true → nbit x.hsr 31 = true → ∀ i < 8, nbit (s.rd (HW_IRQ_PEND n)) i = true → nbit (s.rd (HW_IRQ_MASK n)) i = true →
      (∀ j < i, (nbit (s.rd (HW_IRQ_PEND n)) j && nbit (s.rd (HW_IRQ_MASK n)) j) = false) → Completes (.interruptEntry n) s fun t =>
        t.hw n = { x with ipc := s.rd (HW_STATUS_PC n), ihsr := x.hsr, hsr := nbitSet (nbitSet x.hsr 31 false) 30 true } ∧
        t.rd (HW_STATUS_PC n) = 0x40 + 16 * i ∧ t.rd (HW_IRQ_PEND n) = s.rd (HW_IRQ_PEND n))

/-- RUN starts a HALTED face Hewer and halts one that runs or waits; a write to HW_CTRL of H16 or H17 answers NO_ACCESS. RESET clears the registers and
the pending sources and keeps the memories. STEP executes one instruction while HALTED. A mailbox write raises source 2, the timer source 1, half the
watchdog period source 0, its full period the trap WATCHDOG; KICK restarts it. A posted write's status sets BERR when it is not OK. Program memory
takes a write only while the Hewer is HALTED or TRAPPED, else BUSY. An overlay start shows START; its end clears it, raises source 7 and fails for a
range outside memory. Firmware's ACK is a posted write that sets ACK. H16 is reset after its trap. (R258, R260, R276, R277, R284, R285, R286,
10_hewer_cores.md) -/
def Obligations.HewerBlocks : Prop :=
  ∀ (n : Fin 18) (s : State), let x := s.hw n
    (n.val < 16 → Reaches s (HW_CTRL n) →
      (s.rd (HW_STATUS_STATE n) = 3 → Completes (.hewerRun n true) s fun t => t.busStatus = stOk ∧ t.on (HW_CTRL_RUN n) = true ∧ t.rd (HW_STATUS_STATE n) = 1) ∧
      (s.rd (HW_STATUS_STATE n) = 4 → Completes (.hewerRun n true) s fun t => t.busStatus = stOk ∧ t.rd (HW_STATUS_STATE n) = 4) ∧
      (s.rd (HW_STATUS_STATE n) = 1 ∨ s.rd (HW_STATUS_STATE n) = 2 → Completes (.hewerRun n false) s fun t =>
        t.on (HW_CTRL_RUN n) = false ∧ t.rd (HW_STATUS_STATE n) = 3 ∧ t.hw n = x) ∧
      (Completes (.hewerReset n) s fun t => t.hw n = { latches := x.latches, fails := x.fails, snapSel := x.snapSel } ∧ t.rd (HW_IRQ_PEND n) = 0 ∧
        t.rd (HW_STATUS_PC n) = 0 ∧ t.rd (HW_STATUS_STATE n) = (if s.on (HW_CTRL_RUN n) then 1 else 3) ∧ BytesKept inStore s t) ∧
      (s.rd (HW_STATUS_STATE n) = 3 → s.on (HW_CTRL_RUN n) = false → s.on (HW_CTRL_STEP n) = false →
        ovlCovers s n (s.rd (HW_STATUS_PC n)) = false → atLoopEnd x (s.rd (HW_STATUS_PC n)) = false → s.rd (HW_STATUS_PC n) % 4 = 0 →
        s.tag 3 n (s.rd (HW_STATUS_PC n) / 8) = some {} →
        HInstr.decode (leNat ((List.range 4).map fun i => (s.byte 3 n (s.rd (HW_STATUS_PC n) + i)).toNat)) = some .nop →
        pairBit (leNat ((List.range 4).map fun i => (s.byte 3 n (s.rd (HW_STATUS_PC n) + i)).toNat)) = false →
        Completes (.hewerStep n) s fun t => t.rd (HW_STATUS_PC n) = (s.rd (HW_STATUS_PC n) + 4) % 2 ^ 16 ∧ t.rd (HW_STATUS_STATE n) = 3 ∧
          t.hw n = { x with cycles := (x.cycles + 1) % 2 ^ 32 } ∧ t.on (HW_CTRL_STEP n) = false)) ∧
    (16 ≤ n.val → s.alive = true → ∀ c ∈ [Instr.hewerRun n true, .hewerRun n false, .hewerReset n, .hewerStep n], Completes c s fun t =>
      t.busStatus = stNoAccess ∧ RegsKept (fun _ => false) s t ∧ t.hw n = x) ∧
    (∀ v : Word, Reaches s (HW_MBOX_IN n) → Completes (.hwMboxIn n v) s fun t => t.busStatus = stOk ∧ t.rd (HW_MBOX_IN_DATA n) = v.toNat % 2 ^ 28 ∧
      t.rd (HW_MBOX_IN_LANE n) = s.rd (HW_MBOX_IN_LANE n) ∧ nbit (t.rd (HW_IRQ_PEND n)) 2 = true) ∧
    (Reaches s (HW_WDOG n) → n.val < 16 ∨ s.rd (HW_WDOG_PERIOD n) ≠ 0 → Completes (.kick n) s fun t => t.busStatus = stOk ∧ (t.hw n).warned = false ∧
      t.rd (HW_WDOG_PERIOD n) = s.rd (HW_WDOG_PERIOD n)) ∧
    (s.alive = true →
      (s.rd (HW_STATUS_STATE n) ≠ 0 → s.reg (HW_TIMER n) ≠ 0 → Completes (.hwTimer n) s fun t => nbit (t.rd (HW_IRQ_PEND n)) 1 = true ∧
        (s.rd (HW_STATUS_STATE n) = 2 → nbit (s.rd (HW_IRQ_MASK n)) 1 = true → t.rd (HW_STATUS_STATE n) = 1)) ∧
      (hewerRuns s n = true → s.rd (HW_WDOG_PERIOD n) ≠ 0 →
        (x.warned = false → Completes (.watchdogWarning n) s fun t => nbit (t.rd (HW_IRQ_PEND n)) 0 = true ∧ (t.hw n).warned = true) ∧
        (n.val < 16 → Traps (.watchdog n) s n 5)) ∧
      (∀ st dev r, x.posted = (st, dev) :: r →
        (st = stOk → Completes (.postedWriteStatus n) s fun t => t.hw n = { x with posted := r } ∧ RegsKept (fun _ => false) s t) ∧
        (st ≠ stOk → st < 256 → dev < 2 ^ 32 → Completes (.postedWriteStatus n) s fun t => (t.hw n).posted = r ∧ nbit (t.hw n).hsr 11 = true ∧
          t.rd (HW_BUS_STATUS_CODE n) = st ∧ t.rd (HW_BUS_ADDR_ADDR n) = dev)) ∧
      (s.on (HW_OVL_CTRL_START n) = true → s.on (HW_CTRL_STEP n) = false → Completes (.overlayDone n) s fun t =>
        t.on (HW_OVL_CTRL_START n) = false ∧ nbit (t.rd (HW_IRQ_PEND n)) 7 = true ∧
        ((if s.on (HW_OVL_DST_MEM n) then 0x20000 else 0x10000) < s.rd (HW_OVL_DST_OFFSET n) + s.rd (HW_OVL_CTRL_LEN n) → t.rd (HW_OVL_CTRL_STATUS n) = 2) ∧
        (s.on (HW_OVL_CTRL_DIR n) = true → s.on (HW_OVL_DST_MEM n) = false → t.rd (HW_OVL_CTRL_STATUS n) = 2)) ∧
      (s.rd (HW_STATUS_STATE 16) = 4 → Completes .h16Restart s fun t => t.rd (HW_STATUS_STATE 16) = (if s.on (HW_CTRL_RUN 16) then 1 else 3) ∧
        t.rd (HW_STATUS_PC 16) = 0 ∧ (t.hw 16).x = [] ∧ (t.hw 16).hsr = 0 ∧ t.rd (HW_IRQ_PEND 16) = 0)) ∧
    (∀ (w : Fin 16384) (v : Word), Reaches s (0x4000000 + n.val * 0x100000 + 4 * w.val) →
      (s.rd (HW_STATUS_STATE n) = 3 ∨ s.rd (HW_STATUS_STATE n) = 4 → s.tag 3 n (w.val / 2) = some {} → Completes (.programMemoryWrite n w v) s fun t =>
        t.busStatus = stOk ∧ (∀ i < 4, (t.byte 3 n (4 * w.val + i)).toNat = v.toNat / 2 ^ (8 * i) % 256) ∧
        BytesKept (fun a i b => a == 7 || (a == 3 && i == n.val && decide (4 * w.val ≤ b) && decide (b < 4 * w.val + 4))) s t) ∧
      (s.rd (HW_STATUS_STATE n) ≠ 3 → s.rd (HW_STATUS_STATE n) ≠ 4 → Completes (.programMemoryWrite n w v) s fun t =>
        t.busStatus = stBusy ∧ BytesKept (fun _ _ _ => false) s t)) ∧
    (∀ (out : Bool) (len : BitVec 17), Reaches s (HW_OVL_CTRL n) → s.on (HW_OVL_CTRL_START n) = false → ddrTestMask s = 0 →
      (len.toNat % 4 = 0 → Completes (.overlayStart n out len) s fun t => t.busStatus = stOk ∧ t.on (HW_OVL_CTRL_START n) = true ∧
        t.on (HW_OVL_CTRL_DIR n) = out ∧ t.rd (HW_OVL_CTRL_LEN n) = len.toNat ∧ t.rd (HW_OVL_CTRL_STATUS n) = 0) ∧
      (len.toNat % 4 ≠ 0 → Completes (.overlayStart n out len) s fun t => t.busStatus = stRange ∧ RegsKept (fun _ => false) s t)) ∧
    (∀ f : Fin 16, f.val = n.val → hewerMay s f = true → Reaches s (HW_ADAPT f) → Completes (.ack f) s fun t =>
      t.on (HW_ADAPT_ACK f) = true ∧ t.on (HW_ADAPT_HOLD f) = s.on (HW_ADAPT_HOLD f) ∧ (t.hw f).posted = x.posted ++ [(stOk, HW_ADAPT f)])

/-- A face Hewer's arithmetic, special-register, pointer and control instructions (traps included), and every Hewer's arithmetic and pointer instructions,
leave every register outside the Hewer's own control block, its sample status and the records of events and counts as it was, every byte outside
Tally's store, every other Hewer, and flash, OTP, the plan, operations, time and the queue. So do the interrupt, timer, warning, kick, run, reset,
mailbox and posted-status commands of every Hewer. (R261, R274, R276, R278, R281, R286, 10_hewer_cores.md) -/
def Obligations.HewerFrame : Prop :=
  ∀ (n m : Fin 18) (sat neg : Bool) (a : Fin 4) (d u v : Fin 64) (i12 : BitVec 12) (i18 : BitVec 18) (sh : BitVec 6) (p : Fin 8) (off : BitVec 24)
    (c : Fin 16) (l : Fin 2) (w : Word) (s t : State), m ≠ n →
    let Keeps := fun (x : Instr) => exec x s = .next t →
      WordsKept (fun r => inHewer n r || r == HS_STATUS n || countReg r) s t ∧ BytesKept inStore s t ∧ RestKept s t ∧ t.hw m = s.hw m
    (∀ x ∈ [Instr.add n d u v, .sub n d u v, .and n d u v, .or n d u v, .xor n d u v, .shl n d u v, .shr n d u v, .sra n d u v, .min n d u v, .max n d u v,
        .add16x2 n neg sat d u v, .sub16x2 n neg sat d u v, .conj n d u, .swaph n d u, .addi n d u i12, .movi n d i18, .movhi n d i18, .cmp n u v,
        .exp n d u, .expm n d u v, .hist n sat d u v, .mac2 n sat a u v neg, .cmac n sat a u v neg, .cmacj n sat a u v neg, .cmadd n sat a u v d neg,
        .cmaddj n sat a u v d neg, .aset n a u, .aclr n a, .ashr n sat a sh, .extr n sat d a sh, .norm n d a, .paddi n p i12, .nop n, .wait n, .ei n,
        .di n, .sync n, .postedWriteStatus n, .interruptEntry n, .hwTimer n, .watchdogWarning n, .kick n, .hewerRun n sat, .hewerReset n, .hwMboxIn n w],
      Keeps x) ∧
    (n.val < 16 → ∀ x ∈ [Instr.mfs n d i12, .mts n u i12, .setp n d u, .getp n d u, .br n off, .bcc n c (off.setWidth 20), .call n off, .jr n u,
        .loop n l u (off.setWidth 16), .loopr n l u (off.setWidth 16), .reti n, .trap n, .bkpt n, .watchdog n], Keeps x)

/-- Every Hewer instruction, with every register, selector, immediate, offset and option at every value its format holds (a 64-bit access naming an even
register), encodes into 32 bits that decode to it, and bit 24 is its pair bit. (R280, R281, 10_hewer_cores.md) -/
def Obligations.HewerEncodingRoundTrip : Prop :=
  ∀ (i : HInstr) (pair : Bool),
    (∀ d p upd off, i = .load .d d p upd off ∨ i = .store .d d p upd off → d.val % 2 = 0) →
    i.encode pair < 2 ^ 32 ∧ HInstr.decode (i.encode pair) = some i ∧ pairBit (i.encode pair) = pair

/-- A rate that finds no link is followed by the next lower one, after the lowest by RATE_CAP; a link shows LINK and RATE; its loss or RESTART starts
again at RATE_CAP and sessions stay; a PAUSE frame sets PAUSED until it ends. ARP, neighbour solicitation and echo for an own address are answered,
everything else is dropped and counted MALFORMED. An Announce of the first or of a better master chooses it and starts LOCKING; its first Sync, or the
third offset in a row above 1 us, steps device time and counts in STEPS; other Syncs set OFFSET and leave device time; a two-step Sync waits for its
Follow_Up; Delay_Resp sets the path delay to the mean of both directions; no Announce in time gives HOLDOVER, ten seconds near the master LOCKED. The
comparison of masters as one vector is the model's (NOTES.md). (R288, R289, R290, R291, R292, R293, 11_control_ports_zcp.md) -/
def Obligations.ControlPortsAndTime : Prop :=
  ∀ (n : Fin 2) (s : State), portAlive s n = true →
    let try_ := tabGet 0 s.cpTry n.val
    let Sends := fun (c : Instr) (op : Nat) (ws : List Word) => Completes c s fun t =>
      (∃ a fl, t.tx = s.tx ++ a ++ [{ port := n.val, session := 0, seq := 0, ver := 0, op := op, flags := 1, status := 0, words := ws, flip := fl }] ∧
        ∀ m ∈ a, m.flags = 2) ∧ WordsKept countReg s t
    let Drops := fun (c : Instr) => Completes c s fun t => t.rd (CP_ERRS_MALFORMED n) = min 255 (s.rd (CP_ERRS_MALFORMED n) + 1) ∧
      (∃ a, t.tx = s.tx ++ a ∧ ∀ m ∈ a, m.flags = 2) ∧ t.time = s.time ∧ t.ptp = s.ptp ∧ WordsKept (fun a => a == CP_ERRS n || countReg a) s t
    let macWords := [BitVec.ofNat 32 (portMac s n), BitVec.ofNat 32 (portMac s n / 2 ^ 32)]
    (try_ ≠ 0 → s.on (CP_STATUS_LINK n) = false →
      (Completes (.controlPortRateTry n) s fun t => WordsKept (fun _ => false) s t ∧
        tabGet 0 t.cpTry n.val = if 4 ≤ try_ then s.rd (CP_CTRL_RATE_CAP n) + 1 else try_ + 1) ∧
      (try_ ≤ 4 → Completes (.controlPortLinkUp n) s fun t => t.on (CP_STATUS_LINK n) = true ∧ t.rd (CP_STATUS_RATE n) = try_ - 1 ∧
        tabGet 0 t.cpTry n.val = 0)) ∧
    (s.on (CP_STATUS_LINK n) = true →
      (Completes (.controlPortLinkLoss n) s fun t => t.on (CP_STATUS_LINK n) = false ∧ t.rd (CP_STATUS_RATE n) = 7 ∧ t.sessions = s.sessions ∧
        tabGet 0 t.cpTry n.val = s.rd (CP_CTRL_RATE_CAP n) + 1) ∧
      (∀ q : BitVec 16, Completes (.pause n q) s fun t => t.on (CP_STATUS_PAUSED n) = (q != 0) ∧ WordsKept (fun a => a == CP_STATUS n) s t)) ∧
    (Completes (.pauseEnd n) s fun t => t.on (CP_STATUS_PAUSED n) = false ∧ t.on (CP_STATUS_LINK n) = s.on (CP_STATUS_LINK n)) ∧
    (Reaches s (CP_CTRL n) →
      (Completes (.cpRestart n) s fun t => t.busStatus = stOk ∧ t.on (CP_STATUS_LINK n) = false ∧ t.sessions = s.sessions ∧
        tabGet 0 t.cpTry n.val = s.rd (CP_CTRL_RATE_CAP n) + 1) ∧
      (Completes (.cpErrsClear n) s fun t => t.busStatus = stOk ∧ t.reg (CP_ERRS n) = 0 ∧ t.rd (CP_CTRL_RATE_CAP n) = s.rd (CP_CTRL_RATE_CAP n))) ∧
    (s.plan = none → ∀ a, ownAddr s n false a = false ∧ (ownAddr s n true a = true ↔ a = linkLocal s n)) ∧
    (∀ (a4 : BitVec 32) (a6 : BitVec 128) (data : List Word),
      (ownAddr s n false a4.toNat = true → Sends (.arp n a4) 0x100 (macWords ++ [a4])) ∧ (ownAddr s n false a4.toNat = false → Drops (.arp n a4)) ∧
      (ownAddr s n true a6.toNat = true → Sends (.icmpEcho n true a6 data) 0x102 data ∧ Sends (.neighbourSolicitation n a6) 0x101
        (macWords ++ (List.range 4).map fun j => BitVec.ofNat 32 (a6.toNat / 2 ^ (32 * j)))) ∧
      (ownAddr s n true a6.toNat = false → Drops (.icmpEcho n true a6 data) ∧ Drops (.neighbourSolicitation n a6)) ∧ Drops (.malformed n)) ∧
    (∀ (domain : BitVec 8) (id : BitVec 80), let p := s.ptp
      (ptpTakes s n domain = false → ∀ two o, Drops (.ptpSync n domain id two o)) ∧
      (ptpTakes s n domain = true → fromMaster s n id = true →
        (∀ (arrived : Nat) (origin : BitVec 64), let offset : Int := (arrived : Int) - origin.toNat - p.delay
          let Measures := fun (c : Instr) =>
            (p.fresh = false → offset.natAbs ≤ 1000 ∨ p.big < 2 → Completes c s fun t => t.rd TIME_STATUS_OFFSET = twos 16 (clampI (-32767) 32767 offset) ∧
              t.time = s.time ∧ t.rd TIME_STATUS_STATE = s.rd TIME_STATUS_STATE ∧ t.ptp.near = decide (offset.natAbs ≤ 100) ∧
              t.ptp.big = (if 1000 < offset.natAbs then p.big + 1 else 0)) ∧
            (p.fresh = true ∨ (1000 < offset.natAbs ∧ 2 ≤ p.big) → Completes c s fun t => (t.time : Int) = ((s.time : Int) - offset) % 2 ^ 64 ∧
              t.rd TIME_STATUS_STEPS = (s.rd TIME_STATUS_STEPS + 1) % 256 ∧ t.ptp.fresh = false ∧ t.ptp.big = 0 ∧
              (p.fresh = true → t.rd TIME_STATUS_STATE = 1))
          (arrived = s.time → Measures (.ptpSync n domain id false origin)) ∧ (p.arrival = some arrived → Measures (.ptpFollowUp n domain id origin))) ∧
        (∀ o, Completes (.ptpSync n domain id true o) s fun t => t.ptp = { p with arrival := some s.time } ∧ t.time = s.time) ∧
        (∀ raw sent received, p.raw = some raw → Completes (.ptpDelayResp n domain id sent received) s fun t =>
          t.ptp = { p with delay := (raw + ((received.toNat : Int) - sent.toNat)) / 2 } ∧ t.time = s.time)) ∧
      (ptpTakes s n domain = true → ∀ rank : BitVec 176, let m : PtpMaster := { port := n.val, id := id.toNat, rank := rank.toNat }
        (p.heard = [] → p.master = none → Completes (.ptpAnnounce n domain id rank) s fun t => t.ptp.master = some m ∧ t.ptp.fresh = true ∧
          t.rd TIME_STATUS_PORT = n ∧ t.rd TIME_STATUS_STATE = if s.rd TIME_STATUS_STATE = 0 then 0 else 1) ∧
        (∀ b, p.heard = [b] → p.master = some b → b.port ≠ n.val ∨ b.id ≠ id.toNat → Completes (.ptpAnnounce n domain id rank) s fun t =>
          t.ptp.master = (if rank.toNat < b.rank then some m else some b) ∧ t.ptp.heard = [b, m]))) ∧
    (∀ m, s.ptp.master = some m → Completes .ptpAnnounceTimeout s fun t => t.rd TIME_STATUS_STATE = 3 ∧ t.ptp.master = none) ∧
    (s.rd TIME_STATUS_STATE = 1 → s.ptp.near = true → s.ptp.master.isSome = true → Completes .timeLocked s fun t => t.rd TIME_STATUS_STATE = 2 ∧ t.time = s.time)

/-- HELLO opens a session with the newest common version (at most 32; AUTH_FAIL without a device identity, BAD_VERSION without a common version), its keys
those that R301 derives; AUTH with a verified key gives its privilege, otherwise the session ends; a repeated SEQUENCE gets the kept reply and
executes nothing. READ and WRITE and the blocks reach a register and answer its word or status, with NO_ACCESS below the privilege and RANGE for a
count out of range; a target that does not answer gives TIMEOUT. The read of a LO word latches its HI word, a read of SNAP_HI moves SNAP_SEL on by
eight. SNAP marks time, counts GEN and copies the counters of every domain that is on, and is BUSY until the mark has spread. TALLY_FREEZE and
TALLY_THAW set and clear FROZEN, the freeze limit clears it. A silent session ends and its streams close. (R298, R300, R302, R305, R308, R309, R323,
R328, R427, R431, R432, 11_control_ports_zcp.md) -/
def Obligations.SessionsAndRequests : Prop :=
  ∀ (r : Req) (x : Session) (n : Fin 18) (v : Word) (s : State), let a : BitVec 32 := BitVec.ofNat 32 (HW_MBOX_OUT n)
    (∀ (p : Fin 2) (id : BitVec 64) (lo hi : BitVec 8 × BitVec 8) (nonce eph : List (BitVec 8)), nonce.length = 32 → eph.length = 97 → portAlive s p = true → id ≠ 0 → s.session id.toNat = none →
      let Hello := fun (P : State → Prop) => Completes (.hello p id lo.1 lo.2 hi.1 hi.2 nonce eph) s P
      let least := 256 * lo.1.toNat + lo.2.toNat
      let most := 256 * hi.1.toNat + hi.2.toNat
      (s.on VAULT_STATUS_IDENT_OK = true → s.on FUSE_STATUS_MFG_MODE = false →
        (least ≤ 769 → 769 ≤ most → s.sessions.length < 32 → Hello fun t => t.sessions.length = s.sessions.length + 1 ∧
          (∃ y, t.session id.toNat = some y ∧ y.port = p.val ∧ y.ver = 769 ∧ y.authed = false ∧ y.high = 0 ∧
            ∃ dev k, let h : HelloIn := { lo := least, hi := most, nonce := nonce.map BitVec.toNat, eph := eph.map BitVec.toNat }
              y.keyIn = (sessionKeys h dev k).take 32 ∧ y.keyOut = ((sessionKeys h dev k).drop 32).take 32) ∧
          ∃ m ∈ t.tx, m.session = id.toNat ∧ m.op = 1 ∧ m.flags = 1 ∧ m.status = stOk ∧ m.ver = 769) ∧
        (least ≤ 769 → 769 ≤ most → 32 ≤ s.sessions.length → Hello fun t => t.sessions.length = s.sessions.length ∧ ∃ m ∈ t.tx, m.op = 1 ∧ m.status = stBusy) ∧
        (most < 512 ∨ 769 < least → Hello fun t => t.sessions.length = s.sessions.length ∧ ∃ m ∈ t.tx, m.op = 1 ∧ m.status = stBadVersion)) ∧
      (s.on VAULT_STATUS_IDENT_OK = false → Hello fun t => t.sessions.length = s.sessions.length ∧ ∃ m ∈ t.tx, m.op = 1 ∧ m.status = stAuthFail)) ∧
    (∀ (pub : List (BitVec 8)) (sig : ClientSig), authWellFormed pub sig = true → portAlive s r.port.val = true → s.session r.session.toNat = some x → x.port = r.port.val →
      tagOk x r 2 (payAuth pub sig) = true → (∀ m ∈ x.cache, m.seq ≠ r.seq.toNat) → r.seq ∉ r.executing → r.executing.length < 16 → x.high < r.seq.toNat →
      256 * r.major.toNat + r.minor.toNat = x.ver → x.authed = false →
        (∀ k, clientSigOk x (pub.map BitVec.toNat) sig = true → keyPriv s (sha384 (pub.map BitVec.toNat)) = some k → Completes (.auth r pub sig) s fun t =>
          (∃ y, t.session r.session.toNat = some y ∧ y.authed = true ∧ y.priv = k) ∧ Answered s t r 2 stOk [BitVec.ofNat 32 k]) ∧
        (clientSigOk x (pub.map BitVec.toNat) sig = false ∨ keyPriv s (sha384 (pub.map BitVec.toNat)) = none → Completes (.auth r pub sig) s fun t =>
          t.session r.session.toNat = none ∧ Answered s t r 2 stAuthFail [])) ∧
    (portAlive s r.port.val = true → s.session r.session.toNat = some x → x.port = r.port.val → tagOk x r 0x11 (payWrite a v) = true →
      ∀ m, x.cache.find? (fun m => m.seq == r.seq.toNat) = some m → Completes (.write r a v) s fun t => 
        (∃ a fl, t.tx = s.tx ++ a ++ [{ m with flip := fl }] ∧ ∀ m ∈ a, m.flags = 2) ∧ WordsKept countReg s t) ∧
    (Reaches s (HW_MBOX_OUT n) →
      (Accepted s r x 0x10 (payRead a) 0 .v2 → Completes (.read r a) s fun t => Answered s t r 0x10 stOk [s.reg (HW_MBOX_OUT n)]) ∧
      (Accepted s r x 0x11 (payWrite a v) 0 .v2 →
        (1 ≤ x.priv → Completes (.write r a v) s fun t => Answered s t r 0x11 stOk [] ∧ t.reg (HW_MBOX_OUT n) = v) ∧
        (x.priv = 0 → Completes (.write r a v) s fun t => Answered s t r 0x11 stNoAccess [] ∧ t.reg (HW_MBOX_OUT n) = s.reg (HW_MBOX_OUT n)) ∧
        (1 ≤ x.priv → ∀ landed, Completes (.accessTimeout r a (some v) landed) s fun t => Answered s t r 0x11 stTimeout [] ∧
          t.reg (HW_MBOX_OUT n) = if landed then v else s.reg (HW_MBOX_OUT n))) ∧
      (Accepted s r x 0x12 (payReadBlock a 1) 0 .v2 → Completes (.readBlock r a 1) s fun t => Answered s t r 0x12 stOk [1, s.reg (HW_MBOX_OUT n)]) ∧
      (∀ c : BitVec 16, c = 0 ∨ 256 < c.toNat → Accepted s r x 0x12 (payReadBlock a c.toNat) 0 .v2 → Completes (.readBlock r a c) s fun t =>
        Answered s t r 0x12 stRange [0]) ∧
      (Accepted s r x 0x13 (payWriteBlock a [v]) 0 .v2 → 1 ≤ x.priv → Completes (.writeBlock r a [v]) s fun t =>
        Answered s t r 0x13 stOk [1] ∧ t.reg (HW_MBOX_OUT n) = v) ∧
      (Accepted s r x 0x13 (payWriteBlock a []) 0 .v2 → Completes (.writeBlock r a []) s fun t => Answered s t r 0x13 stRange [0]) ∧
      (Completes (.registerWrite a v) s fun t => t.busStatus = stOk ∧ t.reg (HW_MBOX_OUT n) = v ∧ RegsKept (fun b => b == HW_MBOX_OUT n) s t)) ∧
    (s.alive = true → ∀ b : BitVec 32, b.toNat % 4 ≠ 0 → Completes (.registerWrite b v) s fun t => t.busStatus = stRange ∧ RegsKept (fun _ => false) s t) ∧
    (s.alive = true → ∀ (id : BitVec 64), s.session id.toNat = some x →
      (∀ q : Fin 128, domStatus s (HOST_CW q) = (stOk, 0) → Completes (.counterLoRead id (BitVec.ofNat 32 (HOST_CW q))) s fun t => t.busStatus = stOk ∧
        ∃ y, t.session id.toNat = some y ∧ ⟨HOST_CW q, BitVec.ofNat 32 (s.ctr (HOST_CW q) / 2 ^ 32)⟩ ∈ y.latches) ∧
      (domStatus s SNAP_HI = (stOk, 0) → Completes (.snapHiRead id) s fun t => ∃ y, t.session id.toNat = some y ∧ y.snapSel = (x.snapSel + 8) % 2 ^ 32) ∧
      (Completes (.sessionTimeout id) s fun t => t.session id.toNat = none ∧
        ∀ i < 32, s.on (STREAM_STATUS_OPEN i) = true → (s.stream i).session = id.toNat → t.on (STREAM_STATUS_OPEN i) = false)) ∧
    (Accepted s r x 0x30 [] 0 .v2 →
      (s.on SNAP_STATUS_BUSY = false → Completes (.snap r) s fun t => Answered s t r 0x30 stOk [BitVec.ofNat 32 s.time, BitVec.ofNat 32 (s.time / 2 ^ 32)] ∧
        t.on SNAP_STATUS_BUSY = true ∧ t.rd SNAP_STATUS_GEN = (s.rd SNAP_STATUS_GEN + 1) % 256 ∧ t.rd MARK_TIME_LO_TIME = s.time % 2 ^ 32 ∧
        ∀ b, countReg b = false → tabWf (fun _ => 0) s.ctrs = true → ((domsOf b).any fun d => pdomOn s d.1) = true → tabGet 0 t.shadows b = s.ctr b) ∧
      (s.on SNAP_STATUS_BUSY = true → Completes (.snap r) s fun t => Answered s t r 0x30 stBusy [] ∧ t.rd SNAP_STATUS_GEN = s.rd SNAP_STATUS_GEN)) ∧
    (s.alive = true → (Completes .snapDone s fun t => t.on SNAP_STATUS_BUSY = false) ∧
      (s.on TALLY_STATUS_FROZEN = true → s.rd TALLY_CTRL_FREEZE_MAX ≠ 0 → Completes .freezeTimeout s fun t => t.on TALLY_STATUS_FROZEN = false)) ∧
    (Accepted s r x 0x31 [] 1 .v2 → s.on TALLY_STATUS_FROZEN = false → Completes (.tallyFreeze r) s fun t =>
      Answered s t r 0x31 stOk [] ∧ t.on TALLY_STATUS_FROZEN = true) ∧
    (Accepted s r x 0x32 [] 1 .v2 → s.on TALLY_STATUS_FROZEN = true → Completes (.tallyThaw r) s fun t =>
      Answered s t r 0x32 stOk [] ∧ t.on TALLY_STATUS_FROZEN = false)

/-- A tick shows the estimate and floor of the chip and of each present face in eighths of a watt. A waiting Integrity item is marked once. A reading in
−40.0 to +150.0 °C of a working sensor becomes its VALUE; at THROTTLE it throttles its scope and at ALERT it sets ALERT, and once every sensor of the
scope is below THROTTLE − HYST the throttle ends; a reading outside fails the sensor with cause 1. A declared failure keeps its cause, and VALUE
becomes the substitute where a valid reading exists. A throttle action stops Observation first, then Integrity; a release takes back the last action
of the account unless it is a lane's. A rail command that waits fails to confirm on a NAK, a mode other than ULINEAR16 or a reading more than 15 mV
off: RAIL_ERR takes its bit and the last confirmed voltage stays; otherwise the commanded voltage is the confirmed one and the bit falls. A failed
rail is commanded again. An ageing monitor that reads 0 is declared failed; another reading shows in FREQ and BELOW, and one below the guard raises
source 6 of H17 and, where the POWER record lets ageing act, AGE_MARGIN of its rail by 5 mV. An unconfirmed adaptation hold logs and changes nothing
else. (R283, R347, R349, R350, R351, R353, R355, R356, R357, R358, R380, R455) -/
def Obligations.ForemanRows : Prop :=
  ∀ s : State, s.alive = true →
    (s.plan.isSome = true → hewerRuns s 17 = true →
      (s.chipTo = 0 → Completes .schedulerTick s fun t => t.ticks = (s.ticks + 1) % 10 ∧
        t.rd FM_CHIP_PWR_EST = min 0xFFFF (eighths (chipPower t false)) ∧ t.rd FM_CHIP_PWR_FLOOR = min 0xFFFF (eighths (chipPower t true)) ∧
        ∀ f < 16, facePresent s f = true → t.rd (FM_FACE_PWR_EST f) = min 0xFFF (eighths (facePower t f false)) ∧
          t.rd (FM_FACE_PWR_FLOOR f) = min 0xFFF (eighths (facePower t f true))) ∧
      ∀ scope : Fin 17,
        (s.on (throttleF scope) = true → (s.shed true scope).acts.contains .obs = false → Completes (.throttleAction scope) s fun t =>
          (t.shed true scope).acts = (s.shed true scope).acts ++ [.obs]) ∧
        (s.on (throttleF scope) = true → (s.shed true scope).acts.contains .obs = true → (s.shed true scope).acts.contains .integ = false →
          Completes (.throttleAction scope) s fun t => (t.shed true scope).acts = (s.shed true scope).acts ++ [.integ]) ∧
        (s.on (throttleF scope) = false → ∀ l a, (s.shed true scope).acts = l ++ [a] → a.step ≠ 3 →
          Completes (.throttleRelease scope) s fun t => (t.shed true scope).acts = l)) ∧
    (∀ (f : Fin 16) (tx : Bool) (d : Fin 9), Completes (.integrityWait f tx d) s fun t =>
      (t.assayQ = s.assayQ.map fun x =>
        if x.f = f.val ∧ x.dir = bit tx ∧ x.dp = d.val ∧ x.running = false then { x with logged := true } else x) ∧ WordsKept eventReg s t) ∧
    (∀ (n : Fin 34), (n.val < 32 → facePresent s (n / 2) = true) → s.on (TS_FAILED n) = false →
      let scope := if n.val < 32 then n.val / 2 else 16
      (∀ v : Int, -320 ≤ v → v ≤ 1200 → Completes (.sensorConversion n v) s fun t => t.rd (TS_VALUE n) = twos 16 v ∧
        (s.plan.isSome = true →
          (sext 16 (s.rd TS_THROTTLE_THROTTLE) ≤ v → t.on (throttleF scope) = true) ∧
          (sext 16 (s.rd TS_THROTTLE_ALERT) ≤ v → t.on TS_STATUS_ALERT = true) ∧
          (v < sext 16 (s.rd TS_THROTTLE_THROTTLE) - (s.rd TS_HYST_HYST : Int) →
            (∀ m ∈ scopeSensors scope, m ≠ n.val → s.on (TS_FAILED m) = false ∧
              sensorVal s m < sext 16 (s.rd TS_THROTTLE_THROTTLE) - (s.rd TS_HYST_HYST : Int)) → t.on (throttleF scope) = false))) ∧
      (∀ v : Int, v < -320 ∨ 1200 < v → Completes (.sensorConversion n v) s fun t => t.on (TS_FAILED n) = true ∧ t.rd (TS_FAIL_CAUSE n) = 1) ∧
      ∀ cause : Fin 3, Completes (.sensorFailure n cause) s fun t => t.on (TS_FAILED n) = true ∧ t.rd (TS_FAIL_CAUSE n) = cause.val + 1 ∧
        ∀ v, tsSubstitute (s.wr (TS_FAILED n) 1) n = some v → t.rd (TS_VALUE n) = twos 16 v) ∧
    (∀ c : Fin 8, (s.rail c).waits = true → ∀ (nak ulinear : Bool) (raw : BitVec 12),
      let off : Int := ((madcCode s raw.toNat * 1200 : Nat) : Int) - (((s.rail c).cmd * 4096 : Nat) : Int)
      ((nak = true ∨ ulinear = false ∨ 15 * 4096 < off.natAbs) → Completes (.railConfirm c nak ulinear raw) s fun t =>
        (t.rail c).failed = true ∧ (t.rail c).confirmed = (s.rail c).confirmed ∧ nbit (t.rd BOARD_STATUS_RAIL_ERR) c = true) ∧
      (nak = false → ulinear = true → off.natAbs ≤ 15 * 4096 → Completes (.railConfirm c nak ulinear raw) s fun t =>
        (t.rail c).failed = false ∧ (t.rail c).confirmed = (s.rail c).cmd ∧ nbit (t.rd BOARD_STATUS_RAIL_ERR) c = false)) ∧
    (∀ c : Fin 8, (s.rail c).failed = true → (s.rail c).waits = false → Completes (.railRetry c) s fun t =>
      (t.rail c).waits = true ∧ t.rd (railVoltF c) = (s.rail c).cmd % 2 ^ (railVoltF c).width ∧ RegsKept (fun a => a == (railVoltF c).addr) s t) ∧
    (hewerRuns s 16 = true → ∀ n : Fin 48, s.on (AGE_MON_FAILED n) = false → ∀ (freq : BitVec 20) (below : Bool),
      (freq = 0 → Completes (.ageingMeasurement n freq below) s fun t => t.on (AGE_MON_FAILED n) = true ∧ t.rd (AGE_MON_FREQ n) = 0) ∧
      (freq ≠ 0 → Completes (.ageingMeasurement n freq below) s fun t =>
        t.rd (AGE_MON_FREQ n) = freq.toNat ∧ t.on (AGE_MON_BELOW n) = below ∧ t.on (AGE_MON_FAILED n) = false ∧
        (below = true → nbit (t.rd (HW_IRQ_PEND 17)) 6 = true ∧
          (nbit (recField ((s.planRecs 4).headD []) 12 1) 0 = true →
            t.rd (railMarginF (monitorRail n)) = min 255 (s.rd (railMarginF (monitorRail n)) + 5))))) ∧
    ∀ f : Fin 16, s.on (HW_ADAPT_HOLD f) = true → s.on (HW_ADAPT_ACK f) = false →
      Completes (.adaptAckTimeout f) s fun t => WordsKept eventReg s t

/-- A direct conversion of channel 0 to 111 starts with VALID cleared; one above is RANGE. A conversion ends the direct one first, with its channel and
corrected code, and otherwise serves the running sequence: one sample more of its entry, or the entry's mean in MADC_RESULT and the next entry, or the
end of the pass. Self-calibration answers BUSY while a face is in DUPLEX or ramps, and otherwise clears CAL_DONE; its end stores gain and offset. A
pass starts at entry 0. (R363, R364, R365, R366, R367, R368, 14_survey_calibration.md) -/
def Obligations.MonitorAdc : Prop :=
  ∀ s : State, s.alive = true →
    (Reaches s MADC_CHSEL → ∀ ch : BitVec 7,
      (ch.toNat ≤ 111 → Completes (.madcDirect ch) s fun t => t.busStatus = stOk ∧ t.rd MADC_CHSEL_CH = ch.toNat ∧ t.on MADC_CHSEL_START = true ∧
        (s.on MADC_CHSEL_START = false → t.on MADC_DATA_VALID = false)) ∧
      (111 < ch.toNat → Completes (.madcDirect ch) s fun t => t.busStatus = stRange ∧ RegsKept (fun _ => false) s t)) ∧
    (Reaches s MADC_CTRL →
      ((∃ f < 16, facePresent s f = true ∧ optState s f = 5) → Completes .selfcal s fun t => t.busStatus = stBusy ∧ RegsKept (fun _ => false) s t) ∧
      ((∀ f < 16, facePresent s f = true → optState s f ≠ 5 ∧ (optState s f = 4 → s.on (OPT_STATUS_TRANSIT f) = false)) →
        Completes .selfcal s fun t => t.busStatus = stOk ∧ t.on MADC_CTRL_SELFCAL = true ∧
          (s.on MADC_CTRL_SELFCAL = false → t.on MADC_STATUS_CAL_DONE = false))) ∧
    (s.on MADC_STATUS_CAL_DONE = false → ∀ gain offset : BitVec 16, Completes (.selfcalDone gain offset) s fun t =>
      t.rd MADC_GAIN_GAIN = gain.toNat ∧ t.rd MADC_OFFSET_OFFSET = offset.toNat ∧ t.on MADC_STATUS_CAL_DONE = true ∧ t.on MADC_CTRL_SELFCAL = false ∧
        RegsKept (fun a => a == MADC_GAIN || a == MADC_OFFSET || a == MADC_STATUS || a == MADC_CTRL) s t) ∧
    (s.on MADC_STATUS_CAL_DONE = true → ∀ raw : BitVec 12,
      (s.on MADC_CHSEL_START = true → Completes (.madcConversion raw) s fun t => t.on MADC_DATA_VALID = true ∧
        t.rd MADC_DATA_CH = s.rd MADC_CHSEL_CH ∧ t.rd MADC_DATA_CODE = madcChannelCode s (s.rd MADC_CHSEL_CH) raw.toNat ∧
        t.on MADC_CHSEL_START = false ∧ RegsKept (fun a => a == MADC_DATA || a == MADC_CHSEL) s t) ∧
      (s.on MADC_CHSEL_START = false → s.on MADC_STATUS_SEQ_ACTIVE = true →
        let n := s.rd MADC_STATUS_ENTRY
        let avg := s.rd (MADC_SEQ_ENTRY0_AVG n)
        let sum := s.madcAcc.2 + madcChannelCode s (s.rd (MADC_SEQ_ENTRY0_CH n)) raw.toNat
        (s.madcAcc.1 + 1 < 2 ^ avg → Completes (.madcConversion raw) s fun t => t.madcAcc = (s.madcAcc.1 + 1, sum) ∧ RegsKept (fun _ => false) s t) ∧
        (2 ^ avg ≤ s.madcAcc.1 + 1 → sum ≤ 4095 * 2 ^ avg → hewerRuns s 16 = true → s.seqPending = false → Completes (.madcConversion raw) s fun t =>
          t.rd (MADC_RESULT_CODE n) = (roundDiv (sum : Int) (2 ^ avg)).toNat ∧ t.rd (MADC_RESULT_PASS n) = s.rd MADC_STATUS_PASSES ∧ t.madcAcc = (0, 0) ∧
          (n + 1 < s.seqLen → n < 255 → t.rd MADC_STATUS_ENTRY = n + 1 ∧ t.on MADC_STATUS_SEQ_ACTIVE = true) ∧
          (s.seqLen ≤ n + 1 → t.on MADC_STATUS_SEQ_ACTIVE = false ∧ t.rd MADC_STATUS_PASSES = (s.rd MADC_STATUS_PASSES + 1) % 256)))) ∧
    (s.on MADC_CTRL_SEQ_RUN = true → hewerRuns s 16 = true → s.on MADC_STATUS_CAL_DONE = true → s.on MADC_STATUS_SEQ_ACTIVE = false → s.seqLen ≠ 0 →
      Completes .madcSequencePass s fun t => t.on MADC_STATUS_SEQ_ACTIVE = true ∧ t.rd MADC_STATUS_ENTRY = 0 ∧ t.madcAcc = (0, 0) ∧
        RegsKept (fun a => a == MADC_STATUS) s t)

/-- A measurement of the slice in progress is noted; a second that agrees is accepted and its hand-back begins, one that disagrees asks for a third, and a
third that agrees with neither rejects the run. A handover that passes puts the stand-in in place, one that fails ends the run with RESULT 3 and holds
the lane; a hand-back that passes ends the stand-in, one that fails measures again and the second time seals the slice. After the hold the lane is
queued. A FACE_PLL run drops PLL_LOCK and ends with RESULT 1 or 6. A set takes words while it is not valid and no item runs, its header at any time
but then; otherwise BUSY. The hand-back is stated where Survey's items name what exists (StateNamesWhatExists). (R83, R371, R373, R374, R376, R377,
R378, R379, 14_survey_calibration.md) -/
def Obligations.SurveyRuns : Prop :=
  ∀ (f : Fin 16) (p : Fin 9) (s : State), s.alive = true →
    (∀ x, hewerRuns s 16 = true → s.on (LANE_ACQ_STATUS_LOCKED f p) = true → calItem s f p = some x →
      (∀ off gain skew bw : Int, s.rd (CAL_STATUS_STATE f p) = 2 → (s.lane f p).handover = none →
        let a := appliedSlice s f p x.slice
        let v := mergeKind x.kind { offset := a.offset + off, gain := a.gain + gain, skew := a.skew + skew, bw := a.bw + bw } a
        (x.meas = [] → Completes (.sliceMeasurement f p off gain skew bw) s fun t => calItem t f p = some { x with meas := [v] }) ∧
        (∀ m, x.meas = [m] → measAgree m v = true → outOfRange (measMean m v) = false → x.slice < 64 → noStandIn s f p = false →
          Completes (.sliceMeasurement f p off gain skew bw) s fun t => t.rd (CAL_STATUS_STATE f p) = 3 ∧ (t.lane f p).handover = some (x.slice, true)) ∧
        (∀ m, x.meas = [m] → measAgree m v = false → Completes (.sliceMeasurement f p off gain skew bw) s fun t =>
          calItem t f p = some { x with meas := [m, v] } ∧ t.rd SURVEY_STATUS_THIRD_RUNS = min 255 (s.rd SURVEY_STATUS_THIRD_RUNS + 1)) ∧
        (∀ m m', x.meas = [m, m'] → measPair m m' v = none → Completes (.sliceMeasurement f p off gain skew bw) s fun t =>
          calItem t f p = none ∧ t.rd (CAL_STATUS_RESULT f p) = 2 ∧ t.on (LANE_SLICE_STAND_IN f p) = false)) ∧
      (∀ sl mean rms, (s.lane f p).handover = some (sl, false) →
        (handoverPasses mean rms = true → Completes (.handoverCompareDone f p mean rms) s fun t => (t.lane f p).handover = none ∧
          t.on (LANE_SLICE_STAND_IN f p) = true ∧ t.rd (LANE_SLICE_RELIEF_FOR f p) = sl % 64) ∧
        (handoverPasses mean rms = false → Completes (.handoverCompareDone f p mean rms) s fun t => t.rd (CAL_STATUS_RESULT f p) = 3 ∧
          (t.lane f p).calHold = true ∧ (t.lane f p).handFails = (s.lane f p).handFails + 1 ∧ t.on (LANE_SLICE_STAND_IN f p) = false)) ∧
      (∀ sl mean rms, NamesWf s → (s.lane f p).handover = some (sl, true) →
        (handoverPasses mean rms = true → Completes (.handoverCompareDone f p mean rms) s fun t => t.on (LANE_SLICE_STAND_IN f p) = false) ∧
        (handoverPasses mean rms = false → x.retry = false → Completes (.handoverCompareDone f p mean rms) s fun t =>
          calItem t f p = some { x with retry := true, meas := [] } ∧ t.rd (CAL_STATUS_STATE f p) = 2) ∧
        (handoverPasses mean rms = false → x.retry = true → Completes (.handoverCompareDone f p mean rms) s fun t =>
          t.on (LANE_SLICE_REPLACED f p) = true ∧ (s.on (LANE_SLICE_REPLACED f p) = true → t.on (LANE_SLICE_FAILING f p) = true)))) ∧
    ((s.lane f p).calHold = true → calBusy s f p = false → Completes (.calRequeue f p) s fun t => (t.lane f p).calHold = false ∧
      calBusy t f p = true ∧ t.rd (CAL_STATUS_STATE f p) = 1 ∧ RegsKept (fun a => a == CAL_STATUS f p) s t) ∧
    (facePresent s f = true → optState s f = 3 →
      (∀ x, pllItem s f = some x → x.started = false → s.on (OPT_STATUS_TRANSIT f) = false → Completes (.facePll f) s fun t =>
        t.on (OPT_STATUS_PLL_LOCK f) = false ∧ t.rd (CAL_STATUS_STATE f 0) = 2) ∧
      (s.on (OPT_STATUS_PLL_LOCK f) = false → s.on (OPT_STATUS_TRANSIT f) = false → 3 ≤ effTarget s f → Completes (.facePllDone f) s fun t =>
        t.on (OPT_STATUS_PLL_LOCK f) = true ∧ ∀ x, pllItem s f = some x → x.started = true → t.rd (CAL_STATUS_RESULT f 0) = 1 ∧ pllItem t f = none) ∧
      (s.on (OPT_STATUS_PLL_LOCK f) = false → ∀ x, pllItem s f = some x → x.started = true → Completes (.facePllTimeout f) s fun t =>
        t.rd (CAL_STATUS_RESULT f 0) = 6 ∧ pllItem t f = none ∧ RegsKept (fun a => a == CAL_STATUS f 0) s t)) ∧
    ∀ (i : Fin 5) (w : Fin 131) (v : Word), let q : Fin 144 := ⟨9 * f.val + p.val, by omega⟩
      Reaches s (setAddr q i w) →
        ((calItem s f p).isSome = true ∨ (w.val < 130 ∧ s.on (SET_HDR_VALID q i) = true) →
          Completes (.surveySetWrite q i w v) s fun t => t.busStatus = stBusy ∧ t.bytes = s.bytes) ∧
        (calItem s f p = none → w.val < 130 → s.on (SET_HDR_VALID q i) = false →
          (∀ g, s.tag 9 0 ((q.val * 0x1400 + i.val * 0x400 + 4 * w.val) / 8) = some g → (eccOf 9 g).1 ≠ .ue) →
          Completes (.surveySetWrite q i w v) s fun t => t.busStatus = stOk ∧
            t.getBytes 9 0 (q.val * 0x1400 + i.val * 0x400 + 4 * w.val) 4 = leBytes 4 v.toNat) ∧
        (calItem s f p = none → w.val = 130 → Completes (.surveySetWrite q i w v) s fun t => t.busStatus = stOk ∧
          t.on (SET_HDR_VALID q i) = nbit v.toNat 31 ∧ t.rd (SET_HDR_TEMP q i) = v.toNat / 2 ^ 16 % 2 ^ 12)

/-- The interval queues the face's next target, unless an item is outstanding. SHADOW ends in MATCH, a match in SWITCH, and the switch gives the lane the
relief datapath, makes the old one the relief and counts; a match that fails abandons with cause 10. RETRY_S over, the face's items may run. A BIST
slice whose MISR is the signature in force at its start goes on to the next, the last one passes the datapath; one that does not is run once more, and
then the datapath is sealed with no relief left. A flip is armed, disarmed, or BUSY while armed; CLEAR of a region clears COUNT; CLEAR of Tally
empties the store from HEAD_SEQ on; a complete block is archived and a block outside the archive is RANGE; a counter at 2^48 − 1 wraps with its bit; a
window shows both counts; RESTART empties the samples. (R382, R384, R385, R387, R389, R392, R403, R413, R424, R425, R430, R433) -/
def Obligations.AssayMemoryAndTallyRows : Prop :=
  ∀ s : State, s.alive = true →
    (∀ f : Fin 16,
      (facePresent s f = true → nbit (faceRelief s f) 1 = true → s.on ASSAY_CTRL_EN = true →
        ((∃ y ∈ s.assayQ, y.f = f.val) → Completes (.assayQueue f) s fun t => t.assayQ = s.assayQ) ∧
        ((∀ y ∈ s.assayQ, y.f ≠ f.val) → reliefDp s f (s.face f).assayDir ≠ 15 →
          ∀ d, assayTarget (s.setFace f { s.face f with assaySkip := if ((s.face f).assayTurn + 1) % 18 = 0 then [] else (s.face f).assaySkip })
            f (s.face f).assayDir = some d →
          Completes (.assayQueue f) s fun t => (t.face f).assayDir = 1 - (s.face f).assayDir ∧
            ∃ y ∈ t.assayQ, y.f = f.val ∧ y.dir = (s.face f).assayDir ∧ y.dp = d ∧ y.queued = s.mono ∧ y.op = 0 ∧ y.running = false)) ∧
      (s.rd (AS_FACE_STATUS_PHASE f) = 2 → Completes (.rotationShadowEnd f) s fun t => t.rd (AS_FACE_STATUS_PHASE f) = 3 ∧
        t.rd (AS_FACE_STATUS_MATCHED f) = 0 ∧ RegsKept (fun a => a == AS_FACE_STATUS f) s t) ∧
      (s.rd (AS_FACE_STATUS_PHASE f) = 3 →
        (Completes (.rotationMatch f) s fun t => t.rd (AS_FACE_STATUS_PHASE f) = 4 ∧ t.rd (AS_FACE_STATUS_MATCHED f) = 0x400 ∧
          RegsKept (fun a => a == AS_FACE_STATUS f) s t) ∧
        (Completes (.matchTimeout f) s fun t => t.rd (AS_FACE_STATUS_PHASE f) = 0 ∧ t.rd (AS_FACE_LAST_CAUSE f) = 10 ∧
          t.rd (AS_FACE_COUNTS_ABANDONS f) = min 255 (s.rd (AS_FACE_COUNTS_ABANDONS f) + 1) ∧
          ∀ x, assayItem s f = some x → x.matchFails = 2 → t.rd (AS_FACE_COUNTS_MATCH_FAILS f) = min 255 (s.rd (AS_FACE_COUNTS_MATCH_FAILS f) + 1))) ∧
      (s.rd (AS_FACE_STATUS_PHASE f) = 4 → s.rd (AS_FACE_STATUS_LANE f) < 9 → s.rd (AS_FACE_STATUS_DP f) < 9 →
        Completes (.rotationSwitch f) s fun t => t.rd (AS_FACE_STATUS_PHASE f) = 0 ∧
          t.rd (AS_FACE_COUNTS_ROTATIONS f) = (s.rd (AS_FACE_COUNTS_ROTATIONS f) + 1) % 256 ∧
          (s.rd (AS_FACE_STATUS_DIR f) = 0 → laneDp t f (s.rd (AS_FACE_STATUS_LANE f)) = s.rd (AS_FACE_STATUS_DP f) ∧
            t.rd (RELIEF_STATE_RELIEF_DP f) = laneDp s f (s.rd (AS_FACE_STATUS_LANE f))) ∧
          (s.rd (AS_FACE_STATUS_DIR f) = 1 → txLaneDp t f (s.rd (AS_FACE_STATUS_LANE f)) = s.rd (AS_FACE_STATUS_DP f) ∧
            t.rd (LANE_MAP_TX_AUX_TX_RELIEF f) = txLaneDp s f (s.rd (AS_FACE_STATUS_LANE f)))) ∧
      (Completes (.assayRetry f) s fun t => t.regs = s.regs ∧
        t.assayQ = s.assayQ.map fun x => if x.f = f.val then { x with held := false } else x) ∧
      (∀ x (misr : BitVec 64), s.rd (AS_FACE_STATUS_PHASE f) = 5 → assayItem s f = some x → s.rd (AS_FACE_STATUS_DP f) < 9 →
        let d := s.rd (AS_FACE_STATUS_DP f)
        let j := s.rd (AS_FACE_STATUS_SLICE f)
        (x.sig = misr.toNat → j < 7 → Completes (.bistSliceDone f misr) s fun t => t.rd (AS_FACE_STATUS_PHASE f) = 0 ∧
          { x with running := false, slice := j + 1, queued := s.mono } ∈ t.assayQ) ∧
        (x.sig = misr.toNat → j = 7 → Completes (.bistSliceDone f misr) s fun t => t.rd (AS_FACE_STATUS_PHASE f) = 0 ∧
          t.rd (if x.dir = 0 then AS_RX_DP_RESULT f d else AS_TX_DP_RESULT f d) = 1 ∧
          t.rd (AS_FACE_COUNTS_BIST_PASSES f) = (s.rd (AS_FACE_COUNTS_BIST_PASSES f) + 1) % 256) ∧
        (x.sig ≠ misr.toNat → s.rd (AS_FACE_STATUS_RETEST f) = 0 → Completes (.bistSliceDone f misr) s fun t =>
          t.rd (AS_FACE_STATUS_RETEST f) = 1 ∧ t.rd (AS_FACE_STATUS_PHASE f) = 5 ∧ RegsKept (fun a => a == AS_FACE_STATUS f) s t) ∧
        (x.sig ≠ misr.toNat → s.rd (AS_FACE_STATUS_RETEST f) = 1 → Completes (.bistSliceDone f misr) s fun t =>
          t.rd (AS_FACE_STATUS_PHASE f) = 0 ∧
          (x.dir = 0 → nbit (t.rd (RELIEF_STATE_DP_SEALED f)) d = true ∧ t.rd (RELIEF_STATE_RELIEF_DP f) = 15 ∧ t.rd (AS_RX_DP_RESULT f d) = 2 ∧
            t.rd (AS_RX_DP_FAIL_SLICE f d) = j) ∧
          (x.dir = 1 → nbit (t.rd (LANE_MAP_TX_AUX_TX_SEALED f)) d = true ∧ t.rd (LANE_MAP_TX_AUX_TX_RELIEF f) = 15 ∧
            t.rd (AS_TX_DP_RESULT f d) = 2 ∧ t.rd (AS_TX_DP_FAIL_SLICE f d) = j)))) ∧
    (∀ v : Word, Reaches s MEM_FLIP_CTRL →
      (s.on MEM_FLIP_CTRL_ARM = false → memArrayOk (v.toNat / 2 ^ 16 % 256) = true → Completes (.memFlip v) s fun t => t.busStatus = stOk ∧
        t.on MEM_FLIP_CTRL_ARM = nbit v.toNat 31 ∧ t.rd MEM_FLIP_CTRL_MODE = v.toNat / 2 ^ 30 % 2 ∧ t.rd MEM_FLIP_CTRL_ARRAY = v.toNat / 2 ^ 16 % 256 ∧
        t.rd MEM_FLIP_CTRL_INDEX = v.toNat / 2 ^ 8 % 256 ∧ t.rd MEM_FLIP_CTRL_CHECK = v.toNat % 256 ∧ RegsKept (fun a => a == MEM_FLIP_CTRL) s t) ∧
      (s.on MEM_FLIP_CTRL_ARM = false → memArrayOk (v.toNat / 2 ^ 16 % 256) = false → Completes (.memFlip v) s fun t => t.busStatus = stRange ∧
        RegsKept (fun _ => false) s t) ∧
      (s.on MEM_FLIP_CTRL_ARM = true → nbit v.toNat 31 = true → Completes (.memFlip v) s fun t => t.busStatus = stBusy ∧ RegsKept (fun _ => false) s t) ∧
      (s.on MEM_FLIP_CTRL_ARM = true → nbit v.toNat 31 = false → Completes (.memFlip v) s fun t => t.busStatus = stOk ∧
        t.on MEM_FLIP_CTRL_ARM = false ∧ RegsKept (fun a => a == MEM_FLIP_CTRL) s t)) ∧
    (∀ n : Fin 256, Reaches s (MEM_REGION0 n) → Completes (.regionClear n) s fun t => t.busStatus = stOk ∧ t.rd (MEM_REGION1_COUNT n) = 0 ∧
      t.rd (MEM_REGION1_THRESHOLD n) = s.rd (MEM_REGION1_THRESHOLD n) ∧ RegsKept (fun a => a == MEM_REGION1 n) s t) ∧
    (Reaches s TALLY_CTRL → (s.on TALLY_CTRL_POLICY = true → archKeeps s ≠ 0) → Completes .tallyClear s fun t => t.busStatus = stOk ∧
      t.rd BASE_SEQ_SEQ = s.rd HEAD_SEQ_SEQ ∧ t.rd HEAD_SEQ_SEQ = s.rd HEAD_SEQ_SEQ ∧ t.on TALLY_STATUS_FULL = false ∧
      t.on TALLY_STATUS_FROZEN = s.on TALLY_STATUS_FROZEN ∧ (∀ w < 2 ^ 40, t.tag 7 0 w = none) ∧ ∀ b < 2 ^ 40, t.byte 7 0 b = 0) ∧
    ((s.on TALLY_CTRL_POLICY = true → (s.archNext + 1) * 256 ≤ s.rd HEAD_SEQ_SEQ → archKeeps s ≠ 0 → Completes .tallyArchiveCopy s fun t =>
        t.archNext = s.archNext + 1 ∧ t.rd ARCH_NEWEST_BLOCK = s.archNext % 2 ^ 24 ∧ ∃ ws, (s.archNext, ws) ∈ t.archive ∧ ws.length = 2048) ∧
      (s.rd HEAD_SEQ_SEQ < (s.archNext + 1) * 256 → exec .tallyArchiveCopy s = .next s)) ∧
    (∀ v : Word, Reaches s TALLY_ARCH_SEL →
      (s.archive ≠ [] → s.rd ARCH_OLDEST_BLOCK ≤ v.toNat % 2 ^ 24 → v.toNat % 2 ^ 24 ≤ s.rd ARCH_NEWEST_BLOCK → Completes (.tallyArchSel v) s fun t =>
        t.busStatus = stOk ∧ t.rd TALLY_ARCH_SEL_BLOCK = v.toNat % 2 ^ 24) ∧
      (s.archive = [] ∨ v.toNat % 2 ^ 24 < s.rd ARCH_OLDEST_BLOCK ∨ s.rd ARCH_NEWEST_BLOCK < v.toNat % 2 ^ 24 → Completes (.tallyArchSel v) s fun t =>
        t.busStatus = stRange ∧ RegsKept (fun _ => false) s t)) ∧
    (∀ (b : Fin 73) (i : Fin 8), s.on (PC_CFG_EN b i) = true → s.ctr (PC_COUNT b i) = 2 ^ 48 - 1 → Completes (.pcOvf b i) s fun t =>
      t.ctr (PC_COUNT b i) = 0 ∧ nbit (t.rd (PC_OVF_OVF b)) i = true) ∧
    (∀ (n : Fin 128) (h2l l2h : Word), s.on (BW_CTRL_EN n) = true → s.on (PORT_CFG_VALID n) = true → s.rd (PORT_CFG_TYPE n) % 4 ≠ 0 →
      Completes (.bwWindow n h2l l2h) s fun t => t.reg (BW_H2L n) = h2l ∧ t.reg (BW_L2H n) = l2h ∧
        t.rd (BW_SEQ_WINDOWS n) = (s.rd (BW_SEQ_WINDOWS n) + 1) % 256 ∧ RegsKept (fun a => a == BW_H2L n || a == BW_L2H n || a == BW_SEQ n) s t) ∧
    ∀ n : Fin 18, Reaches s (HS_CTRL n) → s.rd (HS_CTRL_PERIOD n) ≠ 0 → Completes (.hsRestart n) s fun t => t.busStatus = stOk ∧
      t.on (HS_STATUS_FULL n) = false ∧ t.rd (HS_STATUS_COUNT n) = 0 ∧ t.rd (HS_CTRL_PERIOD n) = s.rd (HS_CTRL_PERIOD n) ∧
      t.on (HS_CTRL_EN n) = s.on (HS_CTRL_EN n) ∧ tabGet [] t.hsBuf n = []

/-- From every state, a command of the control ports, of a session other than its register accesses, an OP_START, SNAP, freeze or thaw leaves every
register and counter outside Tally, SNAP, the control ports, the capture unit and the records of counts as it was, every byte outside Tally's store,
and flash, OTP, the plan and the queue. From every state whose Survey items name what exists (StateNamesWhatExists), a command of the sensors, the
monitor ADC, Survey or a rotation leaves the host lanes, Tally's settings, the control ports, the taps and every byte outside arrays 0x05, 0x06, 0x07,
0x09 and DDR4 (the Survey mirror) as they were, with flash, OTP, the plan, time and the queue. (R293, R298, R305, R311, R353, R363, R373, R384, R391,
11_control_ports_zcp.md, 13_foreman_power_thermal.md, 14_survey_calibration.md) -/
def Obligations.ControlAndCareFrame : Prop :=
  (∀ (r : Req) (k : Fin 2) (a b : BitVec 8) (h : BitVec 16) (i : BitVec 64) (i80 : BitVec 80) (rank : BitVec 176) (a4 : BitVec 32) (a6 : BitVec 128)
      (d : BitVec 384) (ws : List Word) (pub nonce eph : List (BitVec 8)) (sig : ClientSig) (v : Bool) (s t : State),
    ∀ c ∈ [Instr.controlPortRateTry k, .controlPortLinkUp k, .controlPortLinkLoss k, .pause k h, .pauseEnd k, .arp k a4, .neighbourSolicitation k a6,
        .icmpEcho k v a6 ws, .malformed k, .ptpSync k a i80 v i, .ptpFollowUp k a i80 i, .ptpDelayResp k a i80 i i, .ptpAnnounce k a i80 rank,
        .ptpAnnounceTimeout, .timeLocked, .hello k i a b a b nonce eph, .auth r pub sig, .sessionTimeout i, .snap r, .snapDone, .snapHiRead i, .counterLoRead i a4,
        .tallyFreeze r, .tallyThaw r, .freezeTimeout, .captureArm r a, .streamOpen r a b v h, .streamClose r a, .opSuspend r h, .opResume r h,
        .opStatus r h, .handleExpiry h, .planLoad r a, .faceReplan r a b, .flashWrite r a v, .planFloorBurn r a, .limitsBurn r, .keyWrite r a d,
        .keyRevoke r a, .calibrate r a h b, .assayRun r a h, .scrubFull r a, .captureDrain r a, .ddrTest r a b],
      exec c s = .next t →
        WordsKept (fun x => inRange 0x100 0x108 x || inRange 0x400000 0x404000 x || inRange 0x600000 0x601000 x || inRange 0x700000 0x730008 x ||
          countReg x) s t ∧
        BytesKept inStore s t ∧ t.flash = s.flash ∧ t.otp = s.otp ∧ t.plan = s.plan ∧ t.mono = s.mono ∧ t.canary = s.canary ∧ t.pending = s.pending) ∧
  (∀ (f : Fin 16) (p : Fin 9) (n : Fin 34) (x y z w : Int) (cause : Fin 3) (raw : BitVec 12) (g o : BitVec 16) (misr : BitVec 64) (s t : State),
    NamesWf s → ∀ c ∈ [Instr.sensorConversion n x, .sensorFailure n cause, .madcConversion raw, .selfcalDone g o, .madcSequencePass, .sliceMeasurement f p x y z w,
        .handoverCompareDone f p x y, .calRequeue f p, .facePll f, .facePllTimeout f, .assayQueue f, .rotationShadowEnd f, .rotationMatch f,
        .rotationSwitch f, .matchTimeout f, .assayRetry f, .bistSliceDone f misr],
      exec c s = .next t →
        WordsKept (fun a => inRange 0 0x400000 a || inRange 0x500000 0x600000 a || inRange 0x1000000 0x2000000 a || inPorts a || countReg a) s t ∧
        BytesKept (fun a _ _ => a == 5 || a == 6 || a == 7 || a == 9 || isDdr a) s t ∧ t.flash = s.flash ∧ t.otp = s.otp ∧ t.plan = s.plan ∧ t.time = s.time ∧
        t.mono = s.mono ∧ t.canary = s.canary ∧ t.pending = s.pending ∧ t.sessions.length = s.sessions.length)
end

