-- ==== Sys2Proof/Machine/Package.lean ====
section
/-!
DEFINITION. Sys2Proof/Machine/Package.lean: the ball grid (R449-R452), the supply rails and their regulators (R453, R454), the line outputs in
volts (R462) and the thermal path (R463). They are constants of the part: no command changes them.
-/
namespace Sys2Proof.Machine
open Sys2Proof

/-! ## The ball grid (R449) -/

/-- A ball: row index 0-97 and column 1-98. -/
structure Ball where
  row : Nat
  col : Nat
  deriving DecidableEq, Repr

/-- The 19 letters that name rows. -/
def rowAlphabet : List String := ["A", "B", "C", "D", "E", "F", "G", "H", "J", "K", "L", "M", "N", "P", "T", "U", "V", "W", "Y"]

/-- A row's name. -/
def rowName (i : Nat) : String :=
  if i < 19 then rowAlphabet.getD i "" else rowAlphabet.getD (i / 19 - 1) "" ++ rowAlphabet.getD (i % 19) ""

/-- A ball's name: its row, then its column. -/
def Ball.name (b : Ball) : String := rowName b.row ++ toString b.col

/-! ## Bands and lane signals (R450, R451) -/

/-- The ball of edge die `e` at depth `d` and position `u` (R450). -/
def bandBall (e d u : Nat) : Ball :=
  match e with
  | 0 => ⟨d, u + 1⟩
  | 1 => ⟨u, 98 - d⟩
  | 2 => ⟨97 - d, 98 - u⟩
  | _ => ⟨97 - u, d + 1⟩

/-- Signals of the lanes and faces (R451); `n` is the _N leg. -/
inductive LaneSignal where
  | frx (f p : Nat) (n : Bool)
  | ftx (f p : Nat) (n : Bool)
  | fsbClk (f : Nat)
  | fsbDat (f : Nat)
  | omon (f : Nat)
  | hrx (h : Nat) (n : Bool)
  | htx (h : Nat) (n : Bool)
  deriving DecidableEq, Repr

/-- The ball of a lane signal (R451). -/
def laneBall : LaneSignal → Ball
  | .frx f p n => bandBall (f / 4) 1 (14 + 18 * (f % 4) + 2 * p + bit n)
  | .ftx f p n => bandBall (f / 4) 3 (14 + 18 * (f % 4) + 2 * p + bit n)
  | .fsbClk f => bandBall (f / 4) 5 (14 + 18 * (f % 4))
  | .fsbDat f => bandBall (f / 4) 5 (15 + 18 * (f % 4))
  | .omon f => bandBall (f / 4) 5 (16 + 18 * (f % 4))
  | .hrx h n => bandBall (h / 64) (7 + 4 * (h % 64 / 32)) (17 + 2 * (h % 64 % 32) + bit n)
  | .htx h n => bandBall (h / 64) (9 + 4 * (h % 64 / 32)) (17 + 2 * (h % 64 % 32) + bit n)

/-- Rows and columns of a DDR4 channel's corner block, first to last (R451). -/
def ddrBlock (c : Nat) : (Nat × Nat) × (Nat × Nat) :=
  (if c = 0 ∨ c = 3 then (0, 11) else (86, 97), if c = 0 ∨ c = 1 then (87, 98) else (1, 12))

/-- Names with an index, from 0 up. -/
def indexed (name : String) (n : Nat) (after : String) : List String := (List.range n).map fun i => name ++ toString i ++ after

/-- A pair of legs for each of four lanes. -/
def legs (name : String) : List String := (List.range 4).flatMap fun i => [name ++ toString i ++ "_P", name ++ toString i ++ "_N"]

/-- The 72 balls of rows T and U, columns 15 to 50, in their order (R451). -/
def coreSignals : List String :=
  legs "CPA_TX_" ++ legs "CPA_RX_" ++ legs "CPB_TX_" ++ legs "CPB_RX_" ++
    ["REFCLK_A_P", "REFCLK_A_N", "REFCLK_B_P", "REFCLK_B_N", "AON_XI", "AON_XO"] ++
    ["RESET_N", "PGOOD_IN", "THERMTRIP_N", "ALERT_N", "WAKE_N"] ++ indexed "STRAP[" 8 "]" ++ ["FL_CLK", "FL_CS_N"] ++ indexed "FL_IO[" 4 "]" ++
    ["TCK", "TMS", "TDI", "TDO", "TRST_N"] ++ indexed "ELS_REQ_N[" 4 "]" ++ indexed "ELS_GNT_N[" 4 "]" ++ ["PM_SCL", "PM_SDA"]

/-- The ball of the `i`-th of them. -/
def coreBall (i : Nat) : Ball := ⟨14 + i / 36, 15 + i % 36⟩

/-- Balls by group (R452): signals, then power, ground and sense. -/
def signalBalls : List (String × Nat) :=
  [("FRX and FTX", 576), ("face sideband and OMON", 48), ("HRX and HTX", 1024), ("control ports", 32), ("DDR4", 560), ("clocks and crystal", 6),
    ("digital pins", 34), ("reserved", 24)]
def powerBalls : List (String × Nat) :=
  [("VSS", 3652), ("VDD_CORE", 1200), ("VDD_FACE", 1040), ("VDDA_CONV", 520), ("VDDA_HI", 640), ("VDDQ_DDR", 160), ("VDD_IO", 40), ("VDD_AON", 24),
    ("VPP_OTP", 8), ("remote sense", 16)]

/-! ## Supplies (R453, R454) -/

/-- A rail's operating condition, mV: the lowest and highest set point, the static tolerance at the balls (1/100 % for those that R453 gives in
percent, mV for the adaptive rails), and the maximum current in mA at 230 W and 105 °C. -/
structure RailSpec where
  name : String
  low : Nat
  high : Nat
  tolMv : Option Nat
  tolPct100 : Option Nat
  maxMa : Nat
  deriving DecidableEq, Repr

/-- Rail specifications (R453); VDDQ_DDR may lie from 1.14 to 1.26 V, which is 5 %. -/
def railSpecs : List RailSpec :=
  (List.range 4).map (fun c => ⟨"VDD_CORE" ++ toString c, 580, 820, some 10, none, if c = 0 then 30000 else 15000⟩) ++
    (List.range 4).map (fun e => ⟨"VDD_FACE" ++ toString e, 580, 820, some 10, none, 32000⟩) ++
    [⟨"VDDA_CONV", 900, 900, none, some 300, 36000⟩, ⟨"VDDA_HI", 1200, 1200, none, some 300, 50000⟩, ⟨"VDDQ_DDR", 1200, 1200, none, some 500, 10000⟩,
      ⟨"VDD_IO", 1800, 1800, none, some 500, 500⟩, ⟨"VDD_AON", 750, 750, none, some 300, 400⟩, ⟨"VPP_OTP", 1800, 1800, none, some 300, 50⟩]

/-- PMBus address of an adaptive rail's regulator (R454): core rails 0-3, then face rails. -/
def railAddress (c : Nat) : Nat := 0x40 + c

/-- Set point of an adaptive rail at power-up, mV (R454). -/
def railStart (c : Nat) : Nat := if c < 4 then 800 else 580

/-! ## Line outputs and the thermal path (R462, R463) -/

/-- What FTX drives for a DAC code, µV differential into 100 ohms (R462): 255 steps span 900 mVppd. -/
def dacMicrovolt (code : Int) : Int := roundDiv (code * 900000) 255

/-- Junction temperature, 1/1000 °C, from the case temperature in 1/1000 °C and the power in mW (R463). -/
def junction (caseT : Int) (mw : Nat) : Int := caseT + (35 * mw : Nat) / 1000

end Sys2Proof.Machine
end

