-- ==== Sys2Proof/Tests/Slice0.lean ====
section
/-!
SUPPORT. Sys2Proof/Tests/Slice0.lean: the model's own tests, each one step on a small state; they also show states that meet the hypotheses of the
statements. Expected results are from the rules of spec/.
-/
namespace Sys2Proof.Tests
open Sys2Proof Sys2Proof.Machine

set_option maxRecDepth 100000
set_option Elab.async false

/-- A part that start-up has reached, with the given fields. -/
def up (l : List (Fld × Nat)) : State := ({ started := true } : State).wrs l

/-- A plan with the given records. -/
def planOf (recs : List PRec) : Plan := { id := 7, counter := 1, source := 3, recs := recs }

/-- Face `f` in the plan with L400 and L400P, in RECEIVE, its datapaths serving. -/
def withFace (f : Nat) (s : State) : State :=
  let t := s.wrs ([(PRESENCE_FACES, 2 ^ f), (OPT_STATUS_STATE f, 4)] ++ (List.range 8).flatMap fun d =>
      [(⟨LANE_MAP_RX f, 4 * d, 4⟩, d), (RXD_STATUS_ROLE f d, 1), (RXD_STATUS_LANE f d, d)])
  { t with plan := some (planOf [{ ty := 1, data := [f, 0, 3, 3, 8, 0, 0, 0, 0, 0, 0, 0] }]) }

theorem test_idle : ∃ t, step (up []) = .next t ∧ t.time = 1 := ⟨_, rfl, by decide +kernel⟩

theorem test_namesWf : NamesWf State.reset :=
  ⟨by decide +kernel, by decide +kernel, by decide +kernel, fun _ h => absurd h List.not_mem_nil⟩

theorem test_canary_holds_reset : exec .resetNLow { up [] with canary := true } = .next { up [] with canary := true } := rfl

theorem test_resetNLow : ∃ t, exec .resetNLow (up [(TIME_STATUS_STEPS, 3)]) = .next t ∧ t.rd RST_STATUS_LAST = 1 ∧ t.rd TIME_STATUS_STEPS = 3 :=
  ⟨_, rfl, by decide +kernel, by decide +kernel⟩
theorem test_pgoodInLow : ∃ t, exec .pgoodInLow (up []) = .next t ∧ t.started = false := ⟨_, rfl, rfl⟩
theorem test_powerOn : ∃ t, exec .powerOn (up [(RST_STATUS_LAST, 3)]) = .next t ∧ t.regs = [] := ⟨_, rfl, rfl⟩
theorem test_powerLoss : ∃ t, exec .powerLoss (up []) = .next t ∧ t.powered = false := ⟨_, rfl, rfl⟩

theorem test_startUp : ∃ t, exec (.startUp 0x08 true) State.reset = .next t ∧ t.rd RST_STATUS_STAGE = 5 ∧ t.rd FUSE_STATUS_STRAP = 8 :=
  ⟨_, rfl, by decide +kernel, by decide +kernel⟩
theorem test_ddrTrainingDone : ∃ t, exec (.ddrTrainingDone 5) (up []) = .next t ∧ t.ddrTrain = some 5 := ⟨_, rfl, by decide +kernel⟩
theorem test_bootLoad_bare : bootSlots (up []) = [] ∧ ∃ t, exec .bootLoad (up []) = .next t ∧ t.rd PLAN_STATUS_STATE = 0 :=
  ⟨by decide +kernel, _, rfl, by decide +kernel⟩
theorem test_planApply : ({ up [] with checked := some (planOf []) } : State).alive = true ∧ ({ up [] with checked := some (planOf []) } : State).booting = true :=
  ⟨by decide +kernel, rfl⟩
theorem test_planApply_none : exec .planApply (up []) = .next (up []) := rfl

def laneAt (st : Nat) : State := up [(LANE_ACQ_STATUS_STATE 3 2, st)]
theorem test_signalDetect : acqIn (laneAt 1) 3 2 1 = true ∧ ∃ t, exec (.signalDetect 3 2) (laneAt 1) = .next t ∧ t.rd (LANE_ACQ_STATUS_STATE 3 2) = 2 :=
  ⟨by decide +kernel, _, rfl, by decide +kernel⟩
theorem test_settleDone : acqIn (laneAt 2) 3 2 2 = true ∧ ∃ t, exec (.settleDone 3 2 0x41) (laneAt 2) = .next t ∧
    t.rd (LANE_ACQ_STATUS_STATE 3 2) = 3 ∧ t.rd (LANE_AGC_GAIN 3 2) = 0x41 := ⟨by decide +kernel, _, rfl, by decide +kernel, by decide +kernel⟩
theorem test_settleLimit : ∃ t, exec (.settleLimit 3 2 0x7F) (laneAt 2) = .next t ∧ t.on (LANE_AGC_AT_LIMIT 3 2) = true := ⟨_, rfl, by decide +kernel⟩
theorem test_searchDwell_tone : (candidates ((laneAt 3).setLane 3 2 { dwellModes := 3 } |>.lane 3 2).dwellModes
      [{ mode := 1, mag := 50, rate := 160, above := 200 }, { mode := 0, mag := 50, rate := 160, above := 200 }]).map Cand.mode = [2, 1] ∧
    ∃ t, exec (.searchDwell 3 2 [{ mode := 0, mag := 50, rate := 160, above := 200 }]) ((laneAt 3).setLane 3 2 { dwellModes := 3 }) = .next t ∧
      t.rd (LANE_ACQ_STATUS_STATE 3 2) = 4 ∧ t.rd (LANE_ACQ_STATUS_MODE 3 2) = 1 := ⟨by decide +kernel, _, rfl, by decide +kernel, by decide +kernel⟩
theorem test_searchDwell_empty : ∃ t, exec (.searchDwell 3 2 []) ((laneAt 3).setLane 3 2 { emptyDwells := 3 }) = .next t ∧
    t.rd (LANE_ACQ_STATUS_STATE 3 2) = 1 := ⟨_, rfl, by decide +kernel⟩
theorem test_retuneDone : ∃ t, exec (.retuneDone 3 2) (laneAt 4) = .next t ∧ t.rd (LANE_ACQ_STATUS_STATE 3 2) = 5 := ⟨_, rfl, by decide +kernel⟩
theorem test_retuneLimit : ∃ t, exec (.retuneLimit 3 2) (laneAt 4) = .next t ∧ t.rd (LANE_ACQ_STATUS_STATE 3 2) = 3 := ⟨_, rfl, by decide +kernel⟩
theorem test_convergeLimit : ∃ t, exec (.convergeLimit 3 2) ((laneAt 5).setLane 3 2 { cands := [{ mode := 2, ppm := 0 }] }) = .next t ∧
    t.rd (LANE_ACQ_STATUS_STATE 3 2) = 4 := ⟨_, rfl, by decide +kernel⟩
theorem test_acqTimeout : ∃ t, exec (.acqTimeout 3 2) (laneAt 3) = .next t ∧ t.on (LANE_EVENTS_ACQ_TIMEOUT 3 2) = true := ⟨_, rfl, by decide +kernel⟩

def okVerify : Verify := { words := 4096, fails := 40, hard := [], bound := some (3, true), pat := none }
def verifyAt (st : Nat) : State :=
  up [(LANE_ACQ_STATUS_STATE 3 2, st), (LANE_ACQ_STATUS_MODE 3 2, 1), (CODE_STATUS_AM_LOCK 3 2, 1), (CODE_STATUS_SYNC 3 2, 1), (LANE_POWER_P_NOW 3 2, 0xFF00), (⟨LANE_MAP_RX 3, 8, 4⟩, 2)]
theorem test_verifyWindow_lock : acqIn (verifyAt 6) 3 2 6 = true ∧ patternMode (verifyAt 6) 3 2 = false ∧ lockTest (verifyAt 6) 3 2 okVerify = true ∧
    ∃ t, exec (.verifyWindow 3 2 okVerify) (verifyAt 6) = .next t ∧ t.rd (LANE_ACQ_STATUS_STATE 3 2) = 7 ∧ t.rd (LANE_POWER_P_LOCK 3 2) = 0xFF00 :=
  ⟨by decide +kernel, by decide +kernel, by decide +kernel, _, rfl, by decide +kernel, by decide +kernel⟩
theorem test_verifyWindow_false : lockTest (verifyAt 6) 3 2 { okVerify with fails := 41 } = false ∧
    ∃ t, exec (.verifyWindow 3 2 { okVerify with fails := 41 }) (verifyAt 6) = .next t ∧ t.rd (LANE_ACQ_STATUS_STATE 3 2) = 3 ∧
      t.rd (LANE_ACQ_STATUS_FALSE_LOCKS 3 2) = 1 := ⟨by decide +kernel, _, rfl, by decide +kernel, by decide +kernel⟩
theorem test_relockLimit : ∃ t, exec (.relockLimit 3 2) (laneAt 8) = .next t ∧ t.rd (LANE_ACQ_STATUS_STATE 3 2) = 2 := ⟨_, rfl, by decide +kernel⟩
theorem test_relockRestartEnd : ∃ t, exec (.relockRestartEnd 3 2) (laneAt 8) = .next t ∧ (t.lane 3 2).relockWindow = true := ⟨_, rfl, by decide +kernel⟩
theorem test_alignmentMarker : ∃ t, exec (.alignmentMarker 3 2 2 false { phase := 77, spacing := 0, bits := [] }) ((verifyAt 6).wr (CODE_STATUS_AM_LOCK 3 2) 0 |>.setLane 3 2 { amRun := 7, amPhase := 77 }) =
    .next t ∧ t.on (CODE_STATUS_AM_LOCK 3 2) = true := ⟨_, rfl, by decide +kernel⟩

theorem test_los : ∃ t, exec (.los 3 2) (laneAt 7) = .next t ∧ t.rd (LANE_ACQ_STATUS_LAST_LOSS 3 2) = 1 ∧ t.rd (LANE_ACQ_STATUS_STATE 3 2) = 1 :=
  ⟨_, rfl, by decide +kernel, by decide +kernel⟩
theorem test_decFail_relock : ∃ t, exec (.decFail 3 2) ((laneAt 7).wrs [(LANE_ACQ_CTRL_RELOCK_EN 3 2, 1), (LANE_POWER_P_NOW 3 2, 0xFFF0), (LANE_POWER_P_LOCK 3 2, 0)]) =
    .next t ∧ t.rd (LANE_ACQ_STATUS_STATE 3 2) = 8 := ⟨_, rfl, by decide +kernel⟩
theorem test_decFail_settle : ∃ t, exec (.decFail 3 2) ((laneAt 7).wrs [(LANE_ACQ_CTRL_RELOCK_EN 3 2, 1), (LANE_POWER_P_NOW 3 2, 0xFFEF), (LANE_POWER_P_LOCK 3 2, 0)]) =
    .next t ∧ t.rd (LANE_ACQ_STATUS_STATE 3 2) = 2 := ⟨_, rfl, by decide +kernel⟩
theorem test_amLoss : ∃ t, exec (.amLoss 3 2) (laneAt 7) = .next t ∧ t.rd (LANE_ACQ_STATUS_LAST_LOSS 3 2) = 2 := ⟨_, rfl, by decide +kernel⟩
theorem test_alignmentMarker_loss : ∃ t, exec (.alignmentMarker 3 2 0 false { phase := 1, spacing := 0, bits := [] }) ((laneAt 7).setLane 3 2 { amMisses := 2 }) = .next t ∧
    t.rd (LANE_ACQ_STATUS_LAST_LOSS 3 2) = 2 := ⟨_, rfl, by decide +kernel⟩
theorem test_timingLoss : ∃ t, exec (.timingLoss 3 2 false 5 6) (laneAt 7) = .next t ∧ t.rd (LANE_ACQ_STATUS_LAST_LOSS 3 2) = 6 := ⟨_, rfl, by decide +kernel⟩
theorem test_powerBlock_step : powerStep (List.replicate 10 12) (clampI (-32767) 32767 (powerIn 16129 1 9)) = true ∧ ∃ t, exec (.powerBlock 3 2 16129 1 9)
    (((laneAt 7).wr (LANE_ACQ_CTRL_STEP_EN 3 2) 1).setLane 3 2 { blocks := List.replicate 10 12 }) = .next t ∧
      t.rd (LANE_ACQ_STATUS_LAST_LOSS 3 2) = 4 ∧ t.rd (LANE_ACQ_STATUS_STATE 3 2) = 2 := ⟨by decide +kernel, _, rfl, by decide +kernel, by decide +kernel⟩
theorem test_clipWindow_loss : ∃ t, exec (.clipWindow 3 2 2 16383) ((laneAt 7).wr (LANE_ACQ_CTRL_CLIP_EN 3 2) 1) = .next t ∧
    t.rd (LANE_ACQ_STATUS_LAST_LOSS 3 2) = 5 := ⟨_, rfl, by decide +kernel⟩
theorem test_clipWindow_edge : ∃ t, exec (.clipWindow 3 2 2 16384) ((laneAt 7).wr (LANE_ACQ_CTRL_CLIP_EN 3 2) 1) = .next t ∧
    t.rd (LANE_ACQ_STATUS_STATE 3 2) = 7 ∧ t.rd (LANE_CLIP_COUNT_CLIPS 3 2) = 2 := ⟨_, rfl, by decide +kernel, by decide +kernel⟩
def restartAt : State := up [(LANE_ACQ_STATUS_STATE 3 2, 4), (LANE_ACQ_CTRL_MODE_EN 3 2, 3)]
theorem test_restart : Reaches (withFace 3 restartAt) (LANE_ACQ_CTRL 3 2) ∧ Nat.land ((withFace 3 restartAt).rd (LANE_ACQ_CTRL_MODE_EN 3 2)) (faceModes (withFace 3 restartAt) 3) ≠ 0 ∧
    ∃ t, exec (.restart 3 2) (withFace 3 restartAt) = .next t ∧ t.busStatus = stOk ∧
    t.rd (LANE_ACQ_STATUS_LAST_LOSS 3 2) = 7 ∧ t.rd (LANE_ACQ_STATUS_STATE 3 2) = 1 := ⟨⟨by decide +kernel, by decide +kernel, by decide +kernel⟩, by decide +kernel, _, rfl, by decide +kernel, by decide +kernel, by decide +kernel⟩
theorem test_modeEn : ∃ t, exec (.modeEn 3 2 0x2) ((withFace 3 (laneAt 7)).wr (LANE_ACQ_STATUS_MODE 3 2) 1) = .next t ∧ t.busStatus = stOk ∧
    t.rd (LANE_ACQ_CTRL_MODE_EN 3 2) = 2 ∧ t.rd (LANE_ACQ_STATUS_LAST_LOSS 3 2) = 8 := ⟨_, rfl, by decide +kernel, by decide +kernel, by decide +kernel⟩
theorem test_modeEn_range : ∃ t, exec (.modeEn 3 2 0x4) (withFace 3 (laneAt 7)) = .next t ∧ t.busStatus = stRange := ⟨_, rfl, by decide +kernel⟩
theorem test_eqConvDone : ∃ t, exec (.eqConvDone 3 2) (withFace 3 (laneAt 5)) = .next t ∧ t.busStatus = stOk ∧ t.rd (LANE_ACQ_STATUS_STATE 3 2) = 6 :=
  ⟨_, rfl, by decide +kernel, by decide +kernel⟩
theorem test_eqConvFail : ∃ t, exec (.eqConvFail 3 2) (withFace 3 (laneAt 5)) = .next t ∧ t.rd (LANE_ACQ_STATUS_STATE 3 2) = 3 := ⟨_, rfl, by decide +kernel⟩

theorem test_powerBlock : ∃ t, exec (.powerBlock 3 2 16129 100 9) (laneAt 3) = .next t ∧ t.rd (LANE_POWER_P_NOW 3 2) = 0xFEFC ∧ t.rd (LANE_AGC_GAIN 3 2) = 9 :=
  ⟨_, rfl, by decide +kernel, by decide +kernel⟩

def rxAt (l : List (Fld × Nat)) : State :=
  withFace 3 (up ([(LANE_ACQ_STATUS_STATE 3 2, 7), (LANE_ACQ_STATUS_LOCKED 3 2, 1), (LANE_ACQ_STATUS_MODE 3 2, 1), (LANE_ACQ_CTRL_MODE_EN 3 2, 3), (CODE_STATUS_SYNC 3 2, 1)] ++ l))
theorem test_swapEq : Reaches (rxAt []) (EQ_BANK_CTRL 3 2) ∧ swapPending (rxAt []) 3 2 = false ∧ ∃ t, exec (.swapEq 3 2) (rxAt []) = .next t ∧
    t.on (EQ_BANK_CTRL_SWAP_EQ 3 2) = true := ⟨⟨by decide +kernel, by decide +kernel, by decide +kernel⟩, by decide +kernel, _, rfl, by decide +kernel⟩
theorem test_swapMlse_overrun : ∃ t, exec (.swapMlse 3 2) (rxAt [(EQ_BANK_CTRL_SWAP_EQ 3 2, 1)]) = .next t ∧ t.on (EQ_BANK_CTRL_SWAP_OVERRUN 3 2) = true ∧
    t.on (EQ_BANK_CTRL_SWAP_MLSE 3 2) = false := ⟨_, rfl, by decide +kernel, by decide +kernel⟩
theorem test_swapApply : ∃ t, exec (.swapApply 3 2) (rxAt [(EQ_BANK_CTRL_SWAP_EQ 3 2, 1), (EQ_BANK_CTRL_SWAP_COUNT 3 2, 255)]) = .next t ∧
    t.rd (EQ_BANK_CTRL_ACTIVE_EQ 3 2) = 1 ∧ t.rd (EQ_BANK_CTRL_SWAP_COUNT 3 2) = 0 := ⟨_, rfl, by decide +kernel, by decide +kernel⟩
theorem test_bankUe_runs : rxdRuns (rxAt []) 3 2 = true := by decide +kernel

theorem test_bankWrite : ∃ t, exec (.coefficientBankWrite 3 2 false 1 257 0x00010002) (rxAt []) = .next t ∧ t.busStatus = stOk ∧
    t.getBytes 5 3 (4 * bankWord 2 1 257) 4 = [2, 0, 1, 0] := ⟨_, rfl, by decide +kernel, by decide +kernel⟩
theorem test_bankWrite_table : ∃ t, exec (.coefficientBankWrite 3 2 true 1 63 0xFFFFFFFF) (rxAt []) = .next t ∧
    t.getBytes 5 3 (4 * tableWord 2 1 63) 4 = [0xFF, 0x0F, 0, 0] := ⟨_, rfl, by decide +kernel⟩
theorem test_bankWrite_active : ∃ t, exec (.coefficientBankWrite 3 2 false 0 0 1) (rxAt []) = .next t ∧ t.busStatus = stBusy ∧
    t.on (EQ_BANK_CTRL_ACTIVE_WR 3 2) = true := ⟨_, rfl, by decide +kernel, by decide +kernel⟩

theorem test_gradientLatch : ∃ t, exec (.gradientLatch 3 2) ((rxAt [(GRAD_CTRL_ENABLE 3 2, 1)]).setRxd 3 2 { dp := { grad := [(6, -4)], gradN := 1 } }) = .next t ∧
    t.on (GRAD_CTRL_READY 3 2) = true ∧ (t.getBytes 5 3 (4 * gradWord 2 0) 8) = [0, 0, 0, 1, 3, 0, 0xFE, 0xFF] := ⟨_, rfl, by decide +kernel, by decide +kernel⟩
theorem test_gradWords : (gradWords 5 7 true [9]).take 2 = [5 * 2 ^ 24 + 7, 9] ∧ (gradWords 5 7 true (List.replicate 257 3)).getD 154 0 = 3 ∧
    (gradWords 5 7 true (List.replicate 257 3)).getD 155 7 = 0 := by decide +kernel
theorem test_gradientRelease : ∃ t, exec (.gradientRelease 3 2) (rxAt [(GRAD_CTRL_READY 3 2, 1)]) = .next t ∧ t.on (GRAD_CTRL_READY 3 2) = false :=
  ⟨_, rfl, by decide +kernel⟩
theorem test_eqExpRangeRestart : ∃ t, exec (.eqExpRangeRestart 3 2) (rxAt [(EQ_EXP_RANGE_SAT_COUNT 3 2, 9)]) = .next t ∧
    t.on (EQ_EXP_RANGE_RESTART 3 2) = true ∧ t.rd (EQ_EXP_RANGE_SAT_COUNT 3 2) = 0 := ⟨_, rfl, by decide +kernel, by decide +kernel⟩

theorem test_laneEffortCap : ∃ t, exec (.laneEffortCap 3 2 1) (rxAt [(LANE_EFFORT_CURRENT 3 2, 2)]) = .next t ∧ t.rd (LANE_EFFORT_CAP 3 2) = 1 ∧
    t.rd (LANE_EFFORT_PENDING 3 2) = 1 := ⟨_, rfl, by decide +kernel, by decide +kernel⟩
theorem test_effortSwitch : ∃ t, exec (.effortSwitch 3 2) (rxAt [(LANE_EFFORT_PEND 3 2, 1), (LANE_EFFORT_PENDING 3 2, 2)]) = .next t ∧
    t.rd (LANE_EFFORT_CURRENT 3 2) = 2 ∧ t.rd (DET_CTRL_MLSE_ON 3 2) = 0 := ⟨_, rfl, by decide +kernel, by decide +kernel⟩
theorem test_qualityWindow : ∃ t, exec (.qualityWindow 3 2 { t2 := 100, e2 := 1, levels := [{ n := 2, sum := -7, sq := 25 }, { n := 1 }, { n := 1 }, { n := 1 }] }) (rxAt [(LANE_EFFORT_CAP 3 2, 3)]) = .next t ∧
    t.rd (QUAL_SNR_SNR_DET 3 2) = 320 ∧ t.rd (QUAL_MARGIN_MARGIN_NOW 3 2) = 52 ∧ t.rd (QUAL_MARGIN_MARGIN_NEXT 3 2) = 48 ∧
    t.rd (QUAL_LEVEL_MEAN 3 2 0) = 0xFFFC ∧ t.rd (QUAL_LEVEL_SIGMA 3 2 0) = 8 := ⟨_, rfl, by decide +kernel, by decide +kernel, by decide +kernel, by decide +kernel, by decide +kernel⟩

/-- Soft values of the all-zero codeword of L400 (R136) with one bit wrong, at E3. -/
def oneWrong : List (BitVec 6) := (44 : BitVec 6) :: List.replicate 255 (20 : BitVec 6)
def rx400 : State := rxAt [(RXD_STATUS_MODE 3 2, 1), (LANE_EFFORT_CURRENT 3 2, 3)]
theorem test_innerCodeword : codingOn rx400 3 2 = true ∧ ∃ t, exec (.innerCodeword 3 2 (.soft oneWrong)) rx400 = .next t ∧
    t.ctr (INNER_BITS_CORR 3 2) = 1 ∧ t.ctr (INNER_HIST 3 2 1) = 1 := ⟨by decide +kernel, _, rfl, by decide +kernel, by decide +kernel⟩
theorem test_innerCodeword_illFormed : exec (.innerCodeword 3 2 (.soft [])) (up []) = .fault .illFormed := rfl
def outerIn (l : List (BitVec 10)) : OuterIn := { syms := l, share := 0, pair := 0, second := false, replay := false, frame := none, starts := false }
theorem test_outerCodeword : ∃ t, exec (.outerCodeword (.line 3 2) (outerIn [5])) (rxAt [(CODE_STATUS_AM_LOCK 3 2, 1)]) = .next t ∧
    t.ctr (OUTER_HIST 3 2 1) = 1 ∧ t.ctr (OUTER_SYM 3 2) = 1 := ⟨_, rfl, by decide +kernel, by decide +kernel⟩
theorem test_outerCodeword_ue : ∃ t, exec (.outerCodeword (.line 3 2) (outerIn (List.replicate 16 1))) (rxAt [(CODE_STATUS_AM_LOCK 3 2, 1)]) = .next t ∧
    t.ctr (OUTER_HIST 3 2 16) = 1 ∧ t.on (CODE_STATUS_OUTER_UE 3 2) = true := ⟨_, rfl, by decide +kernel, by decide +kernel⟩
theorem test_counterWrap : ∃ t, exec (.counterWrap 3 2 28) ((rxAt []).setCtr (OUTER_SYM 3 2) (2 ^ 48 - 1)) = .next t ∧ t.ctr (OUTER_SYM 3 2) = 0 ∧
    t.on (CODE_STATUS_WRAPPED 3 2) = true := ⟨_, rfl, by decide +kernel, by decide +kernel⟩
theorem test_cntCtrlClear : ∃ t, exec (.cntCtrlClear 3 2) ((rxAt []).setCtr (OUTER_SYM 3 2) 77) = .next t ∧ t.ctr (OUTER_SYM 3 2) = 0 := ⟨_, rfl, by decide +kernel⟩

theorem test_txdApply : ∃ t, exec (.txdApply 3 2) ((rxAt []).wr (TXD_CTRL_SCALE 3 2) 0x90) = .next t ∧ t.on (TXD_CTRL_APPLY 3 2) = true ∧
    t.rd (TXD_CTRL_SCALE 3 2) = 0x90 := ⟨_, rfl, by decide +kernel, by decide +kernel⟩
theorem test_shapingSetApplied : ∃ t, exec (.shapingSetApplied 3 2 []) (rxAt [(TXD_CTRL_APPLY 3 2, 1)]) = .next t ∧ t.on (TXD_CTRL_APPLY 3 2) = false ∧
    t.rd (TXD_STATUS_APPLY_COUNT 3 2) = 1 := ⟨_, rfl, by decide +kernel, by decide +kernel⟩

theorem test_optTarget : Reaches (withFace 3 (up [])) (OPT_CTRL 3) ∧ ∃ t, exec (.optTarget 3 4) (withFace 3 (up [])) = .next t ∧ t.busStatus = stOk ∧
    t.rd (OPT_CTRL_TARGET 3) = 4 := ⟨⟨by decide +kernel, by decide +kernel, by decide +kernel⟩, _, rfl, by decide +kernel, by decide +kernel⟩
theorem test_optTarget_range : ∃ t, exec (.optTarget 3 6) (withFace 3 (up [])) = .next t ∧ t.busStatus = stRange ∧ t.rd (OPT_STATUS_RESULT 3) = stRange :=
  ⟨_, rfl, by decide +kernel, by decide +kernel⟩
theorem test_optTarget_trip : ∃ t, exec (.optTarget 3 5) (withFace 3 (up [(OPT_STATUS_EYE_TRIP 3, 1)])) = .next t ∧ t.busStatus = stLimit :=
  ⟨_, rfl, by decide +kernel⟩
theorem test_optLimWrite : ∃ t, exec (.optLimWrite 3 true 0x20040064) (withFace 3 (up [])) = .next t ∧ t.busStatus = stOk ∧
    t.rd (OPT_LIM_B_MPD_RESP 3) = 100 ∧ t.rd (OPT_LIM_B_LANES_PERMITTED 3) = 1 := ⟨_, rfl, by decide +kernel, by decide +kernel, by decide +kernel⟩
theorem test_optLimWrite_lock : ∃ t, exec (.optLimWrite 3 false 1) (withFace 3 (up [(FUSE_STATUS_LIMITS_LOCK, 1)])) = .next t ∧ t.busStatus = stLimit :=
  ⟨_, rfl, by decide +kernel⟩
theorem test_optLaneAWrite : ∃ t, exec (.optLaneAWrite 3 2 0x10200304) (withFace 3 (up [(OPT_LIM_A_MAX_LASER_I 3, 0x10), (OPT_LIM_A_MAX_DRV_SWING 3, 0x20)])) =
    .next t ∧ t.busStatus = stOk ∧ t.rd (OPT_LANE_A_LASER_BIAS 3 2) = 0x10 := ⟨_, rfl, by decide +kernel, by decide +kernel⟩
theorem test_optLaneAWrite_limit : ∃ t, exec (.optLaneAWrite 3 2 0x10200304) (withFace 3 (up [(OPT_LIM_A_MAX_LASER_I 3, 0x0F), (OPT_LIM_A_MAX_DRV_SWING 3, 0x20)])) =
    .next t ∧ t.busStatus = stLimit := ⟨_, rfl, by decide +kernel⟩

def faceIn (st target : Nat) (l : List (Fld × Nat)) : State := (withFace 3 (up [])).wrs ([(OPT_STATUS_STATE 3, st), (OPT_CTRL_TARGET 3, target)] ++ l)
theorem test_sleepToStandby : 1 < effTarget (faceIn 1 4 []) 3 ∧ ∃ t, exec (.sleepToStandby 3) (faceIn 1 4 []) = .next t ∧ optState t 3 = 2 :=
  ⟨by decide +kernel, _, rfl, by decide +kernel⟩
theorem test_standbyToSynth : ∃ t, exec (.standbyToSynth 3) (faceIn 2 4 []) = .next t ∧ optState t 3 = 3 ∧ t.on (OPT_STATUS_PLL_LOCK 3) = true :=
  ⟨_, rfl, by decide +kernel, by decide +kernel⟩
theorem test_synthToReceive : railWaits (faceIn 3 4 [(OPT_STATUS_PLL_LOCK 3, 1)]) 3 4 = false ∧ 3 < effTarget (faceIn 3 4 [(OPT_STATUS_PLL_LOCK 3, 1)]) 3 :=
  ⟨by decide +kernel, by decide +kernel⟩
theorem test_rampStep : ∃ t, exec (.rampStep 3 none) (faceIn 4 5 [(OPT_STATUS_RAMP_STEP 3, 7)]) = .next t ∧ t.rd (OPT_STATUS_RAMP_STEP 3) = 8 :=
  ⟨_, rfl, by decide +kernel⟩
theorem test_rampStep_duplex : ∃ t, exec (.rampStep 3 none) (faceIn 4 5 [(OPT_STATUS_RAMP_STEP 3, 8)]) = .next t ∧ optState t 3 = 5 :=
  ⟨_, rfl, by decide +kernel⟩
theorem test_rampStep_lane : ∃ t, exec (.rampStep 3 (some 2)) ((faceIn 5 5 []).setFace 3 { emit := 4, checked := 4, laneRamp := [(2, 7)] }) = .next t ∧
    tabGet 0 (t.face 3).laneRamp 2 = 8 := ⟨_, rfl, by decide +kernel⟩
theorem test_targetLockTimeout : ∃ t, exec (.targetLockTimeout 3) (faceIn 3 4 [(OPT_STATUS_PENDING 3, 1)]) = .next t ∧
    t.rd (OPT_STATUS_RESULT 3) = stTimeout ∧ t.rd (OPT_CTRL_TARGET 3) = 3 := ⟨_, rfl, by decide +kernel, by decide +kernel⟩

def litAt : State := (faceIn 5 5 [(MADC_STATUS_CAL_DONE, 1), (OPT_LIM_B_MPD_RESP 3, 100), (OPT_LIM_A_EYE_TRIP 3, 0)]).setFace 3 { emit := 4 }
theorem test_eyeSafetyCheck_zero : ∃ t, exec (.eyeSafetyCheck 3 2 0) litAt = .next t ∧ t.rd (OPT_LANE_B_MPD_PWR 3 2) = 0x8000 ∧
    t.on (OPT_STATUS_EYE_TRIP 3) = false := ⟨_, rfl, by decide +kernel, by decide +kernel⟩
theorem test_eyeCheckStale : faceLit litAt 3 = true ∧ ∃ t, exec (.eyeCheckStale 3 2) litAt = .next t ∧ t.on (OPT_STATUS_EYE_TRIP 3) = true ∧
    optState t 3 = 4 ∧ (t.face 3).emit = 0 := ⟨by decide +kernel, _, rfl, by decide +kernel, by decide +kernel, by decide +kernel⟩
theorem test_madcCode : madcCode litAt 0xFFF = 4095 ∧ madcCode litAt 1 = 1 := by decide +kernel

def fsbAt (n : Nat) : State := (faceIn 4 4 []).setFace 3 { fsb := [⟨0, 2, 0x10, 5⟩], fsbFails := n }
def ackOf (data : Nat) : BitVec 33 := BitVec.ofNat 33 (data * 2 ^ 9 + crc8 (msbBits 23 data) * 2)
theorem test_sideband_ack : fsbParse (some (ackOf 7)) = .ack 7 ∧ ∃ t, exec (.sidebandExchange 3 (some (ackOf 7))) (fsbAt 2) = .next t ∧ (t.face 3).fsb = [] ∧
    (t.face 3).fsbFails = 0 := ⟨by decide +kernel, _, rfl, by decide +kernel, by decide +kernel⟩
theorem test_sideband_crc : fsbParse (some (ackOf 7 ^^^ 2)) = .badCrc ∧ ∃ t, exec (.sidebandExchange 3 (some (ackOf 7 ^^^ 2))) (fsbAt 2) = .next t ∧
    t.rd (FSB_STATS_CRC_ERRS 3) = 1 ∧ (t.face 3).fsbFails = 3 := ⟨by decide +kernel, _, rfl, by decide +kernel, by decide +kernel⟩
theorem test_enginePoll : ∃ t, exec (.engineStatusPoll 3 (some (ackOf 2))) (fsbAt 0) = .next t ∧ t.on (OPT_STATUS_EYE_TRIP 3) = true := ⟨_, rfl, by decide +kernel⟩

def elsAt (l : List (Fld × Nat)) : State := (faceIn 5 5 []).wrs ([(OPT_LIM_B_LASER_SOURCE 3, 1)] ++ l)
theorem test_elsGrant : ∃ t, exec (.elsGrant 0) (elsAt []) = .next t ∧ t.on (ELS_BANK_GNT 0) = true := ⟨_, rfl, by decide +kernel⟩
theorem test_elsGrantTimeout : ∃ t, exec (.elsGrantTimeout 0) (elsAt [(ELS_BANK_REQ 0, 1), (OPT_STATUS_ELS_WAIT 3, 1), (OPT_STATUS_STATE 3, 4)]) = .next t ∧
    t.rd (OPT_CTRL_TARGET 3) = 4 ∧ t.on (ELS_BANK_REQ 0) = false := ⟨_, rfl, by decide +kernel, by decide +kernel⟩
theorem test_elsGrantLost : ∃ t, exec (.elsGrantLost 0) (elsAt [(ELS_BANK_GNT 0, 1), (OPT_STATUS_STATE 3, 4), (OPT_STATUS_RAMP_STEP 3, 2)]) = .next t ∧ t.on (ELS_BANK_LOST 0) = true ∧ optState t 3 = 4 :=
  ⟨_, rfl, by decide +kernel, by decide +kernel⟩
theorem test_elsRelease : ∃ t, exec (.elsRelease 0) (elsAt [(ELS_BANK_REQ 0, 1), (OPT_CTRL_TARGET 3, 4), (OPT_STATUS_STATE 3, 4)]) = .next t ∧
    t.on (ELS_BANK_REQ 0) = false := ⟨_, rfl, by decide +kernel⟩
theorem test_elsGrantWithdrawn : ∃ t, exec (.elsGrantWithdrawn 0) (elsAt [(ELS_BANK_GNT 0, 1), (OPT_STATUS_STATE 3, 4)]) = .next t ∧
    t.on (ELS_BANK_GNT 0) = false := ⟨_, rfl, by decide +kernel⟩

def hostAtStage (ty st : Nat) (l : List (Fld × Nat)) : State :=
  (withFace 3 (up [])).wrs ([(PORT_CFG_VALID 5, 1), (PORT_CFG_FACE 5, 3), (PORT_CFG_TYPE 5, ty), (PORT_CFG_FIRST_H 5, 8), (GROUPS_PRESENT, 2),
    (HL_STATUS_STAGE 8, st)] ++ l)
theorem test_hostSignalDetect : ∃ t, exec (.hostSignalDetect 8) (hostAtStage 0 1 []) = .next t ∧ t.rd (HL_STATUS_STAGE 8) = 2 := ⟨_, rfl, by decide +kernel⟩
theorem test_cdrLock : ∃ t, exec (.cdrLock 8) (hostAtStage 0 2 []) = .next t ∧ t.rd (HL_STATUS_STAGE 8) = 3 := ⟨_, rfl, by decide +kernel⟩
theorem test_cdrLock_forced : ∃ t, exec (.cdrLock 8) (hostAtStage 0 2 [(HL_CTRL_POL_MODE 8, 2)]) = .next t ∧ t.rd (HL_STATUS_STAGE 8) = 5 ∧
    t.on (HL_STATUS_RX_INVERTED 8) = true := ⟨_, rfl, by decide +kernel, by decide +kernel⟩
theorem test_polarity : ∃ t, exec (.polarity 8 true) (hostAtStage 0 3 [(PORT_CFG_HOST_IF 5, 1)]) = .next t ∧ t.rd (HL_STATUS_STAGE 8) = 4 ∧
    t.rd (HL_STATUS_TRAIN 8) = 1 := ⟨_, rfl, by decide +kernel, by decide +kernel⟩
theorem test_linkTrainingDone : ∃ t, exec (.linkTrainingDone 8 (-100, 900, 0)) (hostAtStage 0 4 []) = .next t ∧ t.rd (HL_STATUS_STAGE 8) = 5 := ⟨_, rfl, by decide +kernel⟩
def mark0 : Marker := { phase := 0, spacing := 0, bits := [] }
theorem test_hostMarkerLock : portOfHost (hostAtStage 0 5 []) 8 = some 5 ∧
    ∃ t, exec (.hostMarkerLock 8 [0] mark0) (hostAtStage 0 5 []) = .next t ∧ t.rd (HL_STATUS_STAGE 8) = 8 := ⟨by decide +kernel, _, rfl, by decide +kernel⟩
theorem test_hostMarkerLock_waits : (9 ∈ portHostLanes (hostAtStage 1 5 []) 5) ∧
    ∃ t, exec (.hostMarkerLock 8 [0, 2] mark0) (hostAtStage 1 5 []) = .next t ∧ t.rd (HL_STATUS_STAGE 8) = 5 := ⟨by decide +kernel, _, rfl, by decide +kernel⟩
theorem test_hostMarkerLock_paired : portOfHost (hostAtStage 4 5 []) 8 = some 5 ∧
    ∃ t, exec (.hostMarkerLock 8 [0, 2] mark0) (hostAtStage 4 5 []) = .next t ∧ t.rd (PORT_STATUS_FAIL 5) = 2 := ⟨by decide +kernel, _, rfl, by decide +kernel⟩
theorem test_hostStageTimeout : ∃ t, exec (.hostStageTimeout 8) (hostAtStage 0 4 []) = .next t ∧ t.rd (HL_STATUS_STAGE 8) = 1 ∧
    t.rd (PORT_STATUS_FAIL 5) = 3 := ⟨_, rfl, by decide +kernel, by decide +kernel⟩
theorem test_hostLaneLoss : ∃ t, exec (.hostLaneLoss 8 .marker) (hostAtStage 0 8 []) = .next t ∧ t.rd (HL_STATUS_STAGE 8) = 5 := ⟨_, rfl, by decide +kernel⟩
theorem test_hlRestart : Reaches (hostAtStage 0 8 []) (HL_CTRL 8) ∧ ∃ t, exec (.hlRestart 8) (hostAtStage 0 8 []) = .next t ∧ t.rd (HL_STATUS_STAGE 8) = 1 :=
  ⟨⟨by decide +kernel, by decide +kernel, by decide +kernel⟩, _, rfl, by decide +kernel⟩

theorem test_deskew : (portHostLanes (hostAtStage 1 7 [(HL_STATUS_STAGE 9, 7)]) 5) = [8, 9] ∧
    ∃ t, exec (.deskew 5 [0, 19124]) (hostAtStage 1 7 [(HL_STATUS_STAGE 9, 7)]) = .next t ∧ t.rd (HL_STATUS_STAGE 9) = 8 ∧
    t.rd (PORT_STATUS_MAX_SKEW 5) = 180 := ⟨by decide +kernel, _, rfl, by decide +kernel, by decide +kernel⟩
theorem test_deskew_fails : ∃ t, exec (.deskew 5 [19125, 0]) { hostAtStage 1 7 [(HL_STATUS_STAGE 9, 7)] with
      hostPcs := [(8, [0, 2, 4, 6, 8, 10, 12, 14]), (9, [1, 3, 5, 7, 9, 11, 13, 15])] } = .next t ∧ t.rd (HL_STATUS_STAGE 9) = 7 ∧
    t.rd (PORT_STATUS_FAIL 5) = 1 := ⟨_, rfl, by decide +kernel, by decide +kernel⟩
theorem test_adminUp : Reaches (hostAtStage 0 8 [(PORT_CTRL_ADMIN_UP 5, 1)]) (PORT_CTRL 5) ∧
    ∃ t, exec (.adminUp 5 false) (hostAtStage 0 8 [(PORT_CTRL_ADMIN_UP 5, 1)]) = .next t ∧ t.rd (PORT_STATUS_FAIL 5) = 5 :=
  ⟨⟨by decide +kernel, by decide +kernel, by decide +kernel⟩, _, rfl, by decide +kernel⟩
theorem test_adminUp_on : ∃ t, exec (.adminUp 5 true) (hostAtStage 0 8 [(PORT_CTRL_ADMIN_UP 5, 0)]) = .next t ∧
    t.on (PORT_CTRL_ADMIN_UP 5) = true ∧ t.on (PORT_STATUS_UP 5) = false := ⟨_, rfl, by decide +kernel, by decide +kernel⟩
theorem test_portRestart : ∃ t, exec (.portRestart 5) (hostAtStage 1 8 []) = .next t ∧ t.rd (HL_STATUS_STAGE 8) = 1 ∧ t.rd (HL_STATUS_STAGE 9) = 1 :=
  ⟨_, rfl, by decide +kernel, by decide +kernel⟩
theorem test_portCounterClear : ∃ t, exec (.portCounterClear 5) ((hostAtStage 1 8 []).setCtr (HOST_UE 5) 7) = .next t ∧ t.ctr (HOST_UE 5) = 0 :=
  ⟨_, rfl, by decide +kernel⟩
theorem test_hostCodeword : ∃ t, exec (.outerCodeword (.host 5) (outerIn [5, 6])) (hostAtStage 1 8 [(PORT_STATUS_HOST_READY 5, 1)]) = .next t ∧
    t.ctr (HOST_CW 5) = 1 ∧ t.ctr (HOST_SYM 5) = 2 := ⟨_, rfl, by decide +kernel, by decide +kernel⟩

theorem test_genEn : Reaches (hostAtStage 0 8 []) (HL_PRBS_CTRL 8) ∧ ∃ t, exec (.genEn (.host 8) false true) (hostAtStage 0 8 []) = .next t ∧
    t.on (HL_PRBS_CTRL_GEN_EN 8) = true ∧ t.rd (PORT_STATUS_FAIL 5) = 6 := ⟨⟨by decide +kernel, by decide +kernel, by decide +kernel⟩, _, rfl, by decide +kernel, by decide +kernel⟩
theorem test_genEn_off : patternOnPort ((hostAtStage 0 8 [(HL_PRBS_CTRL_GEN_EN 8, 1)]).wr (HL_PRBS_CTRL_GEN_EN 8) 0) 5 = false ∧
    ∃ t, exec (.genEn (.host 8) false false) (hostAtStage 0 8 [(HL_PRBS_CTRL_GEN_EN 8, 1)]) = .next t ∧ t.rd (HL_STATUS_STAGE 8) = 1 :=
  ⟨by decide +kernel, _, rfl, by decide +kernel⟩
theorem test_inject : ∃ t, exec (.inject (.host 8)) (hostAtStage 0 8 [(HL_PRBS_CTRL_GEN_EN 8, 1)]) = .next t ∧
    tabGet 0 t.injects (HL_PRBS_CTRL 8) = 1 := ⟨_, rfl, by decide +kernel⟩
theorem test_prbsClear : ∃ t, exec (.prbsClear (.host 8)) ((hostAtStage 0 8 []).setCtr (HL_PRBS_ERRS 8) 5) = .next t ∧ t.ctr (HL_PRBS_ERRS 8) = 0 :=
  ⟨_, rfl, by decide +kernel⟩
/-- Symbols of a generator, as they are or inverted, and with every bit wrong. -/
def genSyms (turn : Bool) (k : Nat) : List (Fin 4) := (prbsSymbols false k [true]).1.map fun i => Fin.ofNat 4 (if turn then 3 - i else i)
def wrongSyms : List (Fin 4) := (prbsSymbols false 33 [true]).1.map fun i => Fin.ofNat 4 (i + 2)
theorem test_prbsSync : ∃ t, exec (.prbsSync (.line 3 2) (genSyms true 160)) (up [(RXD_PRBS_CTRL_CHK_EN 3 2, 1)]) = .next t ∧
    t.on (RXD_PRBS_STATUS_SYNC 3 2) = true ∧ t.on (RXD_PRBS_STATUS_INVERTED 3 2) = true ∧ t.ctr (RXD_PRBS_BITS 3 2) = 51 ∧
    t.ctr (RXD_PRBS_ERRS 3 2) = 0 := ⟨_, rfl, by decide +kernel, by decide +kernel, by decide +kernel, by decide +kernel⟩
theorem test_prbsSync_host : ∃ t, exec (.prbsSync (.host 8) (genSyms false 160)) (up [(HL_PRBS_CTRL_CHK_EN 8, 1)]) = .next t ∧
    t.on (HL_PRBS_STATUS_SYNC 8) = true ∧ t.on (HL_PRBS_STATUS_INVERTED 8) = false ∧ t.ctr (HL_PRBS_BITS 8) = 51 := ⟨_, rfl, by decide +kernel, by decide +kernel, by decide +kernel⟩
theorem test_prbsSyncLoss : ∃ t, exec (.prbsSyncLoss (.host 8) wrongSyms) { up [(HL_PRBS_CTRL_CHK_EN 8, 1), (HL_PRBS_STATUS_SYNC 8, 1)] with
      pats := [(HL_PRBS_CTRL 8, { reg := [true] })] } = .next t ∧ t.on (HL_PRBS_STATUS_SYNC 8) = false ∧
    t.ctr (HL_PRBS_ERRS 8) = 65 ∧ t.rd (HL_PRBS_STATUS_RESYNCS 8) = 1 := ⟨_, rfl, by decide +kernel, by decide +kernel, by decide +kernel⟩

theorem test_hostFrame_inputs : Reaches (hostAtStage 1 8 []) (PORT_CTRL 5) ∧ (∃ t, exec (.portRestart 5) (hostAtStage 1 8 []) = .next t) :=
  ⟨⟨by decide +kernel, by decide +kernel, by decide +kernel⟩, _, rfl⟩

def seamAt (x : SeamX) (l : List (Fld × Nat)) : State := ((withFace 3 (up [])).wrs ([(⟨POS_MAP 3, 0, 4⟩, 2), (LANE_ACQ_STATUS_LOCKED 3 2, 1),
  (LANE_ACQ_STATUS_MODE 3 2, 2), (PORT_CFG_VALID 5, 1), (PORT_CFG_FACE 5, 3), (PORT_CFG_TYPE 5, 5), (SEAM_CTRL_RETRY_MAX 3 0, 3)] ++ l)).setSeam 3 2 x
def frameOf (bits55 : Nat) (phase : Fin 64) : SeamIn :=
  let b := bits55 * 2 ^ 8
  { bits := BitVec.ofNat 64 (b + crc8 (msbBits 52 (fb b 4 55))), flagged := false, phase := phase, sent := 0, pairs := 0, drained := 0, lost := 0 }
def helloOf (mx tok : Nat) : SeamIn := frameOf (6 * 2 ^ 52 + 2 * 2 ^ 48 + mx * 2 ^ 44 + tok * 2 ^ 24) 0
theorem test_seam_bad : posOf (seamAt { state := 1, run := 2 } []) 3 2 = some 0 ∧ frameGood { frameOf 5 0 with flagged := true } = false ∧
    ∃ t, exec (.seamFrame 3 2 { frameOf 5 0 with flagged := true }) (seamAt { state := 1, run := 2 } []) = .next t ∧ (t.seam 3 2).run = 0 :=
  ⟨by decide +kernel, by decide +kernel, _, rfl, by decide +kernel⟩
theorem test_seam_search : frameGood (frameOf (6 * 2 ^ 52 + 2 ^ 48) 9) = true ∧
    ∃ t, exec (.seamFrame 3 2 (frameOf (6 * 2 ^ 52 + 2 ^ 48) 9)) (seamAt { state := 1, run := 3, phase := 9 } []) = .next t ∧
    t.rd (SEAM_STATUS_STATE 3 0) = 2 := ⟨by decide +kernel, _, rfl, by decide +kernel⟩
theorem test_seam_hello : frameGood (helloOf 2 77) = true ∧ ∃ t, exec (.seamFrame 3 2 (helloOf 2 77)) ((seamAt { state := 2 } []).setFace 3 { token := 78 }) = .next t ∧
    (t.seam 3 2).state = 3 ∧ (t.seam 3 2).leader = true ∧ (t.seam 3 2).token = 77 := ⟨by decide +kernel, _, rfl, by decide +kernel, by decide +kernel, by decide +kernel⟩
theorem test_seam_hello_fails : ∃ t, exec (.seamFrame 3 2 (helloOf 0 77)) (seamAt { state := 2 } []) = .next t ∧
    (t.seam 3 2).state = 5 ∧ t.rd (SEAM_STATUS_FAIL_REASON 3 0) = 2 := ⟨_, rfl, by decide +kernel, by decide +kernel⟩
theorem test_seam_errs : ∃ t, exec (.seamFrame 3 2 { frameOf 5 0 with flagged := true }) (seamAt { state := 4 } []) = .next t ∧
    t.ctr (FRAME_ERRS 3 0) = 1 := ⟨_, rfl, by decide +kernel⟩
theorem test_seam_ready : ∃ t, exec (.seamFrame 3 2 (frameOf (6 * 2 ^ 52 + 2 * 2 ^ 48 + 2 * 2 ^ 42) 0)) (seamAt { state := 3, measured := true, sf := 2 } []) =
    .next t ∧ t.rd (SEAM_STATUS_STATE 3 0) = 4 := ⟨_, rfl, by decide +kernel⟩
theorem test_seamTrainTimeout : ∃ t, exec (.seamTrainTimeout 3 2) (seamAt { state := 2 } []) = .next t ∧ t.rd (SEAM_STATUS_FAIL_REASON 3 0) = 2 :=
  ⟨_, rfl, by decide +kernel⟩
theorem test_seamRetrainTimer : ∃ t, exec (.seamRetrainTimer 3 2) (seamAt { state := 5 } []) = .next t ∧ (t.seam 3 2).state = 1 := ⟨_, rfl, by decide +kernel⟩
theorem test_retrain : Reaches (seamAt { state := 4 } []) (SEAM_CTRL 3 0) ∧ ∃ t, exec (.retrain 3 0) (seamAt { state := 4 } []) = .next t ∧
    t.rd (SEAM_STATUS_STATE 3 0) = 1 := ⟨⟨by decide +kernel, by decide +kernel, by decide +kernel⟩, _, rfl, by decide +kernel⟩
theorem test_seamCounterClear : ∃ t, exec (.seamCounterClear 3 0) ((seamAt {} []).setCtr (SERVED 3 0) 4) = .next t ∧ t.ctr (SERVED 3 0) = 0 :=
  ⟨_, rfl, by decide +kernel⟩

def retryAt (l : List (Fld × Nat)) : State := seamAt { state := 4, sf := 2, cap := true } ([(LANE_ACQ_STATUS_STATE 3 2, 7), (CODE_STATUS_SYNC 3 2, 1), (CODE_STATUS_AM_LOCK 3 2, 1),
  (RXD_STATUS_MODE 3 2, 2), (SEAM_STATUS_STATE 3 0, 4), (SEAM_STATUS_RETRY_ON 3 0, 1)] ++ l)
theorem test_retry_inputs : codingOn (retryAt []) 3 2 = true ∧ portOf (retryAt []) 3 0 = some 5 ∧ posOf (retryAt []) 3 2 = some 0 ∧
    (retryAt []).rd (RXD_STATUS_LANE 3 2) = 2 := by decide +kernel
theorem test_retry_starts : ∃ t, exec (.outerCodeword (.line 3 2) { outerIn (List.replicate 16 1) with pair := 17 }) (retryAt []) = .next t ∧
    t.on (REPLAY_STATUS_RQ_OUT 3 0) = true ∧ t.rd (REPLAY_STATUS_RQ_SEQ 3 0) = 17 ∧ t.ctr (REPLAYS 3 0) = 1 := ⟨_, rfl, by decide +kernel, by decide +kernel, by decide +kernel⟩
def requestOf (r : Nat) : SeamIn := frameOf (6 * 2 ^ 52 + 2 ^ 48 + r * 2 ^ 12 + 2 ^ 10) 0
/-- The port's lane has pairs 0 to 2 in its retry buffer, and pair 2 is being sent. -/
def bufferAt : State := (retryAt []).setPort 5 { pair := 2, buffer := [(0, [⟨0, false, [], 0⟩, ⟨1, false, [], 1⟩, ⟨2, false, [], 2⟩])] }
theorem test_retry_served : frameGood (requestOf 0) = true ∧ replayOk bufferAt 5 0 = true ∧
    ∃ t, exec (.seamFrame 3 2 (requestOf 0)) bufferAt = .next t ∧ t.on (REPLAY_STATUS_REPLAYING 3 0) = true ∧ t.ctr (SERVED 3 0) = 1 :=
  ⟨by decide +kernel, by decide +kernel, _, rfl, by decide +kernel, by decide +kernel⟩
def episodeAt (a : Nat) : State := let u := retryAt [(REPLAY_STATUS_ATTEMPT 3 0, a)]
  { u with episodes := tabSet none u.episodes 5 (some { n := 17, r := 17, lane := 2, lost := false }) }
theorem test_replayRetry : ∃ t, exec (.replayRetry 5) (episodeAt 1) = .next t ∧ t.rd (REPLAY_STATUS_ATTEMPT 3 0) = 2 := ⟨_, rfl, by decide +kernel⟩
theorem test_replayRetry_exhausted : ∃ t, exec (.replayRetry 5) (episodeAt 3) = .next t ∧ t.on (SEAM_EVENTS_EXHAUSTED 3 0) = true ∧
    t.ctr (EXHAUSTED 3 0) = 1 := ⟨_, rfl, by decide +kernel, by decide +kernel⟩

def hsAt (x : HsX) (l : List (Fld × Nat)) : State :=
  let u := (seamAt { state := 4, sf := 2, token := 5 } ([(OPT_CTRL_TX_LANE_EN 3, 511), (OPT_LIM_B_LANES_PERMITTED 3, 511), (OPT_CTRL_TARGET 3, 4),
    (RELIEF_STATE_RELIEF_DP 3, 8), (LANE_MAP_TX_AUX_TX_RELIEF 3, 8), (SEAM_PARTNER_FACE_TOKEN 3 0, 5), (SEAM_PARTNER_SF_MAX 3 0, 2)] ++ l)).setFace 3 { hs := x, emit := 256 }
  { u with plan := some (planOf [{ ty := 1, data := [3, 0, 3, 3, 8, 1, 0, 0, 0, 0, 0, 0] }]) }
theorem test_relief : faultPort (hsAt {} []) 3 2 = some (0, 5) ∧ reliefReady (hsAt {} []) 3 = true ∧
    faultHolds (hsAt {} [(LANE_SLICE_FAILING 3 2, 1)]) 3 2 2 = true := by decide +kernel
theorem test_permanentFault_policy : ∃ t, exec (.permanentFault 3 2 2) (hsAt { fails := 3 } [(LANE_SLICE_FAILING 3 2, 1), (PORT_CFG_SEAL_POLICY 5, 1)]) = .next t ∧
    t.on (SEAM_STATUS_DEGRADED 3 0) = true := ⟨_, rfl, by decide +kernel⟩
theorem test_lanePermanentFault : ∃ t, exec (.lanePermanentFault 3 2 1) (hsAt {} [(LANE_SLICE_FAILING 3 2, 1), (PORT_CFG_TYPE 5, 1), (PORT_CFG_SEAL_POLICY 5, 1)]) =
    .next t ∧ t.on (SEAM_STATUS_DEGRADED 3 0) = true := ⟨_, rfl, by decide +kernel⟩
theorem test_p8Ready : let s := (hsAt {} [(SEAL_STATUS_HS_STATE 3, 2), (LANE_ACQ_STATUS_LOCKED 3 8, 1)]).setSeam 3 8 { state := 4, sf := 2, token := 5 }
    onePartner s 3 = true ∧ ∃ t, exec (.p8Ready 3 (-3)) s = .next t ∧ t.rd (SEAL_STATUS_HS_STATE 3) = 3 ∧ t.rd (SEAL_STATUS_SKEW 3) = 253 :=
  ⟨by decide +kernel, _, rfl, by decide +kernel, by decide +kernel⟩
theorem test_sealSwitch : ∃ t, exec (.sealSwitch 3) (hsAt { peerSwitch := some 9 } [(SEAL_STATUS_HS_STATE 3, 4)]) = .next t ∧ (t.face 3).hs.switched = true :=
  ⟨_, rfl, by decide +kernel⟩
theorem test_sealCommit_inputs : posLane (hsAt { switched := true } [(SEAL_STATUS_HS_STATE 3, 4)]) 3 0 = 2 ∧
    (∃ t, exec (.sealCommit 3) (hsAt { switched := true } [(SEAL_STATUS_HS_STATE 3, 4)]) = .next t) := ⟨by decide +kernel, _, rfl⟩
theorem test_sealHandshakeTimeout : ∃ t, exec (.sealHandshakeTimeout 3) (hsAt {} [(SEAL_STATUS_HS_STATE 3, 4)]) = .next t ∧
    t.rd (SEAL_STATUS_RESULT 3) = 6 := ⟨_, rfl, by decide +kernel⟩
theorem test_sealRepropose_inputs : (hsAt { again := some 0 } []).rd (SEAL_STATUS_HS_STATE 3) = 0 ∧ posLane (hsAt { again := some 0 } []) 3 0 = 2 ∧
    reliefReady (hsAt { again := some 0 } []) 3 = true := by decide +kernel

theorem test_faceFrame_inputs : (hsAt {} []).rd (PORT_CFG_FACE 5) = 3 ∧ (∃ t, exec (.retrain 3 0) (hsAt {} []) = .next t) := ⟨by decide +kernel, _, rfl⟩

theorem test_warmReset : ∃ t, exec (.warmReset .restore) (up [(RST_STATUS_WARMS, 4)]) = .next t ∧ t.rd RST_STATUS_LAST = 4 ∧ t.rd RST_STATUS_WARMS = 5 :=
  ⟨_, rfl, by decide +kernel, by decide +kernel⟩
theorem test_warmReset_key : ∃ t, exec (.warmReset (.rstCtrl 0x80005753)) (up [(RST_STATUS_WARMS, 4)]) = .next t ∧ t.busStatus = stRange ∧
    t.rd RST_STATUS_WARMS = 4 := ⟨_, rfl, by decide +kernel, by decide +kernel⟩
theorem test_faceReset : Reaches (withFace 3 (up [])) (FACE_RST 3) ∧ initOf (runningRecs (withFace 3 (up []))) = [] ∧
    (∃ t, exec (.faceReset 3) (withFace 3 (up [])) = .next t) := ⟨⟨by decide +kernel, by decide +kernel, by decide +kernel⟩, by decide +kernel, _, rfl⟩
theorem test_faceReset_waits : ∃ t, exec (.faceReset 3) (withFace 3 (up [(SEAL_STATUS_HS_STATE 3, 2)])) = .next t ∧ t.on (FACE_RST_FACE 3) = true :=
  ⟨_, rfl, by decide +kernel⟩
theorem test_datapathReset : ∃ t, exec (.datapathReset 3 4 0) ((withFace 3 (up [(LANE_ACQ_STATUS_STATE 3 2, 7)])).setTag 5 3 2050 (some {})) = .next t ∧
    t.tag 5 3 2050 = none ∧ t.rd (LANE_ACQ_STATUS_LAST_LOSS 3 2) = 7 := ⟨_, rfl, by decide +kernel, by decide +kernel⟩
theorem test_datapathReset_busy : ∃ t, exec (.datapathReset 3 4 0) ((withFace 3 (up [])).wr (RXD_STATUS_ROLE 3 2) 2) = .next t ∧ t.busStatus = stBusy :=
  ⟨_, rfl, by decide +kernel⟩
theorem test_canaryTrip : ∃ t, exec .canaryTrip (up [(RST_STATUS_WARMS, 4)]) = .next t ∧ t.canary = true ∧ t.rd RST_STATUS_WARMS = 4 :=
  ⟨_, rfl, by decide +kernel, by decide +kernel⟩

theorem test_chipDeep_staged : ({ up [] with plan := some (planOf []) } : State).plan.isSome = true ∧ planRestorable { up [] with plan := some (planOf []) } = false ∧
    ∃ t, exec .chipDeep { up [] with plan := some (planOf []) } = .next t ∧ t.busStatus = stRange := ⟨rfl, by decide +kernel, _, rfl, by decide +kernel⟩
theorem test_chipDeep_busy : ∃ t, exec .chipDeep { up [] with plan := some (planOf []), ops := [{ handle := 4, kind := .scrubFull 2, state := .queued, session := 9 }] } = .next t ∧
    t.busStatus = stBusy ∧ t.rd FM_CHIP_STATUS_STATE = 0 := ⟨_, rfl, by decide +kernel, by decide +kernel⟩

theorem test_chipStandby : Reaches (up []) FM_CHIP_CTRL ∧ ∃ t, exec .chipStandby (up []) = .next t ∧ t.rd FM_CHIP_STATUS_STATE = 1 :=
  ⟨⟨by decide +kernel, by decide +kernel, by decide +kernel⟩, _, rfl, by decide +kernel⟩
theorem test_chipStandby_waits : handshakes (withFace 3 (up [(SEAL_STATUS_HS_STATE 3, 2)])) = true ∧
    ∃ t, exec .chipStandby (withFace 3 (up [(SEAL_STATUS_HS_STATE 3, 2)])) = .next t ∧ t.rd FM_CHIP_STATUS_STATE = 0 ∧ t.rd FM_CHIP_STATUS_TRANSIT = 1 :=
  ⟨by decide +kernel, _, rfl, by decide +kernel, by decide +kernel⟩
theorem test_chipRun : ∃ t, exec .chipRun (up [(FM_CHIP_STATUS_STATE, 1)]) = .next t ∧ t.rd FM_CHIP_STATUS_STATE = 0 := ⟨_, rfl, by decide +kernel⟩
theorem test_chipDeep_range : ∃ t, exec .chipDeep (up []) = .next t ∧ t.busStatus = stRange ∧ t.rd FM_CHIP_STATUS_RESULT = stRange :=
  ⟨_, rfl, by decide +kernel, by decide +kernel⟩
def deepAble : State := { up [(PLAN_STATUS_SLOT_A_VALID, 1)] with plan := some { planOf [] with source := 1 } }
theorem test_chipDeep : planRestorable deepAble = true ∧ handshakes deepAble = false ∧ ∃ t, exec .chipDeep deepAble = .next t ∧ t.rd FM_CHIP_STATUS_STATE = 2 :=
  ⟨by decide +kernel, by decide +kernel, _, rfl, by decide +kernel⟩
def slept : State := { up [(FM_CHIP_STATUS_STATE, 2), (PRESENCE_DDR, 1), (WAKE_EN_EN, 31), (WAKE_TIMER_MS, 9)] with plan := some (planOf []), planCopyOk := true }
theorem test_wakeN_inputs : (reapplyImage (wakeBegin slept.calm 2 []) (planOf [])).2.map (fun x => x.1) = some (planOf []).image ∧
    initOf (planOf []).recs = [] ∧ nbit (slept.rd WAKE_EN_EN) 1 = true := by decide +kernel
theorem test_wakeFrame_inputs : let p : List (BitVec 8) := [0x5A, 0x57, 0x41, 0x4B, 0, 0, 0, 0, 0, 0, 0, 0, 0, 0, 0, 0, 0, 0, 0, 0, 0, 0, 0, 0]
    recField (p.map BitVec.toNat) 8 8 = (slept.reg SERIAL_LO).toNat + (slept.reg SERIAL_HI).toNat * 2 ^ 32 ∧
    recField (p.map BitVec.toNat) 16 8 = (slept.reg WAKE_CODE_LO).toNat + (slept.reg WAKE_CODE_HI).toNat * 2 ^ 32 := by decide +kernel
theorem test_refclkLoss : ∃ t, exec (.refclkLoss true) (up []) = .next t ∧ t.on BOARD_STATUS_CHIP_ON_XTAL = true := ⟨_, rfl, by decide +kernel⟩
theorem test_refclkRestored : ∃ t, exec (.refclkRestored false) { up [] with refALost := true } = .next t ∧ t.refALost = false := ⟨_, rfl, by decide +kernel⟩
theorem test_dieToDieFault_inputs : (up []).alive = true ∧ nbit (up []).d2d 2 = false := by decide +kernel

def sealed1 : SealRec := { kind := 4, face := 3, index := 2, sub := 0, reason := 1 }
theorem test_vppOtpApplied : ∃ t, exec .vppOtpApplied { up [] with volatileSeals := [sealed1] } = .next t ∧ t.burnQ = [.seal sealed1] ∧
    t.volatileSeals = [] := ⟨_, rfl, by decide +kernel, by decide +kernel⟩
theorem test_otpRecordBurned : ∃ t, exec .otpRecordBurned { up [(FUSE_STATUS_VPP_OK, 1)] with burnQ := [.seal sealed1] } = .next t ∧
    t.otp.seals = [(sealed1, true)] := ⟨_, rfl, by decide +kernel⟩
theorem test_otpRecordBurned_lock : ∃ t, exec .otpRecordBurned { up [(FUSE_STATUS_VPP_OK, 1)] with burnQ := [.lock 9] } = .next t ∧
    t.on FUSE_STATUS_LIMITS_LOCK = true := ⟨_, rfl, by decide +kernel⟩
theorem test_vppOtpRemoved : ∃ t, exec .vppOtpRemoved { up [(FUSE_STATUS_VPP_OK, 1)] with burnQ := [.seal sealed1] } = .next t ∧
    t.otp.seals = [(sealed1, false)] ∧ t.volatileSeals = [sealed1] := ⟨_, rfl, by decide +kernel, by decide +kernel⟩

def owner : Session := { id := 9, port := 0, ver := 769, authed := true, priv := 3 }
def req : Req := { port := 0, session := 9, seq := 1, major := 3, minor := 1, tag := .verdict true, executing := [] }
def inSession (s : State) : State := { s with plan := some (planOf [{ ty := 1, data := [3, 0, 3, 3, 8, 0, 0, 0, 0, 0, 0, 0] }]), booting := false, sessions := [owner] }
def withOps (l : List LongOp) (s : State) : State := { inSession s with ops := l }
theorem test_accepted : portAlive (inSession (up [])) 0 = true ∧ (inSession (up [])).session 9 = some owner ∧ owner.high < req.seq.toNat ∧
    256 * req.major.toNat + req.minor.toNat = owner.ver := by decide +kernel
theorem test_scrubFull : ∃ t, exec (.scrubFull req 2) (inSession (up [])) = .next t ∧ t.ops.length = 1 ∧ (t.tx.map Msg.status) = [0] :=
  ⟨_, rfl, by decide +kernel, by decide +kernel⟩
theorem test_scrubFull_range : ∃ t, exec (.scrubFull req 4) (inSession (up [])) = .next t ∧ t.ops = [] ∧ (t.tx.map Msg.status) = [12] :=
  ⟨_, rfl, by decide +kernel, by decide +kernel⟩
theorem test_calibrate : ∃ t, exec (.calibrate req 3 5 1) (inSession (up [(PRESENCE_FACES, 8)])) = .next t ∧ (t.ops.map LongOp.kind) = [.calibrate 3 5 1] :=
  ⟨_, rfl, by decide +kernel⟩
theorem test_assayRun : ∃ t, exec (.assayRun req 3 0x4001) (inSession (up [(PRESENCE_FACES, 8), (ASSAY_CTRL_SIGS_OK, 1)])) = .next t ∧
    (t.ops.map LongOp.kind) = [.assayRun 3 0x4001] := ⟨_, rfl, by decide +kernel⟩
theorem test_captureDrain : ∃ t, exec (.captureDrain req 1) (inSession (up [])) = .next t ∧ (t.ops.map LongOp.kind) = [.captureDrain 1] := ⟨_, rfl, by decide +kernel⟩
theorem test_planLoad : ∃ t, exec (.planLoad req 3) (inSession (up [])) = .next t ∧ (t.ops.map LongOp.kind) = [.planLoad 3] := ⟨_, rfl, by decide +kernel⟩
theorem test_planLoad_busy : ∃ t, exec (.planLoad req 3) (withOps [{ handle := 4, kind := .planLoad 1, session := 9 }] (up [])) = .next t ∧
    (t.tx.map Msg.status) = [6] := ⟨_, rfl, by decide +kernel⟩
theorem test_flashWrite : ∃ t, exec (.flashWrite req 1 true) (inSession (up [])) = .next t ∧ (t.ops.map LongOp.kind) = [.flashWrite 1 true] := ⟨_, rfl, by decide +kernel⟩
theorem test_ddrTest : ∃ t, exec (.ddrTest req 0 1) (inSession (up [])) = .next t ∧ (t.ops.map LongOp.kind) = [.ddrTest 0 1] := ⟨_, rfl, by decide +kernel⟩
theorem test_planFloorBurn : ∃ t, exec (.planFloorBurn req 2) (inSession (up [(PLAN_COUNTER_RUNNING, 5)])) = .next t ∧ (t.ops.map LongOp.kind) = [.burnFloor 2] :=
  ⟨_, rfl, by decide +kernel⟩
theorem test_limitsBurn : ∃ t, exec (.limitsBurn req) (inSession (up [])) = .next t ∧ (t.ops.map LongOp.kind) = [.burnLimits] := ⟨_, rfl, by decide +kernel⟩
theorem test_keyWrite : ∃ t, exec (.keyWrite req 2 77) (inSession (up [])) = .next t ∧ (t.ops.map LongOp.kind) = [.burnKey 2 77] := ⟨_, rfl, by decide +kernel⟩
theorem test_keyRevoke : ∃ t, exec (.keyRevoke req 2) (inSession (up [])) = .next t ∧ (t.ops.map LongOp.kind) = [.burnRevoke 2] := ⟨_, rfl, by decide +kernel⟩
theorem test_faceReplan : ∃ t, exec (.faceReplan req 3 1) (inSession (up [])) = .next t ∧ (t.ops.map LongOp.kind) = [.faceReplan 3 1] := ⟨_, rfl, by decide +kernel⟩

def anOp (st : OpState) : LongOp := { handle := 4, kind := .scrubFull 2, state := st, session := 9 }
theorem test_opSuspend : ∃ t, exec (.opSuspend req 4) (withOps [anOp .queued] (up [])) = .next t ∧ (t.ops.map LongOp.state) = [.suspended] := ⟨_, rfl, by decide +kernel⟩
theorem test_opSuspend_running : ∃ t, exec (.opSuspend req 4) (withOps [anOp .running] (up [])) = .next t ∧ (t.ops.map LongOp.state) = [.suspending] :=
  ⟨_, rfl, by decide +kernel⟩
theorem test_opResume : ∃ t, exec (.opResume req 4) (withOps [anOp .suspended] (up [])) = .next t ∧ (t.ops.map LongOp.state) = [.running] := ⟨_, rfl, by decide +kernel⟩
theorem test_opCancel : ∃ t, exec (.opCancel req 4) (withOps [anOp .suspended] (up [])) = .next t ∧ (t.ops.map LongOp.state) = [.cancelled] := ⟨_, rfl, by decide +kernel⟩
theorem test_opCancel_applying : ∃ t, exec (.opCancel req 4) (withOps [{ anOp .running with kind := .planLoad 3, step := 2 }] (up [])) = .next t ∧
    (t.tx.map Msg.status) = [6] := ⟨_, rfl, by decide +kernel⟩
theorem test_opStatus : ∃ t, exec (.opStatus req 4) (withOps [{ anOp .done with progress := 0xFFFF }] (up [])) = .next t ∧ t.ops = [] ∧
    (t.tx.map fun m => m.words.take 2) = [[4 + 3 * 2 ^ 16 + 5 * 2 ^ 24, 0xFFFF]] := ⟨_, rfl, by decide +kernel, by decide +kernel⟩
theorem test_handleExpiry : ∃ t, exec (.handleExpiry 4) (withOps [anOp .failed] (up [])) = .next t ∧ t.ops = [] := ⟨_, rfl, by decide +kernel⟩

theorem test_operationDequeued : isTurn (withOps [anOp .queued] (up [])) (anOp .queued) = true ∧
    ∃ t, exec (.operationDequeued 4) { withOps [anOp .queued] (up []) with time := 50 } = .next t ∧ (t.ops.map fun o => (o.state, o.start)) = [(.running, 50)] :=
  ⟨by decide +kernel, _, rfl, by decide +kernel⟩
theorem test_operationDequeued_vpp : ∃ t, exec (.operationDequeued 4) (withOps [{ anOp .queued with kind := .burnKey 1 77 }] (up [])) = .next t ∧
    (t.ops.map fun o => (o.state, o.result)) = [(.failed, 4)] := ⟨_, rfl, by decide +kernel⟩
theorem test_operationSuspended : ∃ t, exec (.operationSuspended 4 0) (withOps [anOp .suspending] (up [])) = .next t ∧ (t.ops.map LongOp.state) = [.suspended] :=
  ⟨_, rfl, by decide +kernel⟩
theorem test_operationEnd : ∃ t, exec (.operationEnd 4 true []) (withOps [{ anOp .running with kind := .calibrate 3 1 1 }] (up [])) = .next t ∧
    (t.ops.map fun o => (o.state, o.progress)) = [(.done, 0xFFFF)] ∧ (t.tx.map Msg.flags) = [2] := ⟨_, rfl, by decide +kernel, by decide +kernel⟩
theorem test_operationEnd_cancelling : ∃ t, exec (.operationEnd 4 true []) (withOps [anOp .cancelling] (up [])) = .next t ∧
    (t.ops.map LongOp.state) = [.cancelled] := ⟨_, rfl, by decide +kernel⟩

theorem test_planStageData : Reaches (up [(PLAN_STAGE_PTR_PTR, 4)]) PLAN_STAGE_DATA ∧ ∃ t, exec (.planStageData 0x04030201) (up [(PLAN_STAGE_PTR_PTR, 4)]) = .next t ∧
    t.byte 2 0 4 = 1 ∧ t.byte 2 0 7 = 4 ∧ t.rd PLAN_STAGE_PTR_PTR = 8 := ⟨⟨by decide +kernel, by decide +kernel, by decide +kernel⟩, _, rfl, by decide +kernel, by decide +kernel, by decide +kernel⟩
theorem test_planStagePtr : ∃ t, exec (.planStagePtr 7) (up []) = .next t ∧ t.rd PLAN_STAGE_PTR_PTR = 4 ∧ t.claim = some none := ⟨_, rfl, by decide +kernel, by decide +kernel⟩
theorem test_planStageRelease : ∃ t, exec .planStageRelease { up [(PLAN_STAGE_PTR_PTR, 8)] with claim := some none } = .next t ∧ t.claim = none ∧
    t.rd PLAN_STAGE_PTR_PTR = 8 := ⟨_, rfl, by decide +kernel, by decide +kernel⟩
theorem test_planStage_busy : ∃ t, exec (.planStageData 1) { up [] with claim := some (some 4) } = .next t ∧ t.busStatus = stBusy := ⟨_, rfl, by decide +kernel⟩

/-- Face 3 has a tap, and lane 2 of it an ADC at work. -/
def tapped (l : List (Fld × Nat)) : State :=
  let u := up ([(PRESENCE_FACES, 8), (PORT_CFG_VALID 5, 1), (PORT_CFG_FACE 5, 3), (OPT_STATUS_STATE 3, 4), (TAP_CFG_LANE 3, 2), (TAP_CFG_SRC 3, 1), (LANE_ACQ_STATUS_STATE 3 2, 3)] ++ l)
  { u with plan := some (planOf [{ ty := 1, data := [3, 0, 3, 3, 8, 0, 0, 0, 0, 0, 0, 0] }, { ty := 0xA, data := [3, 1, 255, 0] }]) }
def aBlock : ObsIn := { age := 0, frac := 0, freqOff := 0, path := false, sat := false }
def someInput (n : Nat) : TapIn := { age := 0, frac := 0, input := List.replicate n 5 }
/-- Its tap runs with K 1 and has `n` samples of a block. -/
def tapAt (n : Nat) (l : List (Fld × Nat)) : State :=
  let s := tapped ([(TAP_STATUS_STATE 3, 1)] ++ l)
  s.setFace 3 { s.face 3 with tap := { lane := 2, src := 1, k := 1, fed := 301, out := List.replicate n 0 } }
theorem test_tapped : tapExists (tapped []) 3 = true ∧ tapInput (tapped []) 3 = true ∧ Reaches (tapped []) (TAP_CTRL 3) ∧ Reaches (tapped []) (TAP_COEF 3 1 63) :=
  ⟨by decide +kernel, by decide +kernel, ⟨by decide +kernel, by decide +kernel, by decide +kernel⟩, ⟨by decide +kernel, by decide +kernel, by decide +kernel⟩⟩
theorem test_run : ∃ t, exec (.run 3 true) (tapped []) = .next t ∧ t.rd (TAP_STATUS_STATE 3) = 1 := ⟨_, rfl, by decide +kernel⟩
theorem test_run_off : ∃ t, exec (.run 3 false) (tapped [(TAP_CTRL_RUN 3, 1), (TAP_STATUS_STATE 3, 1)]) = .next t ∧ t.rd (TAP_STATUS_STATE 3) = 0 :=
  ⟨_, rfl, by decide +kernel⟩
theorem test_tapSwap : ∃ t, exec (.tapSwap 3) (tapped [(TAP_CTRL_RUN 3, 1)]) = .next t ∧ t.on (TAP_STATUS_SWAP_PEND 3) = true ∧ t.on (TAP_CTRL_RUN 3) = true :=
  ⟨_, rfl, by decide +kernel, by decide +kernel⟩
theorem test_tapSwapApply : ∃ t, exec (.tapSwapApply 3) (tapAt 7 [(TAP_STATUS_SWAP_PEND 3, 1)]) = .next t ∧ t.rd (TAP_CTRL_ACTIVE 3) = 1 ∧
    (t.face 3).tapSwapAt = some 7 := ⟨_, rfl, by decide +kernel, by decide +kernel⟩
theorem test_tapRestart : ∃ t, exec (.tapRestart 3) (tapped [(TAP_STATUS_STATE 3, 1)]) = .next t ∧ t.on (TAP_CTRL_RESTART 3) = true := ⟨_, rfl, by decide +kernel⟩
theorem test_tapCoef : ∃ t, exec (.tapCoef 3 1 63 0x8001) (tapped []) = .next t ∧ t.rd (TAP_COEF_H 3 1 63) = 0x8001 := ⟨_, rfl, by decide +kernel⟩
theorem test_tapCoef_active : ∃ t, exec (.tapCoef 3 0 5 1) (tapped []) = .next t ∧ t.busStatus = stBusy := ⟨_, rfl, by decide +kernel⟩
/-- R237: at K = 1 every second input gives an output sample. -/
theorem test_tapBlock : (tapTake (tapAt 5 []) 3 (someInput 5).input).out.length = 8 ∧ tapDone (tapTake (tapAt 5 []) 3 (someInput 5).input) = false ∧
    ∃ t, exec (.tapBlock 3 (someInput 5)) (tapAt 5 []) = .next t ∧ (t.face 3).tap.out.length = 8 := ⟨by decide +kernel, by decide +kernel, _, rfl, by decide +kernel⟩
/-- R239: the first 137 + 126 symbol periods give no output at K = 1. -/
theorem test_tapBlock_delay : ((tapFeed (tapAt 0 []) 3 { k := 1 } (List.replicate 265 0)).out.length, tapGdelay 8) = (1, 18933) := by decide +kernel
theorem test_tapBlock_stream : ∃ t, exec (.tapBlock 3 (someInput 0)) (tapAt 1024 [(STREAM_STATUS_OPEN 4, 1), (STREAM_STATUS_SRC 4, 1),
    (STREAM_STATUS_INDEX 4, 3), (STREAM_STATUS_CREDIT 4, 2)]) = .next t ∧ t.rd (STREAM_STATUS_CREDIT 4) = 1 ∧ (t.tx.map Msg.flags) = [4] :=
  ⟨_, rfl, by decide +kernel, by decide +kernel⟩
theorem test_tapBlock_drop : ∃ t, exec (.tapBlock 3 (someInput 0)) (tapAt 1024 [(STREAM_STATUS_OPEN 4, 1), (STREAM_STATUS_SRC 4, 1),
    (STREAM_STATUS_INDEX 4, 3)]) = .next t ∧ t.rd (STREAM_DROPS_DROPS 4) = 1 ∧ t.tx = [] := ⟨_, rfl, by decide +kernel, by decide +kernel⟩

theorem test_capture_reach : Reaches (tapped []) (CAP_CTRL 2) ∧ Reaches (tapped []) (CAP_TRIG_TIME_HI 2) :=
  ⟨⟨by decide +kernel, by decide +kernel, by decide +kernel⟩, ⟨by decide +kernel, by decide +kernel, by decide +kernel⟩⟩
def capSet (l : List (Fld × Nat)) : State := tapped ([(CAP_CFG_FACE 2, 3), (CAP_REGION_SIZE 2, 4), (CAP_CFG_FACE 1, 3), (CAP_REGION_SIZE 1, 4), (CAP_REGION_BASE 1, 60)] ++ l)
theorem test_arm : armStatus (capSet []) [2] = stOk ∧ ∃ t, exec (.arm 2) (capSet []) = .next t ∧ t.rd (CAP_STATUS_STATE 2) = 1 := ⟨by decide +kernel, _, rfl, by decide +kernel⟩
theorem test_arm_past : ∃ t, exec (.arm 2) { capSet [(CAP_TRIG_TRIG_SRC 2, 4), (CAP_TRIG_ARG_ARG 2, 30)] with time := 30 } = .next t ∧
    t.rd (CAP_STATUS_STATE 2) = 2 ∧ t.rd (CAP_TRIG_STAMP_LO_STAMP_LO 2) = 30 := ⟨_, rfl, by decide +kernel, by decide +kernel⟩
theorem test_arm_claimed : ∃ t, exec (.arm 2) { capSet [] with claim := some none } = .next t ∧ t.busStatus = stBusy := ⟨_, rfl, by decide +kernel⟩
theorem test_captureArm : let s := { capSet [] with booting := false, sessions := [owner] }
    armStatus s (bitsOf 4 6) = stOk ∧ ∃ t, exec (.captureArm req 6) s = .next t ∧ t.rd (CAP_STATUS_STATE 1) = 1 ∧ t.rd (CAP_STATUS_STATE 2) = 1 ∧
      (t.tx.map Msg.status) = [0] := ⟨by decide +kernel, _, rfl, by decide +kernel, by decide +kernel, by decide +kernel⟩
theorem test_captureArm_range : ∃ t, exec (.captureArm req 16) { capSet [] with booting := false, sessions := [owner] } = .next t ∧ (t.tx.map Msg.status) = [12] :=
  ⟨_, rfl, by decide +kernel⟩
theorem test_force : ∃ t, exec (.force 2) (capSet [(CAP_STATUS_STATE 2, 1)]) = .next t := ⟨_, rfl⟩
theorem test_stop : (∃ t, exec (.stop 2) (capSet [(CAP_STATUS_STATE 2, 1)]) = .next t) ∧
    ∃ t, exec (.stop 2) (capSet []) = .next t ∧ t.rd (CAP_STATUS_STATE 2) = 0 := ⟨⟨_, rfl⟩, _, rfl, by decide +kernel⟩
theorem test_discard : ∃ t, exec (.discard 2) (capSet [(CAP_STATUS_STATE 2, 3)]) = .next t ∧ t.rd (CAP_STATUS_STATE 2) = 0 := ⟨_, rfl, by decide +kernel⟩
theorem test_discard_reading : ∃ t, exec (.discard 2) (capSet [(CAP_STATUS_STATE 2, 4)]) = .next t ∧ t.busStatus = stBusy := ⟨_, rfl, by decide +kernel⟩
theorem test_captureConfigWrite : ∃ t, exec (.captureConfigWrite 2 1 0x3F40) (capSet []) = .next t ∧ t.rd (CAP_REGION_BASE 2) = 63 ∧
    t.rd (CAP_REGION_SIZE 2) = 64 := ⟨_, rfl, by decide +kernel, by decide +kernel⟩
theorem test_captureConfigWrite_range : ∃ t, exec (.captureConfigWrite 2 1 65) (capSet []) = .next t ∧ t.busStatus = stRange := ⟨_, rfl, by decide +kernel⟩
theorem test_captureTrigger : ∃ t, exec (.captureTrigger 2 99 7 true) (capSet [(CAP_STATUS_STATE 2, 1), (CAP_TRIG_TRIG_SRC 2, 3)]) = .next t ∧
    t.rd (CAP_STATUS_STATE 2) = 2 ∧ t.rd (CAP_TRIG_POS_POS 2) = 7 ∧ t.rd (CAP_TRIG_STAMP_LO_STAMP_LO 2) = 99 := ⟨_, rfl, by decide +kernel, by decide +kernel, by decide +kernel⟩
theorem test_captureFull : ∃ t, exec (.captureFull 2 true 77 [5, 6]) (capSet [(CAP_STATUS_STATE 2, 2)]) = .next t ∧ t.rd (CAP_STATUS_STATE 2) = 3 ∧
    t.rd (CAP_STATUS_END 2) = 77 ∧ (t.cap 2).blocks = 1024 ∧ (recWord t (t.cap 2) none (2 ^ 19 - 1)).2 = some 6 :=
  ⟨_, rfl, by decide +kernel, by decide +kernel, by decide +kernel, by decide +kernel⟩

/-- A part with a control port whose frames are 9,000 bytes. -/
def jumbo (l : List (Fld × Nat)) : State :=
  let u := capSet l
  { u with booting := false, sessions := [owner], plan := some (planOf [{ ty := 1, data := [3, 0, 3, 3, 8, 0, 0, 0, 0, 0, 0, 0] }, { ty := 3, data := [0, 0, 1] ++ List.replicate 61 0 },
    { ty := 0xA, data := [3, 1, 255, 0] }]) }
theorem test_streamOpen : portJumbo (jumbo [(CAP_STATUS_STATE 2, 3), (STREAM_STATUS_OPEN 0, 1)]) 0 = true ∧
    streamSource (jumbo [(CAP_STATUS_STATE 2, 3), (STREAM_STATUS_OPEN 0, 1)]) owner 2 2 = stOk ∧
    ∃ t, exec (.streamOpen req 2 2 true 9) (jumbo [(CAP_STATUS_STATE 2, 3), (STREAM_STATUS_OPEN 0, 1)]) = .next t ∧ t.on (STREAM_STATUS_OPEN 1) = true ∧
      t.rd (CAP_STATUS_STATE 2) = 4 ∧ (t.tx.map Msg.words) = [[1]] := ⟨by decide +kernel, by decide +kernel, _, rfl, by decide +kernel, by decide +kernel, by decide +kernel⟩
theorem test_streamOpen_mtu : ∃ t, exec (.streamOpen req 2 2 true 9) { capSet [(CAP_STATUS_STATE 2, 3)] with booting := false, sessions := [owner] } = .next t ∧
    (t.tx.map Msg.status) = [12] := ⟨_, rfl, by decide +kernel⟩
theorem test_streamClose : ∃ t, exec (.streamClose req 1) (jumbo [(STREAM_STATUS_OPEN 1, 1)]) = .next t ∧ t.on (STREAM_STATUS_OPEN 1) = false ∧
    (t.tx.map Msg.status) = [0] := ⟨_, rfl, by decide +kernel, by decide +kernel⟩
theorem test_streamClose_other : ∃ t, exec (.streamClose req 1) { jumbo [(STREAM_STATUS_OPEN 1, 1)] with booting := false, sessions := [{ owner with priv := 1 }] } = .next t ∧
    (t.tx.map Msg.status) = [3] := ⟨_, rfl, by decide +kernel⟩
theorem test_streamCredit : Reaches (jumbo []) (STREAM_CREDIT 1) ∧ ∃ t, exec (.streamCredit 1 0xFFFF) (jumbo [(STREAM_STATUS_OPEN 1, 1), (STREAM_STATUS_CREDIT 1, 2)]) = .next t ∧
    t.rd (STREAM_STATUS_CREDIT 1) = 65535 := ⟨⟨by decide +kernel, by decide +kernel, by decide +kernel⟩, _, rfl, by decide +kernel⟩
def reading (seq : Nat) (consume : Bool) (l : List (Fld × Nat)) : State :=
  ((jumbo ([(STREAM_STATUS_OPEN 1, 1), (STREAM_STATUS_SRC 1, 2), (STREAM_STATUS_INDEX 1, 2), (CAP_STATUS_STATE 2, 4)] ++ l)).setCap 2
    { blocks := 5, size := 5 * 4096, base := 0, region := 2 ^ 22 }).setStream 1 { session := 9, consume := consume, seq := seq }
theorem test_streamBlockSend : ∃ t, exec (.streamBlockSend 1 aBlock) (reading 3 true [(STREAM_STATUS_CREDIT 1, 6)]) = .next t ∧
    t.rd (STREAM_STATUS_CREDIT 1) = 5 ∧ (t.tx.map Msg.flags) = [4] := ⟨_, rfl, by decide +kernel, by decide +kernel⟩
theorem test_streamBlockSend_last : ∃ t, exec (.streamBlockSend 1 aBlock) (reading 4 true [(STREAM_STATUS_CREDIT 1, 6)]) = .next t ∧
    t.on (STREAM_STATUS_OPEN 1) = false ∧ t.rd (CAP_STATUS_STATE 2) = 0 := ⟨_, rfl, by decide +kernel, by decide +kernel⟩
theorem test_streamTimeout : ∃ t, exec (.streamTimeout 1) (reading 3 true []) = .next t ∧ t.on (STREAM_STATUS_OPEN 1) = false ∧ t.rd (CAP_STATUS_STATE 2) = 3 :=
  ⟨_, rfl, by decide +kernel, by decide +kernel⟩
theorem test_dropOldest : Reaches (jumbo []) ARCH_CTRL ∧ ∃ t, exec .dropOldest { jumbo [] with archEntries := [{ id := 7, record := {} }, { id := 8, record := {} }] } = .next t ∧
    (t.archEntries.map ArchEntry.id) = [8] := ⟨⟨by decide +kernel, by decide +kernel, by decide +kernel⟩, _, rfl, by decide +kernel⟩

theorem test_captureFrame_inputs : (∃ t, exec (.stop 2) (capSet [(CAP_STATUS_STATE 2, 1)]) = .next t) ∧ (∃ t, exec .dropOldest (jumbo []) = .next t) := ⟨⟨_, rfl⟩, _, rfl⟩

/-- H3 runs at address 0x100 with the given registers. -/
def hwUp (x : HewerX) : State := (up [(PRESENCE_FACES, 8), (HW_STATUS_STATE 3, 1), (HW_STATUS_PC 3, 0x100)]).setHw 3 x
def regsX : HewerX := { x := [(1, 5), (2, 7), (3, 0x80007FFF), (4, 0xFFFFFFFF)], w := [(31, 9)], rrb := 30 }
theorem test_hewerAt : HewerAt (hwUp regsX) 3 0x100 := ⟨by decide +kernel, by decide +kernel, by decide +kernel⟩
theorem test_add : ∃ t, exec (.add 3 33 4 2) (hwUp regsX) = .next t ∧ tabGet 0 (t.hw 3).w 31 = 6 ∧ t.rd (HW_STATUS_PC 3) = 0x104 ∧ (t.hw 3).cycles = 1 :=
  ⟨_, rfl, by decide +kernel, by decide +kernel, by decide +kernel⟩
theorem test_sub : ∃ t, exec (.sub 3 5 1 2) (hwUp regsX) = .next t ∧ hGet (t.hw 3) 5 = 0xFFFFFFFE := ⟨_, rfl, by decide +kernel⟩
theorem test_and : ∃ t, exec (.and 3 5 3 2) (hwUp regsX) = .next t ∧ hGet (t.hw 3) 5 = 7 := ⟨_, rfl, by decide +kernel⟩
theorem test_or : ∃ t, exec (.or 3 1 1 2) (hwUp regsX) = .next t ∧ hGet (t.hw 3) 1 = 7 := ⟨_, rfl, by decide +kernel⟩
theorem test_xor : ∃ t, exec (.xor 3 1 1 2) (hwUp regsX) = .next t ∧ hGet (t.hw 3) 1 = 2 := ⟨_, rfl, by decide +kernel⟩
theorem test_shl : ∃ t, exec (.shl 3 5 4 4) (hwUp regsX) = .next t ∧ hGet (t.hw 3) 5 = 0x80000000 := ⟨_, rfl, by decide +kernel⟩
theorem test_shr : ∃ t, exec (.shr 3 5 3 1) (hwUp regsX) = .next t ∧ hGet (t.hw 3) 5 = 0x040003FF := ⟨_, rfl, by decide +kernel⟩
theorem test_sra : ∃ t, exec (.sra 3 5 3 1) (hwUp regsX) = .next t ∧ hGet (t.hw 3) 5 = 0xFC0003FF := ⟨_, rfl, by decide +kernel⟩
theorem test_min : ∃ t, exec (.min 3 5 4 2) (hwUp regsX) = .next t ∧ hGet (t.hw 3) 5 = 0xFFFFFFFF := ⟨_, rfl, by decide +kernel⟩
theorem test_max : ∃ t, exec (.max 3 5 4 2) (hwUp regsX) = .next t ∧ hGet (t.hw 3) 5 = 7 := ⟨_, rfl, by decide +kernel⟩
theorem test_conj : ∃ t, exec (.conj 3 5 4) (hwUp regsX) = .next t ∧ hGet (t.hw 3) 5 = 0x1FFFF := ⟨_, rfl, by decide +kernel⟩
theorem test_conj_open : hGet (hwUp regsX |>.hw 3) 3 / 2 ^ 16 = 0x8000 := by decide +kernel
theorem test_swaph : ∃ t, exec (.swaph 3 5 3) (hwUp regsX) = .next t ∧ hGet (t.hw 3) 5 = 0x7FFF8000 := ⟨_, rfl, by decide +kernel⟩
theorem test_addi : ∃ t, exec (.addi 3 5 1 0xFFF) (hwUp regsX) = .next t ∧ hGet (t.hw 3) 5 = 4 := ⟨_, rfl, by decide +kernel⟩
theorem test_movi : ∃ t, exec (.movi 3 5 0x20001) (hwUp regsX) = .next t ∧ hGet (t.hw 3) 5 = 0xFFFE0001 := ⟨_, rfl, by decide +kernel⟩
theorem test_movhi : ∃ t, exec (.movhi 3 3 0x31234) (hwUp regsX) = .next t ∧ hGet (t.hw 3) 3 = 0x12347FFF := ⟨_, rfl, by decide +kernel⟩
theorem test_cmp : ∃ t, exec (.cmp 3 4 2) (hwUp regsX) = .next t ∧ (t.hw 3).hsr = 2 := ⟨_, rfl, by decide +kernel⟩
theorem test_exp : ∃ t, exec (.exp 3 5 1) (hwUp regsX) = .next t ∧ hGet (t.hw 3) 5 = 12 := ⟨_, rfl, by decide +kernel⟩
theorem test_expm : ∃ t, exec (.expm 3 5 1 2) (hwUp regsX) = .next t ∧ hGet (t.hw 3) 5 = 7 := ⟨_, rfl, by decide +kernel⟩
theorem test_mfs : ∃ t, exec (.mfs 3 5 0x21) (hwUp { regsX with acc := [(0, -(2 ^ 39))] }) = .next t ∧ hGet (t.hw 3) 5 = 0xFFFFFF80 := ⟨_, rfl, by decide +kernel⟩
theorem test_mts : ∃ t, exec (.mts 3 4 0) (hwUp { regsX with hsr := 0x40000440 }) = .next t ∧ (t.hw 3).hsr = 0xC0000447 := ⟨_, rfl, by decide +kernel⟩
theorem test_mts_acc : ∃ t, exec (.mts 3 4 0x21) (hwUp { regsX with acc := [(0, 5)] }) = .next t ∧ tabGet 0 (t.hw 3).acc 0 = 5 - 2 ^ 32 := ⟨_, rfl, by decide +kernel⟩

def accX : HewerX := { x := [(1, 0x8000), (2, 0x8000), (3, 0x00030004), (4, 0x7FFF7FFF)], acc := [(0, 0x7FFFFFFF00), (1, 3)] }
theorem test_cmac_wraps : ∃ t, exec (.cmac 3 false 0 1 2 false) (hwUp accX) = .next t ∧ tabGet 0 (t.hw 3).acc 0 = -(2 ^ 39) + 0x3FFFFF00 ∧
    (t.hw 3).hsr = 0xC0 := ⟨_, rfl, by decide +kernel, by decide +kernel⟩
theorem test_cmac_clamps : ∃ t, exec (.cmac 3 true 0 1 2 false) (hwUp accX) = .next t ∧ tabGet 0 (t.hw 3).acc 0 = 2 ^ 39 - 1 ∧ (t.hw 3).hsr = 0x40 :=
  ⟨_, rfl, by decide +kernel, by decide +kernel⟩
theorem test_cmacj : ∃ t, exec (.cmacj 3 false 1 3 3 true) (hwUp accX) = .next t ∧ tabGet 0 (t.hw 3).acc 2 = -25 ∧ tabGet 0 (t.hw 3).acc 3 = 0 :=
  ⟨_, rfl, by decide +kernel, by decide +kernel⟩
theorem test_mac2 : ∃ t, exec (.mac2 3 false 1 3 3 false) (hwUp accX) = .next t ∧ tabGet 0 (t.hw 3).acc 2 = 16 ∧ tabGet 0 (t.hw 3).acc 3 = 9 :=
  ⟨_, rfl, by decide +kernel, by decide +kernel⟩
theorem test_cmadd : ∃ t, exec (.cmadd 3 false 1 3 3 3 false) (hwUp accX) = .next t ∧ tabGet 0 (t.hw 3).acc 2 = 4 * 32768 + 7 ∧
    tabGet 0 (t.hw 3).acc 3 = 3 * 32768 + 24 := ⟨_, rfl, by decide +kernel, by decide +kernel⟩
theorem test_cmaddj : ∃ t, exec (.cmaddj 3 false 1 3 3 3 true) (hwUp accX) = .next t ∧ tabGet 0 (t.hw 3).acc 2 = 4 * 32768 - 25 := ⟨_, rfl, by decide +kernel⟩
theorem test_aset : ∃ t, exec (.aset 3 0 3) (hwUp accX) = .next t ∧ tabGet 0 (t.hw 3).acc 0 = 131072 := ⟨_, rfl, by decide +kernel⟩
theorem test_aclr : ∃ t, exec (.aclr 3 0) (hwUp accX) = .next t ∧ (t.hw 3).acc = [] := ⟨_, rfl, by decide +kernel⟩
theorem test_ashr : ∃ t, exec (.ashr 3 true 0 1) (hwUp { accX with acc := [(0, 5), (1, 7)] }) = .next t ∧ tabGet 0 (t.hw 3).acc 0 = 2 ∧
    tabGet 0 (t.hw 3).acc 1 = 4 := ⟨_, rfl, by decide +kernel, by decide +kernel⟩
theorem test_extr : ∃ t, exec (.extr 3 true 5 0 0) (hwUp { accX with acc := [(0, 0xC000), (1, 0x14000)] }) = .next t ∧ hGet (t.hw 3) 5 = 0x20002 :=
  ⟨_, rfl, by decide +kernel⟩
theorem test_extr_sov : ∃ t, exec (.extr 3 true 5 0 0) (hwUp accX) = .next t ∧ hGet (t.hw 3) 5 = 0x7FFF ∧ (t.hw 3).hsr = 0x100 :=
  ⟨_, rfl, by decide +kernel, by decide +kernel⟩
theorem test_norm : ∃ t, exec (.norm 3 5 0) (hwUp accX) = .next t ∧ hGet (t.hw 3) 5 = 0xFFFFFFF8 := ⟨_, rfl, by decide +kernel⟩
theorem test_add16x2 : ∃ t, exec (.add16x2 3 false true 5 4 3) (hwUp accX) = .next t ∧ hGet (t.hw 3) 5 = 0x7FFF7FFF ∧ (t.hw 3).hsr = 0x100 :=
  ⟨_, rfl, by decide +kernel, by decide +kernel⟩
theorem test_sub16x2 : ∃ t, exec (.sub16x2 3 true false 5 3 4) (hwUp accX) = .next t ∧ hGet (t.hw 3) 5 = 0xC002C002 := ⟨_, rfl, by decide +kernel⟩
theorem test_hist : ∃ t, exec (.hist 3 true 5 6 7) (hwUp { x := [(5, 0x0000FF00), (6, 0x050100FB), (7, 0x0002FFFA)] }) = .next t ∧
    hGet (t.hw 3) 5 = 0x0102FF00 ∧ (t.hw 3).hsr = 0x100 := ⟨_, rfl, by decide +kernel, by decide +kernel⟩

def memX : HewerX := { x := [(1, 0x11223344), (2, 0x55667788), (3, 0x81)], ptr := [(0, 0x100), (2, 0x43F0), (10, 0x100), (18, 0x4000)], resized := 4 }
def hwMem : State := ((hwUp memX).setTag 4 3 0x20 (some {})).setBytes 4 3 0x100 [1, 2, 3, 0x84, 5, 6, 7, 8]
theorem test_hewerMemory_inputs : HewerAt hwMem 3 0x100 ∧ (hAddr memX 0 1 0 4).1 = 0x100 ∧ hwMem.tag 4 3 0x20 = some {} :=
  ⟨⟨by decide +kernel, by decide +kernel, by decide +kernel⟩, by decide +kernel, by decide +kernel⟩
theorem test_ldw : ∃ t, exec (.ldw 3 5 0 1 0) hwMem = .next t ∧ hGet (t.hw 3) 5 = 0x84030201 ∧ hP (t.hw 3) 0 = 0x104 := ⟨_, rfl, by decide +kernel, by decide +kernel⟩
theorem test_ldh : ∃ t, exec (.ldh 3 5 0 0 2) hwMem = .next t ∧ hGet (t.hw 3) 5 = 0xFFFF8403 := ⟨_, rfl, by decide +kernel⟩
theorem test_ldb : ∃ t, exec (.ldb 3 5 0 2 3) hwMem = .next t ∧ hGet (t.hw 3) 5 = 0xFFFFFF84 ∧ hP (t.hw 3) 0 = 0xFF := ⟨_, rfl, by decide +kernel, by decide +kernel⟩
theorem test_ldd : ∃ t, exec (.ldd 3 6 0 3 8) hwMem = .next t ∧ hGet (t.hw 3) 6 = 0x84030201 ∧ hGet (t.hw 3) 7 = 0x08070605 ∧ hP (t.hw 3) 0 = 0x108 :=
  ⟨_, rfl, by decide +kernel, by decide +kernel, by decide +kernel⟩
theorem test_ldd_odd : HewerAt hwMem 3 0x100 ∧ (∃ t, exec (.ldd 3 7 0 3 8) hwMem = .next t) := ⟨⟨by decide +kernel, by decide +kernel, by decide +kernel⟩, _, rfl⟩
theorem test_ldw_resize : (hAddr memX 2 1 0 4) = (0x40F0, 0x40F4, true) ∧ (hAddr memX 0 0 0x7FF8 4).1 % 4 = 0 := by decide +kernel
theorem test_stw : ∃ t, exec (.stw 3 1 0 0 4) hwMem = .next t ∧ (t.byte 4 3 0x104).toNat = 0x44 ∧ (t.byte 4 3 0x107).toNat = 0x11 ∧
    (t.byte 4 3 0x103).toNat = 0x84 := ⟨_, rfl, by decide +kernel, by decide +kernel, by decide +kernel⟩
theorem test_sth : ∃ t, exec (.sth 3 1 0 0 4) hwMem = .next t ∧ (t.byte 4 3 0x105).toNat = 0x33 ∧ (t.byte 4 3 0x106).toNat = 7 := ⟨_, rfl, by decide +kernel, by decide +kernel⟩
theorem test_stb : ∃ t, exec (.stb 3 3 0 0 7) hwMem = .next t ∧ (t.byte 4 3 0x107).toNat = 0x81 := ⟨_, rfl, by decide +kernel⟩
theorem test_std : ∃ t, exec (.std 3 2 0 0 0) hwMem = .next t ∧ (t.byte 4 3 0x100).toNat = 0x88 ∧ (t.byte 4 3 0x104).toNat = 0x81 :=
  ⟨_, rfl, by decide +kernel, by decide +kernel⟩
theorem test_stw_posted : ∃ t, exec (.stw 3 1 1 0 0) (hwUp { memX with ptr := [(1, 0x1C0014)] }) = .next t ∧ t.rd (HW_MBOX_OUT_DATA 3) = 0x11223344 ∧
    (t.hw 3).posted = [(0, HW_MBOX_OUT 3)] := ⟨_, rfl, by decide +kernel, by decide +kernel⟩
theorem test_stw_far : ∃ t, exec (.stw 3 1 1 0 0) (hwUp { memX with ptr := [(1, 0x40200008)] }) = .next t ∧ (t.hw 3).hsr = 0x800 ∧
    t.rd (HW_BUS_STATUS_CODE 3) = 3 := ⟨_, rfl, by decide +kernel, by decide +kernel⟩
theorem test_setp : ∃ t, exec (.setp 3 10 3) (hwUp memX) = .next t ∧ hM (t.hw 3) 2 = 0x81 := ⟨_, rfl, by decide +kernel⟩
theorem test_getp : ∃ t, exec (.getp 3 5 18) (hwUp memX) = .next t ∧ hGet (t.hw 3) 5 = 0x4000 := ⟨_, rfl, by decide +kernel⟩
theorem test_paddi : ∃ t, exec (.paddi 3 2 0x010) (hwUp memX) = .next t ∧ hP (t.hw 3) 2 = 0x4000 ∧ (t.hw 3).hsr = 0x200 := ⟨_, rfl, by decide +kernel, by decide +kernel⟩

theorem test_br : ∃ t, exec (.br 3 0xFFFFFE) (hwUp regsX) = .next t ∧ t.rd (HW_STATUS_PC 3) = 0xFC := ⟨_, rfl, by decide +kernel⟩
theorem test_call : ∃ t, exec (.call 3 3) (hwUp regsX) = .next t ∧ t.rd (HW_STATUS_PC 3) = 0x110 ∧ hGet (t.hw 3) 31 = 0x104 := ⟨_, rfl, by decide +kernel, by decide +kernel⟩
theorem test_bcc : ∃ t, exec (.bcc 3 1 3) (hwUp regsX) = .next t ∧ t.rd (HW_STATUS_PC 3) = 0x110 := ⟨_, rfl, by decide +kernel⟩
theorem test_bcc_not : ∃ t, exec (.bcc 3 0 3) (hwUp regsX) = .next t ∧ t.rd (HW_STATUS_PC 3) = 0x104 := ⟨_, rfl, by decide +kernel⟩
theorem test_jr : ∃ t, exec (.jr 3 3) (hwUp regsX) = .next t ∧ t.rd (HW_STATUS_PC 3) = 0x7FFC := ⟨_, rfl, by decide +kernel⟩
theorem test_loop : ∃ t, exec (.loop 3 0 1 2) (hwUp regsX) = .next t ∧ tabGet 0 (t.hw 3).lc 0 = 5 ∧ tabGet 0 (t.hw 3).le 0 = 0x10C ∧
    t.rd (HW_STATUS_PC 3) = 0x104 := ⟨_, rfl, by decide +kernel, by decide +kernel, by decide +kernel⟩
theorem test_loopr_zero : ∃ t, exec (.loopr 3 1 9 2) (hwUp regsX) = .next t ∧ t.rd (HW_STATUS_PC 3) = 0x110 := ⟨_, rfl, by decide +kernel⟩
theorem test_loop_end : ∃ t, exec (.nop 3) (hwUp { regsX with lc := [(0, 3)], ls := [(0, 0x80)], le := [(0, 0x100)], rot := [(0, true)] }) = .next t ∧
    t.rd (HW_STATUS_PC 3) = 0x80 ∧ (t.hw 3).lc = [(0, 2)] ∧ (t.hw 3).rrb = 29 ∧ hGet (t.hw 3) 34 = 9 := ⟨_, rfl, by decide +kernel, by decide +kernel, by decide +kernel, by decide +kernel⟩
theorem test_reti : ∃ t, exec (.reti 3) (hwUp { hsr := 0x40000800, ipc := 0x204, ihsr := 0x80000042 }) = .next t ∧ (t.hw 3).hsr = 0x80000842 ∧
    t.rd (HW_STATUS_PC 3) = 0x204 := ⟨_, rfl, by decide +kernel, by decide +kernel⟩
theorem test_nop : ∃ t, exec (.nop 3) (hwUp regsX) = .next t ∧ t.hw 3 = { regsX with cycles := 1 } := ⟨_, rfl, by decide +kernel⟩
theorem test_wait : ∃ t, exec (.wait 3) (hwUp regsX) = .next t ∧ t.rd (HW_STATUS_STATE 3) = 2 := ⟨_, rfl, by decide +kernel⟩
theorem test_ei : ∃ t, exec (.ei 3) (hwUp regsX) = .next t ∧ (t.hw 3).hsr = 0x80000000 := ⟨_, rfl, by decide +kernel⟩
theorem test_di : ∃ t, exec (.di 3) (hwUp { regsX with hsr := 0x80000001 }) = .next t ∧ (t.hw 3).hsr = 1 := ⟨_, rfl, by decide +kernel⟩
theorem test_sync : ∃ t, exec (.sync 3) (hwUp { regsX with posted := [(0, 4), (6, 8)] }) = .next t ∧ (t.hw 3).posted = [] ∧ (t.hw 3).hsr = 0x800 :=
  ⟨_, rfl, by decide +kernel, by decide +kernel⟩
theorem test_trap : ∃ t, exec (.trap 3) (hwUp regsX) = .next t ∧ t.rd (HW_STATUS_STATE 3) = 4 ∧ t.rd (HW_STATUS_CAUSE 3) = 6 := ⟨_, rfl, by decide +kernel, by decide +kernel⟩
theorem test_bkpt : ∃ t, exec (.bkpt 3) (hwUp regsX) = .next t ∧ t.rd (HW_STATUS_CAUSE 3) = 7 := ⟨_, rfl, by decide +kernel⟩
theorem test_interruptEntry : ∃ t, exec (.interruptEntry 3) ((hwUp { regsX with hsr := 0x80000000 }).wrs [(HW_IRQ_PEND 3, 0x2C), (HW_IRQ_MASK 3, 0xF8)]) = .next t ∧
    t.rd (HW_STATUS_PC 3) = 0x70 ∧ (t.hw 3).hsr = 0x40000000 := ⟨_, rfl, by decide +kernel, by decide +kernel⟩

def hwSt (st : Nat) (l : List (Fld × Nat)) (x : HewerX) : State := (hwUp x).wrs ((HW_STATUS_STATE 3, st) :: l)
theorem test_hewer_reach : Reaches (hwSt 3 [] {}) (HW_CTRL 3) ∧ Reaches (hwSt 3 [] {}) (HW_ADAPT 3) ∧ Reaches (hwSt 3 [] {}) (0x4000000 + 3 * 0x100000 + 4 * 16383) :=
  ⟨⟨by decide +kernel, by decide +kernel, by decide +kernel⟩, ⟨by decide +kernel, by decide +kernel, by decide +kernel⟩, ⟨by decide +kernel, by decide +kernel, by decide +kernel⟩⟩
theorem test_hewerRun : ∃ t, exec (.hewerRun 3 true) (hwSt 3 [] {}) = .next t ∧ t.rd (HW_STATUS_STATE 3) = 1 := ⟨_, rfl, by decide +kernel⟩
theorem test_hewerRun_halts : ∃ t, exec (.hewerRun 3 false) (hwSt 2 [(HW_CTRL_RUN 3, 1)] {}) = .next t ∧ t.rd (HW_STATUS_STATE 3) = 3 := ⟨_, rfl, by decide +kernel⟩
theorem test_hewerRun_h16 : ∃ t, exec (.hewerRun 16 true) (hwSt 3 [] {}) = .next t ∧ t.busStatus = 3 := ⟨_, rfl, by decide +kernel⟩
theorem test_hewerReset : ∃ t, exec (.hewerReset 3) (hwSt 4 [(HW_CTRL_RUN 3, 1), (HW_IRQ_PEND 3, 9)] regsX) = .next t ∧ t.hw 3 = {} ∧
    t.rd (HW_STATUS_STATE 3) = 1 ∧ t.rd (HW_IRQ_PEND 3) = 0 := ⟨_, rfl, by decide +kernel, by decide +kernel, by decide +kernel⟩
theorem test_hewerStep : ∃ t, exec (.hewerStep 3) (((hwSt 3 [(HW_CTRL_RUN 3, 0)] {}).setTag 3 3 0x20 (some {})).setBytes 3 3 0x100 [0, 0, 0, 0xE0]) = .next t ∧
    t.rd (HW_STATUS_PC 3) = 0x104 ∧ t.rd (HW_STATUS_STATE 3) = 3 := ⟨_, rfl, by decide +kernel, by decide +kernel⟩
theorem test_hwMboxIn : ∃ t, exec (.hwMboxIn 3 0xF0000012) (hwSt 1 [(HW_MBOX_IN_LANE 3, 6)] {}) = .next t ∧ t.reg (HW_MBOX_IN 3) = 0x60000012 ∧
    t.rd (HW_IRQ_PEND 3) = 4 := ⟨_, rfl, by decide +kernel, by decide +kernel⟩
theorem test_kick : ∃ t, exec (.kick 3) (hwSt 1 [(HW_WDOG_PERIOD 3, 100)] { warned := true }) = .next t ∧ (t.hw 3).warned = false ∧
    t.rd (HW_WDOG_PERIOD 3) = 100 := ⟨_, rfl, by decide +kernel, by decide +kernel⟩
theorem test_hwTimer : ∃ t, exec (.hwTimer 3) (hwSt 2 [(HW_TIMER_PERIOD 3, 9), (HW_IRQ_MASK 3, 2)] {}) = .next t ∧ t.rd (HW_STATUS_STATE 3) = 1 := ⟨_, rfl, by decide +kernel⟩
theorem test_watchdogWarning : ∃ t, exec (.watchdogWarning 3) (hwSt 2 [(HW_WDOG_PERIOD 3, 100)] {}) = .next t ∧ t.rd (HW_IRQ_PEND 3) = 1 := ⟨_, rfl, by decide +kernel⟩
theorem test_watchdog : ∃ t, exec (.watchdog 3) (hwSt 2 [(HW_WDOG_PERIOD 3, 100)] {}) = .next t ∧ t.rd (HW_STATUS_CAUSE 3) = 5 := ⟨_, rfl, by decide +kernel⟩
theorem test_postedWriteStatus : ∃ t, exec (.postedWriteStatus 3) (hwSt 1 [] { posted := [(12, 0x1300004), (0, 8)] }) = .next t ∧
    t.hw 3 = { posted := [(0, 8)], hsr := 0x800 } ∧ t.rd (HW_BUS_STATUS_CODE 3) = 12 := ⟨_, rfl, by decide +kernel, by decide +kernel⟩
theorem test_overlayDone : ∃ t, exec (.overlayDone 3) (hwSt 1 [(HW_OVL_CTRL_START 3, 1), (HW_OVL_DST_OFFSET 3, 0xFFFC), (HW_OVL_CTRL_LEN 3, 8)] {}) = .next t ∧
    t.rd (HW_OVL_CTRL_STATUS 3) = 2 ∧ t.rd (HW_IRQ_PEND 3) = 128 := ⟨_, rfl, by decide +kernel, by decide +kernel⟩
theorem test_h16Restart : ∃ t, exec .h16Restart ((up [(HW_STATUS_STATE 16, 4), (HW_CTRL_RUN 16, 1)]).setHw 16 regsX) = .next t ∧
    t.rd (HW_STATUS_STATE 16) = 1 ∧ (t.hw 16).x = [] := ⟨_, rfl, by decide +kernel, by decide +kernel⟩
theorem test_programMemoryWrite : ∃ t, exec (.programMemoryWrite 3 3 0x11223344) ((hwSt 3 [] {}).setTag 3 3 1 (some {})) = .next t ∧ (t.byte 3 3 12).toNat = 0x44 ∧
    (t.byte 3 3 15).toNat = 0x11 := ⟨_, rfl, by decide +kernel, by decide +kernel⟩
theorem test_programMemoryWrite_busy : ∃ t, exec (.programMemoryWrite 3 3 0x11223344) (hwSt 1 [] {}) = .next t ∧ t.busStatus = stBusy := ⟨_, rfl, by decide +kernel⟩
theorem test_overlayStart : ∃ t, exec (.overlayStart 3 true 0x1FFFC) (hwSt 1 [] {}) = .next t ∧ t.on (HW_OVL_CTRL_START 3) = true ∧
    t.rd (HW_OVL_CTRL_LEN 3) = 0x1FFFC := ⟨_, rfl, by decide +kernel, by decide +kernel⟩
theorem test_overlayStart_range : ∃ t, exec (.overlayStart 3 true 2) (hwSt 1 [] {}) = .next t ∧ t.busStatus = stRange := ⟨_, rfl, by decide +kernel⟩
theorem test_ack : ∃ t, exec (.ack 3) (hwSt 1 [(HW_ADAPT_HOLD 3, 1)] {}) = .next t ∧ t.on (HW_ADAPT_ACK 3) = true ∧ t.on (HW_ADAPT_HOLD 3) = true ∧
    (t.hw 3).posted = [(0, HW_ADAPT 3)] := ⟨_, rfl, by decide +kernel, by decide +kernel, by decide +kernel⟩

theorem test_hewerFrame_inputs : (∃ t, exec (.trap 3) (hwUp regsX) = .next t) ∧ (∃ t, exec (.interruptEntry 3) (hwUp regsX) = .next t) := ⟨⟨_, rfl⟩, _, rfl⟩

theorem test_encoding_cmadd : HInstr.decode 0x4E657A70 = some (.mac .cmadd true 1 37 30 39 false) ∧ pairBit 0x4E657A70 = false := by decide +kernel
theorem test_encoding_add : HInstr.decode 0b00000000000101000010100011000001 = some (.alu .add false 5 2 35) := by decide +kernel
theorem test_encoding_ldd : HInstr.decode 0b10000100000110101011111111111000 = some (.load .d 6 5 1 0x1FF8) := by decide +kernel
theorem test_encoding_std_odd : HInstr.decode 0b10010100000111000000000000000000 = none := by decide +kernel
theorem test_encoding_bcc : HInstr.decode 0b11000100010111111111111111111111 = some (.bcc 5 0xFFFFF) := by decide +kernel
theorem test_encoding_loopr : HInstr.decode 0b11010101100001110000000000001000 = some (.loop true 1 7 8) ∧
    pairBit 0b11010101100001110000000000001000 = true := by decide +kernel
theorem test_encoding_zero : HInstr.decode 0 = none := by decide +kernel
theorem test_encoding_inputs : ∀ d p upd off, HInstr.nop = .load .d d p upd off ∨ HInstr.nop = .store .d d p upd off → d.val % 2 = 0 := by
  intro d p upd off h; cases h <;> rename_i h <;> cases h

/-- Port A with an IPv4 address 10.0.0.1 and PTP in domain 7. -/
def ptpUp (x : PtpX) (l : List (Fld × Nat)) : State :=
  { inSession (up l) with ptp := x, time := 5000, plan := some (planOf [{ ty := 3, data := [0, 0, 1, 6, 0, 0, 7, 0, 10, 0, 0, 1, 8] ++ List.replicate 51 0 }]) }
def gm : PtpMaster := { port := 0, id := 77, rank := 5 }
theorem test_ptp_inputs : portAlive (ptpUp {} []) 0 = true ∧ ptpTakes (ptpUp {} []) 0 7 = true ∧ ptpTakes (ptpUp {} []) 0 6 = false ∧
    fromMaster (ptpUp { master := some gm } []) 0 77 = true ∧ ownAddr (ptpUp {} []) 0 false 0x0A000001 = true ∧ ownAddr (up []) 0 false 0x0A000001 = false := by decide +kernel
theorem test_controlPortRateTry : ∃ t, exec (.controlPortRateTry 0) { up [(CP_CTRL_RATE_CAP 0, 1)] with cpTry := [(0, 4)] } = .next t ∧ tabGet 0 t.cpTry 0 = 2 :=
  ⟨_, rfl, by decide +kernel⟩
theorem test_controlPortLinkUp : ∃ t, exec (.controlPortLinkUp 0) { up [] with cpTry := [(0, 4)] } = .next t ∧ t.on (CP_STATUS_LINK 0) = true ∧
    t.rd (CP_STATUS_RATE 0) = 3 := ⟨_, rfl, by decide +kernel, by decide +kernel⟩
theorem test_controlPortLinkLoss : ∃ t, exec (.controlPortLinkLoss 0) (inSession (up [(CP_STATUS_LINK 0, 1)])) = .next t ∧ t.on (CP_STATUS_LINK 0) = false ∧
    t.sessions = [owner] := ⟨_, rfl, by decide +kernel, by decide +kernel⟩
theorem test_pause : ∃ t, exec (.pause 0 9) (up [(CP_STATUS_LINK 0, 1)]) = .next t ∧ t.on (CP_STATUS_PAUSED 0) = true := ⟨_, rfl, by decide +kernel⟩
theorem test_pauseEnd : ∃ t, exec (.pauseEnd 0) (up [(CP_STATUS_PAUSED 0, 1)]) = .next t ∧ t.on (CP_STATUS_PAUSED 0) = false := ⟨_, rfl, by decide +kernel⟩
theorem test_cpRestart : Reaches (up []) (CP_CTRL 0) ∧ ∃ t, exec (.cpRestart 0) (up [(CP_STATUS_LINK 0, 1), (CP_CTRL_RATE_CAP 0, 2)]) = .next t ∧
    t.on (CP_STATUS_LINK 0) = false ∧ tabGet 0 t.cpTry 0 = 3 := ⟨⟨by decide +kernel, by decide +kernel, by decide +kernel⟩, _, rfl, by decide +kernel, by decide +kernel⟩
theorem test_cpErrsClear : ∃ t, exec (.cpErrsClear 0) (up [(CP_ERRS_STALE 0, 2)]) = .next t ∧ t.reg (CP_ERRS 0) = 0 := ⟨_, rfl, by decide +kernel⟩
theorem test_arp : ∃ t, exec (.arp 0 0x0A000001) ((ptpUp {} []).wr MAC_BASE_LO_MAC_LO 0x11223344) = .next t ∧ (t.tx.map Msg.op) = [0x100] ∧
    (t.tx.map Msg.words) = [[0x11223344, 0, 0x0A000001]] := ⟨_, rfl, by decide +kernel, by decide +kernel⟩
theorem test_arp_other : ∃ t, exec (.arp 0 0x0A000002) (ptpUp {} []) = .next t ∧ t.tx = [] ∧ t.rd (CP_ERRS_MALFORMED 0) = 1 := ⟨_, rfl, by decide +kernel, by decide +kernel⟩
theorem test_neighbourSolicitation : ∃ t, exec (.neighbourSolicitation 0 0xFE80000000000000020000FFFE000000) (up []) = .next t ∧ (t.tx.map Msg.op) = [0x101] :=
  ⟨_, rfl, by decide +kernel⟩
theorem test_icmpEcho : ∃ t, exec (.icmpEcho 0 true 0xFE80000000000000020000FFFE000000 [5]) (up []) = .next t ∧ (t.tx.map Msg.words) = [[5]] := ⟨_, rfl, by decide +kernel⟩
theorem test_malformed : ∃ t, exec (.malformed 0) (up [(CP_ERRS_MALFORMED 0, 255)]) = .next t ∧ t.rd (CP_ERRS_MALFORMED 0) = 255 := ⟨_, rfl, by decide +kernel⟩
theorem test_ptpSync : ∃ t, exec (.ptpSync 0 7 77 false 4000) (ptpUp { master := some gm, delay := 950 } [(TIME_STATUS_STATE, 2)]) = .next t ∧
    t.rd TIME_STATUS_OFFSET = 50 ∧ t.time = 5000 ∧ t.ptp.near = true := ⟨_, rfl, by decide +kernel, by decide +kernel, by decide +kernel⟩
theorem test_ptpSync_inputs : (ptpUp { master := some gm, fresh := true } []).ptp.fresh = true ∧
    (∃ t, exec (.ptpSync 0 7 77 false 4000) (ptpUp { master := some gm, fresh := true } []) = .next t) := ⟨by decide +kernel, _, rfl⟩
theorem test_ptpFollowUp : ∃ t, exec (.ptpFollowUp 0 7 77 3000) (ptpUp { master := some gm, arrival := some 4900, delay := 900 } []) = .next t ∧
    t.rd TIME_STATUS_OFFSET = 1000 ∧ t.ptp.big = 0 := ⟨_, rfl, by decide +kernel, by decide +kernel⟩
theorem test_ptpDelayResp : ∃ t, exec (.ptpDelayResp 0 7 77 100 130) (ptpUp { master := some gm, raw := some 70 } []) = .next t ∧ t.ptp.delay = 50 :=
  ⟨_, rfl, by decide +kernel⟩
theorem test_ptpAnnounce : ∃ t, exec (.ptpAnnounce 0 7 77 5) (ptpUp {} [(TIME_STATUS_STATE, 3)]) = .next t ∧ t.ptp.master = some gm ∧ t.rd TIME_STATUS_STATE = 1 :=
  ⟨_, rfl, by decide +kernel, by decide +kernel⟩
theorem test_ptpAnnounce_better : ∃ t, exec (.ptpAnnounce 0 7 78 4) (ptpUp { heard := [gm], master := some gm } []) = .next t ∧
    (t.ptp.master.map PtpMaster.id) = some 78 := ⟨_, rfl, by decide +kernel⟩
theorem test_ptpAnnounceTimeout : ∃ t, exec .ptpAnnounceTimeout (ptpUp { heard := [gm], master := some gm } []) = .next t ∧ t.rd TIME_STATUS_STATE = 3 :=
  ⟨_, rfl, by decide +kernel⟩
theorem test_timeLocked : ∃ t, exec .timeLocked (ptpUp { master := some gm, near := true } [(TIME_STATUS_STATE, 1)]) = .next t ∧ t.rd TIME_STATUS_STATE = 2 :=
  ⟨_, rfl, by decide +kernel⟩

theorem test_hello : ∃ t, exec (.hello 0 21 3 0 3 5 (List.replicate 32 7) (List.replicate 97 4)) (up [(VAULT_STATUS_IDENT_OK, 1)]) = .next t ∧ (t.sessions.map fun y => (y.id, y.ver)) = [(21, 769)] ∧
    (t.tx.map fun m => (m.op, m.status)) = [(1, 0)] := ⟨_, rfl, by decide +kernel, by decide +kernel⟩
theorem test_hello_version : ∃ t, exec (.hello 0 21 4 0 4 5 (List.replicate 32 7) (List.replicate 97 4)) (up [(VAULT_STATUS_IDENT_OK, 1)]) = .next t ∧ (t.tx.map Msg.status) = [stBadVersion] := ⟨_, rfl, by decide +kernel⟩
theorem test_hello_identity : ∃ t, exec (.hello 0 21 3 0 3 5 (List.replicate 32 7) (List.replicate 97 4)) (up []) = .next t ∧ (t.tx.map Msg.status) = [stAuthFail] := ⟨_, rfl, by decide +kernel⟩
theorem test_auth_fails : (∃ t, exec (.auth req (List.replicate 97 4) (.verdict false)) { inSession (up []) with sessions := [{ owner with authed := false }] } = .next t) ∧
    keyPriv (up []) 5 = none := ⟨⟨_, rfl⟩, by decide +kernel⟩
theorem test_auth_inputs : keyPriv { up [] with otp := { keys := [(1, 5, true)] } } 5 = some 3 := by decide +kernel
theorem test_repeat : let m : Msg := { port := 0, session := 9, seq := 1, ver := 769, op := 0x11, flags := 1, status := 0, words := [] }
    ∃ t, exec (.write req 0x13C0014 5) { inSession (up []) with sessions := [{ owner with cache := [m] }] } = .next t ∧ t.tx = [m] := ⟨_, rfl, by decide +kernel⟩
theorem test_read : Reaches (inSession (hwUp {})) (HW_MBOX_OUT 3) ∧ ∃ t, exec (.read req 0x13C0014) (inSession ((hwUp {}).wr (HW_MBOX_OUT_DATA 3) 9)) = .next t ∧
    (t.tx.map Msg.words) = [[9]] := ⟨⟨by decide +kernel, by decide +kernel, by decide +kernel⟩, _, rfl, by decide +kernel⟩
theorem test_write : ∃ t, exec (.write req 0x13C0014 7) (inSession (hwUp {})) = .next t ∧ t.rd (HW_MBOX_OUT_DATA 3) = 7 ∧ (t.tx.map Msg.status) = [0] :=
  ⟨_, rfl, by decide +kernel, by decide +kernel⟩
theorem test_write_reader : ∃ t, exec (.write req 0x13C0014 7) { inSession (hwUp {}) with sessions := [{ owner with priv := 0 }] } = .next t ∧
    t.rd (HW_MBOX_OUT_DATA 3) = 0 ∧ (t.tx.map Msg.status) = [3] := ⟨_, rfl, by decide +kernel, by decide +kernel⟩
theorem test_accessTimeout : ∃ t, exec (.accessTimeout req 0x13C0014 (some 7) true) (inSession (hwUp {})) = .next t ∧ t.rd (HW_MBOX_OUT_DATA 3) = 7 := ⟨_, rfl, by decide +kernel⟩
theorem test_readBlock : ∃ t, exec (.readBlock req 0x13C0014 1) (inSession ((hwUp {}).wr (HW_MBOX_OUT_DATA 3) 9)) = .next t ∧ (t.tx.map Msg.words) = [[1, 9]] :=
  ⟨_, rfl, by decide +kernel⟩
theorem test_readBlock_range : ∃ t, exec (.readBlock req 0x13C0014 0) (inSession (hwUp {})) = .next t ∧ (t.tx.map Msg.status) = [12] := ⟨_, rfl, by decide +kernel⟩
theorem test_writeBlock : ∃ t, exec (.writeBlock req 0x13C0014 [7]) (inSession (hwUp {})) = .next t ∧ t.rd (HW_MBOX_OUT_DATA 3) = 7 ∧ (t.tx.map Msg.words) = [[1]] :=
  ⟨_, rfl, by decide +kernel, by decide +kernel⟩
theorem test_registerWrite : ∃ t, exec (.registerWrite 0x13C0014 7) (hwUp {}) = .next t ∧ t.rd (HW_MBOX_OUT_DATA 3) = 7 := ⟨_, rfl, by decide +kernel⟩
theorem test_registerWrite_range : ∃ t, exec (.registerWrite 0x13C0016 7) (hwUp {}) = .next t ∧ t.busStatus = stRange := ⟨_, rfl, by decide +kernel⟩
theorem test_counterLoRead : domStatus (inSession (hostAtStage 1 8 [])) (HOST_CW 5) = (stOk, 0) ∧
    ∃ t, exec (.counterLoRead 9 (BitVec.ofNat 32 (HOST_CW 5))) (inSession ((hostAtStage 1 8 []).setCtr (HOST_CW 5) (3 * 2 ^ 32 + 4))) = .next t ∧
    (t.sessions.map Session.latches) = [[⟨HOST_CW 5, 3⟩]] := ⟨by decide +kernel, _, rfl, by decide +kernel⟩
theorem test_snapHiRead : domStatus (inSession (up [])) SNAP_HI = (stOk, 0) ∧ ∃ t, exec (.snapHiRead 9) (inSession (up [])) = .next t ∧
    (t.sessions.map Session.snapSel) = [8] := ⟨by decide +kernel, _, rfl, by decide +kernel⟩
theorem test_sessionTimeout : ∃ t, exec (.sessionTimeout 9) (inSession (up [])) = .next t ∧ t.sessions = [] := ⟨_, rfl, by decide +kernel⟩
theorem test_snap : ∃ t, exec (.snap req) { (inSession (hostAtStage 1 8 [])).setCtr (HOST_CW 5) 77 with time := 6, sessions := [owner], booting := false } = .next t ∧
    tabGet 0 t.shadows (HOST_CW 5) = 77 ∧ t.rd SNAP_STATUS_GEN = 1 := ⟨_, rfl, by decide +kernel, by decide +kernel⟩
theorem test_snap_busy : ∃ t, exec (.snap req) (inSession (up [(SNAP_STATUS_BUSY, 1)])) = .next t ∧ (t.tx.map Msg.status) = [6] := ⟨_, rfl, by decide +kernel⟩
theorem test_snapDone : ∃ t, exec .snapDone (up [(SNAP_STATUS_BUSY, 1)]) = .next t ∧ t.on SNAP_STATUS_BUSY = false := ⟨_, rfl, by decide +kernel⟩
theorem test_tallyFreeze : ∃ t, exec (.tallyFreeze req) (inSession (up [])) = .next t ∧ t.on TALLY_STATUS_FROZEN = true := ⟨_, rfl, by decide +kernel⟩
theorem test_tallyThaw : ∃ t, exec (.tallyThaw req) (inSession (up [(TALLY_STATUS_FROZEN, 1)])) = .next t ∧ t.on TALLY_STATUS_FROZEN = false := ⟨_, rfl, by decide +kernel⟩
theorem test_freezeTimeout : ∃ t, exec .freezeTimeout (up [(TALLY_STATUS_FROZEN, 1), (TALLY_CTRL_FREEZE_MAX, 9)]) = .next t ∧ t.on TALLY_STATUS_FROZEN = false :=
  ⟨_, rfl, by decide +kernel⟩

def ticking (l : List (Fld × Nat)) : State := (withFace 3 (up [])).wrs ([(HW_STATUS_STATE 17, 1), (HW_STATUS_STATE 16, 1), (TS_THROTTLE_THROTTLE, 800), (TS_THROTTLE_ALERT, 840), (TS_HYST_HYST, 40)] ++ l)
theorem test_schedulerTick : ∃ t, exec .schedulerTick (ticking []) = .next t ∧ t.ticks = 1 ∧ t.rd (FM_FACE_PWR_EST 3) = 5 :=
  ⟨_, rfl, by decide +kernel, by decide +kernel⟩
theorem test_integrityWait : ∃ t, exec (.integrityWait 3 false 2) { up [] with assayQ := [{ f := 3, dir := 0, dp := 2 }] } = .next t ∧
    (t.assayQ.map AssayItem.logged) = [true] := ⟨_, rfl, by decide +kernel⟩
theorem test_sensorConversion : ∃ t, exec (.sensorConversion 6 800) (ticking []) = .next t ∧ t.rd (TS_VALUE 6) = 800 ∧
    t.on (FM_FACE_PWR_THROTTLE 3) = true ∧ t.on FM_BUDGET_STATUS_THROTTLE = false := ⟨_, rfl, by decide +kernel, by decide +kernel, by decide +kernel⟩
theorem test_sensorConversion_cool : ∃ t, exec (.sensorConversion 6 759) (ticking [(TS_VALUE 6, 801), (TS_VALUE 7, 700), (FM_FACE_PWR_THROTTLE 3, 1)]) = .next t ∧
    t.on (FM_FACE_PWR_THROTTLE 3) = false := ⟨_, rfl, by decide +kernel⟩
theorem test_sensorConversion_alert : ∃ t, exec (.sensorConversion 32 840) (ticking []) = .next t ∧ t.on TS_STATUS_ALERT = true ∧
    t.on FM_BUDGET_STATUS_THROTTLE = true := ⟨_, rfl, by decide +kernel, by decide +kernel⟩
theorem test_sensorConversion_range : ∃ t, exec (.sensorConversion 6 1201) (ticking []) = .next t ∧ t.on (TS_FAILED 6) = true ∧
    t.rd (TS_FAIL_CAUSE 6) = 1 := ⟨_, rfl, by decide +kernel, by decide +kernel⟩
theorem test_sensorFailure : ∃ t, exec (.sensorFailure 6 2) (ticking [(TS_VALUE 7, 400)]) = .next t ∧ t.rd (TS_VALUE 6) = 448 ∧
    t.rd (TS_FAIL_CAUSE 6) = 3 := ⟨_, rfl, by decide +kernel, by decide +kernel⟩
theorem test_throttleAction : ∃ t, exec (.throttleAction 3) (ticking [(FM_FACE_PWR_THROTTLE 3, 1)]) = .next t ∧ (t.shed true 3).acts = [.obs] :=
  ⟨_, rfl, by decide +kernel⟩
theorem test_throttleRelease : ∃ t, exec (.throttleRelease 3) ((ticking []).setShed true 3 { acts := [.obs, .integ] }) = .next t ∧
    (t.shed true 3).acts = [.obs] := ⟨_, rfl, by decide +kernel⟩
theorem test_throttleAction_integ : ∃ t, exec (.throttleAction 3) ((ticking [(FM_FACE_PWR_THROTTLE 3, 1)]).setShed true 3 { acts := [.obs] }) = .next t ∧
    (t.shed true 3).acts = [.obs, .integ] := ⟨_, rfl, by decide +kernel⟩
theorem test_adaptAckTimeout : ∃ t, exec (.adaptAckTimeout 3) (up [(HW_ADAPT_HOLD 3, 1)]) = .next t ∧ t.rd (HW_ADAPT_HOLD 3) = 1 := ⟨_, rfl, by decide +kernel⟩

theorem test_railConfirm : ∃ t, exec (.railConfirm 1 false true 2560) ((ticking [(FM_RAIL_VOLT 1, 750)]).setRail 1 { cmd := 750, confirmed := 800, waits := true }) = .next t ∧
    (t.rail 1).confirmed = 750 ∧ (t.rail 1).failed = false := ⟨_, rfl, by decide +kernel, by decide +kernel⟩
theorem test_railConfirm_nak : ∃ t, exec (.railConfirm 1 true true 2560) ((ticking []).setRail 1 { cmd := 750, confirmed := 800, waits := true }) = .next t ∧
    (t.rail 1).confirmed = 800 ∧ t.rd BOARD_STATUS_RAIL_ERR = 2 := ⟨_, rfl, by decide +kernel, by decide +kernel⟩
theorem test_railRetry : ∃ t, exec (.railRetry 5) ((ticking []).setRail 5 { cmd := 700, confirmed := 600, failed := true }) = .next t ∧
    (t.rail 5).waits = true ∧ t.rd (FM_FACE_RAIL_VOLT 1) = 700 := ⟨_, rfl, by decide +kernel, by decide +kernel⟩
theorem test_ageing : ∃ t, exec (.ageingMeasurement 33 500 true) (ticking []) = .next t ∧ t.rd (AGE_MON_FREQ 33) = 500 ∧ nbit (t.rd (HW_IRQ_PEND 17)) 6 = true :=
  ⟨_, rfl, by decide +kernel, by decide +kernel⟩
theorem test_ageing_zero : ∃ t, exec (.ageingMeasurement 33 0 true) (ticking []) = .next t ∧ t.on (AGE_MON_FAILED 33) = true := ⟨_, rfl, by decide +kernel⟩

theorem test_madcDirect : Reaches (faceIn 3 3 []) MADC_CHSEL ∧ ∃ t, exec (.madcDirect 111) (faceIn 3 3 [(MADC_DATA_VALID, 1)]) = .next t ∧ t.on MADC_CHSEL_START = true ∧
    t.on MADC_DATA_VALID = false := ⟨⟨by decide +kernel, by decide +kernel, by decide +kernel⟩, _, rfl, by decide +kernel, by decide +kernel⟩
theorem test_madcDirect_range : ∃ t, exec (.madcDirect 112) (faceIn 3 3 []) = .next t ∧ t.busStatus = stRange := ⟨_, rfl, by decide +kernel⟩
theorem test_selfcal : ∃ t, exec .selfcal (faceIn 3 3 [(MADC_STATUS_CAL_DONE, 1)]) = .next t ∧ t.on MADC_CTRL_SELFCAL = true ∧ t.on MADC_STATUS_CAL_DONE = false :=
  ⟨_, rfl, by decide +kernel, by decide +kernel⟩
theorem test_selfcal_duplex : ∃ t, exec .selfcal (faceIn 5 5 []) = .next t ∧ t.busStatus = stBusy := ⟨_, rfl, by decide +kernel⟩
theorem test_selfcalDone : ∃ t, exec (.selfcalDone 3 4) (faceIn 3 3 [(MADC_CTRL_SELFCAL, 1)]) = .next t ∧ t.rd MADC_OFFSET_OFFSET = 4 ∧ t.on MADC_CTRL_SELFCAL = false :=
  ⟨_, rfl, by decide +kernel, by decide +kernel⟩
theorem test_madcConversion : ∃ t, exec (.madcConversion 0x123) (faceIn 3 3 [(MADC_STATUS_CAL_DONE, 1), (MADC_CHSEL_START, 1), (MADC_CHSEL_CH, 9)]) = .next t ∧
    t.rd MADC_DATA_CODE = 0x123 ∧ t.rd MADC_DATA_CH = 9 := ⟨_, rfl, by decide +kernel, by decide +kernel⟩
def sequencing (avg len : Nat) (acc : Nat × Nat) : State :=
  let u := faceIn 3 3 [(MADC_STATUS_CAL_DONE, 1), (MADC_STATUS_SEQ_ACTIVE, 1), (MADC_SEQ_ENTRY0_AVG 0, avg), (MADC_SEQ_ENTRY1_HI 0, 4095), (HW_STATUS_STATE 16, 1), (MADC_STATUS_PASSES, 255)]
  { u with seqLen := len, madcAcc := acc }
theorem test_madcConversion_sum : ∃ t, exec (.madcConversion 5) (sequencing 2 2 (2, 11)) = .next t ∧ t.madcAcc = (3, 16) := ⟨_, rfl, by decide +kernel⟩
theorem test_madcConversion_entry : ∃ t, exec (.madcConversion 5) (sequencing 2 2 (3, 13)) = .next t ∧ t.rd (MADC_RESULT_CODE 0) = 4 ∧
    t.rd MADC_STATUS_ENTRY = 1 := ⟨_, rfl, by decide +kernel, by decide +kernel⟩
theorem test_madcConversion_pass : ∃ t, exec (.madcConversion 5) (sequencing 2 1 (3, 13)) = .next t ∧ t.on MADC_STATUS_SEQ_ACTIVE = false ∧
    t.rd MADC_STATUS_PASSES = 0 := ⟨_, rfl, by decide +kernel, by decide +kernel⟩
theorem test_madcSequencePass : ∃ t, exec .madcSequencePass { (sequencing 2 1 (3, 13)).wrs [(MADC_STATUS_SEQ_ACTIVE, 0), (MADC_CTRL_SEQ_RUN, 1)] with time := 4 } = .next t ∧
    t.on MADC_STATUS_SEQ_ACTIVE = true ∧ t.madcAcc = (0, 0) := ⟨_, rfl, by decide +kernel, by decide +kernel⟩

/-- Lane 2 of face 3 with a run of slice 5 in progress. -/
def trimming (x : CalItem) (h : Option (Nat × Bool)) (l : List (Fld × Nat)) : State :=
  let u := (rxAt ([(LANE_ACQ_STATUS_LOCKED 3 2, 1), (HW_STATUS_STATE 16, 1), (CAL_STATUS_STATE 3 2, 2)] ++ l)).setLane 3 2 { handover := h }
  { u with calQ := [x] }
def item5 : CalItem := { f := 3, p := 2, kind := 2, running := true, slice := 5 }
theorem test_sliceMeasurement : ∃ t, exec (.sliceMeasurement 3 2 4 3 2 1) (trimming item5 none []) = .next t ∧ (t.calQ.map CalItem.meas) = [[{ offset := 4, gain := 3 }]] :=
  ⟨_, rfl, by decide +kernel⟩
theorem test_sliceMeasurement_second : measAgree { offset := 4, gain := 3 } { offset := 6, gain := 3 } = true ∧
    ∃ t, exec (.sliceMeasurement 3 2 6 3 0 0) (trimming { item5 with meas := [{ offset := 4, gain := 3 }] } none []) = .next t ∧
    (t.lane 3 2).handover = some (5, true) := ⟨by decide +kernel, _, rfl, by decide +kernel⟩
theorem test_sliceMeasurement_third : ∃ t, exec (.sliceMeasurement 3 2 500 3 0 0) (trimming { item5 with meas := [{ offset := 4 }] } none []) = .next t ∧
    t.rd SURVEY_STATUS_THIRD_RUNS = 1 := ⟨_, rfl, by decide +kernel⟩
theorem test_sliceMeasurement_reject : ∃ t, exec (.sliceMeasurement 3 2 500 3 0 0) (trimming { item5 with meas := [{ offset := 4 }, { offset := 250 }] } none []) = .next t ∧
    t.rd (CAL_STATUS_RESULT 3 2) = 2 ∧ t.calQ = [] := ⟨_, rfl, by decide +kernel, by decide +kernel⟩
theorem test_handoverCompareDone : ∃ t, exec (.handoverCompareDone 3 2 32 (-2000)) (trimming item5 (some (5, false)) []) = .next t ∧
    t.on (LANE_SLICE_STAND_IN 3 2) = true := ⟨_, rfl, by decide +kernel⟩
theorem test_handoverCompareDone_fails : ∃ t, exec (.handoverCompareDone 3 2 (-33) 0) (trimming item5 (some (5, false)) []) = .next t ∧
    t.rd (CAL_STATUS_RESULT 3 2) = 3 ∧ (t.lane 3 2).calHold = true := ⟨_, rfl, by decide +kernel, by decide +kernel⟩
theorem test_handBack : ∃ t, exec (.handoverCompareDone 3 2 0 0) (trimming item5 (some (5, true)) [(LANE_SLICE_STAND_IN 3 2, 1)]) = .next t ∧
    t.on (LANE_SLICE_STAND_IN 3 2) = false ∧ t.rd (CAL_STATUS_SLICE 3 2) = 6 := ⟨_, rfl, by decide +kernel, by decide +kernel⟩
theorem test_handBack_again : ∃ t, exec (.handoverCompareDone 3 2 0 2001) (trimming item5 (some (5, true)) []) = .next t ∧ (t.calQ.map CalItem.retry) = [true] :=
  ⟨_, rfl, by decide +kernel⟩
theorem test_handBack_seals : ∃ t, exec (.handoverCompareDone 3 2 0 2001) (trimming { item5 with retry := true } (some (5, true)) []) = .next t ∧
    t.on (LANE_SLICE_REPLACED 3 2) = true := ⟨_, rfl, by decide +kernel⟩
theorem test_calRequeue : ∃ t, exec (.calRequeue 3 2) ((rxAt []).setLane 3 2 { calHold := true }) = .next t ∧ t.rd (CAL_STATUS_STATE 3 2) = 1 := ⟨_, rfl, by decide +kernel⟩
def pllRun (b : Bool) (l : List (Fld × Nat)) : State :=
  let u := faceIn 3 3 l
  { u with calQ := [{ f := 3, p := 9, kind := 4, running := true, started := b }] }
theorem test_facePll : ∃ t, exec (.facePll 3) (pllRun false [(OPT_STATUS_PLL_LOCK 3, 1)]) = .next t ∧ t.on (OPT_STATUS_PLL_LOCK 3) = false := ⟨_, rfl, by decide +kernel⟩
theorem test_facePllDone : 3 ≤ effTarget (pllRun true []) 3 ∧ ∃ t, exec (.facePllDone 3) (pllRun true []) = .next t ∧ t.on (OPT_STATUS_PLL_LOCK 3) = true ∧ t.rd (CAL_STATUS_RESULT 3 0) = 1 :=
  ⟨by decide +kernel, _, rfl, by decide +kernel, by decide +kernel⟩
theorem test_facePllTimeout : ∃ t, exec (.facePllTimeout 3) (pllRun true []) = .next t ∧ t.rd (CAL_STATUS_RESULT 3 0) = 6 := ⟨_, rfl, by decide +kernel⟩
theorem test_surveySetWrite : Reaches (rxAt []) (setAddr 29 4 129) ∧ ∃ t, exec (.surveySetWrite 29 4 129 0x04030201) (rxAt []) = .next t ∧
    t.getBytes 9 0 (29 * 0x1400 + 4 * 0x400 + 4 * 129) 4 = [1, 2, 3, 4] := ⟨⟨by decide +kernel, by decide +kernel, by decide +kernel⟩, _, rfl, by decide +kernel⟩
theorem test_surveySetWrite_valid : ∃ t, exec (.surveySetWrite 29 4 129 1) (rxAt [(SET_HDR_VALID 29 4, 1)]) = .next t ∧ t.busStatus = stBusy := ⟨_, rfl, by decide +kernel⟩
theorem test_surveySetWrite_header : ∃ t, exec (.surveySetWrite 29 4 130 0x81900000) (rxAt []) = .next t ∧ t.on (SET_HDR_VALID 29 4) = true ∧
    t.rd (SET_HDR_TEMP 29 4) = 0x190 := ⟨_, rfl, by decide +kernel, by decide +kernel⟩

/-- Face 3 whose relief is fitted, with an Assay item in progress at a phase. -/
def assaying (ph dir : Nat) (x : List AssayItem) (l : List (Fld × Nat)) : State :=
  let u := rxAt ([(AS_FACE_STATUS_PHASE 3, ph), (AS_FACE_STATUS_DIR 3, dir), (AS_FACE_STATUS_LANE 3, 2), (AS_FACE_STATUS_DP 3, 8), (RELIEF_STATE_RELIEF_DP 3, 8)] ++ l)
  { u with assayQ := x, mono := 7, plan := some (planOf [{ ty := 1, data := [3, 0, 3, 3, 8, 2, 0, 0, 0, 0, 0, 0] }]) }
def rotating : AssayItem := { f := 3, dir := 0, dp := 2, running := true }
theorem test_assayQueue : (facePresent (assaying 0 0 [] []) 3 && nbit (faceRelief (assaying 0 0 [] []) 3) 1) = true ∧
    ∃ t, exec (.assayQueue 3) (assaying 0 0 [] [(ASSAY_CTRL_EN, 1)]) = .next t ∧ (t.assayQ.map fun y => (y.dir, y.dp, y.queued)) = [(0, 0, 7)] :=
  ⟨by decide +kernel, _, rfl, by decide +kernel⟩
theorem test_assayQueue_waits : ∃ t, exec (.assayQueue 3) (assaying 0 0 [{ f := 3, dir := 1, dp := 4 }] [(ASSAY_CTRL_EN, 1)]) = .next t ∧ t.assayQ.length = 1 :=
  ⟨_, rfl, by decide +kernel⟩
theorem test_rotationShadowEnd : ∃ t, exec (.rotationShadowEnd 3) (assaying 2 0 [rotating] []) = .next t ∧ t.rd (AS_FACE_STATUS_PHASE 3) = 3 := ⟨_, rfl, by decide +kernel⟩
theorem test_rotationMatch : ∃ t, exec (.rotationMatch 3) (assaying 3 0 [rotating] []) = .next t ∧ t.rd (AS_FACE_STATUS_MATCHED 3) = 0x400 := ⟨_, rfl, by decide +kernel⟩
theorem test_matchTimeout : ∃ t, exec (.matchTimeout 3) (assaying 3 0 [{ rotating with matchFails := 2 }] [(AS_FACE_COUNTS_ABANDONS 3, 255)]) = .next t ∧
    t.rd (AS_FACE_LAST_CAUSE 3) = 10 ∧ t.rd (AS_FACE_COUNTS_MATCH_FAILS 3) = 1 ∧ t.rd (AS_FACE_COUNTS_ABANDONS 3) = 255 := ⟨_, rfl, by decide +kernel, by decide +kernel, by decide +kernel⟩
theorem test_rotationSwitch : ∃ t, exec (.rotationSwitch 3) (assaying 4 0 [rotating] []) = .next t ∧ laneDp t 3 2 = 8 ∧ t.rd (RELIEF_STATE_RELIEF_DP 3) = 2 :=
  ⟨_, rfl, by decide +kernel, by decide +kernel⟩
theorem test_rotationSwitch_tx : ∃ t, exec (.rotationSwitch 3) (assaying 4 1 [{ rotating with dir := 1 }] [(⟨LANE_MAP_TX 3, 8, 4⟩, 2)]) = .next t ∧ txLaneDp t 3 2 = 8 ∧
    t.rd (LANE_MAP_TX_AUX_TX_RELIEF 3) = 2 := ⟨_, rfl, by decide +kernel, by decide +kernel⟩
theorem test_assayRetry : ∃ t, exec (.assayRetry 3) (assaying 0 0 [{ rotating with running := false, held := true }] []) = .next t ∧
    (t.assayQ.map AssayItem.held) = [false] := ⟨_, rfl, by decide +kernel⟩
/-- A plan whose ASSAY record holds one signature set: SIGNATURE 5 for slice 7, receive, and 0 elsewhere. -/
def signed (x : State) : State :=
  { x with plan := some (planOf [{ ty := 1, data := [3, 0, 3, 3, 8, 0, 0, 0, 0, 0, 0, 0] },
      { ty := 8, data := [1, 0, 0, 0] ++ leBytes 4 Config.revId ++ List.replicate 188 0 ++ [5] ++ List.replicate 200 0 }]) }
theorem test_bist_inputs : assaySig (signed (assaying 5 0 [rotating] [])) 0 7 = some 5 ∧ assaySig (signed (assaying 5 0 [rotating] [])) 0 3 = some 0 := by decide +kernel
theorem test_bistSliceDone : ∃ t, exec (.bistSliceDone 3 0) (signed (assaying 5 0 [rotating] [(AS_FACE_STATUS_SLICE 3, 3)])) = .next t ∧
    (t.assayQ.map fun y => (y.running, y.slice)) = [(false, 4)] := ⟨_, rfl, by decide +kernel⟩
theorem test_bistSliceDone_pass : ∃ t, exec (.bistSliceDone 3 5) (signed (assaying 5 0 [{ rotating with sig := 5 }] [(AS_FACE_STATUS_SLICE 3, 7)])) = .next t ∧
    t.rd (AS_RX_DP_RESULT 3 8) = 1 ∧ t.rd (AS_FACE_COUNTS_BIST_PASSES 3) = 1 := ⟨_, rfl, by decide +kernel, by decide +kernel⟩
theorem test_bistSliceDone_again : ∃ t, exec (.bistSliceDone 3 6) (signed (assaying 5 0 [rotating] [(AS_FACE_STATUS_SLICE 3, 7)])) = .next t ∧
    t.on (AS_FACE_STATUS_RETEST 3) = true := ⟨_, rfl, by decide +kernel⟩
theorem test_bistSliceDone_seals : ∃ t, exec (.bistSliceDone 3 6) (signed (assaying 5 0 [rotating] [(AS_FACE_STATUS_SLICE 3, 7), (AS_FACE_STATUS_RETEST 3, 1)])) = .next t ∧
    t.rd (RELIEF_STATE_DP_SEALED 3) = 256 ∧ t.rd (AS_RX_DP_FAIL_SLICE 3 8) = 7 := ⟨_, rfl, by decide +kernel, by decide +kernel⟩
theorem test_memFlip : Reaches (up []) MEM_FLIP_CTRL ∧ ∃ t, exec (.memFlip 0x80050003) (up []) = .next t ∧ t.on MEM_FLIP_CTRL_ARM = true ∧ t.rd MEM_FLIP_CTRL_ARRAY = 5 :=
  ⟨⟨by decide +kernel, by decide +kernel, by decide +kernel⟩, _, rfl, by decide +kernel, by decide +kernel⟩
theorem test_memFlip_range : ∃ t, exec (.memFlip 0x800F0003) (up []) = .next t ∧ t.busStatus = stRange := ⟨_, rfl, by decide +kernel⟩
theorem test_memFlip_busy : ∃ t, exec (.memFlip 0x80050003) (up [(MEM_FLIP_CTRL_ARM, 1)]) = .next t ∧ t.busStatus = stBusy := ⟨_, rfl, by decide +kernel⟩
theorem test_memFlip_disarm : ∃ t, exec (.memFlip 0) (up [(MEM_FLIP_CTRL_ARM, 1), (MEM_FLIP_CTRL_CHECK, 9)]) = .next t ∧ t.on MEM_FLIP_CTRL_ARM = false ∧
    t.rd MEM_FLIP_CTRL_CHECK = 9 := ⟨_, rfl, by decide +kernel, by decide +kernel⟩
theorem test_regionClear : Reaches (up []) (MEM_REGION0 255) ∧ ∃ t, exec (.regionClear 255) (up [(MEM_REGION1_COUNT 255, 9), (MEM_REGION1_THRESHOLD 255, 4)]) = .next t ∧
    t.rd (MEM_REGION1_COUNT 255) = 0 ∧ t.rd (MEM_REGION1_THRESHOLD 255) = 4 := ⟨⟨by decide +kernel, by decide +kernel, by decide +kernel⟩, _, rfl, by decide +kernel, by decide +kernel⟩
theorem test_tallyClear : Reaches (up []) TALLY_CTRL ∧ ∃ t, exec .tallyClear ((up [(HEAD_SEQ_SEQ, 600), (TALLY_STATUS_FULL, 1)]).setTag 7 0 3 (some {})) = .next t ∧
    t.rd BASE_SEQ_SEQ = 600 ∧ t.on TALLY_STATUS_FULL = false ∧ t.tags = [] := ⟨⟨by decide +kernel, by decide +kernel, by decide +kernel⟩, _, rfl, by decide +kernel, by decide +kernel, by decide +kernel⟩
def archiving (l : List (Fld × Nat)) : State :=
  { up ([(TALLY_CTRL_POLICY, 1), (PRESENCE_DDR, 1)] ++ l) with plan := some (planOf [{ ty := 3, data := List.replicate 96 0 ++ [1, 0] ++ List.replicate 30 0 }]) }
theorem test_tallyArchiveCopy : archKeeps (archiving []) ≠ 0 ∧ ∃ t, exec .tallyArchiveCopy (archiving [(HEAD_SEQ_SEQ, 256)]) = .next t ∧ t.archNext = 1 ∧
    (t.archive.map fun e => (e.1, e.2.length)) = [(0, 2048)] := ⟨by decide +kernel, _, rfl, by decide +kernel, by decide +kernel⟩
theorem test_tallyArchiveCopy_waits : ∃ t, exec .tallyArchiveCopy (archiving [(HEAD_SEQ_SEQ, 255)]) = .next t ∧ t.archNext = 0 := ⟨_, rfl, by decide +kernel⟩
theorem test_tallyArchSel : Reaches (up []) TALLY_ARCH_SEL ∧ ∃ t, exec (.tallyArchSel 5) { up [(ARCH_OLDEST_BLOCK, 4), (ARCH_NEWEST_BLOCK, 5)] with archive := [(4, [1]), (5, [2])] } = .next t ∧
    t.rd TALLY_ARCH_SEL_BLOCK = 5 := ⟨⟨by decide +kernel, by decide +kernel, by decide +kernel⟩, _, rfl, by decide +kernel⟩
theorem test_tallyArchSel_range : ∃ t, exec (.tallyArchSel 6) { up [(ARCH_OLDEST_BLOCK, 4), (ARCH_NEWEST_BLOCK, 5)] with archive := [(4, [1]), (5, [2])] } = .next t ∧
    t.busStatus = stRange := ⟨_, rfl, by decide +kernel⟩
theorem test_pcOvf : ∃ t, exec (.pcOvf 72 7) ((up [(PC_CFG_EN 72 7, 1)]).setCtr (PC_COUNT 72 7) (2 ^ 48 - 1)) = .next t ∧ t.ctr (PC_COUNT 72 7) = 0 ∧
    t.rd (PC_OVF_OVF 72) = 128 := ⟨_, rfl, by decide +kernel, by decide +kernel⟩
theorem test_bwWindow : ∃ t, exec (.bwWindow 5 9 0xFFFFFFFF) (hostAtStage 1 8 [(BW_CTRL_EN 5, 1), (BW_SEQ_WINDOWS 5, 255)]) = .next t ∧ t.reg (BW_L2H 5) = 0xFFFFFFFF ∧
    t.rd (BW_SEQ_WINDOWS 5) = 0 := ⟨_, rfl, by decide +kernel, by decide +kernel⟩
theorem test_hsRestart : Reaches (up []) (HS_CTRL 17) ∧ (up []).rd (HS_CTRL_PERIOD 17) ≠ 0 ∧
    ∃ t, exec (.hsRestart 17) { up [(HS_STATUS_FULL 17, 1), (HS_STATUS_COUNT 17, 64)] with hsBuf := [(17, [(1, 2)])] } = .next t ∧ t.rd (HS_STATUS_COUNT 17) = 0 ∧
    t.hsBuf = [] := ⟨⟨by decide +kernel, by decide +kernel, by decide +kernel⟩, by decide +kernel, _, rfl, by decide +kernel, by decide +kernel⟩

theorem test_controlFrame_inputs : (∃ t, exec (.pauseEnd 0) (up []) = .next t) ∧ (∃ t, exec (.rotationMatch 3) (assaying 3 0 [rotating] []) = .next t) := ⟨⟨_, rfl⟩, _, rfl⟩

/-- A message of port A whose word 5 of the transmit buffer took a flip of two bits. -/
def spoiled : Msg := { port := 0, session := 9, seq := 1, ver := 769, op := 0x10, flags := 1, status := 0, words := [1], flip := some (5, { dflip := 3 }) }
theorem test_spoiled_frame : (sendRead (up []) 0 spoiled).2 = false := by decide +kernel
theorem test_sent_frame : ∃ t, step { up [(CP_STATUS_LINK 0, 1), (PC_CFG_EN 66 0, 1)] with tx := [{ spoiled with flip := none }] } = .next t ∧ t.tx = [] ∧
    t.ctr (PC_COUNT 66 0) = 52 := ⟨_, rfl, by decide +kernel, by decide +kernel⟩
theorem test_chipRun_later : ∃ t, exec .chipRun { withFace 3 (up [(SEAL_STATUS_HS_STATE 3, 2), (FM_CHIP_CTRL_TARGET, 1)]) with chipTo := 1 } = .next t ∧
    t.rd FM_CHIP_CTRL_TARGET = 0 ∧ t.chipTo = 1 := ⟨_, rfl, by decide +kernel, by decide +kernel⟩
theorem test_ddrWrite_poisoned : ((ddrWrite ((up [(PRESENCE_DDR, 1)]).setTag 16 0 0 (some { poison := true })) 1 0 [1, 2, 3, 4]).tag 16 0 0) = some { poison := true } := by decide +kernel
theorem test_slot_lost : (bufRead ((up []).setTag 1 3 (slotAt 0 2) (some { dflip := 3 })) 1 3 (slotAt 0 2) 170).2 = true := by decide +kernel
theorem test_survey_lost : let t := surveyLost { (up [(SET_HDR_VALID 4 1, 1)]) with mirror := [21, 22] } 9 ((4 * 0x1400 + 0x400) / 8)
    t.mirror = [22] ∧ t.on (SET_HDR_VALID 4 1) = false := by decide +kernel
theorem test_package : (Ball.name (coreBall 0), coreSignals.length, (signalBalls.map Prod.snd).sum, (powerBalls.map Prod.snd).sum) = ("T15", 72, 2304, 7300) ∧
    (dacMicrovolt 1, dacMicrovolt 120, junction 78350 190000) = (3529, 423529, 85000) := by decide +kernel

end Sys2Proof.Tests
end

/-! # What a step keeps: names of what exists, and memory in canonical form -/

namespace Sys2Proof.Machine
open Sys2Proof Sys2Proof.Laws

/-- The fields of the state that `NamesWf` and the canonical form of memory speak of. -/
def State.core (s : State) : List CalItem × Tab LaneX × Tab FaceX × List LongOp × List Host.Cell × List Host.Cell :=
  (s.calQ, s.lanes, s.faces, s.ops, s.bytes, s.flash)

/-- The slices and sets that a lane's record names exist (R76, R77, R371). -/
def LaneX.NamesOk (x : LaneX) : Prop :=
  (∀ a ∈ x.accepted, a.1 ≤ 64) ∧ ∀ r, x.revert = some r → r.1 < 5 ∧ ∀ a ∈ r.2.2.1, a.1 ≤ 64

/-- The position that a face's handshake proposes again exists (R5, R230). -/
def FaceX.NamesOk (x : FaceX) : Prop := ∀ k, x.hs.again = some k → k < 8

/-- The face, lane, slices and set that a Survey item names exist (R5, R76, R370, R371). -/
def CalItem.NamesOk (x : CalItem) : Prop := x.f < 16 ∧ x.p ≤ 9 ∧ x.slice ≤ 64 ∧ x.set < 5 ∧ ∀ e ∈ x.staging, e.1 ≤ 64

/-- The face of a CALIBRATE exists (R312). -/
def OpKind.NamesOk (k : OpKind) : Prop := ∀ f lanes kind, k = .calibrate f lanes kind → f < 16

theorem namesWf_iff (s : State) : NamesWf s ↔ (∀ x ∈ s.calQ, x.NamesOk) ∧ (∀ e ∈ s.lanes, e.2.NamesOk) ∧ (∀ e ∈ s.faces, e.2.NamesOk) ∧
    ∀ o ∈ s.ops, o.kind.NamesOk := Iff.rfl

theorem tabGet_of_all {α : Type} {P : α → Prop} {d : α} {m : Tab α} (hd : P d) (h : ∀ e ∈ m, P e.2) (k : Nat) : P (tabGet d m k) := by
  induction m with
  | nil => exact hd
  | cons e m ih =>
    obtain ⟨k', v⟩ := e
    unfold tabGet
    split
    · exact h (k', v) (by simp)
    · exact ih fun e he => h e (by simp [he])

theorem tabSet_mem {α : Type} [DecidableEq α] {d v : α} {m : Tab α} {k : Nat} {e : Nat × α} (he : e ∈ tabSet d m k v) : e = (k, v) ∨ e ∈ m := by
  unfold tabSet at he
  split at he
  · exact .inr (List.mem_filter.mp he).1
  · rcases tabIns_mem.mp he with rfl | he
    · exact .inl rfl
    · exact .inr (List.mem_filter.mp he).1

theorem tabSet_all {α : Type} [DecidableEq α] {P : α → Prop} {d v : α} {m : Tab α} {k : Nat} (h : ∀ e ∈ m, P e.2) (hv : P v) :
    ∀ e ∈ tabSet d m k v, P e.2 := by
  intro e he
  rcases tabSet_mem he with rfl | he
  · exact hv
  · exact h e he

theorem LaneX.namesOk_default : ({} : LaneX).NamesOk := by simp [LaneX.NamesOk]
theorem FaceX.namesOk_default : ({} : FaceX).NamesOk := by simp [FaceX.NamesOk]

section
variable {s : State}

theorem NamesWf.items (w : NamesWf s) {x : CalItem} (hx : x ∈ s.calQ) : x.NamesOk := by
  obtain ⟨hq, -⟩ := w
  exact hq x hx

theorem NamesWf.lane (w : NamesWf s) (f p : Nat) : (s.lane f p).NamesOk := by
  obtain ⟨-, hl, -⟩ := w
  exact tabGet_of_all LaneX.namesOk_default hl _

theorem NamesWf.face (w : NamesWf s) (f : Nat) : (s.face f).NamesOk := by
  obtain ⟨-, -, hf, -⟩ := w
  exact tabGet_of_all FaceX.namesOk_default hf _

theorem NamesWf.kinds (w : NamesWf s) {o : LongOp} (ho : o ∈ s.ops) : o.kind.NamesOk := by
  obtain ⟨-, -, -, hk⟩ := w
  exact hk o ho

theorem NamesWf.op (w : NamesWf s) {h : Nat} {o : LongOp} (ho : s.op h = some o) : o.kind.NamesOk := w.kinds (List.mem_of_find?_eq_some ho)

end

/-- `t` keeps what `s` holds: names of what exists, and memory in canonical form. -/
structure Keeps (s t : State) : Prop where
  names : NamesWf s → NamesWf t
  memory : MemOk s t

/-- A command that answers a next state keeps the same. -/
def KeepsOut (s : State) (o : Out) : Prop := ∀ t, o = .next t → Keeps s t

section
variable {s₀ s t u : State}

/-! ## Composition -/

theorem Keeps.refl (s : State) : Keeps s s := ⟨id, MemOk.refl s⟩

theorem Keeps.trans (h : Keeps s₀ s) (k : Keeps s t) : Keeps s₀ t := ⟨k.names ∘ h.names, h.memory.trans k.memory⟩

/-- What follows from every state that keeps the same follows from this one. A proof that goes on from a variable spares the kernel the
run of the state that it stands for. -/
theorem Keeps.elim {P : State → Prop} (h : Keeps s₀ s) (k : ∀ t, Keeps s₀ t → P t) : P s := k s h

/-- The same for a state with a result beside it. -/
theorem Keeps.elimFst {α : Type} {P : State × α → Prop} {r : State × α} (h : Keeps s₀ r.1) (k : ∀ t a, Keeps s₀ t → P (t, a)) : P r :=
  k r.1 r.2 h

theorem Keeps.sameCore (h : Keeps s₀ s) (e : t.core = s.core) : Keeps s₀ t := by
  simp only [State.core, Prod.mk.injEq] at e
  obtain ⟨hq, hl, hf, ho, hb, hm⟩ := e
  refine ⟨fun w => ?_, h.memory.trans (MemOk.of_eq hb hm)⟩
  have hs := h.names w
  rw [namesWf_iff] at hs ⊢
  rw [hq, hl, hf, ho]
  exact hs

/-- Changes of fields that neither names nor memory speak of. -/
theorem Keeps.rest (h : Keeps s₀ s)
    {pending regs ctrs shadows snapGens tags time mono freeCtr powered canary started sessions sessionCount handleCount tx accLog busStatus gap
      frozenLost archNext archive regions rowSeals scrubAt ddrScrub wasUe rxds planCopyOk assayQ defer plan seams caps archEntries archId archMib
      streams streamCount claim rails refALost refBLost shapes otp burnQ volatileSeals episodes hsBuf hsCount hostPcs injects budgetShed
      throttleShed ticks chipTo setAge mirror madcAcc seqLen seqPending hewers actor booting checked bootTries ddrLayout d2d ddrTrain keptCrc
      cpTry ptp ddrEpoch txds pats gens ports hostTx hostTaps} :
    Keeps s₀ { s with
      pending := pending, regs := regs, ctrs := ctrs, shadows := shadows, snapGens := snapGens, tags := tags, time := time, mono := mono, freeCtr
      := freeCtr, powered := powered, canary := canary, started := started, sessions := sessions, sessionCount := sessionCount, handleCount :=
      handleCount, tx := tx, accLog := accLog, busStatus := busStatus, gap := gap, frozenLost := frozenLost, archNext := archNext, archive :=
      archive, regions := regions, rowSeals := rowSeals, scrubAt := scrubAt, ddrScrub := ddrScrub, wasUe := wasUe, rxds := rxds, planCopyOk :=
      planCopyOk, assayQ := assayQ, defer := defer, plan := plan, seams := seams, caps := caps, archEntries := archEntries, archId := archId,
      archMib := archMib, streams := streams, streamCount := streamCount, claim := claim, rails := rails, refALost := refALost, refBLost :=
      refBLost, shapes := shapes, otp := otp, burnQ := burnQ, volatileSeals := volatileSeals, episodes := episodes, hsBuf := hsBuf, hsCount :=
      hsCount, hostPcs := hostPcs, injects := injects, budgetShed := budgetShed, throttleShed := throttleShed, ticks := ticks, chipTo := chipTo,
      setAge := setAge, mirror := mirror, madcAcc := madcAcc, seqLen := seqLen, seqPending := seqPending, hewers := hewers, actor := actor,
      booting := booting, checked := checked, bootTries := bootTries, ddrLayout := ddrLayout, d2d := d2d, ddrTrain := ddrTrain, keptCrc :=
      keptCrc, cpTry := cpTry, ptp := ptp, ddrEpoch := ddrEpoch, txds := txds, pats := pats, gens := gens, ports := ports, hostTx := hostTx,
      hostTaps := hostTaps } :=
  h.sameCore rfl

/-- Changes of memory and other fields. -/
theorem Keeps.mem (h : Keeps s₀ s) (m : MemOk s t) (e : (t.calQ, t.lanes, t.faces, t.ops) = (s.calQ, s.lanes, s.faces, s.ops)) : Keeps s₀ t := by
  simp only [Prod.mk.injEq] at e
  obtain ⟨hq, hl, hf, ho⟩ := e
  refine ⟨fun w => ?_, h.memory.trans m⟩
  have hs := h.names w
  rw [namesWf_iff] at hs ⊢
  rw [hq, hl, hf, ho]
  exact hs

/-- Survey's items change to ones that name what exists. -/
theorem Keeps.items (h : Keeps s₀ s) {q : List CalItem} (hx : NamesWf s₀ → ∀ x ∈ q, x.NamesOk) : Keeps s₀ { s with calQ := q } := by
  refine ⟨fun w => ?_, h.memory⟩
  obtain ⟨-, hrest⟩ := h.names w
  exact ⟨hx w, hrest⟩

/-- The long operations change to ones that name what exists. -/
theorem Keeps.kinds (h : Keeps s₀ s) {l : List LongOp} (hx : NamesWf s₀ → ∀ o ∈ l, o.kind.NamesOk) : Keeps s₀ { s with ops := l } := by
  refine ⟨fun w => ?_, h.memory⟩
  obtain ⟨hq, hl, hf, -⟩ := h.names w
  exact ⟨hq, hl, hf, hx w⟩

theorem Keeps.ite {c : Prop} [Decidable c] (h : Keeps s₀ t) (k : Keeps s₀ u) : Keeps s₀ (if c then t else u) := by
  split
  · exact h
  · exact k

theorem Keeps.ite_fst {α : Type} {c : Prop} [Decidable c] {x y : State × α} (h : Keeps s₀ x.1) (k : Keeps s₀ y.1) :
    Keeps s₀ (if c then x else y).1 := by
  split
  · exact h
  · exact k

theorem Keeps.guardS {c : Bool} {f : State → State} (h : Keeps s₀ s) (k : Keeps s₀ (f s)) : Keeps s₀ (guardS c s f) := by
  cases c
  · exact h
  · exact k

theorem Keeps.foldl {α : Type} {g : State → α → State} {l : List α} (h : Keeps s₀ s) (k : ∀ t x, Keeps s₀ t → Keeps s₀ (g t x)) :
    Keeps s₀ (l.foldl g s) := by
  induction l generalizing s with
  | nil => exact h
  | cons x l ih => exact ih (k s x h)

theorem Keeps.foldl_mem {α : Type} {g : State → α → State} {l : List α} (h : Keeps s₀ s) (k : ∀ t, ∀ x ∈ l, Keeps s₀ t → Keeps s₀ (g t x)) :
    Keeps s₀ (l.foldl g s) := by
  induction l generalizing s with
  | nil => exact h
  | cons x l ih => exact ih (k s x (by simp) h) fun t y hy => k t y (by simp [hy])

theorem Keeps.foldl_fst {α β : Type} {g : State × β → α → State × β} {l : List α} {a : State × β} (h : Keeps s₀ a.1)
    (k : ∀ a x, Keeps s₀ a.1 → Keeps s₀ (g a x).1) : Keeps s₀ (l.foldl g a).1 := by
  induction l generalizing a with
  | nil => exact h
  | cons x l ih => exact ih (k a x h)

theorem Keeps.next (h : Keeps s₀ t) : KeepsOut s₀ (.next t) := by
  rintro _ ⟨⟩
  exact h

theorem Keeps.formed {ok : Bool} (h : Keeps s₀ t) : KeepsOut s₀ (formed ok t) := by
  cases ok
  · rintro _ ⟨⟩
  · exact h.next

/-! ## Results that carry a state -/

/-- What a register's write leaves of the state, where the register has an effect of its own, keeps the same. -/
def KeepsOpt (s : State) (o : Option (State × ℕ)) : Prop := ∀ r, o = some r → Keeps s r.1

theorem KeepsOpt.some {r : State × ℕ} (h : Keeps s₀ r.1) : KeepsOpt s₀ (Option.some r) := by
  rintro _ ⟨⟩
  exact h

theorem KeepsOpt.none : KeepsOpt s₀ Option.none := by
  rintro _ ⟨⟩

/-- What a session's checks leave of the state keeps the same. -/
def KeepsIn (s : State) : Intake → Prop
  | .settled t => Keeps s t
  | .go t _ => Keeps s t

/-- The state that a Hewer's instruction leaves keeps the same. -/
def KeepsHewer (s : State) : HRes → Prop
  | .seq t => Keeps s t
  | .jump t _ => Keeps s t
  | .trap _ => True

theorem KeepsHewer.ite {x : HRes} {c : Prop} [Decidable c] {k : ℕ} (h : KeepsHewer s x) : KeepsHewer s (if c then .trap k else x) := by
  split
  · trivial
  · exact h

/-! ## Records of lanes, faces and operations -/

/-- A lane takes a record that names what exists. -/
theorem Keeps.putLane (h : Keeps s₀ s) {f p : Nat} {x : LaneX} (hx : NamesWf s₀ → x.NamesOk) : Keeps s₀ (s.setLane f p x) := by
  refine ⟨fun w => ?_, h.memory⟩
  obtain ⟨h1, h2, h3, h4⟩ := h.names w
  exact ⟨h1, tabSet_all h2 (hx w), h3, h4⟩

/-- A lane's record changes, its accepted values and the set kept for a return apart. -/
theorem Keeps.setLane (h : Keeps s₀ s) {f p : Nat}
    {cands cand emptyDwells blocks acqStart handover corr corrT corrUse pllPpm handFails dwellModes relockWindow amRun amPhase
     amMisses faults exhausts calHold calRest} :
    Keeps s₀ (s.setLane f p { s.lane f p with
      cands := cands, cand := cand, emptyDwells := emptyDwells, blocks := blocks, acqStart := acqStart, handover := handover, corr := corr,
      corrT := corrT, corrUse := corrUse, pllPpm := pllPpm, handFails := handFails, dwellModes := dwellModes, relockWindow := relockWindow,
      amRun := amRun, amPhase := amPhase, amMisses := amMisses, faults := faults, exhausts := exhausts, calHold := calHold, calRest := calRest }) :=
  h.putLane fun w => (h.names w).lane f p

/-- The same from the record as it stood before. -/
theorem Keeps.setLaneFrom (h : Keeps s₀ s) (k : Keeps s₀ u) {f p g q : Nat}
    {cands cand emptyDwells blocks acqStart handover corr corrT corrUse pllPpm handFails dwellModes relockWindow amRun amPhase
     amMisses faults exhausts calHold calRest} :
    Keeps s₀ (s.setLane f p { u.lane g q with
      cands := cands, cand := cand, emptyDwells := emptyDwells, blocks := blocks, acqStart := acqStart, handover := handover, corr := corr,
      corrT := corrT, corrUse := corrUse, pllPpm := pllPpm, handFails := handFails, dwellModes := dwellModes, relockWindow := relockWindow,
      amRun := amRun, amPhase := amPhase, amMisses := amMisses, faults := faults, exhausts := exhausts, calHold := calHold, calRest := calRest }) :=
  h.putLane fun w => (k.names w).lane g q

/-- A face takes a record that names what exists. -/
theorem Keeps.putFace (h : Keeps s₀ s) {f : Nat} {x : FaceX} (hx : NamesWf s₀ → x.NamesOk) : Keeps s₀ (s.setFace f x) := by
  refine ⟨fun w => ?_, h.memory⟩
  obtain ⟨h1, h2, h3, h4⟩ := h.names w
  exact ⟨h1, h2, tabSet_all h3 (hx w), h4⟩

/-- A face's record changes, the position to be proposed again apart. -/
theorem Keeps.setFace (h : Keeps s₀ s) {f : Nat}
    {obsShed standing tapRestart tapRestarted tapSwapAt tap fsb fsbFails lastCmd sent emit overs checked checkAt laneRamp hold unclean
     token assayDir assayTurn assaySkip ageAt tag ready peerReady peerSwitch switched fails commits out fifo reply waiting} :
    Keeps s₀ (s.setFace f { s.face f with
      obsShed := obsShed, standing := standing, tapRestart := tapRestart, tapRestarted := tapRestarted, tapSwapAt := tapSwapAt, tap := tap,
      fsb := fsb, fsbFails := fsbFails, lastCmd := lastCmd, sent := sent, emit := emit, overs := overs, checked := checked,
      checkAt := checkAt, laneRamp := laneRamp, hold := hold, unclean := unclean, token := token, assayDir := assayDir,
      assayTurn := assayTurn, assaySkip := assaySkip, ageAt := ageAt,
      hs := { (s.face f).hs with
        tag := tag, ready := ready, peerReady := peerReady, peerSwitch := peerSwitch, switched := switched, fails := fails,
        commits := commits, out := out, fifo := fifo, reply := reply, waiting := waiting } }) :=
  h.putFace fun w => (h.names w).face f

/-- The same from the record as it stood before. -/
theorem Keeps.setFaceFrom (h : Keeps s₀ s) (k : Keeps s₀ u) {f g : Nat}
    {obsShed standing tapRestart tapRestarted tapSwapAt tap fsb fsbFails lastCmd sent emit overs checked checkAt laneRamp hold unclean
     token assayDir assayTurn assaySkip ageAt tag ready peerReady peerSwitch switched fails commits out fifo reply waiting} :
    Keeps s₀ (s.setFace f { u.face g with
      obsShed := obsShed, standing := standing, tapRestart := tapRestart, tapRestarted := tapRestarted, tapSwapAt := tapSwapAt, tap := tap,
      fsb := fsb, fsbFails := fsbFails, lastCmd := lastCmd, sent := sent, emit := emit, overs := overs, checked := checked,
      checkAt := checkAt, laneRamp := laneRamp, hold := hold, unclean := unclean, token := token, assayDir := assayDir,
      assayTurn := assayTurn, assaySkip := assaySkip, ageAt := ageAt,
      hs := { (u.face g).hs with
        tag := tag, ready := ready, peerReady := peerReady, peerSwitch := peerSwitch, switched := switched, fails := fails,
        commits := commits, out := out, fifo := fifo, reply := reply, waiting := waiting } }) :=
  h.putFace fun w => (k.names w).face g

/-- A long operation changes, its OP and ARGS apart. -/
theorem Keeps.opUpd (h : Keeps s₀ s) {n : Nat} {state : LongOp → OpState} {fromQueue failed : LongOp → Bool}
    {handle session priv progress result detail start finish step : LongOp → Nat} :
    Keeps s₀ (s.opUpd n fun o => { o with
      handle := handle o, state := state o, fromQueue := fromQueue o, session := session o, priv := priv o, progress := progress o,
      result := result o, detail := detail o, start := start o, finish := finish o, failed := failed o, step := step o }) := by
  refine h.kinds fun w o ho => ?_
  obtain ⟨y, hy, rfl⟩ := List.mem_map.mp ho
  split
  · exact show y.kind.NamesOk from (h.names w).kinds hy
  · exact (h.names w).kinds hy

/-! ## Registers, counters and records that name nothing -/

theorem Keeps.setReg (h : Keeps s₀ s) {a : Nat} {w : Word} : Keeps s₀ (s.setReg a w) := h.rest
theorem Keeps.wr (h : Keeps s₀ s) {x : Fld} {v : Nat} : Keeps s₀ (s.wr x v) := h.rest

theorem Keeps.wrs (h : Keeps s₀ s) {l : List (Fld × Nat)} : Keeps s₀ (s.wrs l) := by
  induction l generalizing s with
  | nil => exact h
  | cons e l ih => exact ih h.wr

end
end Sys2Proof.Machine

/-! # Every command keeps the same (O6)

One lemma for each function of the model that answers a state, in the order of the model's files, and the invariant of a step from them.
A function whose body begins with a match on a long computation is unfolded by `delta`: its equation lemma would have the kernel run that
computation.
-/

namespace Sys2Proof.Machine
open Sys2Proof Sys2Proof.Laws
section
variable {s₀ s t u : State}

/-! ## Machine/Ops.lean: registers, words and messages -/

theorem Keeps.calm (h : Keeps s₀ s) : Keeps s₀ s.calm := h.rest

theorem Keeps.incSat (h : Keeps s₀ s) {f : Fld} : Keeps s₀ (s.incSat f) := h.wr

theorem Keeps.incMod (h : Keeps s₀ s) {f : Fld} : Keeps s₀ (s.incMod f) := h.wr

theorem Keeps.dropRegs (h : Keeps s₀ s) {p : ℕ → Bool} : Keeps s₀ (s.dropRegs p) := h.rest

theorem Keeps.setCtr (h : Keeps s₀ s) {a v : ℕ} : Keeps s₀ (s.setCtr a v) := h.rest

theorem Keeps.addCtr (h : Keeps s₀ s) {a n : ℕ} : Keeps s₀ (s.addCtr a n) := h.setCtr

theorem Keeps.dropCtrs (h : Keeps s₀ s) {p : ℕ → Bool} : Keeps s₀ (s.dropCtrs p) := h.rest

theorem Keeps.tookFree (h : Keeps s₀ s) : Keeps s₀ s.tookFree := h.rest

theorem Keeps.setByte (h : Keeps s₀ s) {a i b : ℕ} {v : Byte} : Keeps s₀ (s.setByte a i b v) := h.mem (memOk_setByte s a i b v) rfl

theorem Keeps.setBytes (h : Keeps s₀ s) {a i b : ℕ} {l : List ℕ} : Keeps s₀ (s.setBytes a i b l) := by
  induction l generalizing s b with
  | nil => exact h
  | cons v l ih => exact ih h.setByte

theorem Keeps.setTag (h : Keeps s₀ s) {a i w : ℕ} {y : Option WordTag} : Keeps s₀ (s.setTag a i w y) := h.rest

theorem Keeps.useFlip (h : Keeps s₀ s) {a i w : ℕ} : Keeps s₀ (useFlip s a i w) := .ite h.wr h

theorem Keeps.memPutWord (h : Keeps s₀ s) {a i w data : ℕ} : Keeps s₀ (memPutWord s a i w data) := h.useFlip.setBytes.setTag

theorem Keeps.memPutWords (h : Keeps s₀ s) {a i w : ℕ} {l : List ℕ} : Keeps s₀ (memPutWords s a i w l) := by
  induction l generalizing s w with
  | nil => exact h
  | cons d l ih => exact ih h.memPutWord

theorem Keeps.memClear (h : Keeps s₀ s) {p : ℕ → ℕ → ℕ → Bool} : Keeps s₀ (memClear s p) := h.mem (memOk_memClear s p) rfl

theorem Keeps.memClearCopy (h : Keeps s₀ s) {a i : ℕ} : Keeps s₀ (memClearCopy s a i) := h.memClear

theorem Keeps.sessUpd (h : Keeps s₀ s) {id : ℕ} {g : Session → Session} : Keeps s₀ (s.sessUpd id g) := h.rest

theorem Keeps.send (h : Keeps s₀ s) {m : Msg} : Keeps s₀ (s.send m) := by
  unfold Machine.State.send
  extract_lets w t
  split
  · split
    · exact h.tookFree.useFlip.rest
    · exact h.tookFree.rest
  · exact h.rest

theorem Keeps.sendNotices (h : Keeps s₀ s) {ws : List ℕ} : Keeps s₀ (sendNotices s ws) := h.rest.foldl fun _ _ ht => ht.send

theorem Keeps.storeRecord (h : Keeps s₀ s) {e : Ev} {notified : Bool} : Keeps s₀ (storeRecord s e notified) := h.memPutWords.wr.rest

theorem Keeps.loseEvent (h : Keeps s₀ s) {f : Fld} : Keeps s₀ (loseEvent s f) := h.incSat.rest

theorem Keeps.storeOwn (h : Keeps s₀ s) {e : Ev} : Keeps s₀ (storeOwn s e) := .ite h.storeRecord.sendNotices h.storeRecord

theorem Keeps.archiveLoss (h : Keeps s₀ s) : Keeps s₀ (archiveLoss s) := .ite h.rest.incSat.storeOwn h

theorem Keeps.storeEvent (h : Keeps s₀ s) {e : Ev} {notified : Bool} : Keeps s₀ (storeEvent s e notified) :=
  .ite h.loseEvent.rest (.ite h.loseEvent (.ite h.storeOwn.wr.loseEvent h.storeRecord))

theorem Keeps.capFireOne (h : Keeps s₀ s) {c time pos : ℕ} {short : Bool} : Keeps s₀ (capFireOne s c time pos short) := .ite h.wrs h

theorem Keeps.capFire (h : Keeps s₀ s) {c time pos : ℕ} {short : Bool} : Keeps s₀ (capFire s c time pos short) :=
  .ite (h.foldl fun _ _ ht => .ite ht.capFireOne ht) h

theorem Keeps.capOnEvent (h : Keeps s₀ s) {code : ℕ} : Keeps s₀ (capOnEvent s code) := h.foldl fun _ _ ht => .ite ht.tookFree.capFire ht

theorem Keeps.recordEvent (h : Keeps s₀ s) {e : Ev} {notify : Bool} : Keeps s₀ (recordEvent s e notify) :=
  .ite h.storeEvent.sendNotices h.storeEvent

theorem Keeps.tallyEvent (h : Keeps s₀ s) {e : Ev} : Keeps s₀ (tallyEvent s e) := .ite h (Keeps.ite h.archiveLoss h).recordEvent

theorem Keeps.logEvent (h : Keeps s₀ s) {ev : Ev} : Keeps s₀ (logEvent s ev) := h.capOnEvent.tallyEvent

theorem Keeps.stickyEvent (h : Keeps s₀ s) {f : Fld} {e : Ev} : Keeps s₀ (stickyEvent s f e) := .ite h h.wr.logEvent

theorem Keeps.hewerWake (h : Keeps s₀ s) {n : ℕ} : Keeps s₀ (hewerWake s n) := .ite h.wr h

theorem Keeps.raiseIrq (h : Keeps s₀ s) {n i : ℕ} : Keeps s₀ (raiseIrq s n i) := h.wr.hewerWake

theorem Keeps.pcAdd (h : Keeps s₀ s) {b i n : ℕ} : Keeps s₀ (pcAdd s b i n) := .ite (.ite h.addCtr.wr.logEvent h.addCtr.wr) h.addCtr

theorem Keeps.pcCount (h : Keeps s₀ s) {b ev lane n : ℕ} : Keeps s₀ (pcCount s b ev lane n) := h.foldl fun _ _ ht => .ite ht.pcAdd ht

theorem Keeps.received (h : Keeps s₀ s) {port n : ℕ} : Keeps s₀ (received s port n) := h.pcCount

theorem Keeps.setRxd (h : Keeps s₀ s) {f d : ℕ} {r : RxdX} : Keeps s₀ (s.setRxd f d r) := h.rest

/-! ## Machine/Mem.lean: memory, its tags and the tally -/

theorem Keeps.bankUe (h : Keeps s₀ s) {f d bin : ℕ} : Keeps s₀ (bankUe s f d bin) := h.setRxd.wr

theorem Keeps.surveyLost (h : Keeps s₀ s) {a w : ℕ} : Keeps s₀ (surveyLost s a w) := .ite h.wr.rest (.ite (.ite h.rest h) h)

theorem Keeps.ownerAct (h : Keeps s₀ s) {a w : ℕ} {r : Region} : Keeps s₀ (ownerAct s a w r) := by
  unfold Machine.ownerAct
  split
  · split
    · split
      · exact h.bankUe
      · split
        · exact h.wr
        · exact h
    · exact h
  · exact h.surveyLost
  · exact h.rest
  · exact h

theorem Keeps.ownerNotice (h : Keeps s₀ s) {a i w : ℕ} : Keeps s₀ (ownerNotice s a i w) := by
  unfold Machine.ownerNotice
  split
  · exact h.logEvent
  · split
    · exact h
    · exact (Keeps.ite h.logEvent.incSat.logEvent h.logEvent.incSat).ownerAct

theorem Keeps.memErr (h : Keeps s₀ s) {kind src a i w synd : ℕ} : Keeps s₀ (memErr s kind src a i w synd) := h.wrs

theorem Keeps.ceEvent (h : Keeps s₀ s) {src a i w synd : ℕ} : Keeps s₀ (ceEvent s src a i w synd) := h.memErr.incSat.pcCount.logEvent

theorem Keeps.ueEvent (h : Keeps s₀ s) {src a i w synd : ℕ} : Keeps s₀ (ueEvent s src a i w synd) := h.memErr.incSat.pcCount.logEvent

theorem Keeps.memReadWord (h : Keeps s₀ s) {a i w : ℕ} : Keeps s₀ (memReadWord s a i w).1 := by
  conv in Machine.memReadWord => delta Machine.memReadWord
  split
  · exact h
  · split
    · exact h
    · exact h.setTag.ceEvent
    · exact .ite_fst h h.setTag.ueEvent.ownerNotice

theorem Keeps.memMerge (h : Keeps s₀ s) {a i w o : ℕ} {new : List ℕ} : Keeps s₀ (memMerge s a i w o new) := by
  conv in Machine.memMerge => delta Machine.memMerge
  split
  · exact h.memPutWord
  · split
    · exact h.memPutWord
    · exact h.ceEvent.memPutWord
    · exact .ite h.memPutWord.setTag h.memPutWord.setTag.ueEvent.ownerNotice

theorem Keeps.memPartial (h : Keeps s₀ s) {a i w o : ℕ} {new : List ℕ} : Keeps s₀ (memPartial s a i w o new) := h.pcCount.memMerge

theorem Keeps.memWriteWord (h : Keeps s₀ s) {a i w data : ℕ} : Keeps s₀ (memWriteWord s a i w data) := .ite h.memPutWord.rest h.memPutWord

theorem Keeps.memWriteIn (h : Keeps s₀ s) {a i b : ℕ} {new : List ℕ} : Keeps s₀ (memWriteIn s a i b new) := .ite h.memWriteWord h.memPartial

theorem Keeps.memReadIn (h : Keeps s₀ s) {a i b n : ℕ} : Keeps s₀ (memReadIn s a i b n).1 := by
  conv in Machine.memReadIn => delta Machine.memReadIn
  dsimp only
  exact h.memReadWord

theorem Keeps.memWriteRun (h : Keeps s₀ s) {a i k o : ℕ} {bs : List ℕ} : Keeps s₀ (memWriteRun s a i k o bs) := by
  induction k generalizing s o bs with
  | zero => exact h
  | succ k ih =>
    cases bs with
    | nil => exact h
    | cons b bs => exact .ite (ih h.memWriteIn) (ih h.memWriteIn)

theorem Keeps.memReadRun (h : Keeps s₀ s) {a i w k : ℕ} : Keeps s₀ (memReadRun s a i w k).1 := by
  induction k generalizing s w with
  | zero => exact h
  | succ k ih => exact .ite_fst h.memReadWord (ih h.memReadWord)

theorem Keeps.bufWrite (h : Keeps s₀ s) {a i w n : ℕ} : Keeps s₀ (bufWrite s a i w n) := by
  unfold Machine.bufWrite
  split
  · exact h.rest.useFlip.setTag
  · exact h.rest

theorem Keeps.bufRead (h : Keeps s₀ s) {a i w n : ℕ} : Keeps s₀ (bufRead s a i w n).1 := .foldl_fst h fun _ _ ht => ht.memReadWord

theorem Keeps.tagRead (h : Keeps s₀ s) {a i w : ℕ} {y : WordTag} : Keeps s₀ (tagRead s a i w y).1 := h.setTag.memReadWord.setTag

theorem Keeps.bufPass (h : Keeps s₀ s) {a i size n : ℕ} : Keeps s₀ (bufPass s a i size n).1 := by
  conv in Machine.bufPass => delta Machine.bufPass
  extract_lets w
  split
  · split
    · exact h.tookFree.useFlip.tagRead
    · exact h.tookFree
  · exact h

theorem Keeps.hardError (h : Keeps s₀ s) {src a i w synd : ℕ} : Keeps s₀ (hardError s src a i w synd).1 := by
  conv in Machine.hardError => delta Machine.hardError
  extract_lets t row fix t1 t2
  have ht : Keeps s₀ t := h.memErr.incSat.logEvent
  have ht2 : Keeps s₀ t2 := ht.rest.wr.incSat
  exact .ite_fst ht (.ite_fst ht (.ite_fst ht2.logEvent ht.logEvent))

theorem Keeps.scrubWord (h : Keeps s₀ s) {a i w : ℕ} : Keeps s₀ (scrubWord s a i w).1 := by
  conv in Machine.scrubWord => delta Machine.scrubWord
  split
  · exact h
  · split
    · exact h
    · split
      · exact h.rest
      · exact .ite_fst h.hardError h.setTag.ceEvent
      · exact .ite_fst h.setTag.ueEvent.ownerNotice.hardError h.setTag.ueEvent.ownerNotice

/-! ## Machine/Link.lean: faces, lanes, ports and what ends early -/

theorem Keeps.setLaneDp (h : Keeps s₀ s) {f p d : ℕ} : Keeps s₀ (setLaneDp s f p d) := .ite h.wr h.wr

theorem Keeps.setTxLaneDp (h : Keeps s₀ s) {f p d : ℕ} : Keeps s₀ (setTxLaneDp s f p d) := .ite h.wr h.wr

theorem Keeps.setPosLane (h : Keeps s₀ s) {f k p : ℕ} : Keeps s₀ (setPosLane s f k p) := h.wr

theorem Keeps.mapChanged (h : Keeps s₀ s) {f p : ℕ} : Keeps s₀ (mapChanged s f p) := h.incMod.logEvent

theorem Keeps.reliefEval (h : Keeps s₀ s) {f : ℕ} : Keeps s₀ (reliefEval s f) := .ite h.wr.logEvent h.wr

theorem Keeps.setTxd (h : Keeps s₀ s) {f d : ℕ} {x : TxdX} : Keeps s₀ (s.setTxd f d x) := h.rest

theorem Keeps.setPort (h : Keeps s₀ s) {n : ℕ} {x : PortX} : Keeps s₀ (s.setPort n x) := h.rest

theorem Keeps.emitShow (h : Keeps s₀ s) {f : ℕ} : Keeps s₀ (emitShow s f) := h.foldl fun _ _ ht => ht.wr

theorem Keeps.setEmit (h : Keeps s₀ s) {f mask : ℕ} : Keeps s₀ (setEmit s f mask) := h.setFace.emitShow

theorem Keeps.fillForget (h : Keeps s₀ s) {n : ℕ} {host line : Bool} : Keeps s₀ (fillForget s n host line) := .ite h.setPort h

theorem Keeps.portEval (h : Keeps s₀ s) {n : ℕ} : Keeps s₀ (portEval s n) :=
  .ite h (.ite h.fillForget.wrs (Keeps.ite h.fillForget.wrs.wr h.fillForget.wrs.wr).logEvent)

theorem Keeps.portsEval (h : Keeps s₀ s) {ns : List ℕ} : Keeps s₀ (portsEval s ns) := h.foldl fun _ _ ht => ht.portEval

theorem Keeps.laneOutEval (h : Keeps s₀ s) {f p : ℕ} : Keeps s₀ (laneOutEval s f p) := by
  conv in Machine.laneOutEval => delta Machine.laneOutEval
  extract_lets t
  have ht : Keeps s₀ t := h.foldl fun _ _ ht => ht.wr
  split
  · exact ht.portEval
  · exact ht

theorem Keeps.laneCorr (h : Keeps s₀ s) {f p mode : ℕ} : Keeps s₀ (laneCorr s f p mode) := h.setLane

theorem Keeps.corrShow (h : Keeps s₀ s) {f d p : ℕ} : Keeps s₀ (corrShow s f d p) := h.dropRegs.wrs.foldl fun _ _ ht => ht.wrs

theorem Keeps.corrLoad (h : Keeps s₀ s) {f d p : ℕ} : Keeps s₀ (corrLoad s f d p) := h.laneCorr.corrShow

theorem Keeps.corrRestore (h : Keeps s₀ s) {f p : ℕ} : Keeps s₀ (corrRestore s f p) := h.foldl fun _ _ ht => ht.corrShow

theorem Keeps.corrRecompute (h : Keeps s₀ s) {f p : ℕ} : Keeps s₀ (corrRecompute s f p) := h.laneCorr.corrRestore

theorem Keeps.detectorFor (h : Keeps s₀ s) {f p lvl : ℕ} : Keeps s₀ (detectorFor s f p lvl) := h.foldl fun _ _ ht => ht.wr

theorem Keeps.rxServe (h : Keeps s₀ s) {f p d : ℕ} : Keeps s₀ (rxServe s f p d) := h.wrs.corrShow.detectorFor

theorem Keeps.marginNextEval (h : Keeps s₀ s) {f p : ℕ} : Keeps s₀ (marginNextEval s f p) := .ite (h.foldl fun _ _ ht => ht.wr) h

theorem Keeps.effortApply (h : Keeps s₀ s) {f p lvl : ℕ} : Keeps s₀ (effortApply s f p lvl) := h.wr.incMod.detectorFor.marginNextEval.pcCount

theorem Keeps.effortE0 (h : Keeps s₀ s) {f p : ℕ} : Keeps s₀ (effortE0 s f p) := .ite h.detectorFor h.effortApply

theorem Keeps.effortRequest (h : Keeps s₀ s) {f p lvl : ℕ} : Keeps s₀ (effortRequest s f p lvl) := .ite h.wrs h.wrs

theorem Keeps.setSeam (h : Keeps s₀ s) {f p : ℕ} {x : SeamX} : Keeps s₀ (s.setSeam f p x) := h.rest

theorem Keeps.seamState (h : Keeps s₀ s) {f p st : ℕ} : Keeps s₀ (seamState s f p st) := by
  conv in Machine.seamState => delta Machine.seamState
  extract_lets _ t
  split
  · exact h.setSeam.wr
  · exact h.setSeam

theorem Keeps.episodesEnd (h : Keeps s₀ s) {n : ℕ} : Keeps s₀ (episodesEnd s n) := h.rest.foldl fun _ _ ht => ht.wrs

theorem Keeps.seamOff (h : Keeps s₀ s) {f p : ℕ} : Keeps s₀ (seamOff s f p) := by
  conv in Machine.seamOff => delta Machine.seamOff
  obtain ⟨portOf, e⟩ : ∃ g, g = Machine.portOf := ⟨_, rfl⟩
  rw [← e]
  extract_lets x t
  split
  · exact h
  · split
    · extract_lets t1
      split
      · exact h.setSeam.wrs.episodesEnd
      · exact h.setSeam.wrs
    · exact h.setSeam

theorem Keeps.seamStart (h : Keeps s₀ s) {f p : ℕ} : Keeps s₀ (seamStart s f p) := by
  conv in Machine.seamStart => delta Machine.seamStart
  extract_lets t m t1
  have ht1 : Keeps s₀ t1 := by
    unfold t1
    split
    · exact h.seamOff.wrs
    · exact h.seamOff
  exact .ite ht1.seamState h.seamOff

theorem Keeps.rxdClearMem (h : Keeps s₀ s) {f d : ℕ} : Keeps s₀ (rxdClearMem s f d) := h.memClear

theorem Keeps.txdClearMem (h : Keeps s₀ s) {f d : ℕ} : Keeps s₀ (txdClearMem s f d) := h.memClear

theorem Keeps.rxdRegsReset (h : Keeps s₀ s) {f d lane role : ℕ} : Keeps s₀ (rxdRegsReset s f d lane role) := h.dropRegs.setRxd.wrs

theorem Keeps.rxdOff (h : Keeps s₀ s) {f d role : ℕ} : Keeps s₀ (rxdOff s f d role) := h.rxdRegsReset.rxdClearMem

theorem Keeps.assayIdle (h : Keeps s₀ s) {f : ℕ} : Keeps s₀ (assayIdle s f) := h.wrs

theorem Keeps.assayHold (h : Keeps s₀ s) {f cause : ℕ} : Keeps s₀ (assayHold s f cause) := h.rest

theorem Keeps.rotationAbandon (h : Keeps s₀ s) {f cause cls : ℕ} : Keeps s₀ (rotationAbandon s f cause cls) :=
  .ite h (Keeps.ite h.rxdOff.wr h.wrs).assayIdle.assayHold.wrs.incSat.logEvent

theorem Keeps.bistRelease (h : Keeps s₀ s) {f : ℕ} : Keeps s₀ (bistRelease s f) := by
  unfold Machine.bistRelease
  extract_lets d t t1
  have ht1 : Keeps s₀ t1 := by
    unfold t1
    split
    · split
      · exact h.rxdRegsReset
      · exact h.rxdOff
    · exact h.wrs.wr.emitShow
  exact ht1.assayIdle

theorem Keeps.abandonEvent (h : Keeps s₀ s) {f cls : ℕ} : Keeps s₀ (abandonEvent s f cls) := h.logEvent

theorem Keeps.bistAbandon (h : Keeps s₀ s) {f cause cls : ℕ} : Keeps s₀ (bistAbandon s f cause cls) :=
  .ite h.bistRelease.assayHold.wrs.abandonEvent h

theorem Keeps.assayAbandon (h : Keeps s₀ s) {f cause cls : ℕ} : Keeps s₀ (assayAbandon s f cause cls) := h.rotationAbandon.bistAbandon

theorem Keeps.corrNotice (h : Keeps s₀ s) {f p : ℕ} : Keeps s₀ (corrNotice s f p) := h.wr.raiseIrq

theorem Keeps.standInEnd (h : Keeps s₀ s) {f p : ℕ} : Keeps s₀ (standInEnd s f p) := by
  unfold Machine.standInEnd
  extract_lets x t t1
  have ht : Keeps s₀ t := h.putLane fun w => ⟨by simp, ((h.names w).lane f p).2⟩
  exact .ite ((Keeps.ite ht.wr ht).corrRestore) h

/-- An item joins Survey's queue. -/
theorem Keeps.calPut (h : Keeps s₀ s) {x : CalItem} (hx : NamesWf s₀ → x.NamesOk) : Keeps s₀ (calPut s x) := by
  refine h.items fun w y hy => ?_
  rcases List.mem_append.mp hy with hy | hy
  · exact (h.names w).items (List.takeWhile_subset _ hy)
  · rcases List.mem_cons.mp hy with rfl | hy
    · exact hx w
    · exact (h.names w).items (List.dropWhile_subset _ hy)

theorem Keeps.calQueue (h : Keeps s₀ s) {f p kind op : ℕ} (hf : f < 16) (hp : p < 9) : Keeps s₀ (calQueue s f p kind op) :=
  .ite h ((h.calPut fun _ => ⟨hf, hp.le, by simp⟩).wrs)

theorem Keeps.calBootstrap (h : Keeps s₀ s) {f p : ℕ} (hf : f < 16) (hp : p < 9) : Keeps s₀ (calBootstrap s f p) := .ite (h.calQueue hf hp) h

theorem Keeps.calRunEnd (h : Keeps s₀ s) {f p result : ℕ} : Keeps s₀ (calRunEnd s f p result) := by
  unfold Machine.calRunEnd
  extract_lets t upd t1 t2
  have ht1 : Keeps s₀ t1 := h.standInEnd.items fun w y hy => by
    obtain ⟨x, hx, rfl⟩ := List.mem_map.mp hy
    obtain ⟨hf, hp, hrest⟩ := (h.standInEnd.names w).items hx
    unfold upd
    split
    · exact ⟨hf, hp, by simp⟩
    · exact ⟨hf, hp, hrest⟩
  exact .ite ht1.wrs.wr h.standInEnd

theorem Keeps.calAbandon (h : Keeps s₀ s) {f p cls : ℕ} : Keeps s₀ (calAbandon s f p cls) := .ite h.calRunEnd.abandonEvent h.calRunEnd

/-! ## Machine/Capture.lean: taps, streams, captures and the archive -/

theorem Keeps.setCap (h : Keeps s₀ s) {c : ℕ} {x : ObsRec} : Keeps s₀ (s.setCap c x) := h.rest

theorem Keeps.setStream (h : Keeps s₀ s) {i : ℕ} {x : StreamX} : Keeps s₀ (s.setStream i x) := h.rest

theorem Keeps.tapSwapNow (h : Keeps s₀ s) {f at_ : ℕ} : Keeps s₀ (tapSwapNow s f at_) := h.wrs.setFaceFrom h

theorem Keeps.tapRestartNow (h : Keeps s₀ s) {f : ℕ} : Keeps s₀ (tapRestartNow s f) :=
  .ite (h.incMod.wrs.setFaceFrom h).tapSwapNow (h.incMod.wrs.setFaceFrom h)

theorem Keeps.tapGap (h : Keeps s₀ s) {f : ℕ} : Keeps s₀ (tapGap s f) := h.foldl fun _ _ ht => .ite ht.setStream ht

theorem Keeps.tapEval (h : Keeps s₀ s) {f : ℕ} : Keeps s₀ (tapEval s f) := .ite h (.ite h.wr (.ite h.wr.tapRestartNow.tapGap h.wr.setFace))

theorem Keeps.tapRestartEff (h : Keeps s₀ s) {f : ℕ} : Keeps s₀ (tapRestartEff s f) := .ite (h.wr.setFaceFrom h) h

theorem Keeps.tapCfgEff (h : Keeps s₀ s) {f v : ℕ} : Keeps s₀ (tapCfgEff s f v).1 := .ite_fst h h.setReg.wr.tapRestartEff.tapEval

theorem Keeps.tapRunEff (h : Keeps s₀ s) {f : ℕ} {run : Bool} : Keeps s₀ (tapRunEff s f run) := h.wr.tapEval

theorem Keeps.tapSwapEff (h : Keeps s₀ s) {f : ℕ} : Keeps s₀ (tapSwapEff s f) := h.wrs

theorem Keeps.tapCoefEff (h : Keeps s₀ s) {f b i v : ℕ} : Keeps s₀ (tapCoefEff s f b i v).1 := .ite_fst h h.wr

theorem Keeps.streamPut (h : Keeps s₀ s) {i : ℕ} {b : ObsBlock} : Keeps s₀ (streamPut s i b) := h.wr.sessUpd.send.setStream.pcCount

theorem Keeps.liveSend (h : Keeps s₀ s) {f i : ℕ} {b : ObsBlock} : Keeps s₀ (liveSend s f i b) := .ite (.ite h.incSat.setStream h.streamPut) h

theorem Keeps.streamClose (h : Keeps s₀ s) {i : ℕ} : Keeps s₀ (streamClose s i) := .ite (Keeps.ite h.wr h).wrs.setStream h

theorem Keeps.streamsClose (h : Keeps s₀ s) {p : State → ℕ → Bool} : Keeps s₀ (streamsClose s p) := h.foldl fun _ _ ht => .ite ht.streamClose ht

theorem Keeps.liveFit (h : Keeps s₀ s) {port rate n : ℕ} : Keeps s₀ (liveFit s port rate n) := by
  induction n generalizing s with
  | zero => exact h
  | succ n ih =>
    unfold Machine.liveFit
    split
    · split
      · exact ih h.streamClose.logEvent
      · exact h
    · exact h

theorem Keeps.capFull (h : Keeps s₀ s) {c : ℕ} {wrapped : Bool} {end_ : ℕ} {trunc known : Bool} : Keeps s₀ (capFull s c wrapped end_ trunc known) :=
  h.wrs.setCap

theorem Keeps.capStore (h : Keeps s₀ s) {c end_ : ℕ} {data : List (BitVec 64)} : Keeps s₀ (capStore s c end_ data) :=
  h.foldl fun _ _ ht => ht.memWriteWord

theorem Keeps.recWord (h : Keeps s₀ s) {r : ObsRec} {words : Option (List (Option ℕ))} {j : ℕ} : Keeps s₀ (recWord s r words j).1 := by
  conv in Machine.recWord => delta Machine.recWord
  dsimp only
  split
  · exact h
  · exact .ite_fst h.memReadWord h.tookFree

theorem Keeps.recWords (h : Keeps s₀ s) {r : ObsRec} {words : Option (List (Option ℕ))} {j n : ℕ} : Keeps s₀ (recWords s r words j n).1 :=
  .foldl_fst h fun _ _ ht => ht.recWord

theorem Keeps.capTrunc (h : Keeps s₀ s) {c : ℕ} : Keeps s₀ (capTrunc s c) := .ite h.tookFree.capFull.logEvent h

theorem Keeps.capEnd (h : Keeps s₀ s) {f p : ℕ} : Keeps s₀ (capEnd s f p) := h.foldl fun _ _ ht => .ite ht.capTrunc ht

theorem Keeps.obsLaneOff (h : Keeps s₀ s) {f p : ℕ} : Keeps s₀ (obsLaneOff s f p) := h.capEnd.tapEval

theorem Keeps.capDiscardAll (h : Keeps s₀ s) : Keeps s₀ (capDiscardAll s) := .ite (h.streamsClose.foldl fun _ _ ht => ht.wr.setCap).logEvent h

theorem Keeps.armEff (h : Keeps s₀ s) {mask : List ℕ} : Keeps s₀ (armEff s mask).1 :=
  .ite_fst h ((h.foldl fun _ _ ht => ht.wrs.setCap).foldl fun _ _ ht => .ite ht.capFire ht)

theorem Keeps.forceEff (h : Keeps s₀ s) {c : ℕ} : Keeps s₀ (forceEff s c) := .ite h.tookFree.capFire h

theorem Keeps.discardEff (h : Keeps s₀ s) {c : ℕ} : Keeps s₀ (discardEff s c).1 := by
  conv in Machine.discardEff => delta Machine.discardEff
  split
  · exact h.wr.setCap
  · exact h
  · exact h

theorem Keeps.capCfgEff (h : Keeps s₀ s) {c v : ℕ} : Keeps s₀ (capCfgEff s c v).1 := .ite_fst h h.setReg

theorem Keeps.capRegionEff (h : Keeps s₀ s) {c v : ℕ} : Keeps s₀ (capRegionEff s c v).1 := .ite_fst h h.wrs

theorem Keeps.capTrigEff (h : Keeps s₀ s) {c v : ℕ} : Keeps s₀ (capTrigEff s c v).1 := .ite_fst h h.wr

theorem Keeps.standingArm (h : Keeps s₀ s) {f : ℕ} : Keeps s₀ (standingArm s f) := by
  conv in Machine.standingArm => delta Machine.standingArm
  dsimp only
  split
  · split
    · exact .ite (.ite h.setFace.armEff h.setFace.logEvent) h.setFace
    · exact h.setFace
  · exact h

theorem Keeps.archShow (h : Keeps s₀ s) : Keeps s₀ (archShow s) := h.wrs

theorem Keeps.archAdd (h : Keeps s₀ s) {c : ℕ} : Keeps s₀ (archAdd s c) := by
  conv in Machine.archAdd => delta Machine.archAdd
  dsimp only
  exact h.recWords.rest.wr.archShow.setCap

theorem Keeps.archFree (h : Keeps s₀ s) {id : ℕ} : Keeps s₀ (archFree s id) := h.streamsClose.rest.archShow

theorem Keeps.execTapSwapApply (h : Keeps s₀ s) {f : Fin 16} : KeepsOut s₀ (execTapSwapApply f s) := (h.guardS h.tapSwapNow).next

theorem Keeps.tapSend (h : Keeps s₀ s) {f : ℕ} {b : TapIn} : Keeps s₀ (tapSend s f b) :=
  .ite (h.foldl fun _ _ ht => ht.liveSend).setFace.tapRestartNow.tapEval (h.foldl fun _ _ ht => ht.liveSend).setFace

theorem Keeps.execTapBlock (h : Keeps s₀ s) {f : Fin 16} {b : TapIn} : KeepsOut s₀ (execTapBlock f b s) := by
  refine (h.guardS ?_).next
  extract_lets x t _ t1
  have ht : Keeps s₀ t := h.wr
  have ht1 : Keeps s₀ t1 := ht.setFace
  exact .ite ht1.tapSend ht1

theorem Keeps.execCaptureTrigger (h : Keeps s₀ s) {c : Fin 4} {time : BitVec 64} {pos : BitVec 26} {shortPre : Bool} :
    KeepsOut s₀ (execCaptureTrigger c time pos shortPre s) :=
  (h.guardS h.capFire).next

theorem Keeps.execCaptureFull (h : Keeps s₀ s) {c : Fin 4} {wrapped : Bool} {end_ : BitVec 20} {data : List (BitVec 64)} :
    KeepsOut s₀ (execCaptureFull c wrapped end_ data s) :=
  (h.guardS h.capStore.capFull).next

theorem Keeps.recBlock (h : Keeps s₀ s) {r : ObsRec} {words : Option (List (Option ℕ))} {n : ℕ} {b : ObsIn} :
    Keeps s₀ (recBlock s r words n b).1 := by
  conv in Machine.recBlock => delta Machine.recBlock
  dsimp only
  exact h.recWords

theorem Keeps.execStreamBlockSend (h : Keeps s₀ s) {i : Fin 32} {b : ObsIn} : KeepsOut s₀ (execStreamBlockSend i b s) := by
  conv in Machine.execStreamBlockSend => delta Machine.execStreamBlockSend
  refine .next (.guardS h ?_)
  dsimp only
  split
  · exact h
  · exact .ite h (.ite (.ite h.recBlock.streamPut.archFree h.recBlock.streamPut.streamClose.wr.setCap) h.recBlock.streamPut)

theorem Keeps.execStreamTimeout (h : Keeps s₀ s) {i : Fin 32} : KeepsOut s₀ (execStreamTimeout i s) := (h.guardS h.streamClose.logEvent).next

/-! ## Machine/Domains.lean: domains -/

theorem Keeps.accRearm (h : Keeps s₀ s) : Keeps s₀ (accRearm s) := .ite h h.rest

/-! ## Machine/Lane.lean: lanes -/

theorem Keeps.laneEvent (h : Keeps s₀ s) {f p b a0 : ℕ} {fld : Fld} : Keeps s₀ (laneEvent s f p b a0 fld) := h.stickyEvent

theorem Keeps.softDrop (h : Keeps s₀ s) {f d : ℕ} : Keeps s₀ (softDrop s f d) := h.setRxd

theorem Keeps.setAcq (h : Keeps s₀ s) {f p st : ℕ} : Keeps s₀ (setAcq s f p st) := by
  unfold Machine.setAcq
  extract_lets old t x t1 t2
  have ht1 : Keeps s₀ t1 := h.wrs.setLane
  have ht2 : Keeps s₀ t2 := .ite ht1 (ht1.wr.foldl fun _ _ ht => ht.wrs.softDrop)
  exact .ite ht2.raiseIrq ht2

theorem Keeps.qualReset (h : Keeps s₀ s) {f d : ℕ} : Keeps s₀ (qualReset s f d) := h.dropRegs.setRxd

theorem Keeps.enterDetect (h : Keeps s₀ s) {f p : ℕ} : Keeps s₀ (enterDetect s f p) := h.setAcq.wrs

theorem Keeps.laneDrops (h : Keeps s₀ s) {f p cls : ℕ} : Keeps s₀ (laneDrops s f p cls) :=
  (Keeps.ite h.rotationAbandon h).standInEnd.calAbandon.seamOff

theorem Keeps.laneToOff (h : Keeps s₀ s) {f p : ℕ} : Keeps s₀ (laneToOff s f p) :=
  .ite h (h.laneDrops.setLane.foldl fun _ _ ht => ht.wr).setAcq.wrs.effortE0.laneOutEval.obsLaneOff

theorem Keeps.laneFromOff (h : Keeps s₀ s) {f p : ℕ} : Keeps s₀ (laneFromOff s f p) :=
  .ite (Keeps.ite h.enterDetect.setLane.wrs h.enterDetect.setLane.wrs.wr).tapEval h

theorem Keeps.laneEval (h : Keeps s₀ s) {f p : ℕ} : Keeps s₀ (laneEval s f p) := .ite h.laneFromOff h.laneToOff

theorem Keeps.lanesEval (h : Keeps s₀ s) {f : ℕ} : Keeps s₀ (lanesEval s f) := h.foldl fun _ _ ht => ht.laneEval

theorem LaneX.NamesOk.start {x : LaneX} (h : x.NamesOk) {n : ℕ} : LaneX.NamesOk { x with acqStart := n } := h

theorem Keeps.laneLossCore (h : Keeps s₀ s) {f p cause : ℕ} : Keeps s₀ (laneLossCore s f p cause) := by
  unfold Machine.laneLossCore
  extract_lets wasLocked dest t t1 t2 l t3 x t4 t5 t6
  have ht2 : Keeps s₀ t2 := h.wr.laneEvent.laneDrops
  have hl (w : NamesWf s₀) : l.NamesOk := (ht2.names w).lane f p
  have ht3 : Keeps s₀ t3 := .ite (ht2.wr.putLane fun w => (hl w).start) ht2
  have ht4 : Keeps s₀ t4 := ht3.setLane
  have ht5 : Keeps s₀ t5 := .ite ht4.enterDetect ht4.setAcq
  have ht6 : Keeps s₀ t6 := .ite ht5 ht5.wr
  exact ht6.effortE0.laneOutEval

theorem Keeps.relockFailed (h : Keeps s₀ s) {f p : ℕ} : Keeps s₀ (relockFailed s f p) := h.setLane.setAcq.wr.laneOutEval

theorem Keeps.modeEnCheck (h : Keeps s₀ s) {f : ℕ} : Keeps s₀ (modeEnCheck s f) := h.foldl fun _ _ ht => .ite ht.laneLossCore ht

theorem Keeps.enterSearch (h : Keeps s₀ s) {f p : ℕ} : Keeps s₀ (enterSearch s f p) := h.setAcq.setLane

theorem Keeps.nextCand (h : Keeps s₀ s) {f p : ℕ} : Keeps s₀ (nextCand s f p) := by
  unfold Machine.nextCand
  extract_lets x
  split
  · exact h.wr.enterSearch
  · extract_lets t t1 t2 d
    have ht1 : Keeps s₀ t1 := h.setLane.setAcq.wr.incSat
    have ht2 : Keeps s₀ t2 := .ite ht1.tapRestartEff ht1
    exact .ite ht2 ht2.wrs.corrLoad

theorem Keeps.enterLocked (h : Keeps s₀ s) {f p : ℕ} (hf : f < 16) (hp : p < 9) : Keeps s₀ (enterLocked s f p) := by
  unfold Machine.enterLocked
  extract_lets mode t x t1 t2 t3 t4 t5
  have ht1 : Keeps s₀ t1 := h.setAcq.wrs
  have ht2 : Keeps s₀ t2 := by
    unfold t2
    split
    · exact .ite ht1.wr ht1
    · exact ht1
  have ht3 : Keeps s₀ t3 := ht2.foldl fun _ _ hu => hu.qualReset
  have ht4 : Keeps s₀ t4 := ht3.setLaneFrom h.setAcq
  exact (ht4.laneEvent.calBootstrap hf hp).seamStart.laneOutEval

theorem Keeps.takeAlign (h : Keeps s₀ s) {f p : ℕ} {a : Option (ℕ × Bool)} : Keeps s₀ (takeAlign s f p a) := by
  unfold Machine.takeAlign
  split
  · exact h
  · exact .ite h h.wrs.incMod

theorem Keeps.verifyEnd (h : Keeps s₀ s) {f p : ℕ} {v : Verify} (hf : f < 16) (hp : p < 9) : Keeps s₀ (verifyEnd s f p v) :=
  .ite (h.takeAlign.enterLocked hf hp) (.ite h.takeAlign.relockFailed h.takeAlign.incSat.laneEvent.nextCand)

theorem Keeps.setGain (h : Keeps s₀ s) {f p g : ℕ} : Keeps s₀ (setGain s f p g) := .ite h h.wrs

/-! ## Machine/LongOp.lean: long operations -/

theorem Keeps.claimSet (h : Keeps s₀ s) {c : Option (Option ℕ)} : Keeps s₀ (claimSet s c) := h.wr.rest

theorem Keeps.claimTake (h : Keeps s₀ s) {c : Option ℕ} : Keeps s₀ (claimTake s c) := (Keeps.ite h h.capDiscardAll).claimSet

theorem Keeps.opNotice (h : Keeps s₀ s) {o : LongOp} : Keeps s₀ (opNotice s o) := by
  unfold Machine.opNotice
  split
  · exact h.sessUpd.send
  · exact h

theorem Keeps.opEndAt (h : Keeps s₀ s) {n : ℕ} {st : OpState} {result detail progress : ℕ} :
    Keeps s₀ (opEndAt s n st result detail progress) := by
  unfold Machine.opEndAt
  split
  · exact h
  · split
    · exact h
    · rename_i o ho _
      extract_lets o' t _
      have ht : Keeps s₀ t := h.kinds fun w y hy => by
        obtain ⟨x, hx, rfl⟩ := List.mem_map.mp hy
        split
        · exact show o.kind.NamesOk from (h.names w).op ho
        · exact (h.names w).kinds hx
      exact (Keeps.ite ht.claimSet ht).opNotice

theorem Keeps.opEnd (h : Keeps s₀ s) {n : ℕ} {st : OpState} {result detail : ℕ} : Keeps s₀ (opEnd s n st result detail) := h.opEndAt

/-! ## Machine/Ddr.lean: DDR -/

theorem Keeps.ddrReadW (h : Keeps s₀ s) {w : ℕ} : Keeps s₀ (ddrReadW s w).1 := by
  conv in Machine.ddrReadW => delta Machine.ddrReadW
  dsimp only
  split
  · exact .ite h.pcCount h
  · exact (Keeps.ite h.pcCount h).memReadWord

theorem Keeps.ddrWriteLine (h : Keeps s₀ s) {l o : ℕ} {bs : List ℕ} : Keeps s₀ (ddrWriteLine s l o bs) := by
  unfold Machine.ddrWriteLine
  dsimp only
  refine .pcCount (.foldl (.ite h.pcCount.pcCount h) fun t x ht => ?_)
  split
  · exact ht.memWriteWord
  · split
    · exact ht.memMerge
    · exact .ite ht ht.memPutWord

theorem Keeps.ddrWrite (h : Keeps s₀ s) {k a : ℕ} {bs : List ℕ} : Keeps s₀ (ddrWrite s k a bs) := by
  induction k generalizing s a bs with
  | zero => exact h
  | succ k ih => exact .ite h (ih h.ddrWriteLine)

theorem Keeps.ddrReadRun (h : Keeps s₀ s) {first : Bool} {w k : ℕ} : Keeps s₀ (ddrReadRun s first w k).1 := by
  induction k generalizing s first w with
  | zero => exact h
  | succ k ih => exact .ite_fst (Keeps.ite h.pcCount h).ddrReadW (ih (Keeps.ite h.pcCount h).ddrReadW)

theorem Keeps.ddrRead (h : Keeps s₀ s) {a n : ℕ} : Keeps s₀ (ddrRead s a n).1 := h.ddrReadRun

/-! ## Machine/Otp.lean: OTP and the burn -/

theorem Keeps.otpShow (h : Keeps s₀ s) : Keeps s₀ (otpShow s) := h.wrs

theorem Keeps.limitsShow (h : Keeps s₀ s) {f : ℕ} : Keeps s₀ (limitsShow s f) := h.setReg.setReg

theorem Keeps.sealBurn (h : Keeps s₀ s) {r : SealRec} : Keeps s₀ (sealBurn s r) := .ite h.rest h.rest.otpShow.logEvent

theorem Keeps.rowSealBurn (h : Keeps s₀ s) {a i row : ℕ} : Keeps s₀ (rowSealBurn s a i row) := h.sealBurn

theorem Keeps.hardErrorSeal (h : Keeps s₀ s) {a i w : ℕ} {done : Bool} : Keeps s₀ (hardErrorSeal s a i w done) := .ite h.rowSealBurn h

theorem Keeps.burnDone (h : Keeps s₀ s) : Keeps s₀ (burnDone s) := by
  conv in Machine.burnDone => delta Machine.burnDone
  split
  · exact h
  · extract_lets t
    have ht : Keeps s₀ t := h.rest.otpShow
    split
    · exact h.rest.otpShow.logEvent
    · split
      · exact ht
      · extract_lets rest
        split
        · exact .ite ht.opEnd (.ite ht.rest.opEnd ht)
        · exact ht

theorem Keeps.burnsStop (h : Keeps s₀ s) {fail : Bool} : Keeps s₀ (burnsStop s fail) :=
  .ite (h.rest.otpShow.foldl fun _ _ ht => ht.opEnd) h.rest.otpShow

theorem Keeps.faceMapReset (h : Keeps s₀ s) {f : ℕ} : Keeps s₀ (faceMapReset s f) := by
  unfold Machine.faceMapReset
  extract_lets rs has rx tx subs pos t t1 t2 t3 t4
  have ht3 : Keeps s₀ t3 := (h.wrs.foldl fun _ _ hu => hu.setLaneDp.setTxLaneDp).wrs.foldl fun _ _ hu => hu.setPosLane
  have ht4 : Keeps s₀ t4 := by
    clear_value subs t3
    unfold t4
    split
    · exact ht3
    · extract_lets d e u rd te v
      have hu : Keeps s₀ u := ht3.setPosLane
      have hv : Keeps s₀ v := .ite hu.setLaneDp.setLaneDp hu.setLaneDp.setLaneDp.wr
      exact .ite hv.setTxLaneDp.setTxLaneDp hv.setTxLaneDp.setTxLaneDp.wr
  exact ht4.wr

theorem Keeps.sliceSealsShow (h : Keeps s₀ s) {f : ℕ} : Keeps s₀ (sliceSealsShow s f) := by
  unfold Machine.sliceSealsShow
  refine .foldl h fun t x ht => ?_
  split
  · exact ht
  · exact ht.wrs
  · exact ht.wrs

theorem Keeps.execVppOtpApplied (h : Keeps s₀ s) : KeepsOut s₀ (execVppOtpApplied s) := by
  refine (h.guardS ?_).next
  extract_lets t n
  have ht : Keeps s₀ t := h.wr
  refine .ite (Keeps.otpShow ?_) ht
  exact ht.rest

theorem Keeps.execVppOtpRemoved (h : Keeps s₀ s) : KeepsOut s₀ (execVppOtpRemoved s) := (h.guardS h.wr.burnsStop).next

/-! ## Machine/Optics.lean: optics -/

theorem Keeps.setShape (h : Keeps s₀ s) {f d : ℕ} {x : ShapeSet} : Keeps s₀ (s.setShape f d x) := h.rest

theorem Keeps.shapeApply (h : Keeps s₀ s) {f d : ℕ} {x : ShapeSet} {syms : List ℕ} : Keeps s₀ (shapeApply s f d x syms) := h.setShape.wrs.incMod

theorem Keeps.fsbPut (h : Keeps s₀ s) {f : ℕ} {x : Fsb} : Keeps s₀ (fsbPut s f x) := h.setFace

theorem Keeps.engWrite (h : Keeps s₀ s) {f lane reg data : ℕ} : Keeps s₀ (engWrite s f lane reg data) := h.fsbPut

theorem Keeps.engPower (h : Keeps s₀ s) {f st : ℕ} : Keeps s₀ (engPower s f st) := h.engWrite

theorem Keeps.urgentFrame (h : Keeps s₀ s) {f : ℕ} : Keeps s₀ (urgentFrame s f) := h.setFace

theorem Keeps.rampLane (h : Keeps s₀ s) {f p step : ℕ} : Keeps s₀ (rampLane s f p step) := by
  unfold Machine.rampLane
  extract_lets t
  have ht : Keeps s₀ t := .ite h.engWrite.engWrite (.ite h.engWrite h)
  exact .ite ht.engWrite.engWrite ht.engWrite

theorem Keeps.lightOffLanes (h : Keeps s₀ s) {f mask : ℕ} : Keeps s₀ (lightOffLanes s f mask) :=
  (h.foldl fun _ _ ht => .ite ht.engWrite ht).setFace.setEmit

theorem Keeps.elsEval (h : Keeps s₀ s) {f : ℕ} : Keeps s₀ (elsEval s f) := (Keeps.ite h.wr h).foldl fun _ _ ht => .ite ht.wr ht

theorem Keeps.setRail (h : Keeps s₀ s) {c : ℕ} {x : RailX} : Keeps s₀ (s.setRail c x) := h.rest

theorem Keeps.railCmd (h : Keeps s₀ s) {c mv : ℕ} : Keeps s₀ (railCmd s c mv) := .ite h h.wr.setRail

theorem Keeps.faceRailApply (h : Keeps s₀ s) {e : ℕ} : Keeps s₀ (faceRailApply s e) := .ite h h.railCmd

theorem Keeps.dpRoles (h : Keeps s₀ s) {f : ℕ} : Keeps s₀ (dpRoles s f) := by
  unfold Machine.dpRoles
  extract_lets t
  have ht : Keeps s₀ t := by
    unfold t
    refine .foldl h fun t x ht => ?_
    split
    · exact ht.wrs
    · exact ht.wrs
  refine .foldl ht fun t x hu => ?_
  split
  · exact hu.wrs
  · exact hu.wrs

theorem Keeps.faceDpReset (h : Keeps s₀ s) {f : ℕ} : Keeps s₀ (faceDpReset s f) := by
  unfold Machine.faceDpReset
  extract_lets t t1 t2
  have ht2 : Keeps s₀ t2 := h.dropRegs.dropCtrs.memClear
  have ht3 : Keeps s₀ { t2 with rxds := tabDrop (fun k => k / 9 == f) t2.rxds, shapes := tabDrop (fun k => k / 9 == f) t2.shapes } := ht2.rest
  exact ht3.dpRoles

theorem Keeps.emitEval (h : Keeps s₀ s) {f : ℕ} : Keeps s₀ (emitEval s f) :=
  .ite (.ite (h.lightOffLanes.foldl fun _ _ ht => .ite ht.rampLane.setFace.setEmit ht) h.lightOffLanes) h

theorem Keeps.laneSeal (h : Keeps s₀ s) {f p kind k reason : ℕ} : Keeps s₀ (laneSeal s f p kind k reason) :=
  h.wr.sealBurn.lightOffLanes.laneEval.reliefEval

theorem Keeps.sealPolicy (h : Keeps s₀ s) {f p : ℕ} : Keeps s₀ (sealPolicy s f p) := by
  unfold Machine.sealPolicy
  split
  · exact h
  · split
    · exact h
    · exact .ite h.wr.stickyEvent (.ite h h.wr.laneSeal.portEval)

theorem Keeps.waitingPolicy (h : Keeps s₀ s) {f : ℕ} : Keeps s₀ (waitingPolicy s f) := h.setFace.foldl fun _ _ ht => ht.sealPolicy

theorem Keeps.p8Off (h : Keeps s₀ s) {f : ℕ} : Keeps s₀ (p8Off s f) := by
  unfold Machine.p8Off
  extract_lets t d e t1 t2 t3
  have ht1 : Keeps s₀ t1 := h.lightOffLanes.setLaneDp.setTxLaneDp
  have ht2 : Keeps s₀ t2 := .ite ht1 ht1.rxdOff
  have ht3 : Keeps s₀ t3 := .ite ht2 ht2.wrs
  exact ht3.mapChanged.laneEval

theorem Keeps.sealAbandon (h : Keeps s₀ s) {f result cls : ℕ} : Keeps s₀ (sealAbandon s f result cls) := by
  unfold Machine.sealAbandon
  split
  · exact h
  · extract_lets k init x t fails _ t1 t2 t3
    have ht1 : Keeps s₀ t1 := h.wrs.putFace fun _ j hj => by
      have hk : k < 8 := s.rd_lt (SEAL_STATUS_HS_POS f)
      split at hj
      · cases hj
        exact hk
      · cases hj
    have ht3 : Keeps s₀ t3 := ht1.p8Off.logEvent.modeEnCheck
    exact .ite (Keeps.ite ht3.sealPolicy ht3).waitingPolicy ht3

theorem Keeps.lightOut (h : Keeps s₀ s) {f : ℕ} : Keeps s₀ (lightOut s f) := h.lightOffLanes.setFace.wr

theorem Keeps.enterOpt (h : Keeps s₀ s) {f st : ℕ} : Keeps s₀ (enterOpt s f st) := h.wrs.accRearm.faceRailApply

theorem Keeps.tokenDraw (h : Keeps s₀ s) {f : ℕ} : Keeps s₀ (tokenDraw s f) := by
  refine h.tookFree.putFace fun w k hk => ?_
  simp only at hk
  split at hk
  · cases hk
  · exact (h.names w).face f k hk

theorem Keeps.duplexToReceive (h : Keeps s₀ s) {f : ℕ} : Keeps s₀ (duplexToReceive s f) := by
  unfold Machine.duplexToReceive
  extract_lets t t1 t2
  have ht : Keeps s₀ t := .ite h.rotationAbandon h
  have ht1 : Keeps s₀ t1 := .ite ht.tokenDraw ht
  have ht2 : Keeps s₀ t2 := ht1.lightOut.engPower.enterOpt
  exact ht2.elsEval

theorem Keeps.receiveToSynth (h : Keeps s₀ s) {f : ℕ} : Keeps s₀ (receiveToSynth s f) :=
  h.assayAbandon.sealAbandon.enterOpt.lanesEval.engPower.capEnd.tapEval

theorem Keeps.synthToStandby (h : Keeps s₀ s) {f : ℕ} : Keeps s₀ (synthToStandby s f) := h.enterOpt.wrs.fsbPut

theorem Keeps.toSleep (h : Keeps s₀ s) {f : ℕ} : Keeps s₀ (toSleep s f) := by
  unfold Machine.toSleep
  extract_lets t t1 t2 t3 t4 t5
  have ht : Keeps s₀ t := .ite h.wr h
  have ht1 : Keeps s₀ t1 := .ite ht.duplexToReceive ht
  have ht2 : Keeps s₀ t2 := .ite ht1.receiveToSynth ht1
  have ht3 : Keeps s₀ t3 := ht2.urgentFrame.engPower
  have ht4 : Keeps s₀ t4 := ht3.enterOpt.wrs
  have ht5 : Keeps s₀ t5 := ht4.lanesEval.faceDpReset.portsEval
  exact .ite h ht5.elsEval

theorem Keeps.pendingEval (h : Keeps s₀ s) {f : ℕ} : Keeps s₀ (pendingEval s f) := h.wr

theorem Keeps.rampStart (h : Keeps s₀ s) {f : ℕ} : Keeps s₀ (rampStart s f) := (h.foldl fun _ _ ht => .ite ht.rampLane ht).setFace.setEmit.wrs

theorem Keeps.walkDown (h : Keeps s₀ s) {f t n : ℕ} : Keeps s₀ (walkDown s f t n) := by
  induction n generalizing s with
  | zero => exact h
  | succ n ih => exact .ite h.toSleep (.ite (ih h.duplexToReceive) (.ite (ih (.ite h.receiveToSynth (.ite h.synthToStandby h))) h))

theorem Keeps.optWalk (h : Keeps s₀ s) {f : ℕ} : Keeps s₀ (optWalk s f) := by
  unfold Machine.optWalk
  extract_lets t t1 t2 st stepping t3 t4 t5
  have ht : Keeps s₀ t := .ite h.sealAbandon h
  have ht1 : Keeps s₀ t1 := ht.faceRailApply
  have ht3 : Keeps s₀ t3 := .ite ht1.wr.engPower ht1
  have ht4 : Keeps s₀ t4 := .ite ht3.wr.toSleep ht3.walkDown
  have ht5 : Keeps s₀ t5 := .ite (.ite ht1.rampStart ht1) (.ite ht1 (.ite ht1 ht1.wr))
  exact .ite h (.ite (.ite ht1 ht4.pendingEval.elsEval) (.ite ht5.pendingEval.elsEval ht1.pendingEval.elsEval))

theorem Keeps.optWalkAll (h : Keeps s₀ s) : Keeps s₀ (optWalkAll s) := h.foldl fun _ _ ht => ht.optWalk

theorem Keeps.targetEff (h : Keeps s₀ s) {f v : ℕ} : Keeps s₀ (targetEff s f v).1 := .ite_fst h.wr (.ite_fst h.wr h.wrs.setFace.optWalk)

theorem Keeps.laneEnEff (h : Keeps s₀ s) {f v : ℕ} : Keeps s₀ (laneEnEff s f v) := h.wr.emitEval

theorem Keeps.eyeTrip (h : Keeps s₀ s) {f kind idx cause arg1 : ℕ} : Keeps s₀ (eyeTrip s f kind idx cause arg1) := by
  unfold Machine.eyeTrip
  extract_lets t t1 t2 lit t3 t4 _ t5 t6
  have ht2 : Keeps s₀ t2 := h.urgentFrame.rotationAbandon.bistAbandon.sealAbandon
  have ht3 : Keeps s₀ t3 := .ite ht2.duplexToReceive ht2
  have ht4 : Keeps s₀ t4 := .ite ht3.wr ht3
  have ht6 : Keeps s₀ t6 := ht4.setFace.wr.logEvent
  exact ht6.elsEval.optWalk

theorem Keeps.engineStatus (h : Keeps s₀ s) {f v : ℕ} : Keeps s₀ (engineStatus s f v) :=
  .ite h (.ite (.ite h.setFace.optWalk h) (.ite h.eyeTrip (.ite h.logEvent.engPower h)))

theorem Keeps.eyeCheck (h : Keeps s₀ s) {f p code : ℕ} : Keeps s₀ (eyeCheck s f p code) := by
  unfold Machine.eyeCheck
  extract_lets v x t n _
  have ht : Keeps s₀ t := h.wr.setFaceFrom h
  exact .ite h.wr (.ite ht.eyeTrip (.ite (.ite ht.eyeTrip ht.setFace) ht.setFace))

theorem Keeps.laneAEff (h : Keeps s₀ s) {f p v : ℕ} : Keeps s₀ (laneAEff s f p v).1 := by
  unfold Machine.laneAEff
  extract_lets t t1 step
  have ht : Keeps s₀ t := h.setReg
  have ht1 : Keeps s₀ t1 := .ite ht.engWrite ht
  exact .ite_fst h (.ite_fst ht1.engWrite.engWrite.engWrite ht1)

theorem Keeps.limitsChanged (h : Keeps s₀ s) {f : ℕ} : Keeps s₀ (limitsChanged s f) := by
  unfold Machine.limitsChanged
  extract_lets _ t x t1
  have ht : Keeps s₀ t := h.setFace
  have ht1 : Keeps s₀ t1 := ht.foldl fun u _ hu => by
    split
    · extract_lets v
      have hv : Keeps s₀ v := .ite hu.engWrite hu
      exact .ite hv.engWrite hv
    · exact hu
  exact ht1.emitEval.elsEval

theorem Keeps.fsbAck (h : Keeps s₀ s) {f : ℕ} {x : Fsb} {data : ℕ} : Keeps s₀ (fsbAck s f x data) :=
  .ite h.setFace.logEvent (.ite h.setFace.engineStatus h.setFace)

theorem Keeps.fsbFail (h : Keeps s₀ s) {f : ℕ} : Keeps s₀ (fsbFail s f) := .ite h.setFace h.setFace.stickyEvent.sealAbandon.optWalk

theorem Keeps.fsbExchange (h : Keeps s₀ s) {f : ℕ} {reply : Option (BitVec 33)} : Keeps s₀ (fsbExchange s f reply) := by
  unfold Machine.fsbExchange
  split
  · exact h
  · split
    · exact h.setFace.incMod.pcCount.fsbAck
    · exact h.setFace.incMod.pcCount.incSat.fsbFail
    · exact h.setFace.incMod.pcCount.incSat.fsbFail
    · exact h.setFace.incMod.pcCount.fsbFail

theorem Keeps.execShapingSetApplied (h : Keeps s₀ s) {f : Fin 16} {d : Fin 9} {syms : List (Fin 4)} :
    KeepsOut s₀ (execShapingSetApplied f d syms s) := by
  refine (h.guardS ?_).next
  extract_lets x ns l t
  have ht : Keeps s₀ t := h.shapeApply
  exact .ite (ht.foldl fun _ _ hu => .ite hu.wr.shapeApply hu) ht

theorem Keeps.execSleepToStandby (h : Keeps s₀ s) {f : Fin 16} : KeepsOut s₀ (execSleepToStandby f s) :=
  (h.guardS h.dpRoles.engPower.fsbPut.enterOpt.optWalk).next

theorem Keeps.execStandbyToSynth (h : Keeps s₀ s) {f : Fin 16} : KeepsOut s₀ (execStandbyToSynth f s) := (h.guardS h.enterOpt.wr.optWalk).next

theorem Keeps.execSynthToReceive (h : Keeps s₀ s) {f : Fin 16} : KeepsOut s₀ (execSynthToReceive f s) :=
  (h.guardS (h.foldl fun _ _ ht => ht.engWrite).engPower.tokenDraw.enterOpt.lanesEval.standingArm.tapEval.optWalk).next

theorem Keeps.execRampStep (h : Keeps s₀ s) {f : Fin 16} {lane : Option (Fin 9)} : KeepsOut s₀ (execRampStep f lane s) := by
  unfold Machine.execRampStep
  refine .next (.guardS h ?_)
  split
  · exact .ite h (.ite h.setFace.rampLane h.setFace)
  · exact .ite h (.ite (h.foldl fun _ _ ht => .ite ht.rampLane ht).setFace.wr h.engPower.enterOpt.optWalk.emitEval)

theorem Keeps.execTargetLockTimeout (h : Keeps s₀ s) {f : Fin 16} : KeepsOut s₀ (execTargetLockTimeout f s) :=
  (h.guardS h.wrs.logEvent.elsEval).next

theorem Keeps.execEyeSafetyCheck (h : Keeps s₀ s) {f : Fin 16} {p : Fin 9} {raw : BitVec 12} : KeepsOut s₀ (execEyeSafetyCheck f p raw s) := by
  refine (h.guardS ?_).next
  extract_lets u t
  have hu : Keeps s₀ u := h.engWrite.raiseIrq
  have ht : Keeps s₀ t := hu.rest
  exact ht.eyeCheck

theorem Keeps.execEyeCheckStale (h : Keeps s₀ s) {f : Fin 16} {p : Fin 9} : KeepsOut s₀ (execEyeCheckStale f p s) := (h.guardS h.eyeTrip).next

theorem Keeps.execSidebandExchange (h : Keeps s₀ s) {f : Fin 16} {reply : Option (BitVec 33)} : KeepsOut s₀ (execSidebandExchange f reply s) :=
  (h.guardS h.fsbExchange).next

theorem Keeps.execEngineStatusPoll (h : Keeps s₀ s) {f : Fin 16} {reply : Option (BitVec 33)} : KeepsOut s₀ (execEngineStatusPoll f reply s) :=
  (h.guardS h.setFace.fsbExchange).next

theorem Keeps.execElsGrant (h : Keeps s₀ s) {b : Fin 4} : KeepsOut s₀ (execElsGrant b s) := (h.guardS (h.wr.foldl fun _ _ ht => ht.optWalk)).next

theorem Keeps.execElsGrantTimeout (h : Keeps s₀ s) {b : Fin 4} : KeepsOut s₀ (execElsGrantTimeout b s) :=
  (h.guardS ((h.foldl fun _ _ ht => .ite ht.wrs ht).wrs.logEvent.foldl fun _ _ ht => ht.pendingEval)).next

theorem Keeps.execElsGrantLost (h : Keeps s₀ s) {b : Fin 4} : KeepsOut s₀ (execElsGrantLost b s) :=
  (h.guardS (h.wrs.foldl fun _ _ ht => ht.duplexToReceive.stickyEvent).elsEval).next

theorem Keeps.execElsRelease (h : Keeps s₀ s) {b : Fin 4} : KeepsOut s₀ (execElsRelease b s) := (h.guardS h.wr).next

theorem Keeps.execElsGrantWithdrawn (h : Keeps s₀ s) {b : Fin 4} : KeepsOut s₀ (execElsGrantWithdrawn b s) := (h.guardS h.wr.elsEval).next

/-! ## Machine/LaneRows.lean: acquisition -/

theorem Keeps.laneLoss (h : Keeps s₀ s) {f p cause : ℕ} : Keeps s₀ (laneLoss s f p cause) :=
  .ite h.laneLossCore.sealAbandon.optWalk h.laneLossCore

theorem Keeps.execSignalDetect (h : Keeps s₀ s) {f : Fin 16} {p : Fin 9} : KeepsOut s₀ (execSignalDetect f p s) :=
  (h.guardS h.setAcq.effortE0).next

theorem Keeps.execSettleDone (h : Keeps s₀ s) {f : Fin 16} {p : Fin 9} {gain : BitVec 7} : KeepsOut s₀ (execSettleDone f p gain s) :=
  (h.guardS h.setGain.enterSearch).next

theorem Keeps.execSettleLimit (h : Keeps s₀ s) {f : Fin 16} {p : Fin 9} {gain : BitVec 7} : KeepsOut s₀ (execSettleLimit f p gain s) :=
  (h.guardS h.setGain.enterSearch).next

theorem Keeps.execSearchDwell (h : Keeps s₀ s) {f : Fin 16} {p : Fin 9} {tones : List Tone} : KeepsOut s₀ (execSearchDwell f p tones s) := by
  unfold Machine.execSearchDwell
  refine .next (.guardS h ?_)
  extract_lets x
  split
  · exact .ite h.setLane.enterDetect h.setLane.enterSearch
  · exact h.setLane.nextCand

theorem Keeps.execRetuneDone (h : Keeps s₀ s) {f : Fin 16} {p : Fin 9} : KeepsOut s₀ (execRetuneDone f p s) := (h.guardS h.setAcq).next

theorem Keeps.execRetuneLimit (h : Keeps s₀ s) {f : Fin 16} {p : Fin 9} : KeepsOut s₀ (execRetuneLimit f p s) := (h.guardS h.nextCand).next

theorem Keeps.execConvergeLimit (h : Keeps s₀ s) {f : Fin 16} {p : Fin 9} : KeepsOut s₀ (execConvergeLimit f p s) := (h.guardS h.nextCand).next

theorem Keeps.execVerifyWindow (h : Keeps s₀ s) {f : Fin 16} {p : Fin 9} {v : Verify} : KeepsOut s₀ (execVerifyWindow f p v s) :=
  (h.guardS (h.verifyEnd f.isLt p.isLt)).next

theorem Keeps.execAcqTimeout (h : Keeps s₀ s) {f : Fin 16} {p : Fin 9} : KeepsOut s₀ (execAcqTimeout f p s) := (h.guardS h.laneEvent).next

theorem Keeps.execRelockRestartEnd (h : Keeps s₀ s) {f : Fin 16} {p : Fin 9} : KeepsOut s₀ (execRelockRestartEnd f p s) := by
  refine (h.guardS ?_).next
  extract_lets _ t d
  have ht : Keeps s₀ t := h.setLane
  exact .ite ht ht.softDrop.wrs

theorem Keeps.execRelockLimit (h : Keeps s₀ s) {f : Fin 16} {p : Fin 9} : KeepsOut s₀ (execRelockLimit f p s) := (h.guardS h.relockFailed).next

theorem Keeps.execPowerBlock (h : Keeps s₀ s) {f : Fin 16} {p : Fin 9} {sumSq n : ℕ} {gain : BitVec 7} :
    KeepsOut s₀ (execPowerBlock f p sumSq n gain s) := by
  refine (h.guardS ?_).next
  extract_lets x t power v rise step t1 _ t2 t3
  have ht2 : Keeps s₀ t2 := h.setGain.wr.setLane
  have ht3 : Keeps s₀ t3 := .ite ht2.rotationAbandon ht2
  exact .ite ht3.laneLoss ht3

theorem Keeps.execLos (h : Keeps s₀ s) {f : Fin 16} {p : Fin 9} : KeepsOut s₀ (execLos f p s) := (h.guardS h.laneLoss).next

theorem Keeps.execClipWindow (h : Keeps s₀ s) {f : Fin 16} {p : Fin 9} {clipped samples : ℕ} :
    KeepsOut s₀ (execClipWindow f p clipped samples s) := by
  refine (h.guardS ?_).next
  extract_lets t
  have ht : Keeps s₀ t := h.wr
  exact .ite ht.laneLoss ht

theorem Keeps.execDecFail (h : Keeps s₀ s) {f : Fin 16} {p : Fin 9} : KeepsOut s₀ (execDecFail f p s) := (h.guardS h.laneLoss).next

theorem Keeps.execAmLoss (h : Keeps s₀ s) {f : Fin 16} {p : Fin 9} : KeepsOut s₀ (execAmLoss f p s) := (h.guardS h.laneLoss).next

theorem Keeps.execTimingLoss (h : Keeps s₀ s) {f : Fin 16} {p : Fin 9} {interp : Bool} {freq : BitVec 16} {phase : BitVec 8} :
    KeepsOut s₀ (execTimingLoss f p interp freq phase s) :=
  (h.guardS (Keeps.ite h h.wrs).laneLoss).next

theorem Keeps.markerAlign (h : Keeps s₀ s) {f p : ℕ} {inverted : Bool} {phase : ℕ} : Keeps s₀ (markerAlign s f p inverted phase) :=
  .ite h.takeAlign h

theorem Keeps.markerLearn (h : Keeps s₀ s) {f p : ℕ} {m : Marker} : Keeps s₀ (markerLearn s f p m) := by
  unfold Machine.markerLearn
  split
  · exact .ite h.setPort h
  · exact h

theorem Keeps.markerInWindow (h : Keeps s₀ s) {f p : ℕ} {found : Bool} {phase : ℕ} : Keeps s₀ (markerInWindow s f p found phase) :=
  .ite (.ite h.setLane (.ite h.setLane.wr h.setLane)) (.ite h.setLane.wr h.setLane)

theorem Keeps.execAlignmentMarker (h : Keeps s₀ s) {f : Fin 16} {p : Fin 9} {errors : ℕ} {inverted : Bool} {m : Marker} :
    KeepsOut s₀ (execAlignmentMarker f p errors inverted m s) := by
  unfold Machine.execAlignmentMarker
  extract_lets x found t
  have ht : Keeps s₀ t := h.markerInWindow
  have hu : Keeps s₀ (s.setLane f p { x with amMisses := 0 }) := h.setLane
  exact (Keeps.ite (.ite ht.markerAlign ht) (.ite (.ite hu.markerLearn (.ite h (.ite h.laneLoss h.setLane))) h)).next

theorem Keeps.restartEff (h : Keeps s₀ s) {f p : ℕ} : Keeps s₀ (restartEff s f p) := .ite h h.wr.laneLoss

theorem Keeps.modeEnEff (h : Keeps s₀ s) {f p v : ℕ} : Keeps s₀ (modeEnEff s f p v) := .ite h.wr.laneLoss h.wr

theorem Keeps.convDoneEff (h : Keeps s₀ s) {f p : ℕ} : Keeps s₀ (convDoneEff s f p) := .ite h.setAcq h

theorem Keeps.convFailEff (h : Keeps s₀ s) {f p : ℕ} : Keeps s₀ (convFailEff s f p) := .ite h.nextCand h

/-! ## Machine/Survey.lean: Survey -/

theorem Keeps.seqLoadNow (h : Keeps s₀ s) : Keeps s₀ (seqLoadNow s) := by
  unfold Machine.seqLoadNow
  extract_lets es t t1
  have ht1 : Keeps s₀ t1 := by
    unfold t1
    refine .foldl h.dropRegs fun t x ht => ?_
    split
    · exact ht.wrs
    · exact ht
  exact ht1.rest

theorem Keeps.seqLoad (h : Keeps s₀ s) : Keeps s₀ (seqLoad s) := .ite h.rest h.seqLoadNow

theorem Keeps.seqStop (h : Keeps s₀ s) : Keeps s₀ (seqStop s) := .ite h.wrs.rest.seqLoadNow h.wrs.rest

theorem Keeps.seqEntryEnd (h : Keeps s₀ s) {n mean : ℕ} : Keeps s₀ (seqEntryEnd s n mean) := by
  unfold Machine.seqEntryEnd
  extract_lets t t1 t2
  have ht1 : Keeps s₀ t1 := .ite h.wrs.stickyEvent h.wrs
  exact .ite ht1.seqStop (.ite ht1.seqStop.incMod.raiseIrq ht1.wr.rest)

theorem Keeps.seqConvert (h : Keeps s₀ s) {raw : ℕ} : Keeps s₀ (seqConvert s raw) := .ite h.rest h.seqEntryEnd

theorem Keeps.madcDirectEff (h : Keeps s₀ s) {ch : ℕ} : Keeps s₀ (madcDirectEff s ch).1 := .ite_fst h (.ite_fst h.wr h.wrs)

theorem Keeps.selfcalEff (h : Keeps s₀ s) : Keeps s₀ (selfcalEff s).1 := .ite_fst h (.ite_fst h h.wrs)

/-- Survey's running item of a lane changes to one that names what exists. -/
theorem Keeps.calUpd (h : Keeps s₀ s) {f p : ℕ} {g : CalItem → CalItem} (hg : NamesWf s₀ → ∀ x, x.NamesOk → (g x).NamesOk) :
    Keeps s₀ (calUpd s f p g) :=
  h.items fun w y hy => by
    obtain ⟨x, hx, rfl⟩ := List.mem_map.mp hy
    have hok := (h.names w).items hx
    split
    · exact hg w x hok
    · exact hok

theorem Keeps.calDrop (h : Keeps s₀ s) {f p : ℕ} : Keeps s₀ (calDrop s f p) :=
  h.items fun w _ hy => (h.names w).items (List.mem_filter.mp hy).1

theorem Keeps.calFinish (h : Keeps s₀ s) {f p result : ℕ} : Keeps s₀ (calFinish s f p result) := h.calDrop.wrs

theorem nearestSet_lt (t : ℤ) : nearestSet t < 5 := by
  suffices ∀ (l : List ℕ) (b : ℕ), b < 5 → (∀ i ∈ l, i < 5) →
      l.foldl (fun b i => if (t - setTemp16 i).natAbs < (t - setTemp16 b).natAbs then i else b) b < 5 from
    this _ 0 (by decide) (by simp)
  intro l
  induction l with
  | nil => exact fun _ hb _ => hb
  | cons i l ih =>
    intro b hb hl
    dsimp only [List.foldl_cons]
    refine ih _ ?_ fun j hj => hl j (by simp [hj])
    split
    · exact hl i (by simp)
    · exact hb

theorem windowSet_lt {s : State} {f i : ℕ} (e : windowSet s f = some i) : i < 5 := by simpa using List.mem_of_find?_eq_some e

theorem feedSet_lt {s : State} {f p i : ℕ} {boot : Bool} (e : feedSet s f p = some (i, boot)) : i < 5 := by
  unfold feedSet at e
  split at e
  · cases e
    exact nearestSet_lt _
  · obtain ⟨j, hj, ⟨⟩⟩ := Option.map_eq_some_iff.mp e
    exact windowSet_lt hj

theorem calReady_lt {s : State} {f p i : ℕ} {boot : Bool} (e : calReady s f p = some (i, boot)) : i < 5 := by
  unfold calReady at e
  split at e
  · exact feedSet_lt e
  · cases e

theorem Keeps.calStart (h : Keeps s₀ s) {x : CalItem} {set : ℕ} {boot : Bool} (hset : set < 5) : Keeps s₀ (calStart s x set boot) := by
  unfold Machine.calStart
  extract_lets f p started t
  have ht : Keeps s₀ t := h.items fun w y hy => by
    obtain ⟨z, hz, rfl⟩ := List.mem_map.mp hy
    have hok := (h.names w).items hz
    split
    · subst z
      obtain ⟨hf, hp, -⟩ := hok
      exact ⟨hf, hp, by simp [started], hset, by simp [started]⟩
    · exact hok
  exact ht.wrs.incMod

theorem Keeps.acceptSlice (h : Keeps s₀ s) {f p sl : ℕ} {v : SliceVal} (hsl : NamesWf s₀ → sl ≤ 64) : Keeps s₀ (acceptSlice s f p sl v) := by
  refine Keeps.corrNotice (Keeps.foldl (h.putLane fun w => ?_) fun _ _ ht => ht.wrs)
  obtain ⟨ha, hr⟩ := (h.names w).lane f p
  refine ⟨fun a hm => ?_, hr⟩
  rcases tabSet_mem hm with rfl | hm
  · exact hsl w
  · exact ha a hm

theorem Keeps.calReject (h : Keeps s₀ s) {f p sl val : ℕ} : Keeps s₀ (calReject s f p sl val) := h.standInEnd.calFinish.incSat.logEvent

theorem Keeps.sliceSeal (h : Keeps s₀ s) {f p sl : ℕ} : Keeps s₀ (sliceSeal s f p sl) :=
  .ite h.wrs.sealBurn.logEvent h.wrs.reliefEval.sealBurn.logEvent

theorem Keeps.mirrorStore (h : Keeps s₀ s) {q i : ℕ} : Keeps s₀ (mirrorStore s q i) := .ite h h.ddrWrite.ddrWrite.rest

theorem CalItem.NamesOk.staging_append {x : CalItem} (hx : x.NamesOk) {sl : ℕ} (hsl : sl ≤ 64) {v : SliceVal} :
    CalItem.NamesOk { x with staging := tabDel x.staging sl ++ [(sl, v)] } := by
  obtain ⟨hf, hp, hs, hset, hst⟩ := hx
  refine ⟨hf, hp, hs, hset, fun e he => ?_⟩
  rcases List.mem_append.mp he with he | he
  · exact hst e (List.mem_filter.mp he).1
  · rw [List.mem_singleton.mp he]
    exact hsl

theorem CalItem.NamesOk.staging_del {x : CalItem} (hx : x.NamesOk) {sl : ℕ} : CalItem.NamesOk { x with staging := tabDel x.staging sl } := by
  obtain ⟨hf, hp, hs, hset, hst⟩ := hx
  exact ⟨hf, hp, hs, hset, fun e he => hst e (List.mem_filter.mp he).1⟩

theorem Keeps.calItem (h : Keeps s₀ s) {f p : ℕ} {x : CalItem} (e : calItem s f p = some x) (w : NamesWf s₀) : x.NamesOk :=
  (h.names w).items (List.mem_of_find?_eq_some e)

theorem LaneX.NamesOk.committed {x : LaneX} (h : x.NamesOk) : LaneX.NamesOk { x with handover := none, accepted := [], handFails := 0 } :=
  ⟨by simp, h.2⟩

theorem Keeps.calCommit (h : Keeps s₀ s) {f p : ℕ} {x : CalItem} (hx : NamesWf s₀ → x.NamesOk) : Keeps s₀ (calCommit s f p x) := by
  unfold Machine.calCommit
  extract_lets +onlyGivenNames q i alone old snr oldHdr t t1 t2 t3
  have ht : Keeps s₀ t := h.foldl fun _ _ ht => ht.memPutWord
  have ht1 : Keeps s₀ t1 := ht.wrs
  have ht2 : Keeps s₀ t2 := ht1.rest
  have ht3 : Keeps s₀ t3 := ht2.mirrorStore
  have hold (e : ℕ × SliceVal) (he : e ∈ old) : e.1 ≤ 64 := by
    obtain ⟨sl, hsl, rfl⟩ := List.mem_map.mp he
    exact Nat.le_of_lt_succ (List.mem_range.mp hsl)
  clear_value t3 old
  apply ht3.elim
  intro t3 ht3
  extract_lets l l' l'' t4
  have hl' (w : NamesWf s₀) : l'.NamesOk := ((ht3.names w).lane f p).committed
  have hl'' (w : NamesWf s₀) : l''.NamesOk := by
    unfold l''
    split
    · refine ⟨(hl' w).1, fun r hr => ?_⟩
      cases hr
      obtain ⟨-, -, -, hset, -⟩ := hx w
      exact ⟨hset, hold⟩
    · exact hl' w
  have ht4 : Keeps s₀ t4 := (ht3.putLane hl'').corrRecompute.corrNotice
  exact ht4.calFinish.incMod

theorem Keeps.calCommitTry (h : Keeps s₀ s) {f p : ℕ} : Keeps s₀ (calCommitTry s f p) := by
  unfold Machine.calCommitTry
  split
  · rename_i x e
    exact .ite (h.calCommit (h.calItem e)) h
  · exact h

theorem Keeps.calSlice (h : Keeps s₀ s) {f p sl : ℕ} (hsl : NamesWf s₀ → sl ≤ 64) : Keeps s₀ (calSlice s f p sl) := by
  unfold Machine.calSlice
  extract_lets sealed sl' t
  have ht : Keeps s₀ t := h.calUpd fun w x hx => by
    obtain ⟨hf, hp, -, hset, hst⟩ := hx
    refine ⟨hf, hp, ?_, hset, hst⟩
    have hr : s.rd (LANE_SLICE_RELIEF_FOR f p) < 64 := s.rd_lt _
    have := hsl w
    simp only [sl', sealed, Bool.and_eq_true, beq_iff_eq]
    split
    · omega
    · exact this
  exact .ite ht.wr.calCommitTry ht.setLane.wrs

theorem Keeps.calNext (h : Keeps s₀ s) {f p sl : ℕ} (hsl : NamesWf s₀ → sl ≤ 64) : Keeps s₀ (calNext s f p sl) :=
  h.calSlice fun w => by
    have := hsl w
    split <;> omega

theorem Keeps.calAccept (h : Keeps s₀ s) {f p : ℕ} {x : CalItem} {v : SliceVal} (hx : NamesWf s₀ → x.NamesOk) :
    Keeps s₀ (calAccept s f p x v) := by
  have hsl : NamesWf s₀ → x.slice ≤ 64 := fun w => (hx w).2.2.1
  unfold Machine.calAccept
  extract_lets sl kept t
  have ht : Keeps s₀ t := h.calUpd fun w _ hy => hy.staging_append (hsl w)
  exact .ite (.ite h.calReject (h.sliceSeal.calNext hsl))
    (.ite ((ht.acceptSlice hsl).calNext hsl) (.ite (ht.calNext hsl) ht.setLane.wr))

theorem Keeps.calMeasure (h : Keeps s₀ s) {f p : ℕ} {x : CalItem} {v : SliceVal} (hx : NamesWf s₀ → x.NamesOk) :
    Keeps s₀ (calMeasure s f p x v) := by
  unfold Machine.calMeasure
  extract_lets t
  have ht : Keeps s₀ t := h.calUpd fun _ _ hy => hy
  split
  · exact ht
  · exact .ite (ht.calAccept hx) ht.incSat
  · split
    · exact ht.calAccept hx
    · exact ht.calReject

theorem Keeps.handoverFailed (h : Keeps s₀ s) {f p sl : ℕ} : Keeps s₀ (handoverFailed s f p sl) :=
  .ite h.calRunEnd.setLane.wr.logEvent.logEvent h.calRunEnd.setLane.wr.logEvent

theorem Keeps.handedBack (h : Keeps s₀ s) {f p : ℕ} {x : CalItem} (hx : NamesWf s₀ → x.NamesOk) : Keeps s₀ (handedBack s f p x) :=
  have hsl : NamesWf s₀ → x.slice ≤ 64 := fun w => (hx w).2.2.1
  (h.setLane.wr.acceptSlice hsl).calNext hsl

theorem Keeps.handBackFailed (h : Keeps s₀ s) {f p : ℕ} {x : CalItem} (hx : NamesWf s₀ → x.NamesOk) : Keeps s₀ (handBackFailed s f p x) := by
  unfold Machine.handBackFailed
  extract_lets t _ t1 t2
  have ht : Keeps s₀ t := h.logEvent
  have ht1 : Keeps s₀ t1 := ht.setLane
  have ht2 : Keeps s₀ t2 := ht1.calUpd fun _ _ hy => hy.staging_del
  have ht3 : Keeps s₀ (Machine.calUpd t1 f p fun y => { y with retry := true, meas := [] }) := ht1.calUpd fun _ _ hy => hy
  exact .ite (ht2.sliceSeal.calNext fun w => (hx w).2.2.1) ht3.wr

theorem Keeps.surveyStop (h : Keeps s₀ s) : Keeps s₀ (surveyStop s) := h.foldl fun _ _ ht => ht.calRunEnd

theorem Keeps.calWindowCheck (h : Keeps s₀ s) {f : ℕ} : Keeps s₀ (calWindowCheck s f) := h.foldl fun _ _ ht => .ite ht.calRunEnd ht

theorem Keeps.surveySchedule (h : Keeps s₀ s) {f p : ℕ} (hf : f < 16) (hp : p < 9) : Keeps s₀ (surveySchedule s f p) := by
  unfold Machine.surveySchedule
  extract_lets q l
  split
  · split
    · exact .ite (h.calQueue hf hp) h
    · exact h
  · exact h

theorem LaneX.NamesOk.noRevert {x : LaneX} (h : x.NamesOk) : LaneX.NamesOk { x with revert := none } := by
  obtain ⟨ha, -⟩ := h
  exact ⟨ha, fun _ e => nomatch e⟩

theorem Keeps.revertCheck (h : Keeps s₀ s) {f p : ℕ} {snr : ℤ} : Keeps s₀ (revertCheck s f p snr) := by
  unfold Machine.revertCheck
  extract_lets q l t
  split
  · exact h
  · extract_lets t1 t2
    have ht : Keeps s₀ t := h.putLane fun w => ((h.names w).lane f p).noRevert
    have ht1 : Keeps s₀ t1 := ht.foldl fun _ _ hu => hu.memPutWord
    have ht2 : Keeps s₀ t2 := ht1.setReg.wr
    exact .ite ht2.corrRecompute.corrNotice.logEvent ht

theorem Keeps.setWriteEff (h : Keeps s₀ s) {q i w : ℕ} {value : Word} : Keeps s₀ (setWriteEff s q i w value).1 :=
  .ite_fst h (.ite_fst (.ite_fst h h.memWriteIn) (Keeps.ite h.wrs.rest h.wrs).corrRecompute.corrNotice)

theorem Keeps.pllFinish (h : Keeps s₀ s) {f result : ℕ} : Keeps s₀ (pllFinish s f result) := by
  unfold Machine.pllFinish
  split
  · exact .ite h.calDrop.wrs h
  · exact h

theorem Keeps.execMadcConversion (h : Keeps s₀ s) {raw : BitVec 12} : KeepsOut s₀ (execMadcConversion raw s) := by
  refine (h.guardS ?_).next
  exact .ite h.wrs (.ite h.seqConvert h)

theorem Keeps.execSelfcalDone (h : Keeps s₀ s) {gain offset : BitVec 16} : KeepsOut s₀ (execSelfcalDone gain offset s) := (h.guardS h.wrs).next

theorem Keeps.execMadcSequencePass (h : Keeps s₀ s) : KeepsOut s₀ (execMadcSequencePass s) := (h.guardS h.wrs.rest).next

theorem Keeps.execSliceMeasurement (h : Keeps s₀ s) {f : Fin 16} {p : Fin 9} {off gain skew bw : ℤ} :
    KeepsOut s₀ (execSliceMeasurement f p off gain skew bw s) := by
  refine (h.guardS ?_).next
  split
  · rename_i x e
    exact .ite (h.raiseIrq.calMeasure (h.calItem e)) h.raiseIrq
  · exact h

theorem Keeps.execHandoverCompareDone (h : Keeps s₀ s) {f : Fin 16} {p : Fin 9} {mean rms : ℤ} :
    KeepsOut s₀ (execHandoverCompareDone f p mean rms s) := by
  refine (h.guardS ?_).next
  split
  · rename_i x sl back e _
    split
    · exact h.setLane.wrs.corrNotice
    · exact h.handedBack (h.calItem e)
    · exact h.handoverFailed
    · exact h.handBackFailed (h.calItem e)
  · exact h

theorem Keeps.execCalRequeue (h : Keeps s₀ s) {f : Fin 16} {p : Fin 9} : KeepsOut s₀ (execCalRequeue f p s) := by
  refine (h.guardS ?_).next
  extract_lets _ t
  have ht : Keeps s₀ t := h.setLane
  exact .ite ht.wr (ht.calQueue f.isLt p.isLt)

theorem Keeps.execFacePll (h : Keeps s₀ s) {f : Fin 16} : KeepsOut s₀ (execFacePll f s) := by
  refine (h.guardS ?_).next
  split
  · have ht : Keeps s₀ (Machine.calUpd s f 9 fun y => { y with started := true }) := h.calUpd fun _ _ hy => hy
    exact .ite h ht.wrs.incMod.pendingEval
  · exact h

theorem Keeps.execFacePllDone (h : Keeps s₀ s) {f : Fin 16} : KeepsOut s₀ (execFacePllDone f s) := (h.guardS h.pllFinish.wr.optWalk).next

theorem Keeps.execFacePllTimeout (h : Keeps s₀ s) {f : Fin 16} : KeepsOut s₀ (execFacePllTimeout f s) := (h.guardS h.pllFinish).next

/-! ## Machine/Assay.lean: Assay -/

theorem Keeps.assayPut (h : Keeps s₀ s) {x : AssayItem} : Keeps s₀ (assayPut s x) := h.rest

theorem Keeps.assayUpd (h : Keeps s₀ s) {f : ℕ} {g : AssayItem → AssayItem} : Keeps s₀ (assayUpd s f g) := h.rest

theorem Keeps.assayDrop (h : Keeps s₀ s) {f : ℕ} : Keeps s₀ (assayDrop s f) := h.rest

theorem Keeps.ageRestart (h : Keeps s₀ s) {f dir d : ℕ} : Keeps s₀ (ageRestart s f dir d) := h.setFace

theorem Keeps.memCopyWord (h : Keeps s₀ s) {a i src dst : ℕ} : Keeps s₀ (memCopyWord s a i src dst) := by
  conv in Machine.memCopyWord => delta Machine.memCopyWord
  dsimp only
  split
  · exact h.setBytes.setTag
  · exact .ite h.memReadWord.memPutWord.setTag h.memReadWord.memPutWord

theorem Keeps.memCopyWords (h : Keeps s₀ s) {a i src dst n : ℕ} : Keeps s₀ (memCopyWords s a i src dst n) := h.foldl fun _ _ ht => ht.memCopyWord

theorem Keeps.rxShadow (h : Keeps s₀ s) {f p src r : ℕ} : Keeps s₀ (rxShadow s f p src r) :=
  h.rxdRegsReset.wr.memCopyWords.memCopyWords.memCopyWords.memCopyWords.setReg.wrs.accRearm.corrShow

theorem Keeps.txParallel (h : Keeps s₀ s) {f p src r : ℕ} : Keeps s₀ (txParallel s f p src r) :=
  (h.memCopyWords.foldl fun _ _ ht => ht.setReg).setReg.setShape.setTxd.wrs

theorem Keeps.assayStart (h : Keeps s₀ s) {x : AssayItem} {lane : Option ℕ} : Keeps s₀ (assayStart s x lane) := by
  unfold Machine.assayStart
  split
  · exact .ite h.rest.wrs.rxShadow.wr h.rest.wrs.txParallel.wr
  · exact .ite h.rest.wrs.wr.laneOutEval.accRearm h.rest.wrs.wr

theorem Keeps.assayAfterSwitch (h : Keeps s₀ s) {f dir d : ℕ} {x : AssayItem} : Keeps s₀ (assayAfterSwitch s f dir d x) :=
  .ite h.assayUpd h.ageRestart.assayDrop

theorem Keeps.rxSwitch (h : Keeps s₀ s) {f p r : ℕ} : Keeps s₀ (rxSwitch s f p r) := h.setLaneDp.wrs.qualReset.rxdOff.mapChanged.laneOutEval

theorem Keeps.txSwitch (h : Keeps s₀ s) {f p r : ℕ} : Keeps s₀ (txSwitch s f p r) := h.setTxLaneDp.wrs.mapChanged

theorem Keeps.bistSeal (h : Keeps s₀ s) {f dir d j : ℕ} : Keeps s₀ (bistSeal s f dir d j) := by
  unfold Machine.bistSeal
  extract_lets +onlyGivenNames t r
  have ht : Keeps s₀ t := h.bistRelease
  clear_value t r
  apply ht.elim
  intro t ht
  split
  · extract_lets rxAt t1 t2
    have ht1 : Keeps s₀ t1 := ht.wrs
    have ht2 : Keeps s₀ t2 := by
      clear_value rxAt
      unfold t2
      split
      · exact Keeps.mapChanged (.ite ht1.setLaneDp ht1.setLaneDp.rxServe)
      · exact ht1
    exact ht2.rxdOff.reliefEval.sealBurn.logEvent
  · extract_lets txAt t1 t2
    have ht1 : Keeps s₀ t1 := ht.wrs
    have ht2 : Keeps s₀ t2 := by
      clear_value txAt
      unfold t2
      split
      · exact Keeps.mapChanged (.ite ht1.setTxLaneDp ht1.setTxLaneDp.wrs)
      · exact ht1.incMod
    exact ht2.wrs.emitShow.reliefEval.sealBurn.logEvent

theorem Keeps.bistPass (h : Keeps s₀ s) {f dir d : ℕ} : Keeps s₀ (bistPass s f dir d) := h.ageRestart.wr.incMod.logEvent

theorem Keeps.skipTarget (h : Keeps s₀ s) {f dir : ℕ} {x : AssayItem} : Keeps s₀ (skipTarget s f dir x) := by
  unfold Machine.skipTarget
  split
  · exact h.setFace
  · exact h

theorem Keeps.assayProgress (h : Keeps s₀ s) {n : ℕ} {fail : Bool} : Keeps s₀ (assayProgress s n fail) := .ite h h.opUpd

theorem Keeps.bistDone (h : Keeps s₀ s) {f : ℕ} {x : AssayItem} {misr : ℕ} : Keeps s₀ (bistDone s f x misr) := by
  unfold Machine.bistDone
  extract_lets d j t
  have ht : Keeps s₀ t := h.bistRelease.assayProgress
  exact .ite (.ite ht.assayUpd ht.bistPass.skipTarget.assayDrop) (.ite h.wr h.bistSeal.assayProgress.assayDrop)

theorem Keeps.matchFailed (h : Keeps s₀ s) {f : ℕ} {x : AssayItem} : Keeps s₀ (matchFailed s f x) :=
  .ite (.ite h.incSat.logEvent.rest h.incSat.logEvent) h

theorem Keeps.execAssayQueue (h : Keeps s₀ s) {f : Fin 16} : KeepsOut s₀ (execAssayQueue f s) := by
  conv in Machine.execAssayQueue => delta Machine.execAssayQueue
  refine .next (.guardS h ?_)
  extract_lets x turn t dir _ t1
  have ht1 : Keeps s₀ t1 := h.setFace.setFace
  split
  · exact h.setFace
  · split
    · exact ht1
    · split
      · exact ht1.assayPut
      · exact ht1

theorem Keeps.execRotationShadowEnd (h : Keeps s₀ s) {f : Fin 16} : KeepsOut s₀ (execRotationShadowEnd f s) := (h.guardS h.wrs).next

theorem Keeps.execRotationMatch (h : Keeps s₀ s) {f : Fin 16} : KeepsOut s₀ (execRotationMatch f s) := (h.guardS h.wrs).next

theorem Keeps.execRotationSwitch (h : Keeps s₀ s) {f : Fin 16} : KeepsOut s₀ (execRotationSwitch f s) := by
  conv in Machine.execRotationSwitch => delta Machine.execRotationSwitch
  refine .next (.guardS h ?_)
  extract_lets dir p r src t t1 t2 t3
  have ht : Keeps s₀ t := .ite h.rxSwitch h.txSwitch
  have ht1 : Keeps s₀ t1 := ht.assayIdle.incMod
  have ht3 : Keeps s₀ t3 := by
    unfold t3
    split
    · exact ht1.logEvent.assayAfterSwitch
    · exact ht1.logEvent
  exact ht3.calCommitTry

theorem Keeps.execMatchTimeout (h : Keeps s₀ s) {f : Fin 16} : KeepsOut s₀ (execMatchTimeout f s) := by
  unfold Machine.execMatchTimeout
  refine .next (.guardS h ?_)
  split
  · exact h.rotationAbandon.matchFailed
  · exact h.rotationAbandon

theorem Keeps.execAssayRetry (h : Keeps s₀ s) {f : Fin 16} : KeepsOut s₀ (execAssayRetry f s) := (h.guardS h.rest).next

theorem Keeps.execBistSliceDone (h : Keeps s₀ s) {f : Fin 16} {misr : BitVec 64} : KeepsOut s₀ (execBistSliceDone f misr s) := by
  unfold Machine.execBistSliceDone
  refine .next (.guardS h ?_)
  split
  · exact h.bistDone
  · exact h

/-! ## Machine/PatternOps.lean: patterns -/

theorem Keeps.patFeed (h : Keeps s₀ s) {w : PatAt} {syms : List ℕ} : Keeps s₀ (patFeed s w syms) := h.rest.wrs.addCtr.addCtr

theorem Keeps.genSymbols (h : Keeps s₀ s) {a : ℕ} {p31 : Bool} {n : ℕ} : Keeps s₀ (genSymbols s a p31 n).2 := h.rest

/-! ## Machine/Eq.lean: the equaliser -/

theorem Keeps.bankWriteEff (h : Keeps s₀ s) {f d b k : ℕ} {table : Bool} {v : ℕ} : Keeps s₀ (bankWriteEff s f d b k table v).1 :=
  .ite_fst h.wr (.ite_fst h.memWriteIn (.ite_fst h.memWriteIn h.memWriteIn))

theorem Keeps.swapEff (h : Keeps s₀ s) {f d : ℕ} {eq mlse : Bool} : Keeps s₀ (swapEff s f d eq mlse) := .ite h (.ite h.wr h.wrs)

theorem Keeps.gradDrop (h : Keeps s₀ s) {f d : ℕ} : Keeps s₀ (gradDrop s f d) := h.setRxd

theorem Keeps.swapEqApply (h : Keeps s₀ s) {f d : ℕ} : Keeps s₀ (swapEqApply s f d) := by
  conv in Machine.swapEqApply => delta Machine.swapEqApply
  dsimp only
  exact h.setRxd.gradDrop.memReadIn.wrs.incMod.pcCount

theorem Keeps.swapMlseApply (h : Keeps s₀ s) {f d : ℕ} : Keeps s₀ (swapMlseApply s f d) := h.setRxd.wrs.incMod.pcCount

theorem Keeps.blockShow (h : Keeps s₀ s) {f d : ℕ} {o : EqOut} : Keeps s₀ (blockShow s f d o) := h.wrs

theorem Keeps.loopStep (h : Keeps s₀ s) {f d : ℕ} {err : ℤ} : Keeps s₀ (loopStep s f d err) := h.wrs

theorem Keeps.rxClock (h : Keeps s₀ s) {f d : ℕ} {codes : List ℤ} : Keeps s₀ (rxClock s f d codes) := h.blockShow.loopStep.setRxd

theorem Keeps.gradStep (h : Keeps s₀ s) {f d : ℕ} : Keeps s₀ (gradStep s f d) := by
  unfold Machine.gradStep
  extract_lets x _
  split
  · exact h
  · exact .ite h (.ite h.setRxd h.setRxd)

theorem Keeps.detLeave (h : Keeps s₀ s) {f d : ℕ} {ds : List Decided} : Keeps s₀ (detLeave s f d ds) := by
  unfold Machine.detLeave
  split
  · split
    · exact .ite h.setRxd.gradStep.patFeed h.setRxd.gradStep
    · exact h.setRxd.gradStep
  · split
    · exact .ite h.setRxd.gradStep.patFeed h.setRxd.gradStep
    · exact h.setRxd.gradStep

theorem Keeps.detStep (h : Keeps s₀ s) {f d : ℕ} : Keeps s₀ (detStep s f d) := .ite h h.setRxd.detLeave

theorem Keeps.rxFeed (h : Keeps s₀ s) {f d : ℕ} {codes : List ℤ} : Keeps s₀ (rxFeed s f d codes) :=
  h.setRxd.foldl fun _ _ ht => ht.rxClock.foldl fun _ _ hu => hu.detStep

theorem Keeps.expRestartEff (h : Keeps s₀ s) {f d : ℕ} : Keeps s₀ (expRestartEff s f d) := h.setReg.wr

theorem Keeps.capEff (h : Keeps s₀ s) {f p v : ℕ} : Keeps s₀ (capEff s f p v).1 := .ite_fst h (Keeps.ite h.wr.effortRequest h.wr).marginNextEval

theorem Keeps.execSwapApply (h : Keeps s₀ s) {f : Fin 16} {d : Fin 9} : KeepsOut s₀ (execSwapApply f d s) := by
  refine (h.guardS ?_).next
  extract_lets t
  have ht : Keeps s₀ t := .ite h.swapEqApply h
  exact .ite ht.swapMlseApply ht

theorem Keeps.execBankUe (h : Keeps s₀ s) {f : Fin 16} {d : Fin 9} {bin : Fin 258} : KeepsOut s₀ (execBankUe f d bin s) :=
  (h.guardS (Keeps.ite h.setTag h.setTag.ueEvent.ownerNotice).bankUe).next

theorem Keeps.execGradientLatch (h : Keeps s₀ s) {f : Fin 16} {d : Fin 9} : KeepsOut s₀ (execGradientLatch f d s) := by
  refine (h.guardS ?_).next
  extract_lets x _ t g _ t1 t2
  have ht : Keeps s₀ t := h.setRxd
  have ht1 : Keeps s₀ t1 := ht.setRxd
  have ht2 : Keeps s₀ t2 := ht1.memPutWords
  exact .ite ht.wr.pcCount ht2.wr.raiseIrq

theorem Keeps.execEffortSwitch (h : Keeps s₀ s) {f : Fin 16} {p : Fin 9} : KeepsOut s₀ (execEffortSwitch f p s) :=
  (h.guardS (h.foldl fun _ _ ht => (Keeps.ite ht.setRxd ht).gradDrop).wrs.effortApply).next

theorem Keeps.levelShow (h : Keeps s₀ s) {f d i : ℕ} {l : LevelSum} : Keeps s₀ (levelShow s f d i l) := .ite h.wrs.tookFree h.wrs

theorem Keeps.execQualityWindow (h : Keeps s₀ s) {f : Fin 16} {d : Fin 9} {q : QualSum} : KeepsOut s₀ (execQualityWindow f d q s) := by
  refine (h.guardS ?_).next
  extract_lets mode lvl w v t x _ t1 next t2 t3
  have ht : Keeps s₀ t := .ite h.tookFree h
  have ht3 : Keeps s₀ t3 := ht.setRxd.wrs.foldl fun _ _ hu => hu.levelShow
  exact .ite ht3.revertCheck ht3

/-! ## Machine/HostLane.lean: host lanes -/

theorem Keeps.hostEvent (h : Keeps s₀ s) {n b : ℕ} {fld : Fld} : Keeps s₀ (hostEvent s n b fld) := h.stickyEvent

theorem Keeps.portFail (h : Keeps s₀ s) {n c : ℕ} : Keeps s₀ (portFail s n c) := h.wr

theorem Keeps.hostPortEval (h : Keeps s₀ s) {n : ℕ} : Keeps s₀ (hostPortEval s n) := by
  unfold Machine.hostPortEval
  split
  · exact h.portEval
  · exact h

theorem Keeps.hostStage1 (h : Keeps s₀ s) {n : ℕ} : Keeps s₀ (hostStage1 s n) := h.wrs.rest.hostPortEval

theorem Keeps.hostStage5 (h : Keeps s₀ s) {n : ℕ} : Keeps s₀ (hostStage5 s n) := h.wrs.hostPortEval

theorem Keeps.hostOff (h : Keeps s₀ s) {n : ℕ} : Keeps s₀ (hostOff s n) := h.setReg.rest.hostPortEval

theorem Keeps.hostReady (h : Keeps s₀ s) {n : ℕ} : Keeps s₀ (hostReady s n) := h.wr.hostEvent

theorem Keeps.hostPolarityDone (h : Keeps s₀ s) {n : ℕ} {inv : Bool} : Keeps s₀ (hostPolarityDone s n inv) := .ite h.wr.wrs h.wr.wr

theorem Keeps.hostOrderFail (h : Keeps s₀ s) {n : ℕ} : Keeps s₀ (hostOrderFail s n) := h.portFail.wr.foldl fun _ _ ht => ht.hostEvent.hostStage5

theorem Keeps.hostOrder (h : Keeps s₀ s) {n : ℕ} : Keeps s₀ (hostOrder s n) := .ite (h.foldl fun _ _ ht => ht.wrs) h.hostOrderFail

theorem Keeps.hostLocked (h : Keeps s₀ s) {n : ℕ} {pcs : List ℕ} {m : Marker} : Keeps s₀ (hostLocked s n pcs m) := by
  unfold Machine.hostLocked
  split
  · exact h
  · extract_lets b t t1 t2 x
    have ht1 : Keeps s₀ t1 := h.wr.rest
    have ht2 : Keeps s₀ t2 := ht1.hostReady.portEval
    exact .ite (.ite ht1.hostOrderFail (.ite ht2 ht2.setPort)) (.ite ht1.hostOrder ht1)

theorem Keeps.hostClear (h : Keeps s₀ s) {n : ℕ} : Keeps s₀ (hostClear s n) := h.setCtr.setCtr.setCtr

theorem Keeps.hostCodeword (h : Keeps s₀ s) {n : ℕ} {errs : Option ℕ} : Keeps s₀ (hostCodeword s n errs) := by
  unfold Machine.hostCodeword
  split
  · split
    · exact h.addCtr.addCtr
    · exact h.addCtr.addCtr
  · exact h

theorem Keeps.adminUpEff (h : Keeps s₀ s) {n : ℕ} {up : Bool} : Keeps s₀ (adminUpEff s n up) := (Keeps.ite h.wr h.wr.portFail).portEval

theorem Keeps.portRestartEff (h : Keeps s₀ s) {n : ℕ} : Keeps s₀ (portRestartEff s n) := h.foldl fun _ _ ht => ht.hostStage1

theorem Keeps.patEff (h : Keeps s₀ s) {w : PatAt} {chk en : Bool} : Keeps s₀ (patEff s w chk en) := by
  conv in Machine.patEff => delta Machine.patEff
  extract_lets fld was t t1 t2
  have ht1 : Keeps s₀ t1 := h.wr.rest
  have ht2 : Keeps s₀ t2 := by
    unfold t2
    split
    · split
      · exact h.wr.rest.wr
      · exact h.wr.rest.wrs
    · exact h.wr
  split
  · exact ht2
  · exact .ite ht2.portFail.assayAbandon.episodesEnd.portEval (.ite (ht2.foldl fun _ _ ht => ht.hostStage1) ht2.portEval)

theorem Keeps.injectEff (h : Keeps s₀ s) {w : PatAt} : Keeps s₀ (injectEff s w) := .ite h.rest h

theorem Keeps.patClearEff (h : Keeps s₀ s) {w : PatAt} : Keeps s₀ (patClearEff s w) := h.setCtr.setCtr

theorem Keeps.execHostSignalDetect (h : Keeps s₀ s) {n : Fin 256} : KeepsOut s₀ (execHostSignalDetect n s) := (h.guardS h.wrs).next

theorem Keeps.execCdrLock (h : Keeps s₀ s) {n : Fin 256} : KeepsOut s₀ (execCdrLock n s) := by
  conv in Machine.execCdrLock => delta Machine.execCdrLock
  refine .next (.guardS h ?_)
  extract_lets t
  split
  · exact h.wrs
  · exact h.wrs.hostPolarityDone

theorem Keeps.execPolarity (h : Keeps s₀ s) {n : Fin 256} {inverted : Bool} : KeepsOut s₀ (execPolarity n inverted s) :=
  (h.guardS h.hostPolarityDone).next

theorem Keeps.execLinkTrainingDone (h : Keeps s₀ s) {n : Fin 256} {taps : ℤ × ℤ × ℤ} : KeepsOut s₀ (execLinkTrainingDone n taps s) :=
  (h.guardS h.rest.wrs).next

theorem Keeps.execHostMarkerLock (h : Keeps s₀ s) {n : Fin 256} {pcs : List (BitVec 8)} {m : Marker} : KeepsOut s₀ (execHostMarkerLock n pcs m s) :=
  (h.guardS h.hostLocked).next

theorem Keeps.execDeskew (h : Keeps s₀ s) {n : Fin 128} {skews : List (BitVec 16)} : KeepsOut s₀ (execDeskew n skews s) := by
  refine (h.guardS ?_).next
  extract_lets ks t t1
  have ht1 : Keeps s₀ t1 := (h.foldl fun _ _ hu => hu.wr).wr
  exact .ite ht1.portFail.wr.hostOrder (ht1.foldl fun _ _ hu => hu.hostReady).portEval

theorem Keeps.execHostStageTimeout (h : Keeps s₀ s) {n : Fin 256} : KeepsOut s₀ (execHostStageTimeout n s) := by
  refine (h.guardS ?_).next
  extract_lets u t
  have hu : Keeps s₀ u := h.wr.hostEvent
  have ht : Keeps s₀ t := by
    unfold t
    split
    · exact h.hostEvent
    · exact h.hostEvent
    · split
      · exact hu.portFail
      · exact hu
    · exact .ite h h.hostEvent
    · exact h
  exact .ite ht ht.hostStage1

theorem Keeps.execHostLaneLoss (h : Keeps s₀ s) {n : Fin 256} {why : HostLoss} : KeepsOut s₀ (execHostLaneLoss n why s) := by
  unfold Machine.execHostLaneLoss
  refine .next (.guardS h ?_)
  split
  · exact h.wr.hostEvent.hostStage1
  · exact h.hostEvent.hostStage1
  · exact h.hostEvent.pcCount.hostStage5

theorem Keeps.execPrbsSync (h : Keeps s₀ s) {at_ : PatAt} {syms : List (Fin 4)} : KeepsOut s₀ (execPrbsSync at_ syms s) :=
  (h.guardS h.patFeed).next

theorem Keeps.execPrbsSyncLoss (h : Keeps s₀ s) {at_ : PatAt} {syms : List (Fin 4)} : KeepsOut s₀ (execPrbsSyncLoss at_ syms s) :=
  (h.guardS h.patFeed).next

/-! ## Machine/SeamFrames.lean: frames of a seam -/

theorem Keeps.seamNext (h : Keeps s₀ s) {f p : ℕ} : Keeps s₀ (seamNext s f p).2 := h.setSeam

/-! ## Machine/LineTx.lean: the transmit line -/

theorem Keeps.txShape (h : Keeps s₀ s) {f d : ℕ} {syms : List ℕ} : Keeps s₀ (txShape s f d syms) := h.setTxd.wr

theorem Keeps.txPeriod (h : Keeps s₀ s) {f d : ℕ} {msg : List Bool} : Keeps s₀ (txPeriod s f d msg) := by
  unfold Machine.txPeriod
  extract_lets mode x ws t r
  have hr : Keeps s₀ r.2 := by
    unfold r
    split
    · exact h.setTxd.genSymbols
    · exact h.setTxd
  exact hr.txShape

theorem Keeps.txFeed (h : Keeps s₀ s) {f d : ℕ} {bits side : List Bool} : Keeps s₀ (txFeed s f d bits side) :=
  h.setTxd.foldl fun _ _ ht => ht.txPeriod

theorem Keeps.foldl_snd {α β : Type} {g : β × State → α → β × State} {l : List α} {a : β × State} (h : Keeps s₀ a.2)
    (k : ∀ a x, Keeps s₀ a.2 → Keeps s₀ (g a x).2) : Keeps s₀ (l.foldl g a).2 := by
  induction l generalizing a with
  | nil => exact h
  | cons x l ih => exact ih (k a x h)

theorem Keeps.sideDraw (h : Keeps s₀ s) {f p : ℕ} {bits : List Bool} {need : ℕ} : Keeps s₀ (sideDraw s f p bits need).2 :=
  .foldl_snd h fun _ _ ht => ht.seamNext

theorem Keeps.laneSend (h : Keeps s₀ s) {f p : ℕ} {bits : List Bool} : Keeps s₀ (laneSend s f p bits) := by
  unfold Machine.laneSend
  split
  · exact h
  · exact .ite h (h.sideDraw.foldl fun _ _ ht => ht.txFeed)

theorem Keeps.posSend (h : Keeps s₀ s) {f k : ℕ} {bits : List Bool} : Keeps s₀ (posSend s f k bits) :=
  .ite (Keeps.ite h.laneSend h).laneSend (.ite h.laneSend h)

/-! ## Machine/Gearbox.lean: ports and their gearbox -/

theorem Keeps.hostLaneSend (h : Keeps s₀ s) {n : ℕ} {bits : List Bool} : Keeps s₀ (hostLaneSend s n bits) := by
  unfold Machine.hostLaneSend
  split
  · exact h.genSymbols.rest
  · exact h.rest

theorem Keeps.hostPairs (h : Keeps s₀ s) {n : ℕ} {pairs : List (List ℕ)} : Keeps s₀ (hostPairs s n pairs) := h.foldl fun _ _ ht => ht.hostLaneSend

theorem Keeps.gearPass (h : Keeps s₀ s) {f : ℕ} {w : List ℕ} : Keeps s₀ (gearPass s f w).1 := h.bufPass

theorem Keeps.pairSent (h : Keeps s₀ s) {n : ℕ} : Keeps s₀ (pairSent s n) := .ite h.setPort (h.setPort.foldl fun _ _ ht => .ite ht.wr.wr ht.wr)

theorem Keeps.bufferedPair (h : Keeps s₀ s) {n j : ℕ} : Keeps s₀ (bufferedPair s n j).1 := by
  conv in Machine.bufferedPair => delta Machine.bufferedPair
  extract_lets x
  split
  · exact h.bufRead
  · exact h

theorem Keeps.bufferSend (h : Keeps s₀ s) {n j : ℕ} : Keeps s₀ (bufferSend s n j) := h.bufferedPair.posSend

theorem Keeps.bufferPut (h : Keeps s₀ s) {n j : ℕ} {starts : Bool} {syms : List ℕ} : Keeps s₀ (bufferPut s n j starts syms) := h.setPort.bufWrite

theorem Keeps.linePair (h : Keeps s₀ s) {n j : ℕ} {starts : Bool} {syms : List ℕ} : Keeps s₀ (linePair s n j starts syms) :=
  .ite (Keeps.ite h.pairSent h).setPort.bufferPut.bufferSend (Keeps.ite h.pairSent h).setPort.posSend

theorem Keeps.pairStep (h : Keeps s₀ s) {n : ℕ} {drain : Bool} : Keeps s₀ (pairStep s n drain) :=
  .ite ((h.pairSent.foldl fun _ _ ht => ht.wr).foldl fun _ _ ht => ht.bufferSend) (h.foldl fun _ _ ht => ht.linePair)

theorem Keeps.blocksIn (h : Keeps s₀ s) {n : ℕ} : Keeps s₀ (blocksIn s n) := h.tookFree.pcCount.pcCount

theorem Keeps.hostWord (h : Keeps s₀ s) {n j : ℕ} {second starts : Bool} {w : List ℕ} : Keeps s₀ (hostWord s n j second starts w) :=
  .ite h.bufPass.setPort (.ite h.bufPass h.bufPass.setPort.blocksIn.linePair)

theorem Keeps.g0FromHost (h : Keeps s₀ s) {n : ℕ} {bits : List Bool} : Keeps s₀ (g0FromHost s n bits) := h.setPort.posSend

theorem Keeps.g0FromLine (h : Keeps s₀ s) {n : ℕ} {bits : List Bool} : Keeps s₀ (g0FromLine s n bits) := h.setPort.hostLaneSend

theorem Keeps.idlePair (h : Keeps s₀ s) {n : ℕ} {cut : Bool} : Keeps s₀ (idlePair s n cut).2 := h.setPort

theorem Keeps.hostBound (h : Keeps s₀ s) {n : ℕ} {starts : Bool} {pairs : List (List ℕ)} : Keeps s₀ (hostBound s n starts pairs).2 := by
  unfold Machine.hostBound
  extract_lets t x
  split
  · refine .foldl_snd h fun _ _ ht => ?_
    exact ht.setPort.pcCount
  · split
    · split
      · exact h.setPort
      · refine .foldl_snd h fun _ _ ht => ?_
        dsimp only
        exact ht.idlePair
    · exact h

theorem Keeps.hostJoin (h : Keeps s₀ s) {n : ℕ} {starts : Bool} : Keeps s₀ (hostJoin s n starts) := .ite h h.setPort.hostBound.setPort.hostPairs

theorem Keeps.lineJoin (h : Keeps s₀ s) {n j : ℕ} {starts : Bool} {pair : List ℕ} : Keeps s₀ (lineJoin s n j starts pair) := h.setPort.hostJoin

theorem Keeps.lineWord (h : Keeps s₀ s) {n j : ℕ} {second starts : Bool} {w : List ℕ} : Keeps s₀ (lineWord s n j second starts w) :=
  .ite h.bufPass.setPort (.ite h.bufPass.lineJoin h.bufPass)

theorem Keeps.lineIdle (h : Keeps s₀ s) {n j : ℕ} {cut : Bool} : Keeps s₀ (lineIdle s n j cut) := h.idlePair.lineJoin

/-! ## Machine/Code.lean: coding -/

theorem Keeps.codingCount (h : Keeps s₀ s) {f d c n : ℕ} : Keeps s₀ (codingCount s f d c n) := .ite h.addCtr.wr h.addCtr

theorem Keeps.codingClear (h : Keeps s₀ s) {f d : ℕ} : Keeps s₀ (codingClear s f d) := h.dropCtrs

theorem Keeps.noteWord (h : Keeps s₀ s) {f d : ℕ} {failed : Bool} : Keeps s₀ (noteWord s f d failed) := .ite h.setRxd.rotationAbandon h.setRxd

theorem Keeps.g0Pass (h : Keeps s₀ s) {f d : ℕ} {bits : List Bool} : Keeps s₀ (g0Pass s f d bits) := by
  unfold Machine.g0Pass
  split
  · exact .ite h.g0FromLine h
  · exact h

theorem Keeps.wordDecoded (h : Keeps s₀ s) {f d : ℕ} {v : List ℤ} : Keeps s₀ (wordDecoded s f d v) := by
  unfold Machine.wordDecoded
  extract_lets p lvl r o x n _ t t1 t2 t3 t4
  have ht1 : Keeps s₀ t1 := h.setRxd.g0Pass
  have ht3 : Keeps s₀ t3 := .ite ht1.codingCount.codingCount ht1.codingCount
  split
  · split
    · exact ht3.noteWord.codingCount.pcCount
    · exact ht3.noteWord.codingCount.codingCount
  · exact ht1

theorem Keeps.nextWord (h : Keeps s₀ s) {f d : ℕ} : Keeps s₀ (nextWord s f d).2 := by
  conv in Machine.nextWord => delta Machine.nextWord
  extract_lets mode n x k _
  split
  · exact h.setRxd
  · exact h

theorem Keeps.alignStep (h : Keeps s₀ s) {f d : ℕ} : Keeps s₀ (alignStep s f d) := .ite h (.ite h.softDrop (.ite h h.softDrop.takeAlign))

theorem Keeps.wordTaken (h : Keeps s₀ s) {f d : ℕ} {w : InnerWord} : Keeps s₀ (wordTaken s f d w).2 := by
  conv in Machine.wordTaken => delta Machine.wordTaken
  split
  · exact h
  · exact h.rxFeed.alignStep.nextWord

theorem Keeps.execInnerCodeword (h : Keeps s₀ s) {f : Fin 16} {d : Fin 9} {word : InnerWord} :
    KeepsOut s₀ (execInnerCodeword f d word s) := by
  refine (h.guardS ?_).formed
  have ht : Keeps s₀ (Machine.wordTaken s f.val d.val word).2 := h.wordTaken
  split
  · rename_i v t e
    rw [e] at ht
    exact ht.wordDecoded
  · rename_i t e
    rw [e] at ht
    exact ht

theorem Keeps.execCounterWrap (h : Keeps s₀ s) {f : Fin 16} {d : Fin 9} {c : Fin 29} : KeepsOut s₀ (execCounterWrap f d c s) :=
  (h.guardS h.codingCount).next

/-! ## Machine/Foreman.lean: budgets, power and throttling -/

theorem Keeps.setShed (h : Keeps s₀ s) {thr : Bool} {scope : ℕ} {x : Shed} : Keeps s₀ (s.setShed thr scope x) := .ite h.rest h.rest

theorem Keeps.lanePush (h : Keeps s₀ s) {f p : ℕ} : Keeps s₀ (lanePush s f p) := .ite h h.effortRequest

theorem Keeps.obsApply (h : Keeps s₀ s) {f : ℕ} : Keeps s₀ (obsApply s f) := .ite h.setFace.tapEval h

theorem Keeps.integApply (h : Keeps s₀ s) {f : ℕ} : Keeps s₀ (integApply s f) := .ite (h.assayAbandon.foldl fun _ _ ht => ht.calAbandon) h

theorem Keeps.coreRailApply (h : Keeps s₀ s) {c : ℕ} : Keeps s₀ (coreRailApply s c) := .ite h.wr.railCmd (.ite h.wr h.railCmd)

theorem Keeps.holdApply (h : Keeps s₀ s) {f : ℕ} : Keeps s₀ (holdApply s f) := .ite h (.ite h.wr.raiseIrq h.wrs.raiseIrq)

theorem Keeps.foremanApply (h : Keeps s₀ s) : Keeps s₀ (foremanApply s) := by
  unfold Machine.foremanApply
  extract_lets t t1 t2
  have ht : Keeps s₀ t := h.foldl fun _ _ ht => ht.obsApply.integApply.foldl fun _ _ hu => hu.lanePush
  have ht1 : Keeps s₀ t1 := ht.foldl fun _ _ hu => hu.coreRailApply
  have ht2 : Keeps s₀ t2 := ht1.foldl fun _ _ hu => hu.faceRailApply
  exact ht2.foldl fun _ _ hu => hu.holdApply

theorem Keeps.takeAct (h : Keeps s₀ s) {thr : Bool} {scope : ℕ} {act : ShedAct} : Keeps s₀ (takeAct s thr scope act) := by
  unfold Machine.takeAct
  split
  · exact h.setShed.foldl fun _ _ ht => ht.obsApply
  · exact h.setShed.foldl fun _ _ ht => ht.integApply
  · exact h.setShed.lanePush
  · exact h.setShed.coreRailApply
  · exact h.setShed.foldl fun _ _ ht => ht.holdApply

theorem Keeps.undoAct (h : Keeps s₀ s) {thr : Bool} {scope : ℕ} : Keeps s₀ (undoAct s thr scope) := by
  unfold Machine.undoAct
  extract_lets a key lanes best
  clear_value best
  split
  · exact h
  · split
    · exact h.setShed.foremanApply
    · exact h
  · exact h.setShed.foremanApply

theorem Keeps.shedLanes (h : Keeps s₀ s) {scope lim : ℕ} : Keeps s₀ (shedLanes s scope lim) := h.foldl fun _ _ ht => .ite ht.takeAct ht

theorem Keeps.shedTick (h : Keeps s₀ s) {scope lim : ℕ} : Keeps s₀ (shedTick s scope lim) := by
  conv in Machine.shedTick => delta Machine.shedTick
  extract_lets past t t1
  have ht : Keeps s₀ t := .ite h.takeAct h
  have ht1 : Keeps s₀ t1 := .ite ht.takeAct ht
  split
  · exact ht1
  · split
    · exact ht1.shedLanes
    · split
      · exact ht1.takeAct
      · exact .ite ht1 ht1.wr.logEvent

theorem Keeps.budgetTick (h : Keeps s₀ s) {scope : ℕ} : Keeps s₀ (budgetTick s scope) := by
  unfold Machine.budgetTick
  extract_lets a restore
  have hr {t : State} (ht : Keeps s₀ t) : Keeps s₀ (restore t) := .ite ht (.ite ht.undoAct ht.setShed)
  split
  · exact hr h.wr
  · extract_lets t
    have ht : Keeps s₀ t := .ite h.wr h
    exact .ite ht.shedTick (.ite (hr ht) ht.setShed)

theorem Keeps.raiseLane (h : Keeps s₀ s) {f p : ℕ} : Keeps s₀ (raiseLane s f p) := by
  unfold Machine.raiseLane
  extract_lets t keep t1
  have ht1 : Keeps s₀ t1 := h.foldl fun _ _ ht => ht.setShed.setShed
  split
  · split
    · exact .ite ht1.effortRequest h
    · exact h
  · exact h

theorem Keeps.assayRelease (h : Keeps s₀ s) {x : AssayItem} : Keeps s₀ (assayRelease s x) := by
  unfold Machine.assayRelease
  split
  · exact h
  · split
    · exact .ite h.rest h.rest.opUpd
    · split
      · exact .ite h (.ite h.rest (.ite h.rest.opUpd h))
      · exact .ite (.ite h.rest h.rest.opUpd) (.ite h (.ite h.assayStart h))
      · exact .ite h.assayStart h

theorem Keeps.calRelease (h : Keeps s₀ s) {x : CalItem} : Keeps s₀ (calRelease s x) := by
  unfold Machine.calRelease
  split
  · exact h
  · split
    · refine h.items fun w y hy => ?_
      obtain ⟨z, hz, rfl⟩ := List.mem_map.mp hy
      have hok := (h.names w).items hz
      split
      · exact hok
      · exact hok
    · split
      · rename_i e
        exact .ite (h.calStart (calReady_lt e)) h
      · exact h

theorem Keeps.obsRelease (h : Keeps s₀ s) {f : ℕ} : Keeps s₀ (obsRelease s f) := .ite h.setFace.tapEval h

theorem Keeps.scrubWords (h : Keeps s₀ s) {p : ℕ → ℕ → ℕ → Bool} : Keeps s₀ (scrubWords s p) :=
  h.foldl fun _ _ ht => .ite (Keeps.ite ht.pcCount ht).scrubWord.hardErrorSeal ht

theorem Keeps.scrubQuantum (h : Keeps s₀ s) : Keeps s₀ (scrubQuantum s) := by
  unfold Machine.scrubQuantum
  extract_lets g n t g' t1 t2 chans r lines t3 t4 t5
  have ht1 : Keeps s₀ t1 := .ite h.scrubWords.incMod h.scrubWords
  have ht2 : Keeps s₀ t2 := ht1.rest.wr
  have ht4 : Keeps s₀ t4 := ht2.pcCount.foldl fun _ _ ht => ht.scrubWords.rest
  exact .ite ht4.incMod.rest ht4

theorem Keeps.scrubFullQuantum (h : Keeps s₀ s) {o : LongOp} {nw nl : ℕ} : Keeps s₀ (scrubFullQuantum s o nw nl) := by
  unfold Machine.scrubFullQuantum
  split
  · exact (Keeps.ite h.scrubWords.pcCount h.scrubWords).opUpd
  · exact h

theorem Keeps.scrubTick (h : Keeps s₀ s) : Keeps s₀ (scrubTick s) := by
  unfold Machine.scrubTick
  extract_lets t
  split
  · exact h.rest
  · split
    · exact h.rest.scrubFullQuantum
    · exact .ite h.rest.scrubQuantum h.rest

theorem Keeps.foremanShow (h : Keeps s₀ s) : Keeps s₀ (foremanShow s) := (h.foldl fun _ _ ht => ht.wrs).wrs

theorem Keeps.tsSubstitutes (h : Keeps s₀ s) : Keeps s₀ (tsSubstitutes s) := by
  unfold Machine.tsSubstitutes
  refine .foldl h fun t x ht => ?_
  split
  · split
    · exact ht.wr
    · exact ht
  · exact ht

theorem Keeps.throttleEval (h : Keeps s₀ s) {scope : ℕ} : Keeps s₀ (throttleEval s scope) := .ite h.wr (.ite h.wr h)

theorem Keeps.alertEval (h : Keeps s₀ s) : Keeps s₀ (alertEval s) := .ite (.ite h h.wr.logEvent) (.ite h.wr h)

theorem Keeps.tsShow (h : Keeps s₀ s) : Keeps s₀ (tsShow s) := by
  unfold Machine.tsShow
  extract_lets hot t
  have ht : Keeps s₀ t := by
    clear_value hot
    unfold t
    split
    · exact h.wrs
    · exact h
  exact ht.wrs

theorem Keeps.faceTempEval (h : Keeps s₀ s) {f : ℕ} : Keeps s₀ (faceTempEval s f) :=
  (h.foldl fun _ _ ht => .ite ht.corrRecompute.corrNotice ht).calWindowCheck

theorem Keeps.sensorsEval (h : Keeps s₀ s) : Keeps s₀ (sensorsEval s) := by
  unfold Machine.sensorsEval
  extract_lets t old t1 t2
  have ht1 : Keeps s₀ t1 := .ite h.tsSubstitutes (h.tsSubstitutes.throttleEval.foldl fun _ _ ht => .ite ht.throttleEval ht).alertEval
  have ht2 : Keeps s₀ t2 := .ite ht1 ht1.raiseIrq
  exact ht2.tsShow.foldl fun _ _ ht => ht.faceTempEval

theorem Keeps.sensorFail (h : Keeps s₀ s) {n cause : ℕ} : Keeps s₀ (sensorFail s n cause) := .ite h h.wrs.logEvent.logEvent.sensorsEval

theorem Keeps.ageRaise (h : Keeps s₀ s) {c : ℕ} : Keeps s₀ (ageRaise s c) :=
  .ite h (.ite (Keeps.ite h.wr.wr.logEvent h.wr).coreRailApply (Keeps.ite h.wr.wr.logEvent h.wr).faceRailApply)

theorem Keeps.ageReading (h : Keeps s₀ s) {n freq : ℕ} {below : Bool} : Keeps s₀ (ageReading s n freq below) :=
  .ite h (.ite h.wrs.logEvent (.ite h.wrs.raiseIrq.ageRaise h.wrs))

theorem Keeps.chipStandby (h : Keeps s₀ s) : Keeps s₀ (chipStandby s) := by
  unfold Machine.chipStandby
  extract_lets t t1 t2 t3 t4 t5
  have ht1 : Keeps s₀ t1 := (h.foldl fun _ _ hu => hu.assayAbandon).wr.optWalkAll
  have ht2 : Keeps s₀ t2 := ht1.foldl fun _ _ hu => hu.capEnd.faceDpReset.foldl fun _ _ hv => hv.foldl fun _ _ hw => hw.hostOff
  have ht4 : Keeps s₀ t4 := ht2.dropRegs.rest
  exact ht4.dropRegs.dropCtrs.foremanApply

theorem Keeps.chipRun (h : Keeps s₀ s) : Keeps s₀ (chipRun s) :=
  (h.wr.accRearm.foldl fun _ _ ht => .ite (ht.foldl fun _ _ hu => hu.hostStage1) ht).foremanApply.optWalkAll

theorem Keeps.chipBegin (h : Keeps s₀ s) {goal : ℕ} : Keeps s₀ (chipBegin s goal) := h.wr.rest

theorem Keeps.chipFollow (h : Keeps s₀ s) : Keeps s₀ (chipFollow s) := by
  unfold Machine.chipFollow
  split
  · exact h
  · split
    · exact .ite h.chipRun h
    · exact .ite h.chipBegin h
    · exact h.chipBegin
    · exact h

theorem Keeps.chipWaited (h : Keeps s₀ s) : Keeps s₀ (chipWaited s) :=
  .ite h (.ite (Keeps.ite h.wr.rest.chipStandby.chipFollow h).rest (.ite h.wr.rest.chipStandby.chipFollow h))

theorem Keeps.chipTarget (h : Keeps s₀ s) {y : ℕ} : Keeps s₀ (chipTarget s y) := h.wrs.chipFollow.chipWaited

theorem Keeps.schedulerTick (h : Keeps s₀ s) : Keeps s₀ (schedulerTick s) := by
  unfold Machine.schedulerTick
  extract_lets t lanes t1 t2 t3 t4 t5 t6 t7
  have ht1 : Keeps s₀ t1 := h.raiseIrq.foldl_mem fun u l hl hu => by
    obtain ⟨f, hf, hl⟩ := List.mem_flatMap.mp hl
    obtain ⟨p, hp, rfl⟩ := List.mem_map.mp hl
    exact (hu.surveySchedule (List.mem_range.mp (List.mem_filter.mp hf).1) (List.mem_range.mp hp)).calCommitTry
  have ht4 : Keeps s₀ t4 := ((ht1.foldl fun _ _ hu => hu.raiseLane).foldl fun _ _ hu => hu.budgetTick).foremanApply
  have ht7 : Keeps s₀ t7 := ((ht4.foldl fun _ _ hu => hu.assayRelease).foldl fun _ _ hu => hu.calRelease).foldl fun _ _ hu => hu.obsRelease
  exact ht7.scrubTick.chipWaited.foremanShow

theorem Keeps.execIntegrityWait (h : Keeps s₀ s) {f : Fin 16} {tx : Bool} {d : Fin 9} : KeepsOut s₀ (execIntegrityWait f tx d s) :=
  (h.guardS (.ite h.rest.logEvent h)).next

theorem Keeps.execSensorConversion (h : Keeps s₀ s) {n : Fin 34} {value : ℤ} : KeepsOut s₀ (execSensorConversion n value s) := by
  refine (h.guardS ?_).next
  exact .ite h.sensorFail h.wr.sensorsEval

theorem Keeps.execThrottleAction (h : Keeps s₀ s) {scope : Fin 17} : KeepsOut s₀ (execThrottleAction scope s) := by
  unfold Machine.execThrottleAction
  refine .next (.guardS h ?_)
  extract_lets a t
  have ht : Keeps s₀ t := by
    unfold t
    split
    · exact h.takeAct
    · split
      · exact h.takeAct
      · split
        · exact h.takeAct
        · split
          · exact h.takeAct
          · exact h
  exact ht.foremanShow

theorem Keeps.execThrottleRelease (h : Keeps s₀ s) {scope : Fin 17} : KeepsOut s₀ (execThrottleRelease scope s) :=
  (h.guardS h.undoAct.foremanShow).next

theorem Keeps.execSensorFailure (h : Keeps s₀ s) {n : Fin 34} {cause : Fin 3} : KeepsOut s₀ (execSensorFailure n cause s) :=
  (h.guardS h.sensorFail).next

theorem Keeps.execRailConfirm (h : Keeps s₀ s) {c : Fin 8} {nak ulinear : Bool} {raw : BitVec 12} :
    KeepsOut s₀ (execRailConfirm c nak ulinear raw s) := by
  refine (h.guardS ?_).next
  extract_lets r off bad t t1 t2
  have ht1 : Keeps s₀ t1 := h.wr.setRail
  have ht2 : Keeps s₀ t2 := .ite ht1.wr ht1
  exact .ite ht2.coreRailApply (ht2.foldl fun _ _ hu => hu.optWalk)

theorem Keeps.execRailRetry (h : Keeps s₀ s) {c : Fin 8} : KeepsOut s₀ (execRailRetry c s) := (h.guardS h.wr.setRail).next

theorem Keeps.execAgeingMeasurement (h : Keeps s₀ s) {n : Fin 48} {freq : BitVec 20} {below : Bool} :
    KeepsOut s₀ (execAgeingMeasurement n freq below s) :=
  (h.guardS h.ageReading).next

theorem Keeps.execAdaptAckTimeout (h : Keeps s₀ s) {f : Fin 16} : KeepsOut s₀ (execAdaptAckTimeout f s) := (h.guardS h.logEvent).next

/-! ## Machine/Seam.lean: seams and handshakes -/

theorem Keeps.seamShow (h : Keeps s₀ s) {f p : ℕ} : Keeps s₀ (seamShow s f p) := by
  unfold Machine.seamShow
  split
  · exact h
  · exact h.wrs

theorem Keeps.seamPut (h : Keeps s₀ s) {f p : ℕ} {x : SeamX} : Keeps s₀ (seamPut s f p x) := h.setSeam.seamShow

theorem Keeps.seamPortEval (h : Keeps s₀ s) {f p : ℕ} : Keeps s₀ (seamPortEval s f p) := by
  unfold Machine.seamPortEval
  split
  · exact h.portEval
  · exact h

theorem Keeps.seamEvent (h : Keeps s₀ s) {f p b : ℕ} {fld : ℕ → ℕ → Fld} : Keeps s₀ (seamEvent s f p b fld) := by
  unfold Machine.seamEvent
  split
  · exact h.stickyEvent
  · exact h

theorem Keeps.seamFail (h : Keeps s₀ s) {f p step : ℕ} : Keeps s₀ (seamFail s f p step) := by
  conv in Machine.seamFail => delta Machine.seamFail
  extract_lets _ t t1
  have ht1 : Keeps s₀ t1 := by
    unfold t1
    split
    · exact h.seamPut.wr
    · exact h.seamPut
  exact ht1.seamEvent.seamPortEval

theorem Keeps.retryEval (h : Keeps s₀ s) {fresh f q : ℕ} : Keeps s₀ (retryEval fresh s f q) := .ite h (.ite h.seamPut.seamEvent h.seamPut)

theorem Keeps.seamMeasured (h : Keeps s₀ s) {f p : ℕ} : Keeps s₀ (seamMeasured s f p) := h.setSeam.retryEval.foldl fun _ _ ht => ht.retryEval

theorem Keeps.seamReady (h : Keeps s₀ s) {f p : ℕ} : Keeps s₀ (seamReady s f p) := .ite h.seamPut.seamEvent.seamPortEval h

theorem Keeps.seamRedraw (h : Keeps s₀ s) {f : ℕ} : Keeps s₀ (seamRedraw s f) :=
  (h.tookFree.setFaceFrom h).foldl fun _ _ ht => .ite ht ht.seamStart.seamPortEval

theorem Keeps.seamHello (h : Keeps s₀ s) {f p x : ℕ} : Keeps s₀ (seamHello s f p x) := .ite h.seamFail (.ite h.seamRedraw h.seamPut)

theorem Keeps.seamTrain (h : Keeps s₀ s) {f p : ℕ} {i : SeamIn} : Keeps s₀ (seamTrain s f p i) :=
  .ite (.ite h.seamHello h) (.ite (.ite h (.ite h.setSeam.seamMeasured.seamReady h.setSeam)) (.ite h.seamPut.seamReady h))

theorem Keeps.seamSent (h : Keeps s₀ s) {f p : ℕ} {i : SeamIn} : Keeps s₀ (seamSent s f p i) := by
  conv in Machine.seamSent => delta Machine.seamSent
  extract_lets x t
  split
  · exact h.setSeam.foldl fun _ _ ht => ht.pairStep
  · exact h.setSeam

theorem Keeps.seamRequest (h : Keeps s₀ s) {f p n r : ℕ} : Keeps s₀ (seamRequest s f p n r) := by
  unfold Machine.seamRequest
  extract_lets x ks tx mark m t _ t1 u
  have hu : Keeps s₀ (mark s) := h.foldl fun _ _ hv => hv.setSeam
  have ht : Keeps s₀ t := hu.foldl fun _ _ hv => hv.wrs.addCtr
  have ht1 : Keeps s₀ t1 := ht.setPort
  exact .ite h (.ite ht1.pcCount hu.setSeam)

theorem Keeps.bufferFree (h : Keeps s₀ s) {n j a : ℕ} : Keeps s₀ (bufferFree s n j a) := h.setPort

theorem Keeps.ackHold (h : Keeps s₀ s) {n : ℕ} {g : Option ℕ} : Keeps s₀ (ackHold s n g) := h.foldl fun _ _ ht => ht.setSeam

theorem Keeps.portResume (h : Keeps s₀ s) {n : ℕ} : Keeps s₀ (portResume s n) := h.setPort

theorem Keeps.episodeExhausted (h : Keeps s₀ s) {n : ℕ} {e : Episode} {lost : ℕ} : Keeps s₀ (episodeExhausted s n e lost) := by
  conv in Machine.episodeExhausted => delta Machine.episodeExhausted
  extract_lets f t t1 x t2 t3
  have ht1 : Keeps s₀ t1 := h.rest.foldl fun _ _ ht => ht.wr
  have ht3 : Keeps s₀ t3 := ht1.setLane.ackHold
  split
  · exact ht3.addCtr.addCtr
  · exact ht3

theorem Keeps.seamData (h : Keeps s₀ s) {f p : ℕ} {i : SeamIn} : Keeps s₀ (seamData s f p i) := by
  conv in Machine.seamData => delta Machine.seamData
  extract_lets b x t _
  split
  · exact h
  · extract_lets t1 _ t2
    have ht1 : Keeps s₀ t1 := .ite h.setSeam.setSeam.bufferFree h.setSeam
    have ht2 : Keeps s₀ t2 := .ite ht1.seamRequest ht1.setSeam
    split
    · split
      · exact ht2
      · exact ht2.episodeExhausted.portResume.seamEvent
    · exact ht2

theorem Keeps.episodeStart (h : Keeps s₀ s) {n k : ℕ} {e : Episode} : Keeps s₀ (episodeStart s n k e) := by
  unfold Machine.episodeStart
  extract_lets f t t1 t2 x t3
  have ht1 : Keeps s₀ t1 := h.rest.ackHold.foldl fun _ _ ht => ht.wrs
  have ht2 : Keeps s₀ t2 := ht1.addCtr.pcCount
  exact .ite ht2.setLane (.ite ht2.setLane.rotationAbandon ht2.setLane)

theorem Keeps.episodeRepeat (h : Keeps s₀ s) {n : ℕ} {e : Episode} : Keeps s₀ (episodeRepeat s n e) := by
  unfold Machine.episodeRepeat
  extract_lets f
  split
  · exact h
  · exact .ite h.episodeExhausted.seamEvent (h.rest.foldl fun _ _ ht => ht.wr)

theorem Keeps.seamPair (h : Keeps s₀ s) {f p k n : ℕ} {w : OuterIn} {bad : Bool} : Keeps s₀ (seamPair s f p k n w bad) := by
  conv in Machine.seamPair => delta Machine.seamPair
  dsimp only
  split
  · exact .ite h.episodeStart h
  · split
    · split
      · exact .ite h h.episodeRepeat
      · split
        · exact h.rest
        · split
          · exact h
          · split
            · exact (h.rest.foldl fun _ _ ht => ht.wr).portResume.addCtr
            · exact (h.rest.foldl fun _ _ ht => ht.wr).portResume
    · exact .ite h.episodeStart h

/-- A handshake's record changes, the position to be proposed again apart. -/
theorem Keeps.hsSet (h : Keeps s₀ s) {f : ℕ} {tag fails : HsX → ℕ} {ready peerReady switched commits : HsX → Bool}
    {peerSwitch : HsX → Option ℕ} {out reply : HsX → Option SealOut} {fifo : HsX → List (ℕ × List ℕ)} {waiting : HsX → List ℕ} :
    Keeps s₀ (hsSet s f fun x => { x with
      tag := tag x, ready := ready x, peerReady := peerReady x, peerSwitch := peerSwitch x, switched := switched x, fails := fails x,
      commits := commits x, out := out x, fifo := fifo x, reply := reply x, waiting := waiting x }) :=
  h.putFace fun w => (h.names w).face f

/-- A handshake's record changes to one that proposes no position again. -/
theorem Keeps.hsSetIdle (h : Keeps s₀ s) {f : ℕ} {tag fails : HsX → ℕ} {ready peerReady switched commits : HsX → Bool}
    {peerSwitch : HsX → Option ℕ} {out reply : HsX → Option SealOut} {fifo : HsX → List (ℕ × List ℕ)} {waiting : HsX → List ℕ} :
    Keeps s₀ (Machine.hsSet s f fun x => {
      tag := tag x, ready := ready x, peerReady := peerReady x, peerSwitch := peerSwitch x, switched := switched x, fails := fails x,
      commits := commits x, out := out x, fifo := fifo x, reply := reply x, waiting := waiting x }) :=
  h.putFace fun _ _ hk => nomatch hk

theorem Keeps.hsSend (h : Keeps s₀ s) {f msg seq reason : ℕ} : Keeps s₀ (hsSend s f msg seq reason) := h.hsSet

theorem Keeps.p8Start (h : Keeps s₀ s) {f k : ℕ} : Keeps s₀ (p8Start s f k) :=
  h.setLaneDp.setTxLaneDp.rxServe.wrs.setShape.setTxd.accRearm.mapChanged.laneEval.emitEval

theorem Keeps.hsPropose (h : Keeps s₀ s) {f k : ℕ} : Keeps s₀ (hsPropose s f k) := h.assayAbandon.tookFree.wrs.hsSetIdle.hsSend.p8Start

theorem Keeps.hsAccept (h : Keeps s₀ s) {f k tag : ℕ} : Keeps s₀ (hsAccept s f k tag) := h.assayAbandon.wrs.hsSetIdle.hsSend.p8Start

theorem Keeps.hsRefuse (h : Keeps s₀ s) {f k tag reason : ℕ} : Keeps s₀ (hsRefuse s f k tag reason) := h.hsSet

theorem Keeps.hsOnPropose (h : Keeps s₀ s) {f k tag : ℕ} : Keeps s₀ (hsOnPropose s f k tag) :=
  .ite (.ite h.hsAccept h.hsRefuse) (.ite h (.ite (.ite h.wr.hsSet (.ite h h.p8Off.hsSet.hsAccept.hsSet)) h.hsRefuse))

theorem Keeps.hsCommit (h : Keeps s₀ s) {f msg : ℕ} : Keeps s₀ (hsCommit s f msg) := h.wrs.hsSend

theorem Keeps.hsTryCommit (h : Keeps s₀ s) {f : ℕ} : Keeps s₀ (hsTryCommit s f) := .ite h.hsCommit h

theorem Keeps.hsEnd (h : Keeps s₀ s) {f : ℕ} : Keeps s₀ (hsEnd s f) := h.wr.hsSetIdle.modeEnCheck.waitingPolicy.optWalk

theorem Keeps.moveToP8 (h : Keeps s₀ s) {f k reason : ℕ} : Keeps s₀ (moveToP8 s f k reason) := by
  conv in Machine.moveToP8 => delta Machine.moveToP8
  extract_lets pk d e t t1 t2 t3 t4 t5 t6
  have ht1 : Keeps s₀ t1 := h.lightOffLanes.setPosLane.setLaneDp.setTxLaneDp
  have ht3 : Keeps s₀ t3 := .ite ht1.wrs ht1.wrs.rxdOff
  have ht4 : Keeps s₀ t4 := .ite ht3 ht3.wrs
  have ht6 : Keeps s₀ t6 := ht4.laneSeal.mapChanged.seamShow
  split
  · exact ht6.laneOutEval.portEval
  · exact ht6

theorem Keeps.seamSeal (h : Keeps s₀ s) {f : ℕ} {i : SeamIn} : Keeps s₀ (seamSeal s f i) := by
  unfold Machine.seamSeal
  extract_lets b k tag st mine
  split
  · exact h.hsOnPropose
  · exact .ite h.wr h
  · exact .ite h.hsSet.hsTryCommit h
  · exact .ite h.hsSet.hsCommit h
  · exact .ite h.hsSet h
  · exact .ite h.sealAbandon h
  · exact .ite h.sealAbandon h
  · exact .ite h.sealAbandon h
  · exact h

theorem Keeps.reconcile (h : Keeps s₀ s) {f : ℕ} {i : SeamIn} : Keeps s₀ (reconcile s f i) := .ite h (.ite h.sealPolicy h.p8Start.moveToP8)

theorem Keeps.seamArrived (h : Keeps s₀ s) {f p : ℕ} {i : SeamIn} : Keeps s₀ (seamArrived s f p i).2 := by
  conv in Machine.seamArrived => delta Machine.seamArrived
  extract_lets d x _
  split
  · exact h.setRxd
  · exact h

theorem Keeps.seamEcho (h : Keeps s₀ s) {f p : ℕ} {i : SeamIn} : Keeps s₀ (seamEcho s f p i) := .ite h.setSeam h

theorem Keeps.seamFrame (h : Keeps s₀ s) {f p : ℕ} {i0 : SeamIn} : Keeps s₀ (seamFrame s f p i0) := by
  conv in Machine.seamFrame => delta Machine.seamFrame
  extract_lets r t i x t1 x1 good run t2
  have ht1 : Keeps s₀ t1 := h.seamArrived.seamSent.seamEcho
  split
  · exact h.seamArrived.reconcile
  · split
    · exact h.seamArrived
    · split
      · exact .ite (.ite (.ite ht1.seamPut.seamTrain ht1.seamPut) ht1.setSeam) ht1.setSeam
      · split
        · split
          · exact ht1.addCtr
          · exact ht1
        · split
          · exact ht1.seamTrain
          · exact .ite ht1.seamSeal ht1
          · exact .ite ht1.seamData ht1

theorem Keeps.permanentFault (h : Keeps s₀ s) {f p k : ℕ} : Keeps s₀ (permanentFault s f p k) :=
  .ite (.ite h.stickyEvent h.stickyEvent.hsSet) (.ite h.stickyEvent.hsPropose h.stickyEvent.sealPolicy)

theorem Keeps.retryEnEff (h : Keeps s₀ s) {f k : ℕ} : Keeps s₀ (retryEnEff s f k) := .ite h h.seamShow.retryEval

theorem Keeps.retrainEff (h : Keeps s₀ s) {f k : ℕ} : Keeps s₀ (retrainEff s f k) := .ite h h.seamStart.seamPortEval

theorem Keeps.seamClear (h : Keeps s₀ s) {f k : ℕ} : Keeps s₀ (seamClear s f k) := h.foldl fun _ _ ht => ht.setCtr

theorem Keeps.fifoPut (h : Keeps s₀ s) {f m : ℕ} {second : Bool} {w : List ℕ} : Keeps s₀ (fifoPut s f m second w) := by
  unfold Machine.fifoPut
  extract_lets put
  exact h.hsSet

theorem Keeps.pairedPass (h : Keeps s₀ s) {f p k n : ℕ} {w : OuterIn} {word : List ℕ} : Keeps s₀ (pairedPass s f p k n w word) :=
  .ite (.ite h h.lineWord) (.ite h.fifoPut h)

theorem Keeps.ackTake (h : Keeps s₀ s) {f p m : ℕ} {second bad held : Bool} : Keeps s₀ (ackTake s f p m second bad held) := by
  unfold Machine.ackTake
  extract_lets x
  split
  · exact h.setSeam
  · split
    · exact h
    · split
      · exact .ite h.setSeam h
      · exact h.setSeam

theorem Keeps.pairedWord (h : Keeps s₀ s) {f p k n : ℕ} {w : OuterIn} {word : List ℕ} {bad : Bool} : Keeps s₀ (pairedWord s f p k n w word bad) := by
  conv in Machine.pairedWord => delta Machine.pairedWord
  extract_lets m t
  have ht : Keeps s₀ t := .ite h.seamPair h
  split
  · exact ht.ackTake.pairedPass
  · exact .ite ht.ackTake.pairedPass (.ite ht.ackTake.lineIdle ht.ackTake)

theorem Keeps.outerLine (h : Keeps s₀ s) {f d p mode : ℕ} {w : OuterIn} : Keeps s₀ (outerLine s f d p mode w) := by
  unfold Machine.outerLine
  extract_lets +onlyGivenNames word dec u v t
  have hu : Keeps s₀ u := h.codingCount
  have hv : Keeps s₀ v := hu.stickyEvent
  have ht : Keeps s₀ t := by
    clear_value dec
    unfold t
    split
    · exact h.codingCount.codingCount
    · exact .ite hv.rotationAbandon hv
  clear_value t dec word
  apply ht.elim
  intro t ht
  extract_lets x t1
  have ht1 : Keeps s₀ t1 := .ite ht.setLane ht
  split
  · split
    · exact .ite ht1 ht1.lineWord
    · exact ht1
  · split
    · exact .ite ht.pairedWord ht
    · exact ht

theorem Keeps.outerHost (h : Keeps s₀ s) {n : ℕ} {w : OuterIn} : Keeps s₀ (outerHost s n w) :=
  .ite h (.ite h.g0FromHost (.ite h.hostCodeword.hostWord h.hostCodeword))

theorem Keeps.execOuterCodeword (h : Keeps s₀ s) {at_ : OuterAt} {w : OuterIn} : KeepsOut s₀ (execOuterCodeword at_ w s) := by
  unfold Machine.execOuterCodeword
  refine .next (.guardS h ?_)
  split
  · exact h.outerHost
  · exact .ite h h.outerLine

theorem Keeps.afterHs (h : Keeps s₀ s) {x : State} {f : ℕ} : Keeps s₀ (afterHs x s f) := .ite h.optWalk h

theorem Keeps.execSeamFrame (h : Keeps s₀ s) {f : Fin 16} {p : Fin 9} {i : SeamIn} : KeepsOut s₀ (execSeamFrame f p i s) :=
  (h.guardS h.seamFrame.afterHs).next

theorem Keeps.execSeamTrainTimeout (h : Keeps s₀ s) {f : Fin 16} {p : Fin 9} : KeepsOut s₀ (execSeamTrainTimeout f p s) :=
  (h.guardS h.seamFail).next

theorem Keeps.execSeamRetrainTimer (h : Keeps s₀ s) {f : Fin 16} {p : Fin 9} : KeepsOut s₀ (execSeamRetrainTimer f p s) :=
  (h.guardS h.seamStart.seamPortEval).next

theorem Keeps.execReplayRetry (h : Keeps s₀ s) {n : Fin 128} : KeepsOut s₀ (execReplayRetry n s) := by
  unfold Machine.execReplayRetry
  refine .next (.guardS h ?_)
  split
  · exact h.episodeRepeat
  · exact h

theorem Keeps.execPermanentFault (h : Keeps s₀ s) {f : Fin 16} {p : Fin 9} {cond : Fin 5} : KeepsOut s₀ (execPermanentFault f p cond s) := by
  unfold Machine.execPermanentFault
  refine .next (.guardS h ?_)
  split
  · exact .ite h.permanentFault h
  · exact h

theorem Keeps.execLanePermanentFault (h : Keeps s₀ s) {f : Fin 16} {p : Fin 9} {cond : Fin 4} : KeepsOut s₀ (execLanePermanentFault f p cond s) := by
  unfold Machine.execLanePermanentFault
  extract_lets c others pn present
  refine .next (.guardS h ?_)
  split
  · exact .ite h h.stickyEvent.sealPolicy
  · exact h

theorem Keeps.execP8Ready (h : Keeps s₀ s) {f : Fin 16} {skew : ℤ} : KeepsOut s₀ (execP8Ready f skew s) :=
  (h.guardS (Keeps.ite h.sealAbandon (.ite h.sealAbandon h.wrs.hsSet.hsSend.hsTryCommit)).afterHs).next

theorem Keeps.execSealSwitch (h : Keeps s₀ s) {f : Fin 16} : KeepsOut s₀ (execSealSwitch f s) := by
  conv in Machine.execSealSwitch => delta Machine.execSealSwitch
  refine .next (.guardS h ?_)
  extract_lets n k t
  split
  · exact h.hsSet.foldl fun _ _ ht => ht.lineJoin
  · exact h.hsSet

theorem Keeps.execSealCommit (h : Keeps s₀ s) {f : Fin 16} : KeepsOut s₀ (execSealCommit f s) := (h.guardS h.moveToP8.wr.logEvent.hsEnd).next

theorem Keeps.execSealHandshakeTimeout (h : Keeps s₀ s) {f : Fin 16} : KeepsOut s₀ (execSealHandshakeTimeout f s) :=
  (h.guardS h.sealAbandon.optWalk).next

theorem Keeps.execSealRepropose (h : Keeps s₀ s) {f : Fin 16} : KeepsOut s₀ (execSealRepropose f s) := by
  unfold Machine.execSealRepropose
  refine .next (.guardS h ?_)
  split
  · exact h
  · extract_lets t
    have ht : Keeps s₀ t := h.hsSetIdle
    exact .ite ht (.ite ht.hsPropose ht.sealPolicy)

/-! ## Machine/TallyOps.lean: the tally -/

theorem Keeps.tallyOwn (h : Keeps s₀ s) {ev : Ev} : Keeps s₀ (tallyOwn s ev) :=
  .ite (Keeps.ite h.archiveLoss h).storeEvent.sendNotices (Keeps.ite h.archiveLoss h).storeEvent

theorem Keeps.freezeEff (h : Keeps s₀ s) : Keeps s₀ (freezeEff s) := .ite h h.tallyOwn.wr

theorem Keeps.thawEff (h : Keeps s₀ s) : Keeps s₀ (thawEff s) := .ite h.wr.rest.tallyOwn h

theorem Keeps.tallyClearEff (h : Keeps s₀ s) : Keeps s₀ (tallyClearEff s) := h.memClearCopy.wrs.rest

theorem Keeps.archCopy (h : Keeps s₀ s) : Keeps s₀ (archCopy s) := by
  conv in Machine.archCopy => delta Machine.archCopy
  extract_lets +onlyGivenNames b
  split
  · generalize e : List.foldl _ _ _ = r
    have hr : Keeps s₀ r.1 := by
      rw [← e]
      exact .foldl_fst h fun _ _ ha => ha.memReadWord
    clear e
    apply hr.elimFst
    intro u ws hu
    dsimp only
    split
    · exact hu.rest.wrs
    · exact hu.rest
  · exact h

theorem Keeps.archSelEff (h : Keeps s₀ s) {v : ℕ} : Keeps s₀ (archSelEff s v).1 := .ite_fst h h.wr

theorem Keeps.snapEff (h : Keeps s₀ s) : Keeps s₀ (snapEff s).1 := .ite_fst h h.rest.wrs

theorem Keeps.memFlipEff (h : Keeps s₀ s) {v : ℕ} : Keeps s₀ (memFlipEff s v).1 := .ite_fst (.ite_fst h h.wr) (.ite_fst h.wrs h)

theorem Keeps.hsRestartEff (h : Keeps s₀ s) {n : ℕ} : Keeps s₀ (hsRestartEff s n) := h.wrs.rest

theorem Keeps.execFreezeTimeout (h : Keeps s₀ s) : KeepsOut s₀ (execFreezeTimeout s) := (h.guardS h.thawEff).next

theorem Keeps.execSnapDone (h : Keeps s₀ s) : KeepsOut s₀ (execSnapDone s) := (h.guardS h.wr).next

theorem Keeps.execTallyArchiveCopy (h : Keeps s₀ s) : KeepsOut s₀ (execTallyArchiveCopy s) := (h.guardS h.archCopy).next

theorem Keeps.execBwWindow (h : Keeps s₀ s) {n : Fin 128} {h2l l2h : Word} : KeepsOut s₀ (execBwWindow n h2l l2h s) :=
  (h.guardS h.wrs.incMod).next

theorem Keeps.execPcOvf (h : Keeps s₀ s) {b : Fin 73} {i : Fin 8} : KeepsOut s₀ (execPcOvf b i s) := (h.guardS h.pcAdd).next

/-! ## Machine/RegWrite.lean: register writes -/

theorem Keeps.plainWrite (h : Keeps s₀ s) {d : RegDesc} {a v : ℕ} : Keeps s₀ (plainWrite s d a v) := h.setReg

theorem Keeps.cpRestart (h : Keeps s₀ s) {n : ℕ} : Keeps s₀ (cpRestart s n) := h.wrs.rest

theorem Keeps.chipTargetEff (h : Keeps s₀ s) {y : ℕ} : Keeps s₀ (chipTargetEff s y).1 := by
  conv in Machine.chipTargetEff => delta Machine.chipTargetEff
  split
  · exact h.chipTarget
  · exact h.chipTarget
  · exact .ite_fst h.wr (.ite_fst h.wr h.chipTarget)
  · exact h.wr

theorem Keeps.stageWord (h : Keeps s₀ s) {v : ℕ} : Keeps s₀ (stageWord s v) := h.memWriteIn.wr

theorem Keeps.stageDataEff (h : Keeps s₀ s) {v : ℕ} : Keeps s₀ (stageDataEff s v).1 := by
  conv in Machine.stageDataEff => delta Machine.stageDataEff
  split
  · exact h
  · exact h.claimTake.stageWord

theorem Keeps.stagePtrEff (h : Keeps s₀ s) {v : ℕ} : Keeps s₀ (stagePtrEff s v).1 := by
  conv in Machine.stagePtrEff => delta Machine.stagePtrEff
  split
  · exact h
  · exact .ite h.claimTake.wr.claimSet h.claimTake.wr

theorem Keeps.streamCreditEff (h : Keeps s₀ s) {i v : ℕ} : Keeps s₀ (streamCreditEff s i v).1 := .ite_fst h.wr h

theorem Keeps.dropOldestEff (h : Keeps s₀ s) : Keeps s₀ (dropOldestEff s) := by
  unfold Machine.dropOldestEff
  split
  · exact h
  · exact h.archFree

theorem Keeps.capCtrlEff (h : Keeps s₀ s) {c v : ℕ} : Keeps s₀ (capCtrlEff s c v).1 := by
  conv in Machine.capCtrlEff => delta Machine.capCtrlEff
  have ha : Keeps s₀ (if nbit v 31 = true then Machine.armEff s [c] else (s, stOk)).1 := .ite_fst h.armEff h
  split
  rename_i t st e
  rw [e] at ha
  extract_lets t1 t2
  have ht1 : Keeps s₀ t1 := .ite (Keeps.forceEff ha) ha
  have ht2 : Keeps s₀ t2 := .ite ht1.capTrunc ht1
  have hd : Keeps s₀ (if nbit v 28 = true then Machine.discardEff t2 c else (t2, stOk)).1 := .ite_fst ht2.discardEff ht2
  split
  rename_i u st' e'
  rw [e'] at hd
  exact hd

theorem Keeps.optLimEff (h : Keeps s₀ s) {f : ℕ} {b : Bool} {v : ℕ} : Keeps s₀ (optLimEff s f b v).1 :=
  .ite_fst h (.ite_fst h (Keeps.ite h.setReg h.setReg).limitsChanged)

theorem Keeps.optCtrlEff (h : Keeps s₀ s) {f v : ℕ} : Keeps s₀ (optCtrlEff s f v).1 := by
  conv in Machine.optCtrlEff => delta Machine.optCtrlEff
  dsimp only
  exact .ite_fst h.targetEff h.targetEff.laneEnEff

theorem Keeps.acqCtrlEff (h : Keeps s₀ s) {d : RegDesc} {f p v : ℕ} : Keeps s₀ (acqCtrlEff s d f p v).1 := by
  conv in Machine.acqCtrlEff => delta Machine.acqCtrlEff
  extract_lets m old t t1
  have ht : Keeps s₀ t := h.plainWrite.wr
  have ht1 : Keeps s₀ t1 := .ite ht ht.modeEnEff
  exact .ite_fst h (.ite ht1.restartEff ht1)

theorem Keeps.eqConvEff (h : Keeps s₀ s) {d : RegDesc} {f dp v : ℕ} : Keeps s₀ (eqConvEff s d f dp v) := by
  conv in Machine.eqConvEff => delta Machine.eqConvEff
  extract_lets t
  split
  · exact .ite h.plainWrite.convDoneEff (.ite h.plainWrite.convFailEff h.plainWrite)
  · exact h.plainWrite

theorem Keeps.patCtrlEff (h : Keeps s₀ s) {d : RegDesc} {a v : ℕ} {w : PatAt} {gen chk : Option Fld} : Keeps s₀ (patCtrlEff s d a v w gen chk) := by
  unfold Machine.patCtrlEff
  extract_lets oldG oldC t t1 t2 t3
  have ht1 : Keeps s₀ t1 := by
    unfold t1
    split
    · exact .ite h.plainWrite h.plainWrite.wr.patEff
    · exact h.plainWrite
  have ht2 : Keeps s₀ t2 := by
    unfold t2
    split
    · exact .ite ht1 ht1.wr.patEff
    · exact ht1
  have ht3 : Keeps s₀ t3 := .ite ht2.injectEff ht2
  exact .ite ht3.patClearEff ht3

theorem Keeps.portCtrlEff (h : Keeps s₀ s) {n v : ℕ} : Keeps s₀ (portCtrlEff s n v) := by
  unfold Machine.portCtrlEff
  extract_lets t t1
  have ht : Keeps s₀ t := .ite h (.ite h.adminUpEff h.wr)
  have ht1 : Keeps s₀ t1 := .ite ht.portRestartEff ht
  exact .ite ht1.hostClear ht1

theorem Keeps.tapCtrlEff (h : Keeps s₀ s) {f v : ℕ} : Keeps s₀ (tapCtrlEff s f v) := by
  unfold Machine.tapCtrlEff
  extract_lets t t1
  have ht : Keeps s₀ t := .ite h h.tapRunEff
  have ht1 : Keeps s₀ t1 := .ite ht.tapSwapEff ht
  exact .ite ht1.tapRestartEff ht1

theorem Keeps.hewerReset (h : Keeps s₀ s) {n : ℕ} : Keeps s₀ (hewerReset s n) := h.rest.wrs

theorem Keeps.hewerRun (h : Keeps s₀ s) {n : ℕ} {run : Bool} : Keeps s₀ (hewerRun s n run) := .ite h.wr.wr (.ite h.wr.wr h.wr)

theorem Keeps.hwCtrlEff (h : Keeps s₀ s) {n v : ℕ} : Keeps s₀ (hwCtrlEff s n v) :=
  .ite (Keeps.ite h.hewerRun.hewerReset h.hewerRun).wr.rest (.ite h.hewerRun.hewerReset h.hewerRun)

theorem Keeps.wdogKick (h : Keeps s₀ s) {n : ℕ} : Keeps s₀ (wdogKick s n) := h.rest

theorem Keeps.ovlCtrlEff (h : Keeps s₀ s) {n v : ℕ} : Keeps s₀ (ovlCtrlEff s n v).1 := .ite_fst h (.ite_fst h (.ite h.wrs.wrs h.wrs))

theorem Keeps.throttleEff (h : Keeps s₀ s) {d : RegDesc} {a v : ℕ} : Keeps s₀ (throttleEff s d a v).1 := .ite_fst h h.plainWrite.sensorsEval

theorem Keeps.faceRstEff (h : Keeps s₀ s) {f v : ℕ} : Keeps s₀ (faceRstEff s f v).1 := .ite_fst h (.ite_fst h (Keeps.ite h.wr h).rest)

theorem Keeps.rstCtrlEff (h : Keeps s₀ s) {v : ℕ} : Keeps s₀ (rstCtrlEff s v).1 := .ite_fst h (.ite_fst h.rest h)

theorem Keeps.budgetChange (h : Keeps s₀ s) : Keeps s₀ (budgetChange s) := h.raiseIrq

theorem Keeps.writeLine (h : Keeps s₀ s) {d : RegDesc} {idx : List ℕ} {a v : ℕ} : KeepsOpt s₀ (writeLine s d idx a v) := by
  have hp (w : PatAt) (gen chk : Option Fld) : Keeps s₀ (Machine.patCtrlEff s d a v w gen chk) := h.patCtrlEff
  unfold Machine.writeLine
  split
  · exact .some h.acqCtrlEff
  · exact .some h.plainWrite.swapEff
  · exact .some (.ite h.expRestartEff h)
  · exact .some h.eqConvEff
  · exact .some h.capEff
  · exact .some (.ite h.codingClear h)
  · exact .some (.ite h.plainWrite.wr h.plainWrite)
  · exact .some h.memWriteIn
  · exact .some h.memWriteIn
  · exact .some h.optCtrlEff
  · exact .some h.optLimEff
  · exact .some h.optLimEff
  · exact .some h.laneAEff
  · extract_lets t t1
    have ht : Keeps s₀ t := h.plainWrite.retryEnEff
    have ht1 : Keeps s₀ t1 := .ite ht.retrainEff ht
    exact .some (.ite ht1.seamClear ht1)
  · exact .some (hp _ _ _)
  · refine .some ?_
    dsimp only
    exact hp _ _ _
  · exact .some h.faceRstEff
  · exact .none

theorem Keeps.writeHost (h : Keeps s₀ s) {d : RegDesc} {idx : List ℕ} {a v : ℕ} : KeepsOpt s₀ (writeHost s d idx a v) := by
  unfold Machine.writeHost
  split
  · exact .some (.ite h.plainWrite.hostStage1 h.plainWrite)
  · exact .some h.patCtrlEff
  · exact .some h.portCtrlEff
  · exact .some h.tapCtrlEff
  · exact .some h.tapCfgEff
  · exact .some h.plainWrite.tapRestartEff
  · exact .some h.tapCoefEff
  · exact .some h.capCtrlEff
  · exact .some h.capCfgEff
  · exact .some h.capRegionEff
  · exact .some h.capTrigEff
  · exact .some h.streamCreditEff
  · exact .some (.ite h.dropOldestEff h)
  · exact .none

theorem Keeps.writeCore (h : Keeps s₀ s) {zcp : Bool} {d : RegDesc} {idx : List ℕ} {a v : ℕ} : KeepsOpt s₀ (writeCore s zcp d idx a v) := by
  unfold Machine.writeCore
  split
  · exact .some h.hwCtrlEff
  · exact .some (.ite h.plainWrite.wdogKick h.plainWrite)
  · exact .some (.ite h.plainWrite.raiseIrq h.plainWrite)
  · exact .some h.plainWrite.hewerWake
  · exact .some h.ovlCtrlEff
  · exact .some h.chipTargetEff
  · exact .some h.plainWrite.wr
  · exact .some h.plainWrite.coreRailApply
  · exact .some h.throttleEff
  · exact .some h.plainWrite.budgetChange
  · exact .some h.plainWrite.budgetChange
  · split
    · exact .some (.ite h.selfcalEff.wr h.selfcalEff)
    · exact .some h.plainWrite
  · exact .some (.ite_fst h.madcDirectEff h.plainWrite)
  · exact .some h.setWriteEff
  · exact .some h.memFlipEff
  · exact .some (.ite h.wr h)
  · exact .some (.ite h.plainWrite.tallyClearEff h.plainWrite)
  · exact .some h.archSelEff
  · exact .some (.ite h.plainWrite.hsRestartEff h.plainWrite)
  · exact .none

theorem Keeps.writeChip (h : Keeps s₀ s) {d : RegDesc} {idx : List ℕ} {a v : ℕ} : KeepsOpt s₀ (writeChip s d idx a v) := by
  unfold Machine.writeChip
  split
  · exact .some h.stagePtrEff
  · exact .some h.stageDataEff
  · extract_lets t t1
    have ht : Keeps s₀ t := h.plainWrite
    have ht1 : Keeps s₀ t1 := .ite ht.setReg ht
    exact .some (.ite ht1.cpRestart ht1)
  · exact .some h.setReg
  · exact .some h.setReg
  · exact .some h.rstCtrlEff
  · exact .none

theorem Keeps.regEffect (h : Keeps s₀ s) {zcp : Bool} {d : RegDesc} {idx : List ℕ} {a v : ℕ} : Keeps s₀ (regEffect s zcp d idx a v).1 := by
  unfold Machine.regEffect
  split
  · exact h
  · split
    · exact h.writeLine _ ‹_›
    · split
      · exact h.writeHost _ ‹_›
      · split
        · exact h.writeCore _ ‹_›
        · split
          · exact h.writeChip _ ‹_›
          · exact h.plainWrite

/-! ## Machine/Bus.lean: the bus -/

theorem Keeps.setHw (h : Keeps s₀ s) {n : ℕ} {x : HewerX} : Keeps s₀ (s.setHw n x) := h.rest

theorem Keeps.accessFailed (h : Keeps s₀ s) {ag : Agent} {a st dom : ℕ} : Keeps s₀ (accessFailed s ag a st dom) := by
  conv in Machine.accessFailed => delta Machine.accessFailed
  extract_lets t
  have ht : Keeps s₀ t := by
    unfold t
    split
    · exact h.sessUpd
    · exact h.setHw
    · exact h
  split
  · split
    · exact ht
    · exact .ite ht ht.logEvent.rest
  · exact ht

theorem Keeps.memPlaceWrite (h : Keeps s₀ s) {addr v : ℕ} {x : MemPlace} : Keeps s₀ (memPlaceWrite s addr v x).1 := by
  conv in Machine.memPlaceWrite => delta Machine.memPlaceWrite
  split
  · exact h
  · split
    · exact .ite_fst h.memWriteIn h
    · exact h.memWriteIn
    · exact h.setWriteEff
    · exact .ite_fst h.bankWriteEff (.ite_fst h.bankWriteEff h)
    · exact h

theorem Keeps.setLatches (h : Keeps s₀ s) {ag : Agent} {ls : List Latch} : Keeps s₀ (setLatches s ag ls) := by
  unfold Machine.setLatches
  split
  · exact h.sessUpd
  · exact h.setHw
  · exact h

theorem Keeps.setSnapSel (h : Keeps s₀ s) {ag : Agent} {v : ℕ} : Keeps s₀ (setSnapSel s ag v) := by
  unfold Machine.setSnapSel
  split
  · exact h.sessUpd
  · exact h.setHw
  · exact h.wr

theorem Keeps.blockRead (h : Keeps s₀ s) {ag : Agent} {a : ℕ} : Keeps s₀ (blockRead s ag a).1 := by
  have hm (m i b : ℕ) : Keeps s₀ (Machine.memReadIn s m i b 4).1 := h.memReadIn
  unfold Machine.blockRead
  split
  · exact h
  · split
    · extract_lets sel st t
      have ht : Keeps s₀ t := .ite h.setSnapSel h
      exact .ite_fst ht ht
    · split
      · exact h
      · split
        · exact h
        · split
          · exact h
          · exact .ite_fst (hm _ _ _) (hm _ _ _)
          · split
            · exact .ite_fst h (.ite_fst (hm _ _ _) (hm _ _ _))
            · split
              · exact h
              · split
                · exact h.setLatches
                · split
                  · exact h.setLatches
                  · exact h

theorem Keeps.busRead (h : Keeps s₀ s) {ag : Agent} {a : ℕ} : Keeps s₀ (busRead s ag a).1 := by
  conv in Machine.busRead => delta Machine.busRead
  dsimp only
  exact .ite_fst h.accRearm.accessFailed (.ite_fst h.accRearm.blockRead.accessFailed h.accRearm.blockRead)

theorem Keeps.ctrWrite (h : Keeps s₀ s) {a v : ℕ} : Keeps s₀ (ctrWrite s a v) := by
  unfold Machine.ctrWrite
  split
  · exact .ite (.ite h.setCtr h.setCtr) h
  · exact h

theorem Keeps.blockWrite (h : Keeps s₀ s) {ag : Agent} {a v : ℕ} : Keeps s₀ (blockWrite s ag a v).1 := by
  conv in Machine.blockWrite => delta Machine.blockWrite
  split
  · exact h
  · split
    · exact .ite_fst h.setSnapSel h
    · split
      · split
        · exact h.sessUpd
        · exact h
      · split
        · exact h.memPlaceWrite
        · split
          · exact h.ctrWrite
          · split
            · exact h.regEffect
            · exact h

theorem Keeps.busWrite (h : Keeps s₀ s) {ag : Agent} {a : ℕ} {w : Word} : Keeps s₀ (busWrite s ag a w).1 := by
  conv in Machine.busWrite => delta Machine.busWrite
  dsimp only
  exact .ite_fst h.accRearm.accessFailed (.ite_fst h.accRearm.blockWrite.accessFailed h.accRearm.blockWrite)

/-! ## Machine/Hewer.lean: Hewers -/

theorem Keeps.hBusErr (h : Keeps s₀ s) {n st dev : ℕ} : Keeps s₀ (hBusErr s n st dev) := .ite h h.setHw.wrs.pcCount

theorem Keeps.hDevRead (h : Keeps s₀ s) {n dev : ℕ} : Keeps s₀ (hDevRead s n dev).1 := by
  conv in Machine.hDevRead => delta Machine.hDevRead
  dsimp only
  exact h.busRead.hBusErr

theorem Keeps.hLoadDev (h : Keeps s₀ s) {n : ℕ} {k : Width} {dev : ℕ} : Keeps s₀ (hLoad.dev' n k s dev).1 := by
  have hr {t : State} {a : ℕ} (ht : Keeps s₀ t) : Keeps s₀ (Machine.hDevRead t n a).1 := ht.hDevRead
  unfold hLoad.dev'
  split
  · exact hr h
  · dsimp only
    exact hr (hr h)
  · dsimp only
    exact hr h
  · dsimp only
    exact hr h

theorem Keeps.hLoad (h : Keeps s₀ s) {n : ℕ} {k : Width} {pl : HPlace} : Keeps s₀ (hLoad s n k pl).1 := by
  unfold Machine.hLoad
  split
  · rename_i b
    have hu : Keeps s₀ (Machine.memReadIn s 4 n b k.bytes).1 := h.memReadIn
    split
    rename_i u v bad e
    rw [e] at hu
    exact .ite_fst hu.setHw hu
  · exact h.hLoadDev
  · exact h.hLoadDev

theorem Keeps.hFarWrite (h : Keeps s₀ s) {n dev v : ℕ} : Keeps s₀ (hFarWrite s n dev v) := by
  conv in Machine.hFarWrite => delta Machine.hFarWrite
  dsimp only
  exact .ite h.accessFailed.hBusErr h.busWrite.hBusErr

theorem Keeps.hNearWrite (h : Keeps s₀ s) {n dev v : ℕ} : Keeps s₀ (hNearWrite s n dev v) := by
  conv in Machine.hNearWrite => delta Machine.hNearWrite
  dsimp only
  exact h.busWrite.setHw

theorem Keeps.hStore (h : Keeps s₀ s) {n : ℕ} {k : Width} {v : ℕ} {x : HPlace} : Keeps s₀ (hStore s n k v x) := by
  unfold Machine.hStore
  split
  · exact h.memWriteIn
  · split
    · exact h.hNearWrite
    · exact h.hNearWrite.hNearWrite
    · exact h.accessFailed.hBusErr
  · split
    · exact h.hFarWrite
    · exact h.hFarWrite.hFarWrite
    · exact h.accessFailed.hBusErr

theorem Keeps.postedReturn (h : Keeps s₀ s) {n : ℕ} : Keeps s₀ (postedReturn s n) := by
  unfold Machine.postedReturn
  split
  · exact h
  · exact h.setHw.hBusErr

theorem Keeps.postedDrain (h : Keeps s₀ s) {n : ℕ} : Keeps s₀ (postedDrain s n) := h.foldl fun _ _ ht => ht.postedReturn

theorem Keeps.hOut (h : Keeps s₀ s) {n : ℕ} {x : HewerX} {r v : ℕ} : Keeps s₀ (hOut s n x r v) := h.setHw

theorem Keeps.hTrap (h : Keeps s₀ s) {n cause pc : ℕ} : Keeps s₀ (hTrap s n cause pc) :=
  .ite (Keeps.ite h.wrs.logEvent.seqStop h.wrs.logEvent).surveyStop (.ite h.wrs.logEvent.rest h.wrs.logEvent)

theorem Keeps.hAdvance (h : Keeps s₀ s) {n pc len : ℕ} : Keeps s₀ (hAdvance s n pc len) := by
  unfold Machine.hAdvance
  dsimp only
  split
  · exact h.setHw.wr
  · split
    · exact h.setHw.wr
    · exact h.setHw.wr

theorem Keeps.hSample (h : Keeps s₀ s) {n word pc retired : ℕ} : Keeps s₀ (hSample s n word pc retired) :=
  .ite (.ite (.ite h.tookFree.rest.wr.wr.logEvent h.tookFree.rest.wr) h.rest) h

theorem Keeps.hRetire (h : Keeps s₀ s) {n word pc retired : ℕ} {mac jumped : Bool} : Keeps s₀ (hRetire s n word pc retired mac jumped) := by
  unfold Machine.hRetire
  extract_lets _ t t1 t2 t3 t4
  have ht1 : Keeps s₀ t1 := h.setHw.pcCount.pcCount
  have ht2 : Keeps s₀ t2 := .ite ht1.pcCount ht1
  have ht3 : Keeps s₀ t3 := .ite ht2.pcCount ht2
  have ht4 : Keeps s₀ t4 := .ite ht3.pcCount ht3
  exact ht4.hSample

theorem Keeps.hExec (h : Keeps s₀ s) {src : State} {n : ℕ} {i : HInstr} {pc : ℕ} : KeepsHewer s₀ (hExec src s n i pc) := by
  cases i with
  | alu => exact (Keeps.ite h.tookFree h).setHw
  | addi => exact h.hOut
  | movi => exact h.hOut
  | movhi => exact h.hOut
  | cmp => exact h.setHw
  | exp => exact h.hOut
  | expm => exact h.hOut
  | hist => exact h.setHw
  | mfs d idx =>
    unfold Machine.hExec
    dsimp only
    split
    · exact (Keeps.ite h.tookFree h).setHw
    · trivial
  | mts u idx =>
    unfold Machine.hExec
    dsimp only
    split
    · exact h.setHw
    · trivial
  | mac => exact h.setHw
  | aset => exact h.setHw
  | aclr => exact h.setHw
  | ashr => exact h.setHw
  | extr => exact h.setHw
  | norm => exact h.hOut
  | load k d p upd off =>
    unfold Machine.hExec
    dsimp -zeta only
    extract_lets x a
    split
    · trivial
    · split
      · trivial
      · rename_i pl _
        have hl : Keeps s₀ (Machine.hLoad s n k pl).1 := h.hLoad
        extract_lets t
        have ht : Keeps s₀ t := hl.setHw
        clear_value t
        cases k with
        | w => exact ht.hOut
        | d => exact ht.hOut.hOut
        | h => exact ht.hOut
        | b => exact ht.hOut
  | store k d p upd off =>
    unfold Machine.hExec
    dsimp only
    split
    · trivial
    · split
      · trivial
      · exact h.setHw.hStore
  | setp => exact h.setHw
  | getp => exact h.hOut
  | paddi => exact h.setHw
  | br => exact .ite h
  | bcc c off =>
    unfold Machine.hExec
    dsimp only
    split
    · trivial
    · split
      · exact h
      · exact h
  | call => exact .ite h.setHw
  | jr => exact .ite h
  | loop rot l u off =>
    unfold Machine.hExec
    dsimp only
    split
    · trivial
    · split
      · exact h.setHw
      · trivial
  | reti => exact .ite h.setHw
  | nop => exact h
  | wait => exact Keeps.ite h.wr h
  | ei => exact h.setHw
  | di => exact h.setHw
  | sync => exact h.postedDrain
  | trap => trivial
  | bkpt => trivial

theorem Keeps.hRun (h : Keeps s₀ s) {n : ℕ} {i : HInstr} : Keeps s₀ (hRun s n i) := by
  unfold Machine.hRun
  extract_lets pc
  have ht : KeepsHewer s₀ (Machine.hExec s s n i pc) := h.hExec
  split
  · exact h.hTrap
  · rename_i t e
    rw [e] at ht
    exact Keeps.hRetire (Keeps.hAdvance ht)
  · rename_i t a e
    rw [e] at ht
    exact Keeps.hRetire (Keeps.wr ht)

theorem Keeps.hPair (h : Keeps s₀ s) {n pc : ℕ} {a b : HInstr} {word : ℕ} : Keeps s₀ (hPair s n pc a b word) := by
  unfold Machine.hPair
  have ht : KeepsHewer s₀ (Machine.hExec s s n a pc) := h.hExec
  split
  · exact h.hTrap
  · exact h.hTrap
  · rename_i t e
    rw [e] at ht
    have hu : KeepsHewer s₀ (Machine.hExec s t n b (pc + 4)) := Keeps.hExec ht
    split
    · exact h.hTrap
    · exact h.hTrap
    · rename_i u e'
      rw [e'] at hu
      exact Keeps.hRetire (Keeps.hAdvance hu)

theorem Keeps.hFetch (h : Keeps s₀ s) {n pc : ℕ} : Keeps s₀ (hFetch s n pc).1 := by
  conv in Machine.hFetch => delta Machine.hFetch
  dsimp only
  exact h.memReadIn

theorem Keeps.hFetchRun (h : Keeps s₀ s) {n : ℕ} : Keeps s₀ (hFetchRun s n) := by
  unfold Machine.hFetchRun
  extract_lets pc
  have ht : Keeps s₀ (Machine.hFetch s n pc).1 := h.hFetch
  split
  · rename_i t e
    rw [e] at ht
    exact Keeps.hTrap ht
  · rename_i t w e
    rw [e] at ht
    split
    · exact Keeps.hTrap ht
    · split
      · have hu : Keeps s₀ (Machine.hFetch t n ((pc + 4) % 2 ^ 16)).1 := Keeps.hFetch ht
        split
        · rename_i u e'
          rw [e'] at hu
          exact Keeps.hTrap hu
        · rename_i u w2 e'
          rw [e'] at hu
          split
          · exact Keeps.hTrap hu
          · exact .ite (Keeps.hPair hu) (Keeps.hTrap hu)
      · exact Keeps.hRun ht

theorem Keeps.hStep (h : Keeps s₀ s) {n : ℕ} : Keeps s₀ (hStep s n) := .ite (.ite h h.hFetchRun.wr) h.wr

theorem Keeps.irqEnter (h : Keeps s₀ s) {n i : ℕ} : Keeps s₀ (irqEnter s n i) := h.setHw.wr.pcCount

theorem Keeps.ovlCopy (h : Keeps s₀ s) {n arr src dst len : ℕ} {out : Bool} : Keeps s₀ (ovlCopy s n arr src dst len out).1 :=
  .ite_fst h.memReadRun.ddrWrite h.ddrReadRun.memWriteRun

theorem Keeps.ovlDone (h : Keeps s₀ s) {n : ℕ} : Keeps s₀ (ovlDone s n) := by
  conv in Machine.ovlDone => delta Machine.ovlDone
  extract_lets src dst len data out ok
  generalize e : (if ok = true then Machine.ovlCopy s n (if data = true then 4 else 3) src dst len out else (s, false)) = r
  have hr : Keeps s₀ r.1 := by
    rw [← e]
    exact .ite_fst h.ovlCopy h
  clear e
  apply hr.elimFst
  intro t done ht
  dsimp only
  exact .ite ht.wrs.raiseIrq.hStep ht.wrs.raiseIrq

/-! ## Machine/Session.lean: sessions -/

theorem Keeps.sessionEnd (h : Keeps s₀ s) {id : ℕ} : Keeps s₀ (sessionEnd s id) := by
  unfold Machine.sessionEnd
  split
  · exact h
  · exact h.streamsClose.rest.logEvent

theorem Keeps.sessionsEnd (h : Keeps s₀ s) {p : Session → Bool} : Keeps s₀ (sessionsEnd s p) := h.foldl fun _ _ ht => ht.sessionEnd

theorem Keeps.vaultClear (h : Keeps s₀ s) : Keeps s₀ (vaultClear s) := h.sessionsEnd.incMod.wr

/-! ## Machine/Plan.lean: plans -/

theorem Keeps.hewerLoad (h : Keeps s₀ s) {n : ℕ} : Keeps s₀ (hewerLoad s n) := h.memClear.foldl fun _ _ ht => .ite ht.memWriteRun ht

theorem Keeps.hewerFresh (h : Keeps s₀ s) {n : ℕ} : Keeps s₀ (hewerFresh s n) := by
  unfold Machine.hewerFresh
  extract_lets t
  have ht : Keeps s₀ t := h.dropRegs
  have ht1 : Keeps s₀ { t with hewers := tabSet {} t.hewers n {} } := ht.rest
  exact ht1.hewerReset

theorem Keeps.copyWrite (h : Keeps s₀ s) : Keeps s₀ (copyWrite s) := by
  unfold Machine.copyWrite
  split
  · exact .ite h.ddrWrite.rest h.rest
  · exact h.rest

theorem Keeps.ddrEval (h : Keeps s₀ s) : Keeps s₀ (ddrEval s) := by
  unfold Machine.ddrEval
  split
  · exact .ite (h.foldl fun _ _ ht => ht.wrs).copyWrite (h.wr.foldl fun _ _ ht => ht.wr).rest.logEvent
  · exact h

theorem Keeps.regionsApply (h : Keeps s₀ s) : Keeps s₀ (regionsApply s) := by
  unfold Machine.regionsApply
  extract_lets rs old t
  have ht : Keeps s₀ t := by
    unfold t
    refine .foldl h fun t x ht => ?_
    split
    · exact ht.wrs
    · exact ht.setReg.setReg
  exact ht.rest

theorem Keeps.ptpApply (h : Keeps s₀ s) {p : List ℕ} : Keeps s₀ (ptpApply s p) := .ite h.rest h.rest.wr

theorem Keeps.platformApply (h : Keeps s₀ s) : Keeps s₀ (platformApply s) := by
  unfold Machine.platformApply
  extract_lets p old t t1 t2 u t3 t4 t5 t6
  have ht : Keeps s₀ t := h.foldl fun _ _ hu => hu.wr
  have ht1 : Keeps s₀ t1 := ht.wr
  have ht2 : Keeps s₀ t2 := ht1.rest
  have hu : Keeps s₀ u := ht2.streamsClose
  have ht3 : Keeps s₀ t3 := .ite ht2 hu.rest
  have ht4 : Keeps s₀ t4 := .ite ht3 ht3.rest
  have ht5 : Keeps s₀ t5 := ht4.archShow.ptpApply
  have ht6 : Keeps s₀ t6 := ht5.foldl fun _ _ hu => hu.wrs
  exact .ite ht6.wr.cpRestart ht6

theorem Keeps.powerApply (h : Keeps s₀ s) : Keeps s₀ (powerApply s) :=
  .ite (h.wrs.foldl fun _ _ ht => ht.wr) ((h.wrs.foldl fun _ _ ht => ht.wr).foldl fun _ _ ht => ht.wr)

theorem Keeps.recReg (h : Keeps s₀ s) {a v : ℕ} : Keeps s₀ (recReg s a v) := by
  unfold Machine.recReg
  split
  · exact h.setReg
  · exact h

theorem Keeps.tallyApply (h : Keeps s₀ s) : Keeps s₀ (tallyApply s) := by
  unfold Machine.tallyApply
  extract_lets d n t
  have ht : Keeps s₀ t := h.foldl fun _ _ ht => .ite ht.recReg.recReg ht.setReg.setReg
  exact .ite ht.setReg.setReg.wr ht.recReg.recReg.wr

theorem Keeps.assayApply (h : Keeps s₀ s) : Keeps s₀ (assayApply s) := .ite h.wr.logEvent h.wr

theorem Keeps.portCfg (h : Keeps s₀ s) {d : List ℕ} : Keeps s₀ (portCfg s d) := h.wrs

theorem Keeps.hostAbsent (h : Keeps s₀ s) {n : ℕ} : Keeps s₀ (hostAbsent s n) := h.dropRegs.dropCtrs.rest

theorem Keeps.portAbsent (h : Keeps s₀ s) {n : ℕ} : Keeps s₀ (portAbsent s n) := h.dropRegs.dropCtrs.rest

theorem Keeps.portsStart (h : Keeps s₀ s) {ps : List (List ℕ)} : Keeps s₀ (portsStart s ps) :=
  h.foldl fun _ _ ht => (Keeps.ite (ht.foldl fun _ _ hu => hu.hostStage1) ht).portEval

theorem Keeps.portsApply (h : Keeps s₀ s) {old new : List (List ℕ)} {fs : List ℕ} : Keeps s₀ (portsApply s old new fs) := by
  unfold Machine.portsApply
  extract_lets moved ups t lanes t1 t2 t3
  have ht : Keeps s₀ t := h.foldl fun _ _ ht => (ht.foldl fun _ _ hu => hu.hostOff).setReg
  have ht1 : Keeps s₀ t1 := ht.foldl fun _ _ hu => hu.hostAbsent
  have ht2 : Keeps s₀ t2 := ht1.foldl fun _ _ hu => hu.portAbsent
  have ht3 : Keeps s₀ t3 := ht2.foldl fun _ _ hu => hu.portCfg
  exact ht3.wr.portsStart

theorem Keeps.faceDown (h : Keeps s₀ s) {f : ℕ} : Keeps s₀ (faceDown s f) :=
  (h.assayAbandon.foldl fun _ _ ht => ht.foldl fun _ _ hu => hu.hostOff).capEnd.toSleep

theorem Keeps.faceClear (h : Keeps s₀ s) {f : ℕ} : Keeps s₀ (faceClear s f) := by
  unfold Machine.faceClear
  extract_lets a b gen res ps t t1 t2 x own t3 t4
  have ht2 : Keeps s₀ t2 := (Keeps.ite h.dropRegs.dropCtrs.setReg.setReg.wr.wr h.dropRegs.dropCtrs.setReg.setReg.wr).memClear
  have ht3 : Keeps s₀ t3 := by
    refine ⟨fun w => ?_, ht2.memory⟩
    obtain ⟨hq, hl, hf, ho⟩ := (namesWf_iff _).mp (ht2.names w)
    exact (namesWf_iff _).mpr ⟨hq, fun e he => hl e (List.mem_filter.mp he).1, hf, ho⟩
  have ht4 : Keeps s₀ t4 := ht3.putFace fun _ _ hk => nomatch hk
  exact ht4.foldl fun _ _ hu => hu.wrs

theorem Keeps.observeApply (h : Keeps s₀ s) {f : ℕ} : Keeps s₀ (observeApply s f) := by
  unfold Machine.observeApply
  split
  · exact h
  · extract_lets t t1 c _ t2
    have ht : Keeps s₀ t := h.recReg.recReg.wrs
    have ht1 : Keeps s₀ t1 := ht.foldl fun _ _ hu => hu.wr
    exact .ite (.ite ht1.setFace.recReg.recReg.recReg.recReg ht1.setFace) ht1

theorem Keeps.faceRegs (h : Keeps s₀ s) {f : ℕ} {hold : Bool} : Keeps s₀ (faceRegs s f hold) := h.wr.foldl fun _ _ ht => ht.wrs

theorem Keeps.faceSubstitute (h : Keeps s₀ s) {f : ℕ} : Keeps s₀ (faceSubstitute s f) := by
  unfold Machine.faceSubstitute
  split
  · exact .ite h h.sealBurn.faceMapReset
  · exact h

theorem Keeps.mapRestart (h : Keeps s₀ s) {old : State} {f : ℕ} : Keeps s₀ (mapRestart old s f) :=
  .ite (Keeps.ite h h.mapChanged).logEvent (.ite h h.mapChanged)

theorem Keeps.faceFresh (h : Keeps s₀ s) {f : ℕ} {hold had : Bool} : Keeps s₀ (faceFresh s f hold had) := by
  unfold Machine.faceFresh
  extract_lets t t1 t2 t3 t4 t5
  have ht1 : Keeps s₀ t1 := h.faceClear.hewerLoad.hewerFresh
  have ht3 : Keeps s₀ t3 := .ite ht1.faceRegs.limitsShow ht1.faceRegs
  have ht4 : Keeps s₀ t4 := ht3.observeApply.faceMapReset
  have ht5 : Keeps s₀ t5 := .ite ht4.faceSubstitute.mapRestart ht4
  exact ht5.sliceSealsShow.dpRoles

theorem Keeps.faceAbsent (h : Keeps s₀ s) {f : ℕ} : Keeps s₀ (faceAbsent s f) := by
  unfold Machine.faceAbsent
  extract_lets t t1
  have ht : Keeps s₀ t := h.faceClear.memClear
  have ht1 : Keeps s₀ t1 := by
    refine ⟨fun w => ?_, ht.memory⟩
    obtain ⟨hq, hl, hf, ho⟩ := (namesWf_iff _).mp (ht.names w)
    have hx : ∀ e ∈ tabSet {} t.faces f {}, e.2.NamesOk := tabSet_all hf FaceX.namesOk_default
    exact (namesWf_iff _).mpr ⟨fun x hx => hq x (List.mem_filter.mp hx).1, hl, hx, ho⟩
  exact ht1.assayIdle.wr.wr

theorem Keeps.initWrites (h : Keeps s₀ s) {hold : Bool} {ps : List (ℕ × ℕ)} : Keeps s₀ (initWrites s hold ps) := by
  conv in Machine.initWrites => delta Machine.initWrites
  refine .foldl h fun t x ht => ?_
  dsimp only
  exact .ite ht.busWrite ht.busWrite.logEvent

theorem Keeps.planShow (h : Keeps s₀ s) : Keeps s₀ (planShow s) := by
  unfold Machine.planShow
  split
  · exact h.wrs
  · exact h

theorem Keeps.planSteps (h : Keeps s₀ s) {p : Plan} {hold : Bool} : Keeps s₀ (planSteps s p hold).1 := by
  conv in Machine.planSteps => delta Machine.planSteps
  extract_lets run old new differs code had have_ redo gone t t1 t2 t3 t4 t5 t6 t7 t8 t9 t10 t11 t12 t13 touched pairs t14
  have ht : Keeps s₀ t := h.foldl fun _ _ ht => ht.faceDown
  have ht1 : Keeps s₀ t1 := .ite (ht.surveyStop.foldl fun _ _ hu => hu.assayAbandon.toSleep) ht
  have ht3 : Keeps s₀ t3 := ht1.rest.wr
  have ht4 : Keeps s₀ t4 := .ite ht3.platformApply ht3
  have ht5 : Keeps s₀ t5 := .ite ht4.powerApply ht4
  have ht6 : Keeps s₀ t6 := .ite ht5.tallyApply ht5
  have ht7 : Keeps s₀ t7 := .ite ht6.regionsApply ht6
  have ht8 : Keeps s₀ t8 := .ite (ht7.foldl fun _ _ hu => hu.hewerLoad.hewerFresh) ht7
  have ht9 : Keeps s₀ t9 := ht8.foldl fun _ _ hu => hu.faceAbsent
  have ht10 : Keeps s₀ t10 := ht9.foldl fun _ _ hu => hu.faceFresh.wr
  have ht11 : Keeps s₀ t11 := ht10.portsApply.foldl fun _ _ hu => hu.dpRoles
  have ht12 : Keeps s₀ t12 := .ite ht11.seqLoad ht11
  have ht13 : Keeps s₀ t13 := .ite ht12.assayApply ht12
  have ht14 : Keeps s₀ t14 := ht13.accRearm.initWrites
  exact ht14.ddrEval.planShow.foremanApply

theorem Keeps.keysRemoved (h : Keeps s₀ s) {old : List PRec} : Keeps s₀ (keysRemoved s old) := h.rest

theorem Keeps.planApply (h : Keeps s₀ s) {p : Plan} {hold : Bool} : Keeps s₀ (planApply s p hold) := by
  conv in Machine.planApply => delta Machine.planApply
  extract_lets old
  have hr : Keeps s₀ (Machine.planSteps s p hold).1 := h.planSteps
  split
  rename_i t fs e
  rw [e] at hr
  extract_lets u
  have hu : Keeps s₀ u := ((Keeps.keysRemoved hr).foldl fun _ _ hv => hv.optWalk).wr
  exact hu.rest.logEvent

theorem Keeps.planAfter (h : Keeps s₀ s) : Keeps s₀ (planAfter s) := .ite h.sessionsEnd h.sessionsEnd.sessionsEnd.wr.dropRegs.rest

theorem Keeps.faceReset (h : Keeps s₀ s) {f : ℕ} : Keeps s₀ (faceReset s f) :=
  .ite h h.faceDown.faceFresh.dpRoles.accRearm.initWrites.portsStart.foremanApply.optWalk

theorem Keeps.faceReplan (h : Keeps s₀ s) {p : Plan} {f : ℕ} : Keeps s₀ (faceReplan s p f) := by
  unfold Machine.faceReplan
  extract_lets old had t t1 here t2 t3 t4 t5 t6 t7 t8
  have ht : Keeps s₀ t := .ite h.faceDown h
  have ht2 : Keeps s₀ t2 := ht.rest.wr
  have ht3 : Keeps s₀ t3 := .ite ht2.faceFresh.wr (.ite ht2.faceAbsent ht2)
  have ht5 : Keeps s₀ t5 := .ite ht3.portsApply.dpRoles ht3.portsApply
  have ht6 : Keeps s₀ t6 := ht5.accRearm.initWrites
  have ht7 : Keeps s₀ t7 := ht6.copyWrite.planShow.foremanApply
  have ht8 : Keeps s₀ t8 := .ite ht7.optWalk ht7
  exact ht8.rest.logEvent

/-! ## Machine/Reset.lean: reset and wake -/

theorem Keeps.slotsShow (h : Keeps s₀ s) : Keeps s₀ (slotsShow s) := h.wrs

theorem Keeps.planFailed (h : Keeps s₀ s) {reason id : ℕ} : Keeps s₀ (planFailed s reason id) := h.wr.logEvent

theorem Keeps.planPassed (h : Keeps s₀ s) {p : Plan} : Keeps s₀ (planPassed s p) := (h.foldl fun _ _ ht => ht.logEvent).rest

theorem Keeps.keepRegs (h : Keeps s₀ s) {x : State} {as : List ℕ} : Keeps s₀ (keepRegs x s as) := h.foldl fun _ _ ht => ht.setReg

theorem Keeps.keepFlds (h : Keeps s₀ s) {x : State} {fs : List Fld} : Keeps s₀ (keepFlds x s fs) := h.foldl fun _ _ ht => ht.wr

theorem NamesWf.reset : NamesWf State.reset := by
  refine (namesWf_iff _).mpr ⟨?_, ?_, ?_, ?_⟩ <;> exact List.forall_mem_nil _

theorem Keeps.resetBase (h : Keeps s₀ s) : Keeps s₀ (resetBase s) := by
  refine ⟨fun _ => NamesWf.reset, fun m => ?_⟩
  have hs := h.memory m
  rw [memory_wf_iff] at hs ⊢
  exact ⟨rfl, hs.2⟩

theorem Keeps.clockShow (h : Keeps s₀ s) : Keeps s₀ (clockShow s) := h.wrs

theorem Keeps.urgentSent (h : Keeps s₀ s) {fs : List ℕ} : Keeps s₀ (urgentSent fs s) := h.foldl fun _ _ ht => ht.setFace

theorem Keeps.coldReset (h : Keeps s₀ s) : Keeps s₀ (coldReset s) := h.resetBase.rest.keepFlds.incMod.wr.clockShow.urgentSent

theorem Keeps.powerLoss (h : Keeps s₀ s) : Keeps s₀ (powerLoss s) := h.resetBase.rest

theorem Keeps.vaultLoad (h : Keeps s₀ s) {ok : Bool} : Keeps s₀ (vaultLoad s ok) := .ite h.wr h.logEvent

theorem Keeps.startUp (h : Keeps s₀ s) {strap : ℕ} {vaultOk : Bool} : Keeps s₀ (startUp s strap vaultOk) :=
  (h.rest.wr.otpShow.foldl fun _ _ ht => ht.limitsShow).slotsShow.vaultLoad.cpRestart.clockShow.wrs

theorem Keeps.bootTry (h : Keeps s₀ s) {l : List ℕ} : Keeps s₀ (bootTry s l) := by
  induction l generalizing s with
  | nil => exact h.wrs.rest
  | cons n l ih =>
    unfold Machine.bootTry
    split
    · exact ih h
    · extract_lets img
      split
      · exact ih h.planFailed.rest
      · exact h.wrs.planPassed

theorem Keeps.bootApply (h : Keeps s₀ s) {p : Plan} : Keeps s₀ (bootApply s p) := h.planApply.wrs

theorem Keeps.keptBase (h : Keeps s₀ s) : Keeps s₀ (keptBase s) := ⟨fun _ => NamesWf.reset, h.memory⟩

theorem Keeps.vppBurn (h : Keeps s₀ s) : Keeps s₀ (vppBurn s) := .ite h.rest.otpShow h

theorem Keeps.mirrorLoad (h : Keeps s₀ s) {e : ℕ} : Keeps s₀ (mirrorLoad s e) :=
  .ite h.ddrReadRun.ddrReadRun.setReg.memWriteRun h.ddrReadRun.ddrReadRun.rest

theorem Keeps.mirrorRestore (h : Keeps s₀ s) : Keeps s₀ (mirrorRestore s) := (h.foldl fun _ _ ht => ht.mirrorLoad).rest

theorem Keeps.reapplyImage (h : Keeps s₀ s) {p : Plan} : Keeps s₀ (reapplyImage s p).1 := by
  conv in Machine.reapplyImage => delta Machine.reapplyImage
  dsimp only
  split
  · exact .ite_fst h.ddrRead h
  · split
    · split
      · exact h
      · exact h
    · exact h

theorem Keeps.bootAgain (h : Keeps s₀ s) {reason id : ℕ} : Keeps s₀ (bootAgain s reason id) := h.planFailed.rest

theorem Keeps.reapply (h : Keeps s₀ s) {p : Plan} {img : Option (List ℕ × ℕ × ℕ)} : Keeps s₀ (reapply s p img) := by
  unfold Machine.reapply
  split
  · exact h.bootAgain
  · split
    · exact h.bootAgain
    · exact h.planPassed.rest.planApply.rest

theorem Keeps.warmReset (h : Keeps s₀ s) {c : WarmCause} : Keeps s₀ (warmReset s c) := by
  conv in Machine.warmReset => delta Machine.warmReset
  extract_lets +onlyGivenNames last cause ident t t1 plan
  have ht : Keeps s₀ t := h.foldl fun _ _ hu => .ite hu.toSleep hu
  have ht1 : Keeps s₀ t1 := ht.burnsStop.vaultClear.thawEff
  clear_value plan t1 last cause ident
  split
  rename_i u img e
  have hu : Keeps s₀ u := by
    cases plan with
    | none =>
      cases e
      exact ht1
    | some p =>
      have hr : Keeps s₀ (Machine.reapplyImage t1 p).1 := ht1.reapplyImage
      rw [show Machine.reapplyImage t1 p = (u, img) from e] at hr
      exact hr
  extract_lets u1 v v1 v2 v3 v4
  have hu1 : Keeps s₀ u1 := hu.memClear
  have hv : Keeps s₀ v := hu1.keptBase.keepRegs.keepFlds
  have hv1 : Keeps s₀ v1 := hv.incMod.wrs
  have hv2 : Keeps s₀ v2 := hv1.urgentSent
  have hv3 : Keeps s₀ v3 := hv2.mirrorRestore.otpShow.slotsShow.clockShow.cpRestart
  have hv4 : Keeps s₀ v4 := by
    clear e
    unfold v4
    split
    · exact hv3.reapply
    · exact hv3
  exact hv4.vppBurn

theorem Keeps.rxdReset (h : Keeps s₀ s) {f d : ℕ} : Keeps s₀ (rxdReset s f d) := by
  conv in Machine.rxdReset => delta Machine.rxdReset
  extract_lets lane role t t1 t2
  have ht : Keeps s₀ t := .ite h.patEff h
  have ht1 : Keeps s₀ t1 := ht.rxdRegsReset.dropCtrs.rxdClearMem
  have ht2 : Keeps s₀ t2 := .ite ht1.wr ht1
  split
  · exact .ite ht2.restartEff ht2
  · exact ht2

theorem Keeps.txdReset (h : Keeps s₀ s) {f d : ℕ} : Keeps s₀ (txdReset s f d) :=
  (Keeps.ite h.patEff h).dropRegs.dropCtrs.txdClearMem.setReg.wr.rest

theorem Keeps.dpsReset (h : Keeps s₀ s) {f rx tx : ℕ} : Keeps s₀ (dpsReset s f rx tx) :=
  ((h.foldl fun _ _ ht => .ite ht.rxdReset ht).foldl fun _ _ ht => .ite ht.txdReset ht).portsEval

theorem Keeps.faceRstRun (h : Keeps s₀ s) {f : ℕ} : Keeps s₀ (faceRstRun s f) := .ite h h.faceReset.wr

theorem Keeps.memTake (h : Keeps s₀ s) {old : State} {p : ℕ → ℕ → ℕ → Bool} : Keeps s₀ (memTake s old p) :=
  h.mem (fun w => memOk_memTake s old p w) rfl

theorem Keeps.tallyDrop (h : Keeps s₀ s) : Keeps s₀ (tallyDrop s) := h.tallyClearEff.setReg.setReg

theorem Keeps.deepEnter (h : Keeps s₀ s) : Keeps s₀ (deepEnter s) := by
  unfold Machine.deepEnter
  extract_lets banks old t t1 t2 t3 t4 t5
  have ht1 : Keeps s₀ t1 := (h.foldl fun _ _ hu => .ite hu.assayAbandon.toSleep hu).vaultClear.capDiscardAll.surveyStop
  have ht2 : Keeps s₀ t2 := .ite ht1 ht1.tallyDrop
  have ht4 : Keeps s₀ t4 := ht2.memTake.memClear
  have ht5 : Keeps s₀ t5 := (ht4.kinds (l := []) fun _ => List.forall_mem_nil _).rest
  exact ht5.wrs

theorem Keeps.wakeRestore (h : Keeps s₀ s) {p : Plan} {bad : List ℕ} : Keeps s₀ (wakeRestore s p bad) := by
  conv in Machine.wakeRestore => delta Machine.wakeRestore
  extract_lets +onlyGivenNames banks lost good t keep
  have ht : Keeps s₀ t := .ite h.tallyDrop h
  clear_value t keep
  apply ht.elim
  intro t ht
  have hb : Keeps s₀ { Machine.keptBase t with frozenLost := t.frozenLost, rails := t.rails, burnQ := t.burnQ } := ht.keptBase.rest
  have hr := (hb.keepFlds (x := t) (fs := [TALLY_STATUS_FROZEN])).planSteps (p := p) (hold := false)
  split
  rename_i u fs e
  rw [e] at hr
  extract_lets u1 u2 u3 u4 u5 u6
  have hu1 : Keeps s₀ u1 := (Keeps.keepRegs hr).keepFlds
  have hu2 : Keeps s₀ u2 := hu1.memTake.slotsShow.otpShow
  have hu3 : Keeps s₀ u3 := hu2.foldl fun _ _ hv => hv.dpRoles
  have hu4 : Keeps s₀ u4 := hu3.rest.wrs.cpRestart
  have hu5 : Keeps s₀ u5 := hu4.foldl fun v i hv => by
    extract_lets f v1
    have hv1 : Keeps s₀ v1 := hv.wr.logEvent
    split
    · exact hv1.ownerNotice
    · exact hv1
  have hu6 : Keeps s₀ u6 := hu5.logEvent.thawEff
  exact hu6.foremanApply.foldl fun _ _ hv => hv.optWalk

theorem Keeps.wakeBegin (h : Keeps s₀ s) {code : ℕ} {flips : List (Fin 64 × BitVec 24 × BitVec 8)} : Keeps s₀ (wakeBegin s code flips) := by
  unfold Machine.wakeBegin
  extract_lets banks t t1
  have ht : Keeps s₀ t := h.wrs.incMod
  have ht1 : Keeps s₀ t1 := by
    unfold t1
    refine .foldl ht fun t x hu => ?_
    split
    · split
      · exact hu.setByte
      · exact hu
    · exact hu
  exact ht1.wr

theorem Keeps.wake (h : Keeps s₀ s) {code : ℕ} {flips : List (Fin 64 × BitVec 24 × BitVec 8)} : Keeps s₀ (wake s code flips) := by
  conv in Machine.wake => delta Machine.wake
  extract_lets +onlyGivenNames t
  have ht : Keeps s₀ t := h.wakeBegin
  clear_value t
  apply ht.elim
  intro t ht
  split
  · exact ht
  · rename_i p _
    have hr : Keeps s₀ (Machine.reapplyImage t p).1 := ht.reapplyImage
    extract_lets banks
    split
    rename_i u img e
    rw [e] at hr
    exact .ite (Keeps.wakeRestore hr) (Keeps.warmReset hr)

theorem Keeps.runDeferred (h : Keeps s₀ s) {x : Deferred} : Keeps s₀ (runDeferred s x) := by
  unfold Machine.runDeferred
  split
  · exact h.warmReset
  · exact h.faceRstRun
  · exact h.hStep
  · exact h.dpsReset
  · exact .ite h.deepEnter h

theorem Keeps.settleN (h : Keeps s₀ s) {k : ℕ} : Keeps s₀ (settleN k s) := by
  induction k generalizing s with
  | zero => exact h.rest
  | succ k ih =>
    unfold Machine.settleN
    split
    · exact h
    · exact ih h.rest.runDeferred

theorem Keeps.settle (h : Keeps s₀ s) : Keeps s₀ (settle s) := h.settleN

theorem Keeps.directWrite (h : Keeps s₀ s) {a v : ℕ} : Keeps s₀ (directWrite s a v) := by
  conv in Machine.directWrite => delta Machine.directWrite
  dsimp only
  exact h.rest.busWrite.rest.settle.rest

/-! ## Machine/HewerRows.lean: commands of a Hewer -/

theorem Keeps.hewerOp (h : Keeps s₀ s) {n : ℕ} {i : HInstr} : Keeps s₀ (hewerOp s n i) := h.guardS h.calm.hRun.settle

theorem Keeps.hewerIllegal (h : Keeps s₀ s) {n : ℕ} : Keeps s₀ (hewerIllegal s n) := h.guardS h.calm.hTrap.settle

theorem Keeps.execAdd (h : Keeps s₀ s) {n : Fin 18} {d z v : Fin 64} : KeepsOut s₀ (execAdd n d z v s) := h.hewerOp.next

theorem Keeps.execSub (h : Keeps s₀ s) {n : Fin 18} {d z v : Fin 64} : KeepsOut s₀ (execSub n d z v s) := h.hewerOp.next

theorem Keeps.execAnd (h : Keeps s₀ s) {n : Fin 18} {d z v : Fin 64} : KeepsOut s₀ (execAnd n d z v s) := h.hewerOp.next

theorem Keeps.execOr (h : Keeps s₀ s) {n : Fin 18} {d z v : Fin 64} : KeepsOut s₀ (execOr n d z v s) := h.hewerOp.next

theorem Keeps.execXor (h : Keeps s₀ s) {n : Fin 18} {d z v : Fin 64} : KeepsOut s₀ (execXor n d z v s) := h.hewerOp.next

theorem Keeps.execShl (h : Keeps s₀ s) {n : Fin 18} {d z v : Fin 64} : KeepsOut s₀ (execShl n d z v s) := h.hewerOp.next

theorem Keeps.execShr (h : Keeps s₀ s) {n : Fin 18} {d z v : Fin 64} : KeepsOut s₀ (execShr n d z v s) := h.hewerOp.next

theorem Keeps.execSra (h : Keeps s₀ s) {n : Fin 18} {d z v : Fin 64} : KeepsOut s₀ (execSra n d z v s) := h.hewerOp.next

theorem Keeps.execMin (h : Keeps s₀ s) {n : Fin 18} {d z v : Fin 64} : KeepsOut s₀ (execMin n d z v s) := h.hewerOp.next

theorem Keeps.execMax (h : Keeps s₀ s) {n : Fin 18} {d z v : Fin 64} : KeepsOut s₀ (execMax n d z v s) := h.hewerOp.next

theorem Keeps.execAdd16x2 (h : Keeps s₀ s) {n : Fin 18} {half sat : Bool} {d z v : Fin 64} : KeepsOut s₀ (execAdd16x2 n half sat d z v s) :=
  h.hewerOp.next

theorem Keeps.execSub16x2 (h : Keeps s₀ s) {n : Fin 18} {half sat : Bool} {d z v : Fin 64} : KeepsOut s₀ (execSub16x2 n half sat d z v s) :=
  h.hewerOp.next

theorem Keeps.execConj (h : Keeps s₀ s) {n : Fin 18} {d z : Fin 64} : KeepsOut s₀ (execConj n d z s) := h.hewerOp.next

theorem Keeps.execSwaph (h : Keeps s₀ s) {n : Fin 18} {d z : Fin 64} : KeepsOut s₀ (execSwaph n d z s) := h.hewerOp.next

theorem Keeps.execAddi (h : Keeps s₀ s) {n : Fin 18} {d z : Fin 64} {imm : BitVec 12} : KeepsOut s₀ (execAddi n d z imm s) := h.hewerOp.next

theorem Keeps.execMovi (h : Keeps s₀ s) {n : Fin 18} {d : Fin 64} {imm : BitVec 18} : KeepsOut s₀ (execMovi n d imm s) := h.hewerOp.next

theorem Keeps.execMovhi (h : Keeps s₀ s) {n : Fin 18} {d : Fin 64} {imm : BitVec 18} : KeepsOut s₀ (execMovhi n d imm s) := h.hewerOp.next

theorem Keeps.execCmp (h : Keeps s₀ s) {n : Fin 18} {z v : Fin 64} : KeepsOut s₀ (execCmp n z v s) := h.hewerOp.next

theorem Keeps.execExp (h : Keeps s₀ s) {n : Fin 18} {d z : Fin 64} : KeepsOut s₀ (execExp n d z s) := h.hewerOp.next

theorem Keeps.execExpm (h : Keeps s₀ s) {n : Fin 18} {d z v : Fin 64} : KeepsOut s₀ (execExpm n d z v s) := h.hewerOp.next

theorem Keeps.execHist (h : Keeps s₀ s) {n : Fin 18} {sat : Bool} {d z v : Fin 64} : KeepsOut s₀ (execHist n sat d z v s) := h.hewerOp.next

theorem Keeps.execMfs (h : Keeps s₀ s) {n : Fin 18} {d : Fin 64} {idx : BitVec 12} : KeepsOut s₀ (execMfs n d idx s) := h.hewerOp.next

theorem Keeps.execMts (h : Keeps s₀ s) {n : Fin 18} {z : Fin 64} {idx : BitVec 12} : KeepsOut s₀ (execMts n z idx s) := h.hewerOp.next

theorem Keeps.execMac2 (h : Keeps s₀ s) {n : Fin 18} {sat : Bool} {a : Fin 4} {z v : Fin 64} {neg : Bool} :
    KeepsOut s₀ (execMac2 n sat a z v neg s) :=
  h.hewerOp.next

theorem Keeps.execCmac (h : Keeps s₀ s) {n : Fin 18} {sat : Bool} {a : Fin 4} {z v : Fin 64} {neg : Bool} :
    KeepsOut s₀ (execCmac n sat a z v neg s) :=
  h.hewerOp.next

theorem Keeps.execCmacj (h : Keeps s₀ s) {n : Fin 18} {sat : Bool} {a : Fin 4} {z v : Fin 64} {neg : Bool} :
    KeepsOut s₀ (execCmacj n sat a z v neg s) :=
  h.hewerOp.next

theorem Keeps.execCmadd (h : Keeps s₀ s) {n : Fin 18} {sat : Bool} {a : Fin 4} {z v w : Fin 64} {neg : Bool} :
    KeepsOut s₀ (execCmadd n sat a z v w neg s) :=
  h.hewerOp.next

theorem Keeps.execCmaddj (h : Keeps s₀ s) {n : Fin 18} {sat : Bool} {a : Fin 4} {z v w : Fin 64} {neg : Bool} :
    KeepsOut s₀ (execCmaddj n sat a z v w neg s) :=
  h.hewerOp.next

theorem Keeps.execAset (h : Keeps s₀ s) {n : Fin 18} {a : Fin 4} {z : Fin 64} : KeepsOut s₀ (execAset n a z s) := h.hewerOp.next

theorem Keeps.execAclr (h : Keeps s₀ s) {n : Fin 18} {a : Fin 4} : KeepsOut s₀ (execAclr n a s) := h.hewerOp.next

theorem Keeps.execAshr (h : Keeps s₀ s) {n : Fin 18} {sat : Bool} {a : Fin 4} {sh : BitVec 6} : KeepsOut s₀ (execAshr n sat a sh s) :=
  h.hewerOp.next

theorem Keeps.execExtr (h : Keeps s₀ s) {n : Fin 18} {sat : Bool} {d : Fin 64} {a : Fin 4} {sh : BitVec 6} : KeepsOut s₀ (execExtr n sat d a sh s) :=
  h.hewerOp.next

theorem Keeps.execNorm (h : Keeps s₀ s) {n : Fin 18} {d : Fin 64} {a : Fin 4} : KeepsOut s₀ (execNorm n d a s) := h.hewerOp.next

theorem Keeps.execLdw (h : Keeps s₀ s) {n : Fin 18} {d : Fin 64} {p : Fin 8} {upd : Fin 4} {off : BitVec 13} :
    KeepsOut s₀ (execLdw n d p upd off s) :=
  h.hewerOp.next

theorem Keeps.execLdd (h : Keeps s₀ s) {n : Fin 18} {d : Fin 64} {p : Fin 8} {upd : Fin 4} {off : BitVec 13} :
    KeepsOut s₀ (execLdd n d p upd off s) :=
  (Keeps.ite h.hewerIllegal h.hewerOp).next

theorem Keeps.execLdh (h : Keeps s₀ s) {n : Fin 18} {d : Fin 64} {p : Fin 8} {upd : Fin 4} {off : BitVec 13} :
    KeepsOut s₀ (execLdh n d p upd off s) :=
  h.hewerOp.next

theorem Keeps.execLdb (h : Keeps s₀ s) {n : Fin 18} {d : Fin 64} {p : Fin 8} {upd : Fin 4} {off : BitVec 13} :
    KeepsOut s₀ (execLdb n d p upd off s) :=
  h.hewerOp.next

theorem Keeps.execStw (h : Keeps s₀ s) {n : Fin 18} {d : Fin 64} {p : Fin 8} {upd : Fin 4} {off : BitVec 13} :
    KeepsOut s₀ (execStw n d p upd off s) :=
  h.hewerOp.next

theorem Keeps.execStd (h : Keeps s₀ s) {n : Fin 18} {d : Fin 64} {p : Fin 8} {upd : Fin 4} {off : BitVec 13} :
    KeepsOut s₀ (execStd n d p upd off s) :=
  (Keeps.ite h.hewerIllegal h.hewerOp).next

theorem Keeps.execSth (h : Keeps s₀ s) {n : Fin 18} {d : Fin 64} {p : Fin 8} {upd : Fin 4} {off : BitVec 13} :
    KeepsOut s₀ (execSth n d p upd off s) :=
  h.hewerOp.next

theorem Keeps.execStb (h : Keeps s₀ s) {n : Fin 18} {d : Fin 64} {p : Fin 8} {upd : Fin 4} {off : BitVec 13} :
    KeepsOut s₀ (execStb n d p upd off s) :=
  h.hewerOp.next

theorem Keeps.execSetp (h : Keeps s₀ s) {n : Fin 18} {sel u : Fin 64} : KeepsOut s₀ (execSetp n sel u s) := by
  refine Keeps.next ?_
  split
  · exact h.hewerOp
  · exact h.hewerIllegal

theorem Keeps.execGetp (h : Keeps s₀ s) {n : Fin 18} {d sel : Fin 64} : KeepsOut s₀ (execGetp n d sel s) := by
  refine Keeps.next ?_
  split
  · exact h.hewerOp
  · exact h.hewerIllegal

theorem Keeps.execPaddi (h : Keeps s₀ s) {n : Fin 18} {p : Fin 8} {imm : BitVec 12} : KeepsOut s₀ (execPaddi n p imm s) := h.hewerOp.next

theorem Keeps.execBr (h : Keeps s₀ s) {n : Fin 18} {off : BitVec 24} : KeepsOut s₀ (execBr n off s) := h.hewerOp.next

theorem Keeps.execBcc (h : Keeps s₀ s) {n : Fin 18} {c : Fin 16} {off : BitVec 20} : KeepsOut s₀ (execBcc n c off s) := by
  refine Keeps.next ?_
  split
  · exact h.hewerOp
  · exact h.hewerIllegal

theorem Keeps.execCall (h : Keeps s₀ s) {n : Fin 18} {off : BitVec 24} : KeepsOut s₀ (execCall n off s) := h.hewerOp.next

theorem Keeps.execJr (h : Keeps s₀ s) {n : Fin 18} {z : Fin 64} : KeepsOut s₀ (execJr n z s) := h.hewerOp.next

theorem Keeps.execLoop (h : Keeps s₀ s) {n : Fin 18} {l : Fin 2} {z : Fin 64} {off : BitVec 16} : KeepsOut s₀ (execLoop n l z off s) :=
  h.hewerOp.next

theorem Keeps.execLoopr (h : Keeps s₀ s) {n : Fin 18} {l : Fin 2} {z : Fin 64} {off : BitVec 16} : KeepsOut s₀ (execLoopr n l z off s) :=
  h.hewerOp.next

theorem Keeps.execReti (h : Keeps s₀ s) {n : Fin 18} : KeepsOut s₀ (execReti n s) := h.hewerOp.next

theorem Keeps.execNop (h : Keeps s₀ s) {n : Fin 18} : KeepsOut s₀ (execNop n s) := h.hewerOp.next

theorem Keeps.execWait (h : Keeps s₀ s) {n : Fin 18} : KeepsOut s₀ (execWait n s) := h.hewerOp.next

theorem Keeps.execEi (h : Keeps s₀ s) {n : Fin 18} : KeepsOut s₀ (execEi n s) := h.hewerOp.next

theorem Keeps.execDi (h : Keeps s₀ s) {n : Fin 18} : KeepsOut s₀ (execDi n s) := h.hewerOp.next

theorem Keeps.execSync (h : Keeps s₀ s) {n : Fin 18} : KeepsOut s₀ (execSync n s) := h.hewerOp.next

theorem Keeps.execTrap (h : Keeps s₀ s) {n : Fin 18} : KeepsOut s₀ (execTrap n s) := h.hewerOp.next

theorem Keeps.execBkpt (h : Keeps s₀ s) {n : Fin 18} : KeepsOut s₀ (execBkpt n s) := h.hewerOp.next

theorem Keeps.execPostedWriteStatus (h : Keeps s₀ s) {n : Fin 18} : KeepsOut s₀ (execPostedWriteStatus n s) := (h.guardS h.postedReturn).next

theorem Keeps.execInterruptEntry (h : Keeps s₀ s) {n : Fin 18} : KeepsOut s₀ (execInterruptEntry n s) := by
  unfold Machine.execInterruptEntry
  refine .next (.guardS h ?_)
  split
  · exact h.irqEnter
  · exact h

theorem Keeps.execHwTimer (h : Keeps s₀ s) {n : Fin 18} : KeepsOut s₀ (execHwTimer n s) := (h.guardS h.raiseIrq).next

theorem Keeps.execWatchdogWarning (h : Keeps s₀ s) {n : Fin 18} : KeepsOut s₀ (execWatchdogWarning n s) := (h.guardS h.setHw.raiseIrq).next

theorem Keeps.execWatchdog (h : Keeps s₀ s) {n : Fin 18} : KeepsOut s₀ (execWatchdog n s) := (h.guardS h.calm.hTrap.settle).next

theorem Keeps.execKick (h : Keeps s₀ s) {n : Fin 18} : KeepsOut s₀ (execKick n s) := (h.guardS h.directWrite).next

theorem Keeps.execHewerRun (h : Keeps s₀ s) {n : Fin 18} {run : Bool} : KeepsOut s₀ (execHewerRun n run s) := (h.guardS h.directWrite).next

theorem Keeps.execHewerReset (h : Keeps s₀ s) {n : Fin 18} : KeepsOut s₀ (execHewerReset n s) := (h.guardS h.directWrite).next

theorem Keeps.execHewerStep (h : Keeps s₀ s) {n : Fin 18} : KeepsOut s₀ (execHewerStep n s) := (h.guardS h.directWrite).next

theorem Keeps.execHwMboxIn (h : Keeps s₀ s) {n : Fin 18} {value : Word} : KeepsOut s₀ (execHwMboxIn n value s) := (h.guardS h.directWrite).next

theorem Keeps.execProgramMemoryWrite (h : Keeps s₀ s) {n : Fin 18} {w : Fin 16384} {value : Word} :
    KeepsOut s₀ (execProgramMemoryWrite n w value s) :=
  (h.guardS h.directWrite).next

theorem Keeps.execOverlayStart (h : Keeps s₀ s) {n : Fin 18} {out : Bool} {len : BitVec 17} : KeepsOut s₀ (execOverlayStart n out len s) :=
  (h.guardS h.directWrite).next

theorem Keeps.execOverlayDone (h : Keeps s₀ s) {n : Fin 18} : KeepsOut s₀ (execOverlayDone n s) := (h.guardS h.calm.ovlDone.settle).next

theorem Keeps.execAck (h : Keeps s₀ s) {f : Fin 16} : KeepsOut s₀ (execAck f s) := (h.guardS h.calm.hNearWrite.settle).next

theorem Keeps.execH16Restart (h : Keeps s₀ s) : KeepsOut s₀ (execH16Restart s) := (h.guardS h.logEvent.hewerReset).next

/-! ## Machine/Zcp.lean: the control protocol -/

theorem Keeps.replyUnknown (h : Keeps s₀ s) {r : Req} {op : ℕ} : Keeps s₀ (replyUnknown s r op) := h.send

theorem Keeps.reply (h : Keeps s₀ s) {r : Req} {op st : ℕ} {ws : List Word} : Keeps s₀ (reply s r op st ws) := by
  unfold Machine.reply
  split
  · exact h
  · exact h.sessUpd.send

theorem Keeps.tagFailed (h : Keeps s₀ s) {x : Session} : Keeps s₀ (tagFailed s x) := .ite h.incSat.sessUpd.sessionEnd h.incSat.sessUpd

theorem Keeps.intake (h : Keeps s₀ s) {r : Req} {op : ℕ} {payload : List ℕ} : KeepsIn s₀ (intake s r op payload) := by
  unfold Machine.intake
  split
  · exact h.replyUnknown
  · split
    · exact h.replyUnknown
    · split
      · exact h.tagFailed
      · extract_lets t u
        have ht : Keeps s₀ t := h.sessUpd
        split
        · exact ht.send
        · split
          · exact ht
          · split
            · exact ht.incSat
            · have hu : Keeps s₀ u := ht.sessUpd.pcCount
              split
              · exact hu.incSat.reply
              · split
                · exact hu.reply
                · exact hu

theorem Keeps.answer {r : Req} {op : ℕ} {out : Served} (h : Keeps s₀ out.1) : Keeps s₀ (answer r op out) := h.reply.settle.rest

/-- A request of a session: its body keeps the same. -/

theorem Keeps.zcp (h : Keeps s₀ s) {r : Req} {op : ℕ} {payload : List ℕ} {since : Since} {least : ℕ} {body : State → Session → Served}
    (k : ∀ t x, Keeps s₀ t → Keeps s₀ (body t x).1) : Keeps s₀ (zcp s r op payload since least body) := by
  unfold Machine.zcp
  split
  · exact h
  · have hi : KeepsIn s₀ (Machine.intake (Machine.received s r.port.val (48 + payload.length)) r op payload) := h.received.intake
    split
    · rename_i t e
      rw [e] at hi
      exact hi
    · rename_i t x e
      rw [e] at hi
      exact .ite (Keeps.reply hi).sessionEnd (.ite (Keeps.reply hi) (k _ x (Keeps.rest hi)).answer)

theorem Keeps.takeFree (h : Keeps s₀ s) {n : ℕ} : Keeps s₀ (takeFree s n).1 := by
  induction n generalizing s with
  | zero => exact h
  | succ n ih => exact ih h.tookFree

theorem Keeps.helloReply (h : Keeps s₀ s) {port id ver st : ℕ} {ws : List Word} : Keeps s₀ (helloReply s port id ver st ws) := h.send

theorem Keeps.helloEff (h : Keeps s₀ s) {port id : ℕ} {n : HelloIn} : Keeps s₀ (helloEff s port id n) := by
  conv in Machine.helloEff => delta Machine.helloEff
  dsimp only
  split
  · exact h.received.pcCount.helloReply
  · split
    · exact h.received.pcCount.helloReply
    · exact .ite h.received.pcCount.helloReply h.received.pcCount.takeFree.rest.helloReply

theorem Keeps.execHello (h : Keeps s₀ s) {n : Fin 2} {id : BitVec 64} {minMajor minMinor maxMajor maxMinor : BitVec 8} {nonce eph : List (BitVec 8)} :
    KeepsOut s₀ (execHello n id minMajor minMinor maxMajor maxMinor nonce eph s) :=
  (h.guardS h.helloEff).formed

theorem Keeps.authEff (h : Keeps s₀ s) {r : Req} {x : Session} {pub : List ℕ} {sig : ClientSig} : Keeps s₀ (authEff s r x pub sig) := by
  unfold Machine.authEff
  extract_lets dig
  split
  · exact h.reply
  · split
    · exact h.sessUpd.reply
    · exact h.reply.sessionEnd

theorem Keeps.execAuth (h : Keeps s₀ s) {r : Req} {pub : List (BitVec 8)} {sig : ClientSig} : KeepsOut s₀ (execAuth r pub sig s) := by
  refine (h.guardS ?_).formed
  have hi : KeepsIn s₀ (Machine.intake (Machine.received s r.port.val (48 + (payAuth pub sig).length)) r 2 (payAuth pub sig)) :=
    h.received.intake
  split
  · rename_i t e
    rw [e] at hi
    exact hi
  · rename_i t x e
    rw [e] at hi
    exact Keeps.authEff hi

theorem Keeps.readWords (h : Keeps s₀ s) {id a n : ℕ} {acc : List Word} : Keeps s₀ (readWords s id a n acc).1 := by
  induction n generalizing s a acc with
  | zero => exact h
  | succ n ih => exact .ite_fst h.busRead (ih h.busRead)

theorem Keeps.readBlock (h : Keeps s₀ s) {id a n : ℕ} : Keeps s₀ (readBlock s id a n).1 := by
  unfold Machine.readBlock
  have ht : Keeps s₀ (Machine.readWords s id a n []).1 := h.readWords
  split
  rename_i t st ws e
  rw [e] at ht
  have hu : Keeps s₀ t := ht
  split
  · dsimp only
    exact hu.setLatches
  · exact hu

theorem Keeps.writeWords (h : Keeps s₀ s) {id a done : ℕ} {ws : List Word} : Keeps s₀ (writeWords s id a done ws).1 := by
  induction ws generalizing s a done with
  | nil => exact h
  | cons w ws ih => exact .ite_fst h.busWrite (ih h.busWrite)

theorem Keeps.execRead (h : Keeps s₀ s) {r : Req} {addr : BitVec 32} : KeepsOut s₀ (execRead r addr s) := (h.zcp fun _ _ ht => ht.busRead).next

theorem Keeps.execWrite (h : Keeps s₀ s) {r : Req} {addr : BitVec 32} {value : Word} : KeepsOut s₀ (execWrite r addr value s) :=
  (h.zcp fun _ _ ht => ht.busWrite).next

theorem Keeps.execReadBlock (h : Keeps s₀ s) {r : Req} {addr : BitVec 32} {count : BitVec 16} : KeepsOut s₀ (execReadBlock r addr count s) := by
  refine (h.zcp fun t x ht => ?_).next
  split
  · have hu : Keeps s₀ (Machine.readBlock t x.id addr.toNat count.toNat).1 := ht.readBlock
    split
    rename_i e
    rw [e] at hu
    exact hu
  · exact ht

theorem Keeps.execWriteBlock (h : Keeps s₀ s) {r : Req} {addr : BitVec 32} {values : List Word} :
    KeepsOut s₀ (execWriteBlock r addr values s) :=
  (Keeps.ite (h.guardS h.incSat) (h.zcp fun _ _ ht => .ite_fst ht.writeWords ht)).next

theorem Keeps.execAccessTimeout (h : Keeps s₀ s) {r : Req} {addr : BitVec 32} {value : Option Word} {landed : Bool} :
    KeepsOut s₀ (execAccessTimeout r addr value landed s) := by
  refine (h.zcp fun t x ht => ?_).next
  extract_lets a ws u
  split
  split
  · dsimp only
    exact ht.accRearm.accessFailed
  · have hu : Keeps s₀ u := by
      unfold u
      split
      · exact .ite ht.busWrite ht
      · exact ht
    dsimp only
    exact hu.accessFailed.logEvent

theorem Keeps.execSnap (h : Keeps s₀ s) {r : Req} : KeepsOut s₀ (execSnap r s) := (h.zcp fun _ _ ht => ht.snapEff).next

theorem Keeps.execTallyFreeze (h : Keeps s₀ s) {r : Req} : KeepsOut s₀ (execTallyFreeze r s) := (h.zcp fun _ _ ht => ht.freezeEff).next

theorem Keeps.execTallyThaw (h : Keeps s₀ s) {r : Req} : KeepsOut s₀ (execTallyThaw r s) := (h.zcp fun _ _ ht => ht.thawEff).next

theorem Keeps.execCaptureArm (h : Keeps s₀ s) {r : Req} {mask : BitVec 8} : KeepsOut s₀ (execCaptureArm r mask s) :=
  (h.zcp fun _ _ ht => .ite_fst ht ht.armEff).next

theorem Keeps.streamOpen (h : Keeps s₀ s) {x : Session} {i src index : ℕ} {consume : Bool} {credit : ℕ} :
    Keeps s₀ (streamOpen s x i src index consume credit) :=
  (Keeps.ite h.wr h).wrs.setStream.rest

theorem Keeps.execStreamOpen (h : Keeps s₀ s) {r : Req} {src index : BitVec 8} {consume : Bool} {credit : BitVec 16} :
    KeepsOut s₀ (execStreamOpen r src index consume credit s) := by
  refine (h.zcp fun t x ht => ?_).next
  split
  · exact ht
  · extract_lets st
    split
    · exact ht
    · split
      · exact ht.streamOpen
      · exact ht

theorem Keeps.execStreamClose (h : Keeps s₀ s) {r : Req} {stream : BitVec 8} : KeepsOut s₀ (execStreamClose r stream s) :=
  (h.zcp fun _ _ ht => .ite_fst ht (.ite_fst ht ht.streamClose)).next

theorem Keeps.execSessionTimeout (h : Keeps s₀ s) {session : BitVec 64} : KeepsOut s₀ (execSessionTimeout session s) :=
  (h.guardS h.sessionEnd).next

/-! ## Machine/OpRun.lean: operations that run -/

theorem startStatus_calibrate {s : State} {k : OpKind} (e : startStatus s k = stOk) : k.NamesOk := by
  rintro f lanes kind rfl
  by_contra hf
  simp [startStatus, not_lt.mp hf] at e

theorem Keeps.opStart (h : Keeps s₀ s) {x : Session} {k : OpKind} : Keeps s₀ (opStart s x k).1 := by
  unfold Machine.opStart
  split
  · exact h
  · split
    · exact h
    · split
      · exact h
      · rename_i e
        refine (h.kinds (l := s.ops ++ [{ handle := _, kind := _, session := _, priv := _ }]) fun w o ho => ?_).rest
        rcases List.mem_append.mp ho with ho | ho
        · exact (h.names w).kinds ho
        · rw [List.mem_singleton.mp ho]
          exact startStatus_calibrate (not_not.mp e)

theorem Keeps.opRequest (h : Keeps s₀ s) {r : Req} {since : Since} {least : ℕ} {k : OpKind} : Keeps s₀ (opRequest s r since least k) :=
  h.zcp fun _ _ ht => ht.opStart

theorem Keeps.execCalibrate (h : Keeps s₀ s) {r : Req} {face : BitVec 8} {lanes : BitVec 16} {kind : BitVec 8} :
    KeepsOut s₀ (execCalibrate r face lanes kind s) :=
  h.opRequest.next

theorem Keeps.execAssayRun (h : Keeps s₀ s) {r : Req} {face : BitVec 8} {datapaths : BitVec 16} : KeepsOut s₀ (execAssayRun r face datapaths s) :=
  h.opRequest.next

theorem Keeps.execScrubFull (h : Keeps s₀ s) {r : Req} {target : BitVec 8} : KeepsOut s₀ (execScrubFull r target s) := h.opRequest.next

theorem Keeps.execCaptureDrain (h : Keeps s₀ s) {r : Req} {channel : BitVec 8} : KeepsOut s₀ (execCaptureDrain r channel s) := h.opRequest.next

theorem Keeps.execPlanLoad (h : Keeps s₀ s) {r : Req} {source : BitVec 8} : KeepsOut s₀ (execPlanLoad r source s) := h.opRequest.next

theorem Keeps.execFlashWrite (h : Keeps s₀ s) {r : Req} {slot : BitVec 8} {force : Bool} : KeepsOut s₀ (execFlashWrite r slot force s) :=
  h.opRequest.next

theorem Keeps.execDdrTest (h : Keeps s₀ s) {r : Req} {channels pattern : BitVec 8} : KeepsOut s₀ (execDdrTest r channels pattern s) :=
  h.opRequest.next

theorem Keeps.execPlanFloorBurn (h : Keeps s₀ s) {r : Req} {value : BitVec 8} : KeepsOut s₀ (execPlanFloorBurn r value s) := h.opRequest.next

theorem Keeps.execLimitsBurn (h : Keeps s₀ s) {r : Req} : KeepsOut s₀ (execLimitsBurn r s) := h.opRequest.next

theorem Keeps.execKeyWrite (h : Keeps s₀ s) {r : Req} {slot : BitVec 8} {digest : BitVec 384} : KeepsOut s₀ (execKeyWrite r slot digest s) :=
  h.opRequest.next

theorem Keeps.execKeyRevoke (h : Keeps s₀ s) {r : Req} {slot : BitVec 8} : KeepsOut s₀ (execKeyRevoke r slot s) := h.opRequest.next

theorem Keeps.execFaceReplan (h : Keeps s₀ s) {r : Req} {face source : BitVec 8} : KeepsOut s₀ (execFaceReplan r face source s) :=
  h.opRequest.next

theorem Keeps.flashErase (h : Keeps s₀ s) {a n : ℕ} : Keeps s₀ (flashErase s a n) := h.mem (memOk_flashErase s a n) rfl

theorem Keeps.flashPut (h : Keeps s₀ s) {a : ℕ} {bs : List ℕ} : Keeps s₀ (flashPut s a bs) := h.mem (memOk_flashPut s a bs) rfl

theorem Keeps.stageGet (h : Keeps s₀ s) {n : ℕ} : Keeps s₀ (stageGet s n).1 := by
  have hr {l : List ℕ} : Keeps s₀ (l.foldl (fun (acc : State × List (List ℕ)) w =>
      ((Machine.memReadWord acc.1 2 0 w).1, leBytes 8 (Machine.memReadWord acc.1 2 0 w).2.1 :: acc.2)) (s, [])).1 :=
    .foldl_fst h fun _ _ ht => ht.memReadWord
  exact hr

theorem Keeps.stagePut (h : Keeps s₀ s) {k w : ℕ} {bs : List ℕ} : Keeps s₀ (stagePut s k w bs) := by
  induction k generalizing s w bs with
  | zero => exact h
  | succ k ih =>
    cases bs with
    | nil => exact h
    | cons b bs => exact ih h.memWriteWord

theorem Keeps.stageLen (h : Keeps s₀ s) : Keeps s₀ (stageLen s).1 := by
  conv in Machine.stageLen => delta Machine.stageLen
  dsimp only
  exact h.stageGet

theorem Keeps.stageImage (h : Keeps s₀ s) : Keeps s₀ (stageImage s).1 := by
  conv in Machine.stageImage => delta Machine.stageImage
  dsimp only
  exact h.stageLen.stageGet

theorem Keeps.claimFor (h : Keeps s₀ s) {n : ℕ} {staging : Bool} : Keeps s₀ (claimFor s n staging).1 := by
  conv in Machine.claimFor => delta Machine.claimFor
  split
  · exact .ite_fst h h.claimTake
  · exact .ite_fst h.claimTake h
  · exact h

theorem Keeps.planRest (h : Keeps s₀ s) : Keeps s₀ (planRest s) := h.wrs

theorem Keeps.planOpEnd (h : Keeps s₀ s) {n : ℕ} {st : OpState} {result : ℕ} : Keeps s₀ (planOpEnd s n st result) := h.planRest.opEnd

theorem Keeps.planBegin (h : Keeps s₀ s) {o : LongOp} {source : ℕ} {face : Option ℕ} : Keeps s₀ (planBegin s o source face) := by
  conv in Machine.planBegin => delta Machine.planBegin
  dsimp only
  split
  · exact h.claimFor.planOpEnd
  · split
    · refine .opUpd ?_
      split
      · exact h.claimFor.wrs
      · exact h.claimFor.wr
    · split
      · exact h.claimFor.planFailed.planOpEnd
      · refine .stagePut ?_
        split
        · exact h.claimFor.wrs
        · exact h.claimFor.wr

theorem Keeps.flashBegin (h : Keeps s₀ s) {o : LongOp} {slot : ℕ} : Keeps s₀ (flashBegin s o slot) := by
  conv in Machine.flashBegin => delta Machine.flashBegin
  dsimp only
  exact .ite h.claimFor.opEnd (.ite h.claimFor.stageLen.opEnd h.claimFor.stageLen.flashErase.slotsShow)

theorem Keeps.ddrTestBegin (h : Keeps s₀ s) {chans : ℕ} : Keeps s₀ (ddrTestBegin s chans) :=
  (h.streamsClose.memClear.rest.archShow.foldl fun _ _ ht => ht.wr).logEvent

theorem bitsOf_lt {n m p : ℕ} (h : p ∈ bitsOf n m) : p < n := List.mem_range.mp (List.mem_filter.mp h).1

theorem Keeps.opBegin (h : Keeps s₀ s) {o : LongOp} (ho : NamesWf s₀ → o.kind.NamesOk) : Keeps s₀ (opBegin s o) := by
  unfold Machine.opBegin
  split
  · rename_i f lanes kind e
    extract_lets ps
    have hps : ∀ p ∈ ps, p ≤ 9 := fun p hp => by
      unfold ps at hp
      split at hp
      · exact (List.mem_singleton.mp hp).le
      · exact (bitsOf_lt hp).le
    refine h.foldl_mem fun t p hp ht => ?_
    have hu : Keeps s₀ (Machine.calPut t { f := f, p := p, kind := kind, op := o.handle }) :=
      ht.calPut fun w => ⟨ho w f lanes kind e, hps p hp, by simp⟩
    exact .ite hu.wrs hu
  · exact h.foldl fun _ _ ht => ht.assayPut
  · exact h
  · exact .ite h h.opEnd
  · exact h.planBegin
  · exact h.planBegin
  · exact h.flashBegin
  · exact h.ddrTestBegin
  · exact .ite h.opUpd.rest h.opEnd

theorem Keeps.execOperationDequeued (h : Keeps s₀ s) {n : BitVec 16} : KeepsOut s₀ (execOperationDequeued n s) := by
  refine (h.guardS ?_).next
  split
  · exact h
  · rename_i o e
    split
    · extract_lets t
      have ht : Keeps s₀ t := h.rest.opUpd
      exact (ht.opBegin fun w => (h.names w).op e).settle.rest
    · exact h

theorem Keeps.opDiscard (h : Keeps s₀ s) {o : LongOp} : Keeps s₀ (opDiscard s o) := by
  unfold Machine.opDiscard
  extract_lets n mine t t1 t2 t3 t4
  have ht : Keeps s₀ t := h.foldl fun _ _ hu => hu.calRunEnd
  have ht1 : Keeps s₀ t1 := ht.items fun w _ hy => (ht.names w).items (List.mem_filter.mp hy).1
  have ht2 : Keeps s₀ t2 := ht1.foldl fun _ _ hu => .ite hu hu.wr
  have ht4 : Keeps s₀ t4 := (ht2.foldl fun _ _ hu => .ite hu.bistRelease hu).rest
  split
  · exact .ite ht4 ht4.planRest
  · exact .ite ht4 ht4.planRest
  · exact ht4

theorem Keeps.opCancelled (h : Keeps s₀ s) {o : LongOp} : Keeps s₀ (opCancelled s o) := h.opDiscard.opEndAt

/-- A command on a handle: what it does with an operation in the table keeps the same. -/
theorem Keeps.onHandle (h : Keeps s₀ s) {x : Session} {n : ℕ} {f : State → LongOp → State × ℕ}
    (k : ∀ o, s.op n = some o → Keeps s₀ (f s o).1) : Keeps s₀ (onHandle s x n f).1 := by
  unfold Machine.onHandle
  split
  · exact h
  · rename_i o e
    split
    · exact h
    · split
      · exact h
      · exact k o e

theorem Keeps.suspendEff (h : Keeps s₀ s) {o : LongOp} : Keeps s₀ (suspendEff s o).1 := by
  conv in Machine.suspendEff => delta Machine.suspendEff
  split
  · exact h.opUpd
  · exact .ite_fst h.opUpd h
  · exact h
  · exact h

theorem Keeps.resumeEff (h : Keeps s₀ s) {o : LongOp} (ho : NamesWf s₀ → o.kind.NamesOk) : Keeps s₀ (resumeEff s o).1 := by
  unfold Machine.resumeEff
  split
  · exact h
  · split
    · extract_lets o' rest other
      refine h.kinds fun w y hy => ?_
      have hrest : ∀ x ∈ rest, x.kind.NamesOk := fun x hx => (h.names w).kinds (List.mem_filter.mp hx).1
      rcases List.mem_append.mp hy with hy | hy
      · exact hrest y (List.takeWhile_subset _ hy)
      · rcases List.mem_cons.mp hy with rfl | hy
        · exact ho w
        · exact hrest y (List.dropWhile_subset _ hy)
    · exact h.opUpd

theorem Keeps.cancelEff (h : Keeps s₀ s) {o : LongOp} : Keeps s₀ (cancelEff s o).1 := by
  conv in Machine.cancelEff => delta Machine.cancelEff
  split
  · exact h.opCancelled
  · exact h.opCancelled
  · exact .ite_fst h (h.opUpd.foldl fun _ _ ht => ht.rotationAbandon)
  · exact .ite_fst h (h.opUpd.foldl fun _ _ ht => ht.rotationAbandon)
  · exact h

theorem Keeps.execOpSuspend (h : Keeps s₀ s) {r : Req} {n : BitVec 16} : KeepsOut s₀ (execOpSuspend r n s) :=
  (h.zcp fun _ _ ht => ht.onHandle fun _ _ => ht.suspendEff).next

theorem Keeps.execOpResume (h : Keeps s₀ s) {r : Req} {n : BitVec 16} : KeepsOut s₀ (execOpResume r n s) :=
  (h.zcp fun _ _ ht => ht.onHandle fun _ e => ht.resumeEff fun w => (ht.names w).op e).next

theorem Keeps.execOpCancel (h : Keeps s₀ s) {r : Req} {n : BitVec 16} : KeepsOut s₀ (execOpCancel r n s) :=
  (h.zcp fun _ _ ht => ht.onHandle fun _ _ => ht.cancelEff).next

/-- A handle is freed. -/
theorem Keeps.freeHandle (h : Keeps s₀ s) {p : LongOp → Bool} : Keeps s₀ { s with ops := s.ops.filter p } :=
  h.kinds fun w _ ho => (h.names w).kinds (List.mem_filter.mp ho).1

theorem Keeps.execOpStatus (h : Keeps s₀ s) {r : Req} {n : BitVec 16} : KeepsOut s₀ (execOpStatus r n s) := by
  refine (h.zcp fun t x ht => ?_).next
  split
  · exact ht
  · exact .ite ht.freeHandle ht

theorem Keeps.execHandleExpiry (h : Keeps s₀ s) {n : BitVec 16} : KeepsOut s₀ (execHandleExpiry n s) := (h.guardS h.freeHandle).next

theorem Keeps.execOperationSuspended (h : Keeps s₀ s) {n progress : BitVec 16} : KeepsOut s₀ (execOperationSuspended n progress s) := by
  unfold Machine.execOperationSuspended
  refine .next (.guardS h ?_)
  split
  · exact h
  · exact .ite h.opUpd h

theorem Keeps.planChecks (h : Keeps s₀ s) {o : LongOp} {source : ℕ} {face : Option ℕ} : Keeps s₀ (planChecks s o source face) := by
  conv in Machine.planChecks => delta Machine.planChecks
  dsimp only
  split
  · exact h.stageImage.planFailed.planOpEnd
  · split
    · exact h.stageImage.planPassed.wr.opUpd
    · exact h.stageImage.planPassed.assayAbandon.opUpd

theorem Keeps.planPhase (h : Keeps s₀ s) {o : LongOp} {source : ℕ} {face : Option ℕ} : Keeps s₀ (planPhase s o source face) := by
  unfold Machine.planPhase
  split
  · exact (Keeps.ite h.wr h).opUpd
  · exact h.planChecks
  · split
    · exact .ite h h.planApply.wr.planOpEnd.planAfter
    · exact .ite h.faceReplan.wr.planOpEnd h
    · exact h
  · exact h.wr.planOpEnd.planAfter

theorem Keeps.flashFinish (h : Keeps s₀ s) {o : LongOp} {slot : ℕ} {same : Bool} : Keeps s₀ (flashFinish s o slot same) := by
  conv in Machine.flashFinish => delta Machine.flashFinish
  dsimp only
  exact .ite h.stageLen.stageGet.flashErase.flashPut.flashPut.slotsShow.opEnd h.stageLen.stageGet.flashErase.flashPut.tookFree.slotsShow.opEnd

theorem Keeps.ddrTestFinish (h : Keeps s₀ s) {o : LongOp} {chans : ℕ} {errs : List (Fin 4 × BitVec 32 × Fin 3 × BitVec 8)} :
    Keeps s₀ (ddrTestFinish s o chans errs) :=
  .ite (h.foldl fun _ _ ht => ht.tookFree.memErr.incSat).opEnd (h.foldl fun _ _ ht => ht.tookFree.memErr.incSat).tookFree.opEnd

theorem Keeps.opFinish (h : Keeps s₀ s) {o : LongOp} {same : Bool} {errs : List (Fin 4 × BitVec 32 × Fin 3 × BitVec 8)} :
    Keeps s₀ (opFinish s o same errs) := by
  unfold Machine.opFinish
  split
  · exact .ite h h.opEnd
  · exact .ite h h.opEnd
  · exact .ite h h.scrubFullQuantum.opEnd
  · exact .ite h (.ite h.archAdd.opEnd h.opEnd)
  · exact h.planPhase
  · exact h.planPhase
  · exact h.flashFinish
  · exact h.ddrTestFinish
  · exact .ite h h.opEnd

theorem Keeps.execOperationEnd (h : Keeps s₀ s) {n : BitVec 16} {same : Bool} {errs : List (Fin 4 × BitVec 32 × Fin 3 × BitVec 8)} :
    KeepsOut s₀ (execOperationEnd n same errs s) := by
  unfold Machine.execOperationEnd
  refine .next (.guardS h ?_)
  split
  · exact h
  · split
    · exact h.rest.opFinish.settle.rest
    · exact (Keeps.ite h.rest h.rest.opCancelled).settle.rest
    · exact h.rest.settle.rest

theorem Keeps.execOtpRecordBurned (h : Keeps s₀ s) : KeepsOut s₀ (execOtpRecordBurned s) := by
  refine (h.guardS ?_).next
  extract_lets t
  have ht : Keeps s₀ t := h.burnDone
  exact .ite (ht.foldl fun _ _ hu => hu.limitsShow.limitsChanged) ht

/-! ## Machine/Ports.lean: control ports and time -/

theorem Keeps.execControlPortRateTry (h : Keeps s₀ s) {n : Fin 2} : KeepsOut s₀ (execControlPortRateTry n s) := (h.guardS h.rest).next

theorem Keeps.execControlPortLinkUp (h : Keeps s₀ s) {n : Fin 2} : KeepsOut s₀ (execControlPortLinkUp n s) := (h.guardS h.wrs.rest.liveFit).next

theorem Keeps.execControlPortLinkLoss (h : Keeps s₀ s) {n : Fin 2} : KeepsOut s₀ (execControlPortLinkLoss n s) := (h.guardS h.cpRestart).next

theorem Keeps.execPause (h : Keeps s₀ s) {n : Fin 2} {quanta : BitVec 16} : KeepsOut s₀ (execPause n quanta s) := (h.guardS h.wr).next

theorem Keeps.execPauseEnd (h : Keeps s₀ s) {n : Fin 2} : KeepsOut s₀ (execPauseEnd n s) := (h.guardS h.wr).next

theorem Keeps.dropFrame (h : Keeps s₀ s) {n : ℕ} : Keeps s₀ (dropFrame s n) := .ite h.incSat h

theorem Keeps.answerFrame (h : Keeps s₀ s) {n op : ℕ} {ws : List Word} : Keeps s₀ (answerFrame s n op ws) := h.send

theorem Keeps.addrQuery (h : Keeps s₀ s) {n op : ℕ} {v6 : Bool} {a : ℕ} : Keeps s₀ (addrQuery s n op v6 a) :=
  h.guardS (.ite (Keeps.ite h.received h).answerFrame (Keeps.ite h.received h).dropFrame)

theorem Keeps.execArp (h : Keeps s₀ s) {n : Fin 2} {addr : BitVec 32} : KeepsOut s₀ (execArp n addr s) := h.addrQuery.next

theorem Keeps.execNeighbourSolicitation (h : Keeps s₀ s) {n : Fin 2} {addr : BitVec 128} : KeepsOut s₀ (execNeighbourSolicitation n addr s) :=
  h.addrQuery.next

theorem Keeps.execIcmpEcho (h : Keeps s₀ s) {n : Fin 2} {v6 : Bool} {addr : BitVec 128} {data : List Word} :
    KeepsOut s₀ (execIcmpEcho n v6 addr data s) := by
  refine (h.guardS ?_).next
  extract_lets t
  have ht : Keeps s₀ t := h.received
  exact .ite ht.answerFrame ht.dropFrame

theorem Keeps.execMalformed (h : Keeps s₀ s) {n : Fin 2} : KeepsOut s₀ (execMalformed n s) := (h.guardS h.dropFrame).next

/-- A message of the precision time protocol: its body keeps the same. -/
theorem Keeps.ptpMsg (h : Keeps s₀ s) {n len : ℕ} {domain : BitVec 8} {f : State → State} (k : ∀ t, Keeps s₀ t → Keeps s₀ (f t)) :
    Keeps s₀ (ptpMsg s n len domain f) :=
  h.guardS (.ite (k _ h.received) h.dropFrame)

theorem Keeps.ptpOffset (h : Keeps s₀ s) {t1 t2 : ℕ} : Keeps s₀ (ptpOffset s t1 t2) :=
  .ite (Keeps.ite h.wr.wr h.wr).incMod.rest.logEvent (Keeps.ite h.wr.wr h.wr).rest

theorem Keeps.execPtpSync (h : Keeps s₀ s) {n : Fin 2} {domain : BitVec 8} {id : BitVec 80} {twoStep : Bool} {origin : BitVec 64} :
    KeepsOut s₀ (execPtpSync n domain id twoStep origin s) :=
  (h.ptpMsg fun _ ht => .ite (.ite ht.rest ht.ptpOffset) ht).next

theorem Keeps.execPtpFollowUp (h : Keeps s₀ s) {n : Fin 2} {domain : BitVec 8} {id : BitVec 80} {origin : BitVec 64} :
    KeepsOut s₀ (execPtpFollowUp n domain id origin s) := by
  refine (h.ptpMsg fun t ht => ?_).next
  split
  · split
    · exact ht.ptpOffset
    · exact ht
  · exact ht

theorem Keeps.execPtpDelayResp (h : Keeps s₀ s) {n : Fin 2} {domain : BitVec 8} {id : BitVec 80} {sent received : BitVec 64} :
    KeepsOut s₀ (execPtpDelayResp n domain id sent received s) := by
  refine (h.ptpMsg fun t ht => ?_).next
  split
  · split
    · exact ht.rest
    · exact ht
  · exact ht

theorem Keeps.execPtpAnnounce (h : Keeps s₀ s) {n : Fin 2} {domain : BitVec 8} {id : BitVec 80} {rank : BitVec 176} :
    KeepsOut s₀ (execPtpAnnounce n domain id rank s) := by
  refine (h.ptpMsg fun t ht => ?_).next
  extract_lets x m heard
  split
  · exact ht
  · exact .ite ht.rest ht.wrs.rest

theorem Keeps.execPtpAnnounceTimeout (h : Keeps s₀ s) : KeepsOut s₀ (execPtpAnnounceTimeout s) := by
  unfold Machine.execPtpAnnounceTimeout
  refine .next (.guardS h ?_)
  split
  · exact h.wr.rest
  · exact h

theorem Keeps.execTimeLocked (h : Keeps s₀ s) : KeepsOut s₀ (execTimeLocked s) := (h.guardS h.wr).next

/-! ## Machine/RegRows.lean: commands that write a register -/

theorem Keeps.regWriteOut (h : Keeps s₀ s) {a v : ℕ} : KeepsOut s₀ (regWriteOut s a v) := (h.guardS h.directWrite).next

theorem Keeps.execPlanStageData (h : Keeps s₀ s) {value : Word} : KeepsOut s₀ (execPlanStageData value s) := h.regWriteOut

theorem Keeps.execPlanStagePtr (h : Keeps s₀ s) {ptr : BitVec 24} : KeepsOut s₀ (execPlanStagePtr ptr s) := h.regWriteOut

theorem Keeps.execPlanStageRelease (h : Keeps s₀ s) : KeepsOut s₀ (execPlanStageRelease s) := h.regWriteOut

theorem Keeps.execEqConvDone (h : Keeps s₀ s) {f : Fin 16} {d : Fin 9} : KeepsOut s₀ (execEqConvDone f d s) := h.regWriteOut

theorem Keeps.execEqConvFail (h : Keeps s₀ s) {f : Fin 16} {d : Fin 9} : KeepsOut s₀ (execEqConvFail f d s) := h.regWriteOut

theorem Keeps.execRestart (h : Keeps s₀ s) {f : Fin 16} {p : Fin 9} : KeepsOut s₀ (execRestart f p s) := h.regWriteOut

theorem Keeps.execModeEn (h : Keeps s₀ s) {f : Fin 16} {p : Fin 9} {value : Word} : KeepsOut s₀ (execModeEn f p value s) := h.regWriteOut

theorem Keeps.execSwapEq (h : Keeps s₀ s) {f : Fin 16} {d : Fin 9} : KeepsOut s₀ (execSwapEq f d s) := h.regWriteOut

theorem Keeps.execSwapMlse (h : Keeps s₀ s) {f : Fin 16} {d : Fin 9} : KeepsOut s₀ (execSwapMlse f d s) := h.regWriteOut

theorem Keeps.execGradientRelease (h : Keeps s₀ s) {f : Fin 16} {d : Fin 9} : KeepsOut s₀ (execGradientRelease f d s) := h.regWriteOut

theorem Keeps.execEqExpRangeRestart (h : Keeps s₀ s) {f : Fin 16} {d : Fin 9} : KeepsOut s₀ (execEqExpRangeRestart f d s) := h.regWriteOut

theorem Keeps.execLaneEffortCap (h : Keeps s₀ s) {f : Fin 16} {p : Fin 9} {cap : Fin 4} : KeepsOut s₀ (execLaneEffortCap f p cap s) :=
  h.regWriteOut

theorem Keeps.execCntCtrlClear (h : Keeps s₀ s) {f : Fin 16} {d : Fin 9} : KeepsOut s₀ (execCntCtrlClear f d s) := h.regWriteOut

theorem Keeps.execTxdApply (h : Keeps s₀ s) {f : Fin 16} {d : Fin 9} : KeepsOut s₀ (execTxdApply f d s) := h.regWriteOut

theorem Keeps.execOptTarget (h : Keeps s₀ s) {f : Fin 16} {target : Fin 8} : KeepsOut s₀ (execOptTarget f target s) := h.regWriteOut

theorem Keeps.execOptLaneAWrite (h : Keeps s₀ s) {f : Fin 16} {p : Fin 9} {value : Word} : KeepsOut s₀ (execOptLaneAWrite f p value s) :=
  h.regWriteOut

theorem Keeps.execOptLimWrite (h : Keeps s₀ s) {f : Fin 16} {b : Bool} {value : Word} : KeepsOut s₀ (execOptLimWrite f b value s) := h.regWriteOut

theorem Keeps.execHlRestart (h : Keeps s₀ s) {n : Fin 256} : KeepsOut s₀ (execHlRestart n s) := h.regWriteOut

theorem Keeps.execAdminUp (h : Keeps s₀ s) {n : Fin 128} {up : Bool} : KeepsOut s₀ (execAdminUp n up s) := h.regWriteOut

theorem Keeps.execPortRestart (h : Keeps s₀ s) {n : Fin 128} : KeepsOut s₀ (execPortRestart n s) := h.regWriteOut

theorem Keeps.execPortCounterClear (h : Keeps s₀ s) {n : Fin 128} : KeepsOut s₀ (execPortCounterClear n s) := h.regWriteOut

theorem Keeps.execGenEn (h : Keeps s₀ s) {at_ : PatAt} {chk en : Bool} : KeepsOut s₀ (execGenEn at_ chk en s) := h.regWriteOut

theorem Keeps.execInject (h : Keeps s₀ s) {at_ : PatAt} : KeepsOut s₀ (execInject at_ s) := h.regWriteOut

theorem Keeps.execPrbsClear (h : Keeps s₀ s) {at_ : PatAt} : KeepsOut s₀ (execPrbsClear at_ s) := h.regWriteOut

theorem Keeps.execRetrain (h : Keeps s₀ s) {f : Fin 16} {k : Fin 8} : KeepsOut s₀ (execRetrain f k s) := h.regWriteOut

theorem Keeps.execSeamCounterClear (h : Keeps s₀ s) {f : Fin 16} {k : Fin 8} : KeepsOut s₀ (execSeamCounterClear f k s) := h.regWriteOut

theorem Keeps.execRun (h : Keeps s₀ s) {f : Fin 16} {run : Bool} : KeepsOut s₀ (execRun f run s) := h.regWriteOut

theorem Keeps.execTapSwap (h : Keeps s₀ s) {f : Fin 16} : KeepsOut s₀ (execTapSwap f s) := h.regWriteOut

theorem Keeps.execTapRestart (h : Keeps s₀ s) {f : Fin 16} : KeepsOut s₀ (execTapRestart f s) := h.regWriteOut

theorem Keeps.execTapCoef (h : Keeps s₀ s) {f : Fin 16} {b : Fin 2} {i : Fin 64} {value : BitVec 16} : KeepsOut s₀ (execTapCoef f b i value s) :=
  h.regWriteOut

theorem Keeps.execArm (h : Keeps s₀ s) {c : Fin 4} : KeepsOut s₀ (execArm c s) := h.regWriteOut

theorem Keeps.execForce (h : Keeps s₀ s) {c : Fin 4} : KeepsOut s₀ (execForce c s) := h.regWriteOut

theorem Keeps.execStop (h : Keeps s₀ s) {c : Fin 4} : KeepsOut s₀ (execStop c s) := h.regWriteOut

theorem Keeps.execDiscard (h : Keeps s₀ s) {c : Fin 4} : KeepsOut s₀ (execDiscard c s) := h.regWriteOut

theorem Keeps.execStreamCredit (h : Keeps s₀ s) {i : Fin 32} {add : BitVec 16} : KeepsOut s₀ (execStreamCredit i add s) := h.regWriteOut

theorem Keeps.execDropOldest (h : Keeps s₀ s) : KeepsOut s₀ (execDropOldest s) := h.regWriteOut

theorem Keeps.execCpRestart (h : Keeps s₀ s) {n : Fin 2} : KeepsOut s₀ (execCpRestart n s) := h.regWriteOut

theorem Keeps.execCpErrsClear (h : Keeps s₀ s) {n : Fin 2} : KeepsOut s₀ (execCpErrsClear n s) := h.regWriteOut

theorem Keeps.execMadcDirect (h : Keeps s₀ s) {ch : BitVec 7} : KeepsOut s₀ (execMadcDirect ch s) := h.regWriteOut

theorem Keeps.execSelfcal (h : Keeps s₀ s) : KeepsOut s₀ (execSelfcal s) := h.regWriteOut

theorem Keeps.execSurveySetWrite (h : Keeps s₀ s) {q : Fin 144} {i : Fin 5} {w : Fin 131} {value : Word} :
    KeepsOut s₀ (execSurveySetWrite q i w value s) :=
  h.regWriteOut

theorem Keeps.execMemFlip (h : Keeps s₀ s) {value : Word} : KeepsOut s₀ (execMemFlip value s) := h.regWriteOut

theorem Keeps.execRegionClear (h : Keeps s₀ s) {n : Fin 256} : KeepsOut s₀ (execRegionClear n s) := h.regWriteOut

theorem Keeps.execTallyClear (h : Keeps s₀ s) : KeepsOut s₀ (execTallyClear s) := h.regWriteOut

theorem Keeps.execTallyArchSel (h : Keeps s₀ s) {value : Word} : KeepsOut s₀ (execTallyArchSel value s) := h.regWriteOut

theorem Keeps.execHsRestart (h : Keeps s₀ s) {n : Fin 18} : KeepsOut s₀ (execHsRestart n s) := h.regWriteOut

theorem Keeps.execRegisterWrite (h : Keeps s₀ s) {addr : BitVec 32} {value : Word} : KeepsOut s₀ (execRegisterWrite addr value s) := h.regWriteOut

theorem Keeps.execCoefficientBankWrite (h : Keeps s₀ s) {f : Fin 16} {d : Fin 9} {table : Bool} {b : Fin 2} {k : Fin 258} {value : Word} :
    KeepsOut s₀ (execCoefficientBankWrite f d table b k value s) := by
  unfold Machine.execCoefficientBankWrite
  split
  · exact h.next
  · exact h.regWriteOut

theorem Keeps.execCaptureConfigWrite (h : Keeps s₀ s) {c : Fin 4} {which : Fin 5} {value : Word} :
    KeepsOut s₀ (execCaptureConfigWrite c which value s) :=
  h.regWriteOut

theorem Keeps.sessionRead (h : Keeps s₀ s) {id a : ℕ} : Keeps s₀ (sessionRead s id a) := by
  conv in Machine.sessionRead => delta Machine.sessionRead
  dsimp only
  split
  · exact h.rest.busRead.rest
  · exact h

theorem Keeps.execCounterLoRead (h : Keeps s₀ s) {session : BitVec 64} {addr : BitVec 32} : KeepsOut s₀ (execCounterLoRead session addr s) :=
  (h.guardS h.sessionRead).next

theorem Keeps.execSnapHiRead (h : Keeps s₀ s) {session : BitVec 64} : KeepsOut s₀ (execSnapHiRead session s) := (h.guardS h.sessionRead).next

/-! ## Machine/ResetRows.lean: commands of power and reset -/

theorem Keeps.execPowerOn (h : Keeps s₀ s) : KeepsOut s₀ (execPowerOn s) := h.resetBase.next

theorem Keeps.execResetNLow (h : Keeps s₀ s) : KeepsOut s₀ (execResetNLow s) := (h.guardS h.coldReset).next

theorem Keeps.execPgoodInLow (h : Keeps s₀ s) : KeepsOut s₀ (execPgoodInLow s) := (h.guardS h.coldReset).next

theorem Keeps.execStartUp (h : Keeps s₀ s) {strap : BitVec 8} {vaultOk : Bool} : KeepsOut s₀ (execStartUp strap vaultOk s) :=
  (h.guardS h.startUp).next

theorem Keeps.execDdrTrainingDone (h : Keeps s₀ s) {pass : BitVec 4} : KeepsOut s₀ (execDdrTrainingDone pass s) := by
  refine (h.guardS ?_).next
  have ht : Keeps s₀ { s with ddrTrain := some pass.toNat } := h.rest
  exact ht.ddrEval

theorem Keeps.execBootLoad (h : Keeps s₀ s) : KeepsOut s₀ (execBootLoad s) := (h.guardS h.bootTry).next

theorem Keeps.execPlanApply (h : Keeps s₀ s) : KeepsOut s₀ (execPlanApply s) := by
  unfold Machine.execPlanApply
  refine .next (.guardS h ?_)
  split
  · exact h
  · split
    · exact h.calm.bootApply.settle
    · split
      · exact .ite h h.rest.planApply.opUpd.settle.rest
      · exact h

theorem Keeps.execWarmReset (h : Keeps s₀ s) {why : WarmCause} : KeepsOut s₀ (execWarmReset why s) := by
  unfold Machine.execWarmReset
  refine .next (.guardS h ?_)
  split
  · exact h.directWrite
  · exact h.calm.warmReset.settle
  · exact h.calm.warmReset.settle

theorem Keeps.execFaceReset (h : Keeps s₀ s) {f : Fin 16} : KeepsOut s₀ (execFaceReset f s) := by
  refine (h.guardS ?_).next
  have ht : Keeps s₀ (Machine.settle (Machine.faceRstRun s.calm f)) := h.calm.faceRstRun.settle
  exact .ite ht.rest h.directWrite

theorem Keeps.execDatapathReset (h : Keeps s₀ s) {f : Fin 16} {rx tx : BitVec 9} : KeepsOut s₀ (execDatapathReset f rx tx s) :=
  (h.guardS h.directWrite).next

theorem Keeps.canaryTrip (h : Keeps s₀ s) : Keeps s₀ (canaryTrip s) := h.resetBase.rest.keepRegs.keepFlds.incMod.urgentSent

theorem Keeps.execCanaryTrip (h : Keeps s₀ s) : KeepsOut s₀ (execCanaryTrip s) := (h.guardS h.canaryTrip).next

theorem Keeps.execPowerLoss (h : Keeps s₀ s) : KeepsOut s₀ (execPowerLoss s) := h.powerLoss.next

theorem Keeps.hostLanesStage1 (h : Keeps s₀ s) {p : ℕ → Bool} : Keeps s₀ (hostLanesStage1 s p) := h.foldl fun _ _ ht => .ite ht.hostStage1 ht

theorem Keeps.execRefclkLoss (h : Keeps s₀ s) {b : Bool} : KeepsOut s₀ (execRefclkLoss b s) := by
  refine (h.guardS ?_).next
  extract_lets u _ t
  have hu : Keeps s₀ u := h.wrs
  have ht : Keeps s₀ t := h.wr.rest
  refine .ite ?_ (.ite ht.optWalkAll.hostLanesStage1 ht)
  exact hu.rest

theorem Keeps.execRefclkRestored (h : Keeps s₀ s) {b : Bool} : KeepsOut s₀ (execRefclkRestored b s) := by
  refine (h.guardS ?_).next
  extract_lets u _ t
  have hu : Keeps s₀ u := h.wr
  have ht : Keeps s₀ t := h.wr.rest
  refine .ite ?_ (.ite ht.optWalkAll ht)
  exact hu.rest

theorem Keeps.execDieToDieFault (h : Keeps s₀ s) {e : Fin 4} : KeepsOut s₀ (execDieToDieFault e s) := by
  refine (h.guardS ?_).next
  extract_lets code u t
  have hu : Keeps s₀ u := h.tookFree
  have hv : Keeps s₀ { u with d2d := nbitSet s.d2d e.val true } := hu.rest
  exact .ite h hv.logEvent.optWalkAll.hostLanesStage1

theorem Keeps.execChipRun (h : Keeps s₀ s) : KeepsOut s₀ (execChipRun s) := (h.guardS h.directWrite).next

theorem Keeps.execChipStandby (h : Keeps s₀ s) : KeepsOut s₀ (execChipStandby s) := (h.guardS h.directWrite).next

theorem Keeps.execChipDeep (h : Keeps s₀ s) : KeepsOut s₀ (execChipDeep s) := (h.guardS h.directWrite).next

theorem Keeps.execSchedulerTick (h : Keeps s₀ s) : KeepsOut s₀ (execSchedulerTick s) := (h.guardS h.calm.schedulerTick.settle).next

theorem Keeps.execWakeFrame (h : Keeps s₀ s) {payload : List (BitVec 8)} {flips : List (Fin 64 × BitVec 24 × BitVec 8)} :
    KeepsOut s₀ (execWakeFrame payload flips s) :=
  (h.guardS h.calm.wake.settle).next

theorem Keeps.execWakeN (h : Keeps s₀ s) {flips : List (Fin 64 × BitVec 24 × BitVec 8)} : KeepsOut s₀ (execWakeN flips s) :=
  (h.guardS h.calm.wake.settle).next

theorem Keeps.execAonTimer (h : Keeps s₀ s) {flips : List (Fin 64 × BitVec 24 × BitVec 8)} : KeepsOut s₀ (execAonTimer flips s) :=
  (h.guardS h.calm.wake.settle).next

theorem Keeps.execThermalAlert (h : Keeps s₀ s) {value : ℤ} {flips : List (Fin 64 × BitVec 24 × BitVec 8)} :
    KeepsOut s₀ (execThermalAlert value flips s) :=
  (h.guardS h.calm.wr.wake.settle).next

theorem Keeps.execElsGrantChange (h : Keeps s₀ s) {b : Fin 4} {low : Bool} {flips : List (Fin 64 × BitVec 24 × BitVec 8)} :
    KeepsOut s₀ (execElsGrantChange b low flips s) :=
  (h.guardS h.calm.wr.wake.settle).next

/-! ## Machine/Tick.lean: time -/

theorem Keeps.sendRead (h : Keeps s₀ s) {n : ℕ} {m : Msg} : Keeps s₀ (sendRead s n m).1 := by
  conv in Machine.sendRead => delta Machine.sendRead
  split
  · exact h
  · exact h.tagRead

theorem Keeps.sendOne (h : Keeps s₀ s) {n : ℕ} : Keeps s₀ (sendOne s n) := by
  conv in Machine.sendOne => delta Machine.sendOne
  dsimp only
  split
  · exact .ite (.ite h.rest.sendRead.pcCount h.rest.sendRead) h
  · exact h

theorem Keeps.tick (h : Keeps s₀ s) : Keeps s₀ (tick s) := .ite (.ite h.rest.sendOne.sendOne h.rest) h

/-! ## Machine/Dispatch.lean: every command -/

/-- Every command keeps the same. -/
theorem Keeps.exec (h : Keeps s₀ s) (c : Instr) : KeepsOut s₀ (exec c s) :=
  match c with
  | .powerOn => h.execPowerOn
  | .resetNLow => h.execResetNLow
  | .pgoodInLow => h.execPgoodInLow
  | .startUp .. => h.execStartUp
  | .ddrTrainingDone .. => h.execDdrTrainingDone
  | .bootLoad => h.execBootLoad
  | .planApply => h.execPlanApply
  | .warmReset .. => h.execWarmReset
  | .faceReset .. => h.execFaceReset
  | .datapathReset .. => h.execDatapathReset
  | .canaryTrip => h.execCanaryTrip
  | .refclkLoss .. => h.execRefclkLoss
  | .refclkRestored .. => h.execRefclkRestored
  | .dieToDieFault .. => h.execDieToDieFault
  | .vppOtpApplied => h.execVppOtpApplied
  | .vppOtpRemoved => h.execVppOtpRemoved
  | .otpRecordBurned => h.execOtpRecordBurned
  | .planLoad .. => h.execPlanLoad
  | .faceReplan .. => h.execFaceReplan
  | .flashWrite .. => h.execFlashWrite
  | .planFloorBurn .. => h.execPlanFloorBurn
  | .limitsBurn .. => h.execLimitsBurn
  | .keyWrite .. => h.execKeyWrite
  | .keyRevoke .. => h.execKeyRevoke
  | .calibrate .. => h.execCalibrate
  | .assayRun .. => h.execAssayRun
  | .scrubFull .. => h.execScrubFull
  | .captureDrain .. => h.execCaptureDrain
  | .ddrTest .. => h.execDdrTest
  | .operationDequeued .. => h.execOperationDequeued
  | .operationSuspended .. => h.execOperationSuspended
  | .operationEnd .. => h.execOperationEnd
  | .handleExpiry .. => h.execHandleExpiry
  | .planStageData .. => h.execPlanStageData
  | .planStagePtr .. => h.execPlanStagePtr
  | .planStageRelease => h.execPlanStageRelease
  | .signalDetect .. => h.execSignalDetect
  | .settleDone .. => h.execSettleDone
  | .settleLimit .. => h.execSettleLimit
  | .searchDwell .. => h.execSearchDwell
  | .retuneDone .. => h.execRetuneDone
  | .retuneLimit .. => h.execRetuneLimit
  | .eqConvDone .. => h.execEqConvDone
  | .eqConvFail .. => h.execEqConvFail
  | .convergeLimit .. => h.execConvergeLimit
  | .verifyWindow .. => h.execVerifyWindow
  | .acqTimeout .. => h.execAcqTimeout
  | .relockRestartEnd .. => h.execRelockRestartEnd
  | .relockLimit .. => h.execRelockLimit
  | .powerBlock .. => h.execPowerBlock
  | .los .. => h.execLos
  | .clipWindow .. => h.execClipWindow
  | .decFail .. => h.execDecFail
  | .amLoss .. => h.execAmLoss
  | .timingLoss .. => h.execTimingLoss
  | .restart .. => h.execRestart
  | .modeEn .. => h.execModeEn
  | .handoverCompareDone .. => h.execHandoverCompareDone
  | .coefficientBankWrite .. => h.execCoefficientBankWrite
  | .swapEq .. => h.execSwapEq
  | .swapMlse .. => h.execSwapMlse
  | .swapApply .. => h.execSwapApply
  | .bankUe .. => h.execBankUe
  | .gradientLatch .. => h.execGradientLatch
  | .gradientRelease .. => h.execGradientRelease
  | .eqExpRangeRestart .. => h.execEqExpRangeRestart
  | .laneEffortCap .. => h.execLaneEffortCap
  | .effortSwitch .. => h.execEffortSwitch
  | .qualityWindow .. => h.execQualityWindow
  | .innerCodeword .. => h.execInnerCodeword
  | .outerCodeword .. => h.execOuterCodeword
  | .alignmentMarker .. => h.execAlignmentMarker
  | .cntCtrlClear .. => h.execCntCtrlClear
  | .counterWrap .. => h.execCounterWrap
  | .txdApply .. => h.execTxdApply
  | .shapingSetApplied .. => h.execShapingSetApplied
  | .optTarget .. => h.execOptTarget
  | .sleepToStandby .. => h.execSleepToStandby
  | .standbyToSynth .. => h.execStandbyToSynth
  | .synthToReceive .. => h.execSynthToReceive
  | .rampStep .. => h.execRampStep
  | .targetLockTimeout .. => h.execTargetLockTimeout
  | .eyeSafetyCheck .. => h.execEyeSafetyCheck
  | .eyeCheckStale .. => h.execEyeCheckStale
  | .sidebandExchange .. => h.execSidebandExchange
  | .engineStatusPoll .. => h.execEngineStatusPoll
  | .optLaneAWrite .. => h.execOptLaneAWrite
  | .optLimWrite .. => h.execOptLimWrite
  | .elsGrant .. => h.execElsGrant
  | .elsGrantTimeout .. => h.execElsGrantTimeout
  | .elsGrantLost .. => h.execElsGrantLost
  | .elsRelease .. => h.execElsRelease
  | .hostSignalDetect .. => h.execHostSignalDetect
  | .cdrLock .. => h.execCdrLock
  | .polarity .. => h.execPolarity
  | .linkTrainingDone .. => h.execLinkTrainingDone
  | .hostMarkerLock .. => h.execHostMarkerLock
  | .deskew .. => h.execDeskew
  | .hostStageTimeout .. => h.execHostStageTimeout
  | .hostLaneLoss .. => h.execHostLaneLoss
  | .hlRestart .. => h.execHlRestart
  | .adminUp .. => h.execAdminUp
  | .portRestart .. => h.execPortRestart
  | .portCounterClear .. => h.execPortCounterClear
  | .genEn .. => h.execGenEn
  | .inject .. => h.execInject
  | .prbsClear .. => h.execPrbsClear
  | .prbsSync .. => h.execPrbsSync
  | .prbsSyncLoss .. => h.execPrbsSyncLoss
  | .seamFrame .. => h.execSeamFrame
  | .seamTrainTimeout .. => h.execSeamTrainTimeout
  | .seamRetrainTimer .. => h.execSeamRetrainTimer
  | .retrain .. => h.execRetrain
  | .seamCounterClear .. => h.execSeamCounterClear
  | .replayRetry .. => h.execReplayRetry
  | .permanentFault .. => h.execPermanentFault
  | .lanePermanentFault .. => h.execLanePermanentFault
  | .p8Ready .. => h.execP8Ready
  | .sealSwitch .. => h.execSealSwitch
  | .sealCommit .. => h.execSealCommit
  | .sealHandshakeTimeout .. => h.execSealHandshakeTimeout
  | .sealRepropose .. => h.execSealRepropose
  | .run .. => h.execRun
  | .tapSwap .. => h.execTapSwap
  | .tapSwapApply .. => h.execTapSwapApply
  | .tapRestart .. => h.execTapRestart
  | .tapCoef .. => h.execTapCoef
  | .tapBlock .. => h.execTapBlock
  | .captureArm .. => h.execCaptureArm
  | .arm .. => h.execArm
  | .force .. => h.execForce
  | .stop .. => h.execStop
  | .discard .. => h.execDiscard
  | .captureConfigWrite .. => h.execCaptureConfigWrite
  | .captureTrigger .. => h.execCaptureTrigger
  | .captureFull .. => h.execCaptureFull
  | .streamOpen .. => h.execStreamOpen
  | .streamClose .. => h.execStreamClose
  | .streamCredit .. => h.execStreamCredit
  | .streamBlockSend .. => h.execStreamBlockSend
  | .streamTimeout .. => h.execStreamTimeout
  | .dropOldest => h.execDropOldest
  | .add .. => h.execAdd
  | .sub .. => h.execSub
  | .and .. => h.execAnd
  | .or .. => h.execOr
  | .xor .. => h.execXor
  | .shl .. => h.execShl
  | .shr .. => h.execShr
  | .sra .. => h.execSra
  | .min .. => h.execMin
  | .max .. => h.execMax
  | .add16x2 .. => h.execAdd16x2
  | .sub16x2 .. => h.execSub16x2
  | .conj .. => h.execConj
  | .swaph .. => h.execSwaph
  | .addi .. => h.execAddi
  | .movi .. => h.execMovi
  | .movhi .. => h.execMovhi
  | .cmp .. => h.execCmp
  | .exp .. => h.execExp
  | .expm .. => h.execExpm
  | .hist .. => h.execHist
  | .mfs .. => h.execMfs
  | .mts .. => h.execMts
  | .mac2 .. => h.execMac2
  | .cmac .. => h.execCmac
  | .cmacj .. => h.execCmacj
  | .cmadd .. => h.execCmadd
  | .cmaddj .. => h.execCmaddj
  | .aset .. => h.execAset
  | .aclr .. => h.execAclr
  | .ashr .. => h.execAshr
  | .extr .. => h.execExtr
  | .norm .. => h.execNorm
  | .ldw .. => h.execLdw
  | .ldd .. => h.execLdd
  | .ldh .. => h.execLdh
  | .ldb .. => h.execLdb
  | .stw .. => h.execStw
  | .std .. => h.execStd
  | .sth .. => h.execSth
  | .stb .. => h.execStb
  | .setp .. => h.execSetp
  | .getp .. => h.execGetp
  | .paddi .. => h.execPaddi
  | .br .. => h.execBr
  | .bcc .. => h.execBcc
  | .call .. => h.execCall
  | .jr .. => h.execJr
  | .loop .. => h.execLoop
  | .loopr .. => h.execLoopr
  | .reti .. => h.execReti
  | .nop .. => h.execNop
  | .wait .. => h.execWait
  | .ei .. => h.execEi
  | .di .. => h.execDi
  | .sync .. => h.execSync
  | .trap .. => h.execTrap
  | .bkpt .. => h.execBkpt
  | .postedWriteStatus .. => h.execPostedWriteStatus
  | .interruptEntry .. => h.execInterruptEntry
  | .hwTimer .. => h.execHwTimer
  | .watchdogWarning .. => h.execWatchdogWarning
  | .watchdog .. => h.execWatchdog
  | .kick .. => h.execKick
  | .hewerRun .. => h.execHewerRun
  | .hewerReset .. => h.execHewerReset
  | .hewerStep .. => h.execHewerStep
  | .hwMboxIn .. => h.execHwMboxIn
  | .programMemoryWrite .. => h.execProgramMemoryWrite
  | .overlayStart .. => h.execOverlayStart
  | .overlayDone .. => h.execOverlayDone
  | .ack .. => h.execAck
  | .adaptAckTimeout .. => h.execAdaptAckTimeout
  | .h16Restart => h.execH16Restart
  | .controlPortRateTry .. => h.execControlPortRateTry
  | .cpRestart .. => h.execCpRestart
  | .cpErrsClear .. => h.execCpErrsClear
  | .pause .. => h.execPause
  | .arp .. => h.execArp
  | .neighbourSolicitation .. => h.execNeighbourSolicitation
  | .icmpEcho .. => h.execIcmpEcho
  | .malformed .. => h.execMalformed
  | .ptpSync .. => h.execPtpSync
  | .ptpFollowUp .. => h.execPtpFollowUp
  | .ptpDelayResp .. => h.execPtpDelayResp
  | .ptpAnnounce .. => h.execPtpAnnounce
  | .ptpAnnounceTimeout => h.execPtpAnnounceTimeout
  | .timeLocked => h.execTimeLocked
  | .hello .. => h.execHello
  | .auth .. => h.execAuth
  | .read .. => h.execRead
  | .write .. => h.execWrite
  | .readBlock .. => h.execReadBlock
  | .writeBlock .. => h.execWriteBlock
  | .opSuspend .. => h.execOpSuspend
  | .opResume .. => h.execOpResume
  | .opCancel .. => h.execOpCancel
  | .opStatus .. => h.execOpStatus
  | .snap .. => h.execSnap
  | .snapDone => h.execSnapDone
  | .tallyFreeze .. => h.execTallyFreeze
  | .tallyThaw .. => h.execTallyThaw
  | .freezeTimeout => h.execFreezeTimeout
  | .sessionTimeout .. => h.execSessionTimeout
  | .accessTimeout .. => h.execAccessTimeout
  | .counterLoRead .. => h.execCounterLoRead
  | .registerWrite .. => h.execRegisterWrite
  | .wakeFrame .. => h.execWakeFrame
  | .wakeN .. => h.execWakeN
  | .aonTimer .. => h.execAonTimer
  | .thermalAlert .. => h.execThermalAlert
  | .elsGrantChange .. => h.execElsGrantChange
  | .chipRun => h.execChipRun
  | .chipStandby => h.execChipStandby
  | .chipDeep => h.execChipDeep
  | .schedulerTick => h.execSchedulerTick
  | .integrityWait .. => h.execIntegrityWait
  | .sensorConversion .. => h.execSensorConversion
  | .throttleAction .. => h.execThrottleAction
  | .throttleRelease .. => h.execThrottleRelease
  | .sensorFailure .. => h.execSensorFailure
  | .railConfirm .. => h.execRailConfirm
  | .railRetry .. => h.execRailRetry
  | .ageingMeasurement .. => h.execAgeingMeasurement
  | .madcConversion .. => h.execMadcConversion
  | .madcDirect .. => h.execMadcDirect
  | .selfcal => h.execSelfcal
  | .selfcalDone .. => h.execSelfcalDone
  | .madcSequencePass => h.execMadcSequencePass
  | .sliceMeasurement .. => h.execSliceMeasurement
  | .calRequeue .. => h.execCalRequeue
  | .facePll .. => h.execFacePll
  | .facePllTimeout .. => h.execFacePllTimeout
  | .surveySetWrite .. => h.execSurveySetWrite
  | .assayQueue .. => h.execAssayQueue
  | .rotationShadowEnd .. => h.execRotationShadowEnd
  | .rotationMatch .. => h.execRotationMatch
  | .rotationSwitch .. => h.execRotationSwitch
  | .matchTimeout .. => h.execMatchTimeout
  | .assayRetry .. => h.execAssayRetry
  | .bistSliceDone .. => h.execBistSliceDone
  | .memFlip .. => h.execMemFlip
  | .regionClear .. => h.execRegionClear
  | .tallyArchiveCopy => h.execTallyArchiveCopy
  | .tallyClear => h.execTallyClear
  | .tallyArchSel .. => h.execTallyArchSel
  | .snapHiRead .. => h.execSnapHiRead
  | .pcOvf .. => h.execPcOvf
  | .bwWindow .. => h.execBwWindow
  | .hsRestart .. => h.execHsRestart
  | .controlPortLinkUp .. => h.execControlPortLinkUp
  | .controlPortLinkLoss .. => h.execControlPortLinkLoss
  | .powerLoss => h.execPowerLoss
  | .facePllDone .. => h.execFacePllDone
  | .pauseEnd .. => h.execPauseEnd
  | .elsGrantWithdrawn .. => h.execElsGrantWithdrawn

/-- A step that answers a next state keeps the same. -/
theorem step_keeps (s : State) : KeepsOut s (step s) := by
  unfold step
  split
  · exact (Keeps.refl s).tick.next
  · exact (Keeps.refl s).rest.exec _

end

/-- Settles O6: a step without a command is a tick, a step with one is the command on the rest of the queue. -/
theorem stateNamesWhatExists : Obligations.StateNamesWhatExists := fun s t w e => (step_keeps s t e).names w

end Sys2Proof.Machine

/-! # The state after reset (O4) -/

namespace Sys2Proof.Machine
open Sys2Proof Sys2Proof.Laws

/-- Settles O4: the lists of the state after reset are empty, so nothing is named and nothing is out of order. -/
theorem resetIsCanonical : Obligations.ResetIsCanonical := ⟨rfl, NamesWf.reset⟩

end Sys2Proof.Machine

/-! # The idle part (O2) -/

namespace Sys2Proof.Machine
open Sys2Proof Sys2Proof.Laws

/-- Messages of `t` are messages of `s` or notices. -/
structure Notices (s t : State) : Prop where
  mem : ∀ m ∈ t.tx, m ∈ s.tx ∨ m.flags = 2

section
variable {s t u : State}

theorem Notices.refl (s : State) : Notices s s := ⟨fun _ => .inl⟩
theorem Notices.trans (h : Notices s t) (k : Notices t u) : Notices s u := ⟨fun m hm => (k.mem m hm).elim (h.mem m) .inr⟩

/-- Changes that leave the messages. -/
theorem Notices.sameTx (h : Notices s t) (e : u.tx = t.tx) : Notices s u := ⟨fun m hm => h.mem m (e ▸ hm)⟩

theorem Notices.wr (h : Notices s t) {f : Fld} {v : Nat} : Notices s (t.wr f v) := h.sameTx rfl
theorem Notices.wrs (h : Notices s t) {l : List (Fld × Nat)} : Notices s (t.wrs l) := h.sameTx (State.wrs_tx t l)
theorem Notices.incSat (h : Notices s t) {f : Fld} : Notices s (t.incSat f) := h.sameTx rfl
theorem Notices.addCtr (h : Notices s t) {a n : Nat} : Notices s (t.addCtr a n) := h.sameTx rfl
theorem Notices.tookFree (h : Notices s t) : Notices s t.tookFree := h.sameTx rfl
theorem Notices.gap (h : Notices s t) {b : Bool} : Notices s { t with gap := b } := h.sameTx rfl
theorem Notices.frozenLost (h : Notices s t) {n : Nat} : Notices s { t with frozenLost := n } := h.sameTx rfl
theorem Notices.archNext (h : Notices s t) {n : Nat} : Notices s { t with archNext := n } := h.sameTx rfl
theorem Notices.sessions (h : Notices s t) {l : List Session} : Notices s { t with sessions := l } := h.sameTx rfl

theorem Notices.setByte (h : Notices s t) {a i b : Nat} {v : Byte} : Notices s (t.setByte a i b v) := h.sameTx rfl

theorem Notices.ite {c : Prop} [Decidable c] (h : Notices s t) (k : Notices s u) : Notices s (if c then t else u) := by
  split
  · exact h
  · exact k

theorem Notices.foldl {α : Type} {g : State → α → State} {l : List α} (h : Notices s t) (k : ∀ u, ∀ x ∈ l, Notices s u → Notices s (g u x)) :
    Notices s (l.foldl g t) := by
  induction l generalizing t with
  | nil => exact h
  | cons x l ih => exact ih (k t x (by simp) h) fun u y hy => k u y (by simp [hy])

theorem Notices.send (h : Notices s t) {m : Msg} (hm : m.flags = 2) : Notices s (t.send m) := by
  have key : ∀ x : Msg, x.flags = 2 → ∀ y ∈ t.tx ++ [x], y ∈ s.tx ∨ y.flags = 2 := fun x hx y hy => by
    rcases List.mem_append.mp hy with hy | hy
    · exact h.mem y hy
    · exact .inr (List.mem_singleton.mp hy ▸ hx)
  unfold State.send
  split
  · extract_lets w
    split
    · exact ⟨key _ hm⟩
    · exact ⟨key m hm⟩
  · exact ⟨key m hm⟩

theorem Notices.sendNotices (h : Notices s t) {ws : List Nat} : Notices s (sendNotices t ws) := by
  refine h.sessions.foldl fun u m hm hu => hu.send ?_
  obtain ⟨x, -, rfl⟩ := List.mem_map.mp hm
  rfl

theorem Notices.setBytes (h : Notices s t) {a i b : Nat} {l : List Nat} : Notices s (t.setBytes a i b l) := by
  induction l generalizing t b with
  | nil => exact h
  | cons v l ih => exact ih h.setByte

theorem Notices.memPutWord (h : Notices s t) {a i w d : Nat} : Notices s (memPutWord t a i w d) :=
  Notices.sameTx (Notices.setBytes (h.sameTx (useFlip_tx t a i w))) rfl

theorem Notices.memPutWords (h : Notices s t) {a i w : Nat} {l : List Nat} : Notices s (memPutWords t a i w l) := by
  induction l generalizing t w with
  | nil => exact h
  | cons d l ih => exact ih h.memPutWord

theorem Notices.storeRecord (h : Notices s t) {e : Ev} {n : Bool} : Notices s (storeRecord t e n) := h.memPutWords.wr.gap

theorem Notices.storeOwn (h : Notices s t) {e : Ev} : Notices s (storeOwn t e) := .ite h.storeRecord.sendNotices h.storeRecord

theorem Notices.archiveLoss (h : Notices s t) : Notices s (archiveLoss t) := .ite h.archNext.incSat.storeOwn h

theorem Notices.loseEvent (h : Notices s t) {f : Fld} : Notices s (loseEvent t f) := h.incSat.gap

theorem Notices.storeEvent (h : Notices s t) {e : Ev} {n : Bool} : Notices s (storeEvent t e n) :=
  .ite h.loseEvent.frozenLost (.ite h.loseEvent (.ite h.storeOwn.wr.loseEvent h.storeRecord))

theorem Notices.recordEvent (h : Notices s t) {e : Ev} {n : Bool} : Notices s (recordEvent t e n) :=
  .ite h.storeEvent.sendNotices h.storeEvent

theorem Notices.tallyEvent (h : Notices s t) {e : Ev} : Notices s (tallyEvent t e) := .ite h (Notices.ite h.archiveLoss h).recordEvent

theorem Notices.capFireOne (h : Notices s t) {c time pos : Nat} {short : Bool} : Notices s (capFireOne t c time pos short) := .ite h.wrs h

theorem Notices.capFire (h : Notices s t) {c time pos : Nat} {short : Bool} : Notices s (capFire t c time pos short) :=
  .ite (h.foldl fun _ _ _ hu => .ite hu.capFireOne hu) h

theorem Notices.capOnEvent (h : Notices s t) {code : Nat} : Notices s (capOnEvent t code) :=
  h.foldl fun _ _ _ hu => .ite hu.tookFree.capFire hu

/-- An event sends nothing but notices. -/
theorem Notices.logEvent (h : Notices s t) {e : Ev} : Notices s (logEvent t e) := h.capOnEvent.tallyEvent

theorem Notices.pcAdd (h : Notices s t) {b i n : Nat} : Notices s (pcAdd t b i n) :=
  .ite (.ite h.addCtr.wr.logEvent h.addCtr.wr) h.addCtr

theorem Notices.pcCount (h : Notices s t) {b ev lane n : Nat} : Notices s (pcCount t b ev lane n) :=
  h.foldl fun _ _ _ hu => .ite hu.pcAdd hu

end

/-- The registers that an error of a memory word may write: the memory system's error records, and those of events and counts (R404, R408). -/
def errorReg (a : Nat) : Bool := inRange 0x500000 0x580000 a || countReg a

/-- All that an error of a memory word may change, beside the word's tag. -/
structure ErrorsOnly (s t : State) : Prop where
  regs : RegsKept errorReg s t
  time : t.time = s.time
  mono : t.mono = s.mono
  plan : t.plan = s.plan
  claim : t.claim = s.claim
  defer : t.defer = s.defer
  bytes : BytesKept inStore s t
  count : t.sessions.length = s.sessions.length
  tx : Notices s t

section
variable {s t u : State} {a : Nat}

theorem ErrorsOnly.refl (s : State) : ErrorsOnly s s := ⟨fun _ _ => rfl, rfl, rfl, rfl, rfl, rfl, fun _ _ _ _ _ _ => rfl, rfl, .refl s⟩

theorem ErrorsOnly.trans (h : ErrorsOnly s t) (k : ErrorsOnly t u) : ErrorsOnly s u where
  regs a ha := (k.regs a ha).trans (h.regs a ha)
  time := k.time.trans h.time
  mono := k.mono.trans h.mono
  plan := k.plan.trans h.plan
  claim := k.claim.trans h.claim
  defer := k.defer.trans h.defer
  bytes a i b hi hb ha := (k.bytes a i b hi hb ha).trans (h.bytes a i b hi hb ha)
  count := k.count.trans h.count
  tx := h.tx.trans k.tx

theorem ErrorsOnly.of_quiet {p : Nat → Bool} (hp : ∀ a, errorReg a = false → p a = false) (h : Quiet p s t) (k : Notices s t) : ErrorsOnly s t where
  regs a ha := h.regs a (hp a ha)
  time := by rw [h.rest]
  mono := by rw [h.rest]
  plan := by rw [h.rest]
  claim := by rw [h.rest]
  defer := by rw [h.rest]
  bytes := h.bytes
  count := h.count
  tx := k

theorem errorReg_count {a : Nat} (h : errorReg a = false) : countReg a = false := by
  simp only [errorReg, Bool.or_eq_false_iff] at h
  exact h.2

theorem ErrorsOnly.wr (h : ErrorsOnly s t) {f : Fld} {v : Nat} (hf : errorReg f.addr = true) : ErrorsOnly s (t.wr f v) :=
  h.trans (.of_quiet (fun _ => id) (quiet_wr errorReg t f v hf) ((Notices.refl t).wr))

theorem ErrorsOnly.logEvent (h : ErrorsOnly s t) {e : Ev} : ErrorsOnly s (logEvent t e) :=
  h.trans (.of_quiet (fun a ha => countReg_event a (errorReg_count ha)) (quiet_logEvent t e) (Notices.refl t).logEvent)

theorem ErrorsOnly.pcCount (h : ErrorsOnly s t) {b ev lane n : Nat} (hb : b < 73) : ErrorsOnly s (pcCount t b ev lane n) :=
  h.trans (.of_quiet (fun _ => errorReg_count) (quiet_pcCount t b ev lane n hb) (Notices.refl t).pcCount)

theorem ErrorsOnly.setTag (h : ErrorsOnly s t) {a i w : Nat} {x : Option WordTag} : ErrorsOnly s (t.setTag a i w x) :=
  h.trans ⟨fun _ _ => rfl, rfl, rfl, rfl, rfl, rfl, fun _ _ _ _ _ _ => rfl, rfl, (Notices.refl t).sameTx rfl⟩

/-- An error record lies in the memory system's block (R404). -/
theorem ErrorsOnly.memErr (h : ErrorsOnly s t) {kind src a i w synd : Nat} : ErrorsOnly s (memErr t kind src a i w synd) :=
  (((((h.wr (f := MEM_ERR_INFO_KIND) rfl).wr (f := MEM_ERR_INFO_SOURCE) rfl).wr (f := MEM_ERR_INFO_ARRAY) rfl).wr
    (f := MEM_ERR_INFO_INDEX) rfl).wr (f := MEM_ERR_INFO_SYNDROME) rfl).wr (f := MEM_ERR_ADDR_WORD) rfl

theorem errorReg_memArray {a : Nat} (ha : a < 256) : errorReg (MEM_ARRAY0 a) = true := by
  simp only [errorReg, inRange, Bool.or_eq_true, Bool.and_eq_true, decide_eq_true_eq, MEM_ARRAY0]
  omega

theorem errorReg_memRegion {n : Nat} (hn : n < 256) : errorReg (MEM_REGION1 n) = true := by
  simp only [errorReg, inRange, Bool.or_eq_true, Bool.and_eq_true, decide_eq_true_eq, MEM_REGION1]
  omega

theorem ErrorsOnly.ceEvent (h : ErrorsOnly s t) {src i w synd : Nat} (ha : a < 256) : ErrorsOnly s (ceEvent t src a i w synd) :=
  ((h.memErr.wr (f := MEM_ARRAY0_CE a) (errorReg_memArray ha)).pcCount (by decide)).logEvent

theorem ErrorsOnly.ueEvent (h : ErrorsOnly s t) {src i w synd : Nat} (ha : a < 256) : ErrorsOnly s (ueEvent t src a i w synd) :=
  ((h.memErr.wr (f := MEM_ARRAY0_UE a) (errorReg_memArray ha)).pcCount (by decide)).logEvent

/-- A word of an array that is no bank, no Survey set and no DDR4: its owner shows its loss in no register (R412). -/
theorem ErrorsOnly.ownerAct (h : ErrorsOnly s t) {w : Nat} {r : Region} (h5 : a ≠ 5) (h9 : a ≠ 9) (h16 : a < 16) :
    ErrorsOnly s (ownerAct t a w r) := by
  unfold Machine.ownerAct
  split
  · rw [if_neg h5]
    exact h
  · simp only [surveyLost, h9, isDdr, not_le.mpr h16, if_false, decide_false, Bool.false_eq_true]
    exact h
  · exact h.trans ⟨fun _ _ => rfl, rfl, rfl, rfl, rfl, rfl, fun _ _ _ _ _ _ => rfl, rfl, (Notices.refl t).sameTx rfl⟩
  · exact h

theorem regionOf_lt {s : State} {a i w n : Nat} (h : regionOf s a i w = some n) : n < 256 := by
  have := List.mem_of_find?_eq_some h
  simp only [List.mem_reverse, List.mem_range] at this
  omega

theorem ErrorsOnly.ownerNotice (h : ErrorsOnly s t) {i w : Nat} (h5 : a ≠ 5) (h9 : a ≠ 9) (h16 : a < 16) : ErrorsOnly s (ownerNotice t a i w) := by
  unfold Machine.ownerNotice
  split
  · exact h.logEvent
  · rename_i n hn
    split
    · exact h
    · extract_lets t1 old th t2 t3
      have h2 : ErrorsOnly s t2 := h.logEvent.wr (errorReg_memRegion (regionOf_lt hn))
      have h3 : ErrorsOnly s t3 := by
        unfold t3
        split
        · exact h2.logEvent
        · exact h2
      exact h3.ownerAct h5 h9 h16

theorem ErrorsOnly.memReadWord (h : ErrorsOnly s t) {i w : Nat} (h5 : a ≠ 5) (h9 : a ≠ 9) (h16 : a < 16) :
    ErrorsOnly s (memReadWord t a i w).1 := by
  conv in Machine.memReadWord t a i w => delta Machine.memReadWord
  have ha : a < 256 := by omega
  split
  · exact h
  · split
    · exact h
    · exact h.setTag.ceEvent ha
    · split
      · exact h
      · exact (h.setTag.ueEvent ha).ownerNotice h5 h9 h16

end

/-! ## Messages leave (R291) -/

section
variable {s t : State}

theorem ErrorsOnly.sendRead (h : ErrorsOnly s t) {n : Nat} {m : Msg} : ErrorsOnly s (sendRead t n m).1 := by
  unfold Machine.sendRead
  split
  · exact h
  · exact (h.setTag.memReadWord (by decide) (by decide) (by decide)).setTag

theorem takeMsg_subset {p : Msg → Bool} {l r : List Msg} {m : Msg} (h : takeMsg p l = some (m, r)) : r ⊆ l := by
  induction l generalizing r with
  | nil => cases h
  | cons x l ih =>
    unfold takeMsg at h
    split at h
    · cases h
      exact List.subset_cons_self _ _
    · split at h
      · rename_i e
        cases h
        exact List.cons_subset_cons _ (ih e)
      · cases h

theorem nextMsg_subset {n : Nat} {l r : List Msg} {m : Msg} (h : nextMsg n l = some (m, r)) : r ⊆ l := by
  unfold nextMsg at h
  split at h
  · rename_i e
    cases h
    exact takeMsg_subset e
  · exact takeMsg_subset h

theorem ErrorsOnly.sendOne (h : ErrorsOnly s t) {n : Nat} (hn : n < 2) : ErrorsOnly s (sendOne t n) := by
  unfold Machine.sendOne
  split
  · rename_i m r e
    split
    · have h0 : ErrorsOnly t { t with tx := r } :=
        ⟨fun _ _ => rfl, rfl, rfl, rfl, rfl, rfl, fun _ _ _ _ _ _ => rfl, rfl, ⟨fun x hx => .inl (nextMsg_subset e hx)⟩⟩
      have h1 : ErrorsOnly s (Machine.sendRead { t with tx := r } n m).1 := (h.trans h0).sendRead
      split
      rename_i u leaves e'
      rw [e'] at h1
      split
      · exact h1.pcCount (by omega)
      · exact h1
    · exact h
  · exact h

theorem timeStep_le (s : State) : timeStep s ≤ 2 := by
  unfold timeStep
  split
  · decide
  · split <;> decide

theorem timeStep_steady {s : State} (h : s.rd TIME_STATUS_STATE = 0 ∨ s.ptp.slew = 0) : timeStep s = 1 := by
  unfold timeStep
  rw [if_pos (by tauto)]

theorem tick_unpowered {s : State} (h : s.powered = false) : tick s = s := by simp [tick, h]

/-- The nanosecond that a powered part counts, before messages leave. -/
def counted (s : State) : State :=
  { s with time := (s.time + timeStep s) % 2 ^ 64, mono := s.mono + 1, ptp := { s.ptp with slew := s.ptp.slew + ((timeStep s : Int) - 1) } }

theorem tick_powered {s : State} (h : s.powered = true) : ErrorsOnly (counted s) (tick s) := by
  have e : tick s = if (counted s).alive then sendOne (sendOne (counted s) 0) 1 else counted s := by rw [tick, if_pos h]; rfl
  rw [e]
  split
  · exact ((ErrorsOnly.refl _).sendOne (by decide)).sendOne (by decide)
  · exact .refl _

end

/-- Settles O2: the nanosecond, then what messages that leave may change. -/
theorem idlePartKeepsTime : Obligations.IdlePartKeepsTime := by
  intro s hp
  have hstep : step s = .next (tick s) := by simp [step, hp]
  refine ⟨fun h => by rw [hstep, tick_unpowered h], fun h => ?_⟩
  have ht := tick_powered h
  refine ⟨tick s, hstep, ht.time, timeStep_le s, fun hs => ?_, ht.mono, ht.regs, ht.tx.mem, ht.count, ht.plan⟩
  rw [ht.time, counted, timeStep_steady hs]

end Sys2Proof.Machine

/-! # The staging area of a plan (O42) -/

namespace Sys2Proof.Machine
open Sys2Proof Sys2Proof.Laws

/-! ## Bytes of a word -/

theorem leNat_digit (l : List Nat) (k : Nat) : leNat l / 256 ^ k % 256 = l.getD k 0 % 256 := by
  induction l generalizing k with
  | nil => simp [leNat]
  | cons b l ih =>
    cases k with
    | zero => simp [leNat]
    | succ k =>
      rw [leNat, pow_succ', ← Nat.div_div_eq_div_mul, show (b % 256 + 256 * leNat l) / 256 = leNat l by omega, ih]
      rfl

theorem getD_leBytes {n k : Nat} (h : k < n) (x : Nat) : (leBytes n x).getD k 0 = x / 256 ^ k % 256 := by
  induction n generalizing x k with
  | zero => omega
  | succ n ih =>
    cases k with
    | zero => simp [leBytes]
    | succ k =>
      rw [leBytes, List.getD_cons_succ, ih (by omega), pow_succ', Nat.div_div_eq_div_mul]

/-- Byte `o + j` of a word that takes bytes at `o` is byte `j` of them. -/
theorem mergeBytes_digit {width old o j : Nat} {new : List Nat} (hj : j < new.length) (hw : o + j < width) :
    mergeBytes width old o new / 256 ^ (o + j) % 256 = new.getD j 0 % 256 := by
  rw [mergeBytes, leNat_digit, List.getD_eq_getElem?_getD, List.getElem?_map, List.getElem?_range hw]
  simp only [Option.map_some, Option.getD_some]
  rw [if_pos ⟨by omega, by omega⟩, Nat.add_sub_cancel_left]

theorem ofNat_byte_mod (x : Nat) : BitVec.ofNat 8 (x % 256) = BitVec.ofNat 8 x := BitVec.eq_of_toNat_eq (by simp)

theorem byte_setBytes_before (s : State) {a i b c : Nat} (l : List Nat) (h : c < b) (hi : i < 256) (hl : b + l.length ≤ 2 ^ 40) :
    (s.setBytes a i b l).byte a i c = s.byte a i c := by
  induction l generalizing s b with
  | nil => rfl
  | cons v l ih =>
    simp only [List.length_cons] at hl
    rw [State.setBytes, ih _ (by omega) (by omega)]
    refine State.byte_setByte_other s _ fun e => ?_
    have := (memKey_inj hi (by omega) hi (by omega) e).2.2
    omega

theorem byte_setBytes (s : State) {a i b k : Nat} (l : List Nat) (hk : k < l.length) (hi : i < 256) (hl : b + l.length ≤ 2 ^ 40) :
    (s.setBytes a i b l).byte a i (b + k) = BitVec.ofNat 8 (l.getD k 0) := by
  induction l generalizing s b k with
  | nil => simp at hk
  | cons v l ih =>
    simp only [List.length_cons] at hk hl
    rw [State.setBytes]
    cases k with
    | zero =>
      rw [byte_setBytes_before _ _ (by omega) hi (by omega)]
      exact State.byte_setByte_same s a i b _
    | succ k => rw [show b + (k + 1) = b + 1 + k by omega, ih _ (by omega) (by omega), List.getD_cons_succ]

/-- A word written reads back byte by byte, whatever its tag took (R403). -/
theorem byte_memPutWord (s : State) {a i w k d : Nat} (hk : k < memWidth a) (hi : i < 256) (hw : (w + 1) * memWidth a ≤ 2 ^ 40) :
    (memPutWord s a i w d).byte a i (w * memWidth a + k) = BitVec.ofNat 8 (d / 256 ^ k) := by
  rw [memPutWord, State.byte_setTag, byte_setBytes _ _ (by rw [length_leBytes]; exact hk) hi (by rw [length_leBytes]; linarith), getD_leBytes hk,
    ofNat_byte_mod]

/-! ## What the staging area's writes keep -/

/-- What a write of the staging area does not touch: the claim, the pointer's word, and what waits to run. -/
structure StageKept (s t : State) : Prop where
  claim : t.claim = s.claim
  ptr : t.reg PLAN_STAGE_PTR = s.reg PLAN_STAGE_PTR
  defer : t.defer = s.defer

section
variable {s t u : State}

theorem StageKept.refl (s : State) : StageKept s s := ⟨rfl, rfl, rfl⟩
theorem StageKept.trans (h : StageKept s t) (k : StageKept t u) : StageKept s u :=
  ⟨k.claim.trans h.claim, k.ptr.trans h.ptr, k.defer.trans h.defer⟩

theorem ErrorsOnly.stage (h : ErrorsOnly s t) : StageKept s t := ⟨h.claim, h.regs _ (by decide +kernel), h.defer⟩

theorem StageKept.wr (h : StageKept s t) {f : Fld} {v : Nat} (hf : PLAN_STAGE_PTR ≠ f.addr) : StageKept s (t.wr f v) :=
  h.trans ⟨rfl, State.reg_wr_other _ _ _ hf, rfl⟩

theorem StageKept.wrs (h : StageKept s t) {l : List (Fld × Nat)} (hl : ∀ e ∈ l, PLAN_STAGE_PTR ≠ e.1.addr) : StageKept s (t.wrs l) :=
  h.trans ⟨State.wrs_claim t l, State.reg_wrs_other t l hl, State.wrs_defer t l⟩

theorem StageKept.setStream (h : StageKept s t) {i : Nat} {x : StreamX} : StageKept s (t.setStream i x) := h.trans ⟨rfl, rfl, rfl⟩
theorem StageKept.setCap (h : StageKept s t) {c : Nat} {x : ObsRec} : StageKept s (t.setCap c x) := h.trans ⟨rfl, rfl, rfl⟩
theorem StageKept.setTag (h : StageKept s t) {a i w : Nat} {x : Option WordTag} : StageKept s (t.setTag a i w x) := h.trans ⟨rfl, rfl, rfl⟩
theorem StageKept.setByte (h : StageKept s t) {a i b : Nat} {v : Byte} : StageKept s (t.setByte a i b v) := h.trans ⟨rfl, rfl, rfl⟩

theorem StageKept.setBytes (h : StageKept s t) {a i b : Nat} {l : List Nat} : StageKept s (t.setBytes a i b l) := by
  induction l generalizing t b with
  | nil => exact h
  | cons v l ih => exact ih h.setByte

theorem StageKept.foldl {α : Type} {g : State → α → State} {l : List α} (h : StageKept s t) (k : ∀ u x, StageKept s u → StageKept s (g u x)) :
    StageKept s (l.foldl g t) := by
  induction l generalizing t with
  | nil => exact h
  | cons x l ih => exact ih (k t x h)

theorem StageKept.streamClose (h : StageKept s t) {i : Nat} : StageKept s (streamClose t i) := by
  unfold Machine.streamClose
  have hne : ∀ c, PLAN_STAGE_PTR ≠ CAP_STATUS c := fun c => by simp only [PLAN_STAGE_PTR, CAP_STATUS]; omega
  have hns : PLAN_STAGE_PTR ≠ STREAM_STATUS i := by simp only [PLAN_STAGE_PTR, STREAM_STATUS]; omega
  split
  · extract_lets t1
    have h1 : StageKept s t1 := by
      unfold t1
      split
      · exact h.wr (hne _)
      · exact h
    exact (h1.wrs (List.forall_mem_cons.mpr ⟨hns, List.forall_mem_cons.mpr ⟨hns, List.forall_mem_nil _⟩⟩)).setStream
  · exact h

theorem StageKept.capDiscardAll (h : StageKept s t) : StageKept s (capDiscardAll t) := by
  unfold Machine.capDiscardAll
  split
  · extract_lets t1 t2
    have h1 : StageKept s t1 := h.foldl fun u i hu => by
      split
      · exact hu.streamClose
      · exact hu
    have h2 : StageKept s t2 := h1.foldl fun u c hu =>
      (hu.wr (f := CAP_STATUS_STATE c) (by simp only [PLAN_STAGE_PTR, CAP_STATUS]; omega)).setCap
    exact h2.trans (ErrorsOnly.refl t2).logEvent.stage
  · exact h

theorem StageKept.useFlip (h : StageKept s t) {a i w : Nat} : StageKept s (useFlip t a i w) := by
  unfold Machine.useFlip
  split
  · exact h.wr (by decide)
  · exact h

theorem StageKept.memPutWord (h : StageKept s t) {a i w d : Nat} : StageKept s (memPutWord t a i w d) := h.useFlip.setBytes.setTag

/-- A partial write of the staging area is one word written, between errors that change nothing of it. -/
theorem memPartial_stage (s : State) (w o : Nat) (new : List Nat) :
    ∃ u old, ErrorsOnly s u ∧ ErrorsOnly (memPutWord u 2 0 w (mergeBytes 8 old o new)) (memPartial s 2 0 w o new) := by
  have hs : ErrorsOnly s (pcCount s 72 3 15 1) := (ErrorsOnly.refl s).pcCount (by decide)
  rw [memPartial]
  generalize pcCount s 72 3 15 1 = r at hs
  unfold memMerge
  extract_lets width t1 x t2
  split
  · exact ⟨r, _, hs, .refl _⟩
  · split
    · exact ⟨r, _, hs, .refl _⟩
    · exact ⟨_, _, hs.ceEvent (a := 2) (by decide), .refl _⟩
    · have h2 : ErrorsOnly t1 t2 := (ErrorsOnly.refl t1).setTag
      refine ⟨r, memRaw r 2 0 w, hs, ?_⟩
      split
      · exact h2
      · exact (h2.ueEvent (a := 2) (by decide)).ownerNotice (by decide) (by decide) (by decide)

theorem memWriteIn_half (s : State) (p v : Nat) : memWriteIn s 2 0 p (leBytes 4 v) = memPartial s 2 0 (p / 8) (p % 8) (leBytes 4 v) := by
  have h : ¬(p % memWidth 2 = 0 ∧ (leBytes 4 v).length = memWidth 2) := by simp [length_leBytes, memWidth]
  unfold memWriteIn
  exact if_neg h

/-- Four bytes of the staging area, at a multiple of four. -/
theorem memWriteIn_stage (s : State) {p v : Nat} (h4 : p % 4 = 0) (hp : p < 2 ^ 24) :
    StageKept s (memWriteIn s 2 0 p (leBytes 4 v)) ∧ ∀ j < 4, (memWriteIn s 2 0 p (leBytes 4 v)).byte 2 0 (p + j) = BitVec.ofNat 8 (v / 256 ^ j) := by
  rw [memWriteIn_half]
  obtain ⟨u, old, hu, ht⟩ := memPartial_stage s (p / 8) (p % 8) (leBytes 4 v)
  refine ⟨hu.stage.memPutWord.trans ht.stage, fun j hj => ?_⟩
  have hplace : p + j = p / 8 * memWidth 2 + (p % 8 + j) := by simp [memWidth]; omega
  rw [ht.bytes 2 0 _ (by decide) (by omega) rfl, hplace, byte_memPutWord u (by simp [memWidth]; omega) (by decide) (by simp [memWidth]; omega),
    ← ofNat_byte_mod, mergeBytes_digit (by rw [length_leBytes]; exact hj) (by omega), getD_leBytes hj, Nat.mod_mod, ofNat_byte_mod]

end

end Sys2Proof.Machine

namespace Sys2Proof.Machine
open Sys2Proof Sys2Proof.Laws

/-! ## The writes of the two registers -/

theorem descName_stageData : (descOf PLAN_STAGE_DATA).map (fun x => (x.1.name, x.2)) = some (.PLAN_STAGE_DATA, []) := by decide +kernel
theorem descName_stagePtr : (descOf PLAN_STAGE_PTR).map (fun x => (x.1.name, x.2)) = some (.PLAN_STAGE_PTR, []) := by decide +kernel

theorem regEffect_stageData (s : State) (z : Bool) {d : RegDesc} (a v : Nat) (h : d.name = .PLAN_STAGE_DATA) :
    regEffect s z d [] a v = stageDataEff s v := by
  simp [regEffect, rejects, writeLine, writeHost, writeCore, writeChip, h]

theorem regEffect_stagePtr (s : State) (z : Bool) {d : RegDesc} (a v : Nat) (h : d.name = .PLAN_STAGE_PTR) :
    regEffect s z d [] a v = stagePtrEff s v := by
  simp [regEffect, rejects, writeLine, writeHost, writeCore, writeChip, h]

/-- A write of a register of the list that is neither memory, counter, SNAP_SEL nor TALLY_SUB is the register's effect. -/
theorem blockWrite_reg (s : State) {a : Nat} (v : Nat) {n : RegId} (hd : (descOf a).map (fun x => (x.1.name, x.2)) = some (n, []))
    (hb : bistHides s a = false) (hm : memPlace a = none) (hc : ctrLo? a = none) (h1 : a ≠ SNAP_SEL) (h2 : a ≠ TALLY_SUB) :
    ∃ d : RegDesc, d.name = n ∧ blockWrite s .direct a v = regEffect s true d [] a v := by
  obtain ⟨⟨d, idx⟩, he, hn⟩ := Option.map_eq_some_iff.mp hd
  obtain ⟨rfl, rfl⟩ := Prod.mk.inj hn
  exact ⟨d, rfl, by simp [blockWrite, hb, h1, h2, hm, hc, he]⟩

theorem blockWrite_stageData (s : State) (v : Nat) : blockWrite s .direct PLAN_STAGE_DATA v = stageDataEff s v := by
  obtain ⟨d, hd, h⟩ := blockWrite_reg s v descName_stageData rfl rfl (by decide +kernel) (by decide) (by decide)
  rw [h, regEffect_stageData s true _ v hd]

theorem blockWrite_stagePtr (s : State) (v : Nat) : blockWrite s .direct PLAN_STAGE_PTR v = stagePtrEff s v := by
  obtain ⟨d, hd, h⟩ := blockWrite_reg s v descName_stagePtr rfl rfl (by decide +kernel) (by decide) (by decide)
  rw [h, regEffect_stagePtr s true _ v hd]

/-- Both registers lie in the same domains (R318). -/
theorem Reaches.stagePtr {s : State} (h : Reaches s PLAN_STAGE_DATA) : Reaches s PLAN_STAGE_PTR := by
  obtain ⟨ha, hd, hb⟩ := h
  exact ⟨ha, hd, hb⟩

/-- A state with the status of a register write that is over. -/
def written (t : State) (st : Nat) : State := { t with busStatus := st, actor := 7 }

section
variable (t : State) (st : Nat)

@[simp] theorem written_busStatus : (written t st).busStatus = st := rfl
@[simp] theorem written_claim : (written t st).claim = t.claim := rfl
@[simp] theorem written_bytes : (written t st).bytes = t.bytes := rfl
@[simp] theorem written_reg : (written t st).reg = t.reg := rfl
@[simp] theorem written_rd (f : Fld) : (written t st).rd f = t.rd f := rfl
@[simp] theorem written_on (f : Fld) : (written t st).on f = t.on f := rfl
@[simp] theorem written_byte (a i b : Nat) : (written t st).byte a i b = t.byte a i b := rfl

theorem settle_written (h : t.defer = []) : { settle { t with busStatus := st } with actor := 7 } = written t st := by
  rw [settle_nil { t with busStatus := st } h]
  rfl

end

/-- A register write whose block's effect leaves nothing to run after it. -/
theorem regWriteOut_done {s t : State} {a v st : Nat} (h : Reaches s a) (h4 : a % 4 = 0) (hm : hwCtrlOf a = none)
    (e : blockWrite (directStart s) .direct a (BitVec.ofNat 32 v).toNat = (t, st)) (hd : t.defer = []) :
    regWriteOut s a v = .next (written t st) := by
  rw [regWriteOut_reaches s a v h h4 (by simp [hm]), e, settle_written t st hd]

theorem directStart_rest (s : State) : directStart s = { s with actor := 3, defer := [], accLog := (directStart s).accLog } := accRearm_rest _

theorem directStart_stage (s : State) : (directStart s).claim = s.claim ∧ (directStart s).defer = [] ∧ (directStart s).reg = s.reg := by
  rw [directStart_rest]
  exact ⟨rfl, rfl, rfl⟩

/-! ## The claim (R68) -/

/-- The staging area is claimed by writes, or by nothing. -/
theorem claim_cases {s : State} (h : ∀ n, s.claim ≠ some (some n)) : s.claim = none ∨ s.claim = some none := by
  cases hc : s.claim with
  | none => exact .inl rfl
  | some o =>
    cases o with
    | none => exact .inr rfl
    | some n => exact absurd hc (h n)

theorem stageDataEff_free {s : State} (h : ∀ n, s.claim ≠ some (some n)) (v : Nat) : stageDataEff s v = (stageWord (claimTake s none) v, stOk) := by
  rcases claim_cases h with hc | hc <;> simp [stageDataEff, hc]

theorem stagePtrEff_free {s : State} (h : ∀ n, s.claim ≠ some (some n)) (v : Nat) :
    stagePtrEff s v = (if nbit v 31 then claimSet ((claimTake s none).wr PLAN_STAGE_PTR_PTR (v / 4 % 2 ^ 22 * 4)) none
      else (claimTake s none).wr PLAN_STAGE_PTR_PTR (v / 4 % 2 ^ 22 * 4), stOk) := by
  rcases claim_cases h with hc | hc <;> simp [stagePtrEff, hc]

theorem stageDataEff_busy {s : State} {n : Nat} (h : s.claim = some (some n)) (v : Nat) : stageDataEff s v = (s, stBusy) := by
  simp [stageDataEff, h]

theorem stagePtrEff_busy {s : State} {n : Nat} (h : s.claim = some (some n)) (v : Nat) : stagePtrEff s v = (s, stBusy) := by
  simp [stagePtrEff, h]

section
variable (t : State) (c : Option (Option Nat))

theorem claimSet_claim : (claimSet t c).claim = c := rfl

/-- The registers and what waits to run, when the claim changes. -/
theorem putClaim_reg : ({ t with claim := c } : State).reg = t.reg := rfl
theorem putClaim_defer : ({ t with claim := c } : State).defer = t.defer := rfl

theorem claimSet_defer : (claimSet t c).defer = t.defer := (putClaim_defer _ c).trans (State.wr_defer t _ _)
theorem claimSet_reg : (claimSet t c).reg = (t.wr PLAN_STAGE_PTR_CLAIMED (bit c.isSome)).reg := putClaim_reg _ c

theorem claimSet_claimed : (claimSet t c).on PLAN_STAGE_PTR_CLAIMED = c.isSome := by
  simp only [State.on, State.rd, claimSet_reg]
  exact (State.on_wr_same t PLAN_STAGE_PTR_CLAIMED (bit c.isSome) (by decide)).trans (by cases c <;> rfl)

theorem claimSet_ptr : (claimSet t c).rd PLAN_STAGE_PTR_PTR = t.rd PLAN_STAGE_PTR_PTR := by
  simp only [State.rd, claimSet_reg]
  exact State.rd_wr_apart t PLAN_STAGE_PTR_CLAIMED PLAN_STAGE_PTR_PTR _ (by decide) (by decide)

end

/-- A claim taken by writes changes the claim, and leaves the pointer. -/
theorem claimTake_free (s : State) : ∃ t, claimTake s none = claimSet t (some none) ∧ StageKept s t := by
  refine ⟨_, rfl, ?_⟩
  split
  · exact .refl s
  · exact (StageKept.refl s).capDiscardAll

/-- What a free staging area's claim leaves of a state that a command finds. -/
theorem directStart_claimTake (s : State) :
    ∃ t, claimTake (directStart s) none = claimSet t (some none) ∧ t.defer = [] ∧ t.rd PLAN_STAGE_PTR_PTR = s.rd PLAN_STAGE_PTR_PTR := by
  obtain ⟨-, hdefer, hreg⟩ := directStart_stage s
  obtain ⟨t, ht, hk⟩ := claimTake_free (directStart s)
  exact ⟨t, ht, hk.defer.trans hdefer, by simp only [State.rd, hk.ptr, hreg]⟩

theorem execPlanStageData_free {s : State} {v : Word} (hs : Reaches s PLAN_STAGE_DATA) (h : ∀ n, s.claim ≠ some (some n))
    (h4 : s.rd PLAN_STAGE_PTR_PTR % 4 = 0) :
    Completes (.planStageData v) s fun t => t.busStatus = stOk ∧ t.claim = some none ∧ t.on PLAN_STAGE_PTR_CLAIMED = true ∧
      t.rd PLAN_STAGE_PTR_PTR = (s.rd PLAN_STAGE_PTR_PTR + 4) % 2 ^ 24 ∧
      ∀ j < 4, t.byte 2 0 (s.rd PLAN_STAGE_PTR_PTR + j) = BitVec.ofNat 8 (v.toNat / 256 ^ j) := by
  obtain ⟨t, ht, htd, htp⟩ := directStart_claimTake s
  have hfree : ∀ n, (directStart s).claim ≠ some (some n) := by rwa [(directStart_stage s).1]
  have e : blockWrite (directStart s) .direct PLAN_STAGE_DATA (BitVec.ofNat 32 v.toNat).toNat =
      (stageWord (claimSet t (some none)) v.toNat, stOk) := by
    rw [blockWrite_stageData, stageDataEff_free hfree, ht, BitVec.ofNat_toNat, BitVec.setWidth_eq]
  have hu := claimSet_ptr t (some none)
  have hc := claimSet_claimed t (some none)
  have hd : (claimSet t (some none)).defer = [] := (claimSet_defer t _).trans htd
  have hcl := claimSet_claim t (some none)
  rw [htp] at hu
  generalize claimSet t (some none) = u at e hu hc hd hcl
  obtain ⟨hk, hbytes⟩ := memWriteIn_stage u (p := u.rd PLAN_STAGE_PTR_PTR) (v := v.toNat) (hu ▸ h4) (State.rd_lt u PLAN_STAGE_PTR_PTR)
  unfold stageWord at e
  dsimp only at e
  generalize memWriteIn u 2 0 (u.rd PLAN_STAGE_PTR_PTR) (leBytes 4 v.toNat) = x at e hk hbytes
  refine ⟨_, regWriteOut_done hs rfl (by decide +kernel) e ((State.wr_defer x _ _).trans (hk.defer.trans hd)), written_busStatus _ _, ?_, ?_, ?_,
    fun j hj => ?_⟩
  · rw [written_claim, State.wr_claim, hk.claim, hcl]
  · rw [written_on, State.on_wr_apart x PLAN_STAGE_PTR_PTR PLAN_STAGE_PTR_CLAIMED _ (by decide) (by decide)]
    simp only [State.on, State.rd, hk.ptr]
    exact hc
  · rw [written_rd, State.rd_wr_same x PLAN_STAGE_PTR_PTR _ (by decide), hu]
  · rw [written_byte, State.byte_wr, ← hu]
    exact hbytes j hj

theorem execPlanStagePtr_free {s : State} {p : BitVec 24} (hs : Reaches s PLAN_STAGE_DATA) (h : ∀ n, s.claim ≠ some (some n)) :
    Completes (.planStagePtr p) s fun t => t.busStatus = stOk ∧ t.claim = some none ∧ t.rd PLAN_STAGE_PTR_PTR = p.toNat / 4 * 4 := by
  obtain ⟨t, ht, htd, -⟩ := directStart_claimTake s
  have hfree : ∀ n, (directStart s).claim ≠ some (some n) := by rwa [(directStart_stage s).1]
  have hp := p.isLt
  have hv : (BitVec.ofNat 32 p.toNat).toNat = p.toNat := by simp; omega
  have hbit : nbit p.toNat 31 = false := by simp [nbit]; omega
  have e : blockWrite (directStart s) .direct PLAN_STAGE_PTR (BitVec.ofNat 32 p.toNat).toNat =
      ((claimSet t (some none)).wr PLAN_STAGE_PTR_PTR (p.toNat / 4 % 2 ^ 22 * 4), stOk) := by
    rw [blockWrite_stagePtr, hv, stagePtrEff_free hfree, ht, hbit, if_neg Bool.false_ne_true]
  have hd : (claimSet t (some none)).defer = [] := (claimSet_defer t _).trans htd
  have hcl := claimSet_claim t (some none)
  generalize claimSet t (some none) = u at e hd hcl
  refine ⟨_, regWriteOut_done hs.stagePtr rfl (by decide +kernel) e ((State.wr_defer u _ _).trans hd), written_busStatus _ _, ?_, ?_⟩
  · rw [written_claim, State.wr_claim, hcl]
  · rw [written_rd, State.rd_wr_same u PLAN_STAGE_PTR_PTR _ (by decide)]
    change p.toNat / 4 % 2 ^ 22 * 4 % 2 ^ 24 = _
    omega

theorem execPlanStageRelease_free {s : State} (hs : Reaches s PLAN_STAGE_DATA) (h : ∀ n, s.claim ≠ some (some n)) :
    Completes .planStageRelease s fun t => t.busStatus = stOk ∧ t.claim = none ∧ t.on PLAN_STAGE_PTR_CLAIMED = false := by
  obtain ⟨t, ht, htd, -⟩ := directStart_claimTake s
  have hfree : ∀ n, (directStart s).claim ≠ some (some n) := by rwa [(directStart_stage s).1]
  have hp := s.rd_lt PLAN_STAGE_PTR_PTR
  have hv : (BitVec.ofNat 32 (2 ^ 31 + s.rd PLAN_STAGE_PTR_PTR)).toNat = 2 ^ 31 + s.rd PLAN_STAGE_PTR_PTR := by
    simp only [BitVec.toNat_ofNat]
    change s.rd PLAN_STAGE_PTR_PTR < 2 ^ 24 at hp
    omega
  have hbit : nbit (2 ^ 31 + s.rd PLAN_STAGE_PTR_PTR) 31 = true := by
    change s.rd PLAN_STAGE_PTR_PTR < 2 ^ 24 at hp
    simp [nbit]
    omega
  have e : blockWrite (directStart s) .direct PLAN_STAGE_PTR (BitVec.ofNat 32 (2 ^ 31 + s.rd PLAN_STAGE_PTR_PTR)).toNat =
      (claimSet ((claimSet t (some none)).wr PLAN_STAGE_PTR_PTR ((2 ^ 31 + s.rd PLAN_STAGE_PTR_PTR) / 4 % 2 ^ 22 * 4)) none, stOk) := by
    rw [blockWrite_stagePtr, hv, stagePtrEff_free hfree, ht, hbit, if_pos rfl]
  have hd : (claimSet t (some none)).defer = [] := (claimSet_defer t _).trans htd
  generalize claimSet t (some none) = u at e hd
  have hd' : (u.wr PLAN_STAGE_PTR_PTR ((2 ^ 31 + s.rd PLAN_STAGE_PTR_PTR) / 4 % 2 ^ 22 * 4)).defer = [] := (State.wr_defer u _ _).trans hd
  generalize u.wr PLAN_STAGE_PTR_PTR ((2 ^ 31 + s.rd PLAN_STAGE_PTR_PTR) / 4 % 2 ^ 22 * 4) = x at e hd'
  refine ⟨_, regWriteOut_done hs.stagePtr rfl (by decide +kernel) e ((claimSet_defer x _).trans hd'), written_busStatus _ _, ?_, ?_⟩
  · rw [written_claim, claimSet_claim]
  · rw [written_on, claimSet_claimed]
    rfl

/-- While an operation holds the claim, a write of either register answers BUSY. -/
theorem regWriteOut_claimed {s : State} {a v : Nat} (hs : Reaches s a) (h4 : a % 4 = 0) (hm : hwCtrlOf a = none)
    (e : blockWrite (directStart s) .direct a (BitVec.ofNat 32 v).toNat = (directStart s, stBusy)) :
    ∃ t, regWriteOut s a v = .next t ∧ t.busStatus = stBusy ∧ t.claim = s.claim ∧ RegsKept (fun _ => false) s t ∧ t.bytes = s.bytes := by
  obtain ⟨hclaim, hdefer, hreg⟩ := directStart_stage s
  have hbytes : (directStart s).bytes = s.bytes := by rw [directStart_rest]
  refine ⟨_, regWriteOut_done hs h4 hm e hdefer, written_busStatus _ _, ?_, fun a _ => ?_, ?_⟩
  · rw [written_claim, hclaim]
  · rw [written_reg, hreg]
  · rw [written_bytes, hbytes]

/-- Settles O42: both registers' writes by the block's effect, with the claim free and with it held. -/
theorem planStaging : Obligations.PlanStaging := by
  intro v p s hs
  refine ⟨fun h => ⟨execPlanStageData_free hs h, execPlanStagePtr_free hs h, execPlanStageRelease_free hs h⟩, fun n hn c hc => ?_⟩
  have hclaim : (directStart s).claim = some (some n) := (directStart_stage s).1.trans hn
  have hdata : ∀ w, blockWrite (directStart s) .direct PLAN_STAGE_DATA w = (directStart s, stBusy) := fun w => by
    rw [blockWrite_stageData, stageDataEff_busy hclaim]
  have hptr : ∀ w, blockWrite (directStart s) .direct PLAN_STAGE_PTR w = (directStart s, stBusy) := fun w => by
    rw [blockWrite_stagePtr, stagePtrEff_busy hclaim]
  simp only [List.mem_cons, List.not_mem_nil, or_false] at hc
  rcases hc with rfl | rfl | rfl
  · exact regWriteOut_claimed hs rfl (by decide +kernel) (hdata _)
  · exact regWriteOut_claimed hs.stagePtr rfl (by decide +kernel) (hptr _)
  · exact regWriteOut_claimed hs.stagePtr rfl (by decide +kernel) (hptr _)

end Sys2Proof.Machine

/-! # Chip states, wake and clocks (O36) -/

namespace Sys2Proof.Machine
open Sys2Proof Sys2Proof.Laws

-- The side conditions below are default arguments that a tactic proves, and Lean runs such a tactic once what stands before it is checked.
set_option Elab.async false

/-! ## What only the commands of the chip's own state write

Whatever faces, lanes, ports, Survey, Assay and the plan's records do leaves four registers alone: FM_CHIP_CTRL, FM_CHIP_STATUS, WAKE_SRC and
BOARD_STATUS. It starts no session, and defers nothing. One lemma for each function that a change of the chip's state runs. -/

/-- The registers of the chip's state, its wake and its clocks (R333, R340, R458). -/
def chipWord (a : Nat) : Bool := a == FM_CHIP_CTRL || a == FM_CHIP_STATUS || a == WAKE_SRC || a == BOARD_STATUS

theorem chipWord_far {a : Nat} (h : 0x100010 < a) : chipWord a = false := by
  simp only [chipWord, Bool.or_eq_false_iff, beq_eq_false_iff_ne, FM_CHIP_CTRL, FM_CHIP_STATUS, WAKE_SRC, BOARD_STATUS]
  omega

/-- A register apart from those of the chip's state. -/
theorem hwAt_far (n : Nat) : 0x100010 < hwAt n := by
  unfold hwAt faceAt
  split
  · omega
  · split <;> decide

/-- The fields of the state that belong to the chip's state, beside the registers. -/
def State.held (s : State) : Option Plan × List Deferred × Nat × List Host.Cell × Nat × Bool × Bool :=
  (s.plan, s.defer, s.chipTo, s.flash, s.d2d, s.refALost, s.refBLost)

/-- `t` holds the chip's state of `s`. -/
structure Steady (s t : State) : Prop where
  regs : ∀ a, chipWord a = true → t.reg a = s.reg a
  held : t.held = s.held
  ids : t.sessions.map Session.id ⊆ s.sessions.map Session.id

section
variable {s₀ s t u : State}

theorem Steady.refl (s : State) : Steady s s := ⟨fun _ _ => rfl, rfl, List.Subset.refl _⟩

theorem Steady.trans (h : Steady s₀ s) (k : Steady s t) : Steady s₀ t :=
  ⟨fun a ha => (k.regs a ha).trans (h.regs a ha), k.held.trans h.held, List.Subset.trans k.ids h.ids⟩

theorem Steady.rd (h : Steady s t) (f : Fld) (hf : chipWord f.addr = true) : t.rd f = s.rd f := by simp only [State.rd, h.regs _ hf]

theorem Steady.on (h : Steady s t) (f : Fld) (hf : chipWord f.addr = true) : t.on f = s.on f := by simp only [State.on, h.rd f hf]

/-- Changes of fields that are neither registers, nor sessions, nor the chip's. -/
theorem Steady.same (h : Steady s₀ s) (e : (t.regs, t.sessions, t.held) = (s.regs, s.sessions, s.held) := by exact rfl) :
    Steady s₀ t := by
  simp only [Prod.mk.injEq] at e
  obtain ⟨hr, hs, hh⟩ := e
  exact h.trans ⟨fun _ _ => by simp only [State.reg, hr], hh, by rw [hs]; exact List.Subset.refl _⟩

theorem Steady.ite {c : Prop} [Decidable c] (h : Steady s₀ t) (k : Steady s₀ u) : Steady s₀ (if c then t else u) := by
  split
  · exact h
  · exact k

theorem Steady.ite_fst {α : Type} {c : Prop} [Decidable c] {x y : State × α} (h : Steady s₀ x.1) (k : Steady s₀ y.1) :
    Steady s₀ (if c then x else y).1 := by
  split
  · exact h
  · exact k

theorem Steady.foldl {α : Type} {g : State → α → State} {l : List α} (h : Steady s₀ s) (k : ∀ t x, Steady s₀ t → Steady s₀ (g t x)) :
    Steady s₀ (l.foldl g s) := by
  induction l generalizing s with
  | nil => exact h
  | cons x l ih => exact ih (k s x h)

theorem Steady.foldl_mem {α : Type} {g : State → α → State} {l : List α} (h : Steady s₀ s) (k : ∀ t, ∀ x ∈ l, Steady s₀ t → Steady s₀ (g t x)) :
    Steady s₀ (l.foldl g s) := by
  induction l generalizing s with
  | nil => exact h
  | cons x l ih => exact ih (k s x (by simp) h) fun t y hy => k t y (by simp [hy])

/-- A register apart changes. The address of a register of an array is its base and what its indices add to it, so the base decides. -/
theorem Steady.setReg (h : Steady s₀ s) {a : Nat} {w : Word}
    (ha : chipWord a = false := by exact chipWord_far (by (repeat apply Nat.lt_add_right); decide)) : Steady s₀ (s.setReg a w) :=
  h.trans ⟨fun _ hb => State.reg_setReg_other _ _ (by rintro rfl; rw [ha] at hb; cases hb), rfl, List.Subset.refl _⟩

theorem Steady.wr (h : Steady s₀ s) {x : Fld} {v : Nat}
    (hx : chipWord x.addr = false := by exact chipWord_far (by (repeat apply Nat.lt_add_right); decide)) : Steady s₀ (s.wr x v) :=
  h.setReg hx

theorem Steady.wrs_of (h : Steady s₀ s) {l : List (Fld × Nat)} (hl : ∀ e ∈ l, chipWord e.1.addr = false) : Steady s₀ (s.wrs l) := by
  induction l generalizing s with
  | nil => exact h
  | cons e l ih => exact ih (h.wr (hl e (by simp))) fun x hx => hl x (by simp [hx])

theorem Steady.wrs (h : Steady s₀ s) {l : List (Fld × Nat)}
    (hl : ∀ e ∈ l, 0x100010 < e.1.addr := by
      simp only [List.forall_mem_cons, List.forall_mem_nil, and_true]
      (repeat' apply And.intro) <;> (repeat apply Nat.lt_add_right) <;> decide) : Steady s₀ (s.wrs l) :=
  h.wrs_of fun e he => chipWord_far (hl e he)

theorem Steady.dropRegs (h : Steady s₀ s) {p : ℕ → Bool} (hp : ∀ a, chipWord a = true → p a = false) : Steady s₀ (s.dropRegs p) :=
  h.trans ⟨fun a ha => by rw [State.reg_dropRegs, if_neg (by simp [hp a ha])], rfl, List.Subset.refl _⟩

/-- A block of registers that begins above those of the chip's state. -/
theorem chipWord_block {lo hi : Nat} (a : Nat) (ha : chipWord a = true) (h : 0x100010 < lo := by (repeat apply Nat.lt_add_right); decide) :
    (decide (lo ≤ a) && decide (a < hi)) = false := by
  simp only [chipWord, Bool.or_eq_true, beq_iff_eq, FM_CHIP_CTRL, FM_CHIP_STATUS, WAKE_SRC, BOARD_STATUS] at ha
  rw [decide_eq_false (by omega : ¬lo ≤ a), Bool.false_and]

theorem Steady.incSat (h : Steady s₀ s) {x : Fld}
    (hx : chipWord x.addr = false := by exact chipWord_far (by (repeat apply Nat.lt_add_right); decide)) : Steady s₀ (s.incSat x) := h.wr hx

theorem Steady.incMod (h : Steady s₀ s) {x : Fld}
    (hx : chipWord x.addr = false := by exact chipWord_far (by (repeat apply Nat.lt_add_right); decide)) : Steady s₀ (s.incMod x) := h.wr hx

theorem Steady.setBytes (h : Steady s₀ s) {a i b : ℕ} {l : List ℕ} : Steady s₀ (s.setBytes a i b l) := by
  induction l generalizing s b with
  | nil => exact h
  | cons v l ih => exact ih h.same

theorem Steady.setTag (h : Steady s₀ s) {a i w : ℕ} {y : Option WordTag} : Steady s₀ (s.setTag a i w y) := h.same

theorem Steady.useFlip (h : Steady s₀ s) {a i w : ℕ} : Steady s₀ (useFlip s a i w) := .ite h.wr h

theorem Steady.memPutWord (h : Steady s₀ s) {a i w data : ℕ} : Steady s₀ (memPutWord s a i w data) := h.useFlip.setBytes.setTag

theorem Steady.memClear (h : Steady s₀ s) {p : ℕ → ℕ → ℕ → Bool} : Steady s₀ (memClear s p) := h.same

theorem Steady.tookFree (h : Steady s₀ s) : Steady s₀ s.tookFree := h.same

theorem Steady.memPutWords (h : Steady s₀ s) {a i w : ℕ} {l : List ℕ} : Steady s₀ (memPutWords s a i w l) := by
  induction l generalizing s w with
  | nil => exact h
  | cons d l ih => exact ih h.memPutWord

theorem Steady.send (h : Steady s₀ s) {m : Msg} : Steady s₀ (s.send m) := by
  unfold Machine.State.send
  extract_lets w
  split
  · split
    · exact h.tookFree.useFlip.same
    · exact h.tookFree.same
  · exact h.same

theorem Steady.sendNotices (h : Steady s₀ s) {ws : List ℕ} : Steady s₀ (sendNotices s ws) := by
  unfold Machine.sendNotices
  extract_lets upd out
  have hid : (s.sessions.map upd).map Session.id = s.sessions.map Session.id := by
    refine (List.map_map ..).trans (List.map_congr_left fun x _ => ?_)
    simp only [Function.comp, upd]
    split
    · rfl
    · split <;> rfl
  have hs : Steady s { s with sessions := s.sessions.map upd } := ⟨fun _ _ => rfl, rfl, by rw [hid]; exact List.Subset.refl _⟩
  exact (h.trans hs).foldl fun _ _ hu => hu.send

theorem Steady.putGap (h : Steady s₀ s) {b : Bool} : Steady s₀ { s with gap := b } := h.same
theorem Steady.putFrozen (h : Steady s₀ s) {n : ℕ} : Steady s₀ { s with frozenLost := n } := h.same
theorem Steady.putNext (h : Steady s₀ s) {n : ℕ} : Steady s₀ { s with archNext := n } := h.same

theorem Steady.storeRecord (h : Steady s₀ s) {e : Ev} {notified : Bool} : Steady s₀ (storeRecord s e notified) := h.memPutWords.wr.putGap

theorem Steady.loseEvent (h : Steady s₀ s) {x : Fld} (hx : 0x100010 < x.addr := by decide) : Steady s₀ (loseEvent s x) :=
  (h.incSat (chipWord_far hx)).putGap

theorem Steady.storeOwn (h : Steady s₀ s) {e : Ev} : Steady s₀ (storeOwn s e) := .ite h.storeRecord.sendNotices h.storeRecord

theorem Steady.archiveLoss (h : Steady s₀ s) : Steady s₀ (archiveLoss s) := .ite h.putNext.incSat.storeOwn h

theorem Steady.storeEvent (h : Steady s₀ s) {e : Ev} {notified : Bool} : Steady s₀ (storeEvent s e notified) :=
  .ite h.loseEvent.putFrozen (.ite h.loseEvent (.ite h.storeOwn.wr.loseEvent h.storeRecord))

theorem Steady.capFireOne (h : Steady s₀ s) {c time pos : ℕ} {short : Bool} : Steady s₀ (capFireOne s c time pos short) := .ite h.wrs h

theorem Steady.capFire (h : Steady s₀ s) {c time pos : ℕ} {short : Bool} : Steady s₀ (capFire s c time pos short) :=
  .ite (h.foldl fun _ _ ht => .ite ht.capFireOne ht) h

theorem Steady.capOnEvent (h : Steady s₀ s) {code : ℕ} : Steady s₀ (capOnEvent s code) := h.foldl fun _ _ ht => .ite ht.tookFree.capFire ht

theorem Steady.recordEvent (h : Steady s₀ s) {e : Ev} {notify : Bool} : Steady s₀ (recordEvent s e notify) :=
  .ite h.storeEvent.sendNotices h.storeEvent

theorem Steady.tallyEvent (h : Steady s₀ s) {e : Ev} : Steady s₀ (tallyEvent s e) := .ite h (Steady.ite h.archiveLoss h).recordEvent

theorem Steady.logEvent (h : Steady s₀ s) {e : Ev} : Steady s₀ (logEvent s e) := h.capOnEvent.tallyEvent

theorem Steady.stickyEvent (h : Steady s₀ s) {x : Fld} {e : Ev} (hx : 0x100010 < x.addr := by (repeat apply Nat.lt_add_right); decide) :
    Steady s₀ (stickyEvent s x e) :=
  .ite h (h.wr (chipWord_far hx)).logEvent

theorem chipWord_hewer (n k : Nat) : chipWord (hwAt n + k) = false := chipWord_far (Nat.lt_add_right k (hwAt_far n))

theorem Steady.raiseIrq (h : Steady s₀ s) {n i : ℕ} : Steady s₀ (raiseIrq s n i) :=
  .ite ((h.wr (chipWord_hewer n _)).wr (chipWord_hewer n _)) (h.wr (chipWord_hewer n _))

theorem Steady.pcAdd (h : Steady s₀ s) {b i n : ℕ} : Steady s₀ (pcAdd s b i n) := by
  have hs : Steady s₀ (s.addCtr (PC_COUNT b i) n) := h.same
  exact .ite (.ite hs.wr.logEvent hs.wr) hs

theorem Steady.pcCount (h : Steady s₀ s) {b ev lane n : ℕ} : Steady s₀ (pcCount s b ev lane n) := h.foldl fun _ _ ht => .ite ht.pcAdd ht

theorem Steady.setRxd (h : Steady s₀ s) {f d : ℕ} {r : RxdX} : Steady s₀ (s.setRxd f d r) := h.same
theorem Steady.setLane (h : Steady s₀ s) {f p : ℕ} {x : LaneX} : Steady s₀ (s.setLane f p x) := h.same
theorem Steady.setFace (h : Steady s₀ s) {f : ℕ} {x : FaceX} : Steady s₀ (s.setFace f x) := h.same
theorem Steady.dropCtrs (h : Steady s₀ s) {p : ℕ → Bool} : Steady s₀ (s.dropCtrs p) := h.same

/-! ## Machine/Mem.lean: memory, its tags and the tally -/

theorem Steady.bankUe (h : Steady s₀ s) {f d bin : ℕ} : Steady s₀ (bankUe s f d bin) := h.setRxd.wr

theorem Steady.surveyLost (h : Steady s₀ s) {a w : ℕ} : Steady s₀ (surveyLost s a w) := by
  unfold Machine.surveyLost
  extract_lets drop g
  have hd (t x) (ht : Steady s₀ t) : Steady s₀ (drop t x) := ht.same
  exact .ite (hd _ _ h.wr) (.ite (.ite (hd _ _ h) h) h)

theorem Steady.ownerAct (h : Steady s₀ s) {a w : ℕ} {r : Region} : Steady s₀ (ownerAct s a w r) := by
  unfold Machine.ownerAct
  split
  · split
    · split
      · exact h.bankUe
      · split
        · exact h.wr
        · exact h
    · exact h
  · exact h.surveyLost
  · exact h.same
  · exact h

theorem Steady.ownerNotice (h : Steady s₀ s) {a i w : ℕ} : Steady s₀ (ownerNotice s a i w) := by
  unfold Machine.ownerNotice
  split
  · exact h.logEvent
  · split
    · exact h
    · exact (Steady.ite h.logEvent.incSat.logEvent h.logEvent.incSat).ownerAct

theorem Steady.memErr (h : Steady s₀ s) {kind src a i w synd : ℕ} : Steady s₀ (memErr s kind src a i w synd) := h.wrs

theorem Steady.ceEvent (h : Steady s₀ s) {src a i w synd : ℕ} : Steady s₀ (ceEvent s src a i w synd) := h.memErr.incSat.pcCount.logEvent

theorem Steady.ueEvent (h : Steady s₀ s) {src a i w synd : ℕ} : Steady s₀ (ueEvent s src a i w synd) := h.memErr.incSat.pcCount.logEvent

theorem Steady.memReadWord (h : Steady s₀ s) {a i w : ℕ} : Steady s₀ (memReadWord s a i w).1 := by
  conv in Machine.memReadWord => delta Machine.memReadWord
  split
  · exact h
  · split
    · exact h
    · exact h.setTag.ceEvent
    · exact .ite_fst h h.setTag.ueEvent.ownerNotice

theorem Steady.memMerge (h : Steady s₀ s) {a i w o : ℕ} {new : List ℕ} : Steady s₀ (memMerge s a i w o new) := by
  conv in Machine.memMerge => delta Machine.memMerge
  split
  · exact h.memPutWord
  · split
    · exact h.memPutWord
    · exact h.ceEvent.memPutWord
    · exact .ite h.memPutWord.setTag h.memPutWord.setTag.ueEvent.ownerNotice

theorem Steady.memPartial (h : Steady s₀ s) {a i w o : ℕ} {new : List ℕ} : Steady s₀ (memPartial s a i w o new) := h.pcCount.memMerge

theorem Steady.memWriteWord (h : Steady s₀ s) {a i w data : ℕ} : Steady s₀ (memWriteWord s a i w data) := .ite h.memPutWord.same h.memPutWord

theorem Steady.memWriteIn (h : Steady s₀ s) {a i b : ℕ} {new : List ℕ} : Steady s₀ (memWriteIn s a i b new) := .ite h.memWriteWord h.memPartial

theorem Steady.memWriteRun (h : Steady s₀ s) {a i k o : ℕ} {bs : List ℕ} : Steady s₀ (memWriteRun s a i k o bs) := by
  induction k generalizing s o bs with
  | zero => exact h
  | succ k ih =>
    cases bs with
    | nil => exact h
    | cons b bs => exact .ite (ih h.memWriteIn) (ih h.memWriteIn)

/-! ## Machine/Link.lean: faces, lanes, ports and what ends early -/

theorem Steady.setLaneDp (h : Steady s₀ s) {f p d : ℕ} : Steady s₀ (setLaneDp s f p d) := .ite h.wr h.wr

theorem Steady.setTxLaneDp (h : Steady s₀ s) {f p d : ℕ} : Steady s₀ (setTxLaneDp s f p d) := .ite h.wr h.wr

theorem Steady.setPosLane (h : Steady s₀ s) {f k p : ℕ} : Steady s₀ (setPosLane s f k p) := h.wr

theorem Steady.mapChanged (h : Steady s₀ s) {f p : ℕ} : Steady s₀ (mapChanged s f p) := h.incMod.logEvent

theorem Steady.reliefEval (h : Steady s₀ s) {f : ℕ} : Steady s₀ (reliefEval s f) := .ite h.wr.logEvent h.wr

theorem Steady.setPort (h : Steady s₀ s) {n : ℕ} {x : PortX} : Steady s₀ (s.setPort n x) := h.same

theorem Steady.emitShow (h : Steady s₀ s) {f : ℕ} : Steady s₀ (emitShow s f) := h.foldl fun _ _ ht => ht.wr

theorem Steady.setEmit (h : Steady s₀ s) {f mask : ℕ} : Steady s₀ (setEmit s f mask) := h.setFace.emitShow

theorem Steady.fillForget (h : Steady s₀ s) {n : ℕ} {host line : Bool} : Steady s₀ (fillForget s n host line) := .ite h.setPort h

theorem Steady.portEval (h : Steady s₀ s) {n : ℕ} : Steady s₀ (portEval s n) :=
  .ite h (.ite h.fillForget.wrs (Steady.ite h.fillForget.wrs.wr h.fillForget.wrs.wr).logEvent)

theorem Steady.portsEval (h : Steady s₀ s) {ns : List ℕ} : Steady s₀ (portsEval s ns) := h.foldl fun _ _ ht => ht.portEval

theorem Steady.laneOutEval (h : Steady s₀ s) {f p : ℕ} : Steady s₀ (laneOutEval s f p) := by
  conv in Machine.laneOutEval => delta Machine.laneOutEval
  extract_lets t
  have ht : Steady s₀ t := h.foldl fun _ _ ht => ht.wr
  split
  · exact ht.portEval
  · exact ht

theorem Steady.corrShow (h : Steady s₀ s) {f d p : ℕ} : Steady s₀ (corrShow s f d p) :=
  (h.dropRegs fun a ha => chipWord_block a ha).wrs.foldl fun _ _ ht => ht.wrs

theorem Steady.corrRestore (h : Steady s₀ s) {f p : ℕ} : Steady s₀ (corrRestore s f p) := h.foldl fun _ _ ht => ht.corrShow

theorem Steady.detectorFor (h : Steady s₀ s) {f p lvl : ℕ} : Steady s₀ (detectorFor s f p lvl) := h.foldl fun _ _ ht => ht.wr

theorem Steady.marginNextEval (h : Steady s₀ s) {f p : ℕ} : Steady s₀ (marginNextEval s f p) := .ite (h.foldl fun _ _ ht => ht.wr) h

theorem Steady.effortApply (h : Steady s₀ s) {f p lvl : ℕ} : Steady s₀ (effortApply s f p lvl) := h.wr.incMod.detectorFor.marginNextEval.pcCount

theorem Steady.effortE0 (h : Steady s₀ s) {f p : ℕ} : Steady s₀ (effortE0 s f p) := .ite h.detectorFor h.effortApply

theorem Steady.effortRequest (h : Steady s₀ s) {f p lvl : ℕ} : Steady s₀ (effortRequest s f p lvl) := .ite h.wrs h.wrs

theorem Steady.setSeam (h : Steady s₀ s) {f p : ℕ} {x : SeamX} : Steady s₀ (s.setSeam f p x) := h.same

theorem Steady.episodesEnd (h : Steady s₀ s) {n : ℕ} : Steady s₀ (episodesEnd s n) := h.same.foldl fun _ _ ht => ht.wrs

theorem Steady.seamOff (h : Steady s₀ s) {f p : ℕ} : Steady s₀ (seamOff s f p) := by
  conv in Machine.seamOff => delta Machine.seamOff
  obtain ⟨portOf, e⟩ : ∃ g, g = Machine.portOf := ⟨_, rfl⟩
  rw [← e]
  extract_lets x t
  split
  · exact h
  · split
    · extract_lets t1
      split
      · exact h.setSeam.wrs.episodesEnd
      · exact h.setSeam.wrs
    · exact h.setSeam

theorem Steady.rxdClearMem (h : Steady s₀ s) {f d : ℕ} : Steady s₀ (rxdClearMem s f d) := h.memClear

theorem Steady.rxdRegsReset (h : Steady s₀ s) {f d lane role : ℕ} : Steady s₀ (rxdRegsReset s f d lane role) :=
  (h.dropRegs fun a ha => chipWord_block a ha).setRxd.wrs

theorem Steady.rxdOff (h : Steady s₀ s) {f d role : ℕ} : Steady s₀ (rxdOff s f d role) := h.rxdRegsReset.rxdClearMem

theorem Steady.assayIdle (h : Steady s₀ s) {f : ℕ} : Steady s₀ (assayIdle s f) := h.wrs

theorem Steady.assayHold (h : Steady s₀ s) {f cause : ℕ} : Steady s₀ (assayHold s f cause) := h.same

theorem Steady.rotationAbandon (h : Steady s₀ s) {f cause cls : ℕ} : Steady s₀ (rotationAbandon s f cause cls) :=
  .ite h (Steady.ite h.rxdOff.wr h.wrs).assayIdle.assayHold.wrs.incSat.logEvent

theorem Steady.bistRelease (h : Steady s₀ s) {f : ℕ} : Steady s₀ (bistRelease s f) := by
  unfold Machine.bistRelease
  extract_lets d t t1
  have ht1 : Steady s₀ t1 := by
    unfold t1
    split
    · split
      · exact h.rxdRegsReset
      · exact h.rxdOff
    · exact h.wrs.wr.emitShow
  exact ht1.assayIdle

theorem Steady.abandonEvent (h : Steady s₀ s) {f cls : ℕ} : Steady s₀ (abandonEvent s f cls) := h.logEvent

theorem Steady.bistAbandon (h : Steady s₀ s) {f cause cls : ℕ} : Steady s₀ (bistAbandon s f cause cls) :=
  .ite h.bistRelease.assayHold.wrs.abandonEvent h

theorem Steady.assayAbandon (h : Steady s₀ s) {f cause cls : ℕ} : Steady s₀ (assayAbandon s f cause cls) := h.rotationAbandon.bistAbandon

theorem Steady.standInEnd (h : Steady s₀ s) {f p : ℕ} : Steady s₀ (standInEnd s f p) :=
  .ite (Steady.ite h.setLane.wr h.setLane).corrRestore h

theorem Steady.calItems (h : Steady s₀ s) {q : List CalItem} : Steady s₀ { s with calQ := q } := h.same

theorem Steady.calRunEnd (h : Steady s₀ s) {f p result : ℕ} : Steady s₀ (calRunEnd s f p result) := by
  unfold Machine.calRunEnd
  extract_lets t upd t1 t2
  have ht1 : Steady s₀ t1 := h.standInEnd.calItems
  exact .ite ht1.wrs.wr h.standInEnd

theorem Steady.calAbandon (h : Steady s₀ s) {f p cls : ℕ} : Steady s₀ (calAbandon s f p cls) := .ite h.calRunEnd.abandonEvent h.calRunEnd

/-! ## Machine/Capture.lean: taps, streams, captures and the archive -/

theorem Steady.setCap (h : Steady s₀ s) {c : ℕ} {x : ObsRec} : Steady s₀ (s.setCap c x) := h.same

theorem Steady.setStream (h : Steady s₀ s) {i : ℕ} {x : StreamX} : Steady s₀ (s.setStream i x) := h.same

theorem Steady.tapSwapNow (h : Steady s₀ s) {f at_ : ℕ} : Steady s₀ (tapSwapNow s f at_) := h.wrs.setFace

theorem Steady.tapRestartNow (h : Steady s₀ s) {f : ℕ} : Steady s₀ (tapRestartNow s f) :=
  .ite (h.incMod.wrs.setFace).tapSwapNow (h.incMod.wrs.setFace)

theorem Steady.tapGap (h : Steady s₀ s) {f : ℕ} : Steady s₀ (tapGap s f) := h.foldl fun _ _ ht => .ite ht.setStream ht

theorem Steady.tapEval (h : Steady s₀ s) {f : ℕ} : Steady s₀ (tapEval s f) := .ite h (.ite h.wr (.ite h.wr.tapRestartNow.tapGap h.wr.setFace))

theorem Steady.streamClose (h : Steady s₀ s) {i : ℕ} : Steady s₀ (streamClose s i) := .ite (Steady.ite h.wr h).wrs.setStream h

theorem Steady.streamsClose (h : Steady s₀ s) {p : State → ℕ → Bool} : Steady s₀ (streamsClose s p) := h.foldl fun _ _ ht => .ite ht.streamClose ht

theorem Steady.capFull (h : Steady s₀ s) {c : ℕ} {wrapped : Bool} {end_ : ℕ} {trunc known : Bool} : Steady s₀ (capFull s c wrapped end_ trunc known) :=
  h.wrs.setCap

theorem Steady.capTrunc (h : Steady s₀ s) {c : ℕ} : Steady s₀ (capTrunc s c) := .ite h.tookFree.capFull.logEvent h

theorem Steady.capEnd (h : Steady s₀ s) {f p : ℕ} : Steady s₀ (capEnd s f p) := h.foldl fun _ _ ht => .ite ht.capTrunc ht

theorem Steady.obsLaneOff (h : Steady s₀ s) {f p : ℕ} : Steady s₀ (obsLaneOff s f p) := h.capEnd.tapEval

theorem Steady.capDiscardAll (h : Steady s₀ s) : Steady s₀ (capDiscardAll s) := .ite (h.streamsClose.foldl fun _ _ ht => ht.wr.setCap).logEvent h

theorem Steady.archShow (h : Steady s₀ s) : Steady s₀ (archShow s) := h.wrs

/-! ## Machine/Domains.lean: domains -/

theorem Steady.accRearm (h : Steady s₀ s) : Steady s₀ (accRearm s) := .ite h h.same

/-! ## Machine/Lane.lean: lanes -/

theorem Steady.laneEvent (h : Steady s₀ s) {f p b a0 : ℕ} {fld : Fld} (hf : 0x100010 < fld.addr) : Steady s₀ (laneEvent s f p b a0 fld) :=
  h.stickyEvent hf

theorem Steady.softDrop (h : Steady s₀ s) {f d : ℕ} : Steady s₀ (softDrop s f d) := h.setRxd

theorem Steady.setAcq (h : Steady s₀ s) {f p st : ℕ} : Steady s₀ (setAcq s f p st) := by
  unfold Machine.setAcq
  extract_lets old t x t1 t2
  have ht1 : Steady s₀ t1 := h.wrs.setLane
  have ht2 : Steady s₀ t2 := .ite ht1 (ht1.wr.foldl fun _ _ ht => ht.wrs.softDrop)
  exact .ite ht2.raiseIrq ht2

theorem Steady.enterDetect (h : Steady s₀ s) {f p : ℕ} : Steady s₀ (enterDetect s f p) := h.setAcq.wrs

theorem Steady.laneDrops (h : Steady s₀ s) {f p cls : ℕ} : Steady s₀ (laneDrops s f p cls) :=
  (Steady.ite h.rotationAbandon h).standInEnd.calAbandon.seamOff

theorem Steady.laneToOff (h : Steady s₀ s) {f p : ℕ} : Steady s₀ (laneToOff s f p) :=
  .ite h (h.laneDrops.setLane.foldl fun _ _ ht => ht.wr).setAcq.wrs.effortE0.laneOutEval.obsLaneOff

theorem Steady.laneFromOff (h : Steady s₀ s) {f p : ℕ} : Steady s₀ (laneFromOff s f p) :=
  .ite (Steady.ite h.enterDetect.setLane.wrs h.enterDetect.setLane.wrs.wr).tapEval h

theorem Steady.laneEval (h : Steady s₀ s) {f p : ℕ} : Steady s₀ (laneEval s f p) := .ite h.laneFromOff h.laneToOff

theorem Steady.lanesEval (h : Steady s₀ s) {f : ℕ} : Steady s₀ (lanesEval s f) := h.foldl fun _ _ ht => ht.laneEval

theorem lossField_far (f p cause : Nat) : 0x100010 < (lossField f p cause).addr := by
  unfold lossField
  split <;> (repeat apply Nat.lt_add_right) <;> decide

theorem Steady.laneLossCore (h : Steady s₀ s) {f p cause : ℕ} : Steady s₀ (laneLossCore s f p cause) := by
  unfold Machine.laneLossCore
  extract_lets wasLocked dest t t1 t2 l t3 x t4 t5 t6
  have ht2 : Steady s₀ t2 := (h.wr.laneEvent (lossField_far f p cause)).laneDrops
  have ht3 : Steady s₀ t3 := .ite ht2.wr.setLane ht2
  have ht4 : Steady s₀ t4 := ht3.setLane
  have ht5 : Steady s₀ t5 := .ite ht4.enterDetect ht4.setAcq
  have ht6 : Steady s₀ t6 := .ite ht5 ht5.wr
  exact ht6.effortE0.laneOutEval

theorem Steady.modeEnCheck (h : Steady s₀ s) {f : ℕ} : Steady s₀ (modeEnCheck s f) := h.foldl fun _ _ ht => .ite ht.laneLossCore ht

/-! ## Machine/Ddr.lean: DDR -/

theorem Steady.ddrReadW (h : Steady s₀ s) {w : ℕ} : Steady s₀ (ddrReadW s w).1 := by
  conv in Machine.ddrReadW => delta Machine.ddrReadW
  dsimp only
  split
  · exact .ite h.pcCount h
  · exact (Steady.ite h.pcCount h).memReadWord

theorem Steady.ddrWriteLine (h : Steady s₀ s) {l o : ℕ} {bs : List ℕ} : Steady s₀ (ddrWriteLine s l o bs) := by
  unfold Machine.ddrWriteLine
  dsimp only
  refine .pcCount (.foldl (.ite h.pcCount.pcCount h) fun t x ht => ?_)
  split
  · exact ht.memWriteWord
  · split
    · exact ht.memMerge
    · exact .ite ht ht.memPutWord

theorem Steady.ddrWrite (h : Steady s₀ s) {k a : ℕ} {bs : List ℕ} : Steady s₀ (ddrWrite s k a bs) := by
  induction k generalizing s a bs with
  | zero => exact h
  | succ k ih => exact .ite h (ih h.ddrWriteLine)

theorem Steady.ddrReadRun (h : Steady s₀ s) {first : Bool} {w k : ℕ} : Steady s₀ (ddrReadRun s first w k).1 := by
  induction k generalizing s first w with
  | zero => exact h
  | succ k ih => exact .ite_fst (Steady.ite h.pcCount h).ddrReadW (ih (Steady.ite h.pcCount h).ddrReadW)

theorem Steady.ddrRead (h : Steady s₀ s) {a n : ℕ} : Steady s₀ (ddrRead s a n).1 := h.ddrReadRun

/-! ## Machine/Otp.lean: OTP and the burn -/

theorem Steady.otpShow (h : Steady s₀ s) : Steady s₀ (otpShow s) := h.wrs_of (by simp [chipWord])

theorem Steady.limitsShow (h : Steady s₀ s) {f : ℕ} : Steady s₀ (limitsShow s f) := h.setReg.setReg

theorem Steady.sealBurn (h : Steady s₀ s) {r : SealRec} : Steady s₀ (sealBurn s r) := .ite h.same h.same.otpShow.logEvent

theorem Steady.faceMapReset (h : Steady s₀ s) {f : ℕ} : Steady s₀ (faceMapReset s f) := by
  unfold Machine.faceMapReset
  extract_lets rs has rx tx subs pos t t1 t2 t3 t4
  have ht3 : Steady s₀ t3 := (h.wrs.foldl fun _ _ hu => hu.setLaneDp.setTxLaneDp).wrs.foldl fun _ _ hu => hu.setPosLane
  have ht4 : Steady s₀ t4 := by
    clear_value subs t3
    unfold t4
    split
    · exact ht3
    · extract_lets d e u rd te v
      have hu : Steady s₀ u := ht3.setPosLane
      have hv : Steady s₀ v := .ite hu.setLaneDp.setLaneDp hu.setLaneDp.setLaneDp.wr
      exact .ite hv.setTxLaneDp.setTxLaneDp hv.setTxLaneDp.setTxLaneDp.wr
  exact ht4.wr

theorem Steady.sliceSealsShow (h : Steady s₀ s) {f : ℕ} : Steady s₀ (sliceSealsShow s f) := by
  unfold Machine.sliceSealsShow
  refine .foldl h fun t x ht => ?_
  split
  · exact ht
  · exact ht.wrs
  · exact ht.wrs

/-! ## Machine/Optics.lean: optics -/

theorem Steady.fsbPut (h : Steady s₀ s) {f : ℕ} {x : Fsb} : Steady s₀ (fsbPut s f x) := h.setFace

theorem Steady.engWrite (h : Steady s₀ s) {f lane reg data : ℕ} : Steady s₀ (engWrite s f lane reg data) := h.fsbPut

theorem Steady.engPower (h : Steady s₀ s) {f st : ℕ} : Steady s₀ (engPower s f st) := h.engWrite

theorem Steady.urgentFrame (h : Steady s₀ s) {f : ℕ} : Steady s₀ (urgentFrame s f) := h.setFace

theorem Steady.rampLane (h : Steady s₀ s) {f p step : ℕ} : Steady s₀ (rampLane s f p step) := by
  unfold Machine.rampLane
  extract_lets t
  have ht : Steady s₀ t := .ite h.engWrite.engWrite (.ite h.engWrite h)
  exact .ite ht.engWrite.engWrite ht.engWrite

theorem Steady.lightOffLanes (h : Steady s₀ s) {f mask : ℕ} : Steady s₀ (lightOffLanes s f mask) :=
  (h.foldl fun _ _ ht => .ite ht.engWrite ht).setFace.setEmit

/-- ELS_BANK lies below the registers of the chip's state: the face names one of four banks. -/
theorem Steady.elsEval (h : Steady s₀ s) {f : ℕ} (hf : f < 16) : Steady s₀ (elsEval s f) := by
  have hb : chipWord (ELS_BANK (f / 4)) = false := by
    simp only [chipWord, Bool.or_eq_false_iff, beq_eq_false_iff_ne, ELS_BANK, FM_CHIP_CTRL, FM_CHIP_STATUS, WAKE_SRC, BOARD_STATUS]
    omega
  exact (Steady.ite (h.wr hb) h).foldl fun _ _ ht => .ite ht.wr ht

theorem Steady.setRail (h : Steady s₀ s) {c : ℕ} {x : RailX} : Steady s₀ (s.setRail c x) := h.same

theorem railVoltF_far (c : Nat) : 0x100010 < (railVoltF c).addr := by
  unfold railVoltF
  split <;> exact Nat.lt_add_right _ (by decide)

theorem railMarginF_far (c : Nat) : 0x100010 < (railMarginF c).addr := by
  unfold railMarginF
  split <;> exact Nat.lt_add_right _ (by decide)

theorem Steady.railCmd (h : Steady s₀ s) {c mv : ℕ} : Steady s₀ (railCmd s c mv) := .ite h (h.wr (chipWord_far (railVoltF_far c))).setRail

theorem Steady.faceRailApply (h : Steady s₀ s) {e : ℕ} : Steady s₀ (faceRailApply s e) := .ite h h.railCmd

theorem Steady.dpRoles (h : Steady s₀ s) {f : ℕ} : Steady s₀ (dpRoles s f) := by
  unfold Machine.dpRoles
  extract_lets t
  have ht : Steady s₀ t := by
    unfold t
    refine .foldl h fun t x ht => ?_
    split
    · exact ht.wrs
    · exact ht.wrs
  refine .foldl ht fun t x hu => ?_
  split
  · exact hu.wrs
  · exact hu.wrs

theorem Steady.faceDpReset (h : Steady s₀ s) {f : ℕ} : Steady s₀ (faceDpReset s f) := by
  unfold Machine.faceDpReset
  extract_lets t t1 t2
  have ht : Steady s₀ t := h.dropRegs fun a ha => chipWord_block a ha
  have ht2 : Steady s₀ t2 := ht.dropCtrs.memClear
  have ht3 : Steady s₀ { t2 with rxds := tabDrop (fun k => k / 9 == f) t2.rxds, shapes := tabDrop (fun k => k / 9 == f) t2.shapes } := ht2.same
  exact ht3.dpRoles

theorem Steady.laneSeal (h : Steady s₀ s) {f p kind k reason : ℕ} : Steady s₀ (laneSeal s f p kind k reason) :=
  h.wr.sealBurn.lightOffLanes.laneEval.reliefEval

theorem Steady.sealPolicy (h : Steady s₀ s) {f p : ℕ} : Steady s₀ (sealPolicy s f p) := by
  unfold Machine.sealPolicy
  split
  · exact h
  · split
    · exact h
    · exact .ite h.wr.stickyEvent (.ite h h.wr.laneSeal.portEval)

theorem Steady.waitingPolicy (h : Steady s₀ s) {f : ℕ} : Steady s₀ (waitingPolicy s f) := h.setFace.foldl fun _ _ ht => ht.sealPolicy

theorem Steady.p8Off (h : Steady s₀ s) {f : ℕ} : Steady s₀ (p8Off s f) := by
  unfold Machine.p8Off
  extract_lets t d e t1 t2 t3
  have ht1 : Steady s₀ t1 := h.lightOffLanes.setLaneDp.setTxLaneDp
  have ht2 : Steady s₀ t2 := .ite ht1 ht1.rxdOff
  have ht3 : Steady s₀ t3 := .ite ht2 ht2.wrs
  exact ht3.mapChanged.laneEval

theorem Steady.sealAbandon (h : Steady s₀ s) {f result cls : ℕ} : Steady s₀ (sealAbandon s f result cls) := by
  unfold Machine.sealAbandon
  split
  · exact h
  · extract_lets k init x t fails _ t1 t2 t3
    have ht3 : Steady s₀ t3 := h.wrs.setFace.p8Off.logEvent.modeEnCheck
    exact .ite (Steady.ite ht3.sealPolicy ht3).waitingPolicy ht3

theorem Steady.lightOut (h : Steady s₀ s) {f : ℕ} : Steady s₀ (lightOut s f) := h.lightOffLanes.setFace.wr

theorem Steady.enterOpt (h : Steady s₀ s) {f st : ℕ} : Steady s₀ (enterOpt s f st) := h.wrs.accRearm.faceRailApply

theorem Steady.tokenDraw (h : Steady s₀ s) {f : ℕ} : Steady s₀ (tokenDraw s f) := h.tookFree.setFace

theorem Steady.duplexToReceive (h : Steady s₀ s) {f : ℕ} (hf : f < 16) : Steady s₀ (duplexToReceive s f) := by
  unfold Machine.duplexToReceive
  extract_lets t t1 t2
  have ht : Steady s₀ t := .ite h.rotationAbandon h
  have ht1 : Steady s₀ t1 := .ite ht.tokenDraw ht
  have ht2 : Steady s₀ t2 := ht1.lightOut.engPower.enterOpt
  exact ht2.elsEval hf

theorem Steady.receiveToSynth (h : Steady s₀ s) {f : ℕ} : Steady s₀ (receiveToSynth s f) :=
  h.assayAbandon.sealAbandon.enterOpt.lanesEval.engPower.capEnd.tapEval

theorem Steady.synthToStandby (h : Steady s₀ s) {f : ℕ} : Steady s₀ (synthToStandby s f) := h.enterOpt.wrs.fsbPut

theorem Steady.toSleep (h : Steady s₀ s) {f : ℕ} (hf : f < 16) : Steady s₀ (toSleep s f) := by
  unfold Machine.toSleep
  extract_lets t t1 t2 t3 t4 t5
  have ht : Steady s₀ t := .ite h.wr h
  have ht1 : Steady s₀ t1 := .ite (ht.duplexToReceive hf) ht
  have ht2 : Steady s₀ t2 := .ite ht1.receiveToSynth ht1
  have ht3 : Steady s₀ t3 := ht2.urgentFrame.engPower
  have ht4 : Steady s₀ t4 := ht3.enterOpt.wrs
  have ht5 : Steady s₀ t5 := ht4.lanesEval.faceDpReset.portsEval
  exact .ite h (ht5.elsEval hf)

theorem Steady.pendingEval (h : Steady s₀ s) {f : ℕ} : Steady s₀ (pendingEval s f) := h.wr

theorem Steady.rampStart (h : Steady s₀ s) {f : ℕ} : Steady s₀ (rampStart s f) := (h.foldl fun _ _ ht => .ite ht.rampLane ht).setFace.setEmit.wrs

theorem Steady.walkDown (h : Steady s₀ s) {f t n : ℕ} (hf : f < 16) : Steady s₀ (walkDown s f t n) := by
  induction n generalizing s with
  | zero => exact h
  | succ n ih => exact .ite (h.toSleep hf) (.ite (ih (h.duplexToReceive hf)) (.ite (ih (.ite h.receiveToSynth (.ite h.synthToStandby h))) h))

theorem Steady.optWalk (h : Steady s₀ s) {f : ℕ} (hf : f < 16) : Steady s₀ (optWalk s f) := by
  unfold Machine.optWalk
  extract_lets t t1 t2 st stepping t3 t4 t5
  have ht : Steady s₀ t := .ite h.sealAbandon h
  have ht1 : Steady s₀ t1 := ht.faceRailApply
  have ht3 : Steady s₀ t3 := .ite ht1.wr.engPower ht1
  have ht4 : Steady s₀ t4 := .ite (ht3.wr.toSleep hf) (ht3.walkDown hf)
  have ht5 : Steady s₀ t5 := .ite (.ite ht1.rampStart ht1) (.ite ht1 (.ite ht1 ht1.wr))
  exact .ite h (.ite (.ite ht1 (ht4.pendingEval.elsEval hf)) (.ite (ht5.pendingEval.elsEval hf) (ht1.pendingEval.elsEval hf)))

theorem Steady.optWalkAll (h : Steady s₀ s) : Steady s₀ (optWalkAll s) := h.foldl_mem fun _ _ hf ht => ht.optWalk (List.mem_range.mp hf)

/-! ## Machine/Survey.lean: Survey -/

theorem Steady.seqLoadNow (h : Steady s₀ s) : Steady s₀ (seqLoadNow s) := by
  unfold Machine.seqLoadNow
  extract_lets es t t1
  have ht1 : Steady s₀ t1 := by
    unfold t1
    refine .foldl (h.dropRegs fun a ha => chipWord_block a ha) fun t x ht => ?_
    split
    · exact ht.wrs
    · exact ht
  exact ht1.same

theorem Steady.seqLoad (h : Steady s₀ s) : Steady s₀ (seqLoad s) := .ite h.same h.seqLoadNow

theorem Steady.surveyStop (h : Steady s₀ s) : Steady s₀ (surveyStop s) := h.foldl fun _ _ ht => ht.calRunEnd

/-! ## Machine/HostLane.lean: host lanes -/

theorem Steady.hostPortEval (h : Steady s₀ s) {n : ℕ} : Steady s₀ (hostPortEval s n) := by
  unfold Machine.hostPortEval
  split
  · exact h.portEval
  · exact h

theorem Steady.putPcs (h : Steady s₀ s) {x : Tab (List ℕ)} : Steady s₀ { s with hostPcs := x } := h.same

theorem Steady.hostStage1 (h : Steady s₀ s) {n : ℕ} : Steady s₀ (hostStage1 s n) := h.wrs.putPcs.hostPortEval

theorem Steady.hostOff (h : Steady s₀ s) {n : ℕ} : Steady s₀ (hostOff s n) := h.setReg.putPcs.hostPortEval

/-! ## Machine/Foreman.lean: budgets, power and throttling -/

theorem Steady.lanePush (h : Steady s₀ s) {f p : ℕ} : Steady s₀ (lanePush s f p) := .ite h h.effortRequest

theorem Steady.obsApply (h : Steady s₀ s) {f : ℕ} : Steady s₀ (obsApply s f) := .ite h.setFace.tapEval h

theorem Steady.integApply (h : Steady s₀ s) {f : ℕ} : Steady s₀ (integApply s f) := .ite (h.assayAbandon.foldl fun _ _ ht => ht.calAbandon) h

theorem Steady.coreRailApply (h : Steady s₀ s) {c : ℕ} : Steady s₀ (coreRailApply s c) := .ite h.wr.railCmd (.ite h.wr h.railCmd)

theorem Steady.holdApply (h : Steady s₀ s) {f : ℕ} : Steady s₀ (holdApply s f) := by
  have hw : chipWord (HW_ADAPT f) = false := chipWord_hewer f _
  exact .ite h (.ite (h.wr hw).raiseIrq ((h.wr hw).wr hw).raiseIrq)

theorem Steady.foremanApply (h : Steady s₀ s) : Steady s₀ (foremanApply s) := by
  unfold Machine.foremanApply
  extract_lets t t1 t2
  have ht : Steady s₀ t := h.foldl fun _ _ ht => ht.obsApply.integApply.foldl fun _ _ hu => hu.lanePush
  have ht1 : Steady s₀ t1 := ht.foldl fun _ _ hu => hu.coreRailApply
  have ht2 : Steady s₀ t2 := ht1.foldl fun _ _ hu => hu.faceRailApply
  exact ht2.foldl fun _ _ hu => hu.holdApply

/-! ## Machine/TallyOps.lean: the tally -/

theorem Steady.tallyOwn (h : Steady s₀ s) {ev : Ev} : Steady s₀ (tallyOwn s ev) :=
  .ite (Steady.ite h.archiveLoss h).storeEvent.sendNotices (Steady.ite h.archiveLoss h).storeEvent

theorem Steady.thawEff (h : Steady s₀ s) : Steady s₀ (thawEff s) := .ite h.wr.putFrozen.tallyOwn h

theorem Steady.tallyClearEff (h : Steady s₀ s) : Steady s₀ (tallyClearEff s) := h.memClear.wrs.putNext

/-! ## Machine/RegWrite.lean: register writes -/

theorem Steady.putTry (h : Steady s₀ s) {x : Tab ℕ} : Steady s₀ { s with cpTry := x } := h.same

theorem Steady.cpRestart (h : Steady s₀ s) {n : ℕ} : Steady s₀ (cpRestart s n) := h.wrs.putTry

theorem Steady.putHewer (h : Steady s₀ s) {n : ℕ} {x : HewerX} : Steady s₀ { s with hewers := tabSet {} s.hewers n x } := h.same

theorem Steady.hewerReset (h : Steady s₀ s) {n : ℕ} : Steady s₀ (hewerReset s n) := by
  have hw := chipWord_hewer n
  exact (((h.putHewer.wr (hw _)).wr (hw _)).wr (hw _)).wr (hw _)

/-! ## Machine/Session.lean: sessions -/

theorem Steady.sessionEnd (h : Steady s₀ s) {id : ℕ} : Steady s₀ (sessionEnd s id) := by
  unfold Machine.sessionEnd
  split
  · exact h
  · extract_lets t t1
    have ht : Steady s₀ t := h.streamsClose
    have ht1 : Steady s₀ t1 := ht.trans ⟨fun _ _ => rfl, rfl, (List.filter_sublist.map _).subset⟩
    exact ht1.logEvent

theorem Steady.sessionsEnd (h : Steady s₀ s) {p : Session → Bool} : Steady s₀ (sessionsEnd s p) := h.foldl fun _ _ ht => ht.sessionEnd

theorem Steady.vaultClear (h : Steady s₀ s) : Steady s₀ (vaultClear s) := h.sessionsEnd.incMod.wr

/-! ## Machine/Plan.lean: plans -/

theorem Steady.hewerLoad (h : Steady s₀ s) {n : ℕ} : Steady s₀ (hewerLoad s n) := h.memClear.foldl fun _ _ ht => .ite ht.memWriteRun ht

theorem Steady.hewerFresh (h : Steady s₀ s) {n : ℕ} : Steady s₀ (hewerFresh s n) := by
  unfold Machine.hewerFresh
  extract_lets t
  have ht : Steady s₀ t := h.dropRegs fun a ha => chipWord_block a ha (hwAt_far n)
  exact ht.putHewer.hewerReset

theorem Steady.putCopy (h : Steady s₀ s) {b : Bool} : Steady s₀ { s with planCopyOk := b } := h.same

theorem Steady.copyWrite (h : Steady s₀ s) : Steady s₀ (copyWrite s) := by
  unfold Machine.copyWrite
  split
  · exact .ite h.ddrWrite.putCopy h.putCopy
  · exact h.putCopy

theorem Steady.ddrEval (h : Steady s₀ s) : Steady s₀ (ddrEval s) := by
  unfold Machine.ddrEval
  split
  · extract_lets bad t
    have ht : Steady s₀ t := (h.wr rfl).foldl fun _ _ ht => ht.wr
    have ht1 : Steady s₀ { t with archMib := 0, planCopyOk := false } := by
      clear_value t
      exact ht.same
    exact .ite (h.foldl fun _ _ ht => ht.wrs).copyWrite ht1.logEvent
  · exact h

theorem Steady.regionsApply (h : Steady s₀ s) : Steady s₀ (regionsApply s) := by
  unfold Machine.regionsApply
  extract_lets rs old t
  have ht : Steady s₀ t := by
    unfold t
    refine .foldl h fun t x ht => ?_
    split
    · exact ht.wrs
    · exact ht.setReg.setReg
  clear_value t
  exact ht.same

theorem Steady.putPtp (h : Steady s₀ s) {x : PtpX} : Steady s₀ { s with ptp := x } := h.same

theorem Steady.ptpApply (h : Steady s₀ s) {p : List ℕ} : Steady s₀ (ptpApply s p) := .ite h.putPtp h.putPtp.wr

theorem Steady.putMib (h : Steady s₀ s) {n : ℕ} : Steady s₀ { s with archMib := n } := h.same

theorem Steady.putMirror (h : Steady s₀ s) {l : List ℕ} : Steady s₀ { s with mirror := l } := h.same

theorem Steady.putArchive (h : Steady s₀ s) {l : List ArchEntry} {m : Tab (List Word)} {n : List ℕ} :
    Steady s₀ { s with archEntries := l, archive := m, ddrLayout := n } := h.same

theorem Steady.platformApply (h : Steady s₀ s) : Steady s₀ (platformApply s) := by
  unfold Machine.platformApply
  extract_lets p old t t1 t2 u t3 t4 t5 t6
  have ht : Steady s₀ t := h.foldl fun _ _ hu => hu.wr
  have ht1 : Steady s₀ t1 := ht.wr rfl
  have ht2 : Steady s₀ t2 := ht1.putMib
  have hu : Steady s₀ u := ht2.streamsClose
  have ht3 : Steady s₀ t3 := .ite ht2 hu.putArchive
  have ht4 : Steady s₀ t4 := .ite ht3 ht3.putMirror
  have ht5 : Steady s₀ t5 := ht4.archShow.ptpApply
  have ht6 : Steady s₀ t6 := ht5.foldl fun _ _ hu => hu.wrs
  exact .ite (ht6.wr rfl).cpRestart ht6

theorem Steady.powerApply (h : Steady s₀ s) : Steady s₀ (powerApply s) :=
  .ite (h.wrs.foldl fun _ _ ht => ht.wr) ((h.wrs.foldl fun _ _ ht => ht.wr).foldl fun _ c ht => ht.wr (chipWord_far (railMarginF_far c)))

theorem Steady.recReg (h : Steady s₀ s) {a v : ℕ}
    (ha : chipWord a = false := by exact chipWord_far (by (repeat apply Nat.lt_add_right) <;> decide)) : Steady s₀ (recReg s a v) := by
  unfold Machine.recReg
  split
  · exact h.setReg ha
  · exact h

theorem Steady.tallyApply (h : Steady s₀ s) : Steady s₀ (tallyApply s) := by
  unfold Machine.tallyApply
  extract_lets d n t
  have ht : Steady s₀ t := h.foldl fun _ _ ht => .ite ht.recReg.recReg ht.setReg.setReg
  exact .ite ht.setReg.setReg.wr ht.recReg.recReg.wr

theorem Steady.assayApply (h : Steady s₀ s) : Steady s₀ (assayApply s) := .ite h.wr.logEvent h.wr

theorem Steady.portCfg (h : Steady s₀ s) {d : List ℕ} : Steady s₀ (portCfg s d) := h.wrs

theorem Steady.hostAbsent (h : Steady s₀ s) {n : ℕ} : Steady s₀ (hostAbsent s n) := by
  unfold Machine.hostAbsent
  extract_lets p t
  have ht : Steady s₀ t := (h.dropRegs fun a ha => chipWord_block a ha).dropCtrs
  exact ht.same

theorem Steady.putEpisodes (h : Steady s₀ s) {x : Tab (Option Episode)} : Steady s₀ { s with episodes := x } := h.same

theorem Steady.portAbsent (h : Steady s₀ s) {n : ℕ} : Steady s₀ (portAbsent s n) := by
  unfold Machine.portAbsent
  extract_lets p
  have ht : Steady s₀ ((s.dropRegs p).dropCtrs p) := (h.dropRegs fun a ha => chipWord_block a ha).dropCtrs
  exact ht.putEpisodes

theorem Steady.portsStart (h : Steady s₀ s) {ps : List (List ℕ)} : Steady s₀ (portsStart s ps) :=
  h.foldl fun _ _ ht => (Steady.ite (ht.foldl fun _ _ hu => hu.hostStage1) ht).portEval

theorem Steady.portsApply (h : Steady s₀ s) {old new : List (List ℕ)} {fs : List ℕ} : Steady s₀ (portsApply s old new fs) := by
  unfold Machine.portsApply
  extract_lets moved ups t lanes t1 t2 t3
  have ht : Steady s₀ t := h.foldl fun _ _ ht => (ht.foldl fun _ _ hu => hu.hostOff).setReg
  have ht1 : Steady s₀ t1 := ht.foldl fun _ _ hu => hu.hostAbsent
  have ht2 : Steady s₀ t2 := ht1.foldl fun _ _ hu => hu.portAbsent
  have ht3 : Steady s₀ t3 := ht2.foldl fun _ _ hu => hu.portCfg
  exact (ht3.wr rfl).portsStart

theorem Steady.faceDown (h : Steady s₀ s) {f : ℕ} (hf : f < 16) : Steady s₀ (faceDown s f) :=
  (h.assayAbandon.foldl fun _ _ ht => ht.foldl fun _ _ hu => hu.hostOff).capEnd.toSleep hf

theorem inFace_chipWord (f a : Nat) (ha : chipWord a = true) : inFace f a = false := by
  rw [inFace, chipWord_block a ha, chipWord_block a ha, Bool.or_false]

theorem Steady.faceClear (h : Steady s₀ s) {f : ℕ} : Steady s₀ (faceClear s f) := by
  unfold Machine.faceClear
  extract_lets a b gen res ps t t1 t2 x own t3 t4
  have ht : Steady s₀ t := (h.dropRegs (inFace_chipWord f)).dropCtrs.setReg.setReg.wr
  have ht2 : Steady s₀ t2 := (Steady.ite ht.wr ht).memClear
  have ht3 : Steady s₀ t3 := by
    clear_value t2
    exact ht2.same
  exact ht3.setFace.foldl fun _ _ hu => hu.wrs

theorem Steady.observeApply (h : Steady s₀ s) {f : ℕ} : Steady s₀ (observeApply s f) := by
  unfold Machine.observeApply
  split
  · exact h
  · extract_lets t t1 c _ t2
    have ht : Steady s₀ t := h.recReg.recReg.wrs
    have ht1 : Steady s₀ t1 := ht.foldl fun _ _ hu => hu.wr
    exact .ite (.ite ht1.setFace.recReg.recReg.recReg.recReg ht1.setFace) ht1

theorem Steady.faceRegs (h : Steady s₀ s) {f : ℕ} {hold : Bool} : Steady s₀ (faceRegs s f hold) := h.wr.foldl fun _ _ ht => ht.wrs

theorem Steady.faceSubstitute (h : Steady s₀ s) {f : ℕ} : Steady s₀ (faceSubstitute s f) := by
  unfold Machine.faceSubstitute
  split
  · exact .ite h h.sealBurn.faceMapReset
  · exact h

theorem Steady.mapRestart (h : Steady s₀ s) {old : State} {f : ℕ} : Steady s₀ (mapRestart old s f) :=
  .ite (Steady.ite h h.mapChanged).logEvent (.ite h h.mapChanged)

theorem Steady.faceFresh (h : Steady s₀ s) {f : ℕ} {hold had : Bool} : Steady s₀ (faceFresh s f hold had) := by
  unfold Machine.faceFresh
  extract_lets t t1 t2 t3 t4 t5
  have ht1 : Steady s₀ t1 := h.faceClear.hewerLoad.hewerFresh
  have ht3 : Steady s₀ t3 := .ite ht1.faceRegs.limitsShow ht1.faceRegs
  have ht4 : Steady s₀ t4 := ht3.observeApply.faceMapReset
  have ht5 : Steady s₀ t5 := .ite ht4.faceSubstitute.mapRestart ht4
  exact ht5.sliceSealsShow.dpRoles

theorem Steady.faceAbsent (h : Steady s₀ s) {f : ℕ} : Steady s₀ (faceAbsent s f) := by
  unfold Machine.faceAbsent
  extract_lets t t1
  have ht : Steady s₀ t := h.faceClear.memClear
  have ht1 : Steady s₀ t1 := by
    clear_value t
    exact ht.same
  exact ht1.assayIdle.wr.wr

theorem Steady.planShow (h : Steady s₀ s) : Steady s₀ (planShow s) := by
  unfold Machine.planShow
  split
  · exact h.wrs_of (by simp [chipWord])
  · exact h

/-! ## Machine/Reset.lean: reset and wake -/

theorem Steady.slotsShow (h : Steady s₀ s) : Steady s₀ (slotsShow s) := h.wrs_of (by simp [chipWord])

theorem Steady.reapplyImage (h : Steady s₀ s) {p : Plan} : Steady s₀ (reapplyImage s p).1 := by
  conv in Machine.reapplyImage => delta Machine.reapplyImage
  dsimp only
  split
  · exact .ite_fst h.ddrRead h
  · split
    · split
      · exact h
      · exact h
    · exact h

theorem Steady.memTake (h : Steady s₀ s) {old : State} {p : ℕ → ℕ → ℕ → Bool} : Steady s₀ (memTake s old p) := h.same

theorem Steady.tallyDrop (h : Steady s₀ s) : Steady s₀ (tallyDrop s) := h.tallyClearEff.setReg.setReg

/-! ## Machine/ResetRows.lean: commands of power and reset -/

theorem Steady.hostLanesStage1 (h : Steady s₀ s) {p : ℕ → Bool} : Steady s₀ (hostLanesStage1 s p) := h.foldl fun _ _ ht => .ite ht.hostStage1 ht
end

end Sys2Proof.Machine

namespace Sys2Proof.Machine
open Sys2Proof Sys2Proof.Laws

/-! ## What a steady change leaves -/

section
variable {s t : State}

theorem Steady.plan (h : Steady s t) : t.plan = s.plan := congrArg (·.1) h.held
theorem Steady.defer (h : Steady s t) : t.defer = s.defer := congrArg (·.2.1) h.held
theorem Steady.chipTo (h : Steady s t) : t.chipTo = s.chipTo := congrArg (·.2.2.1) h.held
theorem Steady.flash (h : Steady s t) : t.flash = s.flash := congrArg (·.2.2.2.1) h.held
theorem Steady.d2d (h : Steady s t) : t.d2d = s.d2d := congrArg (·.2.2.2.2.1) h.held
theorem Steady.refALost (h : Steady s t) : t.refALost = s.refALost := congrArg (·.2.2.2.2.2.1) h.held

theorem Steady.noSession (h : Steady s t) (hs : s.sessions = []) : t.sessions = [] := by
  have hi := h.ids
  rw [hs] at hi
  exact List.map_eq_nil_iff.mp (List.subset_nil.mp hi)

end

/-! ## The vault's clear ends every session (R315) -/

section
variable {s₀ s : State}

theorem sessionEnd_gone (s : State) (n : ℕ) : n ∉ (sessionEnd s n).sessions.map Session.id := by
  unfold sessionEnd
  split
  · rename_i h
    intro hn
    obtain ⟨x, hx, rfl⟩ := List.mem_map.mp hn
    exact absurd h (by simp [State.session]; exact ⟨x, hx, rfl⟩)
  · intro hn
    extract_lets t t1 at hn
    have hn1 : n ∈ t1.sessions.map Session.id := ((Steady.refl t1).logEvent).ids hn
    obtain ⟨x, hx, hxn⟩ := List.mem_map.mp hn1
    have := (List.mem_filter.mp hx).2
    simp [hxn] at this

theorem sessionsEnd_all (s : State) : (sessionsEnd s fun _ => true).sessions = [] := by
  have key (l : List Session) (t : State) (h : t.sessions.map Session.id ⊆ l.map Session.id) :
      (l.foldl (fun t x => sessionEnd t x.id) t).sessions = [] := by
    induction l generalizing t with
    | nil => exact List.map_eq_nil_iff.mp (List.subset_nil.mp h)
    | cons x l ih =>
      refine ih _ fun n hn => ?_
      have hx : n ≠ x.id := by
        rintro rfl
        exact sessionEnd_gone t x.id hn
      have hm := h ((Steady.refl t).sessionEnd.ids hn)
      exact (List.mem_cons.mp hm).resolve_left hx
  exact key _ s (by rw [List.filter_true]; exact List.Subset.refl _)

theorem vaultClear_sessions (s : State) : (vaultClear s).sessions = [] :=
  (State.wr_sessions _ _ _).trans ((State.incMod_sessions _ _).trans (sessionsEnd_all s))

end

/-! ## The chip's transitions (R333, R335) -/

theorem chipRun_steady (s : State) : Steady (s.wr FM_CHIP_STATUS_STATE 0) (chipRun s) := by
  unfold chipRun
  extract_lets t t1
  have ht : Steady (s.wr FM_CHIP_STATUS_STATE 0) t := (Steady.refl _).accRearm
  have ht1 : Steady (s.wr FM_CHIP_STATUS_STATE 0) t1 := ht.foldl fun _ _ hu => .ite (hu.foldl fun _ _ hv => hv.hostStage1) hu
  exact ht1.foremanApply.optWalkAll

theorem Steady.putInjects {s₀ s : State} (h : Steady s₀ s) {x : Tab ℕ} : Steady s₀ { s with injects := x } := h.same

/-- What BIST and rotations leave when they end, then STATE 1, then what leaves the chip's state. -/
theorem chipStandby_steady (s : State) : ∃ u, Steady s u ∧ Steady (u.wr FM_CHIP_STATUS_STATE 1) (chipStandby s) := by
  unfold chipStandby
  extract_lets t t1 t2 t3 t4 t5
  have ht : Steady s t := (Steady.refl s).foldl fun _ _ hu => hu.assayAbandon
  refine ⟨t, ht, ?_⟩
  have ht1 : Steady (t.wr FM_CHIP_STATUS_STATE 1) t1 := (Steady.refl _).optWalkAll
  have ht2 : Steady (t.wr FM_CHIP_STATUS_STATE 1) t2 :=
    ht1.foldl fun _ _ hu => hu.capEnd.faceDpReset.foldl fun _ _ hw => hw.foldl fun _ _ hx => hx.hostOff
  have ht3 : Steady (t.wr FM_CHIP_STATUS_STATE 1) t3 := ht2.dropRegs fun a ha => chipWord_block a ha
  have ht4 : Steady (t.wr FM_CHIP_STATUS_STATE 1) t4 := ht3.putInjects
  have ht5 : Steady (t.wr FM_CHIP_STATUS_STATE 1) t5 := ht4.dropRegs fun a ha => chipWord_block a ha
  exact ht5.dropCtrs.foremanApply

/-- The state whose operations have ended with its transition, and what the kept banks summed to (R335). -/
def deepEnded (s : State) (crc : Tab ℕ) : State := { s with ops := [], chipTo := 0, keptCrc := crc }

theorem deepEnded_sessions (s : State) (crc : Tab ℕ) : (deepEnded s crc).sessions = s.sessions := rfl
theorem deepEnded_plan (s : State) (crc : Tab ℕ) : (deepEnded s crc).plan = s.plan := rfl
theorem deepEnded_flash (s : State) (crc : Tab ℕ) : (deepEnded s crc).flash = s.flash := rfl
theorem deepEnded_defer (s : State) (crc : Tab ℕ) : (deepEnded s crc).defer = s.defer := rfl

/-- The writes that end entry to DEEP, for the DDR4 channels `l`: after STATE and TRANSIT they are apart. -/
theorem deepWrites_steady (s : State) (l : List ℕ) : Steady ((s.wr FM_CHIP_STATUS_STATE 2).wr FM_CHIP_STATUS_TRANSIT 0)
    (s.wrs ([(FM_CHIP_STATUS_STATE, 2), (FM_CHIP_STATUS_TRANSIT, 0), (CP_STATUS_RATE 0, 3)] ++ l.map fun c => (DDR_STATUS_SELF_REFRESH c, 1))) := by
  rw [List.cons_append, List.cons_append, State.wrs_cons, State.wrs_cons]
  refine (Steady.refl _).wrs_of (l := (CP_STATUS_RATE 0, 3) :: l.map fun c => (DDR_STATUS_SELF_REFRESH c, 1)) fun e he => ?_
  obtain rfl | he := List.mem_cons.mp he
  · exact chipWord_far (by decide)
  · obtain ⟨c, -, rfl⟩ := List.mem_map.mp he
    exact chipWord_far (by (repeat apply Nat.lt_add_right); decide)

/-- The steps of R335 before their last writes: those of the faces, then the vault's clear, then memories. -/
theorem deepEnter_shape (s : State) : ∃ (u : State) (crc : Tab ℕ), Steady s u ∧ u.sessions = [] ∧
    Steady (((deepEnded u crc).wr FM_CHIP_STATUS_STATE 2).wr FM_CHIP_STATUS_TRANSIT 0) (deepEnter s) := by
  unfold deepEnter
  extract_lets banks old t t1 t2 t3 t4 t5
  have ht : Steady s t := (Steady.refl s).foldl_mem fun _ f hf hu => .ite (hu.assayAbandon.toSleep (List.mem_range.mp hf)) hu
  have hn : Steady (vaultClear t) t1 := (Steady.refl _).capDiscardAll.surveyStop
  have hk (v : State) (h : Steady v t1) : Steady v t4 := (Steady.ite h h.tallyDrop).memTake.memClear
  exact ⟨t4, _, hk s (ht.vaultClear.trans hn), (hk _ hn).noSession (vaultClear_sessions t), deepWrites_steady t5 _⟩

/-! ## A TARGET that is written (R333, R335, R362) -/

/-- The state with the TARGET that a write asks for. -/
def asked (s : State) (n : ℕ) : State := s.wrs [(FM_CHIP_CTRL_TARGET, n), (FM_CHIP_STATUS_RESULT, 0)]

theorem handshakes_of {s t : State} (h : ∀ f, t.reg (SEAL_STATUS f) = s.reg (SEAL_STATUS f)) : handshakes t = handshakes s := by
  simp only [handshakes, State.rd, h]

theorem handshakes_wr (s : State) (x : Fld) (v : ℕ) (hx : x.addr ≤ 0x100010) : handshakes (s.wr x v) = handshakes s :=
  handshakes_of fun f => State.reg_wr_other _ _ _ (by
    have : 0x100010 < SEAL_STATUS f := by (repeat apply Nat.lt_add_right); decide
    omega)

section
variable (s : State) (n : ℕ)

theorem chipTarget_asked : chipTarget s n = chipWaited (chipFollow (asked s n)) := rfl

theorem asked_target : (asked s n).rd FM_CHIP_CTRL_TARGET = n % 4 :=
  (State.rd_wr_addr _ _ _ _ (by decide)).trans (State.rd_wr_same s _ n (by decide))

theorem asked_state : (asked s n).rd FM_CHIP_STATUS_STATE = s.rd FM_CHIP_STATUS_STATE :=
  (State.rd_wr_apart _ _ _ _ (by decide) (by decide)).trans (State.rd_wr_addr _ _ _ _ (by decide))

theorem asked_chipTo : (asked s n).chipTo = s.chipTo := State.wrs_chipTo s _
theorem asked_defer : (asked s n).defer = s.defer := State.wrs_defer s _
theorem asked_plan : (asked s n).plan = s.plan := State.wrs_plan s _
theorem asked_flash : (asked s n).flash = s.flash := State.wrs_flash s _

theorem asked_handshakes : handshakes (asked s n) = handshakes s :=
  (handshakes_wr _ _ _ (by decide)).trans (handshakes_wr _ _ _ (by decide))

end

section
variable {s : State}

theorem chipWaited_idle (h : s.chipTo = 0) : chipWaited s = s := by
  unfold chipWaited
  simp [h]

theorem chipWaited_busy (h : handshakes s = true) : chipWaited s = s := by
  unfold chipWaited
  rw [if_pos h]

theorem chipFollow_busy (h : s.chipTo ≠ 0) : chipFollow s = s := by
  unfold chipFollow
  rw [if_pos h]

theorem chipFollow_run (h : s.chipTo = 0) (ht : s.rd FM_CHIP_CTRL_TARGET = 0) :
    chipFollow s = if s.rd FM_CHIP_STATUS_STATE = 1 then chipRun s else s := by
  unfold chipFollow
  rw [if_neg (by simp [h]), ht]
  rfl

theorem chipFollow_standby (h : s.chipTo = 0) (ht : s.rd FM_CHIP_CTRL_TARGET = 1) :
    chipFollow s = if s.rd FM_CHIP_STATUS_STATE = 0 then chipBegin s 1 else s := by
  unfold chipFollow
  rw [if_neg (by simp [h]), ht]
  rfl

theorem chipFollow_deep (h : s.chipTo = 0) (ht : s.rd FM_CHIP_CTRL_TARGET = 2) : chipFollow s = chipBegin s 2 := by
  unfold chipFollow
  rw [if_neg (by simp [h]), ht]
  rfl

/-- A transition that begins changes TRANSIT and where it leads. -/
theorem putChipTo_rd (s : State) (n : ℕ) (f : Fld) : ({ s with chipTo := n } : State).rd f = s.rd f := rfl
theorem putChipTo_defer (s : State) (n : ℕ) : ({ s with chipTo := n } : State).defer = s.defer := rfl
theorem putChipTo_plan (s : State) (n : ℕ) : ({ s with chipTo := n } : State).plan = s.plan := rfl
theorem putChipTo_flash (s : State) (n : ℕ) : ({ s with chipTo := n } : State).flash = s.flash := rfl
theorem putChipTo_handshakes (s : State) (n : ℕ) : handshakes { s with chipTo := n } = handshakes s := rfl

theorem chipBegin_chipTo (s : State) (n : ℕ) : (chipBegin s n).chipTo = n := rfl
theorem chipBegin_defer (s : State) (n : ℕ) : (chipBegin s n).defer = s.defer := (putChipTo_defer _ n).trans (State.wr_defer s _ _)
theorem chipBegin_plan (s : State) (n : ℕ) : (chipBegin s n).plan = s.plan := (putChipTo_plan _ n).trans (State.wr_plan s _ _)
theorem chipBegin_flash (s : State) (n : ℕ) : (chipBegin s n).flash = s.flash := (putChipTo_flash _ n).trans (State.wr_flash s _ _)
theorem chipBegin_handshakes (s : State) (n : ℕ) : handshakes (chipBegin s n) = handshakes s :=
  (putChipTo_handshakes _ n).trans (handshakes_wr s _ _ (by decide))
theorem chipBegin_target (s : State) (n : ℕ) : (chipBegin s n).rd FM_CHIP_CTRL_TARGET = s.rd FM_CHIP_CTRL_TARGET :=
  (putChipTo_rd _ n _).trans (State.rd_wr_addr s _ _ _ (by decide))
theorem chipBegin_state (s : State) (n : ℕ) : (chipBegin s n).rd FM_CHIP_STATUS_STATE = s.rd FM_CHIP_STATUS_STATE :=
  (putChipTo_rd _ n _).trans (State.rd_wr_apart s _ _ _ (by decide) (by decide))
theorem chipBegin_transit (s : State) (n : ℕ) : (chipBegin s n).rd FM_CHIP_STATUS_TRANSIT = 1 :=
  (putChipTo_rd _ n _).trans (State.rd_wr_same s _ _ (by decide))

/-- The states of the chip that a write of RUN or STANDBY leaves: nothing waits to run after it. -/
structure ChipShows (t : State) (state target : ℕ) : Prop where
  state : t.rd FM_CHIP_STATUS_STATE = state
  target : t.rd FM_CHIP_CTRL_TARGET = target
  defer : t.defer = []

theorem chipTarget_run (h : s.chipTo = 0) (hs : s.rd FM_CHIP_STATUS_STATE ≤ 1) (hd : s.defer = []) : ChipShows (chipTarget s 0) 0 0 := by
  have hc := (asked_chipTo s 0).trans h
  have ha := (asked_defer s 0).trans hd
  have ht : (asked s 0).rd FM_CHIP_CTRL_TARGET = 0 := asked_target s 0
  rw [← asked_state s 0] at hs
  rw [chipTarget_asked]
  generalize asked s 0 = v at *
  rw [chipFollow_run hc ht]
  split
  · have hk := chipRun_steady v
    have hc' : (chipRun v).chipTo = 0 := hk.chipTo.trans ((State.wr_chipTo v _ _).trans hc)
    rw [chipWaited_idle hc']
    exact ⟨(hk.rd _ rfl).trans (State.rd_wr_same v _ _ (by decide)), (hk.rd _ rfl).trans ((State.rd_wr_addr v _ _ _ (by decide)).trans ht),
      hk.defer.trans ((State.wr_defer v _ _).trans ha)⟩
  · rw [chipWaited_idle hc]
    exact ⟨by omega, ht, ha⟩

/-- A transition to STANDBY that no handshake holds back: what it leaves follows its TARGET no further. -/
theorem chipWaited_standby (hc : s.chipTo = 1) (ht : s.rd FM_CHIP_CTRL_TARGET = 1) (hh : handshakes s = false) (hd : s.defer = []) :
    ChipShows (chipWaited s) 1 1 := by
  have hw : ({ s.wr FM_CHIP_STATUS_TRANSIT 0 with chipTo := 0 } : State).rd FM_CHIP_CTRL_TARGET = 1 :=
    (putChipTo_rd _ 0 _).trans ((State.rd_wr_addr s _ _ _ (by decide)).trans ht)
  have hwd : ({ s.wr FM_CHIP_STATUS_TRANSIT 0 with chipTo := 0 } : State).defer = [] := (putChipTo_defer _ 0).trans ((State.wr_defer s _ _).trans hd)
  have hwc : ({ s.wr FM_CHIP_STATUS_TRANSIT 0 with chipTo := 0 } : State).chipTo = 0 := rfl
  unfold chipWaited
  rw [if_neg (by simp [hh]), if_pos hc]
  generalize ({ s.wr FM_CHIP_STATUS_TRANSIT 0 with chipTo := 0 } : State) = w at *
  obtain ⟨u, hu, hk⟩ := chipStandby_steady w
  have hto : (chipStandby w).chipTo = 0 := hk.chipTo.trans ((State.wr_chipTo u _ _).trans (hu.chipTo.trans hwc))
  have hst : (chipStandby w).rd FM_CHIP_STATUS_STATE = 1 := (hk.rd _ rfl).trans (State.rd_wr_same u _ _ (by decide))
  have htg : (chipStandby w).rd FM_CHIP_CTRL_TARGET = 1 :=
    (hk.rd _ rfl).trans ((State.rd_wr_addr u _ _ _ (by decide)).trans ((hu.rd _ rfl).trans hw))
  have hdf : (chipStandby w).defer = [] := hk.defer.trans ((State.wr_defer u _ _).trans (hu.defer.trans hwd))
  generalize chipStandby w = x at *
  have hf : chipFollow x = x := (chipFollow_standby hto htg).trans (if_neg (by omega))
  have hx : ¬2 ≤ x.chipTo := by omega
  simp only [hf, if_neg hx]
  exact ⟨hst, htg, hdf⟩

theorem chipTarget_standby (h : s.chipTo = 0) (hs : s.rd FM_CHIP_STATUS_STATE ≤ 1) (hh : handshakes s = false) (hd : s.defer = []) :
    ChipShows (chipTarget s 1) 1 1 := by
  have hc := (asked_chipTo s 1).trans h
  have ha := (asked_defer s 1).trans hd
  have hb := (asked_handshakes s 1).trans hh
  have ht : (asked s 1).rd FM_CHIP_CTRL_TARGET = 1 := asked_target s 1
  rw [← asked_state s 1] at hs
  rw [chipTarget_asked]
  generalize asked s 1 = v at *
  rw [chipFollow_standby hc ht]
  split
  · exact chipWaited_standby (chipBegin_chipTo v 1) ((chipBegin_target v 1).trans ht) ((chipBegin_handshakes v 1).trans hb)
      ((chipBegin_defer v 1).trans ha)
  · rw [chipWaited_idle hc]
    exact ⟨by omega, ht, ha⟩

/-- Under a handshake the transition begins, and waits (R31). -/
theorem chipTarget_standby_waits (h : s.chipTo = 0) (hs : s.rd FM_CHIP_STATUS_STATE = 0) (hh : handshakes s = true) :
    chipTarget s 1 = chipBegin (asked s 1) 1 := by
  rw [chipTarget_asked, chipFollow_standby ((asked_chipTo s 1).trans h) (asked_target s 1), if_pos ((asked_state s 1).trans hs)]
  exact chipWaited_busy ((chipBegin_handshakes _ 1).trans ((asked_handshakes s 1).trans hh))

/-- A TARGET written meanwhile is stored, and waits (R362). -/
theorem chipTarget_meanwhile (n : ℕ) (h : s.chipTo ≠ 0) (hh : handshakes s = true) : chipTarget s n = asked s n := by
  rw [chipTarget_asked, chipFollow_busy (by rwa [asked_chipTo])]
  exact chipWaited_busy ((asked_handshakes s n).trans hh)

/-- The state from which DEEP is entered right after the command. -/
def deepDue (s : State) : State := { s with defer := [.deep] }

/-- A transition to DEEP that no handshake holds back runs right after the command. -/
theorem chipWaited_deep (hc : s.chipTo = 2) (hh : handshakes s = false) (hd : s.defer = []) : chipWaited s = deepDue s := by
  unfold chipWaited
  have h1 : ¬s.chipTo = 1 := by omega
  have h2 : 2 ≤ s.chipTo := by omega
  rw [if_neg (by simp [hh])]
  simp only [if_neg h1, if_pos h2, hd, List.nil_append]
  rfl

theorem chipTarget_deep (h : s.chipTo = 0) (hh : handshakes s = false) (hd : s.defer = []) :
    chipTarget s 2 = deepDue (chipBegin (asked s 2) 2) := by
  rw [chipTarget_asked, chipFollow_deep ((asked_chipTo s 2).trans h) (asked_target s 2)]
  exact chipWaited_deep (chipBegin_chipTo _ 2) ((chipBegin_handshakes _ 2).trans ((asked_handshakes s 2).trans hh))
    ((chipBegin_defer _ 2).trans ((asked_defer s 2).trans hd))

end

/-! ## The write of FM_CHIP_CTRL -/

theorem descName_chipCtrl : (descOf FM_CHIP_CTRL).map (fun x => (x.1.name, x.2)) = some (.FM_CHIP_CTRL, []) := by decide +kernel

theorem regEffect_chipCtrl (s : State) (z : Bool) {d : RegDesc} (a v : Nat) (h : d.name = .FM_CHIP_CTRL) :
    regEffect s z d [] a v = chipTargetEff s (vf v 30 2) := by
  simp [regEffect, rejects, writeLine, writeHost, writeCore, h]

theorem blockWrite_chipCtrl (s : State) (v : Nat) : blockWrite s .direct FM_CHIP_CTRL v = chipTargetEff s (vf v 30 2) := by
  obtain ⟨d, hd, h⟩ := blockWrite_reg s v descName_chipCtrl rfl rfl (by decide +kernel) (by decide) (by decide)
  rw [h, regEffect_chipCtrl s true _ v hd]

section
variable {s : State}

/-- A register write finds what the commands of the chip's state read as it was. -/
theorem directStart_chip (s : State) : (directStart s).chipTo = s.chipTo ∧ (directStart s).plan = s.plan ∧ (directStart s).flash = s.flash ∧
    (directStart s).ops = s.ops ∧ (directStart s).planCopyOk = s.planCopyOk := by
  rw [directStart_rest]
  exact ⟨rfl, rfl, rfl, rfl, rfl⟩

theorem directStart_rd (s : State) (f : Fld) : (directStart s).rd f = s.rd f := by simp only [State.rd, (directStart_stage s).2.2]

theorem directStart_handshakes (s : State) : handshakes (directStart s) = handshakes s := handshakes_of fun _ => by rw [(directStart_stage s).2.2]

theorem directStart_restorable (s : State) : planRestorable (directStart s) = planRestorable s := by
  obtain ⟨-, hp, -, -, hc⟩ := directStart_chip s
  simp only [planRestorable, hp, hc, State.on, directStart_rd]

/-- A write of TARGET that leaves nothing to run after it. -/
theorem chipCtrl_done {v : ℕ} (n : ℕ) {t : State} (hr : Reaches s FM_CHIP_CTRL) (hv : vf (BitVec.ofNat 32 v).toNat 30 2 = n)
    (e : chipTargetEff (directStart s) n = (t, stOk)) (hd : t.defer = []) : regWriteOut s FM_CHIP_CTRL v = .next (written t stOk) :=
  regWriteOut_done hr rfl (by decide +kernel) (by rw [blockWrite_chipCtrl, hv, e]) hd

theorem execChipRun_free (hr : Reaches s FM_CHIP_CTRL) (hs : s.rd FM_CHIP_STATUS_STATE ≤ 1) (hc : s.chipTo = 0) :
    Completes .chipRun s fun t => t.busStatus = stOk ∧ t.rd FM_CHIP_STATUS_STATE = 0 ∧ t.rd FM_CHIP_CTRL_TARGET = 0 := by
  obtain ⟨hstate, htarget, hdefer⟩ := chipTarget_run (s := directStart s) ((directStart_chip s).1.trans hc) (by rwa [directStart_rd])
    (directStart_stage s).2.1
  exact ⟨_, chipCtrl_done 0 hr (by decide) rfl hdefer, written_busStatus _ _, hstate, htarget⟩

theorem execChipStandby_free (hr : Reaches s FM_CHIP_CTRL) (hs : s.rd FM_CHIP_STATUS_STATE ≤ 1) (hc : s.chipTo = 0) (hh : handshakes s = false) :
    Completes .chipStandby s fun t => t.busStatus = stOk ∧ t.rd FM_CHIP_STATUS_STATE = 1 ∧ t.rd FM_CHIP_CTRL_TARGET = 1 := by
  obtain ⟨hstate, htarget, hdefer⟩ := chipTarget_standby (s := directStart s) ((directStart_chip s).1.trans hc) (by rwa [directStart_rd])
    ((directStart_handshakes s).trans hh) (directStart_stage s).2.1
  exact ⟨_, chipCtrl_done 1 hr (by decide) rfl hdefer, written_busStatus _ _, hstate, htarget⟩

@[simp] theorem written_chipTo (t : State) (st : ℕ) : (written t st).chipTo = t.chipTo := rfl

theorem execChipStandby_waits (hr : Reaches s FM_CHIP_CTRL) (hs : s.rd FM_CHIP_STATUS_STATE = 0) (hc : s.chipTo = 0) (hh : handshakes s = true) :
    Completes .chipStandby s fun t => t.busStatus = stOk ∧ t.rd FM_CHIP_STATUS_STATE = 0 ∧ t.rd FM_CHIP_CTRL_TARGET = 1 ∧
      t.rd FM_CHIP_STATUS_TRANSIT = 1 ∧ t.chipTo = 1 := by
  have hs' : (directStart s).rd FM_CHIP_STATUS_STATE = 0 := by rwa [directStart_rd]
  have e := chipTarget_standby_waits (s := directStart s) ((directStart_chip s).1.trans hc) hs' ((directStart_handshakes s).trans hh)
  have hd : (chipBegin (asked (directStart s) 1) 1).defer = [] := by rw [chipBegin_defer, asked_defer, (directStart_stage s).2.1]
  refine ⟨_, chipCtrl_done 1 hr (by decide) (congrArg (·, stOk) e) hd, written_busStatus _ _, ?_, ?_, ?_, ?_⟩
  · rw [written_rd, chipBegin_state, asked_state, hs']
  · rw [written_rd, chipBegin_target]
    exact asked_target _ 1
  · rw [written_rd, chipBegin_transit]
  · rw [written_chipTo, chipBegin_chipTo]

theorem execChipRun_meanwhile (hr : Reaches s FM_CHIP_CTRL) (hc : s.chipTo = 1) (hh : handshakes s = true) :
    Completes .chipRun s fun t => t.busStatus = stOk ∧ t.rd FM_CHIP_CTRL_TARGET = 0 ∧
      t.rd FM_CHIP_STATUS_STATE = s.rd FM_CHIP_STATUS_STATE ∧ t.chipTo = 1 := by
  have hc' : (directStart s).chipTo = 1 := (directStart_chip s).1.trans hc
  have e := chipTarget_meanwhile (s := directStart s) 0 (by omega) ((directStart_handshakes s).trans hh)
  refine ⟨_, chipCtrl_done 0 hr (by decide) (congrArg (·, stOk) e) ((asked_defer _ 0).trans (directStart_stage s).2.1), written_busStatus _ _, ?_, ?_, ?_⟩
  · rw [written_rd]
    exact asked_target _ 0
  · rw [written_rd, asked_state, directStart_rd]
  · rw [written_chipTo, asked_chipTo, hc']

theorem chipTargetEff_deep (ho : ∀ o ∈ s.ops, o.state.terminal = true) (hp : planRestorable s = true) :
    chipTargetEff s 2 = (chipTarget s 2, stOk) := by
  have hn : (s.ops.any fun o => !o.state.terminal) = false := List.any_eq_false.mpr fun o h => by simp [ho o h]
  simp [chipTargetEff, hn, hp]

/-- What entry to DEEP shows and ends, and what it keeps (R335, R337). -/
theorem deepEnter_shows (s : State) : (deepEnter s).rd FM_CHIP_STATUS_STATE = 2 ∧ (deepEnter s).rd FM_CHIP_STATUS_TRANSIT = 0 ∧
    (deepEnter s).sessions = [] ∧ (deepEnter s).plan = s.plan ∧ (deepEnter s).flash = s.flash ∧ (deepEnter s).defer = s.defer := by
  obtain ⟨u, crc, hu, hn, hk⟩ := deepEnter_shape s
  refine ⟨?_, ?_, hk.noSession ?_, ?_, ?_, ?_⟩
  · exact (hk.rd _ rfl).trans ((State.rd_wr_apart _ _ _ _ (by decide) (by decide)).trans (State.rd_wr_same _ _ _ (by decide)))
  · exact (hk.rd _ rfl).trans (State.rd_wr_same _ _ _ (by decide))
  · rw [State.wr_sessions, State.wr_sessions, deepEnded_sessions]
    exact hn
  · rw [hk.plan, State.wr_plan, State.wr_plan, deepEnded_plan]
    exact hu.plan
  · rw [hk.flash, State.wr_flash, State.wr_flash, deepEnded_flash]
    exact hu.flash
  · rw [hk.defer, State.wr_defer, State.wr_defer, deepEnded_defer]
    exact hu.defer

theorem deepEnter_ops (s : State) : (deepEnter s).ops = [] := State.wrs_ops _ _

/-- A state to which DEEP was asked enters it as soon as no handshake runs. -/
theorem runDeferred_deep (h : 2 ≤ s.chipTo) (hs : s.rd FM_CHIP_STATUS_STATE ≠ 2) (hh : handshakes s = false) :
    runDeferred s .deep = deepEnter s := if_pos ⟨h, hs, hh⟩

/-- A state with the status of its register write and nothing to run after it. -/
def answered (s : State) (st : ℕ) : State := { s with busStatus := st, defer := [] }

theorem answered_defer (s : State) (st : ℕ) : (answered s st).defer = [] := rfl
theorem answered_plan (s : State) (st : ℕ) : (answered s st).plan = s.plan := rfl
theorem answered_flash (s : State) (st : ℕ) : (answered s st).flash = s.flash := rfl
theorem answered_chipTo (s : State) (st : ℕ) : (answered s st).chipTo = s.chipTo := rfl
theorem answered_rd (s : State) (st : ℕ) (f : Fld) : (answered s st).rd f = s.rd f := rfl
theorem answered_handshakes (s : State) (st : ℕ) : handshakes (answered s st) = handshakes s := rfl

/-- A write that leaves entry to DEEP to run after it. -/
theorem settle_deep (h : s.chipTo = 2) (hs : s.rd FM_CHIP_STATUS_STATE ≠ 2) (hh : handshakes s = false) (st : ℕ) :
    settle { deepDue s with busStatus := st } = deepEnter (answered s st) := by
  have e : ({ ({ deepDue s with busStatus := st } : State) with defer := [] } : State) = answered s st := rfl
  have hr : runDeferred (answered s st) .deep = deepEnter (answered s st) :=
    runDeferred_deep (le_of_eq ((answered_chipTo s st).trans h).symm) (by rwa [answered_rd]) ((answered_handshakes s st).trans hh)
  obtain ⟨-, -, -, -, -, hd⟩ := deepEnter_shows (answered s st)
  rw [settle_one _ .deep rfl (by rw [e, hr, hd, answered_defer]), e, hr]

theorem execChipDeep_enters (hr : Reaches s FM_CHIP_CTRL) (ho : ∀ o ∈ s.ops, o.state.terminal = true) (hp : planRestorable s = true)
    (hc : s.chipTo = 0) (hh : handshakes s = false) :
    Completes .chipDeep s fun t => t.rd FM_CHIP_STATUS_STATE = 2 ∧ t.rd FM_CHIP_STATUS_TRANSIT = 0 ∧ t.sessions = [] ∧ t.ops = [] ∧
      t.plan = s.plan ∧ t.flash = s.flash := by
  obtain ⟨hcd, hpd, hfd, hod, -⟩ := directStart_chip s
  have hhd : handshakes (directStart s) = false := (directStart_handshakes s).trans hh
  have hdd := (directStart_stage s).2.1
  have hsd : (directStart s).rd FM_CHIP_STATUS_STATE ≠ 2 := by
    obtain ⟨ha, -⟩ := hr
    rw [directStart_rd]
    intro e
    simp [State.alive, e] at ha
  have e : blockWrite (directStart s) .direct FM_CHIP_CTRL (BitVec.ofNat 32 (2 ^ 31)).toNat =
      (deepDue (chipBegin (asked (directStart s) 2) 2), stOk) := by
    rw [blockWrite_chipCtrl, show vf (BitVec.ofNat 32 (2 ^ 31)).toNat 30 2 = 2 by decide,
      chipTargetEff_deep (by rwa [hod]) ((directStart_restorable s).trans hp), chipTarget_deep (hcd.trans hc) hhd hdd]
  have hu := settle_deep (s := chipBegin (asked (directStart s) 2) 2) (chipBegin_chipTo _ 2)
    (by rwa [chipBegin_state, asked_state]) (by rw [chipBegin_handshakes, asked_handshakes, hhd]) stOk
  have hup : (answered (chipBegin (asked (directStart s) 2) 2) stOk).plan = s.plan := by rw [answered_plan, chipBegin_plan, asked_plan, hpd]
  have huf : (answered (chipBegin (asked (directStart s) 2) 2) stOk).flash = s.flash := by rw [answered_flash, chipBegin_flash, asked_flash, hfd]
  generalize answered (chipBegin (asked (directStart s) 2) 2) stOk = u at *
  have hw : regWriteOut s FM_CHIP_CTRL (2 ^ 31) = .next (written (deepEnter u) (deepEnter u).busStatus) := by
    rw [regWriteOut_reaches s FM_CHIP_CTRL (2 ^ 31) hr rfl (by decide +kernel), e]
    dsimp only
    rw [hu]
    rfl
  obtain ⟨hstate, htransit, hsess, hplan, hflash, -⟩ := deepEnter_shows u
  have hops := deepEnter_ops u
  generalize deepEnter u = x at *
  exact ⟨_, hw, hstate, htransit, hsess, hops, hplan.trans hup, hflash.trans huf⟩

end

end Sys2Proof.Machine

namespace Sys2Proof.Machine
open Sys2Proof Sys2Proof.Laws

/-! ## The plan's steps (R70) -/

/-- A state with a plan put in. -/
def planPut (s : State) (p : Plan) : State := { s with plan := some p }

theorem planPut_plan (s : State) (p : Plan) : (planPut s p).plan = some p := rfl
theorem planPut_defer (s : State) (p : Plan) : (planPut s p).defer = s.defer := rfl
theorem planPut_rd (s : State) (p : Plan) (f : Fld) : (planPut s p).rd f = s.rd f := rfl

section
variable {s₀ s : State}

theorem Steady.planPut (h : Steady s₀ s) (p : Plan) : Steady (planPut s₀ p) (planPut s p) :=
  ⟨h.regs, congrArg (fun x => (some p, x.2)) h.held, h.ids⟩

theorem mem_planFaces {rs : List PRec} {f : ℕ} (h : f ∈ planFaces rs) : f < 16 := List.mem_range.mp (List.mem_filter.mp h).1
theorem mem_planRedo {run : Bool} {old new : List PRec} {f : ℕ} (h : f ∈ planRedo run old new) : f < 16 := mem_planFaces (List.mem_filter.mp h).1
theorem mem_planGone {old new : List PRec} {f : ℕ} (h : f ∈ planGone old new) : f < 16 := mem_planFaces (List.mem_filter.mp h).1

/-- A plan without REG_INIT pairs: its steps write no register of the chip's state. -/
theorem planSteps_steady {p : Plan} (h : initOf p.recs = []) (s : State) (hold : Bool) : Steady (planPut s p) (planSteps s p hold).1 := by
  conv in Machine.planSteps => delta Machine.planSteps
  extract_lets run old new differs code had have_ redo gone t t1 t2 t3 t4 t5 t6 t7 t8 t9 t10 t11 t12 t13 touched pairs t14
  have hdown : ∀ f ∈ had.filter redo.contains ++ gone, f < 16 := fun f hf => (List.mem_append.mp hf).elim
    (fun hf => mem_planFaces (List.mem_filter.mp hf).1) mem_planGone
  have ht : Steady s t := (Steady.refl s).foldl_mem fun _ f hf hu => hu.faceDown (hdown f hf)
  have ht1 : Steady s t1 := .ite (ht.surveyStop.foldl_mem fun _ _ hf hu => hu.assayAbandon.toSleep (mem_planFaces hf)) ht
  have ht2 : Steady (Machine.planPut s p) t2 := ht1.planPut p
  have ht3 : Steady (Machine.planPut s p) t3 := ht2.wr rfl
  have ht4 : Steady (Machine.planPut s p) t4 := .ite ht3.platformApply ht3
  have ht5 : Steady (Machine.planPut s p) t5 := .ite ht4.powerApply ht4
  have ht6 : Steady (Machine.planPut s p) t6 := .ite ht5.tallyApply ht5
  have ht7 : Steady (Machine.planPut s p) t7 := .ite ht6.regionsApply ht6
  have ht8 : Steady (Machine.planPut s p) t8 := .ite (ht7.foldl fun _ _ hu => hu.hewerLoad.hewerFresh) ht7
  have ht9 : Steady (Machine.planPut s p) t9 := ht8.foldl fun _ _ hu => hu.faceAbsent
  have ht10 : Steady (Machine.planPut s p) t10 := ht9.foldl fun _ _ hu => hu.faceFresh.wr
  have ht11 : Steady (Machine.planPut s p) t11 := ht10.portsApply.foldl fun _ _ hu => hu.dpRoles
  have ht12 : Steady (Machine.planPut s p) t12 := .ite ht11.seqLoad ht11
  have ht13 : Steady (Machine.planPut s p) t13 := .ite ht12.assayApply ht12
  have hp : pairs = [] := by
    have hn : initOf new = [] := h
    simp only [pairs, hn, List.filter_nil, ite_self]
  have ht14 : Steady (Machine.planPut s p) t14 := by
    unfold t14
    rw [hp]
    exact ht13.accRearm
  exact ht14.ddrEval.planShow.foremanApply

theorem planSteps_faces (s : State) (p : Plan) (hold : Bool) : ∀ f ∈ (planSteps s p hold).2, f < 16 := by
  intro f hf
  have hf' : f ∈ if codeChange s.plan.isSome (runningRecs s) p.recs then planFaces p.recs
      else planRedo s.plan.isSome (runningRecs s) p.recs := hf
  split at hf'
  · exact mem_planFaces hf'
  · exact mem_planRedo hf'

/-! ## What DEEP keeps (R337, R447) -/

theorem keepRegs_reg (s t : State) (as : List ℕ) (a : ℕ) : (keepRegs s t as).reg a = if a ∈ as then s.reg a else t.reg a := by
  induction as generalizing t with
  | nil => rfl
  | cons b as ih =>
    refine (ih (t.setReg b (s.reg b))).trans ?_
    by_cases hb : a = b
    · simp [hb]
    · simp [hb, State.reg_setReg_other _ _ hb]

theorem keepRegs_held (s t : State) (as : List ℕ) : (keepRegs s t as).held = t.held := by
  induction as generalizing t with
  | nil => rfl
  | cons b as ih => exact ih (t.setReg b (s.reg b))

theorem Steady.keepFlds (h : Steady s₀ s) {x : State} {fs : List Fld} (hf : ∀ f ∈ fs, chipWord f.addr = false) : Steady s₀ (keepFlds x s fs) :=
  h.foldl_mem fun _ f hm hu => hu.wr (hf f hm)

theorem wakeSrc_mem_deepRegs (s : State) : WAKE_SRC ∈ deepRegs s := by
  simp [deepRegs]

theorem chipStatus_not_mem_deepRegs (s : State) : FM_CHIP_STATUS ∉ deepRegs s := by
  have far {a : ℕ} (h : 0x100010 < a) : FM_CHIP_STATUS ≠ a := by
    simp only [FM_CHIP_STATUS]
    omega
  simp only [deepRegs, List.mem_append, List.mem_flatMap, List.mem_map, not_or, not_exists, not_and]
  refine ⟨⟨⟨by decide, fun c _ hc => ?_⟩, fun f _ hf => ?_⟩, fun q _ i _ hi => ?_⟩
  · simp only [List.mem_cons, List.not_mem_nil, or_false] at hc
    rcases hc with hc | hc <;> exact far (by (repeat apply Nat.lt_add_right); decide) hc
  · simp only [List.mem_cons, List.not_mem_nil, or_false] at hf
    rcases hf with hf | hf | hf | hf | hf | hf | hf | hf <;> exact far (by (repeat apply Nat.lt_add_right); decide) hf
  · exact far (by (repeat apply Nat.lt_add_right); decide) hi.symm

theorem deepFlds_far (s : State) : ∀ f ∈ deepFlds s, chipWord f.addr = false := by
  intro x hx
  refine chipWord_far ?_
  simp only [deepFlds, List.mem_append, List.mem_flatMap, List.mem_map] at hx
  rcases hx with (hx | ⟨n, -, hx⟩) | ⟨f, -, p, -, rfl⟩
  · revert x
    decide
  · simp only [List.mem_cons, List.not_mem_nil, or_false] at hx
    rcases hx with rfl | rfl <;> (repeat apply Nat.lt_add_right) <;> decide
  · (repeat apply Nat.lt_add_right)
    decide

theorem keptBase_defer (s : State) : (keptBase s).defer = [] := rfl
theorem keptBase_state (s : State) : (keptBase s).rd FM_CHIP_STATUS_STATE = 0 :=
  show State.reset.rd FM_CHIP_STATUS_STATE = 0 by decide

/-! ## A wake (R336, R446) -/

/-- What a wake shows: RUN, its code, its count, and the plan that ran. -/
structure Woke (t : State) (p : Plan) (code wakes : ℕ) : Prop where
  state : t.rd FM_CHIP_STATUS_STATE = 0
  last : t.rd WAKE_SRC_LAST = code
  wakes : t.rd WAKE_SRC_WAKES = wakes
  plan : t.plan = some p
  defer : t.defer = []

/-- The state that a wake builds on: what reset leaves, and what DEEP kept. -/
def wakeBase (s : State) : State :=
  keepFlds s { keptBase s with frozenLost := s.frozenLost, rails := s.rails, burnQ := s.burnQ } [TALLY_STATUS_FROZEN]

theorem wakeBase_steady (s : State) : Steady (keptBase s) (wakeBase s) :=
  Steady.keepFlds ((Steady.refl (Machine.keptBase s)).same) (by decide)

theorem Steady.putBooting (h : Steady s₀ s) {b : Bool} : Steady s₀ { s with booting := b } := h.same

/-- What a wake restores of `s`, from which the rest of R336 starts. -/
def wakeKept (s u : State) : State := keepFlds s (keepRegs s u (deepRegs s)) (deepFlds s)

theorem wakeKept_steady (s u : State) : Steady (keepRegs s u (deepRegs s)) (wakeKept s u) := (Steady.refl _).keepFlds (deepFlds_far s)

theorem wakeKept_reg_same (s u : State) : (wakeKept s u).reg WAKE_SRC = s.reg WAKE_SRC := by
  rw [(wakeKept_steady s u).regs _ rfl, keepRegs_reg, if_pos (wakeSrc_mem_deepRegs s)]

theorem wakeKept_state (s u : State) : (wakeKept s u).rd FM_CHIP_STATUS_STATE = u.rd FM_CHIP_STATUS_STATE := by
  simp only [State.rd, (wakeKept_steady s u).regs FM_CHIP_STATUS rfl, keepRegs_reg, if_neg (chipStatus_not_mem_deepRegs s)]

theorem wakeKept_held (s u : State) : (wakeKept s u).held = u.held := (wakeKept_steady s u).held.trans (keepRegs_held s u _)

/-- Everything that a wake does after what DEEP kept is back. -/
theorem wakeRestore_shape (s : State) {p : Plan} (h : initOf p.recs = []) (bad : List ℕ) :
    ∃ t u, Steady s t ∧ Steady (planPut (wakeBase t) p) u ∧ Steady (wakeKept t u) (wakeRestore s p bad) := by
  conv in Machine.wakeRestore => delta Machine.wakeRestore
  extract_lets +onlyGivenNames banks lost good t keep
  have ht : Steady s t := .ite (Steady.refl s).tallyDrop (Steady.refl s)
  clear_value t keep
  have hu : Steady (planPut (wakeBase t) p) (planSteps (wakeBase t) p false).1 := planSteps_steady h _ _
  have hfs := planSteps_faces (wakeBase t) p false
  unfold wakeBase at hu hfs
  split
  rename_i u fs e
  rw [e] at hu hfs
  extract_lets u1 u2 u3 u4 u5 u6
  refine ⟨t, u, ht, hu, ?_⟩
  have hu1 : Steady (wakeKept t u) u1 := Steady.refl _
  have hu2 : Steady (wakeKept t u) u2 := hu1.memTake.slotsShow.otpShow
  have hu3 : Steady (wakeKept t u) u3 := hu2.foldl fun _ _ hv => hv.dpRoles
  have hu4 : Steady (wakeKept t u) u4 := hu3.putBooting.wrs.cpRestart
  have hu5 : Steady (wakeKept t u) u5 := hu4.foldl fun v i hv => by
    extract_lets f v1
    have hf : chipWord f.addr = false := by
      unfold f
      split <;> rfl
    have hv1 : Steady (wakeKept t u) v1 := (hv.wr hf).logEvent
    split
    · exact hv1.ownerNotice
    · exact hv1
  have hu6 : Steady (wakeKept t u) u6 := hu5.logEvent.thawEff
  exact hu6.foremanApply.foldl_mem fun _ f hf hv => hv.optWalk (hfs f hf)

theorem Woke.wakeRestore {s : State} {p : Plan} (h : initOf p.recs = []) (bad : List ℕ) {code wakes : ℕ} (hc : s.rd WAKE_SRC_LAST = code)
    (hw : s.rd WAKE_SRC_WAKES = wakes) : Woke (wakeRestore s p bad) p code wakes := by
  obtain ⟨t, u, ht, hu, hk⟩ := wakeRestore_shape s h bad
  have hsrc : (Machine.wakeRestore s p bad).reg WAKE_SRC = s.reg WAKE_SRC :=
    (hk.regs _ rfl).trans ((wakeKept_reg_same t u).trans (ht.regs _ rfl))
  have hheld : (Machine.wakeRestore s p bad).held = u.held := hk.held.trans (wakeKept_held t u)
  have hb := wakeBase_steady t
  refine ⟨?_, ?_, ?_, ?_, ?_⟩
  · rw [hk.rd _ rfl, wakeKept_state, hu.rd _ rfl, planPut_rd, hb.rd _ rfl, keptBase_state]
  · simp only [State.rd, hsrc]
    exact hc
  · simp only [State.rd, hsrc]
    exact hw
  · exact (congrArg (·.1) hheld).trans (hu.plan.trans (planPut_plan _ p))
  · exact (congrArg (·.2.1) hheld).trans (hu.defer.trans ((planPut_defer _ p).trans (hb.defer.trans (keptBase_defer t))))

/-- The source's registers, and flips in banks that DEEP kept. -/
theorem wakeBegin_steady (s : State) (code : ℕ) (flips : List (Fin 64 × BitVec 24 × BitVec 8)) : ∃ t,
    Steady ((s.wrs [(WAKE_SRC_LAST, code), (WAKE_SRC_PEND, nbitSet (s.rd WAKE_SRC_PEND) (code - 1) true)]).incMod WAKE_SRC_WAKES) t ∧
      wakeBegin s code flips = t.wr FM_CHIP_STATUS_STATE 0 := by
  unfold wakeBegin
  extract_lets banks t t1
  refine ⟨t1, (Steady.refl t).foldl fun _ _ hu => ?_, rfl⟩
  split
  · split
    · exact hu.same
    · exact hu
  · exact hu

/-- A wake of `s` has begun with `code`. -/
structure Waking (t s : State) (code : ℕ) : Prop where
  last : t.rd WAKE_SRC_LAST = code
  wakes : t.rd WAKE_SRC_WAKES = (s.rd WAKE_SRC_WAKES + 1) % 2 ^ WAKE_SRC_WAKES.width
  plan : t.plan = s.plan

theorem Waking.wakeBegin (s : State) {code : ℕ} (hc : code < 8) (flips : List (Fin 64 × BitVec 24 × BitVec 8)) :
    Waking (wakeBegin s code flips) s code := by
  obtain ⟨t, ht, e⟩ := wakeBegin_steady s code flips
  rw [e, State.wrs_cons, State.wrs_cons, State.wrs_nil] at *
  refine ⟨?_, ?_, ?_⟩
  · rw [State.rd_wr_addr _ _ _ _ (by decide), ht.rd _ rfl, State.incMod, State.rd_wr_apart _ _ _ _ (by decide) (by decide),
      State.rd_wr_apart _ _ _ _ (by decide) (by decide), State.rd_wr_same _ _ _ (by decide)]
    exact Nat.mod_eq_of_lt hc
  · rw [State.rd_wr_addr _ _ _ _ (by decide), ht.rd _ rfl, State.incMod, State.rd_wr_same _ _ _ (by decide),
      State.rd_wr_apart _ _ _ _ (by decide) (by decide), State.rd_wr_apart _ _ _ _ (by decide) (by decide)]
  · rw [State.wr_plan, ht.plan, State.incMod_plan, State.wr_plan, State.wr_plan]

/-- A wake whose plan copy reads back restores what DEEP kept. -/
theorem wake_restores {s t : State} {p : Plan} {code : ℕ} {flips : List (Fin 64 × BitVec 24 × BitVec 8)} (e : wakeBegin s code flips = t)
    (hp : t.plan = some p) (hi : (reapplyImage t p).2.map (fun x => x.1) = some p.image) :
    ∃ bad, wake s code flips = wakeRestore (reapplyImage t p).1 p bad := by
  unfold wake
  rw [e]
  dsimp only
  rw [hp]
  dsimp only
  rw [if_pos hi]
  exact ⟨_, rfl⟩

theorem Woke.wake {s : State} {p : Plan} {code : ℕ} {flips : List (Fin 64 × BitVec 24 × BitVec 8)} (hp : s.plan = some p) (h : initOf p.recs = [])
    (hc : code < 8) (hi : (reapplyImage (wakeBegin s code flips) p).2.map (fun x => x.1) = some p.image) :
    Woke (wake s code flips) p code ((s.rd WAKE_SRC_WAKES + 1) % 2 ^ WAKE_SRC_WAKES.width) := by
  obtain ⟨hlast, hwakes, hplan⟩ := Waking.wakeBegin s hc flips
  obtain ⟨bad, e⟩ := wake_restores rfl (hplan.trans hp) hi
  have hr := (Steady.refl (Machine.wakeBegin s code flips)).reapplyImage (p := p)
  rw [e]
  exact Woke.wakeRestore h bad ((hr.rd _ rfl).trans hlast) ((hr.rd _ rfl).trans hwakes)

end

/-! ## Wake sources (R316, R340) -/

theorem elsBank_apart (b : Fin 4) : chipWord (ELS_BANK b) = false := by
  revert b
  decide

/-- A part in DEEP that may wake. -/
structure Asleep (s : State) (p : Plan) : Prop where
  powered : s.powered = true
  canary : s.canary = false
  started : s.started = true
  state : s.rd FM_CHIP_STATUS_STATE = 2
  plan : s.plan = some p
  init : initOf p.recs = []

/-- What the statement says of command `c`, which wakes from `u` with `code`. -/
def Wakes (s : State) (p : Plan) (flips : List (Fin 64 × BitVec 24 × BitVec 8)) (c : Instr) (code : ℕ) (u : State) : Prop :=
  (reapplyImage (wakeBegin u code flips) p).2.map (fun x => x.1) = some p.image → Completes c s fun t =>
    t.rd FM_CHIP_STATUS_STATE = 0 ∧ t.rd WAKE_SRC_LAST = code ∧ t.rd WAKE_SRC_WAKES = (s.rd WAKE_SRC_WAKES + 1) % 2 ^ WAKE_SRC_WAKES.width ∧
      t.plan = some p

section
variable {s : State} {p : Plan} {flips : List (Fin 64 × BitVec 24 × BitVec 8)}

theorem inDeep_of (h : Asleep s p) (src : ℕ) (hs : (src == 3 || nbit (s.rd WAKE_EN_EN) src) = true) : inDeep s src = true := by
  obtain ⟨hp, hc, ht, hst, -, -⟩ := h
  simp only [inDeep, hp, hc, ht, hst, hs]
  rfl

/-- A command that wakes from `u`, which differs from the state apart from the chip's registers. -/
theorem Wakes.of_exec {u : State} {c : Instr} {code : ℕ} (h : Asleep s p) (hu : Steady s.calm u) (hc : code < 8)
    (he : exec c s = .next (settle (wake u code flips))) : Wakes s p flips c code u := by
  intro hi
  have hpu : u.plan = some p := hu.plan.trans h.plan
  obtain ⟨hstate, hlast, hwakes, hplan, hdefer⟩ := Woke.wake hpu h.init hc hi
  rw [settle_nil _ hdefer] at he
  rw [hu.rd _ rfl] at hwakes
  exact ⟨_, he, hstate, hlast, hwakes, hplan⟩

/-- The magic of R316, and its zeros. -/
theorem wakeMagic {d : List ℕ} (h : d.take 8 = [0x5A, 0x57, 0x41, 0x4B, 0, 0, 0, 0]) :
    d.take 4 = [0x5A, 0x57, 0x41, 0x4B] ∧ zeros d 4 4 = true := by
  have h4 : (d.drop 4).take 4 = [0, 0, 0, 0] := by
    rw [List.take_drop, h]
    rfl
  refine ⟨?_, ?_⟩
  · rw [show d.take 4 = (d.take 8).take 4 by rw [List.take_take]; rfl, h]
    rfl
  · rw [zeros, h4]
    rfl

theorem wakes_frame (h : Asleep s p) {payload : List (BitVec 8)} (hs : nbit (s.rd WAKE_EN_EN) 0 = true) (hl : payload.length = 24)
    (hm : (payload.map BitVec.toNat).take 8 = [0x5A, 0x57, 0x41, 0x4B, 0, 0, 0, 0])
    (hser : recField (payload.map BitVec.toNat) 8 8 = (s.reg SERIAL_LO).toNat + (s.reg SERIAL_HI).toNat * 2 ^ 32)
    (hcode : recField (payload.map BitVec.toNat) 16 8 = (s.reg WAKE_CODE_LO).toNat + (s.reg WAKE_CODE_HI).toNat * 2 ^ 32) :
    Wakes s p flips (.wakeFrame payload flips) 1 s.calm := by
  obtain ⟨hm4, hz⟩ := wakeMagic hm
  refine .of_exec h (.refl _) (by decide) ?_
  change execWakeFrame payload flips s = _
  simp only [execWakeFrame, inDeep_of h 0 hs, List.length_map, hl, hm4, hz, hser, hcode, beq_self_eq_true, Bool.and_self, guardS_true]

theorem wakes_wakeN (h : Asleep s p) (hs : nbit (s.rd WAKE_EN_EN) 1 = true) : Wakes s p flips (.wakeN flips) 2 s.calm := by
  refine .of_exec h (.refl _) (by decide) ?_
  change execWakeN flips s = _
  rw [execWakeN, inDeep_of h 1 hs, guardS_true]

theorem wakes_timer (h : Asleep s p) (hs : nbit (s.rd WAKE_EN_EN) 2 = true) (ht : s.reg WAKE_TIMER ≠ 0) :
    Wakes s p flips (.aonTimer flips) 3 s.calm := by
  refine .of_exec h (.refl _) (by decide) ?_
  change execAonTimer flips s = _
  rw [execAonTimer, inDeep_of h 2 hs, bne_iff_ne.mpr ht, Bool.and_self, guardS_true]

theorem wakes_thermal (h : Asleep s p) {v : ℤ} (hv : sext 16 (s.rd WAKE_EN_WAKE_TEMP) ≤ v) :
    Wakes s p flips (.thermalAlert v flips) 4 (s.calm.wr (TS_VALUE 32) (twos 16 v)) := by
  refine .of_exec h (Steady.refl _).wr (by decide) ?_
  change execThermalAlert v flips s = _
  rw [execThermalAlert, inDeep_of h 3 rfl, decide_eq_true hv, Bool.and_self, guardS_true]

theorem wakes_els (h : Asleep s p) {b : Fin 4} {low : Bool} (hs : nbit (s.rd WAKE_EN_EN) 4 = true) (hg : s.on (ELS_BANK_GNT b) ≠ low) :
    Wakes s p flips (.elsGrantChange b low flips) 5 (s.calm.wr (ELS_BANK_GNT b) (bit low)) := by
  refine .of_exec h ((Steady.refl _).wr (elsBank_apart b)) (by decide) ?_
  change execElsGrantChange b low flips s = _
  rw [execElsGrantChange, inDeep_of h 4 hs, bne_iff_ne.mpr hg, Bool.and_self, guardS_true]

end

/-! ## Reference clocks (R458) and the die-to-die link (R33) -/

/-- A state with the loss of REFCLK_A, and one with that of REFCLK_B. -/
def clockA (s : State) (lost : Bool) : State := { s with refALost := lost }
def clockB (s : State) (lost : Bool) : State := { s with refBLost := lost }

theorem clockA_on (s : State) (lost : Bool) (f : Fld) : (clockA s lost).on f = s.on f := rfl
theorem clockB_on (s : State) (lost : Bool) (f : Fld) : (clockB s lost).on f = s.on f := rfl
theorem clockB_rd (s : State) (lost : Bool) (f : Fld) : (clockB s lost).rd f = s.rd f := rfl
theorem clockA_refALost (s : State) (lost : Bool) : (clockA s lost).refALost = lost := rfl
theorem clockB_refBLost (s : State) (lost : Bool) : (clockB s lost).refBLost = lost := rfl

theorem on_wr_same (s : State) (f : Fld) (b : Bool) (hw : f.width = 1 := by rfl) (hl : f.lo + f.width ≤ 32 := by decide) :
    (s.wr f (bit b)).on f = b := by
  rw [State.on, State.rd_wr_same _ _ _ hl, hw]
  cases b <;> rfl

section
variable {s : State} (hp : s.powered = true) (hc : s.canary = false)
include hp hc

theorem refclkB_lost : Completes (.refclkLoss true) s fun t =>
    t.on BOARD_STATUS_REFCLK_B_OK = false ∧ t.on BOARD_STATUS_CHIP_ON_XTAL = true ∧ t.refBLost = true := by
  have he : exec (.refclkLoss true) s = .next (clockB ((s.wr BOARD_STATUS_REFCLK_B_OK 0).wr BOARD_STATUS_CHIP_ON_XTAL 1) true) := by
    change execRefclkLoss true s = _
    rw [execRefclkLoss, hp, hc, Bool.not_false, Bool.and_self, guardS_true, if_pos rfl, State.wrs_cons, State.wrs_cons, State.wrs_nil]
    rfl
  refine ⟨_, he, ?_, ?_, clockB_refBLost _ _⟩
  · rw [clockB_on, State.on, State.rd_wr_apart _ _ _ _ (by decide) (by decide)]
    exact on_wr_same s _ false
  · rw [clockB_on]
    exact on_wr_same _ _ true

theorem refclkB_back : Completes (.refclkRestored true) s fun t => t.on BOARD_STATUS_REFCLK_B_OK = true ∧ t.refBLost = false ∧
    t.rd BOARD_STATUS_CHIP_ON_XTAL = s.rd BOARD_STATUS_CHIP_ON_XTAL := by
  have he : exec (.refclkRestored true) s = .next (clockB (s.wr BOARD_STATUS_REFCLK_B_OK 1) false) := by
    change execRefclkRestored true s = _
    rw [execRefclkRestored, hp, hc, Bool.not_false, Bool.and_self, guardS_true, if_pos rfl]
    rfl
  refine ⟨_, he, ?_, clockB_refBLost _ _, ?_⟩
  · rw [clockB_on]
    exact on_wr_same s _ true
  · rw [clockB_rd]
    exact State.rd_wr_apart _ _ _ _ (by decide) (by decide)

theorem refclkA_lost : Completes (.refclkLoss false) s fun t => t.on BOARD_STATUS_REFCLK_A_OK = false ∧ t.refALost = true := by
  obtain ⟨t, he, hk⟩ : ∃ t, exec (.refclkLoss false) s = .next t ∧ Steady (clockA (s.wr BOARD_STATUS_REFCLK_A_OK 0) true) t := by
    change ∃ t, execRefclkLoss false s = .next t ∧ _
    rw [execRefclkLoss, hp, hc, Bool.not_false, Bool.and_self, guardS_true, if_neg Bool.false_ne_true]
    exact ⟨_, rfl, .ite (Steady.refl (clockA _ true)).optWalkAll.hostLanesStage1 (.refl (clockA _ true))⟩
  exact ⟨t, he, (hk.on _ rfl).trans ((clockA_on _ _ _).trans (on_wr_same s _ false)), hk.refALost.trans (clockA_refALost _ _)⟩

theorem refclkA_back : Completes (.refclkRestored false) s fun t => t.on BOARD_STATUS_REFCLK_A_OK = true ∧ t.refALost = false := by
  obtain ⟨t, he, hk⟩ : ∃ t, exec (.refclkRestored false) s = .next t ∧ Steady (clockA (s.wr BOARD_STATUS_REFCLK_A_OK 1) false) t := by
    change ∃ t, execRefclkRestored false s = .next t ∧ _
    rw [execRefclkRestored, hp, hc, Bool.not_false, Bool.and_self, guardS_true, if_neg Bool.false_ne_true]
    exact ⟨_, rfl, .ite (Steady.refl (clockA _ false)).optWalkAll (.refl (clockA _ false))⟩
  exact ⟨t, he, (hk.on _ rfl).trans ((clockA_on _ _ _).trans (on_wr_same s _ true)), hk.refALost.trans (clockA_refALost _ _)⟩

end

theorem nbit_nbitSet_true (x i : ℕ) : nbit (nbitSet x i true) i = true := by
  have hlt : x % 2 ^ i < 2 ^ i := Nat.mod_lt _ (by positivity)
  have e : nbitSet x i true = (x / 2 ^ (i + 1) * 2 + 1) * 2 ^ i + x % 2 ^ i := by
    simp only [nbitSet, bit, if_true, pow_succ]
    ring
  rw [nbit, e, Nat.add_div_of_dvd_right (Dvd.intro_left _ rfl), Nat.mul_div_cancel _ (by positivity), Nat.div_eq_of_lt hlt]
  simp

/-- A state in which the fault of an engine's link was noted. -/
def faultPut (s : State) (e : ℕ) : State := { s.tookFree with d2d := nbitSet s.d2d e true }

theorem faultPut_d2d (s : State) (e : ℕ) : (faultPut s e).d2d = nbitSet s.d2d e true := rfl
theorem faultPut_plan (s : State) (e : ℕ) : (faultPut s e).plan = s.plan := rfl

theorem dieToDieFault_noted {s : State} (e : Fin 4) (ha : s.alive = true) (hn : nbit s.d2d e = false) :
    Completes (.dieToDieFault e) s fun t => nbit t.d2d e = true ∧ t.plan = s.plan := by
  obtain ⟨t, he, hk⟩ : ∃ t, exec (.dieToDieFault e) s = .next t ∧ Steady (faultPut s e) t := by
    change ∃ t, execDieToDieFault e s = .next t ∧ _
    rw [execDieToDieFault, ha, guardS_true, hn, if_neg Bool.false_ne_true]
    exact ⟨_, rfl, (Steady.refl (faultPut s e)).logEvent.optWalkAll.hostLanesStage1⟩
  refine ⟨t, he, ?_, hk.plan.trans (faultPut_plan s e)⟩
  rw [hk.d2d, faultPut_d2d, nbit_nbitSet_true]

/-! ## The obligation -/

/-- Settles O36: its parts are the writes of TARGET, the wake sources, the reference clocks and the die-to-die link. -/
theorem chipStatesAndWake : Obligations.ChipStatesAndWake := by
  unfold Obligations.ChipStatesAndWake
  refine ⟨fun s hr => ⟨fun hs hc => ⟨execChipRun_free hr hs hc, execChipStandby_free hr hs hc, fun hh hs => execChipStandby_waits hr hs hc hh⟩,
    execChipRun_meanwhile hr, execChipDeep_enters hr⟩, fun flips s p hp hc ht hst hpl hi => ?_,
    fun s hp hc => ⟨refclkB_lost hp hc, refclkB_back hp hc, refclkA_lost hp hc, refclkA_back hp hc⟩, fun e s => dieToDieFault_noted e⟩
  have h : Asleep s p := ⟨hp, hc, ht, hst, hpl, hi⟩
  exact ⟨fun _ => wakes_frame h, wakes_wakeN h, wakes_timer h, fun _ => wakes_thermal h, fun _ _ => wakes_els h⟩

end Sys2Proof.Machine

/-! # Requests and their replies (R297-R299)

What the commands of a session share: a request that the checks let through is executed from a state in which nothing but counts, events
and the session's own record moved, and its reply is sent. -/

namespace Sys2Proof.Machine
open Sys2Proof Sys2Proof.Laws

/-! ## What leaves every session its reply -/

/-- Session `y` is session `x`, but for the notices and messages that it was sent (R298, R422). -/
def Session.Like (x y : Session) : Prop := y = { x with sent := y.sent, subDropped := y.subDropped, noticeTimes := y.noticeTimes }

theorem Session.Like.refl (x : Session) : x.Like x := rfl

theorem Session.Like.trans {x y z : Session} (h : x.Like y) (k : y.Like z) : x.Like z := by
  unfold Session.Like at *
  rw [h] at k
  exact k

theorem Session.Like.id {x y : Session} (h : x.Like y) : y.id = x.id := by rw [h]
theorem Session.Like.port {x y : Session} (h : x.Like y) : y.port = x.port := by rw [h]
theorem Session.Like.ver {x y : Session} (h : x.Like y) : y.ver = x.ver := by rw [h]
theorem Session.Like.priv {x y : Session} (h : x.Like y) : y.priv = x.priv := by rw [h]
theorem Session.Like.authed {x y : Session} (h : x.Like y) : y.authed = x.authed := by rw [h]
theorem Session.Like.high {x y : Session} (h : x.Like y) : y.high = x.high := by rw [h]
theorem Session.Like.cache {x y : Session} (h : x.Like y) : y.cache = x.cache := by rw [h]

theorem Session.Like.tagOk {x y : Session} (h : x.Like y) (r : Req) (op : ℕ) (payload : List ℕ) : tagOk y r op payload = tagOk x r op payload := by
  rw [h]
  rfl

/-- The session found after every session was changed without its identifier. -/
theorem find_session_map (l : List Session) {g : Session → Session} (hg : ∀ x, (g x).id = x.id) (n : ℕ) :
    (l.map g).find? (fun x => x.id == n) = (l.find? fun x => x.id == n).map g := by
  rw [List.find?_map]
  congr 2
  funext x
  simp [hg]

theorem session_id {s : State} {n : ℕ} {x : Session} (h : s.session n = some x) : x.id = n := by
  simpa using List.find?_some h

/-- A session is still there after one was changed. -/
theorem session_sessUpd {s : State} {m n : ℕ} {g : Session → Session} {x : Session} (h : s.session n = some x)
    (hg : ∀ x, (g x).id = x.id := by exact fun _ => rfl) : ∃ y, (s.sessUpd m g).session n = some y :=
  ⟨_, (find_session_map s.sessions (fun x => by split <;> simp [hg]) n).trans (congrArg (Option.map _) h)⟩

/-- `t` serves the sessions of `s`: each is still there, what was sent to it stands, and no operation changed. -/
structure Serves (s t : State) : Prop where
  ops : t.ops = s.ops
  defer : t.defer = s.defer
  tx : s.tx <+: t.tx
  sessions : ∀ n x, s.session n = some x → ∃ y, t.session n = some y ∧ x.Like y

section
variable {s₀ s t u : State}

theorem Serves.refl (s : State) : Serves s s := ⟨rfl, rfl, List.prefix_refl _, fun _ x h => ⟨x, h, .refl x⟩⟩

theorem Serves.trans (h : Serves s₀ s) (k : Serves s t) : Serves s₀ t where
  ops := k.ops.trans h.ops
  defer := k.defer.trans h.defer
  tx := h.tx.trans k.tx
  sessions n x hx := by
    obtain ⟨y, hy, hxy⟩ := h.sessions n x hx
    obtain ⟨z, hz, hyz⟩ := k.sessions n y hy
    exact ⟨z, hz, hxy.trans hyz⟩

/-- Changes of fields that are neither sessions, nor messages, nor operations. -/
theorem Serves.same (h : Serves s₀ s)
    (e : (t.ops, t.defer, t.tx, t.sessions) = (s.ops, s.defer, s.tx, s.sessions) := by exact rfl) : Serves s₀ t := by
  simp only [Prod.mk.injEq] at e
  obtain ⟨ho, hd, hx, hs⟩ := e
  exact h.trans ⟨ho, hd, by rw [hx], fun n x hn => ⟨x, by rwa [State.session, hs], .refl x⟩⟩

/-- Sessions change in what they were sent alone. -/
theorem Serves.like (h : Serves s₀ s) {g : Session → Session} (hg : ∀ x : Session, x.Like (g x)) : Serves s₀ { s with sessions := s.sessions.map g } :=
  h.trans ⟨rfl, rfl, List.prefix_refl _, fun n x hn => ⟨g x, by
    rw [State.session, find_session_map _ fun y => (hg y).id]
    exact congrArg (Option.map g) hn, hg x⟩⟩

theorem Serves.ite {c : Prop} [Decidable c] (h : Serves s₀ t) (k : Serves s₀ u) : Serves s₀ (if c then t else u) := by
  split
  · exact h
  · exact k

theorem Serves.foldl {α : Type} {g : State → α → State} {l : List α} (h : Serves s₀ s) (k : ∀ t x, Serves s₀ t → Serves s₀ (g t x)) :
    Serves s₀ (l.foldl g s) := by
  induction l generalizing s with
  | nil => exact h
  | cons x l ih => exact ih (k s x h)

theorem Serves.setReg (h : Serves s₀ s) {a : ℕ} {w : Word} : Serves s₀ (s.setReg a w) := h.same
theorem Serves.wr (h : Serves s₀ s) {f : Fld} {v : ℕ} : Serves s₀ (s.wr f v) := h.setReg

theorem Serves.wrs (h : Serves s₀ s) {l : List (Fld × ℕ)} : Serves s₀ (s.wrs l) := by
  induction l generalizing s with
  | nil => exact h
  | cons e l ih => exact ih h.wr

theorem Serves.incSat (h : Serves s₀ s) {f : Fld} : Serves s₀ (s.incSat f) := h.wr
theorem Serves.dropRegs (h : Serves s₀ s) {p : ℕ → Bool} : Serves s₀ (s.dropRegs p) := h.same
theorem Serves.tookFree (h : Serves s₀ s) : Serves s₀ s.tookFree := h.same
theorem Serves.setTag (h : Serves s₀ s) {a i w : ℕ} {x : Option WordTag} : Serves s₀ (s.setTag a i w x) := h.same
theorem Serves.memClear (h : Serves s₀ s) {p : ℕ → ℕ → ℕ → Bool} : Serves s₀ (memClear s p) := h.same
theorem Serves.setRxd (h : Serves s₀ s) {f d : ℕ} {x : RxdX} : Serves s₀ (s.setRxd f d x) := h.same
theorem Serves.setLane (h : Serves s₀ s) {f p : ℕ} {x : LaneX} : Serves s₀ (s.setLane f p x) := h.same
theorem Serves.putGap (h : Serves s₀ s) {b : Bool} : Serves s₀ { s with gap := b } := h.same
theorem Serves.putFrozen (h : Serves s₀ s) {n : ℕ} : Serves s₀ { s with frozenLost := n } := h.same
theorem Serves.putNext (h : Serves s₀ s) {n : ℕ} : Serves s₀ { s with archNext := n } := h.same
theorem Serves.putItems (h : Serves s₀ s) {q : List CalItem} : Serves s₀ { s with calQ := q } := h.same

theorem Serves.setBytes (h : Serves s₀ s) {a i b : ℕ} {l : List ℕ} : Serves s₀ (s.setBytes a i b l) := by
  induction l generalizing s b with
  | nil => exact h
  | cons v l ih => exact ih h.same

theorem Serves.useFlip (h : Serves s₀ s) {a i w : ℕ} : Serves s₀ (useFlip s a i w) := .ite h.wr h
theorem Serves.memPutWord (h : Serves s₀ s) {a i w d : ℕ} : Serves s₀ (memPutWord s a i w d) := h.useFlip.setBytes.setTag

theorem Serves.memPutWords (h : Serves s₀ s) {a i w : ℕ} {l : List ℕ} : Serves s₀ (memPutWords s a i w l) := by
  induction l generalizing s w with
  | nil => exact h
  | cons d l ih => exact ih h.memPutWord

/-- A state with one message more. -/
def txPut (s : State) (m : Msg) : State := { s with tx := s.tx ++ [m] }

theorem serves_txPut (s : State) (m : Msg) : Serves s (txPut s m) :=
  ⟨rfl, rfl, List.prefix_append _ _, fun _ x h => ⟨x, h, .refl x⟩⟩

/-- Sending puts the message behind the others, with the flip that its place in the buffer takes (R291, R403). -/
theorem send_txPut (s : State) (m : Msg) : ∃ u flip, Serves s u ∧ s.send m = txPut u { m with flip := flip } := by
  unfold State.send
  split
  · extract_lets w
    split
    · rename_i x _
      have hx : (Machine.useFlip s.tookFree 8 m.port x).tx = s.tx := useFlip_tx s.tookFree 8 m.port x
      exact ⟨_, _, (Serves.refl s).tookFree.useFlip, by rw [txPut, hx]⟩
    · exact ⟨_, m.flip, (Serves.refl s).tookFree, rfl⟩
  · exact ⟨s, m.flip, .refl s, rfl⟩

theorem Serves.send (h : Serves s₀ s) {m : Msg} : Serves s₀ (s.send m) := by
  obtain ⟨u, flip, hu, e⟩ := send_txPut s m
  rw [e]
  exact (h.trans hu).trans (serves_txPut u _)

/-! ## Events and counts -/

theorem Serves.sendNotices (h : Serves s₀ s) {ws : List ℕ} : Serves s₀ (sendNotices s ws) := by
  unfold Machine.sendNotices
  extract_lets upd out
  have hupd : ∀ x : Session, x.Like (upd x) := fun x => by
    unfold upd
    split
    · exact .refl x
    · split <;> rfl
  exact (h.like hupd).foldl fun _ _ hu => hu.send

theorem Serves.storeRecord (h : Serves s₀ s) {e : Ev} {notified : Bool} : Serves s₀ (storeRecord s e notified) := h.memPutWords.wr.putGap
theorem Serves.loseEvent (h : Serves s₀ s) {f : Fld} : Serves s₀ (loseEvent s f) := h.incSat.putGap
theorem Serves.storeOwn (h : Serves s₀ s) {e : Ev} : Serves s₀ (storeOwn s e) := .ite h.storeRecord.sendNotices h.storeRecord
theorem Serves.archiveLoss (h : Serves s₀ s) : Serves s₀ (archiveLoss s) := .ite h.putNext.incSat.storeOwn h

theorem Serves.storeEvent (h : Serves s₀ s) {e : Ev} {notified : Bool} : Serves s₀ (storeEvent s e notified) :=
  .ite h.loseEvent.putFrozen (.ite h.loseEvent (.ite h.storeOwn.wr.loseEvent h.storeRecord))

theorem Serves.capFireOne (h : Serves s₀ s) {c time pos : ℕ} {short : Bool} : Serves s₀ (capFireOne s c time pos short) := .ite h.wrs h

theorem Serves.capFire (h : Serves s₀ s) {c time pos : ℕ} {short : Bool} : Serves s₀ (capFire s c time pos short) :=
  .ite (h.foldl fun _ _ ht => .ite ht.capFireOne ht) h

theorem Serves.capOnEvent (h : Serves s₀ s) {code : ℕ} : Serves s₀ (capOnEvent s code) := h.foldl fun _ _ ht => .ite ht.tookFree.capFire ht

theorem Serves.recordEvent (h : Serves s₀ s) {e : Ev} {notify : Bool} : Serves s₀ (recordEvent s e notify) :=
  .ite h.storeEvent.sendNotices h.storeEvent

theorem Serves.tallyEvent (h : Serves s₀ s) {e : Ev} : Serves s₀ (tallyEvent s e) := .ite h (Serves.ite h.archiveLoss h).recordEvent
theorem Serves.logEvent (h : Serves s₀ s) {e : Ev} : Serves s₀ (logEvent s e) := h.capOnEvent.tallyEvent

theorem Serves.addCtr (h : Serves s₀ s) {a n : ℕ} : Serves s₀ (s.addCtr a n) := h.same

theorem Serves.pcAdd (h : Serves s₀ s) {b i n : ℕ} : Serves s₀ (pcAdd s b i n) := .ite (.ite h.addCtr.wr.logEvent h.addCtr.wr) h.addCtr

theorem Serves.pcCount (h : Serves s₀ s) {b ev lane n : ℕ} : Serves s₀ (pcCount s b ev lane n) := h.foldl fun _ _ ht => .ite ht.pcAdd ht

end

/-! ## The checks of a request, passed (R297-R299, R304-R307) -/

/-- A state in which the request of a client with privilege `n` begins. -/
def requestStart (u : State) (n : ℕ) : State := { u with actor := n, defer := [] }

/-- A state as a request finds it at its execution: of the state before, counts, events and the record of its session moved; nothing waits to
run, and its session gets the reply. -/
structure Admits (s t : State) (r : Req) : Prop where
  kept : ∃ u n, Quiet countReg s u ∧ t = requestStart u n
  session : ∃ y, t.session r.session.toNat = some y

section
variable {s t : State} {p : ℕ → Bool} (h : Quiet p s t)
include h

/-- Events and counts leave all that operations and their commands read. -/
theorem Quiet.ops : t.ops = s.ops := by rw [h.rest]
theorem Quiet.calQ : t.calQ = s.calQ := by rw [h.rest]
theorem Quiet.assayQ : t.assayQ = s.assayQ := by rw [h.rest]
theorem Quiet.burnQ : t.burnQ = s.burnQ := by rw [h.rest]
theorem Quiet.booting : t.booting = s.booting := by rw [h.rest]

end

section
variable {s t : State} {r : Req} (h : Admits s t r)
include h

theorem Admits.defer : t.defer = [] := by
  obtain ⟨u, n, -, rfl⟩ := h.kept
  rfl

theorem Admits.ops : t.ops = s.ops := by
  obtain ⟨u, n, hu, rfl⟩ := h.kept
  exact hu.ops

theorem Admits.op (n : ℕ) : t.op n = s.op n := by rw [State.op, h.ops, State.op]

theorem Admits.tx : s.tx <+: t.tx := by
  obtain ⟨u, n, hu, rfl⟩ := h.kept
  obtain ⟨more, e⟩ := hu.tx
  exact ⟨more, e.symm⟩

/-- What counts of an operation's work is as it was (R314). -/
theorem Admits.opProgress (o : LongOp) : opProgress t o = opProgress s o := by
  obtain ⟨u, n, hu, rfl⟩ := h.kept
  simp only [Machine.opProgress, requestStart, hu.calQ, hu.assayQ, hu.burnQ]

end

section
variable {s : State} {r : Req} {x : Session} {op least : ℕ} {payload : List ℕ} {since : Since}

/-- The intake of a request that the checks let through goes on to its execution, with the session that made it. -/
theorem intake_accepted (ha : Accepted s r x op payload least since) {v : State} (hv : Quiet countReg s v) (hs : Serves s v) :
    ∃ t y, intake v r op payload = .go t y ∧ x.Like y ∧ Quiet countReg s t ∧ ∃ z, t.session r.session.toNat = some z := by
  obtain ⟨-, hx, hport, htag, hcache, hexec, hroom, hhigh, hver, -⟩ := ha
  obtain ⟨y, hy, hxy⟩ := hs.sessions _ x hx
  have hfind : (y.cache.find? fun m => m.seq == r.seq.toNat) = none := by
    rw [hxy.cache]
    exact List.find?_eq_none.mpr fun m hm => by simpa using hcache m hm
  have hb : 66 + y.port < 73 := by
    rw [hxy.port, hport]
    omega
  let v1 := v.sessUpd y.id fun z => { z with badTags := 0 }
  let v2 := v1.sessUpd y.id fun z => { z with high := r.seq.toNat }
  have hgo : intake v r op payload = .go (pcCount v2 (66 + y.port) 2 15 1) y := by
    unfold intake
    rw [hy]
    simp only [hxy.port, hport, hxy.tagOk, htag, hfind, hxy.high, hxy.ver, hver, ne_eq, not_true_eq_false, if_false, Bool.not_true,
      Bool.false_eq_true, List.contains_iff_mem, hexec, not_le.mpr hhigh, not_le.mpr hroom]
    rw [← hport, ← hxy.port]
  have hput : ∀ (w : State) (g : Session → Session), Quiet countReg w (w.sessUpd y.id g) := fun w g =>
    quiet_plain countReg w _ rfl (List.length_map _) ⟨[], (List.append_nil _).symm⟩
  have hq : Quiet countReg s (pcCount v2 (66 + y.port) 2 15 1) :=
    ((hv.trans (hput v _)).trans (hput v1 _)).trans (quiet_pcCount v2 _ 2 15 1 hb)
  obtain ⟨z1, hz1⟩ : ∃ z, v1.session r.session.toNat = some z := session_sessUpd hy
  obtain ⟨z, hz⟩ : ∃ z, v2.session r.session.toNat = some z := session_sessUpd hz1
  obtain ⟨z', hz', -⟩ := ((Serves.refl v2).pcCount (b := 66 + y.port) (ev := 2) (lane := 15) (n := 1)).sessions _ z hz
  exact ⟨_, y, hgo, hxy, hq, z', hz'⟩

/-- A request that the checks let through is executed, and what it gave is its reply. -/
theorem zcp_accepted (ha : Accepted s r x op payload least since) (body : State → Session → Served) :
    ∃ t y, zcp s r op payload since least body = answer r op (body t y) ∧ x.Like y ∧ Admits s t r := by
  have hb : 66 + r.port.val < 73 := by omega
  obtain ⟨t, y, hgo, hxy, hq, hz⟩ := intake_accepted ha (quiet_pcCount s (66 + r.port.val) 1 15 (48 + payload.length) hb) (Serves.refl s).pcCount
  obtain ⟨halive, -, -, -, -, -, -, -, -, hauthed, hboot, hsince, hpriv⟩ := ha
  have hbooting : (t.booting && op != 0x10) = false := by
    rw [hq.booting]
    cases e : s.booting
    · rfl
    · simp [hboot e]
  have hgate : gate t y op since least = stOk := by
    simp only [gate, hbooting, hxy.ver, hsince, hxy.priv, not_lt.mpr hpriv, Bool.false_eq_true, Bool.not_true, if_false]
  refine ⟨requestStart t y.priv, y, ?_, hxy, ⟨t, y.priv, hq, rfl⟩, hz⟩
  unfold zcp received
  simp only [halive, hgo, hxy.authed, hauthed, hgate, Bool.not_true, Bool.false_eq_true, if_false, ne_eq, not_true_eq_false]
  rfl

end

/-! ## The reply -/

section
variable {s t u : State} {r : Req} {x : Session} {op st : ℕ} {ws : List Word} {l : List LongOp}

/-- A state with other long operations. -/
def opsPut (s : State) (l : List LongOp) : State := { s with ops := l }

/-- What a request gave, with operations changed and its session served, is answered with its STATUS and payload. -/
theorem answer_served (ha : Admits s t r) (hu : Serves (opsPut t l) u) :
    Answered s (answer r op (u, st, ws)) r op st ws ∧ (answer r op (u, st, ws)).ops = l := by
  obtain ⟨y, hy⟩ := ha.session
  obtain ⟨x, hx, -⟩ := hu.sessions _ y hy
  let m : Msg := { port := x.port, session := x.id, seq := r.seq.toNat, ver := x.ver, op := op, flags := 1, status := st, words := ws }
  let v := u.sessUpd x.id fun z => { z with cache := (m :: z.cache).take 64, sent := max z.sent m.seq }
  obtain ⟨w, flip, hw, e⟩ := send_txPut v m
  have hreply : reply u r op st ws = txPut w { m with flip := flip } := by
    unfold reply
    rw [hx]
    exact e
  have hdefer : (txPut w { m with flip := flip }).defer = [] := (hw.defer.trans hu.defer).trans ha.defer
  have hanswer : answer r op (u, st, ws) = { txPut w { m with flip := flip } with actor := 7 } := by
    unfold answer
    rw [hreply, settle_nil _ hdefer]
  rw [hanswer]
  obtain ⟨a, htx⟩ := ha.tx.trans (hu.tx.trans hw.tx)
  refine ⟨⟨a, [], { m with flip := flip }, ?_, session_id hx, rfl, rfl, rfl, rfl, rfl⟩, hw.ops.trans hu.ops⟩
  rw [htx]
  rfl

/-- A command that is a request which the checks let through: what it leaves is the answer to what its body gave. -/
theorem completes_request {i : Instr} {least : ℕ} {payload : List ℕ} {since : Since} {body : State → Session → Served} {P : State → Prop}
    (hi : exec i s = .next (zcp s r op payload since least body)) (ha : Accepted s r x op payload least since)
    (k : ∀ t y, x.Like y → Admits s t r → P (answer r op (body t y))) : Completes i s P := by
  obtain ⟨t, y, e, hxy, ht⟩ := zcp_accepted ha body
  exact ⟨_, hi, e ▸ k t y hxy ht⟩

end

end Sys2Proof.Machine

/-! # Commands on long operations (O40) -/

namespace Sys2Proof.Machine
open Sys2Proof Sys2Proof.Laws

/-! ## What ends early with an operation serves every session -/

section
variable {s₀ s t u : State}

theorem Serves.corrShow (h : Serves s₀ s) {f d p : ℕ} : Serves s₀ (corrShow s f d p) := h.dropRegs.wrs.foldl fun _ _ ht => ht.wrs
theorem Serves.corrRestore (h : Serves s₀ s) {f p : ℕ} : Serves s₀ (corrRestore s f p) := h.foldl fun _ _ ht => ht.corrShow

theorem Serves.standInEnd (h : Serves s₀ s) {f p : ℕ} : Serves s₀ (standInEnd s f p) :=
  .ite (Serves.ite h.setLane.wr h.setLane).corrRestore h

theorem Serves.calRunEnd (h : Serves s₀ s) {f p result : ℕ} : Serves s₀ (calRunEnd s f p result) :=
  .ite h.standInEnd.putItems.wrs.wr h.standInEnd

theorem Serves.rxdRegsReset (h : Serves s₀ s) {f d lane role : ℕ} : Serves s₀ (rxdRegsReset s f d lane role) := h.dropRegs.setRxd.wrs
theorem Serves.rxdClearMem (h : Serves s₀ s) {f d : ℕ} : Serves s₀ (rxdClearMem s f d) := h.memClear
theorem Serves.rxdOff (h : Serves s₀ s) {f d role : ℕ} : Serves s₀ (rxdOff s f d role) := h.rxdRegsReset.rxdClearMem
theorem Serves.assayIdle (h : Serves s₀ s) {f : ℕ} : Serves s₀ (assayIdle s f) := h.wrs
theorem Serves.assayHold (h : Serves s₀ s) {f cause : ℕ} : Serves s₀ (assayHold s f cause) := h.same

theorem Serves.rotationAbandon (h : Serves s₀ s) {f cause cls : ℕ} : Serves s₀ (rotationAbandon s f cause cls) :=
  .ite h (Serves.ite h.rxdOff.wr h.wrs).assayIdle.assayHold.wrs.incSat.logEvent

theorem Serves.emitShow (h : Serves s₀ s) {f : ℕ} : Serves s₀ (emitShow s f) := h.foldl fun _ _ ht => ht.wr

theorem Serves.bistRelease (h : Serves s₀ s) {f : ℕ} : Serves s₀ (bistRelease s f) := by
  unfold Machine.bistRelease
  extract_lets d t t1
  have ht1 : Serves s₀ t1 := by
    unfold t1
    split
    · split
      · exact h.rxdRegsReset
      · exact h.rxdOff
    · exact h.wrs.wr.emitShow
  exact ht1.assayIdle

theorem Serves.planRest (h : Serves s₀ s) : Serves s₀ (planRest s) := h.wrs

/-- What is left of an operation that is cancelled is cleared away, and the operation is still in the table. -/
theorem Serves.opDiscard (h : Serves s₀ s) {o : LongOp} : Serves s₀ (opDiscard s o) := by
  unfold Machine.opDiscard
  extract_lets n mine t t1 t2 t3 t4
  have ht : Serves s₀ t := h.foldl fun _ _ hu => hu.calRunEnd
  have ht2 : Serves s₀ t2 := ht.putItems.foldl fun _ _ hu => .ite hu hu.wr
  have ht3 : Serves s₀ t3 := ht2.foldl fun _ _ hu => .ite hu.bistRelease hu
  have ht4 : Serves s₀ t4 := by
    clear_value t3
    exact ht3.same
  split
  · exact .ite ht4 ht4.planRest
  · exact .ite ht4 ht4.planRest
  · exact ht4

theorem Serves.putClaim (h : Serves s₀ s) {c : Option (Option ℕ)} : Serves s₀ { s with claim := c } := h.same
theorem Serves.claimSet (h : Serves s₀ s) {c : Option (Option ℕ)} : Serves s₀ (claimSet s c) := h.wr.putClaim

theorem Serves.opNotice (h : Serves s₀ s) {o : LongOp} : Serves s₀ (opNotice s o) := by
  unfold Machine.opNotice
  split
  · rename_i x _
    have hl : ∀ y : Session, y.Like (if y.id == x.id then { y with sent := y.sent + 1 } else y) := fun y => by split <;> rfl
    exact (h.like hl).send
  · exact h

end

/-! ## The table of operations -/

section
variable {s : State} {n : ℕ} {o : LongOp}

theorem op_handle (h : s.op n = some o) : o.handle = n := by simpa using List.find?_some h

/-- The operation found after those of its handle were changed. -/
theorem op_opUpd {g : LongOp → LongOp} (h : s.op n = some o) (hg : ∀ x : LongOp, x.handle = n → (g x).handle = n) :
    (s.opUpd n g).op n = some (g o) := by
  have hp : ((fun x : LongOp => x.handle == n) ∘ fun x => if x.handle == n then g x else x) = fun x => x.handle == n := by
    funext x
    by_cases e : x.handle = n <;> simp [e, hg]
  rw [State.op, State.opUpd, List.find?_map, hp, show s.ops.find? _ = some o from h, Option.map_some, op_handle h, if_pos (beq_self_eq_true n)]

/-- A handle that is freed names no operation. -/
theorem find_freed (l : List LongOp) (n : ℕ) : ((l.filter fun x => x.handle != n).find? fun x => x.handle == n) = none :=
  List.find?_eq_none.mpr fun x hx => by simpa using (List.mem_filter.mp hx).2

/-- An operation put between others of the table, its own old entry left out, is the one found. -/
theorem find_requeued (l : List LongOp) (other : LongOp → Bool) (ho : o.handle = n) :
    ((((l.filter fun x => x.handle != n).takeWhile other) ++ o :: (l.filter fun x => x.handle != n).dropWhile other).find?
      fun x => x.handle == n) = some o := by
  have hnone : (((l.filter fun x => x.handle != n).takeWhile other).find? fun x => x.handle == n) = none :=
    List.find?_eq_none.mpr fun x hx => List.find?_eq_none.mp (find_freed l n) x (List.takeWhile_subset _ hx)
  rw [List.find?_append, hnone, Option.none_or, List.find?_cons_of_pos (by simpa using ho)]

end

/-! ## A command that acts on an operation -/

/-- From `s` to `t` long operations may have changed; every session of `s` is served. -/
def Acts (s t : State) : Prop := ∃ l, Serves (opsPut s l) t

section
variable {s t u : State} {n : ℕ} {o : LongOp} {r : Req} {op st : ℕ} {ws : List Word}

theorem Acts.refl (s : State) : Acts s s := ⟨s.ops, .refl s⟩

theorem acts_opUpd (s : State) (n : ℕ) (g : LongOp → LongOp) : Acts s (s.opUpd n g) := ⟨_, .refl _⟩

theorem Acts.serves (h : Acts s t) (k : Serves t u) : Acts s u := by
  obtain ⟨l, hl⟩ := h
  exact ⟨l, hl.trans k⟩

/-- Sessions served before operations change are served after it. -/
theorem Serves.acts (h : Serves s t) (k : Acts t u) : Acts s u := by
  obtain ⟨l, hl⟩ := k
  have hp : Serves (opsPut s l) (opsPut t l) := ⟨rfl, h.defer, h.tx, h.sessions⟩
  exact ⟨l, hp.trans hl⟩

/-- An operation at its end, as its handle shows it (R311, R314). -/
def LongOp.ended (o : LongOp) (state : OpState) (result detail time progress : ℕ) : LongOp :=
  { o with state := state, result := result, detail := detail, finish := time, progress := progress }

/-- A state in which operation `n` has ended: its entry shows it, and its claim ends (R68). -/
def opClosed (s : State) (n : ℕ) (e : LongOp) : State :=
  if s.claim = some (some n) then claimSet (s.opUpd n fun _ => e) none else s.opUpd n fun _ => e

/-- The end of an operation that has not ended yet. -/
theorem opEndAt_live {state : OpState} {result detail progress : ℕ} (ho : s.op n = some o) (ht : o.state.terminal = false) :
    opEndAt s n state result detail progress =
      opNotice (opClosed s n (o.ended state result detail s.time progress)) (o.ended state result detail s.time progress) := by
  unfold opEndAt
  rw [ho]
  exact if_neg (by simp [ht])

theorem opEndAt_acts {state : OpState} {result detail progress : ℕ} (ho : s.op n = some o) (ht : o.state.terminal = false) :
    Acts s (opEndAt s n state result detail progress) ∧ ((opEndAt s n state result detail progress).op n).map LongOp.state = some state := by
  rw [opEndAt_live ho ht]
  generalize he : o.ended state result detail s.time progress = e
  have ho' : o.handle = n := op_handle ho
  have hn : e.handle = n := (congrArg LongOp.handle he).symm.trans ho'
  have hv : e.state = state := (congrArg LongOp.state he).symm
  have hk : Serves (s.opUpd n fun _ => e) (opNotice (opClosed s n e) e) := (Serves.ite (Serves.refl _).claimSet (Serves.refl _)).opNotice
  refine ⟨(acts_opUpd s n _).serves hk, ?_⟩
  rw [State.op, hk.ops, ← State.op, op_opUpd ho fun _ _ => hn, Option.map_some, hv]

/-- Cancelled at once: what the operation leaves is cleared away, then it ends. -/
theorem opCancelled_live (ho : s.op n = some o) (ht : o.state.terminal = false) :
    Acts s (opCancelled s o) ∧ ((opCancelled s o).op n).map LongOp.state = some .cancelled := by
  have hd : Serves s (opDiscard s o) := (Serves.refl s).opDiscard
  have ho' : (opDiscard s o).op n = some o := by rw [State.op, hd.ops, ← State.op, ho]
  unfold opCancelled
  rw [op_handle ho]
  obtain ⟨ha, hs⟩ := opEndAt_acts (state := .cancelled) (result := 0)
    (detail := if o.kind.code = 5 ∨ o.kind.code = 9 then s.rd PLAN_STATUS_LAST_ERROR else o.detail) (progress := opProgress s o) ho' ht
  exact ⟨hd.acts ha, hs⟩

/-! ## The three effects (R311) -/

/-- What a command does with the operation of its handle: its STATUS, and the state that it leaves. -/
def Does (s : State) (n : ℕ) (x : State × ℕ) (st : ℕ) (v : OpState) : Prop := Acts s x.1 ∧ x.2 = st ∧ (x.1.op n).map LongOp.state = some v

/-- The operation takes a new state. -/
theorem does_opUpd {g : LongOp → LongOp} (ho : s.op n = some o) (hg : ∀ x, (g x).handle = x.handle := by exact fun _ => rfl) :
    Does s n (s.opUpd o.handle g, stOk) stOk (g o).state := by
  refine ⟨acts_opUpd s _ g, rfl, ?_⟩
  rw [op_handle ho]
  exact congrArg (Option.map LongOp.state) (op_opUpd ho fun x hx => (hg x).trans hx)

theorem does_nothing (ho : s.op n = some o) (st : ℕ) : Does s n (s, st) st o.state := ⟨.refl s, rfl, congrArg (Option.map LongOp.state) ho⟩

theorem suspendEff_queued (ho : s.op n = some o) (hs : o.state = .queued) : Does s n (suspendEff s o) stOk .suspended := by
  rw [suspendEff, hs]
  exact does_opUpd ho

theorem suspendEff_running (ho : s.op n = some o) (hs : o.state = .running) (hm : suspendable o = true) :
    Does s n (suspendEff s o) stOk .suspending := by
  rw [suspendEff, hs]
  dsimp only
  rw [if_pos hm]
  exact does_opUpd ho

theorem suspendEff_refused (ho : s.op n = some o) (hs : o.state = .running) (hm : suspendable o = false) :
    Does s n (suspendEff s o) stNotSusp .running := by
  rw [suspendEff, hs]
  dsimp only
  rw [if_neg (by simp [hm]), ← hs]
  exact does_nothing ho _

theorem resumeEff_queue (ho : s.op n = some o) (hs : o.state = .suspended) (hq : o.fromQueue = true) : Does s n (resumeEff s o) stOk .queued := by
  obtain rfl := op_handle ho
  rw [resumeEff, if_neg (by simp [hs]), if_pos hq]
  exact ⟨⟨_, .refl _⟩, rfl,
    congrArg (Option.map LongOp.state) (find_requeued (o := { o with state := .queued, fromQueue := false }) s.ops _ rfl)⟩

theorem resumeEff_running (ho : s.op n = some o) (hs : o.state = .suspended) (hq : o.fromQueue = false) : Does s n (resumeEff s o) stOk .running := by
  rw [resumeEff, if_neg (by simp [hs]), if_neg (by simp [hq])]
  exact does_opUpd ho

theorem resumeEff_refused (ho : s.op n = some o) (hs : o.state = .running) : Does s n (resumeEff s o) stRange .running := by
  rw [resumeEff, if_pos (by simp [hs]), ← hs]
  exact does_nothing ho _

theorem cancelEff_waiting (ho : s.op n = some o) (hs : o.state = .queued ∨ o.state = .suspended) : Does s n (cancelEff s o) stOk .cancelled := by
  have ht : o.state.terminal = false := by rcases hs with hs | hs <;> rw [hs] <;> rfl
  have e : cancelEff s o = (opCancelled s o, stOk) := by rcases hs with hs | hs <;> rw [cancelEff, hs]
  obtain ⟨ha, hv⟩ := opCancelled_live ho ht
  rw [e]
  exact ⟨ha, rfl, hv⟩

theorem cancelEff_running (ho : s.op n = some o) (hs : o.state = .running) (hm : refusesCancel o = false) :
    Does s n (cancelEff s o) stOk .cancelling := by
  rw [cancelEff, hs]
  dsimp only
  rw [if_neg (by simp [hm])]
  obtain ⟨ha, -, hv⟩ := does_opUpd (g := fun x => { x with state := .cancelling }) ho
  dsimp only at ha hv
  generalize s.opUpd o.handle _ = t at *
  generalize ((t.assayQ.filter _).map AssayItem.f).dedup = fs
  have hk : Serves t (fs.foldl (fun t f => rotationAbandon t f 11 3) t) := (Serves.refl t).foldl fun _ _ hu => hu.rotationAbandon
  refine ⟨ha.serves hk, rfl, ?_⟩
  rw [State.op, hk.ops, ← State.op, hv]

theorem cancelEff_refused (ho : s.op n = some o) (hs : o.state = .running) (hm : refusesCancel o = true) :
    Does s n (cancelEff s o) stBusy .running := by
  rw [cancelEff, hs]
  dsimp only
  rw [if_pos hm, ← hs]
  exact does_nothing ho _

end

/-! ## Who may command an operation (R308) -/

section
variable {s : State} {x : Session} {n : ℕ} {o : LongOp} {f : State → LongOp → State × ℕ}

theorem onHandle_own (ho : s.op n = some o) (hx : o.session = x.id ∨ 2 ≤ x.priv) (ht : o.state.terminal = false) :
    onHandle s x n f = ((f s o).1, (f s o).2, []) := by
  unfold onHandle
  rw [ho]
  dsimp only
  rw [if_neg (by omega), ht, if_neg Bool.false_ne_true]

theorem onHandle_ended (ho : s.op n = some o) (hx : o.session = x.id ∨ 2 ≤ x.priv) (ht : o.state.terminal = true) :
    onHandle s x n f = (s, stRange, []) := by
  unfold onHandle
  rw [ho]
  dsimp only
  rw [if_neg (by omega), if_pos ht]

theorem onHandle_foreign (ho : s.op n = some o) (hx : o.session ≠ x.id) (hp : x.priv < 2) : onHandle s x n f = (s, stNoAccess, []) := by
  unfold onHandle
  rw [ho]
  dsimp only
  rw [if_pos ⟨hx, hp⟩]

theorem onHandle_unknown (ho : s.op n = none) : onHandle s x n f = (s, stRange, []) := by
  unfold onHandle
  rw [ho]

end

/-! ## The requests -/

section
variable {s : State} {r : Req} {x : Session} {h : BitVec 16} {o : LongOp} {i : Instr} {code st : ℕ} {since : Since} {f : State → LongOp → State × ℕ}

/-- `i` is the request `code` about handle `h`, with the effect `f` on its operation. -/
def IsCommand (i : Instr) (s : State) (r : Req) (h : BitVec 16) (code : ℕ) (since : Since) (f : State → LongOp → State × ℕ) : Prop :=
  exec i s = .next (zcp s r code (payHandle h) since 0 fun s x => onHandle s x h.toNat f)

/-- What a command on a handle answers, from what it does in the state and for the session that the request finds. -/
theorem IsCommand.shows {v : Option OpState} (hi : IsCommand i s r h code since f) (ha : Accepted s r x code (payHandle h) 0 since)
    (k : ∀ t y, x.Like y → t.op h.toNat = s.op h.toNat →
      ∃ u, onHandle t y h.toNat f = (u, st, []) ∧ Acts t u ∧ (u.op h.toNat).map LongOp.state = v) :
    Completes i s fun t => OpShows s t r h code st v := by
  refine completes_request hi ha fun t y hxy ht => ?_
  obtain ⟨u, eu, ⟨l, hu⟩, hv⟩ := k t y hxy (ht.op _)
  obtain ⟨hans, hops⟩ := answer_served (op := code) (st := st) (ws := []) ht hu
  rw [eu]
  rw [State.op, hu.ops] at hv
  refine ⟨hans, ?_⟩
  rw [State.op, hops]
  exact hv

/-- The session that started an operation, or ADMIN, commands it. -/
theorem IsCommand.own {v : OpState} (hi : IsCommand i s r h code since f) (ha : Accepted s r x code (payHandle h) 0 since)
    (ho : s.op h.toNat = some o) (hx : o.session = x.id ∨ 2 ≤ x.priv) (ht : o.state.terminal = false)
    (k : ∀ t, t.op h.toNat = some o → Does t h.toNat (f t o) st v) : Completes i s fun t => OpShows s t r h code st (some v) := by
  refine hi.shows ha fun t y hxy ht' => ?_
  obtain ⟨hact, hst, hv⟩ := k t (ht'.trans ho)
  exact ⟨_, by rw [onHandle_own (ht'.trans ho) (by rwa [hxy.id, hxy.priv]) ht, hst], hact, hv⟩

/-- A command refused for its handle or its session leaves the operation as it was. -/
theorem IsCommand.refused {v : Option LongOp} (hi : IsCommand i s r h code since f) (ha : Accepted s r x code (payHandle h) 0 since)
    (hv : s.op h.toNat = v) (k : ∀ t y, x.Like y → t.op h.toNat = v → onHandle t y h.toNat f = (t, st, [])) :
    Completes i s fun t => OpShows s t r h code st (v.map LongOp.state) :=
  hi.shows ha fun t y hxy ht => ⟨t, k t y hxy (ht.trans hv), .refl t, by rw [ht, hv]⟩

theorem isSuspend (s : State) (r : Req) (h : BitVec 16) : IsCommand (.opSuspend r h) s r h 0x21 .v31 suspendEff := rfl
theorem isResume (s : State) (r : Req) (h : BitVec 16) : IsCommand (.opResume r h) s r h 0x22 .v31 resumeEff := rfl
theorem isCancel (s : State) (r : Req) (h : BitVec 16) : IsCommand (.opCancel r h) s r h 0x23 .v2 cancelEff := rfl

/-- OP_STATUS answers the six words; a terminal handle that was read is freed (R313, R314). -/
theorem execOpStatus_answers (ha : Accepted s r x 0x24 (payHandle h) 0 .v2) (ho : s.op h.toNat = some o) :
    Completes (.opStatus r h) s fun t => Answered s t r 0x24 stOk (opStatusWords { o with progress := opProgress s o }) ∧
      t.op h.toNat = if o.state.terminal then none else some o := by
  refine completes_request rfl ha fun t y _ ht => ?_
  have hot : t.op h.toNat = some o := (ht.op _).trans ho
  have hans (l : List LongOp) := answer_served (op := 0x24) (st := stOk) (ws := opStatusWords { o with progress := opProgress s o }) ht
    (Serves.refl (opsPut t l))
  rw [hot]
  dsimp only
  rw [ht.opProgress]
  split
  · obtain ⟨hsent, hops⟩ := hans (t.ops.filter fun x => x.handle != o.handle)
    refine ⟨hsent, ?_⟩
    rw [State.op, ← op_handle ho]
    exact (congrArg _ hops).trans (find_freed t.ops _)
  · obtain ⟨hsent, hops⟩ := hans t.ops
    refine ⟨hsent, ?_⟩
    rw [State.op]
    exact (congrArg _ hops).trans hot

theorem execHandleExpiry_frees (ha : s.alive = true) (ht : ∀ o, s.op h.toNat = some o → o.state.terminal = true) (hn : s.op h.toNat ≠ none) :
    Completes (.handleExpiry h) s fun t => t.op h.toNat = none ∧ RegsKept (fun _ => false) s t := by
  obtain ⟨o, ho⟩ := Option.ne_none_iff_exists'.mp hn
  refine ⟨opsPut s (s.ops.filter fun x => x.handle != h.toNat), ?_, find_freed _ _, fun _ _ => rfl⟩
  change execHandleExpiry h s = _
  rw [execHandleExpiry, ha, ho, Option.any_some, ht o ho, Bool.and_self, guardS_true]
  rfl

end

/-! ## The obligation -/

/-- Settles O40: each command's effect on its operation, under the request that carries it. -/
theorem operationCommands : Obligations.OperationCommands := by
  unfold Obligations.OperationCommands
  intro r x h s
  have live : ∀ {o : LongOp} {v : OpState}, o.state = v → v.terminal = false → o.state.terminal = false := fun e hv => by rw [e, hv]
  have hsus := isSuspend s r h
  have hres := isResume s r h
  have hcan := isCancel s r h
  refine ⟨fun o ho hx => ⟨fun ha => ⟨fun hs => ?_, fun hs hm => ?_, fun hs hm => ?_, fun ht => ?_⟩, fun ha => ⟨fun hs => ?_, fun hs => ?_⟩,
    fun ha => ⟨fun hs => ?_, fun hs hm => ?_, fun hs hm => ?_⟩⟩, fun o ho hx hp ha => ?_, fun ho ha => ?_,
    fun ha o ho => execOpStatus_answers ha ho, execHandleExpiry_frees⟩
  · exact hsus.own ha ho hx (live hs rfl) fun t ht => suspendEff_queued ht hs
  · exact hsus.own ha ho hx (live hs rfl) fun t ht => suspendEff_running ht hs hm
  · exact hsus.own ha ho hx (live hs rfl) fun t ht => suspendEff_refused ht hs hm
  · exact hsus.refused ha ho fun t y hxy hto => onHandle_ended hto (by rwa [hxy.id, hxy.priv]) ht
  · refine hres.own ha ho hx (live hs rfl) fun t ht => ?_
    cases hq : o.fromQueue
    · exact resumeEff_running ht hs hq
    · exact resumeEff_queue ht hs hq
  · exact hres.own ha ho hx (live hs rfl) fun t ht => resumeEff_refused ht hs
  · exact hcan.own ha ho hx (hs.elim (live · rfl) (live · rfl)) fun t ht => cancelEff_waiting ht hs
  · exact hcan.own ha ho hx (live hs rfl) fun t ht => cancelEff_running ht hs hm
  · exact hcan.own ha ho hx (live hs rfl) fun t ht => cancelEff_refused ht hs hm
  · exact hcan.refused ha ho fun t y hxy hto => onHandle_foreign hto (by rwa [hxy.id]) (by rwa [hxy.priv])
  · exact hcan.refused ha ho fun t y _ hto => onHandle_unknown hto

end Sys2Proof.Machine

/-! # Burning OTP (O38) -/

namespace Sys2Proof.Machine
open Sys2Proof Sys2Proof.Laws

/-! ## What leaves OTP and its fuses as they are -/

/-- `t` holds in OTP, has waiting for it, and shows in FUSE_STATUS, what `s` does (R359). -/
structure KeepsOtp (s t : State) : Prop where
  fuses : t.reg FUSE_STATUS = s.reg FUSE_STATUS
  held : (t.otp, t.burnQ, t.volatileSeals) = (s.otp, s.burnQ, s.volatileSeals)

section
variable {s₀ s t u : State}

theorem KeepsOtp.refl (s : State) : KeepsOtp s s := ⟨rfl, rfl⟩
theorem KeepsOtp.trans (h : KeepsOtp s₀ s) (k : KeepsOtp s t) : KeepsOtp s₀ t := ⟨k.fuses.trans h.fuses, k.held.trans h.held⟩

theorem KeepsOtp.otp (h : KeepsOtp s t) : t.otp = s.otp := congrArg (·.1) h.held
theorem KeepsOtp.burnQ (h : KeepsOtp s t) : t.burnQ = s.burnQ := congrArg (·.2.1) h.held
theorem KeepsOtp.volatileSeals (h : KeepsOtp s t) : t.volatileSeals = s.volatileSeals := congrArg (·.2.2) h.held

theorem KeepsOtp.on (h : KeepsOtp s t) {f : Fld} (hf : f.addr = FUSE_STATUS := by rfl) : t.on f = s.on f := by
  simp only [State.on, State.rd, hf, h.fuses]

/-- Changes of fields that are neither registers nor OTP's. -/
theorem KeepsOtp.same (h : KeepsOtp s₀ s)
    (e : (t.regs, t.otp, t.burnQ, t.volatileSeals) = (s.regs, s.otp, s.burnQ, s.volatileSeals) := by exact rfl) : KeepsOtp s₀ t := by
  simp only [Prod.mk.injEq] at e
  obtain ⟨hr, ho, hq, hv⟩ := e
  exact h.trans ⟨by simp only [State.reg, hr], by rw [ho, hq, hv]⟩

theorem KeepsOtp.ite {c : Prop} [Decidable c] (h : KeepsOtp s₀ t) (k : KeepsOtp s₀ u) : KeepsOtp s₀ (if c then t else u) := by
  split
  · exact h
  · exact k

theorem KeepsOtp.foldl {α : Type} {g : State → α → State} {l : List α} (h : KeepsOtp s₀ s) (k : ∀ t x, KeepsOtp s₀ t → KeepsOtp s₀ (g t x)) :
    KeepsOtp s₀ (l.foldl g s) := by
  induction l generalizing s with
  | nil => exact h
  | cons x l ih => exact ih (k s x h)

/-- A register above FUSE_STATUS changes: the base of its address decides. -/
theorem KeepsOtp.setReg (h : KeepsOtp s₀ s) {a : ℕ} {w : Word} (ha : FUSE_STATUS < a := by (repeat apply Nat.lt_add_right); decide) :
    KeepsOtp s₀ (s.setReg a w) := h.trans ⟨State.reg_setReg_other s w ha.ne, rfl⟩

theorem KeepsOtp.wr (h : KeepsOtp s₀ s) {f : Fld} {v : ℕ} (hf : FUSE_STATUS < f.addr := by (repeat apply Nat.lt_add_right); decide) :
    KeepsOtp s₀ (s.wr f v) := h.setReg hf

theorem KeepsOtp.setFace (h : KeepsOtp s₀ s) {f : ℕ} {x : FaceX} : KeepsOtp s₀ (s.setFace f x) := h.same
theorem KeepsOtp.putClaim (h : KeepsOtp s₀ s) {c : Option (Option ℕ)} : KeepsOtp s₀ { s with claim := c } := h.same

theorem KeepsOtp.of_quiet {p : ℕ → Bool} (h : KeepsOtp s₀ s) (k : Quiet p s t) (hp : p FUSE_STATUS = false) : KeepsOtp s₀ t :=
  h.trans ⟨k.regs _ hp, by rw [k.rest]⟩

theorem KeepsOtp.send (h : KeepsOtp s₀ s) {m : Msg} : KeepsOtp s₀ (s.send m) := h.of_quiet (quiet_send eventReg s m rfl) rfl
theorem KeepsOtp.logEvent (h : KeepsOtp s₀ s) {e : Ev} : KeepsOtp s₀ (logEvent s e) := h.of_quiet (quiet_logEvent s e) rfl

/-! ## The end of an operation -/

theorem KeepsOtp.sessUpd (h : KeepsOtp s₀ s) {n : ℕ} {g : Session → Session} : KeepsOtp s₀ (s.sessUpd n g) := h.same
theorem KeepsOtp.opUpd (h : KeepsOtp s₀ s) {n : ℕ} {g : LongOp → LongOp} : KeepsOtp s₀ (s.opUpd n g) := h.same
theorem KeepsOtp.claimSet (h : KeepsOtp s₀ s) {c : Option (Option ℕ)} : KeepsOtp s₀ (claimSet s c) := h.wr.putClaim

theorem KeepsOtp.opNotice (h : KeepsOtp s₀ s) {o : LongOp} : KeepsOtp s₀ (opNotice s o) := by
  unfold Machine.opNotice
  split
  · exact h.sessUpd.send
  · exact h

theorem KeepsOtp.opEndAt (h : KeepsOtp s₀ s) {n : ℕ} {st : OpState} {result detail progress : ℕ} :
    KeepsOtp s₀ (opEndAt s n st result detail progress) := by
  unfold Machine.opEndAt
  split
  · exact h
  · split
    · exact h
    · exact (KeepsOtp.ite h.opUpd.claimSet h.opUpd).opNotice

theorem KeepsOtp.opEnd (h : KeepsOtp s₀ s) {n : ℕ} {st : OpState} {result detail : ℕ} : KeepsOtp s₀ (opEnd s n st result detail) := h.opEndAt

/-! ## New limits in force (R169, R180, R187) -/

theorem KeepsOtp.limitsShow (h : KeepsOtp s₀ s) {f : ℕ} : KeepsOtp s₀ (limitsShow s f) := h.setReg.setReg
theorem KeepsOtp.engWrite (h : KeepsOtp s₀ s) {f lane reg data : ℕ} : KeepsOtp s₀ (engWrite s f lane reg data) := h.setFace
theorem KeepsOtp.emitShow (h : KeepsOtp s₀ s) {f : ℕ} : KeepsOtp s₀ (emitShow s f) := h.foldl fun _ _ ht => ht.wr
theorem KeepsOtp.setEmit (h : KeepsOtp s₀ s) {f mask : ℕ} : KeepsOtp s₀ (setEmit s f mask) := h.setFace.emitShow

theorem KeepsOtp.rampLane (h : KeepsOtp s₀ s) {f p step : ℕ} : KeepsOtp s₀ (rampLane s f p step) := by
  unfold Machine.rampLane
  extract_lets t t1
  have ht : KeepsOtp s₀ t := .ite h.engWrite.engWrite (.ite h.engWrite h)
  exact .ite ht.engWrite.engWrite ht.engWrite

theorem KeepsOtp.lightOffLanes (h : KeepsOtp s₀ s) {f mask : ℕ} : KeepsOtp s₀ (lightOffLanes s f mask) :=
  (h.foldl fun _ _ ht => .ite ht.engWrite ht).setFace.setEmit

theorem KeepsOtp.emitEval (h : KeepsOtp s₀ s) {f : ℕ} : KeepsOtp s₀ (emitEval s f) :=
  .ite (.ite (h.lightOffLanes.foldl fun _ _ ht => .ite ht.rampLane.setFace.setEmit ht) h.lightOffLanes) h

theorem KeepsOtp.elsEval (h : KeepsOtp s₀ s) {f : ℕ} : KeepsOtp s₀ (elsEval s f) := (KeepsOtp.ite h.wr h).foldl fun _ _ ht => .ite ht.wr ht

theorem KeepsOtp.limitsChanged (h : KeepsOtp s₀ s) {f : ℕ} : KeepsOtp s₀ (limitsChanged s f) := by
  unfold Machine.limitsChanged
  extract_lets _ t x t1
  have ht1 : KeepsOtp s₀ t1 :=
    h.setFace.foldl fun _ _ hu => .ite (.ite (KeepsOtp.ite hu.engWrite hu).engWrite (KeepsOtp.ite hu.engWrite hu)) hu
  exact ht1.emitEval.elsEval

end

/-! ## What OTP shows (R51, R359) -/

section
variable (s : State)

theorem otpShow_otp : (otpShow s).otp = s.otp := State.wrs_otp s _
theorem otpShow_burnQ : (otpShow s).burnQ = s.burnQ := State.wrs_burnQ s _
theorem otpShow_volatileSeals : (otpShow s).volatileSeals = s.volatileSeals := State.wrs_volatileSeals s _

/-- The writes of `otpShow` in their order: those of FM_SEAL, then LIMITS_LOCK, then the rest. -/
theorem otpShow_fuses : ∃ (u : State) (revoked filled floor spent : ℕ), KeepsOtp s u ∧ otpShow s =
    ((((u.wr FUSE_STATUS_LIMITS_LOCK (bit s.otp.lock)).wr FUSE_STATUS_SLOT_REVOKED revoked).wr FUSE_STATUS_SLOT_FILLED filled).wr
      PLAN_COUNTER_FLOOR floor).wr PLAN_COUNTER_SPENT spent :=
  ⟨((s.wr FM_SEAL_USED _).wr FM_SEAL_SPENT _).wr FM_SEAL_PENDING _, _, _, _, _, (KeepsOtp.refl s).wr.wr.wr, rfl⟩

theorem otpShow_vpp : (otpShow s).on FUSE_STATUS_VPP_OK = s.on FUSE_STATUS_VPP_OK := by
  obtain ⟨u, revoked, filled, floor, spent, hu, e⟩ := otpShow_fuses s
  rw [e, State.on_wr_addr _ _ _ _ (by decide), State.on_wr_addr _ _ _ _ (by decide), State.on_wr_apart _ _ _ _ (by decide) (by decide),
    State.on_wr_apart _ _ _ _ (by decide) (by decide), State.on_wr_apart _ _ _ _ (by decide) (by decide), hu.on]

theorem otpShow_lock : (otpShow s).on FUSE_STATUS_LIMITS_LOCK = s.otp.lock := by
  obtain ⟨u, revoked, filled, floor, spent, -, e⟩ := otpShow_fuses s
  rw [e, State.on_wr_addr _ _ _ _ (by decide), State.on_wr_addr _ _ _ _ (by decide), State.on_wr_apart _ _ _ _ (by decide) (by decide),
    State.on_wr_apart _ _ _ _ (by decide) (by decide)]
  exact on_wr_same u _ _

end

/-! ## VPP_OTP applied (R359) -/

section
variable {s : State}

/-- A state with another OTP, other burns waiting and other volatile retirements. -/
def burnsPut (s : State) (o : Otp) (q : List Burn) (v : List SealRec) : State := { s with otp := o, burnQ := q, volatileSeals := v }

theorem alive_wr (s : State) (f : Fld) (v : ℕ) (h : FM_CHIP_STATUS ≠ f.addr) : (s.wr f v).alive = s.alive := by
  unfold State.alive
  rw [State.rd_wr_addr s f FM_CHIP_STATUS_STATE v h, State.wr_powered, State.wr_canary, State.wr_started]

/-- How many places of the sealing region are neither burned nor awaited. -/
def sealRoom (s : State) : ℕ := 255 - (s.otp.seals.length + sealsQueued s)

/-- Volatile retirements wait to be burned, while places last. -/
def sealsRetried (s : State) : State :=
  burnsPut s s.otp (s.burnQ ++ (s.volatileSeals.take (sealRoom s)).map Burn.seal) (s.volatileSeals.drop (sealRoom s))

theorem execVppOtpApplied_alive (ha : s.alive = true) : execVppOtpApplied s = .next (otpShow (sealsRetried (s.wr FUSE_STATUS_VPP_OK 1))) := by
  obtain ⟨hp, -⟩ := alive_of s ha
  have ht := (alive_wr s FUSE_STATUS_VPP_OK 1 (by decide)).trans ha
  rw [execVppOtpApplied, hp, guardS_true]
  generalize s.wr FUSE_STATUS_VPP_OK 1 = t at ht
  dsimp only
  rw [if_pos ht]
  rfl

theorem otpShow_sealsRetried {t : State} (hon : t.on FUSE_STATUS_VPP_OK = true) (ho : t.otp = s.otp) (hq : t.burnQ = s.burnQ)
    (hv : t.volatileSeals = s.volatileSeals) : (otpShow (sealsRetried t)).on FUSE_STATUS_VPP_OK = true ∧
      (otpShow (sealsRetried t)).burnQ = s.burnQ ++ (s.volatileSeals.take (sealRoom s)).map Burn.seal ∧
      (otpShow (sealsRetried t)).volatileSeals = s.volatileSeals.drop (sealRoom s) ∧ (otpShow (sealsRetried t)).otp = s.otp := by
  have hr : sealRoom t = sealRoom s := by simp only [sealRoom, sealsQueued, ho, hq]
  rw [otpShow_vpp, otpShow_burnQ, otpShow_volatileSeals, otpShow_otp, sealsRetried, hr, ho, hq, hv]
  exact ⟨hon, rfl, rfl, rfl⟩

theorem execVppOtpApplied_queues (ha : s.alive = true) : Completes .vppOtpApplied s fun t => t.on FUSE_STATUS_VPP_OK = true ∧
    t.burnQ = s.burnQ ++ (s.volatileSeals.take (sealRoom s)).map Burn.seal ∧ t.volatileSeals = s.volatileSeals.drop (sealRoom s) ∧
    t.otp = s.otp :=
  ⟨_, execVppOtpApplied_alive ha,
    otpShow_sealsRetried (on_wr_same s _ true) (State.wr_otp s _ _) (State.wr_burnQ s _ _) (State.wr_volatileSeals s _ _)⟩

/-! ## A record burned (R361, R466) -/

/-- The record `b` in front is committed: OTP holds it, and `bs` waits still. -/
def burned (s : State) (b : Burn) (bs : List Burn) : State := burnsPut s (s.otp.burn b true) bs s.volatileSeals

theorem burnDone_seal {r : SealRec} {bs : List Burn} (h : s.burnQ = .seal r :: bs) : KeepsOtp (otpShow (burned s (.seal r) bs)) (burnDone s) := by
  unfold burnDone
  rw [h]
  exact (KeepsOtp.refl (otpShow (burned s (.seal r) bs))).logEvent

/-- OTP holds `o`, and LIMITS_LOCK shows its fuse. -/
def ShowsOtp (o : Otp) (t : State) : Prop := t.otp = o ∧ t.on FUSE_STATUS_LIMITS_LOCK = o.lock

theorem showsOtp_otpShow (s : State) : ShowsOtp s.otp (otpShow s) := ⟨otpShow_otp s, otpShow_lock s⟩

theorem ShowsOtp.keeps {o : Otp} {t u : State} (h : ShowsOtp o t) (k : KeepsOtp t u) : ShowsOtp o u := by
  obtain ⟨ho, hl⟩ := h
  exact ⟨k.otp.trans ho, k.on.trans hl⟩

/-- Burns that wait are no part of what OTP shows. -/
theorem ShowsOtp.putQueue {o : Otp} {t : State} (h : ShowsOtp o t) (q : List Burn) : ShowsOtp o { t with burnQ := q } := h

/-- OTP holds the record in front and shows its fuse, whatever becomes of its operation and of the other burns of that. -/
theorem burnDone_front {b : Burn} {bs : List Burn} (h : s.burnQ = b :: bs) : ShowsOtp (s.otp.burn b true) (burnDone s) := by
  unfold burnDone
  rw [h]
  have ht : ShowsOtp (s.otp.burn b true) (otpShow (burned s b bs)) := showsOtp_otpShow (burned s b bs)
  split
  · contradiction
  · rename_i b' bs' e
    obtain ⟨rfl, rfl⟩ := List.cons.inj e
    extract_lets t
    change ShowsOtp _ t at ht
    clear_value t
    split
    · exact ht.keeps (.logEvent (.refl t))
    · split
      · exact ht
      · extract_lets rest
        split
        · split
          · exact ht.keeps (.opEnd (.refl t))
          · split
            · exact (ht.putQueue _).keeps (.opEnd (.refl _))
            · exact ht
        · exact ht

/-- The command commits the record in front; what follows the LIMITS_LOCK fuse, the limits of every face, leaves OTP as it is. -/
theorem execOtpRecordBurned_keeps (ha : s.alive = true) (hv : s.on FUSE_STATUS_VPP_OK = true) {P : State → Prop}
    (k : ∀ t, KeepsOtp (burnDone s) t → P t) : Completes .otpRecordBurned s P := by
  refine ⟨_, rfl, k _ ?_⟩
  rw [ha, hv, Bool.and_self, guardS_true]
  exact .ite ((KeepsOtp.refl _).foldl fun _ _ hu => hu.limitsShow.limitsChanged) (.refl _)

theorem nbit_burn_revoke (o : Otp) (h k : ℕ) : nbit (o.burn (.revoke h k) true).revoked k = true := nbit_nbitSet_true _ _

theorem execOtpRecordBurned_commits (ha : s.alive = true) (hv : s.on FUSE_STATUS_VPP_OK = true) {b : Burn} {bs : List Burn}
    (hq : s.burnQ = b :: bs) : Completes .otpRecordBurned s fun t => ShowsOtp (s.otp.burn b true) t ∧ ∀ r, b = .seal r → t.burnQ = bs := by
  refine execOtpRecordBurned_keeps ha hv fun t ht => ⟨(burnDone_front hq).keeps ht, ?_⟩
  rintro r rfl
  exact (ht.burnQ.trans (burnDone_seal hq).burnQ).trans (otpShow_burnQ _)

/-! ## VPP_OTP removed (R361, R456) -/

/-- The record of the front of a queue is spent, and no burn waits; sealings that waited are volatile. -/
def burnsSpent (s : State) : State :=
  burnsPut s (match s.burnQ with | [] => s.otp | b :: _ => s.otp.burn b false) []
    (s.volatileSeals ++ s.burnQ.filterMap fun b => match b with | .seal r => some r | _ => none)

theorem burnsStop_keeps (s : State) (fail : Bool) : KeepsOtp (otpShow (burnsSpent s)) (burnsStop s fail) :=
  .ite ((KeepsOtp.refl (otpShow (burnsSpent s))).foldl fun _ _ hu => hu.opEnd) (.refl _)

theorem burnsStop_spends {t : State} (hon : t.on FUSE_STATUS_VPP_OK = false) (ho : t.otp = s.otp) (hq : t.burnQ = s.burnQ) (fail : Bool) :
    (burnsStop t fail).on FUSE_STATUS_VPP_OK = false ∧ (burnsStop t fail).burnQ = [] ∧
      (∀ r bs, s.burnQ = .seal r :: bs → (burnsStop t fail).otp.seals = s.otp.seals ++ [(r, false)] ∧ r ∈ (burnsStop t fail).volatileSeals) ∧
      (s.burnQ = [] → (burnsStop t fail).otp = s.otp) := by
  have hk := burnsStop_keeps t fail
  have hotp := hk.otp.trans (otpShow_otp _)
  have hvol := hk.volatileSeals.trans (otpShow_volatileSeals _)
  rw [← hq, ← ho]
  refine ⟨hk.on.trans ((otpShow_vpp _).trans hon), hk.burnQ.trans (otpShow_burnQ _), fun r bs h => ?_, fun h => ?_⟩
  · rw [hotp, hvol]
    simp [burnsSpent, burnsPut, h, Otp.burn]
  · rw [hotp]
    simp [burnsSpent, burnsPut, h]

theorem execVppOtpRemoved_spends (hp : s.powered = true) : Completes .vppOtpRemoved s fun t => t.on FUSE_STATUS_VPP_OK = false ∧ t.burnQ = [] ∧
    (∀ r bs, s.burnQ = .seal r :: bs → t.otp.seals = s.otp.seals ++ [(r, false)] ∧ r ∈ t.volatileSeals) ∧ (s.burnQ = [] → t.otp = s.otp) := by
  have e : exec .vppOtpRemoved s = .next (burnsStop (s.wr FUSE_STATUS_VPP_OK 0) true) := by
    change execVppOtpRemoved s = _
    rw [execVppOtpRemoved, hp, guardS_true]
  exact ⟨_, e, burnsStop_spends (on_wr_same s _ false) (State.wr_otp s _ _) (State.wr_burnQ s _ _) true⟩

end

/-! ## The obligation -/

/-- Settles O38: VPP_OTP applied, the record in front committed, and VPP_OTP removed. -/
theorem otpProgramming : Obligations.OtpProgramming := by
  unfold Obligations.OtpProgramming
  refine fun s => ⟨execVppOtpApplied_queues, fun ha hv b bs hq => ?_, execVppOtpRemoved_spends⟩
  obtain ⟨t, e, ⟨hotp, hlock⟩, hrest⟩ := execOtpRecordBurned_commits ha hv hq
  refine ⟨t, e, fun r hb => ⟨?_, hrest r hb⟩, fun h hb => ?_, fun h f x y hb => ?_, fun h hb => ⟨?_, ?_⟩, fun h k d hb => ?_, fun h k _ hb => ?_⟩
  · rw [hotp, hb]; rfl
  · rw [hotp, hb]; rfl
  · rw [hotp, hb]; rfl
  · rw [hotp, hb]; rfl
  · rw [hlock, hb]; rfl
  · rw [hotp, hb]; rfl
  · rw [hotp, hb]
    exact nbit_burn_revoke _ _ _

end Sys2Proof.Machine

/-! # The receive front: what a lane's acquisition leaves alone (O10, O11, O12, O14) -/
namespace Sys2Proof.Machine
open Sys2Proof Sys2Proof.Laws

set_option Elab.async false

/-! ## The registers of the engine and those beside it -/

/-- The registers of the face's acquisition engines (R91): of each lane LANE_ACQ_CTRL to LANE_ACQ_TIME, LANE_CLIP_COUNT and LANE_EFFORT; and
SEAL_STATUS, which tells whether p8 serves a sealing handshake. -/
def engineReg (f a : Nat) : Bool :=
  (decide (laneAt f 0 ≤ a) && decide (a < laneAt f 9) && (decide (a % 256 < 0x18) || a % 256 == 0x1c || a % 256 == 0x20)) || a == SEAL_STATUS f

/-- The registers beside the engine's own that follow a lane's state: the rest of the face, the port table, Survey, Assay, events and counts. -/
def sideReg (f a : Nat) : Bool :=
  (inFace f a && !engineReg f a) || inPorts a || inRange 0x200000 0x400000 a || countReg a

theorem engineReg_lane {f p o : Nat} (hp : p < 9) (ho : o < 0x18 ∨ o = 0x1c ∨ o = 0x20 := by decide) : engineReg f (laneAt f p + o) = true := by
  simp only [engineReg, laneAt, faceAt, Bool.or_eq_true, Bool.and_eq_true, decide_eq_true_eq, beq_iff_eq]
  omega

theorem engineReg_seal (f : Nat) : engineReg f (SEAL_STATUS f) = true := by simp [engineReg]

theorem seal_ne_lane {f p o : Nat} (hp : p < 9) (ho : o < 0x100 := by decide) : SEAL_STATUS f ≠ laneAt f p + o := by
  simp only [SEAL_STATUS, laneAt, faceAt]
  omega

/-- The records of events and counts lie below the faces (R318). -/
theorem countReg_low {a : Nat} (h : countReg a = true) : a < 0x01000000 := by
  simp only [countReg, eventReg, Bool.or_eq_true, beq_iff_eq, List.any_eq_true, List.mem_range, HEAD_SEQ, TALLY_STATUS, TALLY_LOST_A, TALLY_LOST_B,
    MEM_FLIP_CTRL, CAP_STATUS, CAP_TRIG_STAMP_LO, CAP_TRIG_STAMP_HI, CAP_TRIG_POS, PC_OVF, PC_COUNT] at h
  rcases h with (((((h | h) | h) | h) | h) | ⟨c, hc, h⟩) | ⟨b, hb, h | ⟨i, hi, h⟩⟩ <;> omega

theorem sideReg_engine {f a : Nat} (h : engineReg f a = true) (hf : f < 16) : sideReg f a = false := by
  have ha : 0x01000000 ≤ a ∧ a < 0x02000000 := by
    simp only [engineReg, laneAt, SEAL_STATUS, faceAt, Bool.or_eq_true, Bool.and_eq_true, decide_eq_true_eq, beq_iff_eq] at h
    omega
  have hc : countReg a = false := by
    rw [Bool.eq_false_iff]
    intro hc
    have := countReg_low hc
    omega
  simp only [sideReg, h, hc, inPorts, inRange, Bool.not_true, Bool.and_false, Bool.false_or, Bool.or_false, Bool.or_eq_false_iff,
    Bool.and_eq_false_iff, decide_eq_false_iff_not]
  omega

theorem sideReg_count {f a : Nat} (h : countReg a = true) : sideReg f a = true := by simp [sideReg, h]

theorem sideReg_event {f a : Nat} (h : eventReg a = true) : sideReg f a = true := sideReg_count (by simp [countReg, h])

/-- A register of the face whose offset is not the engine's. -/
theorem sideReg_face {f a : Nat} (h : faceAt f 0 ≤ a ∧ a < faceAt f 0x100000)
    (he : a < faceAt f 0xF1000 ∨ (faceAt f 0xF1900 ≤ a ∧ a ≠ faceAt f 0xF2404)) : sideReg f a = true := by
  simp only [sideReg, inFace, engineReg, laneAt, SEAL_STATUS, faceAt, Bool.or_eq_true, Bool.and_eq_true, Bool.not_eq_true', Bool.or_eq_false_iff,
    Bool.and_eq_false_iff, decide_eq_true_eq, decide_eq_false_iff_not, beq_eq_false_iff_ne] at h he ⊢
  omega

theorem sideReg_rxd {f d o : Nat} (hd : d < 16 := by omega) (ho : o < 0x8000 := by decide) : sideReg f (rxdAt f d + o) = true := by
  apply sideReg_face <;> simp only [rxdAt, faceAt] <;> omega

theorem sideReg_txd {f d o : Nat} (hd : d < 16 := by omega) (ho : o < 0x4000 := by decide) : sideReg f (txdAt f d + o) = true := by
  apply sideReg_face <;> simp only [txdAt, faceAt] <;> omega

/-- The lane maps and relief, and the position blocks. -/
theorem sideReg_map {f o : Nat} (ho : o < 0x1000 := by decide) : sideReg f (faceAt f (0xF0000 + o)) = true := by
  apply sideReg_face <;> simp only [faceAt] <;> omega

theorem sideReg_pos {f k o : Nat} (hk : k < 16 := by omega) (ho : 4 < o ∧ o < 0x80 ∨ o = 4 ∧ k ≠ 8 := by decide) :
    sideReg f (posAt f k + o) = true := by
  apply sideReg_face <;> simp only [posAt, faceAt] <;> omega

theorem sideReg_lane {f p o : Nat} (hp : p < 9) (ho : o = 0x18 ∨ (0x20 < o ∧ o < 0x100) := by decide) : sideReg f (laneAt f p + o) = true := by
  simp only [sideReg, inFace, engineReg, laneAt, SEAL_STATUS, faceAt, Bool.or_eq_true, Bool.and_eq_true, Bool.not_eq_true', Bool.or_eq_false_iff,
    Bool.and_eq_false_iff, decide_eq_true_eq, decide_eq_false_iff_not, beq_eq_false_iff_ne]
  omega

theorem sideReg_hewer {f o : Nat} (hf : f < 16) (ho : o < 0x1000 := by decide) : sideReg f (hwAt f + o) = true := by
  apply sideReg_face <;> simp only [hwAt, hf, if_true, faceAt] <;> omega

theorem sideReg_tap {f o : Nat} (ho : o < 0x1000 := by decide) : sideReg f (0x700000 + f * 0x1000 + o) = true := by
  simp only [sideReg, inFace, engineReg, laneAt, SEAL_STATUS, faceAt, Bool.or_eq_true, Bool.and_eq_true, Bool.not_eq_true', Bool.or_eq_false_iff,
    Bool.and_eq_false_iff, decide_eq_true_eq, decide_eq_false_iff_not, beq_eq_false_iff_ne]
  omega

theorem sideReg_port {f n o : Nat} (hn : n < 128) (ho : o < 0x40 := by decide) : sideReg f (portAt n + o) = true := by
  simp only [sideReg, inPorts, portAt, Bool.or_eq_true, Bool.and_eq_true, decide_eq_true_eq]
  omega

/-- Assay's block of the face. -/
theorem sideReg_assay {f o : Nat} (hf : f < 16) (ho : o < 0x100 := by decide) : sideReg f (0x00301000 + f * 0x100 + o) = true := by
  simp only [sideReg, inRange, Bool.or_eq_true, Bool.and_eq_true, decide_eq_true_eq]
  omega

theorem sideReg_survey (f : Nat) : sideReg f SURVEY_STATUS = true := by simp [sideReg, inRange, SURVEY_STATUS]

/-! ## The relation -/

/-- From `s` to `t` only registers and counters beside the engine of face `f` and registers in `own` changed, only the Tally store and the receive
banks of `f`, and none of what a frame names (RestKept). -/
structure Within (own : Nat → Bool) (f : Nat) (s t : State) : Prop where
  words : ∀ a, sideReg f a = false → own a = false → t.reg a = s.reg a ∧ t.ctr a = s.ctr a
  bytes : BytesKept (fun r i _ => r == 7 || (r == 5 && i == f)) s t
  rest : RestKept s t
  defer : t.defer = s.defer

theorem RestKept.refl (s : State) : RestKept s s := ⟨rfl, rfl, rfl, rfl, rfl, rfl, rfl, rfl, rfl, rfl, rfl⟩

theorem RestKept.trans {s t u : State} (h : RestKept s t) (k : RestKept t u) : RestKept s u := by
  obtain ⟨h1, h2, h3, h4, h5, h6, h7, h8, h9, h10, h11⟩ := h
  obtain ⟨k1, k2, k3, k4, k5, k6, k7, k8, k9, k10, k11⟩ := k
  exact ⟨k1.trans h1, k2.trans h2, k3.trans h3, k4.trans h4, k5.trans h5, k6.trans h6, k7.trans h7, k8.trans h8, k9.trans h9, k10.trans h10,
    k11.trans h11⟩

section
variable {own : Nat → Bool} {f : Nat} {s₀ s t u : State}

theorem Within.refl (s : State) : Within own f s s := ⟨fun _ _ _ => ⟨rfl, rfl⟩, fun _ _ _ _ _ _ => rfl, .refl s, rfl⟩

theorem Within.trans (h : Within own f s₀ s) (k : Within own f s t) : Within own f s₀ t where
  words a ha ho := ⟨(k.words a ha ho).1.trans (h.words a ha ho).1, (k.words a ha ho).2.trans (h.words a ha ho).2⟩
  bytes a i b hi hb ha := (k.bytes a i b hi hb ha).trans (h.bytes a i b hi hb ha)
  rest := h.rest.trans k.rest
  defer := k.defer.trans h.defer

theorem Within.mono {own' : Nat → Bool} (h : Within own f s t) (hw : ∀ a, own' a = false → own a = false) : Within own' f s t :=
  { h with words := fun a ha ho => h.words a ha (hw a ho) }

/-- A register that the change leaves alone keeps its fields. -/
theorem Within.rd (h : Within own f s t) {x : Fld} (hx : sideReg f x.addr = false) (ho : own x.addr = false) : t.rd x = s.rd x := by
  simp only [State.rd, (h.words _ hx ho).1]

theorem Within.on (h : Within own f s t) {x : Fld} (hx : sideReg f x.addr = false) (ho : own x.addr = false) : t.on x = s.on x := by
  simp only [State.on, h.rd hx ho]

/-- Changes of fields that are neither registers, counters, bytes nor what a frame names. -/
theorem Within.same (h : Within own f s₀ s)
    (e : (t.regs, t.ctrs, t.bytes, t.defer, t.flash, t.time, t.mono) = (s.regs, s.ctrs, s.bytes, s.defer, s.flash, s.time, s.mono) := by exact rfl)
    (k : (t.powered, t.canary, t.started, t.plan, t.ops, t.otp, t.pending, t.sessions) =
      (s.powered, s.canary, s.started, s.plan, s.ops, s.otp, s.pending, s.sessions) := by exact rfl) : Within own f s₀ t := by
  simp only [Prod.mk.injEq] at e k
  obtain ⟨er, ec, eb, ed, ef, et, em⟩ := e
  obtain ⟨kp, kc, ks, kl, ko, kt, kn, kx⟩ := k
  exact h.trans ⟨fun _ _ _ => by simp only [State.reg, State.ctr, er, ec, and_self], fun _ _ _ _ _ _ => by simp only [State.byte, eb],
    ⟨ef, et, em, kp, kc, ks, kl, ko, kt, kn, by rw [kx]⟩, ed⟩

theorem Within.of_quiet {p : Nat → Bool} (h : Within own f s₀ s) (k : Quiet p s t) (hp : ∀ a, p a = true → sideReg f a = true) : Within own f s₀ t := by
  refine h.trans ⟨fun a ha _ => ?_, fun a i b hi hb ha => ?_, ?_, by rw [k.rest]⟩
  · have : p a = false := by rw [Bool.eq_false_iff]; intro e; rw [hp a e] at ha; cases ha
    exact ⟨k.regs a this, k.ctrs a this⟩
  · exact k.bytes a i b hi hb (Bool.or_eq_false_iff.mp ha).1
  · have r := k.rest
    exact ⟨by rw [r], by rw [r], by rw [r], by rw [r], by rw [r], by rw [r], by rw [r], by rw [r], by rw [r], by rw [r], k.count⟩

theorem Within.ite {c : Prop} [Decidable c] (h : Within own f s₀ t) (k : Within own f s₀ u) : Within own f s₀ (if c then t else u) := by
  split
  · exact h
  · exact k

theorem Within.guardS {c : Bool} {g : State → State} (h : Within own f s₀ s) (k : Within own f s₀ (g s)) : Within own f s₀ (guardS c s g) := .ite k h

theorem Within.foldl {α : Type} {g : State → α → State} {l : List α} (h : Within own f s₀ s)
    (k : ∀ t, ∀ x ∈ l, Within own f s₀ t → Within own f s₀ (g t x)) : Within own f s₀ (l.foldl g s) := by
  induction l generalizing s with
  | nil => exact h
  | cons x l ih => exact ih (k s x (by simp) h) fun t y hy => k t y (by simp [hy])

theorem Within.setReg (h : Within own f s₀ s) {a : Nat} {w : Word} (ha : sideReg f a = true ∨ own a = true) : Within own f s₀ (s.setReg a w) := by
  refine h.trans ⟨fun b hb ho => ⟨State.reg_setReg_other _ _ ?_, rfl⟩, fun _ _ _ _ _ _ => rfl, .refl s, rfl⟩
  rintro rfl
  rcases ha with ha | ha
  · rw [ha] at hb; cases hb
  · rw [ha] at ho; cases ho

theorem Within.wr (h : Within own f s₀ s) {x : Fld} {v : Nat} (a : Nat) (ha : sideReg f a = true) (hx : x.addr = a := by rfl) :
    Within own f s₀ (s.wr x v) := h.setReg (.inl (hx ▸ ha))

/-- A register of the engine that the change is allowed. -/
theorem Within.wrOwn (h : Within own f s₀ s) {x : Fld} {v : Nat} (a : Nat) (ha : own a = true) (hx : x.addr = a := by rfl) :
    Within own f s₀ (s.wr x v) := h.setReg (.inr (hx ▸ ha))

/-- Fields of one register. -/
theorem Within.wrs (h : Within own f s₀ s) {l : List (Fld × Nat)} (a : Nat) (ha : sideReg f a = true)
    (hl : ∀ e ∈ l, e.1.addr = a := by simp) : Within own f s₀ (s.wrs l) := by
  induction l generalizing s with
  | nil => exact h
  | cons e l ih => exact ih (h.wr a ha (hl e (by simp))) fun x hx => hl x (by simp [hx])

theorem Within.dropRegs (h : Within own f s₀ s) {p : Nat → Bool} (hp : ∀ a, p a = true → sideReg f a = true) : Within own f s₀ (s.dropRegs p) := by
  refine h.trans ⟨fun a ha _ => ⟨?_, rfl⟩, fun _ _ _ _ _ _ => rfl, .refl s, rfl⟩
  rw [State.reg_dropRegs, if_neg]
  intro e
  rw [hp a e] at ha
  cases ha

theorem Within.logEvent (h : Within own f s₀ s) {e : Ev} : Within own f s₀ (logEvent s e) := h.of_quiet (quiet_logEvent s e) fun _ => sideReg_event

theorem Within.pcCount (h : Within own f s₀ s) {b ev lane n : Nat} (hb : b < 73) : Within own f s₀ (pcCount s b ev lane n) :=
  h.of_quiet (quiet_pcCount s b ev lane n hb) fun _ => sideReg_count

theorem Within.raiseIrq (h : Within own f s₀ s) {i : Nat} (hf : f < 16) : Within own f s₀ (raiseIrq s f i) :=
  h.of_quiet (raiseIrq_quiet (sideReg f) s f i (sideReg_hewer hf) (sideReg_hewer hf)) fun _ => id

theorem Within.stickyEvent (h : Within own f s₀ s) {x : Fld} {e : Ev} (hx : own x.addr = true) : Within own f s₀ (stickyEvent s x e) :=
  .ite h (h.wrOwn x.addr hx).logEvent

/-- The valid bits of a receive bank of the face clear, and it reads as zero. -/
theorem Within.rxdClearMem (h : Within own f s₀ s) {d : Nat} : Within own f s₀ (rxdClearMem s f d) := by
  refine h.trans ⟨fun _ _ _ => ⟨rfl, rfl⟩, fun a i b hi hb ha => ?_, .refl s, rfl⟩
  have h1 : memKey a i b / 281474976710656 = a := by unfold memKey; omega
  have h2 : memKey a i b / 1099511627776 % 256 = i := by unfold memKey; omega
  simp only [Bool.or_eq_false_iff] at ha
  simp only [State.byte, Machine.rxdClearMem, Machine.memClear]
  rw [tabGet_drop, if_neg]
  simpa [h1, h2] using fun h5 hf => absurd ha.2 (by simp [h5, hf])

theorem Within.setLane (h : Within own f s₀ s) {p : Nat} {x : LaneX} : Within own f s₀ (s.setLane f p x) := h.same
theorem Within.setRxd (h : Within own f s₀ s) {d : Nat} {x : RxdX} : Within own f s₀ (s.setRxd f d x) := h.same
theorem Within.setSeam (h : Within own f s₀ s) {p : Nat} {x : SeamX} : Within own f s₀ (s.setSeam f p x) := h.same
theorem Within.setPort (h : Within own f s₀ s) {n : Nat} {x : PortX} : Within own f s₀ (s.setPort n x) := h.same
theorem Within.setFace (h : Within own f s₀ s) {x : FaceX} : Within own f s₀ (s.setFace f x) := h.same

end
end Sys2Proof.Machine

namespace Sys2Proof.Machine
open Sys2Proof Sys2Proof.Laws

set_option Elab.async false

/-! ## What follows a lane's state (Machine/Link.lean, Machine/Tap.lean) -/

section
variable {own : Nat → Bool} {f : Nat} {s₀ s t : State}

theorem laneDps_lt (s : State) (f p : Nat) : ∀ d ∈ laneDps s f p, d < 9 := fun _ hd => List.mem_range.mp (List.mem_filter.mp hd).1

theorem laneDp_lt (s : State) (f p : Nat) : laneDp s f p < 16 := by
  unfold laneDp
  split
  · exact Nat.mod_lt _ (by decide)
  · exact State.rd_lt s (LANE_MAP_AUX_P8_DP f)

theorem posOf_lt {s : State} {f p k : Nat} (h : posOf s f p = some k) : k < 8 := List.mem_range.mp (List.mem_of_find?_eq_some h)

theorem portOf_some {s : State} {f k n : Nat} (h : portOf s f k = some n) : n < 128 ∧ s.rd (PORT_CFG_FACE n) = f := by
  have hc := List.find?_some h
  simp only [Bool.and_eq_true, beq_iff_eq] at hc
  obtain ⟨⟨⟨_, hf⟩, _⟩, _⟩ := hc
  exact ⟨List.mem_range.mp (List.mem_of_find?_eq_some h), hf⟩

theorem portOfLane_some {s : State} {f p n : Nat} (h : portOfLane s f p = some n) : n < 128 := by
  obtain ⟨_, _, hn⟩ := Option.bind_eq_some_iff.mp h
  exact (portOf_some hn).1

theorem Within.fillForget (h : Within own f s₀ s) {n : Nat} {host line : Bool} : Within own f s₀ (fillForget s n host line) := .ite h.setPort h

theorem Within.portEval (h : Within own f s₀ s) {n : Nat} (hn : n < 128) : Within own f s₀ (portEval s n) := by
  unfold Machine.portEval
  extract_lets host line admin pat up was t t1
  have ht : Within own f s₀ t := h.fillForget.wrs (PORT_STATUS n) (sideReg_port hn)
  have ht1 : Within own f s₀ t1 := .ite (ht.wr (PORT_EVENTS n) (sideReg_port hn)) (ht.wr (PORT_EVENTS n) (sideReg_port hn))
  exact .ite h (.ite ht ht1.logEvent)

/-- OUT_VALID of the face's datapaths. -/
theorem Within.outShow (h : Within own f s₀ s) :
    Within own f s₀ ((List.range 9).foldl (fun t d => t.wr (RXD_STATUS_OUT_VALID f d) (bit (outValid t f d))) s) :=
  h.foldl fun _ d hd hu => hu.wr (RXD_STATUS f d) (sideReg_rxd (by have := List.mem_range.mp hd; omega))

theorem Within.laneOutEval (h : Within own f s₀ s) {p : Nat} : Within own f s₀ (laneOutEval s f p) := by
  conv in Machine.laneOutEval => delta Machine.laneOutEval
  extract_lets t
  have ht : Within own f s₀ t := h.outShow
  split
  · rename_i n hn
    exact ht.portEval (portOfLane_some hn)
  · exact ht

theorem sideReg_corr {d a : Nat} (hd : d < 16) (h : isSliceCorr f d a = true) : sideReg f a = true := by
  simp only [isSliceCorr, rxdAt, faceAt, Bool.and_eq_true, decide_eq_true_eq] at h
  apply sideReg_face <;> simp only [faceAt] <;> omega

theorem Within.corrShow (h : Within own f s₀ s) {d p : Nat} (hd : d < 16) : Within own f s₀ (corrShow s f d p) := by
  unfold Machine.corrShow
  extract_lets x put t
  have ht : Within own f s₀ t := (h.dropRegs fun a => sideReg_corr hd).wrs (RXD_STATUS f d) sideReg_rxd
  refine ht.foldl fun u e he hu => ?_
  have hs : e.1 ≤ 64 := of_decide_eq_true (List.mem_filter.mp he).2
  have ha (o : Nat) (ho : o < 16) : sideReg f (rxdAt f d + (0x100 + o) + e.1 * 0x10) = true := by
    apply sideReg_face <;> simp only [rxdAt, faceAt] <;> omega
  exact (((hu.wr (SLICE_CORR_A f d e.1) (ha 0 (by decide))).wr (SLICE_CORR_A f d e.1) (ha 0 (by decide))).wr (SLICE_CORR_B f d e.1) (ha 4 (by decide))).wr
    (SLICE_CORR_B f d e.1) (ha 4 (by decide))

theorem Within.corrRestore (h : Within own f s₀ s) {p : Nat} : Within own f s₀ (corrRestore s f p) :=
  h.foldl fun _ d hd hu => hu.corrShow (by have := laneDps_lt s f p d hd; omega)

theorem Within.corrLoad (h : Within own f s₀ s) {d p : Nat} (hd : d < 16) : Within own f s₀ (corrLoad s f d p) :=
  (show Within own f s₀ (laneCorr s f p (s.rd (RXD_STATUS_MODE f d))) from h.setLane).corrShow hd

theorem Within.detectorFor (h : Within own f s₀ s) {p lvl : Nat} : Within own f s₀ (detectorFor s f p lvl) :=
  h.foldl fun _ d hd hu => hu.wr (DET_CTRL f d) (sideReg_rxd (by have := laneDps_lt s f p d hd; omega))

theorem Within.marginNextEval (h : Within own f s₀ s) {p : Nat} : Within own f s₀ (marginNextEval s f p) :=
  .ite (h.foldl fun _ d hd hu => hu.wr (QUAL_MARGIN f d) (sideReg_rxd (by have := laneDps_lt s f p d hd; omega))) h

theorem Within.effortApply (h : Within own f s₀ s) {p lvl : Nat} (hf : f < 16) (hp : own (LANE_EFFORT f p) = true) :
    Within own f s₀ (effortApply s f p lvl) :=
  (((h.wrOwn (LANE_EFFORT f p) hp).wrOwn (LANE_EFFORT f p) hp).detectorFor.marginNextEval).pcCount (by omega)

theorem Within.effortE0 (h : Within own f s₀ s) {p : Nat} (hf : f < 16) (hp : own (LANE_EFFORT f p) = true) : Within own f s₀ (effortE0 s f p) :=
  .ite h.detectorFor (h.effortApply hf hp)

theorem Within.seamState (h : Within own f s₀ s) {p st : Nat} : Within own f s₀ (seamState s f p st) := by
  conv in Machine.seamState => delta Machine.seamState
  extract_lets t
  split
  · rename_i k hk
    exact h.setSeam.wr (SEAM_STATUS f k) (sideReg_pos (by have := posOf_lt hk; omega) (.inr ⟨rfl, by have := posOf_lt hk; omega⟩))
  · exact h.setSeam

theorem Within.episodesEnd (h : Within own f s₀ s) {n : Nat} (hn : s.rd (PORT_CFG_FACE n) = f) : Within own f s₀ (episodesEnd s n) := by
  unfold Machine.episodesEnd
  extract_lets g t
  subst hn
  have ht : Within own g s₀ t := h.same
  refine ht.foldl fun u k hk hu => ?_
  obtain ⟨i, hi, rfl⟩ := List.mem_map.mp hk
  have hk1 := State.rd_lt t (PORT_CFG_FIRST_K n)
  have hl : portLines (t.rd (PORT_CFG_TYPE n)) ≤ 4 := by unfold portLines; split <;> decide
  have hi := List.mem_range.mp hi
  exact hu.wrs (REPLAY_STATUS g (t.rd (PORT_CFG_FIRST_K n) + i)) (sideReg_pos (by simp only at hk1; omega) (.inl (by decide)))

theorem Within.seamOff (h : Within own f s₀ s) {p : Nat} : Within own f s₀ (seamOff s f p) := by
  conv in Machine.seamOff => delta Machine.seamOff
  obtain ⟨portOf', e⟩ : ∃ g, g = Machine.portOf := ⟨_, rfl⟩
  rw [← e]
  extract_lets x t
  split
  · exact h
  · split
    · rename_i k hk
      extract_lets t1
      have hk := posOf_lt hk
      have ht1 : Within own f s₀ t1 := h.setSeam.wrs (SEAM_STATUS f k) (sideReg_pos (by omega) (.inr ⟨rfl, by omega⟩))
      split
      · rename_i n hn
        rw [e] at hn
        exact ht1.episodesEnd (portOf_some hn).2
      · exact ht1
    · exact h.setSeam

theorem Within.seamStart (h : Within own f s₀ s) {p : Nat} : Within own f s₀ (seamStart s f p) := by
  unfold Machine.seamStart
  extract_lets t m t1
  refine .ite ?_ h.seamOff
  have ht1 : Within own f s₀ t1 := by
    unfold t1
    split
    · rename_i k hk
      have hk := posOf_lt hk
      exact h.seamOff.wrs (SEAM_STATUS f k) (sideReg_pos (by omega) (.inr ⟨rfl, by omega⟩))
    · exact h.seamOff
  exact ht1.seamState

theorem sideReg_inRxd {d a : Nat} (hd : d < 16) (h : inRxd f d a = true) : sideReg f a = true := by
  simp only [inRxd, rxdAt, faceAt, Bool.and_eq_true, decide_eq_true_eq] at h
  apply sideReg_face <;> simp only [faceAt] <;> omega

theorem Within.rxdRegsReset (h : Within own f s₀ s) {d lane role : Nat} (hd : d < 16) : Within own f s₀ (rxdRegsReset s f d lane role) :=
  (h.dropRegs fun _ => sideReg_inRxd hd).setRxd.wrs (RXD_STATUS f d) sideReg_rxd

theorem Within.rxdOff (h : Within own f s₀ s) {d role : Nat} (hd : d < 16) : Within own f s₀ (rxdOff s f d role) := (h.rxdRegsReset hd).rxdClearMem

theorem Within.assayIdle (h : Within own f s₀ s) (hf : f < 16) : Within own f s₀ (assayIdle s f) := h.wrs (AS_FACE_STATUS f) (sideReg_assay hf)

theorem Within.assayHold (h : Within own f s₀ s) {cause : Nat} : Within own f s₀ (assayHold s f cause) := h.same

theorem Within.rotationAbandon (h : Within own f s₀ s) {cause cls : Nat} (hf : f < 16) : Within own f s₀ (rotationAbandon s f cause cls) := by
  unfold Machine.rotationAbandon
  extract_lets ph r t1 t2 t3
  have hr : r < 16 := State.rd_lt s (AS_FACE_STATUS_DP f)
  have ht1 : Within own f s₀ t1 := .ite ((h.rxdOff hr).wr (LANE_MAP_AUX f) sideReg_map)
    (((h.wr (LANE_MAP_TX_AUX f) sideReg_map).wr (TXD_STATUS f r) (sideReg_txd hr)).wr (TXD_STATUS f r) (sideReg_txd hr))
  exact .ite h ((((ht1.assayIdle hf).assayHold).wrs (AS_FACE_LAST f) (sideReg_assay hf)).wr (AS_FACE_COUNTS f) (sideReg_assay hf)).logEvent

theorem Within.standInEnd (h : Within own f s₀ s) {p : Nat} (hp : p < 9) : Within own f s₀ (standInEnd s f p) :=
  .ite (Within.ite (h.setLane.wr (LANE_SLICE f p) (sideReg_lane hp)) h.setLane).corrRestore h

theorem Within.calRunEnd (h : Within own f s₀ s) {p result : Nat} (hp : p < 9) : Within own f s₀ (calRunEnd s f p result) := by
  unfold Machine.calRunEnd
  extract_lets t upd t1 t2
  have ht1 : Within own f s₀ t1 := (h.standInEnd hp).same
  exact .ite ((ht1.wrs (CAL_STATUS f p) (sideReg_lane hp)).wr SURVEY_STATUS (sideReg_survey f)) (h.standInEnd hp)

theorem Within.abandonEvent (h : Within own f s₀ s) {cls : Nat} : Within own f s₀ (abandonEvent s f cls) := h.logEvent

theorem Within.calAbandon (h : Within own f s₀ s) {p cls : Nat} (hp : p < 9) : Within own f s₀ (calAbandon s f p cls) :=
  .ite (h.calRunEnd hp).abandonEvent (h.calRunEnd hp)

theorem Within.calBootstrap (h : Within own f s₀ s) {p : Nat} (hp : p < 9) : Within own f s₀ (calBootstrap s f p) :=
  .ite (.ite h ((show Within own f s₀ (calPut s { f := f, p := p, kind := 1, op := 0 }) from h.same).wrs (CAL_STATUS f p) (sideReg_lane hp))) h

theorem Within.tapRestartEff (h : Within own f s₀ s) : Within own f s₀ (tapRestartEff s f) := .ite (h.wr (TAP_CTRL f) sideReg_tap).setFace h

/-! ## The engine's own steps (Machine/Lane.lean) -/

theorem Within.softDrop (h : Within own f s₀ s) {d : Nat} : Within own f s₀ (softDrop s f d) := h.setRxd

theorem Within.qualReset (h : Within own f s₀ s) {d : Nat} (hd : d < 16) : Within own f s₀ (qualReset s f d) := by
  refine (h.dropRegs fun a ha => ?_).setRxd
  simp only [QUAL_SNR, QUAL_LEVEL, rxdAt, faceAt, Bool.and_eq_true, decide_eq_true_eq] at ha
  apply sideReg_face <;> simp only [faceAt] <;> omega

theorem Within.laneDrops (h : Within own f s₀ s) {p cls : Nat} (hf : f < 16) (hp : p < 9) : Within own f s₀ (laneDrops s f p cls) :=
  (((Within.ite (h.rotationAbandon hf) h).standInEnd hp).calAbandon hp).seamOff

theorem Within.takeAlign (h : Within own f s₀ s) {p : Nat} {a : Option (Nat × Bool)} : Within own f s₀ (takeAlign s f p a) := by
  unfold Machine.takeAlign
  split
  · exact h
  · extract_lets d
    exact .ite h ((h.wrs (CODE_STATUS f d) (sideReg_rxd (laneDp_lt s f p))).wr (CODE_STATUS f d) (sideReg_rxd (laneDp_lt s f p)))

end
end Sys2Proof.Machine

namespace Sys2Proof.Machine
open Sys2Proof Sys2Proof.Laws

set_option Elab.async false

/-! ## A state of the engine entered (R91) -/

/-- What an entry shows in the engine's own registers: STATE, LOCKED and FROZEN, and no mismatch outside LOCKED. -/
def acqHead (s : State) (f p st : Nat) : State :=
  let s := s.wrs [(LANE_ACQ_STATUS_STATE f p, st), (LANE_ACQ_STATUS_LOCKED f p, bit (decide (st = 7))),
    (LANE_AGC_FROZEN f p, bit (decide (st = 7 ∨ st = 8)))]
  if st = 7 then s else s.wr (LANE_ACQ_STATUS_MODE_MISMATCH f p) 0

section
variable {own : Nat → Bool} {f p : Nat} {s₀ s t : State}

/-- A lane's record that is set before a register. -/
theorem Within.setLane_wr (s : State) (x : LaneX) (y : Fld) (v : Nat) : Within own f (s.wr y v) ((s.setLane f p x).wr y v) :=
  (show Within own f (s.wr y v) ((s.wr y v).setLane f p x) from (Within.refl _).setLane)

/-- An entry does no more to the engine's registers than it shows in them. -/
theorem setAcq_within (s : State) (p st : Nat) (hf : f < 16) : Within own f (acqHead s f p st) (setAcq s f p st) := by
  unfold setAcq acqHead
  extract_lets t old x t1 t2
  have ht2 : Within own f (if st = 7 then t else t.wr (LANE_ACQ_STATUS_MODE_MISMATCH f p) 0) t2 := by
    unfold t2
    split
    · exact (Within.refl t).setLane
    · have h0 : Within own f (t.wr (LANE_ACQ_STATUS_MODE_MISMATCH f p) 0) (t1.wr (LANE_ACQ_STATUS_MODE_MISMATCH f p) 0) :=
        .setLane_wr t _ _ _
      exact h0.foldl fun _ d hd hu => (hu.wrs (CODE_STATUS f d) (sideReg_rxd (by have := laneDps_lt _ _ _ d hd; omega))).softDrop
  exact .ite (ht2.raiseIrq hf) ht2

/-- A field of the engine that an entry leaves alone. -/
theorem acqHead_rd {x : Fld} (st : Nat)
    (ha : x.addr = LANE_ACQ_STATUS f p → x.lo + x.width ≤ 23 ∨ 25 ≤ x.lo ∧ x.lo + x.width ≤ 28 := by simp)
    (hg : x.addr = LANE_AGC f p → x.lo + x.width ≤ 7 ∨ 8 ≤ x.lo := by simp) : (acqHead s f p st).rd x = s.rd x := by
  have h28 : LANE_ACQ_STATUS f p = x.addr → x.lo + x.width ≤ 28 ∨ 28 + 4 ≤ x.lo := fun e => by have := ha e.symm; omega
  have h24 : LANE_ACQ_STATUS f p = x.addr → x.lo + x.width ≤ 24 ∨ 24 + 1 ≤ x.lo := fun e => by have := ha e.symm; omega
  have h23 : LANE_ACQ_STATUS f p = x.addr → x.lo + x.width ≤ 23 ∨ 23 + 1 ≤ x.lo := fun e => by have := ha e.symm; omega
  have h7 : LANE_AGC f p = x.addr → x.lo + x.width ≤ 7 ∨ 7 + 1 ≤ x.lo := fun e => by have := hg e.symm; omega
  unfold acqHead
  dsimp only
  have keep (u : State) (v w y : Nat) : (u.wrs [(LANE_ACQ_STATUS_STATE f p, v), (LANE_ACQ_STATUS_LOCKED f p, w), (LANE_AGC_FROZEN f p, y)]).rd x =
      u.rd x := by
    simp only [State.wrs_cons, State.wrs_nil]
    rw [State.rd_wr_apart _ (LANE_AGC_FROZEN f p) _ _ (by simp) h7, State.rd_wr_apart _ (LANE_ACQ_STATUS_LOCKED f p) _ _ (by simp) h24,
      State.rd_wr_apart _ (LANE_ACQ_STATUS_STATE f p) _ _ (by simp) h28]
  split
  · exact keep s _ _ _
  · rw [State.rd_wr_apart _ (LANE_ACQ_STATUS_MODE_MISMATCH f p) _ _ (by simp) h23, keep]

theorem acqHead_state (st : Nat) : (acqHead s f p st).rd (LANE_ACQ_STATUS_STATE f p) = st % 16 := by
  unfold acqHead
  dsimp only
  split <;> simp [State.rd_wr_same, State.rd_wr_apart]

theorem acqHead_locked (st : Nat) : (acqHead s f p st).on (LANE_ACQ_STATUS_LOCKED f p) = decide (st = 7) := by
  unfold acqHead
  dsimp only
  split <;> simp [*, State.on_wr_same, State.on_wr_apart, bit]

theorem acqHead_frozen (st : Nat) : (acqHead s f p st).on (LANE_AGC_FROZEN f p) = decide (st = 7 ∨ st = 8) := by
  unfold acqHead
  dsimp only
  split <;> simp [*, State.on_wr_same, State.on_wr_apart, bit]
  split <;> simp [*]

theorem Within.acqHead (h : Within own f s₀ s) {st : Nat} (hs : own (LANE_ACQ_STATUS f p) = true) (hg : own (LANE_AGC f p) = true) :
    Within own f s₀ (acqHead s f p st) := by
  unfold Machine.acqHead
  extract_lets t
  have ht : Within own f s₀ t := ((h.wrOwn (LANE_ACQ_STATUS f p) hs).wrOwn (LANE_ACQ_STATUS f p) hs).wrOwn (LANE_AGC f p) hg
  exact .ite ht (ht.wrOwn (LANE_ACQ_STATUS f p) hs)

theorem Within.setAcq (h : Within own f s₀ s) {st : Nat} (hf : f < 16) (hs : own (LANE_ACQ_STATUS f p) = true) (hg : own (LANE_AGC f p) = true) :
    Within own f s₀ (setAcq s f p st) := (h.acqHead hs hg).trans (setAcq_within s p st hf)

/-! ## Fields of the engine after its steps -/

/-- A field of the engine survives what changes only registers beside it. -/
theorem Within.rdEngine (h : Within (fun _ => false) f s t) {x : Fld} (hf : f < 16) (hx : engineReg f x.addr = true) : t.rd x = s.rd x :=
  h.rd (sideReg_engine hx hf) rfl

theorem Within.onEngine (h : Within (fun _ => false) f s t) {x : Fld} (hf : f < 16) (hx : engineReg f x.addr = true) : t.on x = s.on x :=
  h.on (sideReg_engine hx hf) rfl

theorem setAcq_rd {x : Fld} (st : Nat) (hf : f < 16) (hx : engineReg f x.addr = true)
    (ha : x.addr = LANE_ACQ_STATUS f p → x.lo + x.width ≤ 23 ∨ 25 ≤ x.lo ∧ x.lo + x.width ≤ 28 := by simp)
    (hg : x.addr = LANE_AGC f p → x.lo + x.width ≤ 7 ∨ 8 ≤ x.lo := by simp) : (setAcq s f p st).rd x = s.rd x :=
  ((setAcq_within s p st hf).rdEngine hf hx).trans (acqHead_rd st ha hg)

section
variable (hf : f < 16) (hp : p < 9)
include hf hp

theorem setAcq_state (s : State) (st : Nat) : (setAcq s f p st).rd (LANE_ACQ_STATUS_STATE f p) = st % 16 :=
  ((setAcq_within s p st hf).rdEngine hf (engineReg_lane hp)).trans (acqHead_state st)

theorem setAcq_locked (s : State) (st : Nat) : (setAcq s f p st).on (LANE_ACQ_STATUS_LOCKED f p) = decide (st = 7) :=
  ((setAcq_within s p st hf).onEngine hf (engineReg_lane hp)).trans (acqHead_locked st)

theorem setAcq_frozen (s : State) (st : Nat) : (setAcq s f p st).on (LANE_AGC_FROZEN f p) = decide (st = 7 ∨ st = 8) :=
  ((setAcq_within s p st hf).onEngine hf (engineReg_lane hp)).trans (acqHead_frozen st)

theorem enterSearch_state (s : State) : (enterSearch s f p).rd (LANE_ACQ_STATUS_STATE f p) = 3 := setAcq_state hf hp s 3

theorem enterDetect_state (s : State) : (enterDetect s f p).rd (LANE_ACQ_STATUS_STATE f p) = 1 := by
  simp [enterDetect, State.rd_wr_apart, setAcq_state hf hp]

omit hp in
theorem effortE0_rd {x : Fld} (hx : engineReg f x.addr = true) (he : x.addr ≠ LANE_EFFORT f p := by simp) : (effortE0 s f p).rd x = s.rd x :=
  ((Within.refl (own := fun a => a == LANE_EFFORT f p) s).effortE0 hf (by simp)).rd (sideReg_engine hx hf) (by simpa using he)

omit hp in
theorem laneOutEval_rd {x : Fld} (hx : engineReg f x.addr = true) : (laneOutEval s f p).rd x = s.rd x := (Within.refl s).laneOutEval.rdEngine hf hx

theorem laneDrops_rd {cls : Nat} {x : Fld} (hx : engineReg f x.addr = true) : (laneDrops s f p cls).rd x = s.rd x :=
  ((Within.refl s).laneDrops hf hp).rdEngine hf hx

end

/-- What follows a candidate taken: the tap restarts where it reads the lane, and the lane's datapath takes the candidate's mode and rate. -/
def candFollow (s : State) (f p : Nat) (c : Cand) : State :=
  let s := if (tapNow s f).lane = p then tapRestartEff s f else s
  let d := laneDp s f p
  if d = 15 then s
  else corrLoad (s.wrs [(RXD_STATUS_MODE f d, c.mode), (TR_STATUS_FREQ f d, twos 16 c.ppm), (TR_STATUS_STEER f d, 1), (TR_STATUS_F_LIMIT f d, 0),
    (TR_STATUS_P_LIMIT f d, 0)]) f d p

theorem candFollow_within (s : State) (p : Nat) (c : Cand) : Within own f s (candFollow s f p c) := by
  unfold candFollow
  extract_lets t d
  have ht : Within own f s t := .ite (Within.refl s).tapRestartEff (Within.refl s)
  have hd : d < 16 := laneDp_lt t f p
  refine .ite ht (Within.corrLoad ?_ hd)
  exact ((((ht.wr (RXD_STATUS f d) (sideReg_rxd hd)).wr (TR_STATUS f d) (sideReg_rxd hd)).wr (TR_STATUS f d) (sideReg_rxd hd)).wr (TR_STATUS f d)
    (sideReg_rxd hd)).wr (TR_STATUS f d) (sideReg_rxd hd)

/-- The next candidate is taken: RETUNE with its mode, one attempt more, and what its datapath follows with. -/
theorem nextCand_cons (s : State) {c : Cand} {cs : List Cand} (hc : (s.lane f p).cands = c :: cs) : ∃ x,
    Within own f (((setAcq (s.setLane f p x) f p 4).wr (LANE_ACQ_STATUS_MODE f p) c.mode).incSat (LANE_ACQ_STATUS_ATTEMPTS f p)) (nextCand s f p) := by
  unfold nextCand
  extract_lets l
  split
  · rename_i e
    cases hc.symm.trans e
  · rename_i c' cs' e
    obtain ⟨rfl, rfl⟩ : c = c' ∧ cs = cs' := List.cons.inj (hc.symm.trans e)
    refine ⟨_, candFollow_within _ p c⟩

theorem nextCand_nil (s : State) (hc : (s.lane f p).cands = []) : nextCand s f p = enterSearch (s.wr (LANE_ACQ_STATUS_MODE f p) 0) f p := by
  simp only [nextCand, hc]

/-- RETUNE with a candidate left, SEARCH with none. -/
theorem nextCand_state (s : State) (hf : f < 16) (hp : p < 9) :
    (nextCand s f p).rd (LANE_ACQ_STATUS_STATE f p) = if (s.lane f p).cands = [] then 3 else 4 := by
  cases hc : (s.lane f p).cands with
  | nil => rw [nextCand_nil s hc, enterSearch_state hf hp]; rfl
  | cons c cs =>
    obtain ⟨x, h⟩ := nextCand_cons (own := fun _ => false) s hc
    rw [h.rdEngine hf (engineReg_lane hp)]
    simp [State.incSat, State.rd_wr_apart, setAcq_state hf hp]

end
end Sys2Proof.Machine

namespace Sys2Proof.Machine
open Sys2Proof Sys2Proof.Laws

set_option Elab.async false

/-! # Acquisition before VERIFY (O10) -/

theorem satInc_lt (w x : Nat) : satInc w x < 2 ^ w := by
  unfold satInc
  have := Nat.two_pow_pos w
  split <;> omega

/-- A saturating count of a field. -/
theorem State.rd_incSat_same (s : State) (x : Fld) (h : x.lo + x.width ≤ 32) : (s.incSat x).rd x = satInc x.width (s.rd x) := by
  rw [State.incSat, State.rd_wr_same _ _ _ h, Nat.mod_eq_of_lt (satInc_lt _ _)]

/-- A candidate's mode is one of the four line modes (R92). -/
theorem candidates_mode {modes : Nat} {tones : List Tone} {c : Cand} (h : c ∈ candidates modes tones) : c.mode < 8 := by
  obtain ⟨t, _, rfl⟩ := List.mem_map.mp h
  have := t.mode.isLt
  simp only
  omega

section
variable {f p : Nat} {s : State}

theorem nextCand_mode (hf : f < 16) (hp : p < 9) {c : Cand} {cs : List Cand} (hc : (s.lane f p).cands = c :: cs) (hm : c.mode < 8) :
    (nextCand s f p).rd (LANE_ACQ_STATUS_MODE f p) = c.mode := by
  obtain ⟨x, h⟩ := nextCand_cons (own := fun _ => false) s hc
  rw [h.rdEngine hf (engineReg_lane hp)]
  simpa [State.incSat, State.rd_wr_apart, State.rd_wr_same] using hm

theorem nextCand_attempts (hf : f < 16) (hp : p < 9) {c : Cand} {cs : List Cand} (hc : (s.lane f p).cands = c :: cs) :
    (nextCand s f p).rd (LANE_ACQ_STATUS_ATTEMPTS f p) = satInc (LANE_ACQ_STATUS_ATTEMPTS f p).width (s.rd (LANE_ACQ_STATUS_ATTEMPTS f p)) := by
  obtain ⟨x, h⟩ := nextCand_cons (own := fun _ => false) s hc
  rw [h.rdEngine hf (engineReg_lane hp), State.rd_incSat_same _ _ (by simp), State.rd_wr_apart _ _ _ _ (by simp) (by simp),
    setAcq_rd 4 hf (engineReg_lane hp)]
  simp

/-- The gain is taken while the AGC runs (R85, R86). -/
theorem enterSearch_setGain (hf : f < 16) (hp : p < 9) {g : Nat} (hg : g < 128) (h0 : s.rd (LANE_ACQ_STATUS_STATE f p) ≠ 0)
    (hz : s.on (LANE_AGC_FROZEN f p) = false) : (enterSearch (setGain s f p g) f p).rd (LANE_AGC_GAIN f p) = g := by
  have e : setGain s f p g = s.wrs [(LANE_AGC_GAIN f p, g), (LANE_AGC_AT_LIMIT f p, bit (decide (g = 0 ∨ g = 127)))] :=
    if_neg (by simp [h0, hz])
  calc (enterSearch (setGain s f p g) f p).rd (LANE_AGC_GAIN f p) = (setGain s f p g).rd (LANE_AGC_GAIN f p) :=
        setAcq_rd 3 hf (engineReg_lane hp)
    _ = g := by rw [e]; simpa [State.rd_wr_apart, State.rd_wr_same] using hg

theorem laneEvent_on {b a0 : Nat} {x : Fld} (hf : f < 16) (hx : engineReg f x.addr = true) (hw : x.lo + 1 ≤ 32 ∧ x.width = 1 := by simp) :
    (laneEvent s f p b a0 x).on x = true := by
  obtain ⟨hl, h1⟩ := hw
  unfold laneEvent stickyEvent
  split
  · assumption
  · have := sideReg_engine hx hf
    rw [logEvent_on _ _ (by rw [Bool.eq_false_iff]; intro e; rw [sideReg_event e] at this; cases this), State.on_wr_same _ _ _ (by omega), h1]
    rfl

theorem laneEvent_rd {b a0 : Nat} {x y : Fld} (hf : f < 16) (hx : engineReg f x.addr = true) (hl : y.lo + y.width ≤ 32 := by simp)
    (ha : y.addr = x.addr → x.lo + x.width ≤ y.lo ∨ y.lo + y.width ≤ x.lo := by simp) : (laneEvent s f p b a0 y).rd x = s.rd x := by
  unfold laneEvent stickyEvent
  split
  · rfl
  · have := sideReg_engine hx hf
    rw [logEvent_rd _ _ (by rw [Bool.eq_false_iff]; intro e; rw [sideReg_event e] at this; cases this), State.rd_wr_apart _ _ _ _ hl ha]

end

/-- A command that the engine takes in one of its states. -/
theorem acqIn_alive {s : State} {f p st : Nat} (h : acqIn s f p st = true) : s.alive = true ∧ s.rd (LANE_ACQ_STATUS_STATE f p) = st := by
  simpa [acqIn] using h

theorem completes_guardS {i : Instr} {s : State} {c : Bool} {g : State → State} {P : State → Prop} (e : exec i s = .next (guardS c s g)) (hc : c = true)
    (h : P (g s)) : Completes i s P := by
  subst hc
  exact ⟨g s, e, h⟩

section
variable {f : Fin 16} {p : Fin 9} {s : State}

theorem settle_search {g : BitVec 7} (h : acqIn s f p 2 = true) :
    let t := enterSearch (setGain s f p g.toNat) f p
    t.rd (LANE_ACQ_STATUS_STATE f p) = 3 ∧ (s.on (LANE_AGC_FROZEN f p) = false → t.rd (LANE_AGC_GAIN f p) = g.toNat) :=
  ⟨enterSearch_state f.isLt p.isLt _, enterSearch_setGain f.isLt p.isLt g.isLt (by rw [(acqIn_alive h).2]; decide)⟩

theorem searchDwell_candidates {tones : List Tone} {c : Cand} {cs : List Cand} (h : acqIn s f p 3 = true)
    (hc : candidates (s.lane f p).dwellModes tones = c :: cs) : Completes (.searchDwell f p tones) s fun t =>
      t.rd (LANE_ACQ_STATUS_STATE f p) = 4 ∧ t.rd (LANE_ACQ_STATUS_MODE f p) = c.mode ∧
        t.rd (LANE_ACQ_STATUS_ATTEMPTS f p) = satInc (LANE_ACQ_STATUS_ATTEMPTS f p).width (s.rd (LANE_ACQ_STATUS_ATTEMPTS f p)) := by
  refine completes_guardS rfl h ?_
  dsimp only
  rw [hc]
  have hl (x : LaneX) (e : x.cands = c :: cs) : ((s.setLane f p x).lane f p).cands = c :: cs := by rw [State.lane_setLane_same, e]
  refine ⟨?_, nextCand_mode f.isLt p.isLt (hl _ rfl) (candidates_mode (by rw [hc]; simp)), ?_⟩
  · rw [nextCand_state _ f.isLt p.isLt, hl _ rfl]; rfl
  · rw [nextCand_attempts f.isLt p.isLt (hl _ rfl)]; rfl

theorem searchDwell_empty {tones : List Tone} (h : acqIn s f p 3 = true) (hc : candidates (s.lane f p).dwellModes tones = []) :
    Completes (.searchDwell f p tones) s fun t => t.rd (LANE_ACQ_STATUS_STATE f p) = if 3 ≤ (s.lane f p).emptyDwells then 1 else 3 := by
  refine completes_guardS rfl h ?_
  dsimp only
  rw [hc]
  dsimp only
  by_cases h3 : 3 ≤ (s.lane f p).emptyDwells
  · rw [if_pos (by omega), if_pos h3, enterDetect_state f.isLt p.isLt]
  · rw [if_neg (by omega), if_neg h3, enterSearch_state f.isLt p.isLt]

theorem acqTimeout_event (h : s.alive = true) (h0 : s.rd (LANE_ACQ_STATUS_STATE f p) ≠ 0) (h7 : s.rd (LANE_ACQ_STATUS_STATE f p) ≠ 7) :
    Completes (.acqTimeout f p) s fun t => t.on (LANE_EVENTS_ACQ_TIMEOUT f p) = true ∧
      t.rd (LANE_ACQ_STATUS_STATE f p) = s.rd (LANE_ACQ_STATUS_STATE f p) :=
  completes_guardS rfl (by simp [h, h0, h7])
    ⟨laneEvent_on f.isLt (engineReg_lane p.isLt), laneEvent_rd f.isLt (engineReg_lane p.isLt)⟩

end

/-- Settles O10: each command's guard holds, and the state entered is read off the entry. -/
theorem laneSearchSteps : Obligations.LaneSearchSteps := by
  unfold Obligations.LaneSearchSteps
  intro f p g tones s
  have hf := f.isLt
  have hp := p.isLt
  refine ⟨fun h => completes_guardS rfl h ?_, fun h => ⟨completes_guardS rfl h (settle_search h), completes_guardS rfl h (settle_search h)⟩,
    fun h => ⟨fun c cs hc => searchDwell_candidates h hc, searchDwell_empty h⟩, fun h => completes_guardS rfl h (setAcq_state hf hp s 5),
    fun h => completes_guardS rfl h (nextCand_state s hf hp), fun h => completes_guardS rfl h (nextCand_state s hf hp), acqTimeout_event⟩
  rw [effortE0_rd hf (engineReg_lane hp), setAcq_state hf hp]

end Sys2Proof.Machine

namespace Sys2Proof.Machine
open Sys2Proof Sys2Proof.Laws

set_option Elab.async false

/-! # Loss of lock (O12) -/

/-! ## What a loss shows -/

section
variable {f p : Nat} {s : State}

theorem effortE0_current (hf : f < 16) (hp : p < 9) : (effortE0 s f p).rd (LANE_EFFORT_CURRENT f p) = 0 := by
  have keep {t u : State} (h : Within (fun _ => false) f t u) : u.rd (LANE_EFFORT_CURRENT f p) = t.rd (LANE_EFFORT_CURRENT f p) :=
    h.rdEngine hf (engineReg_lane hp)
  unfold effortE0
  split
  · rename_i h0
    rw [keep (Within.refl s).detectorFor, h0]
  · unfold effortApply
    rw [keep ((Within.refl _).detectorFor.marginNextEval.pcCount (by omega))]
    simp [State.incMod, State.rd_wr_apart, State.rd_wr_same]

theorem enterDetect_rd {x : Fld} (hf : f < 16) (hx : engineReg f x.addr = true)
    (ha : x.addr = LANE_ACQ_STATUS f p → x.lo + x.width ≤ 23 ∨ 25 ≤ x.lo ∧ x.lo + x.width ≤ 28 := by simp)
    (hg : x.addr = LANE_AGC f p → x.lo + x.width ≤ 7 ∨ 8 ≤ x.lo := by simp) (hc : x.addr ≠ LANE_CLIP_COUNT f p := by simp)
    (hr : x.addr = LANE_ACQ_CTRL f p → x.lo + x.width ≤ 31 := by simp) : (enterDetect s f p).rd x = s.rd x := by
  simp only [enterDetect, State.wrs_cons, State.wrs_nil]
  rw [State.rd_wr_apart _ _ _ _ (by simp) fun e => .inl (hr e.symm), State.rd_wr_addr _ _ _ _ hc, setAcq_rd 1 hf hx ha hg]

/-- What a loss shows in the engine's registers (R96, R99, R101). -/
structure LossShown (s t : State) (f p cause : Nat) : Prop where
  state : t.rd (LANE_ACQ_STATUS_STATE f p) = lossEnters s f p cause
  lastLoss : t.rd (LANE_ACQ_STATUS_LAST_LOSS f p) = cause
  event : t.on (lossField f p cause) = true
  effort : t.rd (LANE_EFFORT_CURRENT f p) = 0
  detect : lossEnters s f p cause = 1 → t.rd (LANE_CLIP_COUNT_CLIPS f p) = 0 ∧ t.on (LANE_ACQ_CTRL_RESTART f p) = false
  modes : t.rd (LANE_ACQ_CTRL_MODE_EN f p) = s.rd (LANE_ACQ_CTRL_MODE_EN f p)
  sealing : t.rd (SEAL_STATUS_HS_STATE f) = s.rd (SEAL_STATUS_HS_STATE f)

theorem lossField_addr (f p cause : Nat) : (lossField f p cause).addr = LANE_EVENTS f p := by unfold lossField; split <;> rfl

theorem lossField_bit (f p cause : Nat) : (lossField f p cause).lo + 1 ≤ 32 ∧ (lossField f p cause).width = 1 := by
  unfold lossField; split <;> simp

theorem lossEnters_lt (s : State) (f p cause : Nat) : lossEnters s f p cause < 16 := by
  unfold lossEnters
  split
  · decide
  · split <;> decide

/-- The lane's state of a loss, entered. -/
def lossEnter (s : State) (f p dest : Nat) : State :=
  let s := if dest = 1 then enterDetect s f p else setAcq s f p dest
  let s := if dest = 8 then s else s.wr (LANE_ACQ_STATUS_MODE f p) 0
  laneOutEval (effortE0 s f p) f p

theorem lossEnter_rd {x : Fld} {dest : Nat} (hf : f < 16) (hx : engineReg f x.addr = true) (he : x.addr ≠ LANE_EFFORT f p := by simp)
    (ha : x.addr = LANE_ACQ_STATUS f p → x.lo + x.width ≤ 23 := by simp) (hg : x.addr = LANE_AGC f p → x.lo + x.width ≤ 7 ∨ 8 ≤ x.lo := by simp)
    (hc : x.addr ≠ LANE_CLIP_COUNT f p := by simp) (hr : x.addr = LANE_ACQ_CTRL f p → x.lo + x.width ≤ 31 := by simp) :
    (lossEnter s f p dest).rd x = s.rd x := by
  unfold lossEnter
  extract_lets t u
  have ht : t.rd x = s.rd x := by
    unfold t
    split
    · exact enterDetect_rd hf hx (fun e => .inl (ha e)) hg hc hr
    · exact setAcq_rd dest hf hx (fun e => .inl (ha e)) hg
  have hu : u.rd x = t.rd x := by
    unfold u
    split
    · rfl
    · exact State.rd_wr_apart _ _ _ _ (by simp) fun e => .inl (by have := ha e.symm; simp only; omega)
  rw [laneOutEval_rd hf hx, effortE0_rd hf hx he, hu, ht]

theorem lossEnter_state {dest : Nat} (hf : f < 16) (hp : p < 9) (hd : dest < 16) : (lossEnter s f p dest).rd (LANE_ACQ_STATUS_STATE f p) = dest := by
  unfold lossEnter
  extract_lets t u
  have ht : t.rd (LANE_ACQ_STATUS_STATE f p) = dest := by
    unfold t
    split
    · rename_i e
      rw [enterDetect_state hf hp, e]
    · rw [setAcq_state hf hp, Nat.mod_eq_of_lt hd]
  have hu : u.rd (LANE_ACQ_STATUS_STATE f p) = t.rd (LANE_ACQ_STATUS_STATE f p) := by
    unfold u
    split
    · rfl
    · simp [State.rd_wr_apart]
  rw [laneOutEval_rd hf (engineReg_lane hp), effortE0_rd hf (engineReg_lane hp), hu, ht]

theorem lossEnter_effort {dest : Nat} (hf : f < 16) (hp : p < 9) : (lossEnter s f p dest).rd (LANE_EFFORT_CURRENT f p) = 0 := by
  rw [lossEnter, laneOutEval_rd hf (engineReg_lane hp), effortE0_current hf hp]

theorem lossEnter_detect (hf : f < 16) (hp : p < 9) :
    (lossEnter s f p 1).rd (LANE_CLIP_COUNT_CLIPS f p) = 0 ∧ (lossEnter s f p 1).on (LANE_ACQ_CTRL_RESTART f p) = false := by
  have keep (x : Fld) (hx : engineReg f x.addr = true) (he : x.addr ≠ LANE_EFFORT f p) (ha : x.addr ≠ LANE_ACQ_STATUS f p) :
      (lossEnter s f p 1).rd x = (enterDetect s f p).rd x := by
    rw [lossEnter, laneOutEval_rd hf hx, effortE0_rd hf hx he]
    exact State.rd_wr_addr _ _ _ _ ha
  rw [State.on, keep _ (engineReg_lane hp) (by simp) (by simp), keep _ (engineReg_lane hp) (by simp) (by simp)]
  simp [enterDetect, State.rd_wr_apart, State.rd_wr_same]

/-- What a loss records, and what it ends, before the lane's next state. -/
def lossRecord (s : State) (f p cause : Nat) : State :=
  let wasLocked := s.rd (LANE_ACQ_STATUS_STATE f p) == 7
  let s := s.wr (LANE_ACQ_STATUS_LAST_LOSS f p) cause
  let s := laneEvent s f p (if cause ≤ 6 then cause else cause + 2) cause (lossField f p cause)
  let s := laneDrops s f p 4
  let s := if wasLocked then
      (s.wr (LANE_ACQ_STATUS_ATTEMPTS f p) 0).setLane f p { s.lane f p with acqStart := s.mono }
    else s
  let x := s.lane f p
  s.setLane f p { x with cands := [], cand := none, relockWindow := false, emptyDwells := 0 }

theorem laneLossCore_eq (s : State) (f p cause : Nat) : laneLossCore s f p cause = lossEnter (lossRecord s f p cause) f p (lossEnters s f p cause) := rfl

theorem lossRecord_rd {x : Fld} {cause : Nat} (hf : f < 16) (hp : p < 9) (hx : engineReg f x.addr = true)
    (ha : x.addr = LANE_ACQ_STATUS f p → x.lo + x.width ≤ 8 ∨ 16 ≤ x.lo := by simp) :
    (lossRecord s f p cause).rd x =
      (laneEvent (s.wr (LANE_ACQ_STATUS_LAST_LOSS f p) cause) f p (if cause ≤ 6 then cause else cause + 2) cause (lossField f p cause)).rd x := by
  unfold lossRecord
  extract_lets w t t1 t2 l t3 y
  rw [State.rd_setLane]
  have ht3 : t3.rd x = t2.rd x := by
    unfold t3
    split
    · rw [State.rd_setLane]
      exact State.rd_wr_apart _ _ _ _ (by simp) fun e => by have := ha e.symm; simp only; omega
    · rfl
  rw [ht3]
  exact laneDrops_rd hf hp hx

theorem lossRecord_rd_kept {x : Fld} {cause : Nat} (hf : f < 16) (hp : p < 9) (hx : engineReg f x.addr = true)
    (ha : x.addr ≠ LANE_ACQ_STATUS f p := by simp) (he : x.addr ≠ LANE_EVENTS f p := by simp) : (lossRecord s f p cause).rd x = s.rd x := by
  rw [lossRecord_rd hf hp hx fun e => absurd e ha,
    laneEvent_rd hf hx (by have := lossField_bit f p cause; omega) fun e => absurd (e.symm.trans (lossField_addr f p cause)) he]
  exact State.rd_wr_addr _ _ _ _ ha

theorem laneLossCore_shown (s : State) {cause : Nat} (hf : f < 16) (hp : p < 9) (hc : cause < 16) : LossShown s (laneLossCore s f p cause) f p cause := by
  rw [laneLossCore_eq]
  have hev : engineReg f (lossField f p cause).addr = true := by rw [lossField_addr]; exact engineReg_lane hp
  have hbit := lossField_bit f p cause
  have off (a : Nat) (h : LANE_EVENTS f p ≠ a) : (lossField f p cause).addr ≠ a := by rwa [lossField_addr]
  refine ⟨lossEnter_state hf hp (lossEnters_lt s f p cause), ?_, ?_, lossEnter_effort hf hp, fun e => ?_, ?_, ?_⟩
  · rw [lossEnter_rd hf (engineReg_lane hp), lossRecord_rd hf hp (engineReg_lane hp),
      laneEvent_rd hf (engineReg_lane hp) (by omega) fun e => absurd e (off _ (by simp)),
      State.rd_wr_same _ _ _ (by simp)]
    exact Nat.mod_eq_of_lt hc
  · rw [State.on, lossEnter_rd hf hev (off _ (by simp)) (fun e => absurd e (off _ (by simp))) (fun e => absurd e (off _ (by simp))) (off _ (by simp))
      fun e => absurd e (off _ (by simp)), lossRecord_rd hf hp hev fun e => absurd e (off _ (by simp))]
    exact laneEvent_on hf hev hbit
  · rw [e]
    exact lossEnter_detect hf hp
  · rw [lossEnter_rd hf (engineReg_lane hp), lossRecord_rd_kept hf hp (engineReg_lane hp)]
  · have h1 := lossEnter_rd (s := lossRecord s f p cause) (x := SEAL_STATUS_HS_STATE f) (dest := lossEnters s f p cause) hf (engineReg_seal f)
      (seal_ne_lane hp) (fun e => absurd e (seal_ne_lane hp)) (fun e => absurd e (seal_ne_lane hp)) (seal_ne_lane hp)
      fun e => absurd e (seal_ne_lane (o := 0) hp)
    have h2 := lossRecord_rd_kept (s := s) (x := SEAL_STATUS_HS_STATE f) (cause := cause) hf hp (engineReg_seal f) (seal_ne_lane hp)
      (seal_ne_lane hp)
    exact h1.trans h2

end
end Sys2Proof.Machine

namespace Sys2Proof.Machine
open Sys2Proof Sys2Proof.Laws

set_option Elab.async false

/-! ## Register writes of a lane and of a datapath -/

/-- An address of a plain register: its entry and indices, no memory, no counter, no Hewer's control, SNAP_SEL or TALLY_SUB. -/
structure PlainAt (a : Nat) (d : RegDesc) (idx : List Nat) : Prop where
  desc : descOf a = some (d, idx)
  place : memPlace a = none
  ctr : ctrLo? a = none
  hewer : hwCtrlOf a = none
  sel : a ≠ SNAP_SEL ∧ a ≠ TALLY_SUB ∧ a % 4 = 0

def acqCtrlDesc : RegDesc :=
  ⟨.LANE_ACQ_CTRL, 0x10f1000, [], [(16, 0x100000), (9, 0x100)], [⟨31, 1, .rws, 0x0⟩, ⟨11, 1, .rw, 0x1⟩, ⟨10, 1, .rw, 0x1⟩, ⟨9, 1, .rw, 0x1⟩, ⟨0, 4, .rw, 0x0⟩]⟩

def eqConvDesc : RegDesc :=
  ⟨.EQ_CONV, 0x100002c, [], [(16, 0x100000), (9, 0x8000)], [⟨31, 1, .wo, 0x0⟩, ⟨30, 1, .wo, 0x0⟩, ⟨24, 4, .rw, 0x0⟩]⟩

theorem plainAt_acqCtrl (f : Fin 16) (p : Fin 9) : PlainAt (LANE_ACQ_CTRL f p) acqCtrlDesc [f.val, p.val] := by
  have h : ∀ f : Fin 16, ∀ p : Fin 9, descOf (LANE_ACQ_CTRL f p) = some (acqCtrlDesc, [f.val, p.val]) ∧ memPlace (LANE_ACQ_CTRL f p) = none ∧
      ctrLo? (LANE_ACQ_CTRL f p) = none ∧ hwCtrlOf (LANE_ACQ_CTRL f p) = none ∧
      LANE_ACQ_CTRL f p ≠ SNAP_SEL ∧ LANE_ACQ_CTRL f p ≠ TALLY_SUB ∧ LANE_ACQ_CTRL f p % 4 = 0 := by decide +kernel
  obtain ⟨hd, hm, hc, hh, hs⟩ := h f p
  exact ⟨hd, hm, hc, hh, hs⟩

theorem plainAt_eqConv (f : Fin 16) (d : Fin 9) : PlainAt (EQ_CONV f d) eqConvDesc [f.val, d.val] := by
  have h : ∀ f : Fin 16, ∀ d : Fin 9, descOf (EQ_CONV f d) = some (eqConvDesc, [f.val, d.val]) ∧ memPlace (EQ_CONV f d) = none ∧
      ctrLo? (EQ_CONV f d) = none ∧ hwCtrlOf (EQ_CONV f d) = none ∧
      EQ_CONV f d ≠ SNAP_SEL ∧ EQ_CONV f d ≠ TALLY_SUB ∧ EQ_CONV f d % 4 = 0 := by decide +kernel
  obtain ⟨hd, hm, hc, hh, hs⟩ := h f d
  exact ⟨hd, hm, hc, hh, hs⟩

section
variable {s t : State} {a v st : Nat} {d : RegDesc} {idx : List Nat}

theorem directStart_bistHides (s : State) (a : Nat) : bistHides (directStart s) a = bistHides s a := by
  rw [directStart_rest]
  rfl

theorem blockWrite_plain (h : PlainAt a d idx) (hb : bistHides s a = false) : blockWrite s .direct a v = regEffect s true d idx a v := by
  obtain ⟨hd, hm, hc, -, h1, h2, -⟩ := h
  simp [blockWrite, hb, h1, h2, hm, hc, hd]

/-- A write of a plain register: its effect, from the state in which the write finds the part. -/
theorem regWriteOut_plain (h : PlainAt a d idx) (hr : Reaches s a) (e : regEffect (directStart s) true d idx a (v % 2 ^ 32) = (t, st))
    (hd : t.defer = []) : regWriteOut s a v = .next (written t st) := by
  refine regWriteOut_done hr h.sel.2.2 h.hewer ?_ hd
  rw [blockWrite_plain h (by rw [directStart_bistHides]; exact hr.2.2), BitVec.toNat_ofNat, e]

end
end Sys2Proof.Machine

namespace Sys2Proof.Machine
open Sys2Proof Sys2Proof.Laws

set_option Elab.async false

/-! ## What a step of the engine leaves alone -/

section
variable {f p : Nat} {s₀ s : State}

theorem Within.enterState (h : Within (engineReg f) f s₀ s) {st : Nat} (hf : f < 16) (hp : p < 9) : Within (engineReg f) f s₀ (Machine.setAcq s f p st) :=
  h.setAcq hf (engineReg_lane hp) (engineReg_lane hp)

theorem Within.enterDetect (h : Within (engineReg f) f s₀ s) (hf : f < 16) (hp : p < 9) : Within (engineReg f) f s₀ (enterDetect s f p) :=
  ((h.enterState hf hp).wrOwn (LANE_CLIP_COUNT f p) (engineReg_lane hp)).wrOwn (LANE_ACQ_CTRL f p) (engineReg_lane hp)

theorem Within.enterSearch (h : Within (engineReg f) f s₀ s) (hf : f < 16) (hp : p < 9) : Within (engineReg f) f s₀ (enterSearch s f p) :=
  (h.enterState hf hp).setLane

theorem Within.laneEvent (h : Within (engineReg f) f s₀ s) {b a0 : Nat} {x : Fld} (hp : p < 9) (hx : x.addr = LANE_EVENTS f p := by rfl) :
    Within (engineReg f) f s₀ (laneEvent s f p b a0 x) := h.stickyEvent (by rw [hx]; exact engineReg_lane hp)

theorem Within.lossRecord (h : Within (engineReg f) f s₀ s) {cause : Nat} (hf : f < 16) (hp : p < 9) :
    Within (engineReg f) f s₀ (lossRecord s f p cause) := by
  unfold Machine.lossRecord
  extract_lets w t t1 t2 l t3 y
  have ht2 : Within (engineReg f) f s₀ t2 :=
    ((h.wrOwn (LANE_ACQ_STATUS f p) (engineReg_lane hp)).laneEvent hp (lossField_addr f p cause)).laneDrops hf hp
  have ht3 : Within (engineReg f) f s₀ t3 := .ite (ht2.wrOwn (LANE_ACQ_STATUS f p) (engineReg_lane hp)).setLane ht2
  exact ht3.setLane

theorem Within.lossEnter (h : Within (engineReg f) f s₀ s) {dest : Nat} (hf : f < 16) (hp : p < 9) :
    Within (engineReg f) f s₀ (lossEnter s f p dest) := by
  unfold Machine.lossEnter
  extract_lets t u
  have ht : Within (engineReg f) f s₀ t := .ite (h.enterDetect hf hp) (h.enterState hf hp)
  have hu : Within (engineReg f) f s₀ u := .ite ht (ht.wrOwn (LANE_ACQ_STATUS f p) (engineReg_lane hp))
  exact (hu.effortE0 hf (engineReg_lane hp)).laneOutEval

theorem Within.laneLossCore (h : Within (engineReg f) f s₀ s) {cause : Nat} (hf : f < 16) (hp : p < 9) :
    Within (engineReg f) f s₀ (laneLossCore s f p cause) := by
  rw [laneLossCore_eq]
  exact (h.lossRecord hf hp).lossEnter hf hp

/-- A lane that serves no sealing handshake ends none with its lock. -/
theorem laneLoss_core {cause : Nat} (hf : f < 16) (hp : p < 9) (hc : cause < 16) (hs : p = 8 → s.rd (SEAL_STATUS_HS_STATE f) = 0) :
    laneLoss s f p cause = laneLossCore s f p cause := by
  unfold laneLoss
  refine if_neg ?_
  rintro ⟨h8, hn⟩
  rw [(laneLossCore_shown s hf hp hc).sealing] at hn
  exact hn (hs h8)

theorem laneLoss_shown {cause : Nat} (hf : f < 16) (hp : p < 9) (hc : cause < 16) (hs : p = 8 → s.rd (SEAL_STATUS_HS_STATE f) = 0) :
    LossShown s (laneLoss s f p cause) f p cause := by
  rw [laneLoss_core hf hp hc hs]
  exact laneLossCore_shown s hf hp hc

theorem Within.laneLoss (h : Within (engineReg f) f s₀ s) {cause : Nat} (hf : f < 16) (hp : p < 9) (hc : cause < 16)
    (hs : p = 8 → s.rd (SEAL_STATUS_HS_STATE f) = 0) : Within (engineReg f) f s₀ (laneLoss s f p cause) := by
  rw [laneLoss_core hf hp hc hs]
  exact h.laneLossCore hf hp

/-! ## Measurements -/

/-- The registers in which a lane's measurements show (R86, R87, R101). -/
def measureReg (f p a : Nat) : Bool := a == LANE_AGC f p || a == LANE_POWER f p || a == LANE_CLIP_COUNT f p

theorem Within.engine {t : State} (h : Within (measureReg f p) f s t) (hp : p < 9) : Within (engineReg f) f s t := by
  refine h.mono fun a ha => ?_
  rw [Bool.eq_false_iff]
  intro e
  simp only [measureReg, Bool.or_eq_true, beq_iff_eq] at e
  rcases e with (rfl | rfl) | rfl <;> rw [engineReg_lane hp] at ha <;> cases ha

theorem Within.sealing {t : State} (h : Within (measureReg f p) f s t) (hf : f < 16) (hp : p < 9) :
    t.rd (SEAL_STATUS_HS_STATE f) = s.rd (SEAL_STATUS_HS_STATE f) := by
  refine h.rd (x := SEAL_STATUS_HS_STATE f) (sideReg_engine (engineReg_seal f) hf) ?_
  simp only [measureReg, Bool.or_eq_false_iff, beq_eq_false_iff_ne]
  exact ⟨⟨seal_ne_lane hp, seal_ne_lane hp⟩, seal_ne_lane hp⟩

theorem Within.setGain (h : Within (measureReg f p) f s₀ s) {g : Nat} : Within (measureReg f p) f s₀ (setGain s f p g) :=
  .ite h ((h.wrOwn (LANE_AGC f p) (by simp [measureReg])).wrOwn (LANE_AGC f p) (by simp [measureReg]))

/-! ## The commands that end a lock (R99) -/

/-- RELOCK where RELOCK_EN allows it and the power is near that of the lock, else SETTLE (R102). -/
def lossRelocks (s : State) (f p : Nat) : Nat := if s.on (LANE_ACQ_CTRL_RELOCK_EN f p) ∧ powerNearLock s f p then 8 else 2

theorem lossEnters_relock {cause : Nat} (h : cause = 2 ∨ cause = 3 ∨ cause = 6) : lossEnters s f p cause = lossRelocks s f p := by
  rcases h with rfl | rfl | rfl <;> simp [lossEnters, lossRelocks]

theorem powerNearLock_of {t : State} (hn : t.rd (LANE_POWER_P_NOW f p) = s.rd (LANE_POWER_P_NOW f p))
    (hl : t.rd (LANE_POWER_P_LOCK f p) = s.rd (LANE_POWER_P_LOCK f p)) : powerNearLock t f p = powerNearLock s f p := by
  simp only [powerNearLock, hn, hl]

theorem lossRelocks_of {t : State} (he : t.rd (LANE_ACQ_CTRL_RELOCK_EN f p) = s.rd (LANE_ACQ_CTRL_RELOCK_EN f p))
    (hn : t.rd (LANE_POWER_P_NOW f p) = s.rd (LANE_POWER_P_NOW f p)) (hl : t.rd (LANE_POWER_P_LOCK f p) = s.rd (LANE_POWER_P_LOCK f p)) :
    lossRelocks t f p = lossRelocks s f p := by
  unfold lossRelocks
  rw [powerNearLock_of hn hl, State.on, he, ← State.on]

theorem setGain_rd {x : Fld} {g : Nat} (ha : x.addr ≠ LANE_AGC f p := by simp) : (setGain s f p g).rd x = s.rd x := by
  unfold setGain
  split
  · rfl
  · simp only [State.wrs_cons, State.wrs_nil]
    rw [State.rd_wr_addr _ _ _ _ ha, State.rd_wr_addr _ _ _ _ ha]

/-- The gain in force after a measurement (R85, R86). -/
theorem setGain_gain {g : Nat} (h0 : s.rd (LANE_ACQ_STATUS_STATE f p) ≠ 0) (hg : g < 128) :
    (setGain s f p g).rd (LANE_AGC_GAIN f p) = gainNow s f p g := by
  unfold setGain gainNow
  by_cases hz : s.on (LANE_AGC_FROZEN f p) = true
  · rw [if_pos (.inr hz), if_pos hz]
  · rw [if_neg (by simp [h0, hz]), if_neg hz]
    simpa [State.rd_wr_apart, State.rd_wr_same] using hg

end
end Sys2Proof.Machine

namespace Sys2Proof.Machine
open Sys2Proof Sys2Proof.Laws

set_option Elab.async false

section
variable {f : Fin 16} {p : Fin 9} {s : State}

/-- In LOCKED the engine is in none of the states of a window. -/
theorem acqIn_other {st st' : Nat} (h : acqIn s f p st = true) (hn : st ≠ st') : acqIn s f p st' = false := by
  simp only [acqIn, (acqIn_alive h).2, Bool.and_eq_false_iff, beq_eq_false_iff_ne]
  exact .inr hn

theorem los_lost (hs : (p : Nat) = 8 → s.rd (SEAL_STATUS_HS_STATE f) = 0) (h : acqIn s f p 7 = true) :
    Completes (.los f p) s fun t => t.rd (LANE_ACQ_STATUS_LAST_LOSS f p) = 1 ∧ t.rd (LANE_ACQ_STATUS_STATE f p) = 1 ∧
      t.on (LANE_EVENTS_LOS f p) = true ∧ t.rd (LANE_EFFORT_CURRENT f p) = 0 ∧ t.rd (LANE_CLIP_COUNT_CLIPS f p) = 0 := by
  have k := laneLoss_shown (cause := 1) f.isLt p.isLt (by decide) hs
  exact completes_guardS rfl h ⟨k.lastLoss, k.state, k.event, k.effort, (k.detect rfl).1⟩

theorem decFail_lost (hs : (p : Nat) = 8 → s.rd (SEAL_STATUS_HS_STATE f) = 0) (h : acqIn s f p 7 = true) :
    Completes (.decFail f p) s fun t => t.rd (LANE_ACQ_STATUS_LAST_LOSS f p) = 3 ∧ t.on (LANE_EVENTS_DEC_FAIL f p) = true ∧
      t.rd (LANE_ACQ_STATUS_STATE f p) = lossRelocks s f p := by
  have k := laneLoss_shown (cause := 3) f.isLt p.isLt (by decide) hs
  exact completes_guardS rfl h ⟨k.lastLoss, k.event, k.state.trans (lossEnters_relock (by decide))⟩

theorem amLoss_lost (hs : (p : Nat) = 8 → s.rd (SEAL_STATUS_HS_STATE f) = 0) (h : acqIn s f p 7 = true) (hm : patternMode s f p = false) :
    Completes (.amLoss f p) s fun t => t.rd (LANE_ACQ_STATUS_LAST_LOSS f p) = 2 ∧ t.on (LANE_EVENTS_AM_LOSS f p) = true ∧
      t.rd (LANE_ACQ_STATUS_STATE f p) = lossRelocks s f p := by
  have k := laneLoss_shown (cause := 2) f.isLt p.isLt (by decide) hs
  exact completes_guardS rfl (by rw [h, hm]; rfl) ⟨k.lastLoss, k.event, k.state.trans (lossEnters_relock (by decide))⟩

/-- The third marker in a row that misses the lock's phase (R152). -/
theorem alignmentMarker_lost (hs : (p : Nat) = 8 → s.rd (SEAL_STATUS_HS_STATE f) = 0) (h : acqIn s f p 7 = true) (hm : patternMode s f p = false)
    (h2 : 2 ≤ (s.lane f p).amMisses) {e : Nat} {inv : Bool} {m : Marker} (hx : 2 < e ∨ (s.lane f p).amPhase ≠ m.phase) :
    Completes (.alignmentMarker f p e inv m) s fun t =>
      t.rd (LANE_ACQ_STATUS_LAST_LOSS f p) = 2 ∧ t.on (LANE_EVENTS_AM_LOSS f p) = true := by
  have k := laneLoss_shown (cause := 2) f.isLt p.isLt (by decide) hs
  have hfound : (decide (e ≤ 2) && (s.lane f p).amPhase == m.phase) = false := by
    rcases hx with hx | hx
    · simp [hx]
    · simp [hx]
  have e1 : exec (.alignmentMarker f p e inv m) s = .next (laneLoss s f p 2) := by
    change execAlignmentMarker f p e inv m s = _
    simp only [execAlignmentMarker, acqIn_other h (by decide : 7 ≠ 6), acqIn_other h (by decide : 7 ≠ 8), h, hfound, hm, Bool.false_and,
      Bool.or_self, Bool.false_eq_true, if_false, if_true, if_pos (by omega : 3 ≤ (s.lane f p).amMisses + 1)]
  exact ⟨_, e1, k.lastLoss, k.event⟩

/-- The timing loop's limit shows in its datapath; the loss is that of the lane as it was (R121). -/
theorem timingLoss_lost (hs : (p : Nat) = 8 → s.rd (SEAL_STATUS_HS_STATE f) = 0) (h : acqIn s f p 7 = true) (interp : Bool) (freq : BitVec 16)
    (phase : BitVec 8) : Completes (.timingLoss f p interp freq phase) s fun t =>
      t.rd (LANE_ACQ_STATUS_LAST_LOSS f p) = 6 ∧ t.on (LANE_EVENTS_TIMING f p) = true ∧ t.rd (LANE_ACQ_STATUS_STATE f p) = lossRelocks s f p := by
  refine completes_guardS rfl h ?_
  extract_lets d u
  have hd : d < 16 := laneDp_lt s f p
  have hu : Within (fun _ => false) f s u := .ite (.refl s) ((Within.refl s).wrs (TR_STATUS f d) (sideReg_rxd hd) (by cases interp <;> simp))
  have keep {x : Fld} (hx : engineReg f x.addr = true) : u.rd x = s.rd x := hu.rdEngine f.isLt hx
  have k := laneLoss_shown (s := u) (cause := 6) f.isLt p.isLt (by decide) fun e =>
    (keep (x := SEAL_STATUS_HS_STATE f) (engineReg_seal f)).trans (hs e)
  refine ⟨k.lastLoss, k.event, k.state.trans ((lossEnters_relock (by decide)).trans (lossRelocks_of ?_ ?_ ?_))⟩
  all_goals exact keep (engineReg_lane p.isLt)

theorem powerBlock_lost (hs : (p : Nat) = 8 → s.rd (SEAL_STATUS_HS_STATE f) = 0) (h : acqIn s f p 7 = true) {sumSq n : Nat} {gain : BitVec 7}
    (hen : s.on (LANE_ACQ_CTRL_STEP_EN f p) = true)
    (hst : powerStep (s.lane f p).blocks (clampI (-32767) 32767 (powerIn sumSq n (gainNow s f p gain.toNat))) = true) :
    Completes (.powerBlock f p sumSq n gain) s fun t => t.rd (LANE_ACQ_STATUS_LAST_LOSS f p) = 4 ∧ t.rd (LANE_ACQ_STATUS_STATE f p) = 2 ∧
      t.on (LANE_EVENTS_STEP f p) = true := by
  obtain ⟨ha, h7⟩ := acqIn_alive h
  have h0 : s.rd (LANE_ACQ_STATUS_STATE f p) ≠ 0 := by rw [h7]; decide
  refine completes_guardS rfl (by simp [ha, h0]) ?_
  extract_lets x t power v rise step t1 l t2 t3
  have hr : rise = true := by
    simp only [rise, v, power, x, t, setGain_gain h0 gain.isLt, hst, h7]
    rfl
  have hstep : step = true := by
    simp only [step, hr, Bool.true_and, State.on, t]
    rw [setGain_rd]
    exact hen
  rw [if_pos hstep]
  have ht2 : Within (measureReg f p) f s t2 := ((Within.refl s).setGain.wrOwn (LANE_POWER f p) (by simp [measureReg])).setLane
  have ht3 : Within (measureReg f p) f s t3 := .ite (ht2.rotationAbandon f.isLt) ht2
  have k := laneLoss_shown (s := t3) (cause := 4) f.isLt p.isLt (by decide) fun e => (ht3.sealing f.isLt p.isLt).trans (hs e)
  exact ⟨k.lastLoss, k.state, k.event⟩

theorem clipWindow_lost (hs : (p : Nat) = 8 → s.rd (SEAL_STATUS_HS_STATE f) = 0) (h : acqIn s f p 7 = true) {clipped samples : Nat}
    (hen : s.on (LANE_ACQ_CTRL_CLIP_EN f p) = true) (hc : samples < clipped * 8192) :
    Completes (.clipWindow f p clipped samples) s fun t => t.rd (LANE_ACQ_STATUS_LAST_LOSS f p) = 5 ∧ t.rd (LANE_ACQ_STATUS_STATE f p) = 2 ∧
      t.on (LANE_EVENTS_CLIP f p) = true := by
  obtain ⟨ha, h7⟩ := acqIn_alive h
  refine completes_guardS rfl (by simp [ha, h7]) ?_
  extract_lets t
  have hcond : (s.rd (LANE_ACQ_STATUS_STATE f p) == 7 && t.on (LANE_ACQ_CTRL_CLIP_EN f p) && clipLoss clipped samples) = true := by
    have : t.on (LANE_ACQ_CTRL_CLIP_EN f p) = true := (State.on_wr_addr _ _ _ _ (by simp)).trans hen
    simp [h7, this, clipLoss, hc]
  rw [if_pos hcond]
  have ht : Within (measureReg f p) f s t := (Within.refl s).wrOwn (LANE_CLIP_COUNT f p) (by simp [measureReg])
  have k := laneLoss_shown (s := t) (cause := 5) f.isLt p.isLt (by decide) fun e => (ht.sealing f.isLt p.isLt).trans (hs e)
  exact ⟨k.lastLoss, k.state, k.event⟩

end
end Sys2Proof.Machine

namespace Sys2Proof.Machine
open Sys2Proof Sys2Proof.Laws

set_option Elab.async false

/-! ## The writes of LANE_ACQ_CTRL: RESTART and MODE_EN (R98, R99) -/

theorem land_lt_sixteen (v m : Nat) : Nat.land (v % 16) m < 16 :=
  lt_of_le_of_lt (Nat.and_le_left (n := v % 16) (m := m)) (Nat.mod_lt _ (by decide))

theorem land_land_self (v m : Nat) : Nat.land (Nat.land v m) m = Nat.land v m := by
  change (v &&& m) &&& m = v &&& m
  rw [Nat.and_assoc, Nat.and_self]

section
variable {f p : Nat} {s t : State}

/-- A plain write leaves every other register alone. -/
theorem plainWrite_rd {d : RegDesc} {a v : Nat} {x : Fld} (h : x.addr ≠ a) : (plainWrite s d a v).rd x = s.rd x := by
  simp only [State.rd, plainWrite, State.reg_setReg_other _ _ h]

/-- LANE_ACQ_CTRL takes its plain fields and keeps MODE_EN. -/
def ctrlTaken (s : State) (d : RegDesc) (f p v : Nat) : State :=
  (plainWrite s d (LANE_ACQ_CTRL f p) v).wr (LANE_ACQ_CTRL_MODE_EN f p) (s.rd (LANE_ACQ_CTRL_MODE_EN f p))

theorem ctrlTaken_rd {d : RegDesc} {v : Nat} {x : Fld} (h : x.addr ≠ LANE_ACQ_CTRL f p) : (ctrlTaken s d f p v).rd x = s.rd x :=
  (State.rd_wr_addr _ _ _ _ h).trans (plainWrite_rd h)

theorem ctrlTaken_modes {d : RegDesc} {v : Nat} : (ctrlTaken s d f p v).rd (LANE_ACQ_CTRL_MODE_EN f p) = s.rd (LANE_ACQ_CTRL_MODE_EN f p) := by
  rw [ctrlTaken, State.rd_wr_same _ _ _ (by simp)]
  exact Nat.mod_eq_of_lt (State.rd_lt s _)

theorem ctrlTaken_within {d : RegDesc} {v : Nat} (hp : p < 9) : Within (engineReg f) f s (ctrlTaken s d f p v) :=
  (show Within (engineReg f) f s (plainWrite s d (LANE_ACQ_CTRL f p) v) from (Within.refl s).setReg (.inr (engineReg_lane (o := 0) hp))).wrOwn
    (LANE_ACQ_CTRL f p) (engineReg_lane hp)

/-- What a change of MODE_EN to the modes `m` of the face shows (R31, R98). -/
structure ModesShown (s t : State) (f p m : Nat) : Prop where
  within : Within (engineReg f) f s t
  modes : t.rd (LANE_ACQ_CTRL_MODE_EN f p) = m
  state : s.rd (LANE_ACQ_STATUS_STATE f p) ≠ 0 → t.rd (LANE_ACQ_STATUS_STATE f p) ≠ 0
  sealing : t.rd (SEAL_STATUS_HS_STATE f) = s.rd (SEAL_STATUS_HS_STATE f)
  lost : m ≠ s.rd (LANE_ACQ_CTRL_MODE_EN f p) → s.rd (LANE_ACQ_STATUS_STATE f p) = 7 → nbit m (s.rd (LANE_ACQ_STATUS_MODE f p) - 1) = false →
    s.rd (SEAL_STATUS_HS_STATE f) = 0 → t.rd (LANE_ACQ_STATUS_LAST_LOSS f p) = 8 ∧ t.rd (LANE_ACQ_STATUS_STATE f p) = 2

theorem modeEnEff_shown {m : Nat} (hf : f < 16) (hp : p < 9) (hm : Nat.land m (faceModes s f) = m) (h16 : m < 16) :
    ModesShown s (modeEnEff s f p m) f p m := by
  have hx {x : Fld} (h : x.addr ≠ LANE_ACQ_CTRL f p) : (s.wr (LANE_ACQ_CTRL_MODE_EN f p) m).rd x = s.rd x := State.rd_wr_addr _ _ _ _ h
  have hmode : (s.wr (LANE_ACQ_CTRL_MODE_EN f p) m).rd (LANE_ACQ_CTRL_MODE_EN f p) = m := by
    rw [State.rd_wr_same _ _ _ (by simp)]
    exact Nat.mod_eq_of_lt h16
  have hseal := hx (x := SEAL_STATUS_HS_STATE f) (seal_ne_lane (o := 0) hp)
  have hstate := hx (x := LANE_ACQ_STATUS_STATE f p) (by simp)
  have hlocked := hx (x := LANE_ACQ_STATUS_MODE f p) (by simp)
  have hw : Within (engineReg f) f s (s.wr (LANE_ACQ_CTRL_MODE_EN f p) m) := (Within.refl s).wrOwn (LANE_ACQ_CTRL f p) (engineReg_lane hp)
  have hrem : modeRemoved (s.wr (LANE_ACQ_CTRL_MODE_EN f p) m) f p =
      (s.rd (LANE_ACQ_STATUS_STATE f p) == 7 && !nbit m (s.rd (LANE_ACQ_STATUS_MODE f p) - 1)) := by
    have hfm : faceModes (s.wr (LANE_ACQ_CTRL_MODE_EN f p) m) f = faceModes s f := rfl
    simp only [modeRemoved, searchModes, hstate, hlocked, hmode, hfm, hm]
  unfold modeEnEff
  rw [hm]
  generalize s.wr (LANE_ACQ_CTRL_MODE_EN f p) m = u at hmode hseal hstate hw hrem
  dsimp only
  split
  · rename_i hc
    have hs : p = 8 → u.rd (SEAL_STATUS_HS_STATE f) = 0 := fun _ => hc.1
    have k := laneLoss_shown (cause := 8) hf hp (by decide) hs
    exact ⟨hw.laneLoss hf hp (by decide) hs, k.modes.trans hmode, fun _ => by rw [k.state]; exact two_ne_zero, k.sealing.trans hseal,
      fun _ _ _ _ => ⟨k.lastLoss, k.state⟩⟩
  · rename_i hc
    refine ⟨hw, hmode, fun h => by rwa [hstate], hseal, fun _ h7 hn h0 => absurd ⟨hseal.trans h0, ?_⟩ hc⟩
    rw [hrem, h7, hn]
    rfl

/-- The MODE_EN part of a write: nothing more where the modes are as before. -/
theorem acqCtrl_modes {d : RegDesc} {v m : Nat} (hf : f < 16) (hp : p < 9) (hm : Nat.land m (faceModes s f) = m) (h16 : m < 16) :
    ModesShown s (if m = s.rd (LANE_ACQ_CTRL_MODE_EN f p) then ctrlTaken s d f p v else modeEnEff (ctrlTaken s d f p v) f p m) f p m := by
  have hw := ctrlTaken_within (s := s) (f := f) (d := d) (v := v) hp
  have hx {x : Fld} (h : x.addr ≠ LANE_ACQ_CTRL f p) := ctrlTaken_rd (s := s) (d := d) (v := v) h
  have hseal := hx (x := SEAL_STATUS_HS_STATE f) (seal_ne_lane (o := 0) hp)
  have hstate := hx (x := LANE_ACQ_STATUS_STATE f p) (by simp)
  have hlocked := hx (x := LANE_ACQ_STATUS_MODE f p) (by simp)
  have hmodes := ctrlTaken_modes (s := s) (f := f) (p := p) (d := d) (v := v)
  have hfm : faceModes (ctrlTaken s d f p v) f = faceModes s f := rfl
  generalize ctrlTaken s d f p v = t at hw hseal hstate hlocked hmodes hfm
  split
  · rename_i e
    exact ⟨hw, hmodes.trans e.symm, fun h => by rwa [hstate], hseal, fun hn => absurd e hn⟩
  · have k := modeEnEff_shown (s := t) hf hp (by rwa [hfm]) h16
    refine ⟨hw.trans k.within, k.modes, fun h => k.state (by rwa [hstate]), k.sealing.trans hseal, fun hn h7 hb h0 => ?_⟩
    exact k.lost (by rwa [hmodes]) (hstate.trans h7) (by rwa [hlocked]) (hseal.trans h0)

end

/-! ## The value that an action writes (R325) -/

/-- The fields that a write may set, as they stand in a word. -/
def rwWord (d : RegDesc) (r : Word) : Word :=
  (d.flds.filter fun f => f.acc == .rw).foldl (fun w f => fieldSet w f.lo f.width (fieldGet r f.lo f.width)) 0

theorem actionValue_desc (s : State) {a : Nat} {d : RegDesc} {idx : List Nat} (b : Nat) (h : descOf a = some (d, idx)) :
    actionValue s a b = (rwWord d (s.reg a)).toNat + 2 ^ b := by
  simp only [actionValue, h, rwWord]

/-- A word whose upper bit is clear. -/
theorem toNat_lt_of_bit31 {w : Word} (h : fieldGet w 31 1 = 0) : w.toNat < 2 ^ 31 := by
  have := w.isLt
  simp only [fieldGet] at h
  omega

theorem rwWord_acqCtrl (r : Word) : ∃ w, rwWord acqCtrlDesc r = w ∧ w.toNat < 2 ^ 31 ∧ w.toNat % 16 = fieldGet r 0 4 := by
  have e : rwWord acqCtrlDesc r = fieldSet (fieldSet (fieldSet (fieldSet 0 11 1 (fieldGet r 11 1)) 10 1 (fieldGet r 10 1)) 9 1 (fieldGet r 9 1)) 0 4
    (fieldGet r 0 4) := rfl
  refine ⟨_, e, toNat_lt_of_bit31 ?_, ?_⟩
  · rw [fieldGet_set_other _ _ _ _ _ _ (by decide) (by decide), fieldGet_set_other _ _ _ _ _ _ (by decide) (by decide),
      fieldGet_set_other _ _ _ _ _ _ (by decide) (by decide), fieldGet_set_other _ _ _ _ _ _ (by decide) (by decide)]
    rfl
  · generalize fieldSet (fieldSet (fieldSet 0 11 1 (fieldGet r 11 1)) 10 1 (fieldGet r 10 1)) 9 1 (fieldGet r 9 1) = w
    have h := fieldGet_set_same w 0 4 (fieldGet r 0 4) (by decide)
    have h4 : fieldGet r 0 4 < 16 := Nat.mod_lt _ (by decide)
    simp only [fieldGet, pow_zero, Nat.div_one] at h h4 ⊢
    omega

/-! ## The commands -/

section
variable {f : Fin 16} {p : Fin 9} {s : State}

/-- A write of LANE_ACQ_CTRL whose MODE_EN leaves a mode of the face. -/
theorem acqCtrlEff_modes {v m : Nat} (hm : m = Nat.land (v % 16) (faceModes s f)) (h0 : m ≠ 0) :
    ∃ u, ModesShown s u f p m ∧ acqCtrlEff s acqCtrlDesc f p v = (if nbit v 31 then restartEff u f p else u, stOk) := by
  subst hm
  refine ⟨_, acqCtrl_modes (d := acqCtrlDesc) (v := v) f.isLt p.isLt (land_land_self _ _) (land_lt_sixteen v _), ?_⟩
  exact if_neg h0

theorem directStart_faceModes (s : State) (f : Nat) : faceModes (directStart s) f = faceModes s f := by
  rw [directStart_rest]
  rfl

theorem regEffect_acqCtrl (s : State) (z : Bool) (a v : Nat) : regEffect s z acqCtrlDesc [f.val, p.val] a v = acqCtrlEff s acqCtrlDesc f p v := rfl

/-- MODE_EN with a mode of the face (R98). -/
theorem modeEn_taken {v : Word} (hr : Reaches s (LANE_ACQ_CTRL f p)) (h0 : Nat.land (v.toNat % 16) (faceModes s f) ≠ 0) (h31 : v.toNat < 2 ^ 31) :
    Completes (.modeEn f p v) s fun t => t.busStatus = stOk ∧
      t.rd (LANE_ACQ_CTRL_MODE_EN f p) = Nat.land (v.toNat % 16) (faceModes s f) ∧
      (s.rd (LANE_ACQ_STATUS_STATE f p) = 7 → Nat.land (v.toNat % 16) (faceModes s f) ≠ s.rd (LANE_ACQ_CTRL_MODE_EN f p) →
        nbit (Nat.land (v.toNat % 16) (faceModes s f)) (s.rd (LANE_ACQ_STATUS_MODE f p) - 1) = false → s.rd (SEAL_STATUS_HS_STATE f) = 0 →
        t.rd (LANE_ACQ_STATUS_LAST_LOSS f p) = 8 ∧ t.rd (LANE_ACQ_STATUS_STATE f p) = 2) := by
  obtain ⟨u, hu, e⟩ := acqCtrlEff_modes (p := p) (s := directStart s) (v := v.toNat) (m := Nat.land (v.toNat % 16) (faceModes s f))
    (by rw [directStart_faceModes]) h0
  have hn : nbit v.toNat 31 = false := by rw [nbit, Nat.div_eq_of_lt h31]; rfl
  rw [hn] at e
  refine ⟨_, regWriteOut_plain (plainAt_acqCtrl f p) hr ?_ (hu.within.defer.trans (directStart_stage s).2.1), written_busStatus _ _, hu.modes, ?_⟩
  · rw [Nat.mod_eq_of_lt v.isLt, regEffect_acqCtrl, e]
    rfl
  · intro h7 hne hb hs
    have := hu.lost
    simp only [directStart_rd] at this
    exact this hne h7 hb hs

/-- MODE_EN without a mode of the face. -/
theorem modeEn_refused {v : Word} (hr : Reaches s (LANE_ACQ_CTRL f p)) (h0 : Nat.land (v.toNat % 16) (faceModes s f) = 0) :
    Completes (.modeEn f p v) s fun t => t.busStatus = stRange ∧ RegsKept (fun _ => false) s t := by
  have e : acqCtrlEff (directStart s) acqCtrlDesc f p v.toNat = (directStart s, stRange) := by
    unfold acqCtrlEff
    rw [directStart_faceModes]
    exact if_pos h0
  refine ⟨_, regWriteOut_plain (plainAt_acqCtrl f p) hr ?_ (directStart_stage s).2.1, written_busStatus _ _, fun a _ => ?_⟩
  · rw [Nat.mod_eq_of_lt v.isLt, regEffect_acqCtrl, e]
  · rw [written_reg, (directStart_stage s).2.2]

/-- The write that sets RESTART: within its word, with the bit, and MODE_EN as it stands. -/
theorem actionValue_restart (s : State) : ∃ v < 2 ^ 32, actionValue s (LANE_ACQ_CTRL f p) 31 = v ∧ nbit v 31 = true ∧
    v % 16 = s.rd (LANE_ACQ_CTRL_MODE_EN f p) := by
  obtain ⟨w, hw, h31, hm⟩ := rwWord_acqCtrl (s.reg (LANE_ACQ_CTRL f p))
  refine ⟨w.toNat + 2 ^ 31, by omega, ?_, ?_, ?_⟩
  · rw [actionValue_desc s 31 (plainAt_acqCtrl f p).desc, hw]
  · rw [nbit, show (w.toNat + 2 ^ 31) / 2 ^ 31 = 1 by omega]
    rfl
  · rw [State.rd, ← hm]
    omega

/-- RESTART in every state but OFF (R99; log 67). -/
theorem restart_lost (hs : (p : Nat) = 8 → s.rd (SEAL_STATUS_HS_STATE f) = 0) (hr : Reaches s (LANE_ACQ_CTRL f p))
    (hst : s.rd (LANE_ACQ_STATUS_STATE f p) ≠ 0) (h0 : Nat.land (s.rd (LANE_ACQ_CTRL_MODE_EN f p)) (faceModes s f) ≠ 0) :
    Completes (.restart f p) s fun t => t.busStatus = stOk ∧ t.rd (LANE_ACQ_STATUS_LAST_LOSS f p) = 7 ∧ t.rd (LANE_ACQ_STATUS_STATE f p) = 1 ∧
      t.on (LANE_EVENTS_RESTART f p) = true ∧ t.on (LANE_ACQ_CTRL_RESTART f p) = false := by
  obtain ⟨v, hv, he, hn, h16⟩ := actionValue_restart (f := f) (p := p) s
  obtain ⟨u, hu, e⟩ := acqCtrlEff_modes (p := p) (s := directStart s) (v := v)
    (m := Nat.land (s.rd (LANE_ACQ_CTRL_MODE_EN f p)) (faceModes s f)) (by rw [directStart_faceModes, h16]) h0
  have hu0 : u.rd (LANE_ACQ_STATUS_STATE f p) ≠ 0 := hu.state (by rwa [directStart_rd])
  have hr1 : restartEff u f p = laneLoss (u.wr (LANE_ACQ_CTRL_RESTART f p) 1) f p 7 := if_neg hu0
  rw [hn, if_pos rfl, hr1] at e
  have hsu : (p : Nat) = 8 → (u.wr (LANE_ACQ_CTRL_RESTART f p) 1).rd (SEAL_STATUS_HS_STATE f) = 0 := fun h8 =>
    ((State.rd_wr_addr _ _ (SEAL_STATUS_HS_STATE f) _ (seal_ne_lane (o := 0) p.isLt)).trans hu.sealing).trans
      ((directStart_rd s _).trans (hs h8))
  have hwu : Within (engineReg f) f (directStart s) (u.wr (LANE_ACQ_CTRL_RESTART f p) 1) :=
    hu.within.wrOwn (LANE_ACQ_CTRL f p) (engineReg_lane p.isLt)
  have k := laneLoss_shown (cause := 7) f.isLt p.isLt (by decide) hsu
  refine ⟨_, ?_, written_busStatus _ _, k.lastLoss, k.state, k.event, (k.detect rfl).2⟩
  change regWriteOut s (LANE_ACQ_CTRL f p) (actionValue s (LANE_ACQ_CTRL f p) 31) = _
  rw [he]
  refine regWriteOut_plain (plainAt_acqCtrl f p) hr ?_ ((hwu.laneLoss f.isLt p.isLt (by decide) hsu).defer.trans (directStart_stage s).2.1)
  rw [Nat.mod_eq_of_lt hv, regEffect_acqCtrl, e]

end

/-- Settles O12: each cause through what a loss shows, RESTART and MODE_EN through the write of their register. -/
theorem laneLosses : Obligations.LaneLosses := by
  unfold Obligations.LaneLosses
  intro f p s h8
  have hs : (p : Nat) = 8 → s.rd (SEAL_STATUS_HS_STATE f) = 0 := fun e => h8 (Fin.ext e)
  refine ⟨fun h => ⟨los_lost hs h, decFail_lost hs h, amLoss_lost hs h, fun hm h2 e inv m hx => alignmentMarker_lost hs h hm h2 hx,
    timingLoss_lost hs h, fun _ _ _ => powerBlock_lost hs h, fun _ _ => clipWindow_lost hs h⟩, restart_lost hs,
    fun v hr => ⟨modeEn_taken hr, modeEn_refused hr⟩⟩

end Sys2Proof.Machine

namespace Sys2Proof.Machine
open Sys2Proof Sys2Proof.Laws

set_option Elab.async false

/-! # The frame of acquisition (O14)

Each command of the engine is a composition of steps that stay within the engine's registers and those beside them. -/

section
variable {f p : Nat} {s₀ s : State}

theorem Within.nextCand (h : Within (engineReg f) f s₀ s) (hf : f < 16) (hp : p < 9) : Within (engineReg f) f s₀ (nextCand s f p) := by
  cases hc : (s.lane f p).cands with
  | nil =>
    rw [nextCand_nil s hc]
    exact (h.wrOwn (LANE_ACQ_STATUS f p) (engineReg_lane hp)).enterSearch hf hp
  | cons c cs =>
    obtain ⟨x, k⟩ := nextCand_cons s hc
    exact (((h.setLane.enterState hf hp).wrOwn (LANE_ACQ_STATUS f p) (engineReg_lane hp)).wrOwn (LANE_ACQ_STATUS f p) (engineReg_lane hp)).trans k

theorem Within.relockFailed (h : Within (engineReg f) f s₀ s) (hf : f < 16) (hp : p < 9) : Within (engineReg f) f s₀ (relockFailed s f p) :=
  ((h.setLane.enterState hf hp).wrOwn (LANE_ACQ_STATUS f p) (engineReg_lane hp)).laneOutEval

theorem Within.enterLocked (h : Within (engineReg f) f s₀ s) (hf : f < 16) (hp : p < 9) : Within (engineReg f) f s₀ (enterLocked s f p) := by
  conv in Machine.enterLocked => delta Machine.enterLocked
  extract_lets mode t x t1 t2 t3 t4 t5
  have ht1 : Within (engineReg f) f s₀ t1 :=
    (((h.enterState hf hp).wrOwn (LANE_POWER f p) (engineReg_lane hp)).wrOwn (LANE_ACQ_TIME f p) (engineReg_lane hp)).wrOwn (LANE_ACQ_STATUS f p)
      (engineReg_lane hp)
  have ht2 : Within (engineReg f) f s₀ t2 := by
    unfold t2
    split
    · rename_i n hn
      exact .ite (ht1.wr (PORT_STATUS n) (sideReg_port (portOfLane_some hn))) ht1
    · exact ht1
  have ht3 : Within (engineReg f) f s₀ t3 := ht2.foldl fun _ d hd hu => hu.qualReset (by have := laneDps_lt _ _ _ d hd; omega)
  exact (((ht3.setLane.laneEvent hp).calBootstrap hp).seamStart).laneOutEval

theorem Within.verifyEnd (h : Within (engineReg f) f s₀ s) {v : Verify} (hf : f < 16) (hp : p < 9) : Within (engineReg f) f s₀ (verifyEnd s f p v) :=
  .ite (h.takeAlign.enterLocked hf hp)
    (.ite (h.takeAlign.relockFailed hf hp) (((h.takeAlign.wrOwn (LANE_ACQ_STATUS f p) (engineReg_lane hp)).laneEvent hp).nextCand hf hp))

theorem Within.markerAlign (h : Within (engineReg f) f s₀ s) {inv : Bool} {phase : Nat} : Within (engineReg f) f s₀ (markerAlign s f p inv phase) :=
  .ite h.takeAlign h

theorem Within.markerLearn (h : Within (engineReg f) f s₀ s) {m : Marker} : Within (engineReg f) f s₀ (markerLearn s f p m) := by
  conv in Machine.markerLearn => delta Machine.markerLearn
  split
  · exact .ite h.setPort h
  · exact h

theorem Within.markerInWindow (h : Within (engineReg f) f s₀ s) {found : Bool} {phase : Nat} :
    Within (engineReg f) f s₀ (markerInWindow s f p found phase) := by
  unfold Machine.markerInWindow
  extract_lets x d run t
  have hd : d < 16 := laneDp_lt s f p
  exact .ite (.ite h.setLane (.ite (h.setLane.wr (CODE_STATUS f d) (sideReg_rxd hd)) h.setLane))
    (.ite (h.setLane.wr (CODE_STATUS f d) (sideReg_rxd hd)) h.setLane)

end

/-- The engine's frame, in the words of the obligation. -/
theorem Within.frame {f : Nat} {s t : State} (h : Within (engineReg f) f s t) :
    WordsKept (fun r => inFace f r || inPorts r || inRange 0x200000 0x400000 r || countReg r) s t ∧
      BytesKept (fun r i _ => r == 7 || (r == 5 && i == f)) s t ∧ RestKept s t := by
  refine ⟨fun a ha => ?_, h.bytes, h.rest⟩
  simp only [Bool.or_eq_false_iff] at ha
  obtain ⟨⟨⟨hface, hport⟩, hrange⟩, hcount⟩ := ha
  refine h.words a (by simp [sideReg, hface, hport, hrange, hcount]) (Bool.eq_false_iff.mpr fun he => ?_)
  simp only [engineReg, SEAL_STATUS, laneAt, faceAt, Bool.or_eq_true, Bool.and_eq_true, decide_eq_true_eq, beq_iff_eq] at he
  simp only [inFace, faceAt, Bool.or_eq_false_iff, Bool.and_eq_false_iff, decide_eq_false_iff_not] at hface
  omega

section
variable {f : Fin 16} {p : Fin 9} {s t : State}

/-- What a command of the engine leaves alone, when its outcome is read off. -/
theorem within_of_next {o : Out} {u : State} (e : o = .next t) (ho : o = .next u) (h : Within (engineReg f) f s u) : Within (engineReg f) f s t := by
  cases ho.symm.trans e
  exact h

theorem searchDwell_within {tones : List Tone} (e : execSearchDwell f p tones s = .next t) : Within (engineReg f) f s t := by
  refine within_of_next e rfl (Within.guardS (.refl s) ?_)
  dsimp only
  split
  · exact .ite ((Within.refl s).setLane.enterDetect f.isLt p.isLt) ((Within.refl s).setLane.enterSearch f.isLt p.isLt)
  · exact (Within.refl s).setLane.nextCand f.isLt p.isLt

theorem relockRestartEnd_within (e : execRelockRestartEnd f p s = .next t) : Within (engineReg f) f s t := by
  refine within_of_next e rfl (Within.guardS (.refl s) ?_)
  extract_lets l u d
  have hu : Within (engineReg f) f s u := (Within.refl s).setLane
  exact .ite hu (hu.softDrop.wrs (TR_STATUS f d) (sideReg_rxd (laneDp_lt u f p)))

theorem powerBlock_within (hs : (p : Nat) = 8 → s.rd (SEAL_STATUS_HS_STATE f) = 0) {sumSq n : Nat} {g : BitVec 7}
    (e : execPowerBlock f p sumSq n g s = .next t) : Within (engineReg f) f s t := by
  refine within_of_next e rfl (Within.guardS (.refl s) ?_)
  extract_lets x u power v rise step t1 l t2 t3
  have ht2 : Within (measureReg f p) f s t2 := ((Within.refl s).setGain.wrOwn (LANE_POWER f p) (by simp [measureReg])).setLane
  have ht3 : Within (measureReg f p) f s t3 := .ite (ht2.rotationAbandon f.isLt) ht2
  have he := ht3.engine p.isLt
  exact .ite (he.laneLoss f.isLt p.isLt (by decide) fun h8 => (ht3.sealing f.isLt p.isLt).trans (hs h8)) he

theorem clipWindow_within (hs : (p : Nat) = 8 → s.rd (SEAL_STATUS_HS_STATE f) = 0) {clipped samples : Nat}
    (e : execClipWindow f p clipped samples s = .next t) : Within (engineReg f) f s t := by
  refine within_of_next e rfl (Within.guardS (.refl s) ?_)
  extract_lets u
  have hu : Within (measureReg f p) f s u := (Within.refl s).wrOwn (LANE_CLIP_COUNT f p) (by simp [measureReg])
  have he := hu.engine p.isLt
  exact .ite (he.laneLoss f.isLt p.isLt (by decide) fun h8 => (hu.sealing f.isLt p.isLt).trans (hs h8)) he

theorem alignmentMarker_within (hs : (p : Nat) = 8 → s.rd (SEAL_STATUS_HS_STATE f) = 0) {errors : Nat} {inv : Bool} {m : Marker}
    (e : execAlignmentMarker f p errors inv m s = .next t) : Within (engineReg f) f s t := by
  refine within_of_next e rfl ?_
  extract_lets u
  have h0 : Within (engineReg f) f s s := .refl s
  exact .ite (.ite h0.markerInWindow.markerAlign h0.markerInWindow)
    (.ite (.ite h0.setLane.markerLearn (.ite h0 (.ite (h0.laneLoss f.isLt p.isLt (by decide) hs) h0.setLane))) h0)

end

/-- Settles O14: every command's change stays within the engine's registers and those beside them. -/
theorem laneFrame : Obligations.LaneFrame := by
  unfold Obligations.LaneFrame
  intro f p g inv m a b tones v s t h8 _ c hc e
  have hf := f.isLt
  have hp := p.isLt
  have hs : (p : Nat) = 8 → s.rd (SEAL_STATUS_HS_STATE f) = 0 := fun e => h8 (Fin.ext e)
  have h0 : Within (engineReg f) f s s := .refl s
  apply Within.frame
  simp only [List.mem_cons, List.not_mem_nil, or_false] at hc
  rcases hc with rfl | rfl | rfl | rfl | rfl | rfl | rfl | rfl | rfl | rfl | rfl | rfl | rfl | rfl | rfl | rfl | rfl
  case _ => exact within_of_next e rfl (h0.guardS ((h0.enterState hf hp).effortE0 hf (engineReg_lane hp)))
  case _ => exact within_of_next e rfl (h0.guardS (((Within.refl s).setGain.engine hp).enterSearch hf hp))
  case _ => exact within_of_next e rfl (h0.guardS (((Within.refl s).setGain.engine hp).enterSearch hf hp))
  case _ => exact searchDwell_within e
  case _ => exact within_of_next e rfl (h0.guardS (h0.enterState hf hp))
  case _ => exact within_of_next e rfl (h0.guardS (h0.nextCand hf hp))
  case _ => exact within_of_next e rfl (h0.guardS (h0.nextCand hf hp))
  case _ => exact within_of_next e rfl (h0.guardS (h0.verifyEnd hf hp))
  case _ => exact within_of_next e rfl (h0.guardS (h0.laneEvent hp))
  case _ => exact relockRestartEnd_within e
  case _ => exact within_of_next e rfl (h0.guardS (h0.relockFailed hf hp))
  case _ => exact powerBlock_within hs e
  case _ => exact within_of_next e rfl (h0.guardS (h0.laneLoss hf hp (by decide) hs))
  case _ => exact clipWindow_within hs e
  case _ => exact within_of_next e rfl (h0.guardS (h0.laneLoss hf hp (by decide) hs))
  case _ => exact within_of_next e rfl (h0.guardS (h0.laneLoss hf hp (by decide) hs))
  case _ => exact alignmentMarker_within hs e

end Sys2Proof.Machine

namespace Sys2Proof.Machine
open Sys2Proof Sys2Proof.Laws

set_option Elab.async false

/-! # VERIFY and RELOCK (O11) -/

/-! ## The datapath of a lane, and its alignment -/

section
variable {f p : Nat} {s t : State}

/-- The lane map gives a lane's datapath. -/
theorem laneDp_of_map (hr : t.reg (LANE_MAP_RX f) = s.reg (LANE_MAP_RX f)) (ha : t.reg (LANE_MAP_AUX f) = s.reg (LANE_MAP_AUX f)) :
    laneDp t f p = laneDp s f p := by
  simp only [laneDp, State.rd, hr, ha]

/-- A receive datapath's registers are not the lane map's. -/
theorem map_ne_rxd {d o k : Nat} (hd : d < 16) (ho : o < 0x8000 := by decide) : faceAt f (0xF0000 + k) ≠ rxdAt f d + o := by
  simp only [rxdAt, faceAt]
  omega

theorem takeAlign_reg {al : Option (Nat × Bool)} {a : Nat} (h : a ≠ CODE_STATUS f (laneDp s f p)) : (takeAlign s f p al).reg a = s.reg a := by
  unfold takeAlign
  split
  · rfl
  · extract_lets d
    split
    · rfl
    · rw [State.incMod, State.reg_wr_other _ _ _ h]
      exact State.reg_wrs_other _ _ (by simp [h, d])

theorem takeAlign_laneDp {al : Option (Nat × Bool)} : laneDp (takeAlign s f p al) f p = laneDp s f p :=
  laneDp_of_map (takeAlign_reg (map_ne_rxd (laneDp_lt s f p))) (takeAlign_reg (map_ne_rxd (laneDp_lt s f p)))

/-- An alignment taken leaves AM_LOCK of every datapath as it is. -/
theorem takeAlign_amLock {al : Option (Nat × Bool)} (d : Nat) :
    (takeAlign s f p al).on (CODE_STATUS_AM_LOCK f d) = s.on (CODE_STATUS_AM_LOCK f d) := by
  unfold takeAlign
  split
  · rfl
  · extract_lets d'
    split
    · rfl
    · simp only [State.incMod, State.wrs_cons, State.wrs_nil]
      rw [State.on_wr_apart _ _ _ _ (by simp) (by simp), State.on_wr_apart _ _ _ _ (by simp) (by simp), State.on_wr_apart _ _ _ _ (by simp) (by simp),
        State.on_wr_apart _ _ _ _ (by simp) (by simp)]

theorem takeAlign_rxd {al : Option (Nat × Bool)} (g d : Nat) : (takeAlign s f p al).rxd g d = s.rxd g d := by
  unfold takeAlign
  split
  · rfl
  · extract_lets d
    split
    · rfl
    · rw [State.rxd_incMod, State.rxd_wrs]

theorem takeAlign_lane {al : Option (Nat × Bool)} (g q : Nat) : (takeAlign s f p al).lane g q = s.lane g q := by
  unfold takeAlign
  split
  · rfl
  · extract_lets d
    split
    · rfl
    · rw [State.lane_incMod, State.lane_wrs]

/-- The test of a window asks nothing that its alignment changes (R93). -/
theorem takeAlign_lockTest {al : Option (Nat × Bool)} (v : Verify) : lockTest (takeAlign s f p al) f p v = lockTest s f p v := by
  have hw : windowWords (takeAlign s f p al) f p v = windowWords s f p v := by rw [windowWords, takeAlign_laneDp, takeAlign_rxd, ← windowWords]
  rw [lockTest, takeAlign_laneDp, takeAlign_amLock, hw, ← lockTest]

theorem takeAlign_rd {al : Option (Nat × Bool)} {x : Fld} (hf : f < 16) (hx : engineReg f x.addr = true) : (takeAlign s f p al).rd x = s.rd x :=
  (Within.refl s).takeAlign.rdEngine hf hx

/-! ## What the end of a window enters -/

/-- What the entry to LOCKED shows (R86, R87, R91, R104). -/
structure LockedShown (s t : State) (f p : Nat) : Prop where
  state : t.rd (LANE_ACQ_STATUS_STATE f p) = 7
  locked : t.on (LANE_ACQ_STATUS_LOCKED f p) = true
  frozen : t.on (LANE_AGC_FROZEN f p) = true
  power : t.rd (LANE_POWER_P_LOCK f p) = s.rd (LANE_POWER_P_NOW f p)
  event : t.on (LANE_EVENTS_LOCK f p) = true

theorem enterLocked_shown (s : State) (hf : f < 16) (hp : p < 9) : LockedShown s (enterLocked s f p) f p := by
  conv in Machine.enterLocked => delta Machine.enterLocked
  extract_lets mode t x t1 t2 t3 t4 t5
  have ht2 : Within (fun _ => false) f t1 t2 := by
    unfold t2
    split
    · rename_i n hn
      exact .ite ((Within.refl t1).wr (PORT_STATUS n) (sideReg_port (portOfLane_some hn))) (.refl t1)
    · exact .refl t1
  have ht4 : Within (fun _ => false) f t1 t4 :=
    (show Within (fun _ => false) f t1 t3 from ht2.foldl fun _ d hd hu => hu.qualReset (by have := laneDps_lt _ _ _ d hd; omega)).setLane
  have hend {y : Fld} (hy : engineReg f y.addr = true) : (laneOutEval (seamStart (calBootstrap t5 f p) f p) f p).rd y = t5.rd y :=
    (((Within.refl t5).calBootstrap hp).seamStart.laneOutEval).rdEngine hf hy
  have hkeep {y : Fld} (hy : engineReg f y.addr = true) (he : LANE_EVENTS f p ≠ y.addr) :
      (laneOutEval (seamStart (calBootstrap t5 f p) f p) f p).rd y = t1.rd y :=
    ((hend hy).trans (laneEvent_rd hf hy (by simp) fun e => absurd e he)).trans (ht4.rdEngine hf hy)
  have hpow : t.rd (LANE_POWER_P_NOW f p) = s.rd (LANE_POWER_P_NOW f p) := setAcq_rd 7 hf (engineReg_lane hp)
  refine ⟨?_, ?_, ?_, ?_, ?_⟩
  · rw [hkeep (engineReg_lane hp) (by simp)]
    simp [t1, t, State.rd_wr_apart, setAcq_state hf hp]
  · rw [State.on, hkeep (engineReg_lane hp) (by simp), ← State.on]
    simp [t1, t, State.on_wr_apart, setAcq_locked hf hp]
  · rw [State.on, hkeep (engineReg_lane hp) (by simp), ← State.on]
    simp [t1, t, State.on_wr_apart, setAcq_frozen hf hp]
  · rw [hkeep (engineReg_lane hp) (by simp), ← hpow]
    simp only [t1, State.wrs_cons, State.wrs_nil]
    rw [State.rd_wr_addr _ _ _ _ (by simp), State.rd_wr_addr _ _ _ _ (by simp), State.rd_wr_same _ _ _ (by simp)]
    exact Nat.mod_eq_of_lt (State.rd_lt t _)
  · rw [State.on, hend (engineReg_lane hp), ← State.on]
    exact laneEvent_on hf (engineReg_lane hp)

/-- What the failure of a lock shows: no lock, and the state that is entered. -/
structure FailShown (t : State) (f p st : Nat) : Prop where
  locked : t.on (LANE_ACQ_STATUS_LOCKED f p) = false
  state : t.rd (LANE_ACQ_STATUS_STATE f p) = st

theorem relockFailed_shown (s : State) (hf : f < 16) (hp : p < 9) : FailShown (relockFailed s f p) f p 2 := by
  refine ⟨?_, ?_⟩
  · rw [State.on, relockFailed, laneOutEval_rd hf (engineReg_lane hp), ← State.on, State.on_wr_apart _ _ _ _ (by simp) (by simp), setAcq_locked hf hp]
    rfl
  · rw [relockFailed, laneOutEval_rd hf (engineReg_lane hp), State.rd_wr_apart _ _ _ _ (by simp) (by simp), setAcq_state hf hp]

theorem enterSearch_rd (s : State) (x : Fld) : (enterSearch s f p).rd x = (setAcq s f p 3).rd x := State.rd_setLane _ _ _ _ x

theorem nextCand_locked (s : State) (hf : f < 16) (hp : p < 9) : (nextCand s f p).on (LANE_ACQ_STATUS_LOCKED f p) = false := by
  cases hc : (s.lane f p).cands with
  | nil =>
    rw [nextCand_nil s hc, State.on, enterSearch_rd, ← State.on, setAcq_locked hf hp]
    rfl
  | cons c cs =>
    obtain ⟨x, h⟩ := nextCand_cons (own := fun _ => false) s hc
    rw [h.onEngine hf (engineReg_lane hp), State.incSat, State.on_wr_apart _ _ _ _ (by simp) (by simp),
      State.on_wr_apart _ _ _ _ (by simp) (by simp), setAcq_locked hf hp]
    rfl

theorem nextCand_falseLocks (s : State) (hf : f < 16) (hp : p < 9) :
    (nextCand s f p).rd (LANE_ACQ_STATUS_FALSE_LOCKS f p) = s.rd (LANE_ACQ_STATUS_FALSE_LOCKS f p) := by
  cases hc : (s.lane f p).cands with
  | nil =>
    rw [nextCand_nil s hc, enterSearch_rd, setAcq_rd 3 hf (engineReg_lane hp), State.rd_wr_apart _ _ _ _ (by simp) (by simp)]
  | cons c cs =>
    obtain ⟨x, h⟩ := nextCand_cons (own := fun _ => false) s hc
    rw [h.rdEngine hf (engineReg_lane hp), State.incSat, State.rd_wr_apart _ _ _ _ (by simp) (by simp),
      State.rd_wr_apart _ _ _ _ (by simp) (by simp), setAcq_rd 4 hf (engineReg_lane hp), State.rd_setLane]

theorem laneEvent_lane {b a0 : Nat} {y : Fld} (g q : Nat) : (laneEvent s f p b a0 y).lane g q = s.lane g q := by
  unfold laneEvent stickyEvent
  split
  · rfl
  · simp only [State.lane, logEvent_lanes]
    rfl

end

/-! ## The windows -/

section
variable {f : Fin 16} {p : Fin 9} {s : State}

/-- The test that a window puts to the lane (R93, R208). -/
def windowPasses (s : State) (f p : Nat) (v : Verify) : Bool :=
  if patternMode s f p then patTest v else (windowAlign s f p v).isSome && lockTest s f p v

theorem verifyEnd_eq (s : State) (f p : Nat) (v : Verify) : ∃ al, verifyEnd s f p v =
    if windowPasses s f p v then enterLocked (takeAlign s f p al) f p
    else if s.rd (LANE_ACQ_STATUS_STATE f p) = 8 then relockFailed (takeAlign s f p al) f p
    else nextCand (laneEvent ((takeAlign s f p al).incSat (LANE_ACQ_STATUS_FALSE_LOCKS f p)) f p 7 6 (LANE_EVENTS_FALSE_LOCK f p)) f p := by
  refine ⟨if patternMode s f p then none else windowAlign s f p v, ?_⟩
  unfold verifyEnd windowPasses
  extract_lets st pat al u u1
  have hl : lockTest u f p v = lockTest s f p v := takeAlign_lockTest v
  have hc : (pat && patTest v || al.isSome && lockTest u f p v) =
      if patternMode s f p = true then patTest v else (windowAlign s f p v).isSome && lockTest s f p v := by
    rw [hl]
    unfold al pat
    cases patternMode s f p
    · simp
    · simp
  rw [hc]

/-- A window that passes enters LOCKED, with the power measured. -/
theorem verifyWindow_locks {v : Verify} (hw : acqIn s f p 6 = true ∨ (acqIn s f p 8 = true ∧ (s.lane f p).relockWindow = true))
    (hv : windowPasses s f p v = true) : Completes (.verifyWindow f p v) s fun t => t.rd (LANE_ACQ_STATUS_STATE f p) = 7 ∧
      t.on (LANE_ACQ_STATUS_LOCKED f p) = true ∧ t.on (LANE_AGC_FROZEN f p) = true ∧
      t.rd (LANE_POWER_P_LOCK f p) = s.rd (LANE_POWER_P_NOW f p) ∧ t.on (LANE_EVENTS_LOCK f p) = true := by
  obtain ⟨al, e⟩ := verifyEnd_eq s f p v
  rw [if_pos hv] at e
  refine completes_guardS rfl (by simpa using hw) ?_
  rw [e]
  obtain ⟨h1, h2, h3, h4, h5⟩ := enterLocked_shown (takeAlign s f p al) f.isLt p.isLt
  exact ⟨h1, h2, h3, h4.trans (takeAlign_rd f.isLt (engineReg_lane p.isLt)), h5⟩

/-- A window that fails: SETTLE from RELOCK, a false lock and the next candidate from VERIFY. -/
theorem verifyWindow_fails {v : Verify} (hw : acqIn s f p 6 = true ∨ (acqIn s f p 8 = true ∧ (s.lane f p).relockWindow = true))
    (hv : windowPasses s f p v = false) : Completes (.verifyWindow f p v) s fun t => t.on (LANE_ACQ_STATUS_LOCKED f p) = false ∧
      t.rd (LANE_ACQ_STATUS_STATE f p) = (if s.rd (LANE_ACQ_STATUS_STATE f p) = 8 then 2 else if (s.lane f p).cands = [] then 3 else 4) ∧
      (s.rd (LANE_ACQ_STATUS_STATE f p) = 6 → t.rd (LANE_ACQ_STATUS_FALSE_LOCKS f p) =
        satInc (LANE_ACQ_STATUS_FALSE_LOCKS f p).width (s.rd (LANE_ACQ_STATUS_FALSE_LOCKS f p))) := by
  obtain ⟨al, e⟩ := verifyEnd_eq s f p v
  rw [if_neg (by simp [hv])] at e
  refine completes_guardS rfl (by simpa using hw) ?_
  rw [e]
  split
  · rename_i h8
    obtain ⟨hl, hst⟩ := relockFailed_shown (takeAlign s f p al) f.isLt p.isLt
    exact ⟨hl, hst, fun h6 => absurd (h6.symm.trans h8) (by decide)⟩
  · refine ⟨nextCand_locked _ f.isLt p.isLt, ?_, fun _ => ?_⟩
    · rw [nextCand_state _ f.isLt p.isLt, laneEvent_lane, State.lane_incSat, takeAlign_lane]
    · rw [nextCand_falseLocks _ f.isLt p.isLt, laneEvent_rd f.isLt (engineReg_lane p.isLt), State.rd_incSat_same _ _ (by simp),
        takeAlign_rd f.isLt (engineReg_lane p.isLt)]

theorem relockRestartEnd_opens (h : acqIn s f p 8 = true) (hw : (s.lane f p).relockWindow = false) : Completes (.relockRestartEnd f p) s fun t =>
    t.rd (LANE_ACQ_STATUS_STATE f p) = 8 ∧ (t.lane f p).relockWindow = true := by
  refine completes_guardS rfl (by simp [h, hw]) ?_
  extract_lets l u d
  have hu : Within (fun _ => false) f s u := (Within.refl s).setLane
  have hk : (u.lane f p).relockWindow = true := by simp [u]
  split
  · exact ⟨(hu.rdEngine f.isLt (engineReg_lane p.isLt)).trans (acqIn_alive h).2, hk⟩
  · have hd := (hu.softDrop (d := d)).wrs (l := [(TR_STATUS_F_LIMIT f d, 0), (TR_STATUS_P_LIMIT f d, 0)]) (TR_STATUS f d)
      (sideReg_rxd (laneDp_lt u f p))
    refine ⟨(hd.rdEngine f.isLt (engineReg_lane p.isLt)).trans (acqIn_alive h).2, ?_⟩
    rw [State.lane_wrs]
    exact hk

end
end Sys2Proof.Machine

namespace Sys2Proof.Machine
open Sys2Proof Sys2Proof.Laws

set_option Elab.async false

/-! ## Alignment markers in a window (R93, R152) -/

section
variable {f : Fin 16} {p : Fin 9} {s : State}

/-- The eighth marker in a row: AM lock, held or declared. -/
theorem markerInWindow_eighth {phase : Nat} (hd : laneDp s f p < 9) (h7 : (s.lane f p).amRun = 7) (hph : (s.lane f p).amPhase = phase) :
    (markerInWindow s f p true phase).on (CODE_STATUS_AM_LOCK f (laneDp s f p)) = true ∧ ((markerInWindow s f p true phase).lane f p).amRun = 8 := by
  have hd15 : laneDp s f p ≠ 15 := by omega
  unfold markerInWindow
  extract_lets x d run t
  have hrun : run = 8 := by simp [run, x, h7, hph]
  split
  · rename_i ham
    rw [if_pos ⟨rfl, hph.symm⟩, State.lane_setLane_same, State.on_setLane]
    exact ⟨ham.2, by simp [x, h7]⟩
  · rw [if_pos (by simp [hrun, d, hd15])]
    refine ⟨by rw [State.on_wr_same _ _ _ (by simp)]; rfl, ?_⟩
    rw [State.lane_wr]
    simp [t, hrun]

theorem markerAlign_amLock {inv : Bool} {phase : Nat} (g d : Nat) (q : Nat) :
    (markerAlign s g q inv phase).on (CODE_STATUS_AM_LOCK g d) = s.on (CODE_STATUS_AM_LOCK g d) ∧
      (markerAlign s g q inv phase).lane g q = s.lane g q := by
  unfold markerAlign
  split
  · exact ⟨takeAlign_amLock d, takeAlign_lane g q⟩
  · exact ⟨rfl, rfl⟩

theorem alignmentMarker_eighth (h : acqIn s f p 6 = true) (hd : laneDp s f p < 9) (h7 : (s.lane f p).amRun = 7) {e : Nat} {inv : Bool} {m : Marker}
    (he : e ≤ 2) (hph : (s.lane f p).amPhase = m.phase) : Completes (.alignmentMarker f p e inv m) s fun t =>
      t.on (CODE_STATUS_AM_LOCK f (laneDp s f p)) = true ∧ (t.lane f p).amRun = 8 := by
  have e1 : exec (.alignmentMarker f p e inv m) s = .next (markerAlign (markerInWindow s f p true m.phase) f p inv m.phase) := by
    change execAlignmentMarker f p e inv m s = _
    simp only [execAlignmentMarker, h, he, decide_true, Bool.true_or, if_true]
  obtain ⟨hl, hr⟩ := markerInWindow_eighth (f := f) (p := p) hd h7 hph
  obtain ⟨ka, kl⟩ := markerAlign_amLock (s := markerInWindow s f p true m.phase) (inv := inv) (phase := m.phase) f (laneDp s f p) p
  exact ⟨_, e1, ka.trans hl, by rw [kl]; exact hr⟩

end

/-! ## The end of CONVERGE by EQ_CONV (R118) -/

section
variable {f : Fin 16} {d p : Fin 9} {s : State}

theorem regEffect_eqConv (s : State) (z : Bool) (a v : Nat) : regEffect s z eqConvDesc [f.val, d.val] a v = (eqConvEff s eqConvDesc f d v, stOk) := rfl

theorem rwWord_eqConv (r : Word) : ∃ w, rwWord eqConvDesc r = w ∧ w.toNat < 2 ^ 28 := by
  refine ⟨_, rfl, ?_⟩
  have e : rwWord eqConvDesc r = fieldSet 0 24 4 (fieldGet r 24 4) := rfl
  have h : fieldGet (fieldSet 0 24 4 (fieldGet r 24 4)) 28 4 = 0 := (fieldGet_set_other _ _ _ _ _ _ (by decide) (by decide)).trans rfl
  rw [e]
  generalize fieldSet 0 24 4 (fieldGet r 24 4) = w at h
  have := w.isLt
  simp only [fieldGet] at h
  omega

/-- The write that sets DONE, or FAIL: within its word, with that bit alone of the two. -/
theorem actionValue_eqConv (s : State) {b : Nat} (hb : b = 31 ∨ b = 30) : ∃ v < 2 ^ 32, actionValue s (EQ_CONV f d) b = v ∧
    nbit v 31 = decide (b = 31) ∧ nbit v 30 = decide (b = 30) := by
  obtain ⟨w, hw, hlt⟩ := rwWord_eqConv (s.reg (EQ_CONV f d))
  have e := actionValue_desc s b (plainAt_eqConv f d).desc
  rw [hw] at e
  generalize w.toNat = n at hlt e
  rcases hb with rfl | rfl
  · refine ⟨n + 2 ^ 31, by omega, e, ?_, ?_⟩
    · rw [nbit, show (n + 2 ^ 31) / 2 ^ 31 = 1 by omega]; rfl
    · rw [nbit, show (n + 2 ^ 31) / 2 ^ 30 = 2 by omega]; rfl
  · refine ⟨n + 2 ^ 30, by omega, e, ?_, ?_⟩
    · rw [nbit, show (n + 2 ^ 30) / 2 ^ 31 = 0 by omega]; rfl
    · rw [nbit, show (n + 2 ^ 30) / 2 ^ 30 = 1 by omega]; rfl

theorem servedLane_of_map {t : State} {g e : Nat} (hr : t.reg (LANE_MAP_RX g) = s.reg (LANE_MAP_RX g)) (ha : t.reg (LANE_MAP_AUX g) = s.reg (LANE_MAP_AUX g)) :
    servedLane t g e = servedLane s g e := by
  simp only [servedLane, laneDp_of_map hr ha]

theorem directStart_servedLane (s : State) (g e : Nat) : servedLane (directStart s) g e = servedLane s g e :=
  servedLane_of_map (congrFun (directStart_stage s).2.2 _) (congrFun (directStart_stage s).2.2 _)

theorem directStart_lane (s : State) (g q : Nat) : (directStart s).lane g q = s.lane g q := by
  rw [directStart_rest]
  rfl

theorem plainWrite_lane (s : State) (e : RegDesc) (a v g q : Nat) : (plainWrite s e a v).lane g q = s.lane g q := rfl

theorem plainWrite_servedLane (s : State) (c : RegDesc) {a : Nat} (v : Nat) {g : Nat} (e : Nat) (hr : LANE_MAP_RX g ≠ a) (ha : LANE_MAP_AUX g ≠ a) :
    servedLane (plainWrite s c a v) g e = servedLane s g e := servedLane_of_map (State.reg_setReg_other _ _ hr) (State.reg_setReg_other _ _ ha)

theorem Within.plainWrite {own : Nat → Bool} {g : Nat} {s₀ : State} (h : Within own g s₀ s) {c : RegDesc} {a v : Nat} (ha : sideReg g a = true) :
    Within own g s₀ (plainWrite s c a v) := h.setReg (.inl ha)

/-- DONE in CONVERGE begins VERIFY; FAIL takes the next candidate. -/
theorem eqConvEff_converge {v : Nat} {u : State} (hu : plainWrite s eqConvDesc (EQ_CONV f d) v = u) (hs : servedLane u f d = some p.val)
    (h5 : u.rd (LANE_ACQ_STATUS_STATE f p) = 5) :
    eqConvEff s eqConvDesc f d v = if nbit v 31 then setAcq u f p 6 else if nbit v 30 then nextCand u f p else u := by
  conv in Machine.eqConvEff => delta Machine.eqConvEff
  extract_lets t
  have ht : t = u := hu
  clear_value t
  subst ht
  split
  · rename_i q hq
    cases hs.symm.trans hq
    rw [convDoneEff, convFailEff, if_pos h5, if_pos h5]
  · rename_i hq
    cases hs.symm.trans hq

/-- What the effect of EQ_CONV finds: the register's plain fields written, nothing else of the lane changed. -/
theorem eqConv_plain (s : State) (v : Nat) : ∃ u, plainWrite (directStart s) eqConvDesc (EQ_CONV f d) v = u ∧
    Within (fun _ => false) f (directStart s) u ∧ servedLane u f d = servedLane s f d ∧ u.lane f p = s.lane f p := by
  have hd : d.val < 16 := by omega
  have hr : LANE_MAP_RX f ≠ EQ_CONV f d := map_ne_rxd hd
  have ha : LANE_MAP_AUX f ≠ EQ_CONV f d := map_ne_rxd hd
  have hs : sideReg f (EQ_CONV f d) = true := sideReg_rxd hd
  generalize EQ_CONV f d = a at hr ha hs
  exact ⟨_, rfl, (Within.refl _).plainWrite hs, (plainWrite_servedLane _ _ v d hr ha).trans (directStart_servedLane s f d),
    (plainWrite_lane _ _ a v f p).trans (directStart_lane s f p)⟩

theorem eqConvDone_begins (hr : Reaches s (EQ_CONV f d)) (hl : servedLane s f d = some p.val) (h5 : s.rd (LANE_ACQ_STATUS_STATE f p) = 5) :
    Completes (.eqConvDone f d) s fun t => t.rd (LANE_ACQ_STATUS_STATE f p) = 6 ∧ t.busStatus = stOk := by
  obtain ⟨v, hv, he, h31, -⟩ := actionValue_eqConv (f := f) (d := d) s (.inl rfl)
  obtain ⟨u, hu, hw, hs, -⟩ := eqConv_plain (f := f) (d := d) (p := p) s v
  have hst : u.rd (LANE_ACQ_STATUS_STATE f p) = 5 := (hw.rdEngine f.isLt (engineReg_lane p.isLt)).trans ((directStart_rd s _).trans h5)
  have e := eqConvEff_converge hu (hs.trans hl) hst
  rw [h31, if_pos (by decide)] at e
  have hd : (setAcq u f p 6).defer = [] :=
    (((hw.mono fun _ _ => rfl : Within (engineReg f) f (directStart s) u).enterState f.isLt p.isLt).defer).trans (directStart_stage s).2.1
  have e1 : exec (.eqConvDone f d) s = .next (written (setAcq u f p 6) stOk) := by
    change regWriteOut s (EQ_CONV f d) (actionValue s (EQ_CONV f d) 31) = _
    rw [he]
    exact regWriteOut_plain (plainAt_eqConv f d) hr (by rw [Nat.mod_eq_of_lt hv, regEffect_eqConv, e]) hd
  exact ⟨_, e1, setAcq_state f.isLt p.isLt u 6, written_busStatus _ _⟩

theorem eqConvFail_drops (hr : Reaches s (EQ_CONV f d)) (hl : servedLane s f d = some p.val) (h5 : s.rd (LANE_ACQ_STATUS_STATE f p) = 5) :
    Completes (.eqConvFail f d) s fun t =>
      t.rd (LANE_ACQ_STATUS_STATE f p) = (if (s.lane f p).cands = [] then 3 else 4) ∧ t.busStatus = stOk := by
  obtain ⟨v, hv, he, h31, h30⟩ := actionValue_eqConv (f := f) (d := d) s (.inr rfl)
  obtain ⟨u, hu, hw, hs, hlane⟩ := eqConv_plain (f := f) (d := d) (p := p) s v
  have hst : u.rd (LANE_ACQ_STATUS_STATE f p) = 5 := (hw.rdEngine f.isLt (engineReg_lane p.isLt)).trans ((directStart_rd s _).trans h5)
  have e := eqConvEff_converge hu (hs.trans hl) hst
  rw [h31, h30, if_neg (by decide), if_pos (by decide)] at e
  have hd : (nextCand u f p).defer = [] :=
    (((hw.mono fun _ _ => rfl : Within (engineReg f) f (directStart s) u).nextCand f.isLt p.isLt).defer).trans (directStart_stage s).2.1
  have e1 : exec (.eqConvFail f d) s = .next (written (nextCand u f p) stOk) := by
    change regWriteOut s (EQ_CONV f d) (actionValue s (EQ_CONV f d) 30) = _
    rw [he]
    exact regWriteOut_plain (plainAt_eqConv f d) hr (by rw [Nat.mod_eq_of_lt hv, regEffect_eqConv, e]) hd
  exact ⟨_, e1, by rw [written_rd, nextCand_state u f.isLt p.isLt, hlane], written_busStatus _ _⟩

end

/-- Settles O11: the ends of a window, RELOCK's limit and restart, EQ_CONV, and the eighth marker. -/
theorem laneVerifySteps : Obligations.LaneVerifySteps := by
  unfold Obligations.LaneVerifySteps
  intro f p d v s
  refine ⟨fun hw => ⟨fun hv => verifyWindow_locks hw ?_, fun hv => verifyWindow_fails hw ?_⟩,
    fun h => completes_guardS rfl h (relockFailed_shown s f.isLt p.isLt).state, relockRestartEnd_opens,
    fun hr hl h5 => ⟨eqConvDone_begins hr hl h5, eqConvFail_drops hr hl h5⟩, fun h hd h7 e inv m he hph => alignmentMarker_eighth h hd h7 he hph⟩
  · unfold windowPasses
    rcases hv with ⟨hp, ht⟩ | ⟨hp, ha, ht⟩
    · rw [if_pos hp, ht]
    · rw [if_neg (by simp [hp]), ha, ht]
      rfl
  · unfold windowPasses
    rcases hv with ⟨hp, ht⟩ | ⟨hp, ht⟩
    · rw [if_pos hp, ht]
    · rw [if_neg (by simp [hp])]
      rcases ht with ht | ht <;> simp [ht]

end Sys2Proof.Machine

namespace Sys2Proof.Machine
open Sys2Proof Sys2Proof.Laws

set_option Elab.async false

/-! # Survey (O58): one register across a command -/

/-- Register `r` reads in `t` as in `s`. -/
def SameReg (r : Nat) (s t : State) : Prop := t.reg r = s.reg r

section
variable {r : Nat} {s₀ s t u : State}

theorem SameReg.rd (h : SameReg r s t) {x : Fld} (hx : x.addr = r) : t.rd x = s.rd x := by rw [State.rd, State.rd, hx, show t.reg r = s.reg r from h]

theorem SameReg.on (h : SameReg r s t) {x : Fld} (hx : x.addr = r) : t.on x = s.on x := by simp only [State.on, h.rd hx]

theorem SameReg.trans (h : SameReg r s₀ s) (k : SameReg r s t) : SameReg r s₀ t := Eq.trans k h

/-- Changes of fields that are not registers. -/
theorem SameReg.same (h : SameReg r s₀ s) (e : t.regs = s.regs := by exact rfl) : SameReg r s₀ t := by
  unfold SameReg at h ⊢
  rw [← h, State.reg, State.reg, e]

theorem SameReg.ite {c : Prop} [Decidable c] (h : SameReg r s₀ t) (k : SameReg r s₀ u) : SameReg r s₀ (if c then t else u) := by
  split
  · exact h
  · exact k

theorem SameReg.foldl {α : Type} {g : State → α → State} {l : List α} (h : SameReg r s₀ s)
    (k : ∀ t, ∀ x ∈ l, SameReg r s₀ t → SameReg r s₀ (g t x)) : SameReg r s₀ (l.foldl g s) := by
  induction l generalizing s with
  | nil => exact h
  | cons x l ih => exact ih (k s x (by simp) h) fun t y hy => k t y (by simp [hy])

theorem SameReg.of_quiet {p : Nat → Bool} (h : SameReg r s₀ s) (k : Quiet p s t) (hp : p r = false) : SameReg r s₀ t := (k.regs r hp).trans h

theorem SameReg.setReg (h : SameReg r s₀ s) {a : Nat} {w : Word} (ha : r ≠ a) : SameReg r s₀ (s.setReg a w) := (State.reg_setReg_other _ _ ha).trans h

theorem SameReg.wr (h : SameReg r s₀ s) {x : Fld} {v : Nat} (hx : r ≠ x.addr) : SameReg r s₀ (s.wr x v) := h.setReg hx

theorem SameReg.wrs (h : SameReg r s₀ s) {l : List (Fld × Nat)} (a : Nat) (ha : r ≠ a) (hl : ∀ e ∈ l, e.1.addr = a := by simp) :
    SameReg r s₀ (s.wrs l) := (State.reg_wrs_other _ _ fun e he => hl e he ▸ ha).trans h

theorem SameReg.dropRegs (h : SameReg r s₀ s) {p : Nat → Bool} (hp : p r = false) : SameReg r s₀ (s.dropRegs p) := by
  unfold SameReg
  rw [State.reg_dropRegs, hp]
  exact h

theorem SameReg.setLane (h : SameReg r s₀ s) {f p : Nat} {x : LaneX} : SameReg r s₀ (s.setLane f p x) := h.same

theorem SameReg.logEvent (h : SameReg r s₀ s) {e : Ev} (hr : eventReg r = false) : SameReg r s₀ (logEvent s e) := h.of_quiet (quiet_logEvent s e) hr

theorem SameReg.raiseIrq (h : SameReg r s₀ s) {n i : Nat} (hi : r ≠ HW_IRQ n) (hs : r ≠ HW_STATUS n) : SameReg r s₀ (raiseIrq s n i) :=
  (raiseIrq_reg s n i r hi hs).trans h

end

/-! ## The registers that a correction writes (R80, R81, R283) -/

/-- The receive datapaths of face `f` and its Hewer. -/
def corrReg (f a : Nat) : Bool := (decide (faceAt f 0 ≤ a) && decide (a < faceAt f 0x48000)) || (decide (hwAt f ≤ a) && decide (a < hwAt f + 0x1000))

theorem corrReg_lane {f p o : Nat} (hf : f < 16) (hp : p < 9) (ho : o < 0x100 := by decide) : corrReg f (laneAt f p + o) = false := by
  simp only [corrReg, laneAt, hwAt, hf, if_true, faceAt, Bool.or_eq_false_iff, Bool.and_eq_false_iff, decide_eq_false_iff_not]
  omega

theorem corrReg_set {f q i : Nat} (hf : f < 16) (hq : q < 144) (hi : i < 5) : corrReg f (SET_HDR q i) = false := by
  simp only [corrReg, SET_HDR, setAt, hwAt, hf, if_true, faceAt, Bool.or_eq_false_iff, Bool.and_eq_false_iff, decide_eq_false_iff_not]
  omega

theorem corrReg_rxd {f d o r : Nat} (hr : corrReg f r = false) (hd : d < 9) (ho : o < 0x8000) : r ≠ rxdAt f d + o := by
  rintro rfl
  simp only [corrReg, rxdAt, faceAt, Bool.or_eq_false_iff, Bool.and_eq_false_iff, decide_eq_false_iff_not] at hr
  omega

theorem corrReg_hewer {f o r : Nat} (hr : corrReg f r = false) (ho : o < 0x1000 := by decide) : r ≠ hwAt f + o := by
  rintro rfl
  simp only [corrReg, Bool.or_eq_false_iff, Bool.and_eq_false_iff, decide_eq_false_iff_not] at hr
  omega

section
variable {r f p : Nat} {s₀ s : State}

theorem SameReg.sliceWords (h : SameReg r s₀ s) (hr : corrReg f r = false) {d sl : Nat} (hd : d < 9) (hs : sl ≤ 64) {a b c e : Nat} :
    SameReg r s₀ (s.wrs [(SLICE_CORR_A_GAIN f d sl, a), (SLICE_CORR_A_OFFSET f d sl, b), (SLICE_CORR_B_BW f d sl, c), (SLICE_CORR_B_SKEW f d sl, e)]) := by
  have ha : r ≠ SLICE_CORR_A f d sl := by simpa only [Nat.add_assoc] using corrReg_rxd (o := 0x100 + sl * 0x10) hr hd (by omega)
  have hb : r ≠ SLICE_CORR_B f d sl := by simpa only [Nat.add_assoc] using corrReg_rxd (o := 0x104 + sl * 0x10) hr hd (by omega)
  exact (((h.wr ha).wr ha).wr hb).wr hb

theorem SameReg.corrShow (h : SameReg r s₀ s) (hr : corrReg f r = false) {d : Nat} (hd : d < 9) : SameReg r s₀ (corrShow s f d p) := by
  unfold Machine.corrShow
  extract_lets x put t
  have hdrop : isSliceCorr f d r = false := by
    simp only [corrReg, faceAt, Bool.or_eq_false_iff, Bool.and_eq_false_iff, decide_eq_false_iff_not] at hr
    simp only [isSliceCorr, rxdAt, faceAt, Bool.and_eq_false_iff, decide_eq_false_iff_not]
    omega
  have ht : SameReg r s₀ t := (h.dropRegs hdrop).wrs (RXD_STATUS f d) (corrReg_rxd hr hd (by decide))
  exact ht.foldl fun u e he hu => hu.sliceWords hr hd (of_decide_eq_true (List.mem_filter.mp he).2)

theorem SameReg.corrRestore (h : SameReg r s₀ s) (hr : corrReg f r = false) : SameReg r s₀ (corrRestore s f p) :=
  h.foldl fun _ d hd hu => hu.corrShow hr (laneDps_lt s f p d hd)

theorem SameReg.corrRecompute (h : SameReg r s₀ s) (hr : corrReg f r = false) : SameReg r s₀ (corrRecompute s f p) :=
  (show SameReg r s₀ (laneCorr s f p (laneDpMode s f p)) from h.setLane).corrRestore hr

theorem SameReg.corrNotice (h : SameReg r s₀ s) (hr : corrReg f r = false) : SameReg r s₀ (corrNotice s f p) :=
  (h.wr (corrReg_hewer hr)).raiseIrq (corrReg_hewer hr) (corrReg_hewer hr)

theorem SameReg.acceptSlice (h : SameReg r s₀ s) (hr : corrReg f r = false) {sl : Nat} {v : SliceVal} (hs : sl ≤ 64) :
    SameReg r s₀ (acceptSlice s f p sl v) :=
  (h.setLane.foldl fun _ d hd hu => hu.sliceWords hr (laneDps_lt _ f p d hd) hs).corrNotice hr

end

/-! ## Only registers change -/

/-- `t` is `s` but for its registers. -/
def RegsOnly (s t : State) : Prop := t = { s with regs := t.regs }

section
variable {s₀ s : State}

theorem RegsOnly.refl (s : State) : RegsOnly s s := rfl

theorem RegsOnly.setReg (h : RegsOnly s₀ s) {a : Nat} {w : Word} : RegsOnly s₀ (s.setReg a w) := by
  unfold RegsOnly at h
  rw [h]
  rfl

theorem RegsOnly.wrs (h : RegsOnly s₀ s) {l : List (Fld × Nat)} : RegsOnly s₀ (s.wrs l) := by
  induction l generalizing s with
  | nil => exact h
  | cons e l ih => exact ih h.setReg

theorem RegsOnly.foldl {α : Type} {g : State → α → State} {l : List α} (h : RegsOnly s₀ s) (k : ∀ t x, RegsOnly s₀ t → RegsOnly s₀ (g t x)) :
    RegsOnly s₀ (l.foldl g s) := by
  induction l generalizing s with
  | nil => exact h
  | cons x l ih => exact ih (k s x h)

theorem RegsOnly.dropRegs (h : RegsOnly s₀ s) {p : Nat → Bool} : RegsOnly s₀ (s.dropRegs p) := by
  unfold RegsOnly at h
  rw [h]
  rfl

theorem RegsOnly.corrShow (h : RegsOnly s₀ s) {f d p : Nat} : RegsOnly s₀ (corrShow s f d p) := h.dropRegs.wrs.foldl fun _ _ ht => ht.wrs

theorem RegsOnly.corrRestore (h : RegsOnly s₀ s) {f p : Nat} : RegsOnly s₀ (corrRestore s f p) := h.foldl fun _ _ ht => ht.corrShow

theorem RegsOnly.raiseIrq (h : RegsOnly s₀ s) {n i : Nat} : RegsOnly s₀ (raiseIrq s n i) := by
  unfold Machine.raiseIrq hewerWake
  split
  · exact h.setReg.setReg
  · exact h.setReg

theorem RegsOnly.corrNotice (h : RegsOnly s₀ s) {f p : Nat} : RegsOnly s₀ (corrNotice s f p) := h.setReg.raiseIrq

theorem RegsOnly.ite {t : State} {c : Prop} [Decidable c] (h : RegsOnly s₀ s) (k : RegsOnly s₀ t) : RegsOnly s₀ (if c then s else t) := by
  split
  · exact h
  · exact k

theorem RegsOnly.calQ (h : RegsOnly s₀ s) : s.calQ = s₀.calQ := by rw [show s = _ from h]
theorem RegsOnly.defer (h : RegsOnly s₀ s) : s.defer = s₀.defer := by rw [show s = _ from h]
theorem RegsOnly.lane (h : RegsOnly s₀ s) (f p : Nat) : s.lane f p = s₀.lane f p := by rw [show s = _ from h]; rfl

end

/-! ## The running item of a lane -/

section
variable {s t : State} {f p : Nat}

theorem calItem_of_calQ (h : t.calQ = s.calQ) : calItem t f p = calItem s f p := by rw [calItem, calItem, h]

/-- Is `x` the running item of the lane? -/
def CalItem.runsOn (f p : Nat) (x : CalItem) : Bool := x.f == f && x.p == p && x.running

theorem calItem_eq : calItem s f p = s.calQ.find? (CalItem.runsOn f p) := rfl

/-- A change of the running item that leaves it the lane's running item. -/
theorem calItem_calUpd {g : CalItem → CalItem} (hg : ∀ x, (g x).f = x.f ∧ (g x).p = x.p ∧ (g x).running = x.running) :
    calItem (calUpd s f p g) f p = (calItem s f p).map g := by
  have hruns (x : CalItem) : (g x).runsOn f p = x.runsOn f p := by
    obtain ⟨hf, hp, hr⟩ := hg x
    rw [CalItem.runsOn, CalItem.runsOn, hf, hp, hr]
  rw [calItem_eq, calItem_eq, calUpd]
  change (s.calQ.map fun x => if x.runsOn f p = true then g x else x).find? _ = _
  induction s.calQ with
  | nil => rfl
  | cons x l ih =>
    by_cases hx : x.runsOn f p = true
    · rw [List.map_cons, if_pos hx, List.find?_cons_of_pos ((hruns x).trans hx), List.find?_cons_of_pos hx, Option.map_some]
    · rw [List.map_cons, if_neg hx, List.find?_cons_of_neg hx, List.find?_cons_of_neg hx, ih]

theorem calItem_calDrop : calItem (calDrop s f p) f p = none := by
  simp only [calItem, calDrop, List.find?_eq_none, List.mem_filter]
  rintro x ⟨-, hx⟩ h
  rw [h] at hx
  cases hx

/-- The lane's running item is in the queue. -/
theorem calRunning_of_calItem {x : CalItem} (h : calItem s f p = some x) : s.calQ.any (CalItem.runsOn f p) = true := by
  rw [calItem_eq] at h
  exact List.any_eq_true.mpr ⟨x, List.mem_of_find?_eq_some h, List.find?_some h⟩

end

end Sys2Proof.Machine

namespace Sys2Proof.Machine
open Sys2Proof Sys2Proof.Laws

set_option Elab.async false

/-! # Survey (O58): measurements of a slice (R372, R374) and the queue (R370, R373) -/

section
variable {s : State} {f p : Nat} {x : CalItem} {v : SliceVal}

theorem noStandIn_of {t : State} (hr : SameReg (LANE_SLICE f p) s t) (hl : t.lane f p = s.lane f p) : noStandIn t f p = noStandIn s f p := by
  rw [noStandIn, noStandIn, hr.on rfl, hl]

theorem SameReg.calUpd {r : Nat} {s₀ : State} (h : SameReg r s₀ s) {g : CalItem → CalItem} : SameReg r s₀ (calUpd s f p g) := h.same

theorem noStandIn_calUpd {g : CalItem → CalItem} : noStandIn (calUpd s f p g) f p = noStandIn s f p := noStandIn_of (.same rfl) rfl

/-- The running item with one measurement more. -/
theorem calItem_noted (h : calItem s f p = some x) :
    calItem (calUpd s f p fun y => { y with meas := y.meas ++ [v] }) f p = some { x with meas := x.meas ++ [v] } := by
  have e := calItem_calUpd (s := s) (f := f) (p := p) (g := fun y => { y with meas := y.meas ++ [v] }) fun _ => ⟨rfl, rfl, rfl⟩
  rw [e, h, Option.map_some]

theorem calMeasure_first (hm : x.meas = []) : calMeasure s f p x v = calUpd s f p fun y => { y with meas := y.meas ++ [v] } := by
  simp only [calMeasure, hm]

theorem calMeasure_agree {m : SliceVal} (hm : x.meas = [m]) (ha : measAgree m v = true) :
    calMeasure s f p x v = calAccept (calUpd s f p fun y => { y with meas := y.meas ++ [v] }) f p x (measMean m v) := by
  simp only [calMeasure, hm, ha, if_true]

theorem calMeasure_disagree {m : SliceVal} (hm : x.meas = [m]) (ha : measAgree m v = false) :
    calMeasure s f p x v = (calUpd s f p fun y => { y with meas := y.meas ++ [v] }).incSat SURVEY_STATUS_THIRD_RUNS := by
  simp only [calMeasure, hm, ha, Bool.false_eq_true, if_false]

theorem calMeasure_reject {m m' : SliceVal} (hm : x.meas = [m, m']) (ha : measPair m m' v = none) :
    calMeasure s f p x v = calReject (calUpd s f p fun y => { y with meas := y.meas ++ [v] }) f p x.slice (firstOver m m') := by
  simp only [calMeasure, hm, ha]

/-- An accepted slice below 64 with a stand-in is handed back (R373 step 4). -/
theorem calAccept_handBack (hv : outOfRange v = false) (hs : x.slice < 64) (hn : noStandIn s f p = false) :
    (calAccept s f p x v).rd (CAL_STATUS_STATE f p) = 3 ∧ ((calAccept s f p x v).lane f p).handover = some (x.slice, true) := by
  unfold calAccept
  extract_lets sl kept t
  have ht : noStandIn t f p = false := noStandIn_calUpd.trans hn
  rw [if_neg (by rw [hv]; decide), if_neg (by omega), if_neg (by rw [ht]; decide)]
  exact ⟨State.rd_wr_same _ _ _ (by simp), by rw [State.lane_wr, State.lane_setLane_same]⟩

/-- After a stand-in's end the lane has none (R84). -/
theorem standInEnd_off (hf : f < 16) (hp : p < 9) : (standInEnd s f p).on (LANE_SLICE_STAND_IN f p) = false := by
  unfold standInEnd
  extract_lets l t t1
  split
  · have ht1 : t1.on (LANE_SLICE_STAND_IN f p) = false := by
      unfold t1
      split
      · exact State.on_wr_same _ _ _ (by simp)
      · rename_i h
        exact Bool.eq_false_iff.mpr h
    rw [← ht1]
    exact (show SameReg (LANE_SLICE f p) t1 t1 from rfl).corrRestore (corrReg_lane hf hp) |>.on rfl
  · rename_i h
    simp only [Bool.or_eq_true, not_or] at h
    exact Bool.eq_false_iff.mpr h.1.1

theorem standInEnd_calQ : (standInEnd s f p).calQ = s.calQ := by
  unfold standInEnd
  extract_lets l t t1
  split
  · have ht1 : t1.calQ = s.calQ := (RegsOnly.ite (RegsOnly.refl t).setReg (.refl t)).calQ
    exact (RegsOnly.refl t1).corrRestore.calQ.trans ht1
  · rfl

/-- A stand-in's end leaves the count of failed handovers. -/
theorem standInEnd_handFails : ((standInEnd s f p).lane f p).handFails = (s.lane f p).handFails := by
  unfold standInEnd
  extract_lets l t t1
  split
  · have ht1 : (t1.lane f p).handFails = (s.lane f p).handFails := by
      have ht : (t.lane f p).handFails = (s.lane f p).handFails := by unfold t; rw [State.lane_setLane_same]
      unfold t1
      split
      · rw [State.lane_wr, ht]
      · exact ht
    rw [(RegsOnly.refl t1).corrRestore.lane, ht1]
  · rfl

/-- No record of events or counts lies in a face (R318). -/
theorem countReg_face {a : Nat} (h : 0x01000000 ≤ a) : countReg a = false := by
  rw [Bool.eq_false_iff]
  intro hc
  have := countReg_low hc
  omega

theorem laneWord_ge (f p o : Nat) : 0x01000000 ≤ laneAt f p + o := by
  simp only [laneAt, faceAt]
  omega

theorem laneWord_ne_survey (f p o : Nat) : laneAt f p + o ≠ SURVEY_STATUS := by
  have := laneWord_ge f p o
  simp only [SURVEY_STATUS]
  omega

/-- What the end of a run writes (14, registers): RESULT reads as given, and LANE_SLICE stays. -/
theorem runEndWords_result {a b r d : Nat} (hr : r < 16) :
    (s.wrs [(CAL_STATUS_STATE f p, a), (CAL_STATUS_SLICE f p, b), (CAL_STATUS_RESULT f p, r), (SURVEY_STATUS_ACTIVE, d)]).rd
      (CAL_STATUS_RESULT f p) = r := by
  rw [State.wrs_cons, State.wrs_cons, State.wrs_cons, State.wrs_cons, State.wrs_nil, State.rd_wr_addr _ _ _ _ (laneWord_ne_survey f p _),
    State.rd_wr_same _ _ _ (by simp)]
  exact Nat.mod_eq_of_lt hr

theorem runEndWords_slice {a b r d : Nat} : SameReg (LANE_SLICE f p) s
    (s.wrs [(CAL_STATUS_STATE f p, a), (CAL_STATUS_SLICE f p, b), (CAL_STATUS_RESULT f p, r), (SURVEY_STATUS_ACTIVE, d)]) := by
  have hc : LANE_SLICE f p ≠ CAL_STATUS f p := by simp
  exact (((SameReg.same rfl).wr hc).wr hc).wr hc |>.wr (laneWord_ne_survey f p _)

theorem calFinish_eq {r : Nat} : ∃ a d, calFinish s f p r = (calDrop s f p).wrs
    [(CAL_STATUS_STATE f p, a), (CAL_STATUS_SLICE f p, 0), (CAL_STATUS_RESULT f p, r), (SURVEY_STATUS_ACTIVE, d)] := by
  simp only [calFinish]
  exact ⟨_, _, rfl⟩

theorem calFinish_result {r : Nat} (hr : r < 16) : (calFinish s f p r).rd (CAL_STATUS_RESULT f p) = r := by
  obtain ⟨a, d, e⟩ := calFinish_eq (s := s) (f := f) (p := p) (r := r)
  rw [e, runEndWords_result hr]

theorem calFinish_calItem {r : Nat} : calItem (calFinish s f p r) f p = none :=
  (calItem_of_calQ (State.wrs_calQ _ _)).trans (calItem_calDrop (s := s))

theorem calFinish_slice {r : Nat} : SameReg (LANE_SLICE f p) s (calFinish s f p r) := by
  obtain ⟨a, d, e⟩ := calFinish_eq (s := s) (f := f) (p := p) (r := r)
  have hd : SameReg (LANE_SLICE f p) s (calDrop s f p) := .same rfl
  rw [e]
  exact hd.trans runEndWords_slice

/-- A rejected run has RESULT 2, no item and no stand-in (R374, R375). -/
theorem calReject_ends {sl val : Nat} (hf : f < 16) (hp : p < 9) : calItem (calReject s f p sl val) f p = none ∧
    (calReject s f p sl val).rd (CAL_STATUS_RESULT f p) = 2 ∧ (calReject s f p sl val).on (LANE_SLICE_STAND_IN f p) = false := by
  unfold calReject
  generalize hu : calFinish (standInEnd s f p) f p 2 = u
  have hitem : calItem u f p = none := hu ▸ calFinish_calItem
  have hres : u.rd (CAL_STATUS_RESULT f p) = 2 := hu ▸ calFinish_result (by decide)
  have hoff : u.on (LANE_SLICE_STAND_IN f p) = false := by
    rw [← hu, calFinish_slice.on rfl, standInEnd_off hf hp]
  have hev (a : Nat) : eventReg (laneAt f p + a) = false := countReg_event _ (countReg_face (laneWord_ge f p a))
  refine ⟨?_, ?_, ?_⟩
  · rw [calItem_of_calQ (logEvent_calQ _ _), calItem_of_calQ (State.incSat_calQ _ _), hitem]
  · rw [logEvent_rd _ _ (hev _), State.incSat, State.rd_wr_addr _ _ _ _ (laneWord_ne_survey f p _), hres]
  · rw [logEvent_on _ _ (hev _), State.incSat, State.on_wr_addr _ _ _ _ (laneWord_ne_survey f p _), hoff]

end

end Sys2Proof.Machine

namespace Sys2Proof.Machine
open Sys2Proof Sys2Proof.Laws

set_option Elab.async false

/-! # Survey (O58): measurements, handovers and requeueing as commands (R83, R372 to R374) -/

section
variable {s : State} {f : Fin 16} {p : Fin 9} {x : CalItem} {off gain skew bw : Int}

/-- The values that a measurement gives for the slice in progress (R370, R372). -/
def measured (s : State) (f p : Nat) (x : CalItem) (off gain skew bw : Int) : SliceVal :=
  let a := appliedSlice s f p x.slice
  mergeKind x.kind { offset := a.offset + off, gain := a.gain + gain, skew := a.skew + skew, bw := a.bw + bw } a

/-- A register of a face stays when Survey's Hewer is interrupted. -/
theorem surveyIrq_reg {r i : Nat} (hr : 0x01000000 ≤ r ∨ r = SURVEY_STATUS) : SameReg r s (raiseIrq s 16 i) := by
  have hi : HW_IRQ 16 = 0x002C0018 := rfl
  have hs : HW_STATUS 16 = 0x002C0004 := rfl
  exact raiseIrq_reg s 16 i r (by rw [hi]; simp only [SURVEY_STATUS] at hr; omega) (by rw [hs]; simp only [SURVEY_STATUS] at hr; omega)

theorem laneDp_of {t : State} {f p : Nat} (h : ∀ r, 0x01000000 ≤ r → SameReg r s t) : laneDp t f p = laneDp s f p := by
  have hreg : t.reg (LANE_MAP_RX f) = s.reg (LANE_MAP_RX f) := h _ (by simp only [LANE_MAP_RX, faceAt]; omega)
  have haux : SameReg (LANE_MAP_AUX f) s t := h _ (by simp only [LANE_MAP_AUX, faceAt]; omega)
  rw [laneDp, laneDp, hreg, haux.rd rfl]

theorem appliedSlice_surveyIrq {f p sl i : Nat} : appliedSlice (raiseIrq s 16 i) f p sl = appliedSlice s f p sl := by
  have hreg (r : Nat) (hr : 0x01000000 ≤ r) : (raiseIrq s 16 i).reg r = s.reg r := surveyIrq_reg (.inl hr)
  simp only [appliedSlice, laneDp_of fun r hr => hreg r hr]
  rw [hreg _ (by simp only [SLICE_CORR_A, rxdAt, faceAt]; omega), hreg _ (by simp only [SLICE_CORR_B, rxdAt, faceAt]; omega)]

/-- A measurement of the slice in progress is taken in (R372). -/
theorem exec_sliceMeasurement (hs : s.alive = true) (hh : hewerRuns s 16 = true) (hl : s.on (LANE_ACQ_STATUS_LOCKED f p) = true)
    (hx : calItem s f p = some x) (h2 : s.rd (CAL_STATUS_STATE f p) = 2) (hn : (s.lane f p).handover = none) :
    exec (.sliceMeasurement f p off gain skew bw) s = .next (calMeasure (raiseIrq s 16 5) f p x (measured s f p x off gain skew bw)) := by
  have h2' : (raiseIrq s 16 5).rd (CAL_STATUS_STATE f p) = 2 := by rw [(surveyIrq_reg (.inl (laneWord_ge f p _))).rd rfl, h2]
  have hl' : (raiseIrq s 16 5).on (LANE_ACQ_STATUS_LOCKED f p) = true := by rw [(surveyIrq_reg (.inl (laneWord_ge f p _))).on rfl, hl]
  have hn' : ((raiseIrq s 16 5).lane f p).handover = none := by rw [(RegsOnly.refl s).raiseIrq.lane, hn]
  change execSliceMeasurement f p off gain skew bw s = _
  simp only [execSliceMeasurement, hs, hh, Bool.and_self, guardS_true, hx, h2', hl', hn', measured, appliedSlice_surveyIrq, Option.isNone_none,
    decide_true, if_true]

/-- The running item of the lane whose slice is measured. -/
theorem calItem_surveyIrq (hx : calItem s f p = some x) : calItem (raiseIrq s 16 5) f p = some x :=
  (calItem_of_calQ (RegsOnly.refl s).raiseIrq.calQ).trans hx

/-- The second measurement agrees, in range, and the lane has its stand-in: the slice is handed back (R373, R374). -/
theorem calMeasure_handBack {m v : SliceVal} (hm : x.meas = [m]) (ha : measAgree m v = true) (hr : outOfRange (measMean m v) = false)
    (hsl : x.slice < 64) (hn : noStandIn s f p = false) :
    let t := calMeasure (raiseIrq s 16 5) f p x v
    t.rd (CAL_STATUS_STATE f p) = 3 ∧ (t.lane f p).handover = some (x.slice, true) := by
  intro t
  have hu : noStandIn (raiseIrq s 16 5) f p = false :=
    (noStandIn_of (surveyIrq_reg (.inl (laneWord_ge f p _))) ((RegsOnly.refl s).raiseIrq.lane f p)).trans hn
  unfold t
  rw [calMeasure_agree hm ha]
  exact calAccept_handBack hr hsl (noStandIn_calUpd.trans hu)

/-- The second measurement disagrees: a third follows, and it is counted (R374). -/
theorem calMeasure_third {m v : SliceVal} (hx : calItem s f p = some x) (hm : x.meas = [m]) (ha : measAgree m v = false) :
    let t := calMeasure (raiseIrq s 16 5) f p x v
    calItem t f p = some { x with meas := [m, v] } ∧ t.rd SURVEY_STATUS_THIRD_RUNS = min 255 (s.rd SURVEY_STATUS_THIRD_RUNS + 1) := by
  intro t
  unfold t
  rw [calMeasure_disagree hm ha]
  refine ⟨?_, ?_⟩
  · rw [calItem_of_calQ (State.incSat_calQ _ _), calItem_noted (calItem_surveyIrq hx), hm, List.singleton_append]
  · generalize hu : calUpd (raiseIrq s 16 5) f p _ = u
    have hrd : SameReg SURVEY_STATUS s u := hu ▸ (surveyIrq_reg (.inr rfl)).calUpd
    have hlt := State.rd_lt s SURVEY_STATUS_THIRD_RUNS
    rw [State.rd_incSat_same _ _ (by simp), hrd.rd rfl, satInc]
    generalize s.rd SURVEY_STATUS_THIRD_RUNS = n at hlt ⊢
    simp only at hlt ⊢
    split <;> omega

/-- The stand-in takes the slice's phase (R83, R373 step 2). -/
def standInPlaced (s : State) (f p sl : Nat) : State :=
  corrNotice ((s.setLane f p { s.lane f p with handover := none }).wrs [(LANE_SLICE_STAND_IN f p, 1), (LANE_SLICE_RELIEF_FOR f p, sl)]) f p

/-- A handover that passes puts the stand-in in place (R83, R373). -/
theorem standInPlaced_shows {sl : Nat} : ((standInPlaced s f p sl).lane f p).handover = none ∧
    (standInPlaced s f p sl).on (LANE_SLICE_STAND_IN f p) = true ∧ (standInPlaced s f p sl).rd (LANE_SLICE_RELIEF_FOR f p) = sl % 64 := by
  unfold standInPlaced
  generalize hu : (s.setLane f p { s.lane f p with handover := none }).wrs [(LANE_SLICE_STAND_IN f p, 1), (LANE_SLICE_RELIEF_FOR f p, sl)] = u
  have hl : (u.lane f p).handover = none := by rw [← hu, State.lane_wrs, State.lane_setLane_same]
  have hon : u.on (LANE_SLICE_STAND_IN f p) = true := by
    rw [← hu, State.wrs_cons, State.wrs_cons, State.wrs_nil, State.on_wr_apart _ _ _ _ (by simp) (by simp), State.on_wr_same _ _ _ (by simp)]
    rfl
  have hfor : u.rd (LANE_SLICE_RELIEF_FOR f p) = sl % 64 := by
    rw [← hu, State.wrs_cons, State.wrs_cons, State.wrs_nil]
    exact State.rd_wr_same _ _ _ (by simp)
  have hn : SameReg (LANE_SLICE f p) u (corrNotice u f p) := SameReg.corrNotice (SameReg.same rfl) (corrReg_lane f.isLt p.isLt)
  exact ⟨by rw [(RegsOnly.refl u).corrNotice.lane, hl], by rw [hn.on rfl, hon], by rw [hn.rd rfl, hfor]⟩

/-- A run that ends without a commit: RESULT, no stand-in, and the count of failed handovers as it was (R375). -/
theorem calRunEnd_ends {r : Nat} (hx : calItem s f p = some x) (hr : r < 16) :
    (calRunEnd s f p r).rd (CAL_STATUS_RESULT f p) = r ∧ (calRunEnd s f p r).on (LANE_SLICE_STAND_IN f p) = false ∧
      ((calRunEnd s f p r).lane f p).handFails = (s.lane f p).handFails := by
  unfold calRunEnd
  generalize hu : standInEnd s f p = u
  have hoff : u.on (LANE_SLICE_STAND_IN f p) = false := hu ▸ standInEnd_off f.isLt p.isLt
  have hfails : (u.lane f p).handFails = (s.lane f p).handFails := hu ▸ standInEnd_handFails
  have hrun : u.calQ.any (CalItem.runsOn f p) = true := by rw [← hu, standInEnd_calQ, calRunning_of_calItem hx]
  extract_lets u' upd t w
  have ht : SameReg (LANE_SLICE f p) u t := .same rfl
  have hc : LANE_SLICE f p ≠ CAL_STATUS f p := by simp
  have hw : SameReg (LANE_SLICE f p) u w := ht.wrs (CAL_STATUS f p) hc
  refine (if_pos hrun).symm ▸ ⟨?_, ?_, ?_⟩
  · rw [State.rd_wr_addr _ _ _ _ (laneWord_ne_survey f p _)]
    unfold w
    rw [State.wrs_cons, State.wrs_cons, State.wrs_cons, State.wrs_nil, State.rd_wr_apart _ _ _ _ (by simp) (by simp), State.rd_wr_same _ _ _ (by simp)]
    exact Nat.mod_eq_of_lt hr
  · rw [State.on_wr_addr _ _ _ _ (laneWord_ne_survey f p _), hw.on rfl, hoff]
  · rw [State.lane_wr, ← hfails]
    exact congrArg LaneX.handFails (State.lane_wrs t _ f p)

/-- The lane waits after a failed handover, the `n`th in a row: RESULT 3 and no stand-in (R83, R373). -/
structure HeldAfterFailure (f : Fin 16) (p : Fin 9) (n : Nat) (t : State) : Prop where
  result : t.rd (CAL_STATUS_RESULT f p) = 3
  hold : (t.lane f p).calHold = true
  fails : (t.lane f p).handFails = n
  off : t.on (LANE_SLICE_STAND_IN f p) = false

theorem HeldAfterFailure.logEvent {n : Nat} {e : Ev} (h : HeldAfterFailure f p n s) : HeldAfterFailure f p n (logEvent s e) := by
  have hl : (Machine.logEvent s e).lane f p = s.lane f p := by rw [State.lane, State.lane, logEvent_lanes]
  have hev (o : Nat) : eventReg (laneAt f p + o) = false := countReg_event _ (countReg_face (laneWord_ge f p o))
  exact ⟨(logEvent_rd _ _ (hev _)).trans h.result, by rw [hl, h.hold], by rw [hl, h.fails], (logEvent_on _ _ (hev _)).trans h.off⟩

/-- A handover that fails (R83, R373). -/
theorem handoverFailed_holds {sl : Nat} (hx : calItem s f p = some x) :
    HeldAfterFailure f p ((s.lane f p).handFails + 1) (handoverFailed s f p sl) := by
  unfold handoverFailed
  obtain ⟨hres, hoff, hfails⟩ := calRunEnd_ends hx (r := 3) (by decide)
  generalize calRunEnd s f p 3 = u at hres hoff hfails
  extract_lets q u' l w ev w1
  have hw : HeldAfterFailure f p ((s.lane f p).handFails + 1) w := by
    refine ⟨?_, ?_, ?_, ?_⟩
    · rw [State.rd_wr_apart _ _ _ _ (by simp) (by simp)]
      exact hres
    · rw [State.lane_wr, State.lane_setLane_same]
    · rw [State.lane_wr, State.lane_setLane_same, ← hfails]
    · rw [State.on_wr_addr _ _ _ _ (by simp)]
      exact hoff
  clear_value w
  split
  · exact hw.logEvent.logEvent
  · exact hw.logEvent

/-- The lane is queued again: the hold ends and its item waits (R370, R373). -/
theorem calQueue_queues {kind op : Nat} (hb : calBusy s f p = false) : calBusy (calQueue s f p kind op) f p = true ∧
    (calQueue s f p kind op).rd (CAL_STATUS_STATE f p) = 1 ∧ (calQueue s f p kind op).lane f p = s.lane f p ∧
    RegsKept (fun a => a == CAL_STATUS f p) s (calQueue s f p kind op) := by
  rw [calQueue, if_neg (by rw [hb]; decide)]
  generalize hu : calPut s { f := f, p := p, kind := kind, op := op } = u
  have hbusy : calBusy u f p = true := by
    rw [← hu, calBusy, calPut]
    simp
  have hl : u.lane f p = s.lane f p := by rw [← hu]; rfl
  have hr (a : Nat) : u.reg a = s.reg a := by rw [← hu]; rfl
  refine ⟨?_, ?_, ?_, fun a ha => ?_⟩
  · rw [calBusy, State.wrs_calQ]
    exact hbusy
  · rw [State.wrs_cons, State.wrs_cons, State.wrs_nil, State.rd_wr_apart _ _ _ _ (by simp) (by simp)]
    exact State.rd_wr_same _ _ _ (by simp)
  · rw [State.lane_wrs, hl]
  · rw [State.reg_wrs_other _ _ (by simpa using ha), hr]

end
end Sys2Proof.Machine

namespace Sys2Proof.Machine
open Sys2Proof Sys2Proof.Laws

set_option Elab.async false

/-! # Survey (O58): what a commit and a sealing leave of a face's registers (R375 to R379, R411, R412) -/

/-- The channels of system memory are below four (R411). -/
theorem ddrPlace_channel (s : State) (w : Nat) : (ddrPlace s w).1 < 4 := by
  have hall : ∀ c ∈ ddrFitted s, c < 4 := fun c hc => List.mem_range.mp (List.mem_filter.mp hc).1
  simp only [ddrPlace, List.getD_eq_getElem?_getD]
  generalize w / 512 % (ddrFitted s).length = j
  cases hj : (ddrFitted s)[j]? with
  | none => decide
  | some c => exact hall c (List.mem_of_getElem? hj)

section
variable {r : Nat} {s₀ s : State} (hr : 0x01000000 ≤ r)
include hr

/-- A register below the faces is another one. -/
theorem SameReg.wrLow (h : SameReg r s₀ s) {x : Fld} {v : Nat} (hx : x.addr < 0x01000000) : SameReg r s₀ (s.wr x v) := h.wr (by omega)

theorem SameReg.wrsLow (h : SameReg r s₀ s) {l : List (Fld × Nat)} (hl : ∀ e ∈ l, e.1.addr < 0x01000000) : SameReg r s₀ (s.wrs l) :=
  (State.reg_wrs_other _ _ fun e he => by have := hl e he; omega).trans h

theorem SameReg.logged (h : SameReg r s₀ s) {e : Ev} : SameReg r s₀ (Machine.logEvent s e) := h.logEvent (countReg_event _ (countReg_face hr))

theorem SameReg.pcCount (h : SameReg r s₀ s) {b ev lane n : Nat} (hb : b < 73) : SameReg r s₀ (pcCount s b ev lane n) :=
  h.of_quiet (quiet_pcCount s b ev lane n hb) (countReg_face hr)

omit hr in
theorem SameReg.setTag (h : SameReg r s₀ s) {a i w : Nat} {t : Option WordTag} : SameReg r s₀ (s.setTag a i w t) := h.same

omit hr in
theorem SameReg.setBytes (h : SameReg r s₀ s) {a i b : Nat} {l : List Nat} : SameReg r s₀ (s.setBytes a i b l) := by
  induction l generalizing s b with
  | nil => exact h
  | cons v l ih => exact ih (h.same : SameReg r s₀ (s.setByte a i b (BitVec.ofNat 8 v)))

theorem SameReg.memPutWord (h : SameReg r s₀ s) {a i w d : Nat} : SameReg r s₀ (memPutWord s a i w d) :=
  (show SameReg r s₀ (useFlip s a i w) from .ite (h.wrLow hr (by decide)) h).setBytes.setTag

theorem SameReg.memWriteWord (h : SameReg r s₀ s) {a i w d : Nat} : SameReg r s₀ (memWriteWord s a i w d) :=
  .ite (h.memPutWord hr).same (h.memPutWord hr)

/-! ## System memory (R411): its arrays begin at 16 -/

omit hr in
theorem SameReg.surveyLost (h : SameReg r s₀ s) {a w : Nat} (ha : 16 ≤ a) : SameReg r s₀ (surveyLost s a w) := by
  unfold Machine.surveyLost
  extract_lets drop g
  rw [if_neg (by omega)]
  exact .ite (.ite h.same h) h

omit hr in
theorem SameReg.ownerAct (h : SameReg r s₀ s) {a w : Nat} {x : Region} (ha : 16 ≤ a) : SameReg r s₀ (ownerAct s a w x) := by
  unfold Machine.ownerAct
  split
  · rw [if_neg (by omega)]
    exact h
  · exact h.surveyLost ha
  · exact h.same
  · exact h

theorem SameReg.ownerNotice (h : SameReg r s₀ s) {a i w : Nat} (ha : 16 ≤ a) : SameReg r s₀ (ownerNotice s a i w) := by
  unfold Machine.ownerNotice
  split
  · exact h.logged hr
  · rename_i n hn
    have hlt : MEM_REGION1 n < 0x01000000 := by
      have := regionOf_lt hn
      simp only [MEM_REGION1]
      omega
    have hcount (u : State) (hu : SameReg r s₀ u) : SameReg r s₀ (u.incSat (MEM_REGION1_COUNT n)) := hu.wrLow hr hlt
    split
    · exact h
    · exact (SameReg.ite ((hcount _ (h.logged hr)).logged hr) (hcount _ (h.logged hr))).ownerAct ha

theorem SameReg.memErr (h : SameReg r s₀ s) {kind src a i w synd : Nat} : SameReg r s₀ (memErr s kind src a i w synd) :=
  h.wrsLow hr (by simp [MEM_ERR_INFO, MEM_ERR_ADDR])

theorem SameReg.ceEvent (h : SameReg r s₀ s) {src a i w synd : Nat} (ha : a < 20) : SameReg r s₀ (ceEvent s src a i w synd) :=
  (((h.memErr hr).wrLow hr (by simp only [MEM_ARRAY0]; omega)).pcCount hr (by decide)).logged hr

theorem SameReg.ueEvent (h : SameReg r s₀ s) {src a i w synd : Nat} (ha : a < 20) : SameReg r s₀ (ueEvent s src a i w synd) :=
  (((h.memErr hr).wrLow hr (by simp only [MEM_ARRAY0]; omega)).pcCount hr (by decide)).logged hr

theorem SameReg.memMerge (h : SameReg r s₀ s) {a i w o : Nat} {new : List Nat} (ha : 16 ≤ a ∧ a < 20) : SameReg r s₀ (memMerge s a i w o new) := by
  obtain ⟨h16, h20⟩ := ha
  conv in Machine.memMerge => delta Machine.memMerge
  split
  · exact h.memPutWord hr
  · split
    · exact h.memPutWord hr
    · exact (h.ceEvent hr h20).memPutWord hr
    · exact .ite (h.memPutWord hr).setTag (((h.memPutWord hr).setTag.ueEvent hr h20).ownerNotice hr h16)

theorem SameReg.ddrWriteLine (h : SameReg r s₀ s) {l o : Nat} {bs : List Nat} : SameReg r s₀ (ddrWriteLine s l o bs) := by
  have hc := ddrPlace_channel s (8 * l)
  unfold Machine.ddrWriteLine
  dsimp only
  refine .pcCount hr (.foldl (.ite ((h.pcCount hr (by omega)).pcCount hr (by omega)) h) fun t x _ ht => ?_) (by omega)
  split
  · exact ht.memWriteWord hr
  · split
    · exact ht.memMerge hr (by omega)
    · exact .ite ht (ht.memPutWord hr)

theorem SameReg.ddrWrite (h : SameReg r s₀ s) {k a : Nat} {bs : List Nat} : SameReg r s₀ (ddrWrite s k a bs) := by
  induction k generalizing s a bs with
  | zero => exact h
  | succ k ih => exact .ite h (ih (h.ddrWriteLine hr))

theorem SameReg.mirrorStore (h : SameReg r s₀ s) {q i : Nat} : SameReg r s₀ (mirrorStore s q i) := by
  unfold Machine.mirrorStore
  split
  · exact h
  · exact ((h.ddrWrite hr).ddrWrite hr).same

/-! ## Sealings (R359, R377) -/

theorem SameReg.sealBurn (h : SameReg r s₀ s) {x : SealRec} : SameReg r s₀ (sealBurn s x) := by
  have ho (u : State) (hu : SameReg r s₀ u) : SameReg r s₀ (otpShow u) :=
    hu.wrsLow hr (by simp [FM_SEAL, FUSE_STATUS, PLAN_COUNTER])
  exact .ite h.same ((ho _ h.same).logged hr)

theorem SameReg.reliefEval (h : SameReg r s₀ s) {f : Nat} (hne : r ≠ RELIEF_STATE f) : SameReg r s₀ (reliefEval s f) :=
  .ite ((h.wr hne).logged hr) (h.wr hne)

end

/-- A change that leaves the running item's set. -/
theorem calItem_calUpd_set {s : State} {f p : Nat} {g : CalItem → CalItem} (hg : ∀ x, (g x).f = x.f ∧ (g x).p = x.p ∧ (g x).running = x.running)
    (hset : ∀ x, (g x).set = x.set) (hn : ∀ x, calItem s f p = some x → x.set < 5) : ∀ x, calItem (calUpd s f p g) f p = some x → x.set < 5 := by
  intro x hx
  rw [calItem_calUpd hg] at hx
  obtain ⟨y, hy, rfl⟩ := Option.map_eq_some_iff.mp hx
  rw [hset]
  exact hn y hy

/-! ## The next slice (R373) and the commit (R375): LANE_SLICE stays -/

section
variable {f p : Nat} {s₀ s : State} (hf : f < 16) (hp : p < 9)
include hf hp

omit hf hp in
theorem SameReg.calFinish (h : SameReg (LANE_SLICE f p) s₀ s) {r : Nat} : SameReg (LANE_SLICE f p) s₀ (calFinish s f p r) := h.trans calFinish_slice

theorem SameReg.calCommit (h : SameReg (LANE_SLICE f p) s₀ s) {x : CalItem} (hx : x.set < 5) : SameReg (LANE_SLICE f p) s₀ (calCommit s f p x) := by
  have hr := laneWord_ge f p 0x18
  have hc := corrReg_lane (o := 0x18) hf hp
  unfold Machine.calCommit
  extract_lets +onlyGivenNames q i alone old snr oldHdr t t1 t2 t3
  have ht : SameReg (LANE_SLICE f p) s₀ t := h.foldl fun _ _ _ ht => ht.memPutWord hr
  have hset : SET_HDR q i < 0x01000000 := by
    simp only [q, i, SET_HDR, setAt]
    omega
  have ht1 : SameReg (LANE_SLICE f p) s₀ t1 := ht.wrs (SET_HDR q i) (Nat.ne_of_gt (hset.trans_le hr))
  clear_value t1
  have ht2 : SameReg (LANE_SLICE f p) s₀ t2 := ht1.same
  have ht3 : SameReg (LANE_SLICE f p) s₀ t3 := ht2.mirrorStore hr
  clear_value t3
  extract_lets l l' l'' t4
  have ht4 : SameReg (LANE_SLICE f p) s₀ t4 := (ht3.setLane.corrRecompute hc).corrNotice hc
  exact (ht4.calFinish).wrLow hr (by decide)

theorem SameReg.calCommitTry (h : SameReg (LANE_SLICE f p) s₀ s) (hn : ∀ x, calItem s f p = some x → x.set < 5) :
    SameReg (LANE_SLICE f p) s₀ (calCommitTry s f p) := by
  unfold Machine.calCommitTry
  split
  · rename_i x hx
    exact .ite (h.calCommit hf hp (hn x hx)) h
  · exact h

theorem SameReg.calSlice (h : SameReg (LANE_SLICE f p) s₀ s) (hn : ∀ x, calItem s f p = some x → x.set < 5) {sl : Nat} :
    SameReg (LANE_SLICE f p) s₀ (calSlice s f p sl) := by
  unfold Machine.calSlice
  extract_lets sealed sl' t
  have hne : LANE_SLICE f p ≠ CAL_STATUS f p := by simp
  have ht : SameReg (LANE_SLICE f p) s₀ t := h.calUpd
  have hitem : ∀ x, calItem t f p = some x → x.set < 5 := by
    unfold t
    exact calItem_calUpd_set (fun _ => ⟨rfl, rfl, rfl⟩) (fun _ => rfl) hn
  clear_value t
  exact .ite ((ht.wr hne).calCommitTry hf hp fun x hx => hitem x ((calItem_of_calQ (State.wr_calQ ..)).symm.trans hx)) (ht.setLane.wrs (CAL_STATUS f p) hne)

theorem SameReg.calNext (h : SameReg (LANE_SLICE f p) s₀ s) (hn : ∀ x, calItem s f p = some x → x.set < 5) {sl : Nat} :
    SameReg (LANE_SLICE f p) s₀ (calNext s f p sl) := h.calSlice hf hp hn

end
end Sys2Proof.Machine

namespace Sys2Proof.Machine
open Sys2Proof Sys2Proof.Laws

set_option Elab.async false

/-! # Survey (O58): hand-backs (R373, R377) -/

section
variable {s : State} {f p : Nat} {x : CalItem}

theorem acceptSlice_calQ {sl : Nat} {v : SliceVal} : (acceptSlice s f p sl v).calQ = s.calQ := by
  unfold acceptSlice
  extract_lets l t
  have ht : t.calQ = s.calQ := rfl
  clear_value t
  generalize laneDps t f p = ds
  exact ((RegsOnly.refl t).foldl fun _ _ h => h.wrs).corrNotice.calQ.trans ht

theorem sealBurn_calQ {r : SealRec} : (sealBurn s r).calQ = s.calQ := by
  unfold sealBurn
  split
  · rfl
  · rw [logEvent_calQ, otpShow, State.wrs_calQ]

theorem reliefEval_calQ : (reliefEval s f).calQ = s.calQ := by
  unfold reliefEval
  extract_lets ok t
  split
  · rw [logEvent_calQ, State.wr_calQ]
  · rw [State.wr_calQ]

theorem sliceSeal_calQ {sl : Nat} : (sliceSeal s f p sl).calQ = s.calQ := by
  unfold sliceSeal
  extract_lets q x t
  split
  · rw [logEvent_calQ, sealBurn_calQ, State.wrs_calQ]
  · rw [logEvent_calQ, sealBurn_calQ, reliefEval_calQ, State.wrs_calQ]

/-- The relief slice replaces a sealed slice, and a second one marks the lane failing (R377). -/
theorem sliceSeal_marks {sl : Nat} : (sliceSeal s f p sl).on (LANE_SLICE_REPLACED f p) = true ∧
    (s.on (LANE_SLICE_REPLACED f p) = true → (sliceSeal s f p sl).on (LANE_SLICE_FAILING f p) = true) := by
  have hr := laneWord_ge f p 0x18
  unfold sliceSeal
  extract_lets q x t
  by_cases h : s.on (LANE_SLICE_REPLACED f p) = true
  · rw [if_pos h]
    generalize hu : s.wrs [(LANE_SLICE_FAILING f p, 1), (LANE_SLICE_FAIL_SLICE f p, sl)] = u
    have hrep : u.on (LANE_SLICE_REPLACED f p) = true := by
      rw [← hu, State.wrs_cons, State.wrs_cons, State.wrs_nil, State.on_wr_apart _ _ _ _ (by simp) (by simp), State.on_wr_apart _ _ _ _ (by simp) (by simp), h]
    have hfail : u.on (LANE_SLICE_FAILING f p) = true := by
      rw [← hu, State.wrs_cons, State.wrs_cons, State.wrs_nil, State.on_wr_apart _ _ _ _ (by simp) (by simp), State.on_wr_same _ _ _ (by simp)]
      rfl
    have hk : SameReg (LANE_SLICE f p) u (logEvent (sealBurn u x) { code := 0x0344, kind := 1, index := q, a0 := q, a1 := sl }) :=
      ((SameReg.same rfl).sealBurn hr).logged hr
    exact ⟨by rw [hk.on rfl, hrep], fun _ => by rw [hk.on rfl, hfail]⟩
  · rw [if_neg h]
    have hrep : t.on (LANE_SLICE_REPLACED f p) = true := by
      unfold t
      rw [State.wrs_cons, State.wrs_cons, State.wrs_cons, State.wrs_cons, State.wrs_nil, State.on_wr_addr _ _ _ _ (by simp; omega),
        State.on_wr_apart _ _ _ _ (by simp) (by simp), State.on_wr_same _ _ _ (by simp)]
      rfl
    have hk : SameReg (LANE_SLICE f p) t (logEvent (sealBurn (reliefEval t f) x) { code := 0x0343, kind := 1, index := q, a0 := q, a1 := sl }) :=
      ((SameReg.reliefEval hr (SameReg.same rfl) (by simp; omega)).sealBurn hr).logged hr
    exact ⟨by rw [hk.on rfl, hrep], fun h' => absurd h' h⟩

/-- The slice that has its phase back has no stand-in (R373). -/
theorem handedBack_off (hf : f < 16) (hp : p < 9) (hsl : x.slice ≤ 64) (hn : ∀ y, calItem s f p = some y → y.set < 5) :
    (handedBack s f p x).on (LANE_SLICE_STAND_IN f p) = false := by
  unfold handedBack
  extract_lets v v' l t
  have hoff : t.on (LANE_SLICE_STAND_IN f p) = false := State.on_wr_same _ _ _ (by simp)
  have hq : t.calQ = s.calQ := State.wr_calQ ..
  clear_value t
  have ha : SameReg (LANE_SLICE f p) t (acceptSlice t f p x.slice v') := SameReg.acceptSlice (SameReg.same rfl) (corrReg_lane hf hp) hsl
  have hitem : ∀ y, calItem (acceptSlice t f p x.slice v') f p = some y → y.set < 5 := fun y hy =>
    hn y ((calItem_of_calQ (acceptSlice_calQ.trans hq)).symm.trans hy)
  rw [(ha.calNext hf hp hitem).on rfl, hoff]

/-- The first failure of a hand-back: the slice is measured again (R373). -/
theorem handBackFailed_first (hx : calItem s f p = some x) (hr : x.retry = false) :
    calItem (handBackFailed s f p x) f p = some { x with retry := true, meas := [] } ∧ (handBackFailed s f p x).rd (CAL_STATUS_STATE f p) = 2 := by
  unfold handBackFailed
  extract_lets t l t1 t2
  have hq : calItem t1 f p = some x := (calItem_of_calQ (logEvent_calQ _ _)).trans hx
  clear_value t1
  rw [if_neg (by rw [hr]; decide)]
  refine ⟨?_, State.rd_wr_same _ _ _ (by simp)⟩
  have e := calItem_calUpd (s := t1) (f := f) (p := p) (g := fun y => { y with retry := true, meas := [] }) fun _ => ⟨rfl, rfl, rfl⟩
  rw [calItem_of_calQ (State.wr_calQ ..), e, hq, Option.map_some]

/-- The second failure seals the slice (R377). -/
theorem handBackFailed_second (hf : f < 16) (hp : p < 9) (hr : x.retry = true) (hn : ∀ y, calItem s f p = some y → y.set < 5) :
    (handBackFailed s f p x).on (LANE_SLICE_REPLACED f p) = true ∧
      (s.on (LANE_SLICE_REPLACED f p) = true → (handBackFailed s f p x).on (LANE_SLICE_FAILING f p) = true) := by
  have hge := laneWord_ge f p 0x18
  unfold handBackFailed
  extract_lets t l t1 t2
  have hs : SameReg (LANE_SLICE f p) s t1 := ((SameReg.same rfl).logged hge).setLane
  have hq : t1.calQ = s.calQ := logEvent_calQ _ _
  clear_value t1
  have hs2 : SameReg (LANE_SLICE f p) s t2 := hs.calUpd
  have hset : ∀ y, calItem t2 f p = some y → y.set < 5 := by
    unfold t2
    exact calItem_calUpd_set (fun _ => ⟨rfl, rfl, rfl⟩) (fun _ => rfl) fun y hy => hn y ((calItem_of_calQ hq).symm.trans hy)
  clear_value t2
  rw [if_pos hr]
  obtain ⟨hrep, hfail⟩ := sliceSeal_marks (s := t2) (f := f) (p := p) (sl := x.slice)
  have hnext : SameReg (LANE_SLICE f p) (sliceSeal t2 f p x.slice) (calNext (sliceSeal t2 f p x.slice) f p x.slice) :=
    SameReg.calNext hf hp (SameReg.same rfl) fun y hy => hset y ((calItem_of_calQ sliceSeal_calQ).symm.trans hy)
  exact ⟨by rw [hnext.on rfl, hrep], fun h => by rw [hnext.on rfl, hfail (by rw [hs2.on rfl, h])]⟩

end
end Sys2Proof.Machine

namespace Sys2Proof.Machine
open Sys2Proof Sys2Proof.Laws

set_option Elab.async false

/-! # Survey (O58): FACE_PLL runs (R172, R378) -/

/-- What a FACE_PLL run shows: PLL_LOCK, CAL_STATUS of lane 0, and the queue. -/
structure PllShown (f : Nat) (lock : Bool) (w : Word) (q : List CalItem) (s : State) : Prop where
  lock : s.on (OPT_STATUS_PLL_LOCK f) = lock
  status : s.reg (CAL_STATUS f 0) = w
  calQ : s.calQ = q

section
variable {f : Nat} {lock : Bool} {w : Word} {q : List CalItem} {s t : State}

theorem PllShown.ite {c : Prop} [Decidable c] (h : PllShown f lock w q s) (k : PllShown f lock w q t) : PllShown f lock w q (if c then s else t) := by
  split
  · exact h
  · exact k

theorem PllShown.foldl {α : Type} {g : State → α → State} {l : List α} (h : PllShown f lock w q s)
    (k : ∀ t, ∀ x ∈ l, PllShown f lock w q t → PllShown f lock w q (g t x)) : PllShown f lock w q (l.foldl g s) := by
  induction l generalizing s with
  | nil => exact h
  | cons x l ih => exact ih (k s x (by simp) h) fun t y hy => k t y (by simp [hy])

theorem PllShown.wr (h : PllShown f lock w q s) {x : Fld} {v : Nat} (hx : CAL_STATUS f 0 ≠ x.addr) (hw : x.lo + x.width ≤ 32)
    (ha : x.addr = OPT_STATUS f → 25 ≤ x.lo ∨ x.lo + x.width ≤ 24) : PllShown f lock w q (s.wr x v) :=
  ⟨(State.on_wr_apart _ _ _ _ hw ha).trans h.lock, (State.reg_wr_other _ _ _ hx).trans h.status, h.calQ⟩

theorem calStatus_ne_opt (f p g : Nat) : CAL_STATUS f p ≠ OPT_STATUS g := by
  simp only [CAL_STATUS, laneAt, OPT_STATUS, faceAt]
  omega

theorem faultCeiling_wr (s : State) (f : Nat) (x : Fld) (v : Nat) : faultCeiling (s.wr x v) f = faultCeiling s f := by
  rw [faultCeiling, faultCeiling, State.wr_d2d, State.wr_refALost, State.face_wr]

theorem PllShown.pendingEval (h : PllShown f lock w q s) : PllShown f lock w q (pendingEval s f) := h.wr (calStatus_ne_opt f 0 f) (by simp) (by simp)

theorem PllShown.elsEval (hf : f < 16) (h : PllShown f lock w q s) : PllShown f lock w q (elsEval s f) := by
  unfold Machine.elsEval
  extract_lets b want t
  have hb : ELS_BANK b < 0x01000000 := by
    simp only [b, ELS_BANK]
    omega
  have ht : PllShown f lock w q t := by
    refine .ite (h.wr ?_ (by simp) fun e => ?_) h
    · exact Nat.ne_of_gt (hb.trans_le (laneWord_ge f 0 0x30))
    · simp only [OPT_STATUS, faceAt] at e
      omega
  clear_value t
  refine ht.foldl fun u i hi hu => .ite (hu.wr ?_ (by simp) (by simp)) hu
  have := List.mem_range.mp hi
  simp only [CAL_STATUS, laneAt, OPT_STATUS, faceAt]
  omega

theorem railVoltF_low {c : Nat} (hc : c < 8) : (railVoltF c).addr < 0x01000000 := by
  unfold railVoltF
  split
  · simp only [FM_RAIL]
    omega
  · simp only [FM_FACE_RAIL]
    omega

theorem PllShown.railCmd (h : PllShown f lock w q s) {c mv : Nat} (hc : c < 8) : PllShown f lock w q (railCmd s c mv) := by
  have hlow := railVoltF_low hc
  have hw : PllShown f lock w q (s.wr (railVoltF c) mv) := by
    refine h.wr (Nat.ne_of_gt (hlow.trans_le (laneWord_ge f 0 0x30))) ?_ fun e => ?_
    · unfold railVoltF
      split <;> simp
    · simp only [OPT_STATUS, faceAt] at e
      omega
  generalize hu : s.wr (railVoltF c) mv = u at hw
  rw [Machine.railCmd, hu]
  exact .ite h ⟨hw.lock, hw.status, hw.calQ⟩

theorem PllShown.faceRailApply (h : PllShown f lock w q s) {e : Nat} (he : e < 4) : PllShown f lock w q (faceRailApply s e) :=
  .ite h (h.railCmd (by omega))

/-- A command to a rail changes its VOLT field and its record alone (R454). -/
theorem faceRailApply_changes (s : State) (e : Nat) :
    faceRailApply s e = s ∨ ∃ mv x, faceRailApply s e = (s.wr (railVoltF (4 + e)) mv).setRail (4 + e) x := by
  unfold Machine.faceRailApply Machine.railCmd
  split
  · exact .inl rfl
  · split
    · exact .inl rfl
    · exact .inr ⟨_, _, rfl⟩

theorem effTarget_of {s t : State} (hc : faultCeiling t f = faultCeiling s f) (ht : t.rd (OPT_CTRL_TARGET f) = s.rd (OPT_CTRL_TARGET f))
    (hs : t.rd FM_CHIP_STATUS_STATE = s.rd FM_CHIP_STATUS_STATE) : effTarget t f = effTarget s f := by
  rw [effTarget, effTarget, hc, ht, hs]

/-- A field of a rail and a rail's record move neither a face nor its target in force. -/
theorem effTarget_rail {s : State} {y : Fld} {mv c : Nat} {x : RailX} (hy : y.addr < 0x01000000) (hc : y.addr ≠ FM_CHIP_STATUS) :
    effTarget ((s.wr y mv).setRail c x) f = effTarget s f ∧ ∀ z : Fld, 0x01000000 ≤ z.addr → ((s.wr y mv).setRail c x).rd z = s.rd z := by
  have hrd (z : Fld) (hz : z.addr ≠ y.addr) : ((s.wr y mv).setRail c x).rd z = s.rd z := State.rd_wr_addr s y z mv hz
  have hceil : faultCeiling ((s.wr y mv).setRail c x) f = faultCeiling s f := rfl
  exact ⟨effTarget_of hceil (hrd _ (by simp only [OPT_CTRL, faceAt]; omega)) (hrd _ hc.symm), fun z hz => hrd z (by omega)⟩

/-- A face's rail moves neither the face nor its target in force. -/
theorem faceRailApply_keeps {s : State} {e : Nat} (he : e < 4) : effTarget (faceRailApply s e) f = effTarget s f ∧
    ∀ z : Fld, 0x01000000 ≤ z.addr → (faceRailApply s e).rd z = s.rd z := by
  rcases faceRailApply_changes s e with h | ⟨mv, x, h⟩
  · rw [h]
    exact ⟨rfl, fun _ _ => rfl⟩
  · have hc : (railVoltF (4 + e)).addr ≠ FM_CHIP_STATUS := by
      unfold railVoltF
      split <;> simp only [FM_RAIL, FM_FACE_RAIL, FM_CHIP_STATUS] <;> omega
    rw [h]
    exact effTarget_rail (railVoltF_low (by omega)) hc

/-- A face that is in SYNTH with PLL_LOCK and a target at or above it walks up (R172): only its rail and the signs of the step change. -/
theorem PllShown.optWalk (hf : f < 16) (h : PllShown f true w q s) (hst : optState s f = 3) (ht : s.on (OPT_STATUS_TRANSIT f) = false)
    (he : 3 ≤ effTarget s f) : PllShown f true w q (optWalk s f) := by
  have hceil : ¬ faultCeiling s f < optState s f := by
    have : effTarget s f ≤ faultCeiling s f := Nat.min_le_right _ _
    omega
  have hu : PllShown f true w q (Machine.faceRailApply s (f / 4)) := h.faceRailApply (by omega)
  obtain ⟨heff, hrd⟩ := faceRailApply_keeps (s := s) (f := f) (e := f / 4) (by omega)
  have hopt (x : Fld) (hx : x.addr = OPT_STATUS f) : (Machine.faceRailApply s (f / 4)).rd x = s.rd x :=
    hrd x (by rw [hx]; simp only [OPT_STATUS, faceAt]; omega)
  unfold Machine.optWalk
  rw [if_neg hceil]
  extract_lets u' u t st stepping u2 u3 v
  have ht3 : 3 ≤ t := he.trans heff.ge
  have hst3 : st = 3 := (hopt (OPT_STATUS_STATE f) rfl).trans hst
  have hstep : stepping = false := by
    rw [← ht]
    simp only [stepping, u, u', State.on, hopt (OPT_STATUS_TRANSIT f) rfl]
  have hv : PllShown f true w q v := by
    unfold v
    rw [hst3, if_neg (by decide), if_neg (by rw [hu.lock]; decide)]
    exact .ite hu (hu.wr (calStatus_ne_opt f 0 f) (by simp) (by simp))
  rw [if_neg (c := t < st ∨ _) (by rw [hstep]; simp only [Bool.false_eq_true, and_false, or_false]; omega)]
  exact .ite h (.ite (hv.pendingEval.elsEval hf) (hu.pendingEval.elsEval hf))

/-! ## The three commands of a run -/

/-- The end of a run writes CAL_STATUS of lane 0, and no other register. -/
theorem pllFinish_reg {s : State} {r a : Nat} (ha : a ≠ CAL_STATUS f 0) : (pllFinish s f r).reg a = s.reg a := by
  unfold pllFinish
  split
  · split
    · exact (State.reg_wrs_other _ _ (by simpa using ha)).trans rfl
    · rfl
  · rfl

theorem pllFinish_ceiling {s : State} {r : Nat} : faultCeiling (pllFinish s f r) f = faultCeiling s f := by
  unfold pllFinish
  split
  · split
    · simp only [faultCeiling, State.wrs_d2d, State.wrs_refALost, State.face_wrs]
      rfl
    · rfl
  · rfl

/-- The end of a started run: RESULT, and the item is gone (R378). -/
theorem pllFinish_ends {s : State} {x : CalItem} {r : Nat} (hx : pllItem s f = some x) (hs : x.started = true) (hr : r < 16) :
    (pllFinish s f r).rd (CAL_STATUS_RESULT f 0) = r ∧ pllItem (pllFinish s f r) f = none := by
  have e : pllFinish s f r = (calDrop s f 9).wrs [(CAL_STATUS_STATE f 0, 0), (CAL_STATUS_RESULT f 0, r)] := by
    simp only [pllFinish, hx, hs, if_true]
  rw [e]
  refine ⟨?_, ?_⟩
  · rw [State.wrs_cons, State.wrs_cons, State.wrs_nil, State.rd_wr_same _ _ _ (by simp)]
    exact Nat.mod_eq_of_lt hr
  · rw [pllItem, calItem_of_calQ (State.wrs_calQ ..), calItem_calDrop]

/-- PLL_LOCK rises in a state whose run has ended: the walk of a target at or above SYNTH goes on with it (R172, R378). -/
theorem pllLocked_walks {s : State} {r : Nat} (hf : f < 16) (hst : optState s f = 3) (ht : s.on (OPT_STATUS_TRANSIT f) = false)
    (he : 3 ≤ effTarget s f) :
    PllShown f true ((pllFinish s f r).reg (CAL_STATUS f 0)) (pllFinish s f r).calQ
      (Machine.optWalk ((pllFinish s f r).wr (OPT_STATUS_PLL_LOCK f) 1) f) := by
  have hrd (x : Fld) (hx : x.addr ≠ CAL_STATUS f 0) : (pllFinish s f r).rd x = s.rd x := by rw [State.rd, State.rd, pllFinish_reg hx]
  have hceil := pllFinish_ceiling (f := f) (s := s) (r := r)
  generalize pllFinish s f r = v at hrd hceil ⊢
  have hlock : PllShown f true (v.reg (CAL_STATUS f 0)) v.calQ (v.wr (OPT_STATUS_PLL_LOCK f) 1) := by
    refine ⟨?_, State.reg_wr_other _ _ _ (calStatus_ne_opt f 0 f), State.wr_calQ ..⟩
    rw [State.on_wr_same _ _ _ (by simp)]
    rfl
  have hne : OPT_STATUS f ≠ CAL_STATUS f 0 := (calStatus_ne_opt f 0 f).symm
  refine hlock.optWalk hf ?_ ?_ ?_
  · rw [← hst, optState, optState, State.rd_wr_apart _ _ _ _ (by simp) (by simp), hrd _ hne]
  · rw [← ht, State.on, State.on, State.rd_wr_apart _ _ _ _ (by simp) (by simp), hrd _ hne]
  · have hchip : FM_CHIP_STATUS < laneAt f 0 + 0x30 := Nat.lt_of_lt_of_le (by decide) (laneWord_ge f 0 0x30)
    have hopt : FM_CHIP_STATUS ≠ OPT_STATUS f := by simp only [FM_CHIP_STATUS, OPT_STATUS, faceAt]; omega
    have hctrl : OPT_CTRL f ≠ OPT_STATUS f := by simp only [OPT_CTRL, OPT_STATUS, faceAt]; omega
    have hctrl' : OPT_CTRL f ≠ CAL_STATUS f 0 := by simp only [OPT_CTRL, CAL_STATUS, laneAt, faceAt]; omega
    refine he.trans (Nat.le_of_eq (effTarget_of ((faultCeiling_wr ..).trans hceil) ?_ ?_).symm)
    · rw [State.rd_wr_addr _ _ _ _ hctrl, hrd _ hctrl']
    · rw [State.rd_wr_addr _ _ _ _ hopt, hrd _ (Nat.ne_of_lt hchip)]

end

section
variable {s : State} {f : Fin 16} {x : CalItem}

theorem facePll_starts (hs : s.alive = true) (hp : facePresent s f = true) (h3 : optState s f = 3) (hx : pllItem s f = some x)
    (hn : x.started = false) (ht : s.on (OPT_STATUS_TRANSIT f) = false) : Completes (.facePll f) s fun t =>
      t.on (OPT_STATUS_PLL_LOCK f) = false ∧ t.rd (CAL_STATUS_STATE f 0) = 2 := by
  refine completes_guardS rfl (by simp only [hs, hp, h3, ht]; decide) ?_
  simp only [hx, hn, Bool.false_eq_true, if_false]
  generalize calUpd s f 9 _ = u
  have hne : OPT_STATUS f ≠ CAL_STATUS f 0 := (calStatus_ne_opt f 0 f).symm
  have hlock : ((u.wrs [(OPT_STATUS_PLL_LOCK f, 0), (CAL_STATUS_STATE f 0, 2)]).incMod (CAL_STATUS_RUNS f 0)).on (OPT_STATUS_PLL_LOCK f) = false := by
    rw [State.incMod, State.wrs_cons, State.wrs_cons, State.wrs_nil, State.on_wr_addr _ _ _ _ hne, State.on_wr_addr _ _ _ _ hne,
      State.on_wr_same _ _ _ (by simp)]
    rfl
  have hstate : ((u.wrs [(OPT_STATUS_PLL_LOCK f, 0), (CAL_STATUS_STATE f 0, 2)]).incMod (CAL_STATUS_RUNS f 0)).rd (CAL_STATUS_STATE f 0) = 2 := by
    rw [State.incMod, State.wrs_cons, State.wrs_cons, State.wrs_nil, State.rd_wr_apart _ _ _ _ (by simp) (by simp)]
    exact State.rd_wr_same _ _ _ (by simp)
  generalize (u.wrs _).incMod _ = v at hlock hstate ⊢
  have h := PllShown.pendingEval (s := v) ⟨hlock, rfl, rfl⟩
  exact ⟨h.lock, by rw [State.rd, h.status]; exact hstate⟩

theorem facePllDone_locks (hs : s.alive = true) (hp : facePresent s f = true) (h3 : optState s f = 3) (hl : s.on (OPT_STATUS_PLL_LOCK f) = false)
    (ht : s.on (OPT_STATUS_TRANSIT f) = false) (he : 3 ≤ effTarget s f) : Completes (.facePllDone f) s fun t =>
      t.on (OPT_STATUS_PLL_LOCK f) = true ∧ ∀ x, pllItem s f = some x → x.started = true → t.rd (CAL_STATUS_RESULT f 0) = 1 ∧ pllItem t f = none := by
  refine completes_guardS rfl (by simp only [hs, hp, h3, hl]; decide) ?_
  have h := pllLocked_walks (r := 1) f.isLt h3 ht he
  refine ⟨h.lock, fun x hx hn => ?_⟩
  obtain ⟨hres, hgone⟩ := pllFinish_ends hx hn (r := 1) (by decide)
  exact ⟨by rw [State.rd, h.status]; exact hres, by rw [pllItem, calItem_of_calQ h.calQ]; exact hgone⟩

theorem facePllTimeout_ends (hs : s.alive = true) (hp : facePresent s f = true) (h3 : optState s f = 3) (hl : s.on (OPT_STATUS_PLL_LOCK f) = false)
    (hx : pllItem s f = some x) (hn : x.started = true) : Completes (.facePllTimeout f) s fun t =>
      t.rd (CAL_STATUS_RESULT f 0) = 6 ∧ pllItem t f = none ∧ RegsKept (fun a => a == CAL_STATUS f 0) s t := by
  refine completes_guardS rfl (by simp only [hs, hp, h3, hl]; decide) ?_
  obtain ⟨hres, hgone⟩ := pllFinish_ends hx hn (r := 6) (by decide)
  exact ⟨hres, hgone, fun a ha => pllFinish_reg (by simpa using ha)⟩

end
end Sys2Proof.Machine

namespace Sys2Proof.Machine
open Sys2Proof Sys2Proof.Laws

set_option Elab.async false

/-! # Survey (O58): the commands of a lane's run, case by case -/

section
variable {s : State} {f : Fin 16} {p : Fin 9} {x : CalItem} {sl : Nat} {mean rms : Int}

/-- What ends a handover or a hand-back, by whether its comparison passes (R83, R373). -/
def handoverEnd (s : State) (f p : Nat) (x : CalItem) (sl : Nat) (passes back : Bool) : State :=
  if back then if passes then handedBack s f p x else handBackFailed s f p x
  else if passes then standInPlaced s f p sl else handoverFailed s f p sl

theorem handoverEnd_placed : handoverEnd s f p x sl true false = standInPlaced s f p sl := by simp only [handoverEnd, Bool.false_eq_true, if_false, if_true]
theorem handoverEnd_failed : handoverEnd s f p x sl false false = handoverFailed s f p sl := by simp only [handoverEnd, Bool.false_eq_true, if_false]
theorem handoverEnd_back : handoverEnd s f p x sl true true = handedBack s f p x := by simp only [handoverEnd, if_true]
theorem handoverEnd_backFailed : handoverEnd s f p x sl false true = handBackFailed s f p x := by
  simp only [handoverEnd, Bool.false_eq_true, if_false, if_true]

/-- A comparison ends a handover of the lane's run (R83). -/
theorem handoverCompareDone_completes {passes back : Bool} {P : State → Prop} (hs : s.alive = true) (hh : hewerRuns s 16 = true)
    (hl : s.on (LANE_ACQ_STATUS_LOCKED f p) = true) (hx : calItem s f p = some x) (hb : (s.lane f p).handover = some (sl, back))
    (hp : handoverPasses mean rms = passes) {u : State} (hu : handoverEnd s f p x sl passes back = u) (hP : P u) :
    Completes (.handoverCompareDone f p mean rms) s P := by
  subst hu
  refine completes_guardS rfl (by simp only [hs, hl, hh]; decide) ?_
  simp only [hx, hb, hp]
  cases passes <;> cases back <;> simpa only [handoverEnd, standInPlaced, if_true, Bool.false_eq_true, if_false] using hP

/-- The hold is over: the lane is queued again (R373). -/
theorem calRequeue_queues (hs : s.alive = true) (hc : (s.lane f p).calHold = true) (hb : calBusy s f p = false) :
    Completes (.calRequeue f p) s fun t => (t.lane f p).calHold = false ∧ calBusy t f p = true ∧ t.rd (CAL_STATUS_STATE f p) = 1 ∧
      RegsKept (fun a => a == CAL_STATUS f p) s t := by
  refine completes_guardS rfl (by simp only [hs, hc]; decide) ?_
  generalize hu : s.setLane f p _ = u
  have hl : (u.lane f p).calHold = false := by rw [← hu, State.lane_setLane_same]
  have hbusy : calBusy u f p = false := by rw [← hu]; exact hb
  have hregs (a : Nat) : u.reg a = s.reg a := by rw [← hu]; rfl
  rw [if_neg (by rw [hbusy]; decide)]
  obtain ⟨hq, hst, hlane, hk⟩ := calQueue_queues (kind := 1) (op := 0) hbusy
  exact ⟨by rw [hlane, hl], hq, hst, fun a ha => (hk a ha).trans (hregs a)⟩

end

section
variable {s : State} {f : Fin 16} {p : Fin 9} {x : CalItem} {off gain skew bw : Int}

/-- A measurement taken in completes with what it makes of the run (R372). -/
theorem sliceMeasurement_completes {P : State → Prop} (hs : s.alive = true) (hh : hewerRuns s 16 = true)
    (hl : s.on (LANE_ACQ_STATUS_LOCKED f p) = true) (hx : calItem s f p = some x) (h2 : s.rd (CAL_STATUS_STATE f p) = 2)
    (hn : (s.lane f p).handover = none) {v : SliceVal} (hv : measured s f p x off gain skew bw = v)
    (hP : P (calMeasure (raiseIrq s 16 5) f p x v)) : Completes (.sliceMeasurement f p off gain skew bw) s P :=
  ⟨_, exec_sliceMeasurement hs hh hl hx h2 hn, hv ▸ hP⟩

end
end Sys2Proof.Machine

namespace Sys2Proof.Machine
open Sys2Proof Sys2Proof.Laws

set_option Elab.async false

/-! # Survey (O58): writes of the sets (R379) -/

/-! ## Where the words of a set lie -/

section
variable {q i w : Nat} (hq : q < 144) (hi : i < 5)
include hq hi

/-- A slice word of a set is a cell of array 0x09. -/
theorem memPlace_setWord (hw : w < 130) : memPlace (setAddr q i w) = some (.cell 9 0 (q * 0x1400 + i * 0x400 + 4 * w)) := by
  have hrange : 0x201000 ≤ 0x201000 + q * 0x1400 + i * 0x400 + 4 * w ∧ 0x201000 + q * 0x1400 + i * 0x400 + 4 * w < 0x2B5000 := by omega
  unfold memPlace setAddr
  rw [if_pos hw, if_neg (by omega), if_neg (by omega), if_pos hrange]
  have ho : (0x201000 + q * 0x1400 + i * 0x400 + 4 * w - 0x201000) = q * 0x1400 + i * 0x400 + 4 * w := by omega
  have h1 : (q * 0x1400 + i * 0x400 + 4 * w) / 0x1400 = q := by omega
  have h2 : (q * 0x1400 + i * 0x400 + 4 * w) % 0x1400 / 0x400 = i := by omega
  have h3 : (q * 0x1400 + i * 0x400 + 4 * w) % 0x400 / 4 = w := by omega
  simp only [ho, h1, h2, h3, hw, if_true]

/-- No word of a set is a Hewer's control. -/
theorem hwCtrlOf_setAddr (hw : w < 131) : hwCtrlOf (setAddr q i w) = none := by
  have hlt : setAddr q i w < 0x2C0000 ∧ 0x201000 ≤ setAddr q i w := by
    unfold setAddr
    split
    · omega
    · simp only [SET_HDR, setAt]
      omega
  simp only [hwCtrlOf, List.find?_eq_none, List.mem_range, beq_iff_eq]
  intro n hn
  unfold hwAt
  split
  · simp only [faceAt]
    omega
  · split <;> omega

/-- A write of a slice word is Survey's. -/
theorem blockWrite_setWord {s : State} {v : Word} (hw : w < 130) (hb : bistHides s (setAddr q i w) = false) :
    blockWrite s .direct (setAddr q i w) v.toNat = setWriteEff s q i w v := by
  have hne : setAddr q i w ≠ SNAP_SEL ∧ setAddr q i w ≠ TALLY_SUB := by
    simp only [setAddr, hw, if_true, SNAP_SEL, TALLY_SUB]
    omega
  have h1 : (q * 0x1400 + i * 0x400 + 4 * w) / 0x1400 = q := by omega
  have h2 : (q * 0x1400 + i * 0x400 + 4 * w) % 0x1400 / 0x400 = i := by omega
  have h3 : (q * 0x1400 + i * 0x400 + 4 * w) % 0x400 / 4 = w := by omega
  unfold blockWrite
  rw [if_neg (by rw [hb]; decide), if_neg hne.1, if_neg hne.2, memPlace_setWord hq hi hw]
  simp only [memPlaceWrite, h1, h2, h3, BitVec.ofNat_toNat, BitVec.setWidth_eq]

end

/-! ## A word is written -/

section
variable {s : State}

/-- Half a word of a set that reads without an uncorrectable error is merged into it, after counts and events that leave the rest. -/
theorem memWriteIn_set {b x : Nat} (hb : b < 2 ^ 24) (hue : ∀ g, s.tag 9 0 (b / 8) = some g → (eccOf 9 g).1 ≠ .ue) :
    ∃ u old, ErrorsOnly s u ∧ memWriteIn s 9 0 b (leBytes 4 x) = memPutWord u 9 0 (b / 8) (mergeBytes 8 old (b % 8) (leBytes 4 x)) := by
  have hhalf : ¬(b % memWidth 9 = 0 ∧ (leBytes 4 x).length = memWidth 9) := by simp [length_leBytes, memWidth]
  have hs : ErrorsOnly s (pcCount s 72 3 15 1) := (ErrorsOnly.refl s).pcCount (by decide)
  have htag : (pcCount s 72 3 15 1).tag 9 0 (b / 8) = s.tag 9 0 (b / 8) :=
    (quiet_pcCount s 72 3 15 1 (by decide)).tags 9 0 (b / 8) (by decide) (by omega) (by decide)
  rw [memWriteIn, if_neg hhalf, memPartial]
  generalize pcCount s 72 3 15 1 = r at hs htag
  change ∃ u old, ErrorsOnly s u ∧ memMerge r 9 0 (b / 8) (b % 8) (leBytes 4 x) = _
  unfold memMerge
  extract_lets width t1 y t2
  rw [htag]
  split
  · exact ⟨r, _, hs, rfl⟩
  · rename_i g hg
    have := hue g hg
    split
    · exact ⟨r, _, hs, rfl⟩
    · exact ⟨_, _, hs.ceEvent (a := 9) (by decide), rfl⟩
    · rename_i he
      rw [he] at this
      exact absurd rfl this

/-- Bytes that are the digits of a number are its little-endian form. -/
theorem getBytes_of_digits {a i b n x : Nat} (h : ∀ j < n, s.byte a i (b + j) = BitVec.ofNat 8 (x / 256 ^ j)) : s.getBytes a i b n = leBytes n x := by
  refine List.ext_getElem (by simp [State.getBytes, length_leBytes]) fun j hj hj' => ?_
  rw [length_leBytes] at hj'
  have hd := getD_leBytes hj' x
  rw [List.getD_eq_getElem _ _ (by rwa [length_leBytes])] at hd
  simp only [State.getBytes, List.getElem_map, List.getElem_range, h j hj', hd, BitVec.toNat_ofNat]

/-- The four bytes of a slice word that takes a value, and nothing waits to run. -/
theorem memWriteIn_set_bytes {b x : Nat} (h4 : b % 4 = 0) (hb : b < 2 ^ 24) (hue : ∀ g, s.tag 9 0 (b / 8) = some g → (eccOf 9 g).1 ≠ .ue) :
    (memWriteIn s 9 0 b (leBytes 4 x)).getBytes 9 0 b 4 = leBytes 4 x ∧ (memWriteIn s 9 0 b (leBytes 4 x)).defer = s.defer := by
  obtain ⟨u, old, hu, e⟩ := memWriteIn_set (x := x) hb hue
  rw [e]
  refine ⟨?_, ((StageKept.refl u).memPutWord).defer.trans hu.defer⟩
  have hbyte (j : Nat) (hj : j < 4) :
      (memPutWord u 9 0 (b / 8) (mergeBytes 8 old (b % 8) (leBytes 4 x))).byte 9 0 (b + j) = BitVec.ofNat 8 (x / 256 ^ j) := by
    have hplace : b + j = b / 8 * memWidth 9 + (b % 8 + j) := by simp [memWidth]; omega
    rw [hplace, byte_memPutWord u (by simp [memWidth]; omega) (by decide) (by simp [memWidth]; omega),
      ← ofNat_byte_mod, mergeBytes_digit (by rw [length_leBytes]; exact hj) (by omega), getD_leBytes hj, Nat.mod_mod, ofNat_byte_mod]
  exact getBytes_of_digits hbyte

end

/-! ## The header's entry in the register table -/

/-- What dimensions of a register reach beyond its base at most. -/
def dimSpan (ds : List (Nat × Nat)) : Nat := (ds.map fun x => x.1 * x.2).sum

theorem splitIdx_le {ds : List (Nat × Nat)} {off : Nat} {idx : List Nat} (h : splitIdx ds off = some idx) : off ≤ dimSpan ds := by
  induction ds generalizing off idx with
  | nil =>
    cases off with
    | zero => exact Nat.zero_le _
    | succ n => cases h
  | cons x ds ih =>
    obtain ⟨c, st⟩ := x
    rw [splitIdx] at h
    split at h
    · rename_i hc
      obtain ⟨r, hr, -⟩ := Option.map_eq_some_iff.mp h
      have hrest := ih hr
      have hi : off / st * st ≤ c * st := Nat.mul_le_mul_right _ hc.le
      have he := Nat.div_add_mod' off st
      simp only [dimSpan, List.map_cons, List.sum_cons] at hrest ⊢
      omega
    · cases h

/-- A base and dimensions that reach nowhere near the headers of the sets. -/
def apartFromSets (base : Nat) (ds : List (Nat × Nat)) : Bool := decide (0x2B5000 ≤ base) || decide (base + dimSpan ds < 0x201300)

section
variable {a : Nat} (ha : 0x201300 ≤ a ∧ a < 0x2B5000)
include ha

theorem splitIdx_apart {b : Nat} {ds : List (Nat × Nat)} (h : apartFromSets b ds = true) : (if b ≤ a then splitIdx ds (a - b) else none) = none := by
  simp only [apartFromSets, Bool.or_eq_true, decide_eq_true_eq] at h
  split
  · rw [Option.eq_none_iff_forall_ne_some]
    intro idx he
    have := splitIdx_le he
    omega
  · rfl

theorem findDesc_apart {l r : List RegDesc} (h : ∀ d ∈ l, apartFromSets d.base d.dims = true) : findDesc a (l ++ r) = findDesc a r := by
  induction l with
  | nil => rfl
  | cons d l ih =>
    have hd : d.at? a = none := by
      have := splitIdx_apart ha (h d (by simp))
      unfold RegDesc.at?
      split at this
      · rw [if_pos ‹_›, this, Option.map_none]
      · rw [if_neg ‹_›]
    rw [List.cons_append, findDesc, hd]
    exact ih fun x hx => h x (by simp [hx])

theorem ctrOfLo_apart {n : Nat} {l : List (Nat × List (Nat × Nat))} (h : ∀ d ∈ l, apartFromSets d.1 d.2 = true) : ctrOfLo.go a n l = none := by
  induction l generalizing n with
  | nil => rfl
  | cons d l ih =>
    rw [ctrOfLo.go, splitIdx_apart ha (h d (by simp))]
    exact ih fun x hx => h x (by simp [hx])

end

/-- The header of a set: VALID, RATE_CLASS, TEMP, AGE and GEN (14, registers). -/
def setHdrDesc : RegDesc :=
  ⟨.SET_HDR, 0x201300, [], [(144, 0x1400), (5, 0x400)], [⟨31, 1, .rw, 0x0⟩, ⟨30, 1, .rw, 0x0⟩, ⟨16, 12, .rw, 0x0⟩, ⟨8, 8, .ro, 0x0⟩, ⟨0, 8, .ro, 0x0⟩]⟩

theorem regDescs_setHdr : regDescs = regDescs.take 191 ++ setHdrDesc :: regDescs.drop 192 := by decide +kernel

theorem setHdr_at {q i : Nat} (hq : q < 144) (hi : i < 5) : setHdrDesc.at? (SET_HDR q i) = some [q, i] := by
  have ho : 0x00201000 + q * 0x1400 + i * 0x400 + 0x300 - 0x201300 = q * 0x1400 + i * 0x400 := by omega
  have h1 : (q * 0x1400 + i * 0x400) / 0x1400 = q := by omega
  have h2 : (q * 0x1400 + i * 0x400) % 0x1400 = i * 0x400 := by omega
  have hle : 0x201300 ≤ 0x00201000 + q * 0x1400 + i * 0x400 + 0x300 := by omega
  simp only [RegDesc.at?, setHdrDesc, SET_HDR, setAt, hle, if_true, ho, splitIdx, h1, h2, hq, hi, Nat.mul_div_cancel, Nat.mul_mod_left, Nat.zero_lt_succ,
    Option.map_some, List.nil_append]

/-- A header is the plain register of its set. -/
theorem plainAt_setHdr {q i : Nat} (hq : q < 144) (hi : i < 5) : PlainAt (SET_HDR q i) setHdrDesc [q, i] where
  desc := by
    have ha : 0x201300 ≤ SET_HDR q i ∧ SET_HDR q i < 0x2B5000 := by simp only [SET_HDR, setAt]; omega
    rw [descOf, regDescs_setHdr, findDesc_apart ha (by decide +kernel), findDesc, setHdr_at hq hi]
  place := by
    have ha : 0x201000 ≤ SET_HDR q i ∧ SET_HDR q i < 0x2B5000 := by simp only [SET_HDR, setAt]; omega
    have hw : ¬ (SET_HDR q i - 0x201000) % 0x400 / 4 < 130 := by simp only [SET_HDR, setAt]; omega
    rw [memPlace, if_neg (by omega), if_neg (by omega), if_pos ha]
    exact if_neg hw
  ctr := by
    have ha : 0x201300 ≤ SET_HDR q i / 8 * 8 ∧ SET_HDR q i / 8 * 8 < 0x2B5000 := by simp only [SET_HDR, setAt]; omega
    have hnone : ctrOfLo (SET_HDR q i / 8 * 8) = none := ctrOfLo_apart ha (by decide +kernel)
    rw [ctrLo?, hnone]
    rfl
  hewer := hwCtrlOf_setAddr (w := 130) hq hi (by decide)
  sel := by
    simp only [SET_HDR, setAt, SNAP_SEL, TALLY_SUB]
    omega

/-! ## The header is written (R379) -/

section
variable {s : State} {q i : Nat}

theorem regEffect_setHdr {a v : Nat} : regEffect s true setHdrDesc [q, i] a v = setWriteEff s q i 130 (BitVec.ofNat 32 v) := by
  simp [regEffect, rejects, writeLine, writeHost, writeCore, setHdrDesc]

/-- A set of a lane with an item takes nothing, nor does a valid one take slice words (R379). -/
theorem setWriteEff_busy {w : Nat} {v : Word} (h : (calItem s (q / 9) (q % 9)).isSome = true ∨ (w < 130 ∧ s.on (SET_HDR_VALID q i) = true)) :
    setWriteEff s q i w v = (s, stBusy) := by
  unfold setWriteEff
  extract_lets f p
  rcases h with h | ⟨hw, hv⟩
  · exact if_pos h
  · rw [if_pos hw, if_pos hv, ite_self]

/-- A slice word of a set that is not valid, on a lane without an item (R379). -/
theorem setWriteEff_word {w : Nat} {v : Word} (hn : calItem s (q / 9) (q % 9) = none) (hw : w < 130) (hv : s.on (SET_HDR_VALID q i) = false) :
    setWriteEff s q i w v = (memWriteIn s 9 0 (q * 0x1400 + i * 0x400 + 4 * w) (leBytes 4 v.toNat), stOk) := by
  unfold setWriteEff
  extract_lets f p
  rw [if_neg (by rw [hn]; decide), if_pos hw, if_neg (by rw [hv]; decide)]

/-- A header written on a lane without an item (R379). -/
theorem setWriteEff_header {v : Word} (hq : q < 144) (hi : i < 5) (hn : calItem s (q / 9) (q % 9) = none) :
    ∃ t, setWriteEff s q i 130 v = (t, stOk) ∧ t.defer = s.defer ∧ t.on (SET_HDR_VALID q i) = nbit v.toNat 31 ∧
      t.rd (SET_HDR_TEMP q i) = v.toNat / 2 ^ 16 % 2 ^ 12 := by
  have hc : corrReg (q / 9) (SET_HDR q i) = false := corrReg_set (by omega) hq hi
  unfold setWriteEff
  extract_lets f p valid t u
  have ht : t.defer = s.defer ∧ t.on (SET_HDR_VALID q i) = nbit v.toNat 31 ∧ t.rd (SET_HDR_TEMP q i) = v.toNat / 2 ^ 16 % 2 ^ 12 := by
    unfold t
    refine ⟨State.wrs_defer .., ?_, ?_⟩
    · rw [State.wrs_cons, State.wrs_cons, State.wrs_cons, State.wrs_nil, State.on_wr_apart _ _ _ _ (by simp) (by simp),
        State.on_wr_apart _ _ _ _ (by simp) (by simp), State.on_wr_same _ _ _ (by simp)]
      simp only [valid, fieldGet, nbit, pow_one, Nat.mod_mod]
    · rw [State.wrs_cons, State.wrs_cons, State.wrs_cons, State.wrs_nil, State.rd_wr_same _ _ _ (by simp)]
      simp only [fieldGet, Nat.mod_mod]
  clear_value t
  have hu : u.defer = t.defer ∧ SameReg (SET_HDR q i) t u := by
    unfold u
    split
    · exact ⟨rfl, .same rfl⟩
    · exact ⟨rfl, .same rfl⟩
  clear_value u
  obtain ⟨hdefer, hon, hrd⟩ := ht
  have hk : SameReg (SET_HDR q i) t (corrNotice (corrRecompute u f p) f p) := (hu.2.corrRecompute hc).corrNotice hc
  have hd : (corrNotice (corrRecompute u f p) f p).defer = u.defer := (RegsOnly.refl _).corrRestore.corrNotice.defer
  refine ⟨_, ?_, (hd.trans hu.1).trans hdefer, (hk.on rfl).trans hon, (hk.rd rfl).trans hrd⟩
  rw [if_neg (by rw [hn]; decide), if_neg (by decide)]

end

/-! ## The command (R379) -/

section
variable {s : State} {q : Fin 144} {i : Fin 5} {w : Fin 131} {v : Word}

theorem setAddr_aligned (q i w : Nat) : setAddr q i w % 4 = 0 := by
  unfold setAddr
  split
  · omega
  · simp only [SET_HDR, setAt]
    omega

/-- A word of a set that reaches Survey: what the set makes of it. -/
theorem exec_surveySetWrite {t : State} {st : Nat} (hr : Reaches s (setAddr q i w)) (e : setWriteEff (directStart s) q i w v = (t, st)) (hd : t.defer = []) :
    exec (.surveySetWrite q i w v) s = .next (written t st) := by
  change regWriteOut s (setAddr q i w) v.toNat = _
  refine regWriteOut_done hr (setAddr_aligned _ _ _) (hwCtrlOf_setAddr q.isLt i.isLt w.isLt) ?_ hd
  rw [BitVec.ofNat_toNat, BitVec.setWidth_eq]
  have hb : bistHides (directStart s) (setAddr q i w) = false := (directStart_bistHides s _).trans hr.2.2
  by_cases hw : w.val < 130
  · rw [blockWrite_setWord q.isLt i.isLt hw hb, e]
  · have h130 : w.val = 130 := by omega
    have ha : setAddr q i w = SET_HDR q i := if_neg hw
    rw [ha] at hb ⊢
    rw [blockWrite_plain (plainAt_setHdr q.isLt i.isLt) hb, regEffect_setHdr, BitVec.ofNat_toNat, BitVec.setWidth_eq, ← h130, e]

theorem directStart_calItem {f p : Nat} : calItem (directStart s) f p = calItem s f p := calItem_of_calQ (by rw [directStart_rest])

theorem directStart_on (x : Fld) : (directStart s).on x = s.on x := by simp only [State.on, directStart_rd]

/-- BUSY while an item runs, or for a slice word of a valid set (R379). -/
theorem surveySetWrite_busy (hr : Reaches s (setAddr q i w))
    (h : (calItem s (q / 9) (q % 9)).isSome = true ∨ (w.val < 130 ∧ s.on (SET_HDR_VALID q i) = true)) :
    Completes (.surveySetWrite q i w v) s fun t => t.busStatus = stBusy ∧ t.bytes = s.bytes := by
  have e : setWriteEff (directStart s) q i w v = (directStart s, stBusy) := setWriteEff_busy (by rw [directStart_calItem, directStart_on]; exact h)
  refine ⟨_, exec_surveySetWrite hr e (directStart_stage s).2.1, rfl, ?_⟩
  rw [written_bytes, directStart_rest]

/-- A slice word is taken (R379). -/
theorem surveySetWrite_word (hr : Reaches s (setAddr q i w)) (hn : calItem s (q / 9) (q % 9) = none) (hw : w.val < 130)
    (hv : s.on (SET_HDR_VALID q i) = false)
    (hue : ∀ g, s.tag 9 0 ((q.val * 0x1400 + i.val * 0x400 + 4 * w.val) / 8) = some g → (eccOf 9 g).1 ≠ .ue) :
    Completes (.surveySetWrite q i w v) s fun t => t.busStatus = stOk ∧
      t.getBytes 9 0 (q.val * 0x1400 + i.val * 0x400 + 4 * w.val) 4 = leBytes 4 v.toNat := by
  have e := setWriteEff_word (v := v) (directStart_calItem.trans hn) hw ((directStart_on _).trans hv)
  have htag (n : Nat) : (directStart s).tag 9 0 n = s.tag 9 0 n := by
    rw [directStart_rest]
    rfl
  obtain ⟨hbytes, hdefer⟩ := memWriteIn_set_bytes (s := directStart s) (x := v.toNat) (b := q.val * 0x1400 + i.val * 0x400 + 4 * w.val) (by omega) (by omega)
    fun g hg => hue g ((htag _).symm.trans hg)
  exact ⟨_, exec_surveySetWrite hr e (hdefer.trans (directStart_stage s).2.1), rfl, hbytes⟩

/-- The header is taken (R379). -/
theorem surveySetWrite_header (hr : Reaches s (setAddr q i w)) (hn : calItem s (q / 9) (q % 9) = none) (hw : w.val = 130) :
    Completes (.surveySetWrite q i w v) s fun t => t.busStatus = stOk ∧ t.on (SET_HDR_VALID q i) = nbit v.toNat 31 ∧
      t.rd (SET_HDR_TEMP q i) = v.toNat / 2 ^ 16 % 2 ^ 12 := by
  obtain ⟨t, e, hd, hon, hrd⟩ := setWriteEff_header (v := v) q.isLt i.isLt (directStart_calItem.trans hn)
  rw [← hw] at e
  exact ⟨_, exec_surveySetWrite hr e (hd.trans (directStart_stage s).2.1), rfl, hon, hrd⟩

end
end Sys2Proof.Machine

namespace Sys2Proof.Machine
open Sys2Proof Sys2Proof.Laws

set_option Elab.async false

/-! # Survey runs (O58) -/

/-- The sets of the items that Survey holds exist (R371). -/
theorem NamesWf.itemSet {s : State} (w : NamesWf s) {f p : Nat} {x : CalItem} (hx : calItem s f p = some x) : x.set < 5 := by
  obtain ⟨-, -, -, hset, -⟩ := w.items (List.mem_of_find?_eq_some hx)
  exact hset

/-- The slice under trim exists (R76). -/
theorem NamesWf.itemSlice {s : State} (w : NamesWf s) {f p : Nat} {x : CalItem} (hx : calItem s f p = some x) : x.slice ≤ 64 := by
  obtain ⟨-, -, hsl, -⟩ := w.items (List.mem_of_find?_eq_some hx)
  exact hsl

section
variable {s : State} {f : Fin 16} {p : Fin 9} {x : CalItem} (hs : s.alive = true) (hh : hewerRuns s 16 = true)
  (hl : s.on (LANE_ACQ_STATUS_LOCKED f p) = true) (hx : calItem s f p = some x)
include hs hh hl hx

/-- What the first, second and third measurement of a slice lead to (R372 to R374). -/
theorem sliceMeasurement_outcomes {off gain skew bw : Int} (h2 : s.rd (CAL_STATUS_STATE f p) = 2) (hn : (s.lane f p).handover = none) {v : SliceVal}
    (hv : measured s f p x off gain skew bw = v) :
    (x.meas = [] → Completes (.sliceMeasurement f p off gain skew bw) s fun t => calItem t f p = some { x with meas := [v] }) ∧
    (∀ m, x.meas = [m] → measAgree m v = true → outOfRange (measMean m v) = false → x.slice < 64 → noStandIn s f p = false →
      Completes (.sliceMeasurement f p off gain skew bw) s fun t => t.rd (CAL_STATUS_STATE f p) = 3 ∧ (t.lane f p).handover = some (x.slice, true)) ∧
    (∀ m, x.meas = [m] → measAgree m v = false → Completes (.sliceMeasurement f p off gain skew bw) s fun t =>
      calItem t f p = some { x with meas := [m, v] } ∧ t.rd SURVEY_STATUS_THIRD_RUNS = min 255 (s.rd SURVEY_STATUS_THIRD_RUNS + 1)) ∧
    (∀ m m', x.meas = [m, m'] → measPair m m' v = none → Completes (.sliceMeasurement f p off gain skew bw) s fun t =>
      calItem t f p = none ∧ t.rd (CAL_STATUS_RESULT f p) = 2 ∧ t.on (LANE_SLICE_STAND_IN f p) = false) := by
  refine ⟨fun hm => ?_, fun m hm ha hr hsl hst => ?_, fun m hm ha => ?_, fun m m' hm ha => ?_⟩
  · refine sliceMeasurement_completes hs hh hl hx h2 hn hv ?_
    rw [calMeasure_first hm, calItem_noted (calItem_surveyIrq hx), hm, List.nil_append]
  · exact sliceMeasurement_completes hs hh hl hx h2 hn hv (calMeasure_handBack hm ha hr hsl hst)
  · exact sliceMeasurement_completes hs hh hl hx h2 hn hv (calMeasure_third hx hm ha)
  · refine sliceMeasurement_completes hs hh hl hx h2 hn hv ?_
    rw [calMeasure_reject hm ha]
    exact calReject_ends f.isLt p.isLt

/-- What ends a handover (R83, R373 step 2). -/
theorem handover_outcomes {sl : Nat} {mean rms : Int} (hb : (s.lane f p).handover = some (sl, false)) :
    (handoverPasses mean rms = true → Completes (.handoverCompareDone f p mean rms) s fun t => (t.lane f p).handover = none ∧
      t.on (LANE_SLICE_STAND_IN f p) = true ∧ t.rd (LANE_SLICE_RELIEF_FOR f p) = sl % 64) ∧
    (handoverPasses mean rms = false → Completes (.handoverCompareDone f p mean rms) s fun t => t.rd (CAL_STATUS_RESULT f p) = 3 ∧
      (t.lane f p).calHold = true ∧ (t.lane f p).handFails = (s.lane f p).handFails + 1 ∧ t.on (LANE_SLICE_STAND_IN f p) = false) := by
  refine ⟨fun hp => handoverCompareDone_completes hs hh hl hx hb hp handoverEnd_placed standInPlaced_shows, fun hp => ?_⟩
  obtain ⟨hres, hhold, hfails, hoff⟩ := handoverFailed_holds (sl := sl) hx
  exact handoverCompareDone_completes hs hh hl hx hb hp handoverEnd_failed ⟨hres, hhold, hfails, hoff⟩

/-- What ends a hand-back (R373 step 4, R377). -/
theorem handBack_outcomes {sl : Nat} {mean rms : Int} (hw : NamesWf s) (hb : (s.lane f p).handover = some (sl, true)) :
    (handoverPasses mean rms = true → Completes (.handoverCompareDone f p mean rms) s fun t => t.on (LANE_SLICE_STAND_IN f p) = false) ∧
    (handoverPasses mean rms = false → x.retry = false → Completes (.handoverCompareDone f p mean rms) s fun t =>
      calItem t f p = some { x with retry := true, meas := [] } ∧ t.rd (CAL_STATUS_STATE f p) = 2) ∧
    (handoverPasses mean rms = false → x.retry = true → Completes (.handoverCompareDone f p mean rms) s fun t =>
      t.on (LANE_SLICE_REPLACED f p) = true ∧ (s.on (LANE_SLICE_REPLACED f p) = true → t.on (LANE_SLICE_FAILING f p) = true)) := by
  have hset : ∀ y, calItem s f p = some y → y.set < 5 := fun _ => hw.itemSet
  exact ⟨fun hp => handoverCompareDone_completes hs hh hl hx hb hp handoverEnd_back (handedBack_off f.isLt p.isLt (hw.itemSlice hx) hset),
    fun hp hr => handoverCompareDone_completes hs hh hl hx hb hp handoverEnd_backFailed (handBackFailed_first hx hr),
    fun hp hr => handoverCompareDone_completes hs hh hl hx hb hp handoverEnd_backFailed (handBackFailed_second f.isLt p.isLt hr hset)⟩

end

/-- Settles O58: each command of a run ends in one of Survey's steps, whose lemma says what it shows; a set's word goes to Survey. -/
theorem surveyRuns : Obligations.SurveyRuns := by
  unfold Obligations.SurveyRuns
  intro f p s hs
  refine ⟨fun x hh hl hx => ⟨fun off gain skew bw h2 hn => sliceMeasurement_outcomes hs hh hl hx h2 hn rfl,
      fun sl mean rms hb => handover_outcomes hs hh hl hx hb, fun sl mean rms hw hb => handBack_outcomes hs hh hl hx hw hb⟩,
    calRequeue_queues hs,
    fun hp h3 => ⟨fun x hx hn ht => facePll_starts hs hp h3 hx hn ht, fun hl ht he => facePllDone_locks hs hp h3 hl ht he,
      fun hl x hx hn => facePllTimeout_ends hs hp h3 hl hx hn⟩, ?_⟩
  intro i w v q hr
  have hf : q.val / 9 = f.val := by simp only [q]; omega
  have hp : q.val % 9 = p.val := by simp only [q]; omega
  have hitem : calItem s (q / 9) (q % 9) = calItem s f p := by rw [hf, hp]
  exact ⟨fun h => surveySetWrite_busy hr (by rw [hitem]; exact h), fun hn => surveySetWrite_word hr (hitem.trans hn),
    fun hn => surveySetWrite_header hr (hitem.trans hn)⟩

end Sys2Proof.Machine
